-- ==== Sys2Proof/Word.lean ====
section
/-! DEFINITION. The plain value types of the model: bytes, register words, addresses, and sparse tables. -/
namespace Sys2Proof

/-- One byte of memory. -/
abbrev Byte := BitVec 8
/-- One 32-bit register word (R14). -/
abbrev Word := BitVec 32
/-- A 64-bit register or counter (R14, R603). -/
abbrev DWord := BitVec 64
/-- A 40-bit local address (R30). -/
abbrev Addr := BitVec 40
/-- A 56-bit global address: the 16-bit device ID above a local address (00 worked example of R16). -/
abbrev GAddr := BitVec 56
/-- A fabric device ID. -/
abbrev DevId := BitVec 16

/-- A sparse table: keys strictly rising, no entry equal to the table's default (the value of an unlisted key). -/
abbrev Sparse (α : Type) := List (Nat × α)

end Sys2Proof
end

