-- ==== Sys2Proof/Config.lean ====
section
/-! DEFINITION. What the spec leaves open: opaque functions without a body, so that no proof can rest on a value. -/
namespace Sys2Proof.Config

/-- The `n`-th free word: a value the spec leaves open (log entry 5). -/
opaque free : Nat → Word

/-- Sign and payload bits of a quiet NaN that an operation on two words returns (R103 says only that it is quiet; log entry 5). -/
opaque nanBits : Word → Word → Word

/-- Where, inside the 4 units in the last place of R172, the result of activation `code` (16 for the exponential of R179) on
the two words falls (log entry 5). -/
opaque ulp : Nat → Word → Word → Nat

/-- Rank of term `i` in sum number `k` of the outlier lane, whose order of addition R115 and R116 leave open (log entry 5). -/
opaque laneOrder : Nat → Nat → Nat

/-- A monitored laser output in units of 10 µW, whose conversion from the sense result the spec does not give (log entry 5). -/
opaque laserUnits : Int → BitVec 16

/-- Which of a position's four sense signals (Table 12.1) calibration gives loop `k` of the position where the spec does not say
(log entry 5). -/
opaque senseOf : Nat → Fin 4

/-- The power setpoint recorded at manufacture for position `P` of lathe `n` (R71; log entry 5). -/
opaque madeSetpoint : Nat → Nat → BitVec 24

/-- The digest of the identity public key, derived from the PUF (R549; log entry 5). -/
opaque devId : BitVec 512

/-- Byte `i` of the attestation signature over some bytes (R549, R559; log entry 5). -/
opaque sign : List Byte → Nat → Byte

/-- The vendor certificate and the identity certificate, as GET_CERTS returns them (Table 15.4; log entry 5). -/
opaque certs : List Byte

/-- The `n`-th login challenge (Table 15.4; log entry 5). -/
opaque challenge : Nat → BitVec 256

/-- Digest of the fixed record that extends register 8: 0 for a debug grant, 1 for a zeroisation (R545; log entry 5). -/
opaque fixedRecord : Bool → BitVec 512

/-- Whether the key and the signature of an image verify, where a register write alone names the image (R544; log entry 5). -/
opaque imageOk : List Byte → Bool × Bool

/-- Check symbol `j` of the three of a line's other 33 symbols: R291 gives the code's size, not its generator (log entry 5). -/
opaque rsCheck : List (BitVec 16) → Nat → BitVec 16

/-- Granules of a retiring channel copied `t` ns after GO: R309 gives the rate an upper bound only (log entry 5). -/
opaque retireCopied : Nat → Nat

/-- The infeed stores' byte parity is odd: R623 does not say (log entry 5). -/
opaque parityOdd : Bool

/-- Whether host memory keeps the poison of a line written at a time: R312 leaves it to the host (log entry 5). -/
opaque hostKeeps : Nat → Nat → Bool

/-- The signs of the pilot strokes' pseudorandom sequences (R488 gives none): of the drive value of a lathe's physical row in a symbol, and of the
weight of a cell, by lathe, row and column, on a pilot plane (log entry 5). -/
opaque pilotDrive : Nat → Nat → Nat → Bool
opaque pilotWeight : Nat → Nat → Nat → Nat → Bool

/-- A byte of a journal region at a clock: its reads return unspecified data (R395; log entry 5). -/
opaque journalByte : Nat → Nat → Byte

end Sys2Proof.Config
end

