-- ==== Sys2Proof/Machine/Sparse.lean ====
section
/-! DEFINITION. Sparse tables in canonical form: keys strictly rising, no entry equal to the default of its key.
`d` is the value of an unlisted key. -/
namespace Sys2Proof.Machine

/-- The value of key `i`; `d` when the key is not listed. -/
def sget {α : Type} (d : α) : Sparse α → Nat → α
  | [], _ => d
  | (k, v) :: t, i => if k = i then v else if i < k then d else sget d t i

/-- Give key `i` the value `v`; writing the default removes the entry. -/
def sput {α : Type} [DecidableEq α] (d v : α) : Sparse α → Nat → Sparse α
  | [], i => if v = d then [] else [(i, v)]
  | (k, w) :: t, i =>
    if i < k then (if v = d then (k, w) :: t else (i, v) :: (k, w) :: t)
    else if i = k then (if v = d then t else (i, v) :: t)
    else (k, w) :: sput d v t i

/-- Keys strictly above `lo` and rising, no value equal to its key's default `dflt`. -/
def swfAbove {α : Type} [DecidableEq α] (dflt : Nat → α) : Nat → Sparse α → Bool
  | _, [] => true
  | lo, (k, v) :: t => decide (lo ≤ k) && decide (v ≠ dflt k) && swfAbove dflt (k + 1) t

/-- The canonical form. -/
def swf {α : Type} [DecidableEq α] (dflt : Nat → α) (t : Sparse α) : Bool := swfAbove dflt 0 t

/-- The entries with keys in `[lo, lo + len)`. -/
def srange {α : Type} (t : Sparse α) (lo len : Nat) : Sparse α := t.filter fun e => decide (lo ≤ e.1) && decide (e.1 < lo + len)

/-- Give every key in `[lo, lo + len)` its default. -/
def sdrop {α : Type} (t : Sparse α) (lo len : Nat) : Sparse α := t.filter fun e => !(decide (lo ≤ e.1) && decide (e.1 < lo + len))

/-- Write every entry of `es` (a default value removes its key). -/
def sputs {α : Type} [DecidableEq α] (d : α) (t : Sparse α) (es : List (Nat × α)) : Sparse α :=
  es.foldl (fun acc e => sput d e.2 acc e.1) t

/-- Copy the keys `[src, src + len)` onto `[dst, dst + len)`. -/
def scopy {α : Type} [DecidableEq α] (d : α) (t : Sparse α) (src dst len : Nat) : Sparse α :=
  sputs d (sdrop t dst len) ((srange t src len).map fun e => (e.1 - src + dst, e.2))

/-- Change every listed value; a value that becomes the default leaves the table. -/
def smap {α : Type} [DecidableEq α] (d : α) (f : α → α) (t : Sparse α) : Sparse α :=
  (t.map fun e => (e.1, f e.2)).filter fun e => decide (e.2 ≠ d)

end Sys2Proof.Machine
end

