-- ==== Sys2Proof/Machine/RegMap.lean ====
section
/-! DEFINITION. The register map: the blocks of Table 1.10, and for every register of Table 17.3 its offset in the register
range (R16), its access masks and reset value from its home chapter's register and field tables, and its fields.
A register of an array takes its index as last argument; an array of two indices is flattened as its table says. -/
namespace Sys2Proof.Machine

/-- A field of a register word: its lowest bit and its width. -/
structure Fld where
  lo : Nat
  w : Nat
deriving DecidableEq, Repr

/-- The register blocks of Table 1.10. `izp` is a port's block, `izpg` the fabric's global block. -/
inductive Block where
  | dev | vnt | pwr | clk | sec | jig | evt | flt | ftm | lth | acc | fin | oll | inf | cal | str | wtb | sem | hbm | rdc | izp | izpg | std | mon | trm | pci
deriving DecidableEq, Repr

/-- Base, instances, instance stride and extent of each block (R36, Table 1.10). -/
def Block.geo : Block → Nat × Nat × Nat × Nat
  | .dev => (0, 1, 0, 0x10000)
  | .vnt => (0x10000, 1, 0, 0x10000)
  | .pwr => (0x20000, 1, 0, 0x10000)
  | .clk => (0x30000, 1, 0, 0x10000)
  | .sec => (0x40000, 1, 0, 0x10000)
  | .jig => (0x50000, 1, 0, 0x10000)
  | .evt => (0x60000, 1, 0, 0x10000)
  | .flt => (0x70000, 1, 0, 0x10000)
  | .ftm => (0x80000, 1, 0, 0x10000)
  | .lth => (0x100000, 8, 0x40000, 0x8000)
  | .acc => (0x108000, 8, 0x40000, 0x8000)
  | .fin => (0x110000, 8, 0x40000, 0x8000)
  | .oll => (0x118000, 8, 0x40000, 0x8000)
  | .inf => (0x120000, 8, 0x40000, 0x8000)
  | .cal => (0x128000, 8, 0x40000, 0x8000)
  | .str => (0x130000, 8, 0x40000, 0x10000)
  | .wtb => (0x300000, 1, 0, 0x40000)
  | .sem => (0x340000, 1, 0, 0xc0000)
  | .hbm => (0x400000, 8, 0x10000, 0x8000)
  | .rdc => (0x408000, 8, 0x10000, 0x8000)
  | .izp => (0x500000, 16, 0x4000, 0x4000)
  | .izpg => (0x540000, 1, 0, 0xc0000)
  | .std => (0x600000, 1, 0, 0x80000)
  | .mon => (0x680000, 1, 0, 0x40000)
  | .trm => (0x6c0000, 1, 0, 0x40000)
  | .pci => (0x700000, 1, 0, 0x10000)

/-- Every block, in the order of Table 1.10. -/
def Block.all : List Block :=
  [.dev, .vnt, .pwr, .clk, .sec, .jig, .evt, .flt, .ftm, .lth, .acc, .fin, .oll, .inf, .cal, .str, .wtb, .sem, .hbm, .rdc, .izp, .izpg, .std, .mon, .trm, .pci]

/-- One row of a register table, or an array of them: `count` registers of `words` words from `first`, `stride` apart;
`rst` its reset value, `rw` its read-write bits, `w1c` its write-1-to-clear bits, `rc` cleared by a read, `stat` a statistics
counter (R603). A bit in none of the masks ignores writes (RO, WO or RSV). -/
structure RegRow where
  first : Nat
  count : Nat
  stride : Nat
  words : Nat
  rst : Nat
  rw : Nat
  w1c : Nat
  rc : Bool
  stat : Bool
deriving DecidableEq, Repr

/-- The registers of block `DEV_`. -/
def rowsDev : List RegRow :=
  [
    ⟨0x8000, 1, 0, 1, 0, 0, 0, false, false⟩,  -- DEV_LT_GEN
    ⟨0x8004, 1, 0, 1, 2, 2, 0, false, false⟩,  -- DEV_LT_CTRL
    ⟨0x8008, 1, 0, 1, 0x3e8, 0xfff, 0, false, false⟩,  -- DEV_LT_SWAP_RATE
    ⟨0x800c, 1, 0, 1, 0, 0, 0, false, false⟩,  -- DEV_LT_STATUS
    ⟨0x8040, 16, 8, 1, 0, 0xff01, 0, false, false⟩,  -- DEV_LT_PASS
    ⟨0x8044, 16, 8, 1, 0, 0, 0, false, false⟩,  -- DEV_LT_LATCH
    ⟨0x8100, 1, 0, 2, 0, 0, 0, false, true⟩,  -- DEV_LT_STAT_REREAD
    ⟨0x8108, 1, 0, 2, 0, 0, 0, false, true⟩,  -- DEV_LT_STAT_MIRROR
    ⟨0x8110, 1, 0, 2, 0, 0, 0, false, true⟩,  -- DEV_LT_STAT_STALE
    ⟨0x8118, 1, 0, 2, 0, 0, 0, false, true⟩,  -- DEV_LT_STAT_SWAPS
    ⟨0x8200, 1, 0, 2, 0, 0xffffffffff, 0, false, false⟩,  -- DEV_LT_BUILD_SRC
    ⟨0x8208, 1, 0, 2, 0, 0xffffffffff, 0, false, false⟩,  -- DEV_LT_BUILD_DST
    ⟨0x8210, 1, 0, 2, 0, 0xffffffffff, 0, false, false⟩,  -- DEV_LT_BUILD_OUT
    ⟨0x8218, 1, 0, 1, 0, 0xffffff, 0, false, false⟩,  -- DEV_LT_BUILD_GEOM
    ⟨0x821c, 1, 0, 1, 0, 0xffffffff, 0, false, false⟩,  -- DEV_LT_BUILD_ID
    ⟨0x8220, 1, 0, 1, 0, 0xffffffff, 0, false, false⟩,  -- DEV_LT_BUILD_FIRST
    ⟨0x8224, 1, 0, 1, 0, 0xffffffff, 0, false, false⟩,  -- DEV_LT_BUILD_COUNT
    ⟨0x8228, 1, 0, 1, 0, 0xf0, 0, false, false⟩,  -- DEV_LT_BUILD_CMD
    ⟨0x9000, 1, 0, 1, 0, 0, 0, false, false⟩,  -- DEV_CAL_CMD
    ⟨0x9008, 1, 0, 2, 0, 0xffffffffffffffff, 0, false, false⟩,  -- DEV_CAL_AT
    ⟨0x9010, 1, 0, 1, 0, 0, 0, false, false⟩,  -- DEV_CAL_STATUS
    ⟨0, 1, 0, 1, 0x81600b0, 0, 0, false, false⟩,  -- DEV_ID
    ⟨4, 1, 0, 1, 0, 0x8000ffff, 0, false, false⟩,  -- DEV_FABRIC_ID
    ⟨8, 1, 0, 1, 0, 0xff, 0, false, false⟩,  -- DEV_DEBUG
    ⟨0xc, 1, 0, 1, 0, 0, 0, false, false⟩,  -- DEV_GRANT
    ⟨0x10, 1, 0, 1, 0, 0, 0, false, false⟩]  -- DEV_RESET_CMD

/-- The registers of block `VNT_`. -/
def rowsVnt : List RegRow :=
  [
    ⟨0, 1, 0, 1, 0, 0, 0, false, false⟩,  -- VNT_STATUS
    ⟨4, 1, 0, 1, 0, 0, 0, false, false⟩,  -- VNT_CTRL
    ⟨8, 1, 0, 1, 0, 0, 0, false, false⟩,  -- VNT_MBX_CMD
    ⟨0xc, 1, 0, 1, 0, 0, 0, false, false⟩,  -- VNT_MBX_STATUS
    ⟨0x10, 1, 0, 1, 0, 0, 1, false, false⟩,  -- VNT_ALERT
    ⟨0x14, 1, 0, 1, 2, 3, 0, false, false⟩,  -- VNT_ALERT_CFG
    ⟨0x18, 1, 0, 1, 0, 0, 0, false, false⟩,  -- VNT_LOG_IDX
    ⟨0x40, 1, 0, 2, 0, 0, 0, false, true⟩,  -- VNT_STAT_OPS
    ⟨0x48, 1, 0, 2, 0, 0, 0, false, true⟩,  -- VNT_STAT_REFUSED
    ⟨0x100, 16, 4, 1, 0, 0xffffffff, 0, false, false⟩,  -- VNT_MBX_REQ
    ⟨0x2000, 2048, 4, 1, 0, 0, 0, false, false⟩,  -- VNT_MBX_RSP
    ⟨0x4000, 1024, 4, 1, 0, 0, 0, false, false⟩]  -- VNT_LOG

/-- The registers of block `PWR_`. -/
def rowsPwr : List RegRow :=
  [
    ⟨0, 1, 0, 1, 0, 0, 0, false, false⟩,  -- PWR_STATUS
    ⟨4, 1, 0, 1, 6, 6, 0, false, false⟩,  -- PWR_CTRL
    ⟨8, 1, 0, 1, 0, 0x17, 0, false, false⟩,  -- PWR_STATE_REQ
    ⟨0xc, 1, 0, 1, 0xa, 0xffff, 0, false, false⟩,  -- PWR_QUIESCE_TMO
    ⟨0x10, 1, 0, 2, 0, 0xffffffffffffffff, 0, false, false⟩,  -- PWR_STATE_AT
    ⟨0x18, 1, 0, 1, 0, 0, 0, false, false⟩,  -- PWR_INPUT
    ⟨0x1c, 1, 0, 1, 0x30d4, 0xffff, 0, false, false⟩,  -- PWR_LIMIT
    ⟨0x20, 1, 0, 1, 0, 0, 0, false, false⟩,  -- PWR_START
    ⟨0x40, 1, 0, 2, 0, 0, 0, false, true⟩,  -- PWR_STAT_TRANSITIONS
    ⟨0x48, 1, 0, 2, 0, 0, 0, false, true⟩,  -- PWR_STAT_CAP_MS
    ⟨0x50, 1, 0, 2, 0, 0, 0, false, true⟩,  -- PWR_STAT_INPUT_WARN
    ⟨0x100, 64, 8, 1, 0, 0, 0, false, false⟩,  -- PWR_DOM_STATUS
    ⟨0x104, 64, 8, 1, 0, 0, 0, false, false⟩]  -- PWR_DOM_CMD

/-- The registers of block `CLK_`. -/
def rowsClk : List RegRow :=
  [
    ⟨0, 1, 0, 1, 0, 0, 0, false, false⟩,  -- CLK_LOCK_LO
    ⟨4, 1, 0, 1, 0, 0, 0, false, false⟩,  -- CLK_LOCK_HI
    ⟨8, 1, 0, 1, 1, 0, 0, false, false⟩,  -- CLK_REF
    ⟨0xc, 1, 0, 1, 2, 2, 0, false, false⟩,  -- CLK_CTRL
    ⟨0x40, 1, 0, 2, 0, 0, 0, false, true⟩,  -- CLK_STAT_UNLOCK
    ⟨0x100, 37, 4, 1, 0, 0, 0, false, false⟩]  -- CLK_DOM

/-- The registers of block `SEC_`. -/
def rowsSec : List RegRow :=
  [
    ⟨0, 1, 0, 1, 0, 0, 0, false, false⟩,  -- SEC_STATUS
    ⟨4, 1, 0, 1, 2, 2, 0, false, false⟩,  -- SEC_CTRL
    ⟨0x40, 1, 0, 2, 0, 0, 0, false, true⟩,  -- SEC_STAT_QUOTES
    ⟨0x48, 1, 0, 2, 0, 0, 0, false, true⟩,  -- SEC_STAT_AUTH_FAIL
    ⟨0x50, 1, 0, 2, 0, 0, 0, false, true⟩,  -- SEC_STAT_VERIFY_FAIL
    ⟨0x100, 256, 4, 1, 0, 0, 0, false, false⟩,  -- SEC_MEAS
    ⟨0x500, 16, 4, 1, 0, 0, 0, false, false⟩,  -- SEC_DEVID
    ⟨0x540, 8, 4, 1, 0, 0, 0, false, false⟩,  -- SEC_CTR
    ⟨0x560, 8, 4, 1, 0, 0, 0, false, false⟩,  -- SEC_SLOT
    ⟨0x600, 1, 0, 1, 0, 0, 0, false, false⟩,  -- SEC_MBX_CTRL
    ⟨0x604, 1, 0, 1, 0, 0, 0, false, false⟩,  -- SEC_MBX_STATUS
    ⟨0x1000, 2048, 4, 1, 0, 0xffffffff, 0, false, false⟩,  -- SEC_MBX_REQ
    ⟨0x3000, 2048, 4, 1, 0, 0, 0, false, false⟩]  -- SEC_MBX_RSP

/-- The registers of block `JIG_`. -/
def rowsJig : List RegRow :=
  [
    ⟨0, 1, 0, 1, 0, 0, 0, false, false⟩,  -- JIG_STATUS
    ⟨4, 1, 0, 1, 0, 0, 0, false, false⟩,  -- JIG_CMD
    ⟨8, 1, 0, 2, 0, 0xffffffffffffffff, 0, false, false⟩,  -- JIG_AT
    ⟨0x10, 1, 0, 2, 0, 0xffffffffffffffff, 0, false, false⟩,  -- JIG_SRC
    ⟨0x18, 1, 0, 1, 0, 0xffffffff, 0, false, false⟩,  -- JIG_LEN
    ⟨0x1c, 1, 0, 1, 0, 0, 0, false, false⟩,  -- JIG_RESULT
    ⟨0x20, 3, 8, 1, 0, 0, 0, false, false⟩,  -- JIG_SLOT_VER
    ⟨0x24, 3, 8, 1, 0, 0, 0, false, false⟩,  -- JIG_SLOT_SVN
    ⟨0x38, 1, 0, 1, 0, 0, 0, false, false⟩,  -- JIG_HEALTH
    ⟨0x40, 1, 0, 2, 0, 0, 0, false, true⟩,  -- JIG_STAT_APPLIES
    ⟨0x48, 1, 0, 2, 0, 0, 0, false, true⟩,  -- JIG_STAT_ROLLBACKS
    ⟨0x100, 1, 0, 1, 0, 0, 0, false, false⟩,  -- JIG_FW_CMD
    ⟨0x104, 1, 0, 1, 0, 0, 0, false, false⟩,  -- JIG_FW_STATUS
    ⟨0x108, 1, 0, 2, 0, 0xffffffffffffffff, 0, false, false⟩,  -- JIG_FW_SRC
    ⟨0x110, 1, 0, 1, 0, 0xffffffff, 0, false, false⟩,  -- JIG_FW_LEN
    ⟨0x124, 7, 4, 1, 0, 0, 0, false, false⟩]  -- JIG_FW_VER

/-- The registers of block `EVT_`. -/
def rowsEvt : List RegRow :=
  [
    ⟨0, 1, 0, 1, 0, 0, 0, false, false⟩,  -- EVT_STATUS
    ⟨4, 1, 0, 1, 0, 0, 0, false, false⟩,  -- EVT_CTRL
    ⟨0x40, 1, 0, 2, 0, 0, 0, false, true⟩,  -- EVT_STAT_POSTED
    ⟨0x48, 1, 0, 2, 0, 0, 0, false, true⟩,  -- EVT_STAT_LOST
    ⟨0x80, 16, 4, 1, 0, 0xf, 0, false, false⟩,  -- EVT_MAP
    ⟨0x100, 16, 0x20, 2, 0, 0xffffffffff, 0, false, false⟩,  -- EVT_Q_BASE
    ⟨0x108, 16, 0x20, 1, 0x100014, 0xfff7ff3f, 0, false, false⟩,  -- EVT_Q_CFG
    ⟨0x10c, 16, 0x20, 1, 0, 0xfffff, 0, false, false⟩,  -- EVT_Q_HEAD
    ⟨0x110, 16, 0x20, 1, 0, 0, 0, false, false⟩,  -- EVT_Q_TAIL
    ⟨0x114, 16, 0x20, 1, 0, 0, 0, true, false⟩]  -- EVT_Q_LOST

/-- The registers of block `FLT_`. -/
def rowsFlt : List RegRow :=
  [
    ⟨0, 1, 0, 1, 0, 0, 0, false, false⟩,  -- FLT_STATUS
    ⟨4, 1, 0, 1, 2, 2, 0, false, false⟩,  -- FLT_CTRL
    ⟨8, 1, 0, 1, 0, 0xffff, 0, false, false⟩,  -- FLT_CFG
    ⟨0x40, 1, 0, 2, 0, 0, 0, false, true⟩,  -- FLT_STAT_TESTS
    ⟨0x48, 1, 0, 2, 0, 0, 0, false, true⟩,  -- FLT_STAT_FAILS
    ⟨0x50, 1, 0, 2, 0, 0, 0, false, true⟩,  -- FLT_STAT_REPLAYS
    ⟨0x58, 7, 8, 2, 0, 0, 0, false, true⟩,  -- FLT_STAT_OUTCOME
    ⟨0x90, 1, 0, 2, 0, 0, 0, false, true⟩,  -- FLT_STAT_UNARBITRATED
    ⟨0x98, 1, 0, 2, 0, 0, 0, false, true⟩,  -- FLT_STAT_SUSPECT
    ⟨0xa0, 1, 0, 2, 0, 0, 0, false, true⟩,  -- FLT_STAT_SUSPECT_POISON
    ⟨0xa8, 1, 0, 2, 0, 0, 0, false, true⟩,  -- FLT_STAT_EARLY_POISON
    ⟨0xb0, 1, 0, 2, 0, 0, 0, false, true⟩,  -- FLT_STAT_DIPS
    ⟨0x100, 64, 4, 1, 0x400204, 0, 0, false, false⟩,  -- FLT_SIGMA
    ⟨0x200, 1, 0, 1, 0, 0x7ffff, 0, false, false⟩,  -- FLT_HIST_SEL
    ⟨0x204, 1, 0, 1, 0, 0, 0, false, false⟩,  -- FLT_HIST_CMD
    ⟨0x208, 1, 0, 1, 0, 0, 0, false, false⟩,  -- FLT_HIST_STATUS
    ⟨0x20c, 1, 0, 1, 0, 0, 0, false, false⟩,  -- FLT_HIST_NOW
    ⟨0x220, 8, 4, 1, 0, 0, 0, false, false⟩]  -- FLT_HIST_DATA

/-- The registers of block `FTM_`. -/
def rowsFtm : List RegRow :=
  [
    ⟨0, 1, 0, 1, 0, 0, 0, false, false⟩,  -- FTM_NOW_LO
    ⟨4, 1, 0, 1, 0, 0, 0, false, false⟩,  -- FTM_NOW_HI
    ⟨8, 1, 0, 1, 0, 0, 0, false, false⟩,  -- FTM_STATUS
    ⟨0xc, 1, 0, 1, 0x320000, 0xffffff07, 0, false, false⟩,  -- FTM_CFG
    ⟨0x10, 1, 0, 1, 6, 6, 0, false, false⟩,  -- FTM_CTRL
    ⟨0x14, 1, 0, 1, 0, 0, 0, false, false⟩,  -- FTM_OFFSET
    ⟨0x18, 1, 0, 1, 0xffffffff, 0, 0, false, false⟩,  -- FTM_UNCERT
    ⟨0x1c, 1, 0, 1, 0, 0, 0, false, false⟩,  -- FTM_FREQ
    ⟨0x20, 1, 0, 2, 0, 0, 0, false, false⟩,  -- FTM_SET
    ⟨0x28, 1, 0, 1, 0, 0, 0, false, false⟩,  -- FTM_GM
    ⟨0x40, 1, 0, 2, 0, 0, 0, false, true⟩,  -- FTM_STAT_STEPS
    ⟨0x48, 1, 0, 2, 0, 0, 0, false, true⟩,  -- FTM_STAT_HOLDOVERS
    ⟨0x50, 1, 0, 2, 0, 0, 0, false, true⟩,  -- FTM_STAT_GM_CHANGES
    ⟨0x100, 16, 4, 1, 0, 0, 0, false, false⟩]  -- FTM_LINK_DELAY

/-- The registers of block `LTH_`. -/
def rowsLth : List RegRow :=
  [
    ⟨0, 1, 0, 1, 0, 0, 0, false, false⟩,  -- LTH_ID
    ⟨4, 1, 0, 1, 0, 0, 0, false, false⟩,  -- LTH_STATUS
    ⟨8, 1, 0, 1, 9, 9, 0, false, false⟩,  -- LTH_CTRL
    ⟨0xc, 1, 0, 1, 0, 0x10f, 0, false, false⟩,  -- LTH_GAIN_OVR
    ⟨0x10, 1, 0, 1, 0xfa0, 0xffffffff, 0, false, false⟩,  -- LTH_BANK_AGE_MAX
    ⟨0x14, 1, 0, 1, 0x28, 0, 0, false, false⟩,  -- LTH_PIPE_LAT
    ⟨0x18, 1, 0, 1, 0xf0000, 0, 0, false, false⟩,  -- LTH_SPARE_USE
    ⟨0x40, 1, 0, 2, 0, 0, 0, false, true⟩,  -- LTH_STAT_STROKES
    ⟨0x48, 1, 0, 2, 0, 0, 0, false, true⟩,  -- LTH_STAT_DATA_SYM
    ⟨0x50, 1, 0, 2, 0, 0, 0, false, true⟩,  -- LTH_STAT_GUARD_SYM
    ⟨0x58, 1, 0, 2, 0, 0, 0, false, true⟩,  -- LTH_STAT_IDLE_SYM
    ⟨0x60, 1, 0, 2, 0, 0, 0, false, true⟩,  -- LTH_STAT_OVERRANGE
    ⟨0x68, 1, 0, 2, 0, 0, 0, false, true⟩,  -- LTH_STAT_ALIGNED_BLK
    ⟨0x70, 1, 0, 2, 0, 0, 0, false, true⟩,  -- LTH_STAT_IN80
    ⟨0x78, 1, 0, 2, 0, 0, 0, false, true⟩,  -- LTH_STAT_REFRESH
    ⟨0x80, 1, 0, 2, 0, 0, 0, false, true⟩,  -- LTH_STAT_BANK_WRITES
    ⟨0x88, 1, 0, 2, 0, 0, 0, false, true⟩,  -- LTH_STAT_W7_CLAMP
    ⟨0x100, 12, 4, 1, 0, 0, 0, false, false⟩,  -- LTH_LASER
    ⟨0x1000, 512, 4, 1, 0, 0x3ff, 0, false, false⟩,  -- LTH_ROWMAP
    ⟨0x2000, 520, 4, 1, 0, 0x3ff, 0, false, false⟩]  -- LTH_COLMAP

/-- The registers of block `ACC_`. -/
def rowsAcc : List RegRow :=
  [
    ⟨0, 1, 0, 1, 0, 0, 0, false, false⟩,  -- ACC_STATUS
    ⟨4, 1, 0, 1, 0xc, 0xd, 0, false, false⟩,  -- ACC_CTRL
    ⟨8, 2, 4, 1, 0x10, 0, 0x1f00, false, false⟩,  -- ACC_TILE
    ⟨0x10, 1, 0, 1, 0, 0, 0, false, false⟩,  -- ACC_SPAN_CFG
    ⟨0x40, 1, 0, 2, 0, 0, 0, false, true⟩,  -- ACC_STAT_ADDS
    ⟨0x48, 1, 0, 2, 0, 0, 0, false, true⟩,  -- ACC_STAT_SAT
    ⟨0x50, 1, 0, 2, 0, 0, 0, false, true⟩,  -- ACC_STAT_BETA_LOSS
    ⟨0x58, 1, 0, 2, 0, 0, 0, false, true⟩,  -- ACC_STAT_SPAN_MOVES
    ⟨0x60, 1, 0, 2, 0, 0, 0, false, true⟩,  -- ACC_STAT_INVALID
    ⟨0x100, 8, 0x10, 1, 0, 0, 0, false, false⟩,  -- ACC_GRP_STATE
    ⟨0x104, 8, 0x10, 1, 0, 0, 0, false, false⟩,  -- ACC_GRP_ROWS
    ⟨0x108, 8, 0x10, 1, 0, 0, 0, false, false⟩,  -- ACC_GRP_SPAN
    ⟨0x10c, 8, 0x10, 1, 0, 0, 0, false, false⟩,  -- ACC_GRP_SCALE
    ⟨0x200, 1, 0, 1, 0, 0x1fff, 0, false, false⟩,  -- ACC_DBG_ROW
    ⟨0x220, 8, 4, 1, 0, 0, 0, false, false⟩]  -- ACC_DBG_CK

/-- The registers of block `FIN_`. -/
def rowsFin : List RegRow :=
  [
    ⟨0, 1, 0, 1, 0, 0, 0, false, false⟩,  -- FIN_STATUS
    ⟨4, 1, 0, 1, 4, 4, 0, false, false⟩,  -- FIN_CTRL
    ⟨8, 1, 0, 1, 0, 0xffffffff, 0, false, false⟩,  -- FIN_SR_SEED
    ⟨0x40, 1, 0, 2, 0, 0, 0, false, true⟩,  -- FIN_STAT_ROWS
    ⟨0x48, 1, 0, 2, 0, 0, 0, false, true⟩,  -- FIN_STAT_STALL_CYC
    ⟨0x50, 1, 0, 2, 0, 0, 0, false, true⟩,  -- FIN_STAT_IN80
    ⟨0x58, 1, 0, 2, 0, 0, 0, false, true⟩,  -- FIN_STAT_UPD_ELEM
    ⟨0x60, 1, 0, 2, 0, 0, 0, false, true⟩,  -- FIN_STAT_UPD_SKIP
    ⟨0x68, 1, 0, 2, 0, 0, 0, false, true⟩]  -- FIN_STAT_FLUSH

/-- The registers of block `OLL_`. -/
def rowsOll : List RegRow :=
  [
    ⟨0, 1, 0, 1, 0, 0, 0, false, false⟩,  -- OLL_STATUS
    ⟨4, 1, 0, 1, 1, 5, 0, false, false⟩,  -- OLL_CTRL
    ⟨8, 1, 0, 1, 0x101008, 0, 0, false, false⟩,  -- OLL_CAP
    ⟨0x40, 1, 0, 2, 0, 0, 0, false, true⟩,  -- OLL_STAT_STROKES
    ⟨0x48, 1, 0, 2, 0, 0, 0, false, true⟩,  -- OLL_STAT_STRETCHED
    ⟨0x50, 1, 0, 2, 0, 0, 0, false, true⟩,  -- OLL_STAT_STRETCH_SYM
    ⟨0x58, 1, 0, 2, 0, 0, 0, false, true⟩,  -- OLL_STAT_FLUSH
    ⟨0x60, 1, 0, 2, 0, 0, 0, false, true⟩,  -- OLL_STAT_NAN
    ⟨0x100, 16, 4, 1, 0xffff, 0, 0, false, false⟩]  -- OLL_CHAN

/-- The registers of block `INF_`. -/
def rowsInf : List RegRow :=
  [
    ⟨0, 1, 0, 1, 0, 0, 0, false, false⟩,  -- INF_CFG
    ⟨4, 1, 0, 1, 0, 0, 0, false, false⟩,  -- INF_CTRL
    ⟨0x40, 1, 0, 2, 0, 0, 0, false, true⟩,  -- INF_STAT_RD_BYTES
    ⟨0x48, 1, 0, 2, 0, 0, 0, false, true⟩,  -- INF_STAT_WR_BYTES
    ⟨0x50, 1, 0, 2, 0, 0, 0, false, true⟩]  -- INF_STAT_PARITY

/-- The registers of block `CAL_`. -/
def rowsCal : List RegRow :=
  [
    ⟨0, 1, 0, 1, 0, 0, 0, false, false⟩,  -- CAL_STATUS
    ⟨4, 1, 0, 1, 0, 0, 0, false, false⟩,  -- CAL_CMD
    ⟨8, 1, 0, 2, 0, 0xffffffffffffffff, 0, false, false⟩,  -- CAL_AT
    ⟨0x10, 1, 0, 1, 0, 0, 0, false, false⟩,  -- CAL_COUNT
    ⟨0x14, 1, 0, 1, 0, 0, 0, false, false⟩,  -- CAL_RESULT
    ⟨0x18, 1, 0, 2, 0, 0, 0, false, false⟩,  -- CAL_LAST_FT
    ⟨0x20, 1, 0, 1, 0x800, 0x3f3f, 0, false, false⟩,  -- CAL_SETSEL
    ⟨0x24, 1, 0, 1, 0, 0xffffff, 0, false, false⟩,  -- CAL_KREF_ROW
    ⟨0x28, 1, 0, 1, 0, 0xffffff, 0, false, false⟩,  -- CAL_KREF_COL
    ⟨0x40, 1, 0, 2, 0, 0, 0, false, true⟩,  -- CAL_STAT_ACCEPTED
    ⟨0x48, 1, 0, 2, 0, 0, 0, false, true⟩,  -- CAL_STAT_REJECTED
    ⟨0x1000, 536, 4, 1, 0x400000, 0, 0, false, false⟩,  -- CAL_GAIN
    ⟨0x2000, 536, 4, 1, 0, 0, 0, false, false⟩,  -- CAL_OFS
    ⟨0x3000, 536, 4, 1, 0x400000, 0, 0, false, false⟩,  -- CAL_DGAIN
    ⟨0x4000, 536, 4, 1, 0, 0, 0, false, false⟩,  -- CAL_DOFS
    ⟨0x5000, 536, 4, 1, 0, 0, 0, false, false⟩,  -- CAL_COL
    ⟨0x6000, 528, 4, 1, 0, 0, 0, false, false⟩]  -- CAL_ROW

/-- The registers of block `STR_`. -/
def rowsStr : List RegRow :=
  [
    ⟨0, 1, 0, 1, 0, 0, 0, false, false⟩,  -- STR_STATUS
    ⟨4, 1, 0, 1, 6, 6, 0, false, false⟩,  -- STR_CTRL
    ⟨8, 1, 0, 1, 0, 0, 0, false, false⟩,  -- STR_ABORT
    ⟨0xc, 1, 0, 1, 0, 0xffffffff, 0, false, false⟩,  -- STR_ABORT_ARG
    ⟨0x10, 1, 0, 1, 0, 0, 0, false, false⟩,  -- STR_TAGS
    ⟨0x40, 1, 0, 2, 0, 0, 0, false, true⟩,  -- STR_STAT_ACCEPTED
    ⟨0x48, 1, 0, 2, 0, 0, 0, false, true⟩,  -- STR_STAT_DONE
    ⟨0x50, 1, 0, 2, 0, 0, 0, false, true⟩,  -- STR_STAT_ABORTED
    ⟨0x58, 1, 0, 2, 0, 0, 0, false, true⟩,  -- STR_STAT_ABORT_LATE
    ⟨0x60, 1, 0, 2, 0, 0, 0, false, true⟩,  -- STR_STAT_REARM_REJECT
    ⟨0x68, 1, 0, 2, 0, 0, 0, false, true⟩,  -- STR_STAT_DEADLINE_MISS
    ⟨0x70, 1, 0, 2, 0, 0, 0, false, true⟩,  -- STR_STAT_TAG_STALL
    ⟨0x100, 8, 0x20, 2, 0, 0xffffffffff, 0, false, false⟩,  -- STR_SQ_BASE
    ⟨0x108, 8, 0x20, 1, 0xc, 0x31f, 0, false, false⟩,  -- STR_SQ_CFG
    ⟨0x10c, 8, 0x20, 1, 0, 0, 0, false, false⟩,  -- STR_SQ_HEAD
    ⟨0x110, 8, 0x20, 1, 0, 0xffff, 0, false, false⟩,  -- STR_SQ_TAIL
    ⟨0x4000, 256, 0x40, 2, 0, 0xffffffffffffffff, 0, false, false⟩,  -- STR_DESC_SRC
    ⟨0x4008, 256, 0x40, 2, 0, 0xffffffffffffffff, 0, false, false⟩,  -- STR_DESC_DST
    ⟨0x4010, 256, 0x40, 1, 0, 0xffffffff, 0, false, false⟩,  -- STR_DESC_ROWB
    ⟨0x4014, 256, 0x40, 1, 0, 0xffffffff, 0, false, false⟩,  -- STR_DESC_ROWS
    ⟨0x4018, 256, 0x40, 2, 0, 0xffffffffffffffff, 0, false, false⟩,  -- STR_DESC_SSTR
    ⟨0x4020, 256, 0x40, 2, 0, 0xffffffffffffffff, 0, false, false⟩,  -- STR_DESC_DSTR
    ⟨0x4028, 256, 0x40, 1, 0, 1, 0, false, false⟩,  -- STR_DESC_MODE
    ⟨0x4030, 256, 0x40, 1, 0, 0, 0, false, false⟩,  -- STR_DESC_STATE
    ⟨0x4034, 256, 0x40, 1, 0, 0, 0, false, false⟩,  -- STR_DESC_GEN
    ⟨0x4038, 256, 0x40, 1, 0, 0, 0, false, false⟩]  -- STR_DESC_CMD

/-- The registers of block `WTB_`. -/
def rowsWtb : List RegRow :=
  [
    ⟨0, 4096, 0x40, 1, 0, 3, 0, false, false⟩,  -- WTB_CTL
    ⟨4, 4096, 0x40, 1, 0, 0xffffffff, 0, false, false⟩,  -- WTB_ID
    ⟨8, 4096, 0x40, 2, 0, 0xffffffffff, 0, false, false⟩,  -- WTB_BLANK
    ⟨0x10, 4096, 0x40, 2, 0, 0xffffffffff, 0, false, false⟩,  -- WTB_INLAY
    ⟨0x18, 4096, 0x40, 1, 0, 0x1fffffff, 0, false, false⟩,  -- WTB_GEOM
    ⟨0x1c, 4096, 0x40, 1, 0, 0xffffffff, 0, false, false⟩,  -- WTB_FIRST
    ⟨0x20, 4096, 0x40, 1, 0, 0xffffffff, 0, false, false⟩,  -- WTB_COUNT
    ⟨0x24, 4096, 0x40, 1, 0, 0xffffffff, 0, false, false⟩,  -- WTB_SHARD
    ⟨0x28, 4096, 0x40, 2, 0, 0xffffffffffffff, 0, false, false⟩,  -- WTB_MIRROR
    ⟨0x30, 4096, 0x40, 1, 0, 0xffff, 0, false, false⟩,  -- WTB_TMO
    ⟨0x34, 4096, 0x40, 1, 0, 0, 0, false, false⟩,  -- WTB_GEN
    ⟨0x38, 4096, 0x40, 1, 0, 0, 0, false, false⟩,  -- WTB_PGEN
    ⟨0x3c, 4096, 0x40, 1, 0, 0, 0, true, false⟩]  -- WTB_REREAD

/-- The registers of block `SEM_`. -/
def rowsSem : List RegRow :=
  [
    ⟨0, 1, 0, 1, 0, 0, 0, false, false⟩,  -- SEM_STATUS
    ⟨4, 1, 0, 1, 2, 2, 0, false, false⟩,  -- SEM_CTRL
    ⟨0x40, 1, 0, 2, 0, 0, 0, false, true⟩,  -- SEM_STAT_SIGNALS
    ⟨0x48, 1, 0, 2, 0, 0, 0, false, true⟩,  -- SEM_STAT_WAITS
    ⟨0x50, 1, 0, 2, 0, 0, 0, false, true⟩,  -- SEM_STAT_TIMEOUTS
    ⟨0x10000, 8192, 0x10, 1, 0, 0xffffffff, 0, false, false⟩,  -- SEM_VAL
    ⟨0x10004, 8192, 0x10, 1, 0, 0x1ff, 0, false, false⟩,  -- SEM_CFG
    ⟨0x10008, 8192, 0x10, 1, 0, 0, 0, false, false⟩,  -- SEM_WAITERS
    ⟨0x1000c, 8192, 0x10, 1, 0, 0, 0, false, false⟩]  -- SEM_ADD

/-- The registers of block `HBM_`. -/
def rowsHbm : List RegRow :=
  [
    ⟨0, 1, 0, 1, 0, 0, 0, false, false⟩,  -- HBM_STATUS
    ⟨4, 1, 0, 1, 0xe, 0xe, 0, false, false⟩,  -- HBM_CTRL
    ⟨8, 1, 0, 1, 8, 0xff, 0, false, false⟩,  -- HBM_SCRUB_CFG
    ⟨0xc, 1, 0, 1, 0, 0, 0, false, false⟩,  -- HBM_SCRUB_POS
    ⟨0x10, 1, 0, 1, 0, 0, 0, false, false⟩,  -- HBM_TEMP
    ⟨0x14, 1, 0, 1, 0, 0x1f, 0, false, false⟩,  -- HBM_RETIRE_CMD
    ⟨0x18, 1, 0, 1, 0, 0, 0, false, false⟩,  -- HBM_RETIRED
    ⟨0x1c, 1, 0, 1, 0x300, 0, 0, false, false⟩,  -- HBM_HOLE
    ⟨0x20, 1, 0, 2, 0, 0, 0, false, false⟩,  -- HBM_ERR_ADDR
    ⟨0x28, 1, 0, 1, 0, 0, 0x80000000, false, false⟩,  -- HBM_ERR_INFO
    ⟨0x40, 1, 0, 2, 0, 0, 0, false, true⟩,  -- HBM_STAT_CE
    ⟨0x48, 1, 0, 2, 0, 0, 0, false, true⟩,  -- HBM_STAT_UE
    ⟨0x50, 1, 0, 2, 0, 0, 0, false, true⟩,  -- HBM_STAT_POISON_RD
    ⟨0x58, 1, 0, 2, 0, 0, 0, false, true⟩,  -- HBM_STAT_RETRY_OK
    ⟨0x60, 1, 0, 2, 0, 0, 0, false, true⟩,  -- HBM_STAT_SCRUB_FIX
    ⟨0x68, 1, 0, 2, 0, 0, 0, false, true⟩,  -- HBM_STAT_PARTIAL
    ⟨0x100, 32, 8, 1, 0, 0, 0, false, false⟩,  -- HBM_CH_STATE
    ⟨0x104, 32, 8, 1, 0, 0, 0, true, false⟩]  -- HBM_CH_ERR

/-- The registers of block `RDC_`. -/
def rowsRdc : List RegRow :=
  [
    ⟨0, 1, 0, 1, 0, 0, 0, false, false⟩,  -- RDC_BUSY
    ⟨4, 1, 0, 1, 2, 2, 0, false, false⟩,  -- RDC_CTRL
    ⟨0x40, 1, 0, 2, 0, 0, 0, false, true⟩,  -- RDC_STAT_LINES
    ⟨0x48, 1, 0, 2, 0, 0, 0, false, true⟩,  -- RDC_STAT_SAT
    ⟨0x50, 1, 0, 2, 0, 0, 0, false, true⟩,  -- RDC_STAT_POISON
    ⟨0x58, 1, 0, 2, 0, 0, 0, false, true⟩,  -- RDC_STAT_REMOTE
    ⟨0x60, 1, 0, 2, 0, 0, 0, false, true⟩,  -- RDC_STAT_MARKS
    ⟨0x68, 1, 0, 2, 0, 0, 0, false, true⟩,  -- RDC_STAT_TAG_STALL
    ⟨0x100, 32, 4, 1, 0, 0, 0, false, true⟩]  -- RDC_CH_LINES

/-- The registers of block `IZP_`. -/
def rowsIzp : List RegRow :=
  [
    ⟨0, 1, 0, 1, 3, 0, 0, false, false⟩,  -- IZP_STATUS
    ⟨4, 1, 0, 1, 9, 9, 0, false, false⟩,  -- IZP_CTRL
    ⟨8, 1, 0, 1, 0, 0, 0, false, false⟩,  -- IZP_PEER
    ⟨0x40, 1, 0, 2, 0, 0, 0, false, true⟩,  -- IZP_STAT_TX_BYTES
    ⟨0x48, 1, 0, 2, 0, 0, 0, false, true⟩,  -- IZP_STAT_RX_BYTES
    ⟨0x50, 1, 0, 2, 0, 0, 0, false, true⟩,  -- IZP_STAT_FEC_CORR
    ⟨0x58, 1, 0, 2, 0, 0, 0, false, true⟩,  -- IZP_STAT_FEC_UNCORR
    ⟨0x60, 1, 0, 2, 0, 0, 0, false, true⟩,  -- IZP_STAT_CRC_FAIL
    ⟨0x68, 1, 0, 2, 0, 0, 0, false, true⟩,  -- IZP_STAT_REPLAY
    ⟨0x70, 1, 0, 2, 0, 0, 0, false, true⟩,  -- IZP_STAT_RETRAIN
    ⟨0x78, 1, 0, 2, 0, 0, 0, false, true⟩]  -- IZP_STAT_POISON_RX

/-- The registers of block global `IZP_`. -/
def rowsIzpg : List RegRow :=
  [
    ⟨0, 4096, 0x40, 1, 0, 0xf, 0, false, false⟩,  -- IZP_MG_CTL
    ⟨4, 4096, 0x40, 1, 0, 0x7f3fff, 0, false, false⟩,  -- IZP_MG_SLOTS
    ⟨8, 4096, 0x40, 2, 0, 0xffffffffff, 0, false, false⟩,  -- IZP_MG_SRC
    ⟨0x10, 4096, 0x40, 1, 0, 0xffffffff, 0, false, false⟩,  -- IZP_MG_LEN
    ⟨0x14, 4096, 0x40, 1, 0, 0xffff, 0, false, false⟩,  -- IZP_MG_HOLD
    ⟨0x18, 4096, 0x40, 2, 0, 0xffffffffff, 0, false, false⟩,  -- IZP_MG_DST
    ⟨0x20, 4096, 0x40, 1, 0, 0x3fff, 0, false, false⟩,  -- IZP_MG_WINDOW
    ⟨0x24, 4096, 0x40, 1, 0, 0, 0, false, false⟩,  -- IZP_MG_MSEQ
    ⟨0x28, 4096, 0x40, 2, 0, 0, 0xffffffffffffffff, false, false⟩,  -- IZP_MG_PRUNE
    ⟨0x30, 4096, 0x40, 1, 0, 0, 0, true, false⟩,  -- IZP_MG_STALLS
    ⟨0x40000, 16384, 4, 1, 0, 0xffff, 0, false, false⟩,  -- IZP_MSLOT
    ⟨0x50000, 2048, 4, 1, 0, 0xffffffff, 0, false, false⟩,  -- IZP_ABSENT
    ⟨0x58000, 1, 0, 1, 0xff0000, 0x7ffffff, 0, false, false⟩,  -- IZP_GCFG
    ⟨0x58004, 1, 0, 1, 6, 6, 0, false, false⟩,  -- IZP_GCTRL
    ⟨0x58008, 1, 0, 1, 0, 0, 0, false, false⟩,  -- IZP_TAGS
    ⟨0x5800c, 1, 0, 1, 0xff, 0, 0, false, false⟩,  -- IZP_BYP
    ⟨0x58010, 1, 0, 1, 0, 0, 0, false, false⟩,  -- IZP_BYP_POLICY
    ⟨0x58020, 8, 4, 1, 0, 0x3ff, 0, false, false⟩,  -- IZP_RSEL
    ⟨0x58040, 1, 0, 2, 0, 0, 0, false, true⟩,  -- IZP_STAT_TAG_STALL
    ⟨0x58048, 1, 0, 2, 0, 0, 0, false, true⟩,  -- IZP_STAT_REQ_FAIL
    ⟨0x58050, 1, 0, 2, 0, 0, 0, false, true⟩,  -- IZP_STAT_LATE_CPL
    ⟨0x58058, 1, 0, 2, 0, 0, 0, false, true⟩,  -- IZP_STAT_MCAST_LINES
    ⟨0x58060, 1, 0, 2, 0, 0, 0, false, true⟩,  -- IZP_STAT_DROPPED
    ⟨0x5c000, 32, 4, 1, 0, 0, 0, false, false⟩]  -- IZP_RS_DIM

/-- The registers of block `STD_`. -/
def rowsStd : List RegRow :=
  [
    ⟨0, 1, 0, 1, 0, 0, 0, false, false⟩,  -- STD_STATUS
    ⟨4, 1, 0, 1, 2, 2, 0, false, false⟩,  -- STD_CTRL
    ⟨0x40, 1, 0, 2, 0, 0, 0, false, true⟩,  -- STD_STAT_SAMPLES
    ⟨0x48, 1, 0, 2, 0, 0, 0, false, true⟩,  -- STD_STAT_HELD
    ⟨0x50, 1, 0, 2, 0, 0, 0, false, true⟩,  -- STD_STAT_STALE
    ⟨0x58, 1, 0, 2, 0, 0, 0, false, true⟩,  -- STD_STAT_OVERRUN
    ⟨0x60, 1, 0, 2, 0, 0, 0, false, true⟩,  -- STD_STAT_BREACH
    ⟨0x68, 1, 0, 2, 0, 0, 0, false, true⟩,  -- STD_STAT_CLAMP
    ⟨0x70, 1, 0, 2, 0, 0, 0, false, true⟩,  -- STD_STAT_FROZEN
    ⟨0x1000, 9, 0x20, 1, 0, 0xf03ff, 0, false, false⟩,  -- STD_CORE_CFG
    ⟨0x1004, 9, 0x20, 1, 0, 0, 0, false, false⟩,  -- STD_CORE_BANK
    ⟨0x1008, 9, 0x20, 1, 0, 0, 0, false, false⟩,  -- STD_CORE_SWEEP
    ⟨0x10000, 1152, 0x80, 1, 0, 0xffff03, 0, false, false⟩,  -- STD_SET_CFG
    ⟨0x10004, 1152, 0x80, 1, 0, 0xffffffff, 0, false, false⟩,  -- STD_SET_B0
    ⟨0x10008, 1152, 0x80, 1, 0, 0xffffffff, 0, false, false⟩,  -- STD_SET_B1
    ⟨0x1000c, 1152, 0x80, 1, 0, 0xffffffff, 0, false, false⟩,  -- STD_SET_B2
    ⟨0x10010, 1152, 0x80, 1, 0, 0xffffffff, 0, false, false⟩,  -- STD_SET_B3
    ⟨0x10014, 1152, 0x80, 1, 0, 0xffffffff, 0, false, false⟩,  -- STD_SET_A1
    ⟨0x10018, 1152, 0x80, 1, 0, 0xffffffff, 0, false, false⟩,  -- STD_SET_A2
    ⟨0x1001c, 1152, 0x80, 1, 0, 0xffffffff, 0, false, false⟩,  -- STD_SET_A3
    ⟨0x10020, 1152, 0x80, 1, 0, 0xffffffff, 0, false, false⟩,  -- STD_SET_NB0
    ⟨0x10024, 1152, 0x80, 1, 0, 0xffffffff, 0, false, false⟩,  -- STD_SET_NB1
    ⟨0x10028, 1152, 0x80, 1, 0, 0xffffffff, 0, false, false⟩,  -- STD_SET_NB2
    ⟨0x1002c, 1152, 0x80, 1, 0, 0xffffffff, 0, false, false⟩,  -- STD_SET_NA1
    ⟨0x10030, 1152, 0x80, 1, 0, 0xffffffff, 0, false, false⟩,  -- STD_SET_NA2
    ⟨0x10034, 1152, 0x80, 1, 0, 0x3fffffff, 0, false, false⟩,  -- STD_SET_SH0
    ⟨0x10038, 1152, 0x80, 1, 0, 0x3fffffff, 0, false, false⟩,  -- STD_SET_SH1
    ⟨0x1003c, 1152, 0x80, 1, 0, 0xffffffff, 0, false, false⟩,  -- STD_SET_MA
    ⟨0x10040, 1152, 0x80, 1, 0, 0xffffffff, 0, false, false⟩,  -- STD_SET_MB
    ⟨0x10044, 1152, 0x80, 1, 0, 0x3ff, 0, false, false⟩,  -- STD_SET_MSH
    ⟨0x10048, 1152, 0x80, 1, 0, 0xffffff, 0, false, false⟩,  -- STD_SET_RESTH
    ⟨0x1004c, 1152, 0x80, 1, 0xffff0000, 0xffffffff, 0, false, false⟩,  -- STD_SET_LIMITS
    ⟨0x40000, 9216, 0x10, 1, 0, 0x1ff3f03, 0, false, false⟩,  -- STD_LOOP_CFG
    ⟨0x40004, 9216, 0x10, 1, 0, 0xffffff, 0, false, false⟩,  -- STD_LOOP_SP
    ⟨0x40008, 9216, 0x10, 1, 0, 0, 0, false, false⟩,  -- STD_LOOP_STATE
    ⟨0x4000c, 9216, 0x10, 1, 0, 0, 0, false, false⟩]  -- STD_LOOP_RES

/-- The registers of block `MON_`. -/
def rowsMon : List RegRow :=
  [
    ⟨0, 1, 0, 1, 0, 0, 0, false, false⟩,  -- MON_STATUS
    ⟨4, 1, 0, 1, 6, 6, 0, false, false⟩,  -- MON_CTRL
    ⟨8, 1, 0, 1, 0xa, 0xff, 0, false, false⟩,  -- MON_ROUND_CFG
    ⟨0xc, 1, 0, 1, 0x8000, 0xffffff, 0, false, false⟩,  -- MON_XCHK_TOL
    ⟨0x10, 1, 0, 1, 0, 0, 0x200000, false, false⟩,  -- MON_TEMP
    ⟨0x14, 1, 0, 1, 0, 0, 0, false, false⟩,  -- MON_TEMP_LIM
    ⟨0x18, 1, 0, 1, 0, 0, 0, true, false⟩,  -- MON_TEMP_PEAK
    ⟨0x1c, 1, 0, 1, 0, 0, 0, false, false⟩,  -- MON_URGENT
    ⟨0x20, 1, 0, 1, 0, 0, 0, false, false⟩,  -- MON_URGENT_RES
    ⟨0x40, 1, 0, 2, 0, 0, 0, false, true⟩,  -- MON_STAT_RESULTS
    ⟨0x48, 1, 0, 2, 0, 0, 0, false, true⟩,  -- MON_STAT_DROPPED
    ⟨0x50, 1, 0, 2, 0, 0, 0, false, true⟩,  -- MON_STAT_OVR
    ⟨0x58, 1, 0, 2, 0, 0, 0, false, true⟩,  -- MON_STAT_XCHK_FAIL
    ⟨0x60, 1, 0, 2, 0, 0, 0, false, true⟩,  -- MON_STAT_REF_FAIL
    ⟨0x68, 1, 0, 2, 0, 0, 0, false, true⟩,  -- MON_STAT_THROTTLE_ROUNDS
    ⟨0x1000, 16, 0x20, 1, 0x400001, 0x7ff0007, 0, false, false⟩,  -- MON_CFG
    ⟨0x1004, 16, 0x20, 1, 0xffffffff, 0xffffffff, 0, false, false⟩,  -- MON_SCAN
    ⟨0x1008, 16, 0x20, 1, 0, 0, 0x1e00, false, false⟩,  -- MON_CSTAT
    ⟨0x100c, 16, 0x20, 1, 0, 0, 0, false, false⟩,  -- MON_CAL_CMD
    ⟨0x1010, 16, 0x20, 1, 0, 0, 0, false, false⟩,  -- MON_CAL_OFS
    ⟨0x1014, 16, 0x20, 1, 0x40000000, 0, 0, false, false⟩,  -- MON_CAL_GAIN
    ⟨0x2000, 512, 4, 1, 0, 0, 0, false, false⟩]  -- MON_RES

/-- The registers of block `TRM_`. -/
def rowsTrm : List RegRow :=
  [
    ⟨0, 1, 0, 1, 0, 0, 0, false, false⟩,  -- TRM_STATUS
    ⟨4, 1, 0, 1, 2, 2, 0, false, false⟩,  -- TRM_CTRL
    ⟨0x40, 1, 0, 2, 0, 0, 0, false, true⟩,  -- TRM_STAT_DROPPED
    ⟨0x48, 1, 0, 2, 0, 0, 0, false, true⟩,  -- TRM_STAT_QOVF
    ⟨0x50, 1, 0, 2, 0, 0, 0, false, true⟩,  -- TRM_STAT_SHORT
    ⟨0x58, 1, 0, 2, 0, 0, 0, false, true⟩,  -- TRM_STAT_HOLDS
    ⟨0x10000, 9216, 0x10, 1, 0, 0xffff, 0, false, false⟩,  -- TRM_CH_CFG
    ⟨0x10004, 9216, 0x10, 1, 0, 0, 0x3000000, false, false⟩,  -- TRM_CH_STAT
    ⟨0x10008, 9216, 0x10, 1, 0, 0, 0, false, false⟩]  -- TRM_CH_PUSH

/-- The registers of block `PCI_`. -/
def rowsPci : List RegRow :=
  [
    ⟨0, 1, 0, 1, 0, 0, 0, false, false⟩,  -- PCI_STATUS
    ⟨4, 1, 0, 1, 2, 2, 0, false, false⟩,  -- PCI_CTRL
    ⟨8, 1, 0, 2, 0, 0xffc0000000, 0, false, false⟩,  -- PCI_WIN_BASE
    ⟨0x10, 1, 0, 1, 0, 0x1ffff, 0, false, false⟩,  -- PCI_WIN_CFG
    ⟨0x14, 1, 0, 1, 0, 0, 0, false, false⟩,  -- PCI_TAGS
    ⟨0x40, 1, 0, 2, 0, 0, 0, false, true⟩,  -- PCI_STAT_TAG_STALL
    ⟨0x48, 1, 0, 2, 0, 0, 0, false, true⟩,  -- PCI_STAT_POISON_RX
    ⟨0x50, 1, 0, 2, 0, 0, 0, false, true⟩,  -- PCI_STAT_POISON_TX
    ⟨0x58, 1, 0, 2, 0, 0, 0, false, true⟩,  -- PCI_STAT_CPL_FAIL
    ⟨0x60, 1, 0, 2, 0, 0, 0, false, true⟩,  -- PCI_STAT_OFF_ACCESS
    ⟨0x68, 1, 0, 2, 0, 0, 0, false, true⟩,  -- PCI_STAT_LINK_DOWN
    ⟨0x1000, 256, 8, 2, 0, 0xffffffffc0000001, 0, false, false⟩]  -- PCI_APT

/-- The registers of each block. -/
def Block.rows : Block → List RegRow
  | .dev => rowsDev
  | .vnt => rowsVnt
  | .pwr => rowsPwr
  | .clk => rowsClk
  | .sec => rowsSec
  | .jig => rowsJig
  | .evt => rowsEvt
  | .flt => rowsFlt
  | .ftm => rowsFtm
  | .lth => rowsLth
  | .acc => rowsAcc
  | .fin => rowsFin
  | .oll => rowsOll
  | .inf => rowsInf
  | .cal => rowsCal
  | .str => rowsStr
  | .wtb => rowsWtb
  | .sem => rowsSem
  | .hbm => rowsHbm
  | .rdc => rowsRdc
  | .izp => rowsIzp
  | .izpg => rowsIzpg
  | .std => rowsStd
  | .mon => rowsMon
  | .trm => rowsTrm
  | .pci => rowsPci

/-! ## Offsets in the register range (R16) -/

def LTH_ID (n : Nat) : Nat := 0x100000 + 0x40000 * n
def LTH_STATUS (n : Nat) : Nat := 0x100004 + 0x40000 * n
def LTH_CTRL (n : Nat) : Nat := 0x100008 + 0x40000 * n
def LTH_GAIN_OVR (n : Nat) : Nat := 0x10000c + 0x40000 * n
def LTH_BANK_AGE_MAX (n : Nat) : Nat := 0x100010 + 0x40000 * n
def LTH_PIPE_LAT (n : Nat) : Nat := 0x100014 + 0x40000 * n
def LTH_SPARE_USE (n : Nat) : Nat := 0x100018 + 0x40000 * n
def LTH_STAT_STROKES (n : Nat) : Nat := 0x100040 + 0x40000 * n
def LTH_STAT_DATA_SYM (n : Nat) : Nat := 0x100048 + 0x40000 * n
def LTH_STAT_GUARD_SYM (n : Nat) : Nat := 0x100050 + 0x40000 * n
def LTH_STAT_IDLE_SYM (n : Nat) : Nat := 0x100058 + 0x40000 * n
def LTH_STAT_OVERRANGE (n : Nat) : Nat := 0x100060 + 0x40000 * n
def LTH_STAT_ALIGNED_BLK (n : Nat) : Nat := 0x100068 + 0x40000 * n
def LTH_STAT_IN80 (n : Nat) : Nat := 0x100070 + 0x40000 * n
def LTH_STAT_REFRESH (n : Nat) : Nat := 0x100078 + 0x40000 * n
def LTH_STAT_BANK_WRITES (n : Nat) : Nat := 0x100080 + 0x40000 * n
def LTH_STAT_W7_CLAMP (n : Nat) : Nat := 0x100088 + 0x40000 * n
def LTH_LASER (n i : Nat) : Nat := 0x100100 + 0x40000 * n + 4 * i
def LTH_ROWMAP (n i : Nat) : Nat := 0x101000 + 0x40000 * n + 4 * i
def LTH_COLMAP (n i : Nat) : Nat := 0x102000 + 0x40000 * n + 4 * i
def OLL_STATUS (n : Nat) : Nat := 0x118000 + 0x40000 * n
def OLL_CTRL (n : Nat) : Nat := 0x118004 + 0x40000 * n
def OLL_CAP (n : Nat) : Nat := 0x118008 + 0x40000 * n
def OLL_STAT_STROKES (n : Nat) : Nat := 0x118040 + 0x40000 * n
def OLL_STAT_STRETCHED (n : Nat) : Nat := 0x118048 + 0x40000 * n
def OLL_STAT_STRETCH_SYM (n : Nat) : Nat := 0x118050 + 0x40000 * n
def OLL_STAT_FLUSH (n : Nat) : Nat := 0x118058 + 0x40000 * n
def OLL_STAT_NAN (n : Nat) : Nat := 0x118060 + 0x40000 * n
def OLL_CHAN (n i : Nat) : Nat := 0x118100 + 0x40000 * n + 4 * i
def ACC_STATUS (n : Nat) : Nat := 0x108000 + 0x40000 * n
def ACC_CTRL (n : Nat) : Nat := 0x108004 + 0x40000 * n
def ACC_TILE (n i : Nat) : Nat := 0x108008 + 0x40000 * n + 4 * i
def ACC_SPAN_CFG (n : Nat) : Nat := 0x108010 + 0x40000 * n
def ACC_STAT_ADDS (n : Nat) : Nat := 0x108040 + 0x40000 * n
def ACC_STAT_SAT (n : Nat) : Nat := 0x108048 + 0x40000 * n
def ACC_STAT_BETA_LOSS (n : Nat) : Nat := 0x108050 + 0x40000 * n
def ACC_STAT_SPAN_MOVES (n : Nat) : Nat := 0x108058 + 0x40000 * n
def ACC_STAT_INVALID (n : Nat) : Nat := 0x108060 + 0x40000 * n
def ACC_GRP_STATE (n i : Nat) : Nat := 0x108100 + 0x40000 * n + 0x10 * i
def ACC_GRP_ROWS (n i : Nat) : Nat := 0x108104 + 0x40000 * n + 0x10 * i
def ACC_GRP_SPAN (n i : Nat) : Nat := 0x108108 + 0x40000 * n + 0x10 * i
def ACC_GRP_SCALE (n i : Nat) : Nat := 0x10810c + 0x40000 * n + 0x10 * i
def ACC_DBG_ROW (n : Nat) : Nat := 0x108200 + 0x40000 * n
def ACC_DBG_CK (n i : Nat) : Nat := 0x108220 + 0x40000 * n + 4 * i
def FIN_STATUS (n : Nat) : Nat := 0x110000 + 0x40000 * n
def FIN_CTRL (n : Nat) : Nat := 0x110004 + 0x40000 * n
def FIN_SR_SEED (n : Nat) : Nat := 0x110008 + 0x40000 * n
def FIN_STAT_ROWS (n : Nat) : Nat := 0x110040 + 0x40000 * n
def FIN_STAT_STALL_CYC (n : Nat) : Nat := 0x110048 + 0x40000 * n
def FIN_STAT_IN80 (n : Nat) : Nat := 0x110050 + 0x40000 * n
def FIN_STAT_UPD_ELEM (n : Nat) : Nat := 0x110058 + 0x40000 * n
def FIN_STAT_UPD_SKIP (n : Nat) : Nat := 0x110060 + 0x40000 * n
def FIN_STAT_FLUSH (n : Nat) : Nat := 0x110068 + 0x40000 * n
def STR_STATUS (n : Nat) : Nat := 0x130000 + 0x40000 * n
def STR_CTRL (n : Nat) : Nat := 0x130004 + 0x40000 * n
def STR_ABORT (n : Nat) : Nat := 0x130008 + 0x40000 * n
def STR_ABORT_ARG (n : Nat) : Nat := 0x13000c + 0x40000 * n
def STR_TAGS (n : Nat) : Nat := 0x130010 + 0x40000 * n
def STR_STAT_ACCEPTED (n : Nat) : Nat := 0x130040 + 0x40000 * n
def STR_STAT_DONE (n : Nat) : Nat := 0x130048 + 0x40000 * n
def STR_STAT_ABORTED (n : Nat) : Nat := 0x130050 + 0x40000 * n
def STR_STAT_ABORT_LATE (n : Nat) : Nat := 0x130058 + 0x40000 * n
def STR_STAT_REARM_REJECT (n : Nat) : Nat := 0x130060 + 0x40000 * n
def STR_STAT_DEADLINE_MISS (n : Nat) : Nat := 0x130068 + 0x40000 * n
def STR_STAT_TAG_STALL (n : Nat) : Nat := 0x130070 + 0x40000 * n
def STR_SQ_BASE (n i : Nat) : Nat := 0x130100 + 0x40000 * n + 0x20 * i
def STR_SQ_CFG (n i : Nat) : Nat := 0x130108 + 0x40000 * n + 0x20 * i
def STR_SQ_HEAD (n i : Nat) : Nat := 0x13010c + 0x40000 * n + 0x20 * i
def STR_SQ_TAIL (n i : Nat) : Nat := 0x130110 + 0x40000 * n + 0x20 * i
def STR_DESC_SRC (n i : Nat) : Nat := 0x134000 + 0x40000 * n + 0x40 * i
def STR_DESC_DST (n i : Nat) : Nat := 0x134008 + 0x40000 * n + 0x40 * i
def STR_DESC_ROWB (n i : Nat) : Nat := 0x134010 + 0x40000 * n + 0x40 * i
def STR_DESC_ROWS (n i : Nat) : Nat := 0x134014 + 0x40000 * n + 0x40 * i
def STR_DESC_SSTR (n i : Nat) : Nat := 0x134018 + 0x40000 * n + 0x40 * i
def STR_DESC_DSTR (n i : Nat) : Nat := 0x134020 + 0x40000 * n + 0x40 * i
def STR_DESC_MODE (n i : Nat) : Nat := 0x134028 + 0x40000 * n + 0x40 * i
def STR_DESC_STATE (n i : Nat) : Nat := 0x134030 + 0x40000 * n + 0x40 * i
def STR_DESC_GEN (n i : Nat) : Nat := 0x134034 + 0x40000 * n + 0x40 * i
def STR_DESC_CMD (n i : Nat) : Nat := 0x134038 + 0x40000 * n + 0x40 * i
def INF_CFG (n : Nat) : Nat := 0x120000 + 0x40000 * n
def INF_CTRL (n : Nat) : Nat := 0x120004 + 0x40000 * n
def INF_STAT_RD_BYTES (n : Nat) : Nat := 0x120040 + 0x40000 * n
def INF_STAT_WR_BYTES (n : Nat) : Nat := 0x120048 + 0x40000 * n
def INF_STAT_PARITY (n : Nat) : Nat := 0x120050 + 0x40000 * n
def SEM_STATUS : Nat := 0x340000
def SEM_CTRL : Nat := 0x340004
def SEM_STAT_SIGNALS : Nat := 0x340040
def SEM_STAT_WAITS : Nat := 0x340048
def SEM_STAT_TIMEOUTS : Nat := 0x340050
def SEM_VAL (i : Nat) : Nat := 0x350000 + 0x10 * i
def SEM_CFG (i : Nat) : Nat := 0x350004 + 0x10 * i
def SEM_WAITERS (i : Nat) : Nat := 0x350008 + 0x10 * i
def SEM_ADD (i : Nat) : Nat := 0x35000c + 0x10 * i
def WTB_CTL (i : Nat) : Nat := 0x300000 + 0x40 * i
def WTB_ID (i : Nat) : Nat := 0x300004 + 0x40 * i
def WTB_BLANK (i : Nat) : Nat := 0x300008 + 0x40 * i
def WTB_INLAY (i : Nat) : Nat := 0x300010 + 0x40 * i
def WTB_GEOM (i : Nat) : Nat := 0x300018 + 0x40 * i
def WTB_FIRST (i : Nat) : Nat := 0x30001c + 0x40 * i
def WTB_COUNT (i : Nat) : Nat := 0x300020 + 0x40 * i
def WTB_SHARD (i : Nat) : Nat := 0x300024 + 0x40 * i
def WTB_MIRROR (i : Nat) : Nat := 0x300028 + 0x40 * i
def WTB_TMO (i : Nat) : Nat := 0x300030 + 0x40 * i
def WTB_GEN (i : Nat) : Nat := 0x300034 + 0x40 * i
def WTB_PGEN (i : Nat) : Nat := 0x300038 + 0x40 * i
def WTB_REREAD (i : Nat) : Nat := 0x30003c + 0x40 * i
def DEV_LT_GEN : Nat := 0x8000
def DEV_LT_CTRL : Nat := 0x8004
def DEV_LT_SWAP_RATE : Nat := 0x8008
def DEV_LT_STATUS : Nat := 0x800c
def DEV_LT_PASS (i : Nat) : Nat := 0x8040 + 8 * i
def DEV_LT_LATCH (i : Nat) : Nat := 0x8044 + 8 * i
def DEV_LT_STAT_REREAD : Nat := 0x8100
def DEV_LT_STAT_MIRROR : Nat := 0x8108
def DEV_LT_STAT_STALE : Nat := 0x8110
def DEV_LT_STAT_SWAPS : Nat := 0x8118
def DEV_LT_BUILD_SRC : Nat := 0x8200
def DEV_LT_BUILD_DST : Nat := 0x8208
def DEV_LT_BUILD_OUT : Nat := 0x8210
def DEV_LT_BUILD_GEOM : Nat := 0x8218
def DEV_LT_BUILD_ID : Nat := 0x821c
def DEV_LT_BUILD_FIRST : Nat := 0x8220
def DEV_LT_BUILD_COUNT : Nat := 0x8224
def DEV_LT_BUILD_CMD : Nat := 0x8228
def HBM_STATUS (n : Nat) : Nat := 0x400000 + 0x10000 * n
def HBM_CTRL (n : Nat) : Nat := 0x400004 + 0x10000 * n
def HBM_SCRUB_CFG (n : Nat) : Nat := 0x400008 + 0x10000 * n
def HBM_SCRUB_POS (n : Nat) : Nat := 0x40000c + 0x10000 * n
def HBM_TEMP (n : Nat) : Nat := 0x400010 + 0x10000 * n
def HBM_RETIRE_CMD (n : Nat) : Nat := 0x400014 + 0x10000 * n
def HBM_RETIRED (n : Nat) : Nat := 0x400018 + 0x10000 * n
def HBM_HOLE (n : Nat) : Nat := 0x40001c + 0x10000 * n
def HBM_ERR_ADDR (n : Nat) : Nat := 0x400020 + 0x10000 * n
def HBM_ERR_INFO (n : Nat) : Nat := 0x400028 + 0x10000 * n
def HBM_STAT_CE (n : Nat) : Nat := 0x400040 + 0x10000 * n
def HBM_STAT_UE (n : Nat) : Nat := 0x400048 + 0x10000 * n
def HBM_STAT_POISON_RD (n : Nat) : Nat := 0x400050 + 0x10000 * n
def HBM_STAT_RETRY_OK (n : Nat) : Nat := 0x400058 + 0x10000 * n
def HBM_STAT_SCRUB_FIX (n : Nat) : Nat := 0x400060 + 0x10000 * n
def HBM_STAT_PARTIAL (n : Nat) : Nat := 0x400068 + 0x10000 * n
def HBM_CH_STATE (n i : Nat) : Nat := 0x400100 + 0x10000 * n + 8 * i
def HBM_CH_ERR (n i : Nat) : Nat := 0x400104 + 0x10000 * n + 8 * i
def RDC_BUSY (n : Nat) : Nat := 0x408000 + 0x10000 * n
def RDC_CTRL (n : Nat) : Nat := 0x408004 + 0x10000 * n
def RDC_STAT_LINES (n : Nat) : Nat := 0x408040 + 0x10000 * n
def RDC_STAT_SAT (n : Nat) : Nat := 0x408048 + 0x10000 * n
def RDC_STAT_POISON (n : Nat) : Nat := 0x408050 + 0x10000 * n
def RDC_STAT_REMOTE (n : Nat) : Nat := 0x408058 + 0x10000 * n
def RDC_STAT_MARKS (n : Nat) : Nat := 0x408060 + 0x10000 * n
def RDC_STAT_TAG_STALL (n : Nat) : Nat := 0x408068 + 0x10000 * n
def RDC_CH_LINES (n i : Nat) : Nat := 0x408100 + 0x10000 * n + 4 * i
def IZP_STATUS (n : Nat) : Nat := 0x500000 + 0x4000 * n
def IZP_CTRL (n : Nat) : Nat := 0x500004 + 0x4000 * n
def IZP_PEER (n : Nat) : Nat := 0x500008 + 0x4000 * n
def IZP_STAT_TX_BYTES (n : Nat) : Nat := 0x500040 + 0x4000 * n
def IZP_STAT_RX_BYTES (n : Nat) : Nat := 0x500048 + 0x4000 * n
def IZP_STAT_FEC_CORR (n : Nat) : Nat := 0x500050 + 0x4000 * n
def IZP_STAT_FEC_UNCORR (n : Nat) : Nat := 0x500058 + 0x4000 * n
def IZP_STAT_CRC_FAIL (n : Nat) : Nat := 0x500060 + 0x4000 * n
def IZP_STAT_REPLAY (n : Nat) : Nat := 0x500068 + 0x4000 * n
def IZP_STAT_RETRAIN (n : Nat) : Nat := 0x500070 + 0x4000 * n
def IZP_STAT_POISON_RX (n : Nat) : Nat := 0x500078 + 0x4000 * n
def IZP_MG_CTL (i : Nat) : Nat := 0x540000 + 0x40 * i
def IZP_MG_SLOTS (i : Nat) : Nat := 0x540004 + 0x40 * i
def IZP_MG_SRC (i : Nat) : Nat := 0x540008 + 0x40 * i
def IZP_MG_LEN (i : Nat) : Nat := 0x540010 + 0x40 * i
def IZP_MG_HOLD (i : Nat) : Nat := 0x540014 + 0x40 * i
def IZP_MG_DST (i : Nat) : Nat := 0x540018 + 0x40 * i
def IZP_MG_WINDOW (i : Nat) : Nat := 0x540020 + 0x40 * i
def IZP_MG_MSEQ (i : Nat) : Nat := 0x540024 + 0x40 * i
def IZP_MG_PRUNE (i : Nat) : Nat := 0x540028 + 0x40 * i
def IZP_MG_STALLS (i : Nat) : Nat := 0x540030 + 0x40 * i
def IZP_MSLOT (i : Nat) : Nat := 0x580000 + 4 * i
def IZP_ABSENT (i : Nat) : Nat := 0x590000 + 4 * i
def IZP_GCFG : Nat := 0x598000
def IZP_GCTRL : Nat := 0x598004
def IZP_TAGS : Nat := 0x598008
def IZP_BYP : Nat := 0x59800c
def IZP_BYP_POLICY : Nat := 0x598010
def IZP_RSEL (i : Nat) : Nat := 0x598020 + 4 * i
def IZP_STAT_TAG_STALL : Nat := 0x598040
def IZP_STAT_REQ_FAIL : Nat := 0x598048
def IZP_STAT_LATE_CPL : Nat := 0x598050
def IZP_STAT_MCAST_LINES : Nat := 0x598058
def IZP_STAT_DROPPED : Nat := 0x598060
def IZP_RS_DIM (i : Nat) : Nat := 0x59c000 + 4 * i
def FTM_NOW_LO : Nat := 0x80000
def FTM_NOW_HI : Nat := 0x80004
def FTM_STATUS : Nat := 0x80008
def FTM_CFG : Nat := 0x8000c
def FTM_CTRL : Nat := 0x80010
def FTM_OFFSET : Nat := 0x80014
def FTM_UNCERT : Nat := 0x80018
def FTM_FREQ : Nat := 0x8001c
def FTM_SET : Nat := 0x80020
def FTM_GM : Nat := 0x80028
def FTM_STAT_STEPS : Nat := 0x80040
def FTM_STAT_HOLDOVERS : Nat := 0x80048
def FTM_STAT_GM_CHANGES : Nat := 0x80050
def FTM_LINK_DELAY (i : Nat) : Nat := 0x80100 + 4 * i
def FLT_STATUS : Nat := 0x70000
def FLT_CTRL : Nat := 0x70004
def FLT_CFG : Nat := 0x70008
def FLT_STAT_TESTS : Nat := 0x70040
def FLT_STAT_FAILS : Nat := 0x70048
def FLT_STAT_REPLAYS : Nat := 0x70050
def FLT_STAT_OUTCOME (i : Nat) : Nat := 0x70050 + 8 * i
def FLT_STAT_UNARBITRATED : Nat := 0x70090
def FLT_STAT_SUSPECT : Nat := 0x70098
def FLT_STAT_SUSPECT_POISON : Nat := 0x700a0
def FLT_STAT_EARLY_POISON : Nat := 0x700a8
def FLT_STAT_DIPS : Nat := 0x700b0
def FLT_SIGMA (i : Nat) : Nat := 0x70100 + 4 * i
def FLT_HIST_SEL : Nat := 0x70200
def FLT_HIST_CMD : Nat := 0x70204
def FLT_HIST_STATUS : Nat := 0x70208
def FLT_HIST_NOW : Nat := 0x7020c
def FLT_HIST_DATA (i : Nat) : Nat := 0x70220 + 4 * i
def STD_STATUS : Nat := 0x600000
def STD_CTRL : Nat := 0x600004
def STD_STAT_SAMPLES : Nat := 0x600040
def STD_STAT_HELD : Nat := 0x600048
def STD_STAT_STALE : Nat := 0x600050
def STD_STAT_OVERRUN : Nat := 0x600058
def STD_STAT_BREACH : Nat := 0x600060
def STD_STAT_CLAMP : Nat := 0x600068
def STD_STAT_FROZEN : Nat := 0x600070
def STD_CORE_CFG (i : Nat) : Nat := 0x601000 + 0x20 * i
def STD_CORE_BANK (i : Nat) : Nat := 0x601004 + 0x20 * i
def STD_CORE_SWEEP (i : Nat) : Nat := 0x601008 + 0x20 * i
def STD_SET_CFG (i : Nat) : Nat := 0x610000 + 0x80 * i
def STD_SET_B0 (i : Nat) : Nat := 0x610004 + 0x80 * i
def STD_SET_B1 (i : Nat) : Nat := 0x610008 + 0x80 * i
def STD_SET_B2 (i : Nat) : Nat := 0x61000c + 0x80 * i
def STD_SET_B3 (i : Nat) : Nat := 0x610010 + 0x80 * i
def STD_SET_A1 (i : Nat) : Nat := 0x610014 + 0x80 * i
def STD_SET_A2 (i : Nat) : Nat := 0x610018 + 0x80 * i
def STD_SET_A3 (i : Nat) : Nat := 0x61001c + 0x80 * i
def STD_SET_NB0 (i : Nat) : Nat := 0x610020 + 0x80 * i
def STD_SET_NB1 (i : Nat) : Nat := 0x610024 + 0x80 * i
def STD_SET_NB2 (i : Nat) : Nat := 0x610028 + 0x80 * i
def STD_SET_NA1 (i : Nat) : Nat := 0x61002c + 0x80 * i
def STD_SET_NA2 (i : Nat) : Nat := 0x610030 + 0x80 * i
def STD_SET_SH0 (i : Nat) : Nat := 0x610034 + 0x80 * i
def STD_SET_SH1 (i : Nat) : Nat := 0x610038 + 0x80 * i
def STD_SET_MA (i : Nat) : Nat := 0x61003c + 0x80 * i
def STD_SET_MB (i : Nat) : Nat := 0x610040 + 0x80 * i
def STD_SET_MSH (i : Nat) : Nat := 0x610044 + 0x80 * i
def STD_SET_RESTH (i : Nat) : Nat := 0x610048 + 0x80 * i
def STD_SET_LIMITS (i : Nat) : Nat := 0x61004c + 0x80 * i
def STD_LOOP_CFG (i : Nat) : Nat := 0x640000 + 0x10 * i
def STD_LOOP_SP (i : Nat) : Nat := 0x640004 + 0x10 * i
def STD_LOOP_STATE (i : Nat) : Nat := 0x640008 + 0x10 * i
def STD_LOOP_RES (i : Nat) : Nat := 0x64000c + 0x10 * i
def TRM_STATUS : Nat := 0x6c0000
def TRM_CTRL : Nat := 0x6c0004
def TRM_STAT_DROPPED : Nat := 0x6c0040
def TRM_STAT_QOVF : Nat := 0x6c0048
def TRM_STAT_SHORT : Nat := 0x6c0050
def TRM_STAT_HOLDS : Nat := 0x6c0058
def TRM_CH_CFG (i : Nat) : Nat := 0x6d0000 + 0x10 * i
def TRM_CH_STAT (i : Nat) : Nat := 0x6d0004 + 0x10 * i
def TRM_CH_PUSH (i : Nat) : Nat := 0x6d0008 + 0x10 * i
def MON_STATUS : Nat := 0x680000
def MON_CTRL : Nat := 0x680004
def MON_ROUND_CFG : Nat := 0x680008
def MON_XCHK_TOL : Nat := 0x68000c
def MON_TEMP : Nat := 0x680010
def MON_TEMP_LIM : Nat := 0x680014
def MON_TEMP_PEAK : Nat := 0x680018
def MON_URGENT : Nat := 0x68001c
def MON_URGENT_RES : Nat := 0x680020
def MON_STAT_RESULTS : Nat := 0x680040
def MON_STAT_DROPPED : Nat := 0x680048
def MON_STAT_OVR : Nat := 0x680050
def MON_STAT_XCHK_FAIL : Nat := 0x680058
def MON_STAT_REF_FAIL : Nat := 0x680060
def MON_STAT_THROTTLE_ROUNDS : Nat := 0x680068
def MON_CFG (i : Nat) : Nat := 0x681000 + 0x20 * i
def MON_SCAN (i : Nat) : Nat := 0x681004 + 0x20 * i
def MON_CSTAT (i : Nat) : Nat := 0x681008 + 0x20 * i
def MON_CAL_CMD (i : Nat) : Nat := 0x68100c + 0x20 * i
def MON_CAL_OFS (i : Nat) : Nat := 0x681010 + 0x20 * i
def MON_CAL_GAIN (i : Nat) : Nat := 0x681014 + 0x20 * i
def MON_RES (i : Nat) : Nat := 0x682000 + 4 * i
def CAL_STATUS (n : Nat) : Nat := 0x128000 + 0x40000 * n
def CAL_CMD (n : Nat) : Nat := 0x128004 + 0x40000 * n
def CAL_AT (n : Nat) : Nat := 0x128008 + 0x40000 * n
def CAL_COUNT (n : Nat) : Nat := 0x128010 + 0x40000 * n
def CAL_RESULT (n : Nat) : Nat := 0x128014 + 0x40000 * n
def CAL_LAST_FT (n : Nat) : Nat := 0x128018 + 0x40000 * n
def CAL_SETSEL (n : Nat) : Nat := 0x128020 + 0x40000 * n
def CAL_KREF_ROW (n : Nat) : Nat := 0x128024 + 0x40000 * n
def CAL_KREF_COL (n : Nat) : Nat := 0x128028 + 0x40000 * n
def CAL_STAT_ACCEPTED (n : Nat) : Nat := 0x128040 + 0x40000 * n
def CAL_STAT_REJECTED (n : Nat) : Nat := 0x128048 + 0x40000 * n
def CAL_GAIN (n i : Nat) : Nat := 0x129000 + 0x40000 * n + 4 * i
def CAL_OFS (n i : Nat) : Nat := 0x12a000 + 0x40000 * n + 4 * i
def CAL_DGAIN (n i : Nat) : Nat := 0x12b000 + 0x40000 * n + 4 * i
def CAL_DOFS (n i : Nat) : Nat := 0x12c000 + 0x40000 * n + 4 * i
def CAL_COL (n i : Nat) : Nat := 0x12d000 + 0x40000 * n + 4 * i
def CAL_ROW (n i : Nat) : Nat := 0x12e000 + 0x40000 * n + 4 * i
def DEV_CAL_CMD : Nat := 0x9000
def DEV_CAL_AT : Nat := 0x9008
def DEV_CAL_STATUS : Nat := 0x9010
def PWR_STATUS : Nat := 0x20000
def PWR_CTRL : Nat := 0x20004
def PWR_STATE_REQ : Nat := 0x20008
def PWR_QUIESCE_TMO : Nat := 0x2000c
def PWR_STATE_AT : Nat := 0x20010
def PWR_INPUT : Nat := 0x20018
def PWR_LIMIT : Nat := 0x2001c
def PWR_START : Nat := 0x20020
def PWR_STAT_TRANSITIONS : Nat := 0x20040
def PWR_STAT_CAP_MS : Nat := 0x20048
def PWR_STAT_INPUT_WARN : Nat := 0x20050
def PWR_DOM_STATUS (i : Nat) : Nat := 0x20100 + 8 * i
def PWR_DOM_CMD (i : Nat) : Nat := 0x20104 + 8 * i
def CLK_LOCK_LO : Nat := 0x30000
def CLK_LOCK_HI : Nat := 0x30004
def CLK_REF : Nat := 0x30008
def CLK_CTRL : Nat := 0x3000c
def CLK_STAT_UNLOCK : Nat := 0x30040
def CLK_DOM (i : Nat) : Nat := 0x30100 + 4 * i
def SEC_STATUS : Nat := 0x40000
def SEC_CTRL : Nat := 0x40004
def SEC_STAT_QUOTES : Nat := 0x40040
def SEC_STAT_AUTH_FAIL : Nat := 0x40048
def SEC_STAT_VERIFY_FAIL : Nat := 0x40050
def SEC_MEAS (i : Nat) : Nat := 0x40100 + 4 * i
def SEC_DEVID (i : Nat) : Nat := 0x40500 + 4 * i
def SEC_CTR (i : Nat) : Nat := 0x40540 + 4 * i
def SEC_SLOT (i : Nat) : Nat := 0x40560 + 4 * i
def SEC_MBX_CTRL : Nat := 0x40600
def SEC_MBX_STATUS : Nat := 0x40604
def SEC_MBX_REQ (i : Nat) : Nat := 0x41000 + 4 * i
def SEC_MBX_RSP (i : Nat) : Nat := 0x43000 + 4 * i
def JIG_STATUS : Nat := 0x50000
def JIG_CMD : Nat := 0x50004
def JIG_AT : Nat := 0x50008
def JIG_SRC : Nat := 0x50010
def JIG_LEN : Nat := 0x50018
def JIG_RESULT : Nat := 0x5001c
def JIG_SLOT_VER (i : Nat) : Nat := 0x50020 + 8 * i
def JIG_SLOT_SVN (i : Nat) : Nat := 0x50024 + 8 * i
def JIG_HEALTH : Nat := 0x50038
def JIG_STAT_APPLIES : Nat := 0x50040
def JIG_STAT_ROLLBACKS : Nat := 0x50048
def JIG_FW_CMD : Nat := 0x50100
def JIG_FW_STATUS : Nat := 0x50104
def JIG_FW_SRC : Nat := 0x50108
def JIG_FW_LEN : Nat := 0x50110
def JIG_FW_VER (i : Nat) : Nat := 0x50120 + 4 * i
def PCI_STATUS : Nat := 0x700000
def PCI_CTRL : Nat := 0x700004
def PCI_WIN_BASE : Nat := 0x700008
def PCI_WIN_CFG : Nat := 0x700010
def PCI_TAGS : Nat := 0x700014
def PCI_STAT_TAG_STALL : Nat := 0x700040
def PCI_STAT_POISON_RX : Nat := 0x700048
def PCI_STAT_POISON_TX : Nat := 0x700050
def PCI_STAT_CPL_FAIL : Nat := 0x700058
def PCI_STAT_OFF_ACCESS : Nat := 0x700060
def PCI_STAT_LINK_DOWN : Nat := 0x700068
def PCI_APT (i : Nat) : Nat := 0x701000 + 8 * i
def EVT_STATUS : Nat := 0x60000
def EVT_CTRL : Nat := 0x60004
def EVT_STAT_POSTED : Nat := 0x60040
def EVT_STAT_LOST : Nat := 0x60048
def EVT_MAP (i : Nat) : Nat := 0x60080 + 4 * i
def EVT_Q_BASE (i : Nat) : Nat := 0x60100 + 0x20 * i
def EVT_Q_CFG (i : Nat) : Nat := 0x60108 + 0x20 * i
def EVT_Q_HEAD (i : Nat) : Nat := 0x6010c + 0x20 * i
def EVT_Q_TAIL (i : Nat) : Nat := 0x60110 + 0x20 * i
def EVT_Q_LOST (i : Nat) : Nat := 0x60114 + 0x20 * i
def VNT_STATUS : Nat := 0x10000
def VNT_CTRL : Nat := 0x10004
def VNT_MBX_CMD : Nat := 0x10008
def VNT_MBX_STATUS : Nat := 0x1000c
def VNT_ALERT : Nat := 0x10010
def VNT_ALERT_CFG : Nat := 0x10014
def VNT_LOG_IDX : Nat := 0x10018
def VNT_STAT_OPS : Nat := 0x10040
def VNT_STAT_REFUSED : Nat := 0x10048
def VNT_MBX_REQ (i : Nat) : Nat := 0x10100 + 4 * i
def VNT_MBX_RSP (i : Nat) : Nat := 0x12000 + 4 * i
def VNT_LOG (i : Nat) : Nat := 0x14000 + 4 * i
def DEV_ID : Nat := 0
def DEV_FABRIC_ID : Nat := 4
def DEV_DEBUG : Nat := 8
def DEV_GRANT : Nat := 0xc
def DEV_RESET_CMD : Nat := 0x10

/-! ## Fields -/

def LTH_ID_LATHE : Fld := ⟨0, 3⟩
def LTH_ID_PDIE : Fld := ⟨3, 2⟩
def LTH_STATUS_SVC_STATE : Fld := ⟨0, 3⟩
def LTH_STATUS_LIVE_BANK : Fld := ⟨3, 1⟩
def LTH_STATUS_IDLE_STATE : Fld := ⟨4, 2⟩
def LTH_STATUS_REFRESHING : Fld := ⟨6, 1⟩
def LTH_STATUS_GANG_SHAPE : Fld := ⟨8, 3⟩
def LTH_STATUS_GANG : Fld := ⟨11, 3⟩
def LTH_STATUS_DEBUG : Fld := ⟨14, 1⟩
def LTH_STATUS_LASERS_LOCKED : Fld := ⟨15, 1⟩
def LTH_STATUS_MAP_ERR : Fld := ⟨16, 1⟩
def LTH_STATUS_THROTTLED : Fld := ⟨17, 1⟩
def LTH_STATUS_OOS_CAUSE : Fld := ⟨18, 4⟩
def LTH_CTRL_SVC_REQ : Fld := ⟨0, 1⟩
def LTH_CTRL_STAT_CLR : Fld := ⟨1, 1⟩
def LTH_CTRL_OVR_EVT_EN : Fld := ⟨3, 1⟩
def LTH_GAIN_OVR_GAIN : Fld := ⟨0, 4⟩
def LTH_GAIN_OVR_OVR_EN : Fld := ⟨8, 1⟩
def LTH_SPARE_USE_ROWS : Fld := ⟨0, 5⟩
def LTH_SPARE_USE_COLS : Fld := ⟨8, 5⟩
def LTH_SPARE_USE_STANDBY_POS : Fld := ⟨16, 4⟩
def LTH_LASER_STATE : Fld := ⟨0, 3⟩
def LTH_LASER_STANDBY : Fld := ⟨3, 1⟩
def LTH_LASER_POWER : Fld := ⟨8, 16⟩
def LTH_ROWMAP_PHYS : Fld := ⟨0, 10⟩
def LTH_COLMAP_PHYS : Fld := ⟨0, 10⟩
def OLL_STATUS_LOAD : Fld := ⟨0, 6⟩
def OLL_STATUS_STRETCH : Fld := ⟨6, 1⟩
def OLL_STATUS_RANK : Fld := ⟨8, 5⟩
def OLL_CTRL_NAN_EVT_EN : Fld := ⟨0, 1⟩
def OLL_CTRL_STAT_CLR : Fld := ⟨1, 1⟩
def OLL_CTRL_STRETCH_EVT_EN : Fld := ⟨2, 1⟩
def OLL_CAP_FULL_RATE_LOAD : Fld := ⟨0, 8⟩
def OLL_CAP_MAX_CHANS : Fld := ⟨8, 8⟩
def OLL_CAP_MAX_RANK : Fld := ⟨16, 8⟩
def OLL_CHAN_CHAN : Fld := ⟨0, 16⟩
def ACC_STATUS_MODE : Fld := ⟨0, 1⟩
def ACC_STATUS_OPEN : Fld := ⟨8, 4⟩
def ACC_STATUS_MOVING : Fld := ⟨12, 1⟩
def ACC_CTRL_MODE : Fld := ⟨0, 1⟩
def ACC_CTRL_STAT_CLR : Fld := ⟨1, 1⟩
def ACC_CTRL_SAT_EVT_EN : Fld := ⟨2, 1⟩
def ACC_CTRL_BETA_EVT_EN : Fld := ⟨3, 1⟩
def ACC_TILE_SIGMA : Fld := ⟨0, 4⟩
def ACC_TILE_EMPTY : Fld := ⟨4, 1⟩
def ACC_TILE_SAT : Fld := ⟨8, 1⟩
def ACC_TILE_OVR : Fld := ⟨9, 1⟩
def ACC_TILE_EXTENDED : Fld := ⟨10, 1⟩
def ACC_TILE_BETA_LOSS : Fld := ⟨11, 1⟩
def ACC_TILE_POISON : Fld := ⟨12, 1⟩
def ACC_SPAN_CFG_SPAN_MIB : Fld := ⟨0, 5⟩
def ACC_GRP_STATE_STATE : Fld := ⟨0, 3⟩
def ACC_GRP_STATE_TILE : Fld := ⟨3, 1⟩
def ACC_GRP_STATE_SAT : Fld := ⟨8, 1⟩
def ACC_GRP_STATE_OVR : Fld := ⟨9, 1⟩
def ACC_GRP_STATE_EXTENDED : Fld := ⟨10, 1⟩
def ACC_GRP_STATE_BETA_LOSS : Fld := ⟨11, 1⟩
def ACC_GRP_STATE_POISON : Fld := ⟨12, 1⟩
def ACC_GRP_STATE_CHECK_WAIT : Fld := ⟨13, 1⟩
def ACC_GRP_STATE_INFLIGHT : Fld := ⟨16, 8⟩
def ACC_GRP_STATE_CONTEXT : Fld := ⟨24, 8⟩
def ACC_GRP_ROWS_ROW_BASE : Fld := ⟨0, 13⟩
def ACC_GRP_ROWS_ROWS : Fld := ⟨16, 13⟩
def ACC_GRP_SPAN_COUNT : Fld := ⟨0, 8⟩
def ACC_GRP_SPAN_SPANS : Fld := ⟨8, 16⟩
def ACC_GRP_SCALE_BETA : Fld := ⟨0, 8⟩
def ACC_GRP_SCALE_SIGMA : Fld := ⟨8, 4⟩
def ACC_GRP_SCALE_FORMAT : Fld := ⟨12, 2⟩
def ACC_DBG_ROW_ROW : Fld := ⟨0, 13⟩
def ACC_DBG_ROW_VALID : Fld := ⟨16, 1⟩
def ACC_DBG_ROW_OWNED : Fld := ⟨17, 1⟩
def ACC_DBG_ROW_GROUP : Fld := ⟨18, 3⟩
def FIN_STATUS_OP : Fld := ⟨0, 3⟩
def FIN_STATUS_GROUP : Fld := ⟨3, 3⟩
def FIN_STATUS_STALLED : Fld := ⟨6, 1⟩
def FIN_STATUS_STALL_CAUSE : Fld := ⟨8, 2⟩
def FIN_CTRL_STAT_CLR : Fld := ⟨0, 1⟩
def FIN_CTRL_UPD_EVT_EN : Fld := ⟨2, 1⟩
def STR_STATUS_HELD : Fld := ⟨0, 11⟩
def STR_STATUS_STARTED : Fld := ⟨16, 5⟩
def STR_STATUS_LEAD : Fld := ⟨24, 1⟩
def STR_CTRL_STAT_CLR : Fld := ⟨0, 1⟩
def STR_CTRL_REARM_EVT_EN : Fld := ⟨1, 1⟩
def STR_CTRL_DEADLINE_EVT_EN : Fld := ⟨2, 1⟩
def STR_ABORT_SCOPE : Fld := ⟨0, 2⟩
def STR_TAGS_IN_USE : Fld := ⟨0, 14⟩
def STR_TAGS_PEAK : Fld := ⟨16, 14⟩
def STR_SQ_BASE_BASE : Fld := ⟨0, 40⟩
def STR_SQ_CFG_EN : Fld := ⟨0, 1⟩
def STR_SQ_CFG_LOG2_SIZE : Fld := ⟨1, 4⟩
def STR_SQ_CFG_PRIO : Fld := ⟨8, 2⟩
def STR_SQ_HEAD_INDEX : Fld := ⟨0, 16⟩
def STR_SQ_TAIL_INDEX : Fld := ⟨0, 16⟩
def STR_DESC_MODE_GRAIN : Fld := ⟨0, 1⟩
def STR_DESC_STATE_STATE : Fld := ⟨0, 3⟩
def STR_DESC_STATE_OWN : Fld := ⟨3, 1⟩
def STR_DESC_STATE_LAST : Fld := ⟨4, 2⟩
def STR_DESC_STATE_CONTEXT : Fld := ⟨8, 8⟩
def STR_DESC_GEN_GEN : Fld := ⟨0, 16⟩
def STR_DESC_GEN_DONE_GEN : Fld := ⟨16, 16⟩
def STR_DESC_CMD_CMD : Fld := ⟨0, 2⟩
def SEM_STATUS_WAITERS : Fld := ⟨0, 14⟩
def SEM_CTRL_STAT_CLR : Fld := ⟨0, 1⟩
def SEM_CTRL_OVF_EVT_EN : Fld := ⟨1, 1⟩
def SEM_CFG_CONTEXT : Fld := ⟨0, 8⟩
def SEM_CFG_CTX_CHECK : Fld := ⟨8, 1⟩
def SEM_WAITERS_COUNT : Fld := ⟨0, 11⟩
def WTB_CTL_VALID : Fld := ⟨0, 1⟩
def WTB_CTL_MIRROR_EN : Fld := ⟨1, 1⟩
def WTB_CTL_HOST : Fld := ⟨2, 1⟩
def WTB_CTL_STATE : Fld := ⟨4, 3⟩
def WTB_CTL_CLEAR : Fld := ⟨8, 1⟩
def WTB_CTL_FAULT_KIND : Fld := ⟨12, 2⟩
def WTB_CTL_FAULT_CTX : Fld := ⟨16, 8⟩
def WTB_ID_BLANK_ID : Fld := ⟨0, 16⟩
def WTB_ID_VERSION : Fld := ⟨16, 16⟩
def WTB_BLANK_ADDR : Fld := ⟨0, 40⟩
def WTB_INLAY_ADDR : Fld := ⟨0, 40⟩
def WTB_GEOM_SLICES : Fld := ⟨0, 12⟩
def WTB_GEOM_BLOCKS : Fld := ⟨12, 12⟩
def WTB_GEOM_RANK : Fld := ⟨24, 5⟩
def WTB_MIRROR_ADDR : Fld := ⟨0, 40⟩
def WTB_MIRROR_DEV : Fld := ⟨40, 16⟩
def WTB_TMO_MS : Fld := ⟨0, 16⟩
def DEV_LT_CTRL_STAT_CLR : Fld := ⟨0, 1⟩
def DEV_LT_CTRL_REREAD_EVT_EN : Fld := ⟨1, 1⟩
def DEV_LT_SWAP_RATE_RATE : Fld := ⟨0, 12⟩
def DEV_LT_STATUS_WAITING : Fld := ⟨0, 1⟩
def DEV_LT_STATUS_WRITING : Fld := ⟨1, 1⟩
def DEV_LT_STATUS_VERIFYING : Fld := ⟨2, 1⟩
def DEV_LT_STATUS_BUILDING : Fld := ⟨3, 1⟩
def DEV_LT_STATUS_OPEN_PASSES : Fld := ⟨4, 5⟩
def DEV_LT_STATUS_LAYER : Fld := ⟨16, 12⟩
def DEV_LT_PASS_OPEN : Fld := ⟨0, 1⟩
def DEV_LT_PASS_CONTEXT : Fld := ⟨8, 8⟩
def DEV_LT_BUILD_SRC_ADDR : Fld := ⟨0, 40⟩
def DEV_LT_BUILD_DST_ADDR : Fld := ⟨0, 40⟩
def DEV_LT_BUILD_OUT_ADDR : Fld := ⟨0, 40⟩
def DEV_LT_BUILD_GEOM_SLICES : Fld := ⟨0, 12⟩
def DEV_LT_BUILD_GEOM_BLOCKS : Fld := ⟨12, 12⟩
def DEV_LT_BUILD_ID_BLANK_ID : Fld := ⟨0, 16⟩
def DEV_LT_BUILD_ID_VERSION : Fld := ⟨16, 16⟩
def DEV_LT_BUILD_CMD_GO : Fld := ⟨0, 1⟩
def DEV_LT_BUILD_CMD_BUSY : Fld := ⟨1, 1⟩
def DEV_LT_BUILD_CMD_GAIN : Fld := ⟨4, 4⟩
def DEV_LT_BUILD_CMD_RESULT : Fld := ⟨8, 2⟩
def HBM_STATUS_UP : Fld := ⟨0, 1⟩
def HBM_STATUS_RETIRED : Fld := ⟨4, 4⟩
def HBM_STATUS_MIGRATING : Fld := ⟨8, 1⟩
def HBM_STATUS_SCRUBBING : Fld := ⟨9, 1⟩
def HBM_STATUS_REFRESH : Fld := ⟨10, 2⟩
def HBM_STATUS_TEMP_INVALID : Fld := ⟨12, 1⟩
def HBM_CTRL_STAT_CLR : Fld := ⟨0, 1⟩
def HBM_CTRL_CE_EVT_EN : Fld := ⟨1, 1⟩
def HBM_CTRL_SCRUB_EN : Fld := ⟨2, 1⟩
def HBM_CTRL_HOT_EVT_EN : Fld := ⟨3, 1⟩
def HBM_SCRUB_CFG_PERIOD : Fld := ⟨0, 8⟩
def HBM_SCRUB_POS_PROGRESS : Fld := ⟨0, 10⟩
def HBM_SCRUB_POS_PASSES : Fld := ⟨16, 16⟩
def HBM_TEMP_TEMP : Fld := ⟨0, 8⟩
def HBM_TEMP_VALID : Fld := ⟨8, 1⟩
def HBM_RETIRE_CMD_CHANNEL : Fld := ⟨0, 5⟩
def HBM_RETIRE_CMD_GO : Fld := ⟨8, 1⟩
def HBM_RETIRE_CMD_BUSY : Fld := ⟨9, 1⟩
def HBM_RETIRE_CMD_RESULT : Fld := ⟨10, 2⟩
def HBM_HOLE_START : Fld := ⟨0, 10⟩
def HBM_ERR_ADDR_ADDR : Fld := ⟨0, 40⟩
def HBM_ERR_INFO_CHANNEL : Fld := ⟨0, 5⟩
def HBM_ERR_INFO_PC : Fld := ⟨5, 1⟩
def HBM_ERR_INFO_SOURCE : Fld := ⟨6, 2⟩
def HBM_ERR_INFO_VALID : Fld := ⟨31, 1⟩
def HBM_CH_STATE_STATE : Fld := ⟨0, 2⟩
def HBM_CH_STATE_PERMANENT : Fld := ⟨2, 1⟩
def HBM_CH_ERR_CE : Fld := ⟨0, 16⟩
def HBM_CH_ERR_UE : Fld := ⟨16, 16⟩
def RDC_CTRL_STAT_CLR : Fld := ⟨0, 1⟩
def RDC_CTRL_SAT_EVT_EN : Fld := ⟨1, 1⟩
def IZP_STATUS_STATE : Fld := ⟨0, 3⟩
def IZP_STATUS_WAVES : Fld := ⟨4, 4⟩
def IZP_STATUS_HALF : Fld := ⟨8, 1⟩
def IZP_STATUS_CAUSE : Fld := ⟨9, 3⟩
def IZP_CTRL_EN : Fld := ⟨0, 1⟩
def IZP_CTRL_STAT_CLR : Fld := ⟨1, 1⟩
def IZP_CTRL_RETRAIN : Fld := ⟨2, 1⟩
def IZP_CTRL_EVT_EN : Fld := ⟨3, 1⟩
def IZP_PEER_DEV : Fld := ⟨0, 16⟩
def IZP_PEER_PORT : Fld := ⟨16, 4⟩
def IZP_PEER_VALID : Fld := ⟨31, 1⟩
def IZP_MG_CTL_EN : Fld := ⟨0, 1⟩
def IZP_MG_CTL_POLICY : Fld := ⟨1, 1⟩
def IZP_MG_CTL_RSET : Fld := ⟨2, 2⟩
def IZP_MG_CTL_HOLDING : Fld := ⟨4, 1⟩
def IZP_MG_CTL_ERR : Fld := ⟨5, 1⟩
def IZP_MG_SLOTS_SLOT_BASE : Fld := ⟨0, 14⟩
def IZP_MG_SLOTS_MEMBERS : Fld := ⟨16, 7⟩
def IZP_MG_SRC_ADDR : Fld := ⟨0, 40⟩
def IZP_MG_HOLD_US : Fld := ⟨0, 16⟩
def IZP_MG_DST_ADDR : Fld := ⟨0, 40⟩
def IZP_MG_WINDOW_LINES : Fld := ⟨0, 14⟩
def IZP_MSLOT_DEV : Fld := ⟨0, 16⟩
def IZP_MSLOT_CREDIT : Fld := ⟨16, 14⟩
def IZP_GCFG_REQ_TMO : Fld := ⟨0, 16⟩
def IZP_GCFG_HOP_LIMIT : Fld := ⟨16, 8⟩
def IZP_GCFG_REG_REMOTE : Fld := ⟨24, 1⟩
def IZP_GCFG_DEFAULT_RS : Fld := ⟨25, 2⟩
def IZP_GCTRL_STAT_CLR : Fld := ⟨0, 1⟩
def IZP_GCTRL_REQFAIL_EVT_EN : Fld := ⟨1, 1⟩
def IZP_GCTRL_MCAST_EVT_EN : Fld := ⟨2, 1⟩
def IZP_TAGS_IN_USE : Fld := ⟨0, 15⟩
def IZP_TAGS_PEAK : Fld := ⟨16, 15⟩
def IZP_BYP_CLOSED : Fld := ⟨0, 8⟩
def IZP_BYP_OPEN : Fld := ⟨8, 8⟩
def IZP_BYP_CLOSE : Fld := ⟨16, 8⟩
def IZP_BYP_MOVING : Fld := ⟨24, 8⟩
def IZP_BYP_POLICY_AUTO_OPEN : Fld := ⟨0, 8⟩
def IZP_RSEL_STREAM : Fld := ⟨0, 2⟩
def IZP_RSEL_WEIGHT : Fld := ⟨2, 2⟩
def IZP_RSEL_FIN : Fld := ⟨4, 2⟩
def IZP_RSEL_REDUCE : Fld := ⟨6, 2⟩
def IZP_RSEL_SIGNAL : Fld := ⟨8, 2⟩
def IZP_RS_DIM_SHIFT : Fld := ⟨0, 4⟩
def IZP_RS_DIM_WIDTH : Fld := ⟨4, 4⟩
def IZP_RS_DIM_SIZE_M1 : Fld := ⟨8, 16⟩
def IZP_RS_DIM_PAIRS : Fld := ⟨24, 8⟩
def FTM_STATUS_STATE : Fld := ⟨0, 2⟩
def FTM_STATUS_GM : Fld := ⟨2, 1⟩
def FTM_STATUS_HELD : Fld := ⟨3, 1⟩
def FTM_STATUS_PARENT : Fld := ⟨4, 4⟩
def FTM_STATUS_HOPS : Fld := ⟨8, 8⟩
def FTM_CFG_GM_CAPABLE : Fld := ⟨0, 1⟩
def FTM_CFG_REF : Fld := ⟨1, 2⟩
def FTM_CFG_PRIORITY : Fld := ⟨8, 8⟩
def FTM_CFG_UNCERT_MAX : Fld := ⟨16, 16⟩
def FTM_CTRL_STAT_CLR : Fld := ⟨0, 1⟩
def FTM_CTRL_LOCK_EVT_EN : Fld := ⟨1, 1⟩
def FTM_CTRL_STEP_EVT_EN : Fld := ⟨2, 1⟩
def FTM_GM_DEV : Fld := ⟨0, 16⟩
def FTM_GM_PRIORITY : Fld := ⟨16, 8⟩
def FTM_GM_VALID : Fld := ⟨31, 1⟩
def FTM_LINK_DELAY_NS : Fld := ⟨0, 24⟩
def FTM_LINK_DELAY_VALID : Fld := ⟨31, 1⟩
def FLT_STATUS_ARBITRATING : Fld := ⟨0, 8⟩
def FLT_STATUS_DIP : Fld := ⟨8, 8⟩
def FLT_STATUS_HIST_BUSY : Fld := ⟨16, 1⟩
def FLT_CTRL_STAT_CLR : Fld := ⟨0, 1⟩
def FLT_CTRL_ARB_EVT_EN : Fld := ⟨1, 1⟩
def FLT_CFG_KP : Fld := ⟨0, 8⟩
def FLT_CFG_KM : Fld := ⟨8, 8⟩
def FLT_CFG_JRNL_MIB : Fld := ⟨16, 4⟩
def FLT_SIGMA_SIG_R : Fld := ⟨0, 16⟩
def FLT_SIGMA_SIG_D : Fld := ⟨16, 16⟩
def FLT_HIST_SEL_UNIT : Fld := ⟨0, 16⟩
def FLT_HIST_SEL_LATHE : Fld := ⟨16, 3⟩
def FLT_HIST_CMD_CMD : Fld := ⟨0, 2⟩
def FLT_HIST_STATUS_BUSY : Fld := ⟨0, 1⟩
def FLT_HIST_STATUS_VALID : Fld := ⟨1, 1⟩
def FLT_HIST_STATUS_NO_UNIT : Fld := ⟨2, 1⟩
def STD_STATUS_SWEEPING : Fld := ⟨0, 9⟩
def STD_STATUS_BANK : Fld := ⟨16, 9⟩
def STD_CTRL_STAT_CLR : Fld := ⟨0, 1⟩
def STD_CTRL_OVR_EVT_EN : Fld := ⟨1, 1⟩
def STD_CORE_CFG_PERIOD : Fld := ⟨0, 10⟩
def STD_CORE_CFG_SUB : Fld := ⟨16, 4⟩
def STD_CORE_BANK_ACTIVE : Fld := ⟨0, 1⟩
def STD_CORE_BANK_SWAP : Fld := ⟨1, 1⟩
def STD_CORE_BANK_INIT : Fld := ⟨2, 1⟩
def STD_CORE_BANK_PENDING : Fld := ⟨3, 1⟩
def STD_CORE_SWEEP_LAST : Fld := ⟨0, 16⟩
def STD_CORE_SWEEP_MAX : Fld := ⟨16, 16⟩
def STD_SET_CFG_FORM : Fld := ⟨0, 1⟩
def STD_SET_CFG_NOTCH_EN : Fld := ⟨1, 1⟩
def STD_SET_CFG_PILOT : Fld := ⟨8, 8⟩
def STD_SET_CFG_RES_COUNT : Fld := ⟨16, 8⟩
def STD_SET_SH0_SH : Fld := ⟨0, 30⟩
def STD_SET_SH1_SH : Fld := ⟨0, 30⟩
def STD_SET_MSH_SH : Fld := ⟨0, 10⟩
def STD_SET_RESTH_RES_TH : Fld := ⟨0, 24⟩
def STD_SET_LIMITS_CODE_MIN : Fld := ⟨0, 16⟩
def STD_SET_LIMITS_CODE_MAX : Fld := ⟨16, 16⟩
def STD_LOOP_CFG_MODE : Fld := ⟨0, 2⟩
def STD_LOOP_CFG_SET : Fld := ⟨8, 6⟩
def STD_LOOP_CFG_SENSE_CONV : Fld := ⟨16, 4⟩
def STD_LOOP_CFG_SENSE_IN : Fld := ⟨20, 5⟩
def STD_LOOP_SP_SETPOINT : Fld := ⟨0, 24⟩
def STD_LOOP_STATE_STATE : Fld := ⟨0, 3⟩
def STD_LOOP_STATE_HELD : Fld := ⟨3, 1⟩
def STD_LOOP_STATE_BREACHES : Fld := ⟨4, 8⟩
def STD_LOOP_STATE_FREEZE_CAUSE : Fld := ⟨12, 2⟩
def STD_LOOP_STATE_LAST_GOOD : Fld := ⟨16, 16⟩
def STD_LOOP_RES_RESIDUAL : Fld := ⟨0, 24⟩
def STD_LOOP_RES_DELAY : Fld := ⟨24, 8⟩
def TRM_STATUS_CLEAR_FORCED : Fld := ⟨0, 1⟩
def TRM_STATUS_PIN : Fld := ⟨1, 1⟩
def TRM_STATUS_VENT : Fld := ⟨2, 1⟩
def TRM_CTRL_STAT_CLR : Fld := ⟨0, 1⟩
def TRM_CTRL_QOVF_EVT_EN : Fld := ⟨1, 1⟩
def TRM_CH_CFG_CLEAR_CODE : Fld := ⟨0, 16⟩
def TRM_CH_STAT_CODE : Fld := ⟨0, 16⟩
def TRM_CH_STAT_QDEPTH : Fld := ⟨16, 5⟩
def TRM_CH_STAT_SC : Fld := ⟨24, 1⟩
def TRM_CH_STAT_QOVF : Fld := ⟨25, 1⟩
def TRM_CH_STAT_HOLDING : Fld := ⟨26, 1⟩
def TRM_CH_PUSH_CODE : Fld := ⟨0, 16⟩
def MON_STATUS_CALIBRATING : Fld := ⟨0, 16⟩
def MON_STATUS_XCHK_PAIRS : Fld := ⟨16, 8⟩
def MON_CTRL_STAT_CLR : Fld := ⟨0, 1⟩
def MON_CTRL_WARN_EVT_EN : Fld := ⟨1, 1⟩
def MON_CTRL_DROP_EVT_EN : Fld := ⟨2, 1⟩
def MON_ROUND_CFG_PERIOD : Fld := ⟨0, 8⟩
def MON_ROUND_CFG_COUNT : Fld := ⟨16, 16⟩
def MON_XCHK_TOL_TOL : Fld := ⟨0, 24⟩
def MON_TEMP_TEMP : Fld := ⟨0, 16⟩
def MON_TEMP_LEVEL : Fld := ⟨16, 3⟩
def MON_TEMP_VALID : Fld := ⟨19, 1⟩
def MON_TEMP_WARN : Fld := ⟨20, 1⟩
def MON_TEMP_TRIPPED : Fld := ⟨21, 1⟩
def MON_TEMP_FAIL_CAUSE : Fld := ⟨22, 4⟩
def MON_TEMP_LIM_WARN : Fld := ⟨0, 8⟩
def MON_TEMP_LIM_THROTTLE : Fld := ⟨8, 8⟩
def MON_TEMP_LIM_TRIP : Fld := ⟨16, 8⟩
def MON_TEMP_PEAK_TEMP : Fld := ⟨0, 16⟩
def MON_URGENT_CONV : Fld := ⟨0, 4⟩
def MON_URGENT_INPUT : Fld := ⟨4, 5⟩
def MON_URGENT_RES_RESULT : Fld := ⟨0, 24⟩
def MON_URGENT_RES_OVR : Fld := ⟨24, 1⟩
def MON_URGENT_RES_DONE : Fld := ⟨25, 1⟩
def MON_URGENT_RES_BUSY : Fld := ⟨26, 1⟩
def MON_CFG_RUN : Fld := ⟨0, 1⟩
def MON_CFG_ORDER : Fld := ⟨1, 2⟩
def MON_CFG_OSR : Fld := ⟨16, 11⟩
def MON_CSTAT_STATE : Fld := ⟨0, 2⟩
def MON_CSTAT_INPUT : Fld := ⟨2, 5⟩
def MON_CSTAT_CAL_VALID : Fld := ⟨8, 1⟩
def MON_CSTAT_CAL_ERR : Fld := ⟨9, 1⟩
def MON_CSTAT_REF_ERR : Fld := ⟨10, 1⟩
def MON_CSTAT_XCHK_FAIL : Fld := ⟨11, 1⟩
def MON_CSTAT_DROPPED : Fld := ⟨12, 1⟩
def MON_CAL_CMD_GO : Fld := ⟨0, 1⟩
def MON_CAL_OFS_OFS : Fld := ⟨0, 24⟩
def MON_RES_RESULT : Fld := ⟨0, 24⟩
def MON_RES_OVR : Fld := ⟨24, 1⟩
def MON_RES_SEQ : Fld := ⟨25, 7⟩
def CAL_STATUS_STATE : Fld := ⟨0, 2⟩
def CAL_STATUS_KIND : Fld := ⟨2, 2⟩
def CAL_STATUS_PHASE : Fld := ⟨8, 3⟩
def CAL_CMD_GO : Fld := ⟨0, 1⟩
def CAL_CMD_CANCEL : Fld := ⟨1, 1⟩
def CAL_CMD_STAT_CLR : Fld := ⟨2, 1⟩
def CAL_RESULT_OUTCOME : Fld := ⟨0, 2⟩
def CAL_RESULT_KIND : Fld := ⟨2, 2⟩
def CAL_RESULT_REASON : Fld := ⟨8, 4⟩
def CAL_SETSEL_ROW_BASE : Fld := ⟨0, 6⟩
def CAL_SETSEL_COL_BASE : Fld := ⟨8, 6⟩
def CAL_KREF_ROW_K : Fld := ⟨0, 24⟩
def CAL_KREF_COL_K : Fld := ⟨0, 24⟩
def CAL_GAIN_G : Fld := ⟨0, 24⟩
def CAL_OFS_O : Fld := ⟨0, 16⟩
def CAL_DGAIN_G : Fld := ⟨0, 24⟩
def CAL_DOFS_O : Fld := ⟨0, 16⟩
def CAL_COL_NOISE : Fld := ⟨0, 8⟩
def CAL_COL_FAIL : Fld := ⟨8, 1⟩
def CAL_COL_DISAGREE : Fld := ⟨9, 1⟩
def CAL_ROW_RHO : Fld := ⟨0, 16⟩
def CAL_ROW_FAIL : Fld := ⟨16, 1⟩
def DEV_CAL_CMD_LATHES : Fld := ⟨0, 8⟩
def DEV_CAL_CMD_GO : Fld := ⟨8, 1⟩
def DEV_CAL_STATUS_PENDING : Fld := ⟨0, 8⟩
def DEV_CAL_STATUS_RUNNING : Fld := ⟨8, 8⟩
def PWR_STATUS_STATE : Fld := ⟨0, 3⟩
def PWR_STATUS_TRANS : Fld := ⟨3, 1⟩
def PWR_STATUS_TARGET : Fld := ⟨4, 3⟩
def PWR_STATUS_PENDING : Fld := ⟨7, 1⟩
def PWR_STATUS_READY : Fld := ⟨8, 1⟩
def PWR_STATUS_FAULT_HOLD : Fld := ⟨9, 1⟩
def PWR_STATUS_PLEVEL : Fld := ⟨12, 3⟩
def PWR_STATUS_INPUT_WARN : Fld := ⟨16, 1⟩
def PWR_CTRL_STAT_CLR : Fld := ⟨0, 1⟩
def PWR_CTRL_STATE_EVT_EN : Fld := ⟨1, 1⟩
def PWR_CTRL_CAP_EVT_EN : Fld := ⟨2, 1⟩
def PWR_STATE_REQ_TARGET : Fld := ⟨0, 3⟩
def PWR_STATE_REQ_AT_EN : Fld := ⟨4, 1⟩
def PWR_STATE_REQ_GO : Fld := ⟨8, 1⟩
def PWR_QUIESCE_TMO_MS : Fld := ⟨0, 16⟩
def PWR_INPUT_VOLT : Fld := ⟨0, 16⟩
def PWR_INPUT_POWER : Fld := ⟨16, 16⟩
def PWR_LIMIT_LIMIT : Fld := ⟨0, 16⟩
def PWR_START_PEND : Fld := ⟨0, 8⟩
def PWR_START_MS : Fld := ⟨16, 16⟩
def PWR_DOM_STATUS_STATE : Fld := ⟨0, 3⟩
def PWR_DOM_STATUS_JIG_OFF : Fld := ⟨4, 1⟩
def PWR_DOM_STATUS_WARN : Fld := ⟨8, 1⟩
def PWR_DOM_STATUS_DIPS : Fld := ⟨16, 16⟩
def PWR_DOM_CMD_CMD : Fld := ⟨0, 2⟩
def CLK_LOCK_HI_LOCKED : Fld := ⟨0, 5⟩
def CLK_REF_REF_OK : Fld := ⟨0, 1⟩
def CLK_REF_FALLBACK : Fld := ⟨1, 1⟩
def CLK_REF_OFFSET : Fld := ⟨16, 16⟩
def CLK_CTRL_STAT_CLR : Fld := ⟨0, 1⟩
def CLK_CTRL_UNLOCK_EVT_EN : Fld := ⟨1, 1⟩
def CLK_DOM_MHZ : Fld := ⟨0, 14⟩
def CLK_DOM_ON : Fld := ⟨16, 1⟩
def CLK_DOM_GATED : Fld := ⟨17, 1⟩
def CLK_DOM_LOCKED : Fld := ⟨18, 1⟩
def CLK_DOM_UNLOCKS : Fld := ⟨24, 8⟩
def SEC_STATUS_STATE : Fld := ⟨0, 2⟩
def SEC_STATUS_APPROVED : Fld := ⟨2, 1⟩
def SEC_STATUS_OWNED : Fld := ⟨3, 1⟩
def SEC_STATUS_DEBUG_GRANTED : Fld := ⟨4, 1⟩
def SEC_STATUS_BOOT_SLOT : Fld := ⟨5, 1⟩
def SEC_STATUS_ST_FAIL : Fld := ⟨8, 4⟩
def SEC_CTRL_STAT_CLR : Fld := ⟨0, 1⟩
def SEC_CTRL_AUTH_EVT_EN : Fld := ⟨1, 1⟩
def SEC_SLOT_VALID : Fld := ⟨0, 1⟩
def SEC_SLOT_USAGE : Fld := ⟨4, 5⟩
def SEC_SLOT_SESSION : Fld := ⟨16, 1⟩
def SEC_MBX_CTRL_GO : Fld := ⟨0, 1⟩
def SEC_MBX_STATUS_BUSY : Fld := ⟨0, 1⟩
def SEC_MBX_STATUS_DONE : Fld := ⟨1, 1⟩
def SEC_MBX_STATUS_STATUS : Fld := ⟨8, 8⟩
def JIG_STATUS_STATE : Fld := ⟨0, 3⟩
def JIG_STATUS_DEFAULT : Fld := ⟨4, 1⟩
def JIG_STATUS_PREV_VALID : Fld := ⟨5, 1⟩
def JIG_STATUS_PEND_VALID : Fld := ⟨6, 1⟩
def JIG_STATUS_UNCOMMITTED : Fld := ⟨7, 1⟩
def JIG_CMD_CMD : Fld := ⟨0, 3⟩
def JIG_CMD_AT_EN : Fld := ⟨8, 1⟩
def JIG_RESULT_REASON : Fld := ⟨0, 8⟩
def JIG_RESULT_CMD : Fld := ⟨8, 3⟩
def JIG_FW_CMD_CMD : Fld := ⟨0, 3⟩
def JIG_FW_CMD_KIND : Fld := ⟨4, 3⟩
def JIG_FW_CMD_INSTANCES : Fld := ⟨8, 8⟩
def JIG_FW_CMD_BYPASS : Fld := ⟨16, 1⟩
def JIG_FW_STATUS_REASON : Fld := ⟨0, 8⟩
def JIG_FW_STATUS_BUSY : Fld := ⟨8, 1⟩
def PCI_STATUS_LINK_UP : Fld := ⟨0, 1⟩
def PCI_STATUS_WIDTH : Fld := ⟨1, 5⟩
def PCI_STATUS_GEN : Fld := ⟨6, 4⟩
def PCI_STATUS_FLIT : Fld := ⟨10, 1⟩
def PCI_STATUS_LPS : Fld := ⟨11, 2⟩
def PCI_STATUS_FLR_BUSY : Fld := ⟨13, 1⟩
def PCI_CTRL_STAT_CLR : Fld := ⟨0, 1⟩
def PCI_CTRL_LINK_EVT_EN : Fld := ⟨1, 1⟩
def PCI_WIN_BASE_BASE : Fld := ⟨30, 10⟩
def PCI_WIN_CFG_DEV : Fld := ⟨0, 16⟩
def PCI_WIN_CFG_REMOTE : Fld := ⟨16, 1⟩
def PCI_TAGS_IN_USE : Fld := ⟨0, 14⟩
def PCI_TAGS_PEAK : Fld := ⟨16, 14⟩
def PCI_APT_VALID : Fld := ⟨0, 1⟩
def PCI_APT_BASE : Fld := ⟨30, 34⟩
def EVT_STATUS_ENABLED : Fld := ⟨0, 16⟩
def EVT_STATUS_LOST_PEND : Fld := ⟨16, 16⟩
def EVT_CTRL_STAT_CLR : Fld := ⟨0, 1⟩
def EVT_MAP_QUEUE : Fld := ⟨0, 4⟩
def EVT_Q_BASE_ADDR : Fld := ⟨0, 40⟩
def EVT_Q_CFG_EN : Fld := ⟨0, 1⟩
def EVT_Q_CFG_LOG2_SIZE : Fld := ⟨1, 5⟩
def EVT_Q_CFG_ERR : Fld := ⟨6, 1⟩
def EVT_Q_CFG_VECTOR : Fld := ⟨8, 11⟩
def EVT_Q_CFG_COAL_COUNT : Fld := ⟨20, 7⟩
def EVT_Q_CFG_COAL_US : Fld := ⟨27, 5⟩
def EVT_Q_HEAD_INDEX : Fld := ⟨0, 20⟩
def EVT_Q_TAIL_INDEX : Fld := ⟨0, 20⟩
def VNT_STATUS_OP : Fld := ⟨0, 8⟩
def VNT_STATUS_QREG : Fld := ⟨8, 3⟩
def VNT_STATUS_QMGT : Fld := ⟨11, 3⟩
def VNT_STATUS_MGT_LINK : Fld := ⟨14, 1⟩
def VNT_STATUS_FALLBACK : Fld := ⟨15, 1⟩
def VNT_STATUS_RESTARTS : Fld := ⟨24, 8⟩
def VNT_CTRL_STAT_CLR : Fld := ⟨0, 1⟩
def VNT_MBX_CMD_GO : Fld := ⟨0, 1⟩
def VNT_MBX_STATUS_BUSY : Fld := ⟨0, 1⟩
def VNT_MBX_STATUS_DONE : Fld := ⟨1, 1⟩
def VNT_MBX_STATUS_STATUS : Fld := ⟨8, 8⟩
def VNT_MBX_STATUS_SEQ : Fld := ⟨16, 16⟩
def VNT_ALERT_PEND : Fld := ⟨0, 1⟩
def VNT_ALERT_ALERT_PIN : Fld := ⟨1, 1⟩
def VNT_ALERT_THERM_PIN : Fld := ⟨2, 1⟩
def VNT_ALERT_CFG_MIN_CLASS : Fld := ⟨0, 2⟩
def VNT_LOG_IDX_NEXT : Fld := ⟨0, 6⟩
def DEV_ID_STEPPING : Fld := ⟨0, 8⟩
def DEV_ID_PART : Fld := ⟨16, 16⟩
def DEV_FABRIC_ID_ID : Fld := ⟨0, 16⟩
def DEV_FABRIC_ID_VALID : Fld := ⟨31, 1⟩
def DEV_DEBUG_LATHES : Fld := ⟨0, 8⟩
def DEV_GRANT_LATHES : Fld := ⟨0, 8⟩
def DEV_RESET_CMD_CONFIRM : Fld := ⟨0, 16⟩

end Sys2Proof.Machine
end

