-- ==== Sys2Proof/Syntax.lean ====
section
/-! DEFINITION. The commands of the block: one constructor of `Instr` per row of spec/opcode_table.json, with its operands.
An operand that stands for a physical quantity (a column sum, a conversion, a rail, the outcome of a decoder or of a
signature check) is what the world outside the model delivers with that step. -/
namespace Sys2Proof

/-- Who issued a memory, register or fabric request (R324, Table 1.9). -/
inductive Requester where
  | lathe (n : Fin 8)
  | port (p : Fin 16)
  | host
  | vent
deriving DecidableEq, Repr

/-- The blocks that hold statistics counters and a STAT_CLR bit (R84, R603). -/
inductive StatBlock where
  | lth (n : Fin 8) | acc (n : Fin 8) | fin (n : Fin 8) | oll (n : Fin 8) | inf (n : Fin 8) | cal (n : Fin 8) | str (n : Fin 8)
  | sem | devLt | hbm (m : Fin 8) | rdc (m : Fin 8) | izp (p : Fin 16) | izpGlobal | ftm | flt | std | trm | mon
  | pwr | clk | sec | pci | evt | vnt
deriving DecidableEq, Repr

/-- The errors that one read of a line meets: what is added (XOR) to each of its 36 symbols as read (R291, R292): 0 to 31 the data, 32 the metadata
symbol, 33 to 35 the check symbols. -/
abbrev LineErr := List (Fin 36 × BitVec 16)

/-- Which access met an error (`HBM_ERR_INFO.SOURCE`, Table 8.9). -/
inductive ErrSource where
  | demand | scrub | retireCopy | partialWrite
deriving DecidableEq, Repr

/-- The types of a fabric packet (Table 9.2). -/
inductive PacketType where
  | read | write | reduce | signal | mcastWrite | gap | credit | time | link | cpl | cplData
deriving DecidableEq, Repr

/-- A fabric packet: the header of Table 9.1 and its payload (R344). -/
structure Packet where
  /-- TYPE. -/
  typ : PacketType
  /-- FLAGS.VC. -/
  vc : Bool := false
  /-- FLAGS.RSET. -/
  rset : BitVec 2 := 0
  /-- CONTEXT, present when FLAGS.CTX is 1. -/
  ctx : Option (BitVec 8) := none
  /-- Number of payload lines, 0 to 8. -/
  lines : Nat := 0
  /-- Poison mark of each payload line. -/
  poison : BitVec 8 := 0
  /-- DST. -/
  dst : DevId := 0
  /-- SRC. -/
  src : DevId := 0
  /-- ADDR. -/
  addr : Addr := 0
  /-- HOPS. -/
  hops : BitVec 8 := 0
  /-- STATUS (Table 9.3). -/
  status : BitVec 8 := 0
  /-- TAG, or the group of MCAST_WRITE, GAP and CREDIT. -/
  tag : BitVec 17 := 0
  /-- OPFMT: operation and format of a REDUCE. -/
  op : BitVec 4 := 0
  fmt : BitVec 4 := 0
  /-- ARG. -/
  arg : Word := 0
  /-- LSEQ. -/
  lseq : BitVec 12 := 0
  /-- LACK with its NAK and VALID bits. -/
  lack : BitVec 12 := 0
  nak : Bool := false
  lackValid : Bool := false
  /-- CRC (R340). -/
  crc : Word := 0
  /-- Payload bytes, 64 per line. -/
  payload : List Byte := []
  /-- Symbols that forward error correction mended in the codewords that brought it: no part of the packet, but what its link reports with it. -/
  mended : Nat := 0
deriving DecidableEq, Repr

/-- What a grandmaster announcement says on a port (R371). -/
structure Announce where
  valid : Bool := false
  prio : BitVec 8 := 0
  dev : DevId := 0
  hops : BitVec 8 := 0
deriving DecidableEq, Repr

/-- The content of a TIME packet (R370, R371). -/
inductive TimeMsg where
  /-- A request stamped `t1` at departure. -/
  | request (t1 : DWord) (ann : Announce)
  /-- A reply: the request's `t1`, its arrival `t2`, the reply's departure `t3`; and the peer's announcement. -/
  | reply (t1 t2 t3 : DWord) (ann : Announce)
deriving DecidableEq, Repr

/-- A pilot stroke (R488): the number of the pilot plane it runs on, that of its first symbol, and for each symbol the ADC codes of the 536 physical
columns, of lathe 2j for a Deep-2 pair (R489). -/
structure Pilot where
  plane : Nat := 0
  first : Nat := 0
  codes : List (List Int) := []
deriving DecidableEq, Repr

/-- What a phase of a calibration delivers (Table 13.2): its pilot strokes, as one group for each column pass, and for each of the three codes of each
round of a row phase; the plant gains that its trim steps show, by physical row (of the odd lathe of a Deep-2 pair at 528 + r) and by physical column;
and for each laser position (of the odd lathe at 11 + P) whether it locked and reached its set power, and at 3P its setpoint of power, at 3P + 1
and 3P + 2 of wavelength. -/
structure CalMeas where
  groups : List (List Pilot) := []
  plantRow : List Nat := []
  plantCol : List Nat := []
  laserOk : List Bool := []
  /-- Whether the failed laser of the position that the standby holds locked again (by lathe of the pair). -/
  retryOk : List Bool := []
  laserSet : List Int := []
deriving DecidableEq, Repr

/-- The rails of Table 14.2. `shared` is the housekeeping rail with the intermediate bus; `input` is the 48 V input. -/
inductive Rail where
  | laser (n : Fin 8) | frontEnd (n : Fin 8) | adc (n : Fin 8) | digital (n : Fin 8)
  | hbm (m : Fin 8) | portGroup (j : Fin 4) | pcie | security | shared | vent | input
deriving DecidableEq, Repr

/-- A unit of the fault history (R411, Table 0.8): kind, index, lathe. -/
structure UnitId where
  kind : Nat
  index : Nat
  lathe : Nat
deriving DecidableEq, Repr

/-- How a host request failed (Table 16.11, HOST_REQ_FAIL). -/
inductive HostFail where
  | unsupported | abort | poisoned | timeout | linkDown
deriving DecidableEq, Repr

/-- How the PCIe link was lost (Table 16.11, HOST_LINK_DOWN). -/
inductive LinkLoss where
  | surprise | perst | domain60 | hotReset
deriving DecidableEq, Repr

/-- The interfaces of the security module (Table 15.13): registers, the two mailboxes, the management port. -/
inductive SecIface where
  | registers | doe0 | doe1 | management
deriving DecidableEq, Repr

/-- The interfaces of the Vent (Table 16.11). -/
inductive VentIface where
  | registers | management
deriving DecidableEq, Repr

/-- The external references of a grandmaster (R376, R615). -/
inductive RefInput where
  | mhz10 | pps | ptp
deriving DecidableEq, Repr

/-- The commands of the block, one constructor per row of spec/opcode_table.json, in the table's order. -/
inductive Instr where
  /-- Write `value` of `size` bytes at register-range offset `off`. -/
  | registerWrite (off : BitVec 24) (size : Nat) (value : DWord)
  | statClr (blk : StatBlock)
  /-- An access of `req`, in a program of context `ctx` if any, to global address `a`; `wr` for a write. -/
  | unmappedAccess (req : Requester) (ctx : Option (BitVec 8)) (a : GAddr) (wr : Bool)
  | accWindowRead (a : Addr)
  | svcReqWrite (n : Fin 8) (v : Bool)
  /-- Write entry `i` of the row map (`col = false`) or the column map. -/
  | lthMapWrite (n : Fin 8) (col : Bool) (i : Fin 520) (v : Word)
  | bankAgeMaxWrite (n : Fin 8) (v : Word)
  | lasersLocked (n : Fin 8)
  | quiesceEnd (n : Fin 8)
  | programAccept (b : Fin 8)
  /-- Write `v` to `STR_SQ_CFG[i]` of `STR_[n]`. -/
  | sqEnable (n i : Fin 8) (v : Word)
  | sqDoorbell (n i : Fin 8) (t : Word)
  | programStart (b : Fin 8)
  /-- Stage `k` of program `p` (its acceptance number) of engine `b`; so for every stage command. -/
  | fetch (b : Fin 8) (p : Nat) (k : Fin 32)
  /-- `glitch`: the reads that meet a parity error on their way (R321), as (member, attempt) pairs, attempts counted from 0. -/
  | load (b : Fin 8) (p : Nat) (k : Fin 32) (glitch : List (Nat × Nat))
  | bankWriteEnd (n : Fin 8)
  /-- `parity`: a parity error on an on-chip path (Table 8.10 code 1 or 3) at the input line of this offset. -/
  | run (b : Fin 8) (p : Nat) (k : Fin 32) (parity : Option (Nat × Nat))
  | refreshStart (n : Fin 8)
  | strokeDataEnd (b : Fin 8)
  /-- The outputs of the next symbol of lathe `n`: for each logical column 0 to 519, and for a replay's spare columns by column group (R397), what
  noise and analog error add to the exact column sum, in 1/1024 ADC LSB (R69); 0 where the list is short. -/
  | accumulatorAdd (n : Fin 8) (dev spareDev : List Int)
  | strokeVerdict (n : Fin 8)
  | replayStart (n : Fin 8)
  | arbitrationEnd (n : Fin 8)
  | correctionEnd (n : Fin 8)
  | spanMoveStart (n g : Fin 8)
  | spanMoveEnd (n g : Fin 8)
  /-- `parity`: a parity error met on the finisher's path by an operand of this block of an update's (R321). -/
  | drain (b : Fin 8) (p : Nat) (k : Fin 32) (parity : Option Nat)
  /-- `parity`: a parity error met by row `i` of the group on the accumulator's path (`false`) or the finisher's (R321). -/
  | drainStart (n g : Fin 8) (parity : Option (Nat × Bool))
  | drainEnd (n : Fin 8)
  | scaleRecordUpdate
  | scaleRecordEvaluate
  | invalidGroupFree (n g : Fin 8)
  | accModeWrite (n : Fin 8) (v : Bool)
  | seedWrite (n : Fin 8) (v : Word)
  | reduce (b : Fin 8) (p : Nat) (k : Fin 32)
  | signal (b : Fin 8) (p : Nat) (k : Fin 32)
  | wait (b : Fin 8) (p : Nat) (k : Fin 32)
  /-- The oldest-armed waiter of semaphore `i` that belongs to stage `k` of program `p` of engine `b` times out. -/
  | waitTimeout (i : Fin 8192) (b : Fin 8) (p : Nat) (k : Fin 32)
  | semValWrite (i : Fin 8192) (v : Word)
  | semAddWrite (i : Fin 8192) (v : Word)
  | swap (b : Fin 8) (p : Nat) (k : Fin 32)
  | fence (b : Fin 8) (p : Nat) (k : Fin 32)
  | atStage (b : Fin 8) (p : Nat) (k : Fin 32)
  | descArm (n : Fin 8) (d : Fin 256)
  | descCancel (n : Fin 8) (d : Fin 256)
  /-- `parity`: a parity error met by the first read of the line with this number within the transfer, and its path code. -/
  | transferDone (n : Fin 8) (d : Fin 256) (parity : Option (Nat × Nat))
  | programCommit (b : Fin 8) (p : Nat)
  | strAbort (n : Fin 8) (v : Word)
  | programAbortRetire (b : Fin 8) (p : Nat)
  | programTimeoutExpiry (b : Fin 8) (p : Nat)
  /-- Write `v` to the register at byte offset `4 * w` of layer-table entry `i`. -/
  | wtbWrite (i : Fin 4096) (w : Fin 16) (v : Word)
  | wtbClear (i : Fin 4096)
  | verifyEnd
  | passOpen (p : Fin 16) (ctx : BitVec 8)
  | passClose (p : Fin 16) (ctx : BitVec 8)
  /-- `glitch`: the reads that meet a parity error on their way (R321), as (record, attempt) pairs. -/
  | swapWriteStart (glitch : List (Nat × Nat))
  | stagedHeaderReread
  | swapWriteEnd
  /-- The entry's timeout runs out for the record a LOAD of lathe `n` waits for, or (`none`) for the swap engine's record. -/
  | shardTimeout (n : Option (Fin 8))
  | buildGo (gain : BitVec 4)
  /-- `parity`: a parity error met by a source line of the tile with this number, counted from the build's first (R321). -/
  | buildEnd (parity : Option Nat)
  /-- A read of the line at `a` for `req` in a program of context `ctx`, if any; `d` are the errors the read meets, `r` those of the
  re-read. -/
  | hbmLineRead (a : Addr) (d r : LineErr) (src : ErrSource) (req : Requester) (ctx : Option (BitVec 8))
  | correctionRate (c : Fin 256)
  /-- A write of `data` at `a` by `req`: a whole aligned line, or part of one line; `d` and `r` are the errors that the read for a
  partial write and its re-read meet. -/
  | hbmLineWrite (a : Addr) (data : List Byte) (poison : Bool) (d r : LineErr) (req : Requester)
  | infeedLineWrite (a : Addr) (data : List Byte) (poison : Bool) (req : Requester)
  | scrubRead (c : Fin 256) (d r : LineErr)
  /-- A stack temperature reading, absent or invalid when `none`. -/
  | stackTempRead (m : Fin 8) (t : Option Int)
  | retireGo (m : Fin 8) (c : Fin 32)
  /-- The copy ends; `errs` gives the lines whose read met errors while copying, with those of the read and of its re-read. -/
  | retireEnd (m : Fin 8) (errs : List (Addr × LineErr × LineErr))
  /-- Training ends; `failed` is the mask of channels that failed, `whole` when the stack failed as a whole. -/
  | hbmTrainingEnd (m : Fin 8) (failed : Word) (whole : Bool)
  /-- A consumer in a program of context `ctx` uses marked data at `a`. -/
  | contextPoisonAbort (unit : Requester) (reducer : Option (Fin 256)) (use : BitVec 8) (ctx : BitVec 8) (a : GAddr)
  /-- The oldest reducer operation waiting at HBM channel `c` is applied, its line meeting a parity error on the reducer's path where `parity`
  says so (R321); so for each reducer command. -/
  | add (c : Fin 256) (parity : Bool)
  | max (c : Fin 256) (parity : Bool)
  | min (c : Fin 256) (parity : Bool)
  | xor (c : Fin 256) (parity : Bool)
  | maxIdx (c : Fin 256) (parity : Bool)
  | minIdx (c : Fin 256) (parity : Bool)
  | reducerWrite (c : Fin 256) (parity : Bool)
  | poisonMark (c : Fin 256) (parity : Bool)
  /-- Port `p` finishes training with peer `dev`, port `pp`, on the lower and upper wavelength halves given. -/
  | linkTrained (p : Fin 16) (dev : DevId) (pp : BitVec 4) (lower upper : Bool)
  | lossOfLight (p : Fin 16)
  | portRetrain (p : Fin 16)
  | portEnWrite (p : Fin 16) (v : Bool)
  /-- A packet received on port `p` fails its CRC, or (`fec`) lies in an uncorrectable codeword. -/
  | corruptPacket (p : Fin 16) (fec : Bool)
  /-- A NAK for `seq` arrived, or (`none`) 2 µs passed without acknowledgement. -/
  | retransmitTimeout (p : Fin 16) (nak : Option (BitVec 12))
  | retryLimit (p : Fin 16)
  | link (p : Fin 16) (pk : Packet)
  | packetForward (p : Fin 16) (pk : Packet)
  /-- `parity`: a parity error met on the crossbar by the packet's line with this number (R321). -/
  | fabricRead (p : Fin 16) (pk : Packet) (parity : Option Nat)
  | fabricWrite (p : Fin 16) (pk : Packet) (parity : Option Nat)
  | fabricReduce (p : Fin 16) (pk : Packet)
  | fabricSignal (p : Fin 16) (pk : Packet)
  | cpl (p : Fin 16) (pk : Packet)
  | cplData (p : Fin 16) (pk : Packet)
  | requestTimeout (tag : BitVec 17)
  | bypassOpen (mask : BitVec 8)
  | bypassClose (mask : BitVec 8)
  | bypassSettled (k : Fin 8)
  | mcastEnable (g : Fin 4096) (v : Word)
  /-- The oldest message of group `g` that waits to be sent goes to the members whose credit allows. -/
  | mcastSend (g : Fin 4096)
  | mcastHoldExpiry (g : Fin 4096)
  | mcastUnprune (g : Fin 4096) (mask : DWord)
  | mcastWrite (p : Fin 16) (pk : Packet)
  | credit (p : Fin 16) (pk : Packet)
  | gap (p : Fin 16) (pk : Packet)
  | timeExchange
  /-- `m` is what the line of packet `pk` says. -/
  | time (p : Fin 16) (pk : Packet) (m : TimeMsg)
  | parentTimeout
  | uncertLimit
  /-- An external reference is lost: the 10 MHz input, the PPS input (R615), or the PTP time of the management network (R376). -/
  | referenceLost (i : RefInput)
  | ppsEdge
  | ftmSet (v : DWord)
  | ftmNowRead
  | railBelowWarning (r : Rail)
  | railRecovered (r : Rail)
  /-- The replay of the oldest suspect stroke of lathe `n` ends. -/
  | suspectReplayEnd (n : Fin 8)
  | railWarningTimeout (r : Rail)
  | railResetLevel (r : Rail)
  | permanentClassing (u : UnitId)
  | historyFlashWriteEnd
  | histRead
  | histClear
  /-- A sample of core `c`, with the software accesses that fall in the sweep, each as the HCLK cycle of the sweep at which it arrives, in order. -/
  | loopSample (c : Fin 9) (accesses : List Nat)
  | breachLimit (i : Fin 9216)
  | coeffBankSwap (c : Fin 9) (init : Bool)
  /-- Write `v` at byte offset `4 * w` of coefficient set `k` of bank `b` of core `c`. -/
  | setWrite (c : Fin 9) (b : Bool) (k : Fin 64) (w : Fin 20) (v : Word)
  | loopModeWrite (i : Fin 9216) (v : Word)
  | coreCfgWrite (c : Fin 9) (v : Word)
  | trimTick
  | trmChPush (i : Fin 9216) (code : BitVec 16)
  | deglitchEnd (i : Fin 9216)
  | shortLimitExpiry (i : Fin 9216)
  | scClear (i : Fin 9216)
  /-- TRIM_CLR_N goes low, or (`vent`) the Vent forces the clear. -/
  | trimClrAssert (vent : Bool)
  | trimClrRelease (vent : Bool)
  /-- The conversion of converter `c` ends with raw result `raw`; `unstable`: the modulator left its stable range. -/
  | conversionEnd (c : Fin 16) (raw : Int) (unstable : Bool)
  /-- Write `v` to `MON_CFG[c]`, or (`scan`) to `MON_SCAN[c]`. -/
  | monCfgWrite (c : Fin 16) (scan : Bool) (v : Word)
  | urgentRequest (c : Fin 16) (i : Fin 32)
  | monCalGo (c : Fin 16)
  /-- The sums of the raw results kept in the two phases (R464). -/
  | monCalEnd (c : Fin 16) (sum30 sum29 : Int)
  | housekeepingRound
  | roundCfgWrite (v : Word)
  | trippedClear
  | calGo (n : Fin 8)
  | devCalGo (mask : BitVec 8)
  | calCancel (n : Fin 8)
  | calAtReached (n : Fin 8)
  | calSlotGrant (n : Fin 8)
  | calPhaseEnd (n : Fin 8) (m : CalMeas)
  | calibrationEnd (n : Fin 8)
  | localiseEnd (n : Fin 8) (m : CalMeas)
  | standbyLocked (n : Fin 8)
  | powerInputGood
  | powerLoss
  /-- Average input power over the last 1 ms in 0.1 W, and the input voltage in 10 mV. -/
  | powerLevelUpdate (power volt : BitVec 16)
  | pwrLimitWrite (v : Word)
  | pwrDomOn (d : Fin 64)
  | pwrDomOff (d : Fin 64)
  | pwrDomReset (d : Fin 64)
  | domainReon (d : Fin 64)
  | pwrStateGo (v : Word)
  | pwrRequestAct
  | quiesceTimeout
  | pwrTransitionEnd
  /-- Clock `k` loses lock, or (`none`) the reference oscillator. -/
  | pllUnlock (k : Option (Fin 37))
  | refOscReturn
  | perstN
  | devResetCmd (v : BitVec 16)
  | deviceResetRelease
  | hotReset
  | functionLevelReset
  | ventWatchdog
  | ventBooted
  /-- The start-up step of bit `k` of `PWR_START.PEND` ends, passed or failed. -/
  | startStepEnd (k : Fin 6) (ok : Bool)
  | readyTimeout
  /-- The self-tests end; `fail` is the code of `SEC_STATUS.ST_FAIL`. -/
  | selftestEnd (fail : BitVec 4)
  | getStatus (i : SecIface)
  | getCerts (i : SecIface)
  | quote (i : SecIface) (nonce : List Byte) (mask : BitVec 16)
  | extend (i : SecIface) (r : Fin 16) (v : List Byte)
  | challenge (i : SecIface)
  /-- `sigOk`: the signature over (challenge, SEC_DEVID, slot) verifies under the slot's key. -/
  | login (i : SecIface) (slot : Fin 8) (sigOk : Bool)
  | loginLockout (i : SecIface)
  | lockoutEnd (i : SecIface)
  | logout (i : SecIface)
  | sessionTimeout (i : SecIface)
  /-- `tokenOk`: the ownership token of R554 verifies. -/
  | enroll (i : SecIface) (slot : Fin 8) (digest : BitVec 512) (usage : BitVec 5) (tokenOk : Bool)
  | revoke (i : SecIface) (slot : Fin 8)
  | zeroise (i : SecIface)
  | zeroiseEraseEnd
  | grantDebug (i : SecIface) (mask : BitVec 8)
  | selftest (i : SecIface)
  | debugWrite (v : Word)
  | fabricIdWrite (v : Word)
  /-- `keyOk`, `sigOk`: the key digest and the signature of the staged image verify. -/
  | jigVerify (keyOk sigOk : Bool)
  | jigApply (atEn : Bool)
  | jigRollback
  | jigDiscard
  | applyAct
  | applyQuiesced
  | healthCheckEnd
  | rollbackApply
  | fwVerify (kind : BitVec 3) (keyOk sigOk : Bool)
  | fwActivate (kind : BitVec 3) (inst : BitVec 8) (bypass : Bool)
  | fwActivateOther (kind : BitVec 3) (inst : BitVec 8) (bypass : Bool)
  | fwActivationEnd
  | fwCommit (kind : BitVec 3)
  /-- A BAR4 access at offset `off`: a write of `data`, or (`rd`) a read of `len` bytes, that meets a parity error on its path where `parity` says so. -/
  | windowAccess (off : BitVec 36) (rd : Bool) (len : Nat) (data : List Byte) (poison : Bool) (errs : List (Addr × LineErr × LineErr)) (parity : Bool)
  /-- The oldest outstanding host request completes, with `data` or with a failure. -/
  | hostRequestComplete (fail : Option HostFail) (data : List Byte)
  | hostReadTimeout
  | pcieLinkDown (why : LinkLoss)
  | pcieLinkUp (width : BitVec 5) (gen : BitVec 4) (flit : Bool)
  | linkIdleL1
  | evtQueueEnable (e : Fin 16) (v : Word)
  /-- The oldest record on its way to queue `e` is written, or (`fail`) its write fails in error. -/
  | eventRecordWriteEnd (e : Fin 16) (fail : Bool)
  | coalTimeout (e : Fin 16)
  | evtHeadWrite (e : Fin 16) (v : Word)
  | ventStatus (i : VentIface) (seq : BitVec 16)
  | ventHistory (i : VentIface) (seq : BitVec 16) (sel : Word)
  | ventDomainReset (i : VentIface) (seq : BitVec 16) (d : Word)
  | ventDeviceReset (i : VentIface) (seq : BitVec 16)
  | ventAbortAll (i : VentIface) (seq : BitVec 16)
  | abortAllTimeout
  | ventPowerDown (i : VentIface) (seq : BitVec 16) (target : Word)
  | ventBypassClose (i : VentIface) (seq : BitVec 16) (mask : Word)
  | ventThermalTrip (i : VentIface) (seq : BitVec 16)
  | ventJigRollback (i : VentIface) (seq : BitVec 16)
  | ventQuote (i : VentIface) (seq : BitVec 16) (arg : Word) (nonce : List Byte)
  | ventTrimClear (i : VentIface) (seq : BitVec 16) (arg : Word)
  | ventWake (i : VentIface) (seq : BitVec 16)
  | ventPoisonMark (i : VentIface) (seq : BitVec 16) (lines : Word) (a : GAddr)
  /-- A recovery image of `image` bytes arrives on REC_RXD. -/
  | recoveryImage (image : List Byte) (keyOk sigOk : Bool)
  | recNRelease
  | lightReceived (p : Fin 16)
  /-- Read `size` bytes at register-range offset `off`. -/
  | registerRead (off : BitVec 24) (size : Nat)
  | jigQuiesceTimeout
  /-- A PTP message brings the PTP time `t`. -/
  | ptpMessage (t : DWord)
  | referenceRestored
deriving DecidableEq, Repr

end Sys2Proof
end

