-- ==== Sys2Proof/Machine/State.lean ====
section
/-! DEFINITION. The state of the block as plain data, its state after reset, and the reasons a step can stop.
Every register of Table 17.3 whose value is not computed from a record below lives in `State.regs`. -/
namespace Sys2Proof.Machine

/-- Bytes of a memory, sparse and canonical; an unlisted byte reads 0 (log entry 2). -/
abbrev Memory := List Host.Cell

/-- Why a step stops with a fault: no command of this block does (safe: none is ever raised). -/
inductive Fault where
  /-- Kept for the interface; raised by no command. Safe. -/
  | none
deriving DecidableEq, Repr

/-- Why a step is refused. -/
inductive Refusal where
  /-- A command whose meaning the model does not give; raised by the dispatcher alone. Safe. -/
  | notModelled (mnemonic : String)
deriving DecidableEq, Repr

/-! ## Events (00 R17, R622; 16) -/

/-- One event record of Table 0.7; `detail` is DETAIL as one little-endian number. -/
structure Event where
  ft : DWord := 0
  code : BitVec 16 := 0
  cls : BitVec 8 := 0
  flags : BitVec 8 := 0
  unit : BitVec 16 := 0
  ctx : BitVec 16 := 0xFFFF
  detail : BitVec 384 := 0
deriving DecidableEq, Repr

/-- The post limit of one event code in one scope (R622): fabric time of the last post, if any, and occurrences since. -/
structure Limit where
  code : Nat
  scope : Nat
  last : Option DWord := none
  count : Nat := 0
  /-- The detail of the first occurrence since that post, where the record names it, and the largest of a figure of them. -/
  first : Nat := 0
  most : Nat := 0
deriving DecidableEq, Repr

/-- What an event queue holds besides its registers: unsignalled records and when the oldest was written (R587). -/
structure EvtQ where
  unsig : Nat := 0
  oldest : Nat := 0
deriving DecidableEq, Repr

/-! ## Programs and streams (05) -/

/-- One stage record of Table 5.2. -/
inductive Stage where
  | fetch (desc member : Nat) (img : Nat)
  | load (live : Bool) (layer src mstride : Nat)
  | run (group : Nat) (opens newPlane : Bool) (fmt rowBase t sigma gmax : Nat) (smin cmin : Int) (input layer : Nat)
  | drain (group : Nat) (init early scaleEn biasEn mergeEn : Bool) (form act red : Nat) (dst rec vec s0 stateBase colBase aux mstride : Nat)
  | reduce (op fmt src dst bytes : Nat)
  | signal (sem device : Nat) (remote : Bool) (count : Nat)
  | wait (sem count timeout : Nat)
  | swap (layer source atFt : Nat)
  | fence (scope : Nat)
  | at (ft : Nat)
deriving DecidableEq, Repr

inductive StageSt where
  | waiting | running | done
deriving DecidableEq, Repr

inductive ProgSt where
  | accepted | started | aborting
deriving DecidableEq, Repr

/-- A program of an engine's store (R197): its number in acceptance order, header and stages, and its progress. -/
structure Prog where
  no : Nat
  hdr : Nat := 0
  paced : Bool := false
  earlyOk : Bool := false
  retireEvt : Bool := false
  ctx : BitVec 8 := 0
  startFt : Nat := 0
  slack : Nat := 0
  timeout : Nat := 0
  statusAddr : Nat := 0
  tag : Word := 0
  stages : List Stage := []
  st : ProgSt := .accepted
  prog : List StageSt := []
  startClock : Nat := 0
  /-- Fabric time at its start (R270). -/
  beganFt : Nat := 0
  cause : Nat := 0
  abortStage : Nat := 0xFF
  deadlineMiss : Bool := false
  /-- FETCH stages that have armed their descriptor from its image (R220). -/
  armed : List Nat := []
  /-- Fabric time at which its stages completed, newest first (R270). -/
  doneFt : List (Nat × Nat) := []
deriving DecidableEq, Repr

/-- What a lathe's command engine holds (05). -/
structure Engine where
  progs : List Prog := []
  nextNo : Nat := 0
  /-- Queue served last at each priority, for the round robin of R196. -/
  rr : Nat := 0
deriving DecidableEq, Repr

/-- A committed descriptor image (R217). -/
structure Arm where
  src : Nat := 0
  dst : Nat := 0
  rowb : Nat := 0
  rows : Nat := 0
  sstr : Int := 0
  dstr : Int := 0
  grain : Bool := false
  gen : BitVec 16 := 0
deriving DecidableEq, Repr

inductive DescSt where
  | idle | armed | busy | armedShadow | busyShadow
deriving DecidableEq, Repr

/-- A stream descriptor (Table 5.3). -/
structure Desc where
  st : DescSt := .idle
  arm : Arm := {}
  shadow : Arm := {}
  gen : BitVec 16 := 0
  doneGen : BitVec 16 := 0
  last : Nat := 0
  ctx : BitVec 8 := 0
  /-- The FETCH that claimed the active transfer: engine, program, stage. -/
  owner : Nat × Nat × Nat := (0, 0, 0)
  /-- The active transfer: requests not yet answered, whether its rows have been written, re-reads made and the rows they were made for (R253),
  what came from other devices or the host, and the lines of it that came marked. -/
  left : Nat := 0
  moved : Bool := false
  since : Nat := 0
  tries : Nat := 0
  again : List Nat := []
  buf : Sparse Byte := []
  bad : List Nat := []
deriving DecidableEq, Repr

/-- A WAIT queued on a semaphore (R212). -/
structure Waiter where
  eng : Nat
  prog : Nat
  stage : Nat
  count : Nat
  since : Nat
  timeout : Nat
deriving DecidableEq, Repr

/-! ## Lathe (02, 03, 10) -/

/-- Service states of Table 2.6, in the order of their codes. -/
inductive Svc where
  | off | starting | calibrating | inService | quiescing | outOfService | faultHold
deriving DecidableEq, Repr

inductive BankSt where
  | free | writing | pending | live
deriving DecidableEq, Repr

/-- Where a plane came from, so that it can be read again: engine, program, stage of its LOAD and the source address. -/
structure LoadSrc where
  eng : Nat := 0
  prog : Nat := 0
  stage : Nat := 0
  addr : Nat := 0
  livePlane : Bool := false
  layer : Nat := 0xFFFF
  ctx : BitVec 8 := 0
  /-- The read restores a live plane that a replay displaced (R398). -/
  relive : Bool := false
deriving DecidableEq, Repr

/-- A hold bank: its state, when its write started and ended, the image of the plane written (bytes of the tile record of
Table 7.1, or of the live plane's W7 tensor block), and the plane's tag and numbers. -/
structure Bank where
  st : BankSt := .free
  start : Nat := 0
  wrote : Nat := 0
  src : LoadSrc := {}
  image : Sparse Byte := []
  inlayU : Sparse Byte := []
  inlayV : Sparse Byte := []
  rank : Nat := 0
  gain : Nat := 0
  /-- Tag of R265: layer entry (0xFFFF for none) and version. -/
  entry : Nat := 0xFFFF
  ver : BitVec 16 := 0
  /-- Physical row of each logical row and physical column of each logical column when the write started (R38, R39, R402). -/
  rows : List Nat := []
  cols : List Nat := []
  /-- Spare columns of a replay plane that hold check weights, with their column group (R397). -/
  spares : List (Nat × Nat) := []
  /-- The write is a refresh (R54), a replay plane (R397), or one again from the plane's own image (R56): no LOAD completes with it. -/
  refresh : Bool := false
  replay : Bool := false
  again : Bool := false
  /-- The plane was live when a replay displaced it, and the next stroke runs on it again (R398). -/
  relive : Bool := false
deriving DecidableEq, Repr

/-- What one lathe puts into a stroke: its bank and the address of its input blocks; for each data symbol the drive values it presents, by
physical row, a row not listed being driven with 0 (R39, R43–R45), its outlier channels with their values (R113, R114), how many of its
blocks are brought to a larger shift (R46), and its input bytes of 0x80 (R43, R89). In a Deep-2 stroke there is one of each lathe (R79, R119). -/
structure Lane where
  bank : Bank := {}
  inp : Nat := 0
  drives : List (Sparse Int) := []
  xs : List (List (Nat × Word)) := []
  aligned : List Nat := []
  in80 : List Nat := []
deriving DecidableEq, Repr

/-- A stroke from its start until its verdict and corrections are done. What it presents is fixed at its start: per data symbol
the shift (R45), the outlier channels and the rounded inlay intermediates (R115). `outs` holds one list of ADC codes per data
symbol already delivered (newest first), ±512 standing for ±511 with the over-range flag. -/
structure Stroke where
  eng : Nat
  prog : Nat
  stage : Nat
  ctx : BitVec 8
  group : Nat
  /-- Number of the group's opening the stroke runs into. -/
  ggen : Nat := 0
  t : Nat
  fmt : Nat
  layer : Nat := 0xFFFF
  bank : Bank := {}
  shifts : List Int := []
  lanes : List Lane := []
  ts : List (List Word) := []
  startClock : Nat := 0
  endClock : Nat := 0
  /-- OLL load L (R117) and idle symbols it adds. -/
  load : Nat := 0
  /-- Throttle level in force at its start (R476). -/
  lvl : Nat := 0
  outs : List (List Int) := []
  /-- Destination of the drain that took the group before this stroke's verdict: global address and length (R165, R390). -/
  drained : Option (Nat × Nat) := none
  /-- That drain was one that R165 lets go before the verdicts. -/
  early : Bool := false
  /-- The stroke has been counted as suspect (R72, R407). -/
  suspect : Bool := false
deriving DecidableEq, Repr

/-- The arbitration of a failing stroke (10), or the replay of a suspect one (R408): its failing column groups with the spare
of R397, the largest residual of each, the codes of the replay with its spare outputs, and what is still to be written. -/
structure Arb where
  stroke : Stroke
  isSuspect : Bool := false
  /-- Number of the dip that made the stroke suspect; 0 for none (R408). -/
  dip : Nat := 0
  failing : List Nat := []
  spares : List (Nat × Nat) := []
  peaks : List (Nat × Nat) := []
  /-- The replay plane is in the selected bank and the replay runs. -/
  started : Bool := false
  /-- What the replay presents, read again from the inputs (R398). -/
  lanes : List Lane := []
  /-- The replay has ended: its symbols have been counted (R628). -/
  ended : Bool := false
  outs : List (List Int) := []
  spareOuts : List (List Int) := []
  /-- Corrections to be written: column group, and whether the spare is the trusted check column (R401). -/
  correcting : List (Nat × Bool) := []
  /-- The destination of an early drain was marked at the failing verdict (R390). -/
  marked : Bool := false
deriving DecidableEq, Repr

/-- The tries of a record's copies still to come, the one being read first; the number of that try, and whether one has failed (R280). -/
structure Tries where
  list : List (List (Nat × Nat)) := []
  j : Nat := 0
  failed : Bool := false
deriving DecidableEq, Repr

/-- A record whose copies a LOAD or the swap engine is still trying (R280–R282): entry, tile (0xFFFF_FFFF for an inlay), the
stage, the address of its home copy, the mirror attempt under way and its bytes so far. -/
structure RecWait where
  entry : Nat
  tile : Nat
  eng : Nat := 0
  prog : Nat := 0
  stage : Nat := 0
  src : LoadSrc := {}
  /-- Home address and length of each piece, and the expected version. -/
  pieces : List (Nat × Nat) := []
  ver : BitVec 16 := 0
  /-- The tile image already accepted, while an inlay is read. -/
  tileIm : Sparse Byte := []
  attempt : Nat := 0
  left : Nat := 0
  bad : Bool := false
  buf : Sparse Byte := []
  since : Nat := 0
  /-- Host reads of one of the record's copies on this device are still to be answered (R282): of which try; whether the record is an inlay, only
the header of a staged record (R276), or record `rno` of a verification (R284). -/
  first : Bool := false
  tries : Tries := {}
  inlay : Bool := false
  header : Bool := false
  verify : Bool := false
  rno : Nat := 0
  /-- A record of the swap engine or of a verification, and whether it is the inlay's header. -/
  single : Option Bool := none
deriving DecidableEq, Repr

inductive GrpSt where
  | free | open | spanMove | closing | draining | invalid
deriving DecidableEq, Repr

/-- One drain's counts and maxima on their way to its scale record (R109), with the lathe and context that sent them. -/
structure ScaleUpd where
  addr : Nat
  elements : Nat := 0
  saturated : Nat := 0
  nans : Nat := 0
  maxabs : Word := 0
  outMaxabs : Word := 0
  lathe : Nat := 0
  ctx : BitVec 8 := 0
  /-- The stage whose write it is (R208–R210, R227). -/
  who : Option (Nat × Nat × Nat) := none
deriving DecidableEq, Repr

/-- The rows of a running output that a drain reads from another device: reads still unanswered, bytes from the drain's destination on, and the
lines that came marked (R170). -/
structure OldWait where
  left : Nat := 0
  buf : Sparse Byte := []
  bad : List Nat := []
deriving DecidableEq, Repr

/-- A DRAIN that named a group: engine, program, stage, and its MERGE/INIT progress. -/
structure DrainRef where
  eng : Nat
  prog : Nat
  stage : Nat
deriving DecidableEq, Repr

/-- An accumulation group (04, Tables 4.1, 4.3, 4.13). -/
structure Group where
  st : GrpSt := .free
  /-- Openings so far of this group ID (the model's own). -/
  gen : Nat := 0
  sat : Bool := false
  ovr : Bool := false
  extended : Bool := false
  betaLoss : Bool := false
  poison : Bool := false
  inflight : Nat := 0
  /-- Strokes of the group whose verdict is outstanding. -/
  verdicts : Nat := 0
  ctx : BitVec 8 := 0
  rowBase : Nat := 0
  rows : Nat := 0
  count : Nat := 0
  spans : Nat := 0
  beta : Int := 0
  sigma : Nat := 0
  fmt : Nat := 0
  owner : Nat × Nat := (0, 0)
  /-- The RUN held in SPAN_MOVE (engine, program, stage). -/
  held : Option (Nat × Nat × Nat) := none
  moving : Bool := false
  drain : Option DrainRef := none
  /-- What the drain in progress leaves for its scale record at its end (R109). -/
  upd : List ScaleUpd := []
deriving DecidableEq, Repr

/-- A row-state entry of the finisher (R171, R173), its values as binary32 words. -/
structure RowState where
  m : Word := 0
  i : Word := 0
  s : Word := 0
  f : Word := 0
  oValid : Bool := false
deriving DecidableEq, Repr

/-- What the data symbols of one stroke, by the clock of its start, have added to a window (Table 11.2): their number; by physical row 2¹⁰ times the sums C
and D, of one counted symbol in every 2^SUB; by physical column S_rq and S_qq. -/
structure StatPart where
  start : Nat
  n : Nat := 0
  rows : Sparse (Int × Int) := []
  cols : Sparse (Int × Int) := []
deriving DecidableEq, Repr

/-- What a lathe's data path has gathered since its core's last sample, by stroke (R422), and the data symbols counted in all. -/
structure Stats where
  all : Nat := 0
  parts : List StatPart := []
deriving DecidableEq, Repr

/-- A lathe. -/
structure Lathe where
  svc : Svc := .off
  oosCause : Nat := 0
  mapErr : Bool := false
  /-- QUIESCING was entered for a calibration command. -/
  quiesceCal : Bool := false
  /-- Only an accepted calibration clears the cause (R447). -/
  needCal : Bool := false
  /-- Only an accepted full calibration clears cause 4 (R75, R626, Table 13.5). -/
  needFull : Bool := false
  /-- The lathe has an accepted calibration since its last power-up (Table 2.6, R485). -/
  calFresh : Bool := false
  liveB : Bool := false
  bankA : Bank := {}
  bankB : Bank := {}
  /-- Physical columns whose output ADC is powered (R40). -/
  adcOn : List Nat := []
  /-- Planes displaced by a refresh or a replay, to be written again (R56, R57, R398), oldest first, and whether from their source. -/
  displaced : List (Bank × Bool) := []
  /-- Stroke being presented. -/
  cur : Option Stroke := none
  /-- Strokes presented whose outputs or verdicts are outstanding, oldest first. -/
  strokes : List Stroke := []
  /-- Recent strokes whose codes the journal still holds (R394), newest first. -/
  journal : List Stroke := []
  /-- Strokes presented since the last good sample of a laser, newest first, without their data (R72). -/
  past : List Stroke := []
  /-- Arbitrations, the one in progress first (R396). -/
  arbs : List Arb := []
  /-- The guard of the last stroke waits for the bank switch (R61): its symbols, its throttle level, and its end in
symbols. -/
  guardDue : Option (Nat × Nat × Nat) := none
  /-- The selected bank was switched to at a guard and no stroke has used it yet. -/
  newLive : Bool := false
  /-- Clock of the last bank switch (R53). -/
  switched : Nat := 0
  /-- The record a LOAD waits for (R282). -/
  wait : Option RecWait := none
  /-- Clock of IN_SERVICE entry and symbol periods already counted since (R61). -/
  symAcc : Nat := 0
  /-- Idle symbols the lathe idles for a dip (R406). -/
  dip : Bool := false
  /-- Rows that hold addends of their group's current span (R134, R186). -/
  seen : Sparse Bool := []
  /-- Generators seeded: state of generator i (R99); an unlisted one is at its seed value. -/
  gen : Sparse Word := []
  seed : Word := 0
  /-- Finisher operation in progress: 0 idle, 1 drain, 2 span move, 3 update; its group. -/
  finOp : Nat := 0
  finGroup : Nat := 0
  /-- The running output that the drain in progress reads from another device (R170). -/
  old : Option OldWait := none
  /-- The update in progress: its stage, and what its scale records are to take (R109). -/
  upd : Option ((Nat × Nat × Nat) × List ScaleUpd) := none
  stats : Stats := {}
  /-- Noise of each physical column by the last calibration accepted, in 1/256 LSB; of the summed columns of a Deep-2 pair on lathe 2j (R489). -/
  noise : Sparse Nat := []
deriving DecidableEq, Repr

/-! ## Memory (08) -/

/-- A reducer operation waiting at a channel (R324): the requester, the destination line, operation, format and source. -/
structure RedOp where
  op : Nat
  fmt : Nat
  dst : Nat
  src : List Byte
  poison : Bool := false
  /-- Engine, program and stage of a local request. -/
  who : Option (Nat × Nat × Nat) := none
  ctx : Option (BitVec 8) := none
  /-- Global address of the line that is the source, where it has one. -/
  from_ : Option Nat := none
  /-- Arrival port and packet of a remote request. -/
  remote : Option (Nat × Packet) := none
  /-- Clock of arrival, and the requester's rank in one cycle: lathes 0 to 7, ports 8 to 23, the host 24, the Vent 25 (R324). -/
  at_ : Nat := 0
  rank : Nat := 0
deriving DecidableEq, Repr

/-- What a stack holds besides its registers. -/
structure Stack where
  /-- Consecutive readings at least 2 °C below 85 °C and below 95 °C (R300). -/
  cool85 : Nat := 0
  cool95 : Nat := 0
  /-- Lines of each channel read in the scrub pass under way (R297). -/
  scrub : Sparse Nat := []
  /-- Clocks of the corrections of each channel within the last hour, newest first (R296). -/
  ce : Sparse (List Nat) := []
  /-- Lines that a scrub has corrected and not yet written back: local address, bytes and mark (R298). -/
  wb : List (Nat × List Byte × Bool) := []
  /-- Channels out of use, in the order in which they were placed so (R307), the clock of the last GO, and the lines written at their new place while
that retire goes on (R308). -/
  order : List Nat := []
  since : Nat := 0
  fresh : List Nat := []
deriving DecidableEq, Repr

/-! ## Weights (07) -/

/-- A raised swap (R269): entry, staged source, clock and fabric time of the raise and of the first write. -/
structure Swap where
  entry : Nat
  source : Nat
  raised : Nat := 0
  began : Nat := 0
  writing : Bool := false
  ctx : BitVec 8 := 0
  /-- Records written and accepted so far; all of them. -/
  next : Nat := 0
  done : Bool := false
deriving DecidableEq, Repr

/-- The parameters of a build, as the registers stood at GO (R285). -/
structure Build where
  src : Nat := 0
  dst : Nat := 0
  out : Nat := 0
  slices : Nat := 0
  id : Nat := 0
  first : Nat := 0
  count : Nat := 0
  gain : Nat := 0
deriving DecidableEq, Repr

/-- A use of marked data (R316): the lathe or reducer that used it, the use of Table 8's POISON_CONSUMED, the context and the
global address of the first marked line. -/
structure PoisonUse where
  lathe : Option Nat := none
  reducer : Option Nat := none
  use : Nat
  ctx : BitVec 8
  addr : GAddr
deriving DecidableEq, Repr

/-! ## Fabric and time (09) -/

/-- A request outstanding on the fabric (R345, R347): its type and address, the unit that issued it, and when. -/
structure Req where
  typ : PacketType := .read
  dev : DevId := 0
  addr : Addr := 0
  lines : Nat := 0
  /-- Local address that a READ's data goes to, or its offset in what waits for it. -/
  into : Nat := 0
  /-- The data is dropped when it comes: its program was aborted (R229). -/
  drop : Bool := false
  /-- Operation, format and destination of the REDUCE that the data is the source of (R328); its source lies at `addr` of `dev`. -/
  red : Option (Nat × Nat × Nat) := none
  /-- Global address of the first line of a REDUCE packet that was sent marked, if any: its source line, or where it has none the line itself. -/
  srcMark : Option Nat := none
  unit : Requester := .host
  who : Option (Nat × Nat × Nat) := none
  ctx : Option (BitVec 8) := none
  /-- Lathe and descriptor of a stream transfer. -/
  desc : Option (Nat × Nat) := none
  since : Nat := 0
  /-- A host write of part of one line on another device: the line is read, these bytes are merged at this offset, with this mark, and it is
  written back. -/
  merge : Option (Nat × List Byte × Bool) := none
  /-- A row's part that the drain of this lathe merges into (R170). -/
  old : Option Nat := none
  /-- A mirror read of the record that this lathe, or (8) the swap engine, waits for (R280). -/
  mir : Option Nat := none
deriving DecidableEq, Repr

/-- Lines that a REDUCE's source on another device or in host memory has delivered, which wait for those before them (R328). -/
structure RedHeld where
  who : Nat × Nat × Nat
  ctx : BitVec 8 := 0
  op : Nat
  fmt : Nat
  dst : Nat
  src : Nat
  data : List Byte
  bad : List Nat := []
deriving DecidableEq, Repr

/-- A port's link layer (R338–R344). -/
structure Port where
  nextSeq : BitVec 12 := 0
  lastIn : BitVec 12 := 0xFFF
  /-- Packets sent and not yet acknowledged, oldest first. -/
  unacked : List Packet := []
  retries : Nat := 0
  /-- Clock since which the first unacknowledged packet waits. -/
  since : Nat := 0
  discarding : Bool := false
  light : Bool := false
  /-- A packet taken from the peer has not been acknowledged (R340). -/
  ackDue : Bool := false
deriving DecidableEq, Repr

/-- A multicast message (R360–R364): its MSEQ, offset in the group's source range, data with its marks, the member numbers it
is still to be sent to and those whose CREDIT is still to come, when its hold window started, and the stage whose write it is. -/
structure McMsg where
  seq : Word
  off : Nat
  data : List Byte
  poison : BitVec 8 := 0
  left : List Nat
  unacked : List Nat := []
  since : Nat := 0
  who : Option (Nat × Nat × Nat) := none
deriving DecidableEq, Repr

/-- What the fabric-time unit holds besides its registers (R370–R376): consecutive exchanges within ±10 ns, the clock of the
last TIME from the parent, the peers' announcements, nanoseconds still to slew, the clock since which the bound grows, whether
its passing UNCERT_MAX was reported, and the external inputs. -/
structure Ftm where
  good : Nat := 0
  lastGood : Nat := 0
  ann : Sparse Announce := []
  slew : Int := 0
  slewAcc : Nat := 0
  /-- Fabric time of the parent that a held counter waits for (R372). -/
  holdUntil : Nat := 0
  growFrom : Option Nat := none
  passed : Bool := false
  refLost : Bool := false
  ref10 : Bool := false
  refPps : Bool := false
deriving DecidableEq, Repr

/-! ## Fault history (10, Table 10.7) -/

structure HistRec where
  events : Nat := 0
  permanent : Bool := false
  replaced : Bool := false
  permCause : Nat := 0
  subst : Nat := 0xFFFF
  /-- History times of the events of the last 86,400 s, newest first. -/
  times : List Nat := []
  /-- History times of the latest three events, newest first (Table 10.7). -/
  last : List Nat := []
  permS : Nat := 0
  /-- What the latest event of an HBM channel was: 1 an uncorrectable line, 2 the correction rate (R296). -/
  why : Nat := 0
deriving DecidableEq, Repr

/-! ## Steady rest, trim, monitors (11, 12) -/

inductive LoopSt where
  | off | run | idle | frozen
deriving DecidableEq, Repr

/-- A steady-rest loop (11, R423–R438). Histories are newest first; a missing entry of `xs` is 0. -/
structure Loop where
  st : LoopSt := .off
  held : Bool := false
  breaches : Nat := 0
  /-- The last breach was an over-range sense input (R424, R436). -/
  senseBreach : Bool := false
  freezeCause : Nat := 0
  lastGood : Nat := 0
  residual : Int := 0
  delay : Nat := 0
  /-- The stored output code, without the pilot (R425). -/
  code : Nat := 0
  /-- Compensator input and output histories (R427). -/
  xs : List Int := []
  us : List Int := []
  e1 : Int := 0
  e2 : Int := 0
  w1 : Int := 0
  w2 : Int := 0
  /-- Measurements and applied codes of the computed samples since the last held one (R435). -/
  ys : List Int := []
  cs : List Nat := []
  /-- C and D of the previous sample (Table 11.2), the pilot sign of the previous sweep, and the pilot's register (R425). -/
  stat : Option (Int × Int) := none
  pilot : Int := 1
  lfsr : BitVec 16 := 1
  /-- SEQ of the input at the previous sample. -/
  seq : Option Nat := none
  /-- The calibration engine changed the sense fields: the next sample holds (R431). -/
  skip : Bool := false
  /-- Consecutive samples with the monitored output of a laser below 60 % of its set power (R71). -/
  low : Nat := 0
  /-- Clock of the last good one of those samples (R72). -/
  goodAt : Nat := 0
  /-- SEQ of the result judged last. -/
  watched : Option Nat := none
deriving DecidableEq, Repr

/-- A core of the steady rest: when a swap was written and whether with INIT (R430), and the start and end of its last sweep. -/
structure CoreSt where
  swapAt : Option Nat := none
  init : Bool := false
  sweepStart : Nat := 0
  sweepEnd : Nat := 0
deriving DecidableEq, Repr

/-- A trim channel (11, R439–R448): the code presented, the latest code of its source, its queue, oldest first, flags, and the code
that a deglitch hold keeps back. -/
structure Trim where
  code : Nat := 0
  src : Nat := 0
  queue : List Nat := []
  sc : Bool := false
  qovf : Bool := false
  pend : Option Nat := none
deriving DecidableEq, Repr

inductive ConvSt where
  | idle | scan | cal | oneshot
deriving DecidableEq, Repr

/-- A monitor converter (12): its state, the input being converted, and a calibration command that waits (R466). -/
structure Conv where
  st : ConvSt := .idle
  input : Nat := 0
  calQueued : Bool := false
  /-- ORDER of `MON_CFG` as a calibration began (R455, R464), and the clock at which it turns to input 29. -/
  order : Nat := 0
  secondAt : Nat := 0
deriving DecidableEq, Repr

/-- What the housekeeping round holds besides `MON_TEMP` (R467–R478): SEQ of each input at the previous round, the diode code of
the last valid round, the highest valid one since `MON_TEMP_PEAK` was read, and rounds spent with the level above 0. -/
structure Temp where
  seqs : Sparse Nat := []
  code : Int := 0
  peak : Option Int := none
  rounds : Nat := 0
deriving DecidableEq, Repr

/-! ## Calibration (13) -/

/-- One measurement of a column: gain times 2²², offset and noise in 1/256 LSB (Table 13.1). -/
structure ColFit where
  g : Nat
  o : Int
  s : Nat
deriving DecidableEq, Repr

/-- The estimates of one pass: of each physical column, and of each physical row the response times 2¹⁴ (of the odd lathe of a pair at 528 + r). -/
structure CalFit where
  cols : List ColFit := []
  rho : List Nat := []
deriving DecidableEq, Repr

inductive CalSt where
  | idle | waiting | slot | running
deriving DecidableEq, Repr

/-- A calibration of a lathe, or of a Deep-2 pair under its lower lathe (13): its state and kind, the phase in progress (0 while a
standby laser locks), the time it waits for and whether that wait is over, when it asked for a slot, supply dips, the lathe and
laser position or the column-map entry it is for, what was in force at the slot grant, the estimates of its passes and the plant gains it measured, the
maps it proposes, what they newly name, and the reason it will be rejected with. -/
structure Cal where
  st : CalSt := .idle
  kind : Nat := 0
  phase : Nat := 0
  at_ : Nat := 0
  begun : Bool := false
  order : Nat := 0
  dips : Nat := 0
  lathe : Nat := 0
  position : Nat := 0
  column : Nat := 0
  saved : List (Sparse Word) := []
  codes : List (Nat × Nat) := []
  plantRow : List Nat := []
  plantCol : List Nat := []
  pass1 : CalFit := {}
  pass2 : CalFit := {}
  extra1 : CalFit := {}
  extra2 : CalFit := {}
  rowMaps : List (List Nat) := []
  colMap : List Nat := []
  newRows : List (Nat × Nat) := []
  newCols : List Nat := []
  reason : Nat := 0
  failKind : Nat := 0
  disagree : Nat := 0xFFFF
  /-- Context of the program whose stroke led to it (R417), 0xFFFF for none. -/
  ctx : Nat := 0xFFFF
  /-- Calibrations that the P8 has asked for behind this one, as kind, lathe, position and column-map entry, with that context; and a request that waits meanwhile: its
  time, its lathe, and whether its wait is over. -/
  more : List ((Nat × Nat × Nat × Nat) × Nat) := []
  held : Option (Nat × Nat × Bool) := none
deriving DecidableEq, Repr

/-- The flash copy of a lathe's last accepted calibration (R496): register words and trim codes by channel. -/
structure CalCopy where
  valid : Bool := false
  regs : Sparse Word := []
  codes : List (Nat × Nat) := []
deriving DecidableEq, Repr

/-! ## Power (14) -/

/-- A rail below its warning level: since when, and whether the dip has had the effect of R409, R508 or R509. -/
structure RailSt where
  below : Bool := false
  since : Nat := 0
  done : Bool := false
deriving DecidableEq, Repr

/-- A dip that is over and whose suspect strokes are still being replayed: its number, the rail, the time below the warning level in ns,
and the strokes suspect and poisoned, which SUPPLY_DIP reports (R407–R409). -/
structure Dip where
  no : Nat
  rail : Nat
  low : Nat
  suspects : Nat := 0
  poisoned : Nat := 0
deriving DecidableEq, Repr

/-- What power, clocks, reset and start-up hold besides `PWR_` and `CLK_` (14). -/
structure Power where
  /-- The 48 V input has been good since power-off (R503). -/
  input : Bool := false
  /-- Clock of the last loss of power, and time spent without power so far: history time counts the rest (R412). -/
  offAt : Nat := 0
  offTotal : Nat := 0
  /-- When the transition in progress began to act, whether it only waits for its lathes to quiesce, and whether the Vent ordered
it (R526, R528). -/
  transFrom : Nat := 0
  waiting : Bool := false
  byVent : Bool := false
  /-- The programs that had not quiesced in `PWR_QUIESCE_TMO` have been aborted (R526). -/
  tmoDone : Bool := false
  /-- The one pending request: its target, and whether the Vent made it (R522, R524). -/
  reqTarget : Option Nat := none
  reqVent : Bool := false
  /-- Requests of AT_EN that wait for their fabric time, in the order written: time and target (R522, R524). -/
  timed : List (Nat × Nat) := []
  /-- Lathes switched on or off by a device fault hold, a reset or a loss of the reference: domains in reset and since when. -/
  resets : Sparse Nat := []
  /-- Start-up runs: when it started (R535), and the time of Table 14.10 that stands for that moment, ms. -/
  starting : Bool := false
  startedAt : Nat := 0
  startMs : Nat := 0
  /-- The firmware kinds left out at the last boot, one bit each (R546, R547). -/
  out : Nat := 0
  /-- A device reset holds the domains off, since when (R531). -/
  resetHeld : Bool := false
  resetAt : Nat := 0
  /-- The reference oscillator is lost (R530). -/
  refLost : Bool := false
  /-- The device is Cold: the Vent sleeps (Table 14.4). -/
  cold : Bool := false
  /-- Milliseconds with PL above 0 since it rose (POWER_NORMAL). -/
  capMs : Nat := 0
deriving DecidableEq, Repr

/-! ## Security and the jig (15) -/

inductive SecSt where
  | selftest | operational | error | zeroised
deriving DecidableEq, Repr

structure Owner where
  valid : Bool := false
  usage : BitVec 5 := 0
  digest : BitVec 512 := 0
deriving DecidableEq, Repr

/-- A session or login state of one interface (R552). -/
structure Session where
  slot : Option (Fin 8) := none
  last : Nat := 0
  challenge : Option (BitVec 512 × Nat) := none
  fails : Nat := 0
  lockedUntil : Option Nat := none
deriving DecidableEq, Repr

structure Sec where
  st : SecSt := .selftest
  grant : Option (BitVec 8) := none
  owners : Sparse Owner := []
  sess : Sparse Session := []
  zeroising : Bool := false
  /-- `SEC_STATUS.ST_FAIL`. -/
  stFail : Nat := 0
  /-- Anti-rollback counters, kept in the flash (R550, R551). -/
  ctrs : Sparse Nat := []
  /-- Challenges given so far (the model's own). -/
  asked : Nat := 0
deriving DecidableEq, Repr

/-- A jig image in a slot (15, Table 15.6). -/
structure JigImg where
  valid : Bool := false
  version : Nat := 0
  svn : Nat := 0
  body : List Byte := []
  /-- SIGNER of its header, and the digests of its key and of the whole image (R544, R545). -/
  signer : Nat := 0
  key : BitVec 512 := 0
  digest : BitVec 512 := 0
deriving DecidableEq, Repr

inductive JigSt where
  | idle | applyWait | applying | health | rollingBack
deriving DecidableEq, Repr

/-- The jig's slots and the apply, health check or rollback in progress (R560–R568). -/
structure Jig where
  st : JigSt := .idle
  cur : JigImg := {}
  prev : JigImg := {}
  pend : JigImg := {}
  uncommitted : Bool := false
  /-- A device reset has met the uncommitted jig (R568). -/
  resetSeen : Bool := false
  healthFrom : Nat := 0
  /-- Fabric time an apply waits for. -/
  applyAt : Nat := 0
  /-- The affected lathes quiesce, since when, and their mask. -/
  quiescing : Bool := false
  quiesceFrom : Nat := 0
  mask : Nat := 0
  /-- Cause of the rollback in progress (Table 15.13). -/
  cause : Nat := 0
  /-- The jig in force is Current's (0), Previous's (1), or the default jig (2) (R548). -/
  force : Nat := 0
deriving DecidableEq, Repr

/-- Firmware of one kind: its two slots with the digests of their images, and which is active (15, Table 15.9). -/
structure Fw where
  verA : Nat := 0
  svnA : Nat := 0
  digA : BitVec 512 := 0
  verB : Nat := 0
  svnB : Nat := 0
  digB : BitVec 512 := 0
  activeB : Bool := false
  /-- The image a slot holds has a good header, key and signature (R544). -/
  okA : Bool := true
  okB : Bool := false
  /-- The inactive slot holds a verified image that may be activated. -/
  loaded : Bool := false
  /-- The active image has been committed; instances that run it since it was activated. -/
  committed : Bool := true
  ran : Nat := 0
  /-- The next device reset starts the other slot (first stage, security module). -/
  atReset : Bool := false
deriving DecidableEq, Repr

/-- A firmware activation in progress: its kind and instances, whether it changes the active slot, whether it goes back to the earlier
image, and the pairs whose bypass it closed and had found open. -/
structure FwAct where
  kind : Nat
  inst : Nat
  flip : Bool := true
  back : Bool := false
  pairs : Nat := 0
deriving DecidableEq, Repr

/-! ## Host and Vent (16) -/

/-- A host-memory request waiting for its completion (R579, R581). -/
structure HostReq where
  addr : Nat
  len : Nat
  /-- `some` data of a write, `none` for a read. -/
  data : Option (List Byte) := none
  into : Nat := 0
  who : Option (Nat × Nat × Nat) := none
  ctx : BitVec 16 := 0xFFFF
  lathe : Nat := 0xFF
  desc : Option (Nat × Nat) := none
  drop : Bool := false
  red : Option (Nat × Nat × Nat) := none
  /-- The lathe whose LOAD, or the swap engine (8), that the read is for. -/
  mir : Option Nat := none
  since : Nat := 0
deriving DecidableEq, Repr

/-- A request to the Vent (R589): whether it came on the management port, its OP, SEQ, ARG0, ARG1 and operand bytes. -/
structure VentReq where
  mgmt : Bool := false
  op : Nat
  seq : BitVec 16 := 0
  arg0 : Nat := 0
  arg1 : Nat := 0
  data : List Byte := []
deriving DecidableEq, Repr

/-- What the Vent holds besides `VNT_` (16): whether it boots again after a reset and why, the operation that reset abandoned, the request
whose operation runs, those that wait, oldest first (R592), when an ABORT_ALL latched, its log, and the management port's link. -/
structure Vent where
  booting : Bool := false
  bootCause : Nat := 0
  abandoned : Nat := 0
  run : Option VentReq := none
  queue : List VentReq := []
  abortAt : Nat := 0
  log : Sparse Event := []
  mgmtLink : Bool := false
deriving DecidableEq, Repr

/-- What the last command that reads answered: its bytes, and whether they carry poison. -/
structure Resp where
  data : List Byte := []
  poison : Bool := false
deriving DecidableEq, Repr

/-- The block. -/
structure State where
  /-- Commands waiting, first in first out (the model's own). -/
  pending : List Instr := []
  /-- Nanoseconds since power-up (the model's own clock, log entry 1). -/
  clock : Nat := 0
  /-- The fabric-time counter (R369). -/
  ft : DWord := 0
  /-- Register words by offset in the register range; an unlisted word is at its reset value. -/
  regs : Sparse Word := []
  /-- HBM and infeed bytes by 40-bit local address. -/
  mem : Memory := []
  /-- Poison marks by line number (address / 64) of the same addresses (R291, R312, R623). -/
  marks : Sparse Bool := []
  /-- Accumulator memory: key lathe · 2²² + row · 512 + column (R31). -/
  accMem : Sparse Word := []
  /-- Check accumulator: key lathe · 2¹⁶ + row · 8 + column group (R158). -/
  chkMem : Sparse Word := []
  /-- Finisher row-state entries: key lathe · 8192 + entry (R173). -/
  rowState : Sparse RowState := []
  lathes : Sparse Lathe := []
  /-- Accumulation groups: key lathe · 8 + group. -/
  groups : Sparse Group := []
  engines : Sparse Engine := []
  /-- Stream descriptors: key lathe · 256 + descriptor. -/
  descs : Sparse Desc := []
  /-- Waiters of each semaphore, oldest first. -/
  waiters : Sparse (List Waiter) := []
  hbmStacks : Sparse Stack := []
  /-- Reducer operations waiting at each of the 256 channels, oldest first. -/
  rdc : Sparse (List RedOp) := []
  /-- Scale-record updates waiting at memory: record address and what the drain counted (R109). -/
  scaleUpd : List ScaleUpd := []
  /-- Scale records an update took past EXPECTED, to be evaluated (R110). -/
  scaleEval : List ScaleUpd := []
  swaps : List Swap := []
  /-- The record the swap engine waits for (R281, R282). -/
  swapWait : Option RecWait := none
  /-- Uses of marked data whose context abort has not latched yet, oldest first (R316). -/
  uses : List PoisonUse := []
  /-- Layer-table entries being verified (R284). -/
  verifying : List Nat := []
  /-- The build in progress (R285). -/
  building : Option Build := none
  /-- Outstanding fabric requests by tag. -/
  reqs : Sparse Req := []
  nextTag : Nat := 0
  /-- Requests to other devices that wait for a tag of the fabric pool, oldest first (R226, R345). -/
  tagWait : List (Req × Packet) := []
  /-- Source lines of REDUCEs that wait for lines before them, by destination (R328). -/
  redHeld : List RedHeld := []
  ports : Sparse Port := []
  /-- Packets waiting for a port: port and packet, oldest first. -/
  fabQueue : List (Nat × Packet) := []
  /-- Packets put on a port's light, newest first (output). -/
  sent : List (Nat × Packet) := []
  /-- Multicast messages of each group not yet acknowledged by every unpruned member, oldest first. -/
  mcMsgs : Sparse (List McMsg) := []
  /-- Groups enabled. -/
  mcOn : List Nat := []
  /-- Mask of the bypasses moving to open, and why each moving to closed closes (Table 9.14). -/
  bypOpening : Nat := 0
  bypCause : Sparse Nat := []
  ftm : Ftm := {}
  hist : Sparse HistRec := []
  /-- The copy of the history in the flash, and units changed since it was written (R411). -/
  histFlash : Sparse HistRec := []
  histDirty : List Nat := []
  loops : Sparse Loop := []
  cores : Sparse CoreSt := []
  trims : Sparse Trim := []
  trimPin : Bool := false
  trimVent : Bool := false
  /-- Clock of the forced clear in force. -/
  trimSince : Nat := 0
  convs : Sparse Conv := []
  temp : Temp := {}
  cals : Sparse Cal := []
  calFlash : Sparse CalCopy := []
  /-- Trim codes the Vent kept through Dormant (Table 14.4). -/
  keptCodes : List (Nat × Nat) := []
  rails : Sparse RailSt := []
  dips : List Dip := []
  /-- Dips numbered so far: the model's own. -/
  dipNo : Nat := 0
  power : Power := {}
  sec : Sec := {}
  jig : Jig := {}
  fws : Sparse Fw := []
  fwBusy : List FwAct := []
  fabricIdFlash : Word := 0
  /-- Host memory, the environment the aperture reaches (log entry 3). -/
  hostMem : Memory := []
  /-- Host lines, by host address / 64, whose reads fail, with the code of HOST_REQ_FAIL (R581): environment as `hostMem` (log entry 3). -/
  hostBad : Sparse Nat := []
  hostReqs : List HostReq := []
  /-- Host reads that wait for a tag of the host pool, oldest first (R226). -/
  hostWait : List HostReq := []
  /-- Completion timeout of Device Control 2 in ns, and its disable bit (R581). -/
  ctoNs : Nat := 50000000
  ctoOff : Bool := false
  /-- Event posts on their way to a queue: queue and record, oldest first (R584). -/
  evtFly : List (Nat × Event) := []
  evtQs : Sparse EvtQ := []
  limits : List Limit := []
  /-- MSI-X table words (R575), pending bits, and vectors signalled, newest first. -/
  msixTable : Sparse Word := []
  msixPending : Sparse Bool := []
  msixSent : List Nat := []
  vent : Vent := {}
  /-- PERST_N, REC_N low. -/
  perst : Bool := false
  recPin : Bool := false
  recovery : Bool := false
  recReply : Option Byte := none
  /-- Low words held by 64-bit WO registers (R603). -/
  heldLow : Sparse Word := []
  resp : Resp := {}
  /-- Draws made so far of `Config.free` (the model's own). -/
  freeNo : Nat := 0
deriving DecidableEq, Repr

/-- The block right after reset: nothing has been powered, no command waits. -/
def State.reset : State := {}

end Sys2Proof.Machine
end

