-- ==== Sys2Proof/Machine/Ops.lean ====
section
/-! DEFINITION. The named operations every meaning is built from: the register file and its fields, the tables of records,
the jig in force, event posting with the limit of R622, and memory by bytes, lines and poison marks. -/
namespace Sys2Proof.Machine

/-- What a step answers. -/
abbrev Out := Host.Outcome State Fault Refusal

/-! ## Numbers -/

/-- Bits `[lo + w - 1 : lo]` of `x`. -/
def bits (x lo w : Nat) : Nat := x / 2 ^ lo % 2 ^ w

/-- `x` with bits `[lo + w - 1 : lo]` replaced by `v`. -/
def setBits (x lo w v : Nat) : Nat := x - bits x lo w * 2 ^ lo + v % 2 ^ w * 2 ^ lo

/-- Bit `i` of `x`. -/
def bit (x i : Nat) : Bool := decide (x / 2 ^ i % 2 = 1)

/-- Two's-complement value of the low `w` bits of `x`. -/
def sext (w x : Nat) : Int := let y := x % 2 ^ w; if y < 2 ^ (w - 1) then (y : Int) else (y : Int) - 2 ^ w

/-- The low `w` bits of an integer, as an unsigned number. -/
def trunc (w : Nat) (x : Int) : Nat := (x % (2 ^ w : Int)).toNat

/-- A number held at most at `m`. -/
def satTo (m x : Nat) : Nat := if x > m then m else x

/-- The nearer limit for a value outside `[lo, hi]`. -/
def clampNat (lo hi x : Nat) : Nat := if x < lo then lo else if x > hi then hi else x

/-- The nearer limit for a value outside `[lo, hi]`. -/
def clampInt (lo hi x : Int) : Int := if x < lo then lo else if x > hi then hi else x

def b2n (b : Bool) : Nat := if b then 1 else 0

/-- The mask of the numbers below `n` that satisfy `p`. -/
def maskOf (n : Nat) (p : Nat → Bool) : Nat := (List.range n).foldl (fun acc i => if p i then acc + 2 ^ i else acc) 0

/-- `x / 2^k` rounded half to even, for `k` a natural number (R45, R131). -/
def divRne (x : Int) (k : Nat) : Int :=
  let d : Int := 2 ^ k
  let q := x / d
  let r := x % d
  if 2 * r < d then q else if 2 * r > d then q + 1 else if q % 2 = 0 then q else q + 1

/-! ## The register file -/

/-- The block, instance and offset within the block of an offset of the register range (R36), if it lies in a block. -/
def locate (off : Nat) : Option (Block × Nat × Nat) :=
  Block.all.findSome? fun b =>
    let (base, cnt, stride, ext) := b.geo
    if off < base then none
    else if cnt = 1 then (if off - base < ext then some (b, 0, off - base) else none)
    else
      let i := (off - base) / stride
      let r := (off - base) % stride
      if i < cnt && r < ext then some (b, i, r) else none

/-- Does word `r` (an offset within a block) belong to the row; if so its word number within the register. -/
def RegRow.word? (row : RegRow) (r : Nat) : Option Nat :=
  if r < row.first then none
  else
    let d := r - row.first
    let i := if row.stride = 0 then 0 else d / row.stride
    let k := if row.stride = 0 then d else d % row.stride
    if i < row.count && k < 4 * row.words && k % 4 = 0 then some (k / 4) else none

/-- The row and word number of a register word, if the offset holds one (R37). -/
def findRow (off : Nat) : Option (RegRow × Nat) :=
  match locate off with
  | none => none
  | some (b, _, r) => b.rows.findSome? fun row => (row.word? r).map fun k => (row, k)

/-- Frequency in MHz of clock `k` (Table 14.7). -/
def clkMhz (k : Nat) : Nat :=
  if k < 8 then 8000 else if k < 24 then 2000 else if k = 32 then 1600 else if k = 34 then 400 else if k = 35 then 200 else 1000

/-- Register words whose reset value is not one constant over the array (Tables 2.7, 11.6, 14.13, LTH_ID). -/
def specialReset (b : Block) (i r : Nat) : Option Nat :=
  match b with
  | .lth =>
    if r = 0 then some (i + i / 2 * 8)
    else if r = 0x12C then some 8
    else if 0x1000 ≤ r && r < 0x1800 then some ((r - 0x1000) / 4)
    else if 0x2000 ≤ r && r < 0x2820 then some ((r - 0x2000) / 4)
    else none
  | .std => if r = 0x1100 then some 0xC8 else if 0x1000 ≤ r && r < 0x1100 && r % 0x20 = 0 then some 0xC000A else none
  | .flt => if r = 8 then some 0x4848 else none
  | .clk => if 0x100 ≤ r && r < 0x194 && r % 4 = 0 then some (clkMhz ((r - 0x100) / 4)) else none
  | _ => none

/-- The reset value of a register word (0 where no register is: R37). -/
def resetWord (off : Nat) : Word :=
  match locate off with
  | none => 0
  | some (b, i, r) =>
    match specialReset b i r with
    | some v => BitVec.ofNat 32 v
    | none =>
      match b.rows.findSome? fun row => (row.word? r).map fun k => (row, k) with
      | some (row, k) => BitVec.ofNat 32 (row.rst / 2 ^ (32 * k))
      | none => 0

/-- The stored word at offset `off`. -/
def State.rd (s : State) (off : Nat) : Word := sget (resetWord off) s.regs off

/-- Store a word at offset `off`. -/
def State.wr (s : State) (off : Nat) (v : Word) : State := { s with regs := sput (resetWord off) v s.regs off }

/-- A field of the stored word. -/
def State.rf (s : State) (off : Nat) (f : Fld) : Nat := bits (s.rd off).toNat f.lo f.w

/-- A one-bit field. -/
def State.flag (s : State) (off : Nat) (f : Fld) : Bool := decide (s.rf off f = 1)

/-- A software write of a register word: RW bits take the value, W1C bits written 1 clear, every other bit stays (R37, R603). -/
def State.wrSoft (s : State) (off : Nat) (v : Word) : State :=
  match findRow off with
  | none => s
  | some (row, k) =>
    let rw := BitVec.ofNat 32 (row.rw / 2 ^ (32 * k))
    let w1c := BitVec.ofNat 32 (row.w1c / 2 ^ (32 * k))
    s.wr off (((s.rd off &&& ~~~rw) ||| (v &&& rw)) &&& ~~~(v &&& w1c))

/-- Set a field of the stored word. -/
def State.wf (s : State) (off : Nat) (f : Fld) (v : Nat) : State :=
  s.wr off (BitVec.ofNat 32 (setBits (s.rd off).toNat f.lo f.w v))

/-- Set a one-bit field. -/
def State.wb (s : State) (off : Nat) (f : Fld) (v : Bool) : State := s.wf off f (b2n v)

/-- A 64-bit register (R14). -/
def State.rd64 (s : State) (off : Nat) : Nat := (s.rd off).toNat + 2 ^ 32 * (s.rd (off + 4)).toNat

/-- Store a 64-bit register. -/
def State.wr64 (s : State) (off v : Nat) : State :=
  (s.wr off (BitVec.ofNat 32 v)).wr (off + 4) (BitVec.ofNat 32 (v / 2 ^ 32))

/-- A field of a 64-bit register. -/
def State.rf64 (s : State) (off : Nat) (f : Fld) : Nat := bits (s.rd64 off) f.lo f.w

/-- Add `k` to a 64-bit statistics counter, saturating at 2⁶⁴ − 1 (R603). -/
def State.bump (s : State) (off k : Nat) : State :=
  if k = 0 then s else s.wr64 off (satTo (2 ^ 64 - 1) (s.rd64 off + k))

/-- Add `k` to a field, saturating at its largest value. -/
def State.incF (s : State) (off : Nat) (f : Fld) (k : Nat) : State := s.wf off f (satTo (2 ^ f.w - 1) (s.rf off f + k))

/-- The first offset and the length of instance `i` of a block. -/
def Block.span (b : Block) (i : Nat) : Nat × Nat :=
  let (base, _, stride, ext) := b.geo
  (base + i * stride, ext)

/-- Every register of instance `i` of block `b` back to its reset value. -/
def State.resetBlock (s : State) (b : Block) (i : Nat) : State :=
  { s with regs := sdrop s.regs (b.span i).1 (b.span i).2, heldLow := sdrop s.heldLow (b.span i).1 (b.span i).2 }

/-- Every statistics counter of instance `i` of block `b` to 0 (R84, R603). -/
def State.clearStats (s : State) (b : Block) (i : Nat) : State :=
  b.rows.foldl (fun acc row =>
    if row.stat then { acc with regs := sdrop acc.regs ((b.span i).1 + row.first) (if row.stride = 0 then 8 else row.count * row.stride) } else acc) s

/-! ## Tables of records -/

def State.lathe (s : State) (n : Nat) : Lathe := sget {} s.lathes n
def State.setLathe (s : State) (n : Nat) (l : Lathe) : State := { s with lathes := sput {} l s.lathes n }
def State.modLathe (s : State) (n : Nat) (f : Lathe → Lathe) : State := s.setLathe n (f (s.lathe n))

def State.group (s : State) (n g : Nat) : Group := sget {} s.groups (n * 8 + g)
def State.setGroup (s : State) (n g : Nat) (x : Group) : State := { s with groups := sput {} x s.groups (n * 8 + g) }
def State.modGroup (s : State) (n g : Nat) (f : Group → Group) : State := s.setGroup n g (f (s.group n g))

def State.engine (s : State) (b : Nat) : Engine := sget {} s.engines b
def State.setEngine (s : State) (b : Nat) (e : Engine) : State := { s with engines := sput {} e s.engines b }
def State.modEngine (s : State) (b : Nat) (f : Engine → Engine) : State := s.setEngine b (f (s.engine b))

def State.desc (s : State) (n d : Nat) : Desc := sget {} s.descs (n * 256 + d)
def State.setDesc (s : State) (n d : Nat) (x : Desc) : State := { s with descs := sput {} x s.descs (n * 256 + d) }

def State.waitersOf (s : State) (i : Nat) : List Waiter := sget [] s.waiters i
def State.setWaiters (s : State) (i : Nat) (l : List Waiter) : State := { s with waiters := sput [] l s.waiters i }

def State.stack (s : State) (m : Nat) : Stack := sget {} s.hbmStacks m
def State.setStack (s : State) (m : Nat) (x : Stack) : State := { s with hbmStacks := sput {} x s.hbmStacks m }

def State.rdcOf (s : State) (c : Nat) : List RedOp := sget [] s.rdc c
def State.setRdc (s : State) (c : Nat) (l : List RedOp) : State := { s with rdc := sput [] l s.rdc c }

def State.port (s : State) (p : Nat) : Port := sget {} s.ports p
def State.setPort (s : State) (p : Nat) (x : Port) : State := { s with ports := sput {} x s.ports p }
def State.modPort (s : State) (p : Nat) (f : Port → Port) : State := s.setPort p (f (s.port p))

def State.req (s : State) (t : Nat) : Option Req := (s.reqs.find? fun e => e.1 == t).map (·.2)

def State.histOf (s : State) (k : Nat) : HistRec := sget {} s.hist k
def State.setHist (s : State) (k : Nat) (x : HistRec) : State := { s with hist := sput {} x s.hist k }

def State.loop (s : State) (i : Nat) : Loop := sget {} s.loops i
def State.setLoop (s : State) (i : Nat) (x : Loop) : State := { s with loops := sput {} x s.loops i }
def State.modLoop (s : State) (i : Nat) (f : Loop → Loop) : State := s.setLoop i (f (s.loop i))

def State.core (s : State) (c : Nat) : CoreSt := sget {} s.cores c
def State.setCore (s : State) (c : Nat) (x : CoreSt) : State := { s with cores := sput {} x s.cores c }

def State.trim (s : State) (i : Nat) : Trim := sget {} s.trims i
def State.setTrim (s : State) (i : Nat) (x : Trim) : State := { s with trims := sput {} x s.trims i }
def State.modTrim (s : State) (i : Nat) (f : Trim → Trim) : State := s.setTrim i (f (s.trim i))

def State.conv (s : State) (c : Nat) : Conv := sget {} s.convs c
def State.setConv (s : State) (c : Nat) (x : Conv) : State := { s with convs := sput {} x s.convs c }

def State.cal (s : State) (n : Nat) : Cal := sget {} s.cals n
def State.setCal (s : State) (n : Nat) (x : Cal) : State := { s with cals := sput {} x s.cals n }
def State.modCal (s : State) (n : Nat) (f : Cal → Cal) : State := s.setCal n (f (s.cal n))

def State.fw (s : State) (k : Nat) : Fw := sget {} s.fws k
def State.setFw (s : State) (k : Nat) (x : Fw) : State := { s with fws := sput {} x s.fws k }

def State.owner (s : State) (k : Nat) : Owner := sget {} s.sec.owners k
def State.sess (s : State) (i : Nat) : Session := sget {} s.sec.sess i
def State.setSess (s : State) (i : Nat) (x : Session) : State := { s with sec := { s.sec with sess := sput {} x s.sec.sess i } }

/-- The next free value of the spec's open choices. -/
def State.takeFree (s : State) : Word × State := (Config.free s.freeNo, { s with freeNo := s.freeNo + 1 })

/-! ## The jig in force (R560, Table 15.6) -/

/-- The body of the default jig (15, after R548). -/
def defaultJig : List Byte :=
  List.replicate 8 0 ++ List.replicate 8 0xFF ++ [0xFF, 0xFF, 0xFF, 0xFF, 0x1F, 0, 0, 0] ++
    [16, 8, 72, 72, 95, 105, 115, 0] ++ List.replicate 128 0

/-- The image in force, if it is not the default jig (R548). -/
def Jig.inForce (j : Jig) : Option JigImg :=
  if j.force = 0 && j.cur.valid then some j.cur else if j.force = 1 && j.prev.valid then some j.prev else none

/-- The body in force: an image's, or the default jig's while no image is (R548, log entry 6). -/
def State.jigBody (s : State) : List Byte :=
  match s.jig.inForce with
  | some i => i.body
  | none => defaultJig

/-- A little-endian number of `k` bytes at offset `o` of a byte list. -/
def leNat (l : List Byte) (o k : Nat) : Nat :=
  (l.drop o).take k |>.foldr (fun b acc => b.toNat + 256 * acc) 0

/-- `k` bytes of a number, little-endian (R11). -/
def leBytes (x k : Nat) : List Byte := (List.range k).map fun i => BitVec.ofNat 8 (x / 256 ^ i)

def jigShape (body : List Byte) (n : Nat) : Nat := leNat body n 1 % 8
def jigDomEn (body : List Byte) (d : Nat) : Bool := bit (leNat body 8 8) d
def jigClkEn (body : List Byte) (k : Nat) : Bool := bit (leNat body 16 8) k
def jigSpanMib (body : List Byte) : Nat := leNat body 0x18 1
def jigJrnlMib (body : List Byte) : Nat := leNat body 0x19 1
def jigKp (body : List Byte) : Nat := leNat body 0x1A 1
def jigKm (body : List Byte) : Nat := leNat body 0x1B 1
def jigWarn (body : List Byte) : Nat := leNat body 0x1C 1
def jigThrottle (body : List Byte) : Nat := leNat body 0x1D 1
def jigTrip (body : List Byte) : Nat := leNat body 0x1E 1
def jigAutoOpen (body : List Byte) : Nat := leNat body 0x1F 1
/-- Dimension `d` of route set `r`, as the word of `IZP_RS_DIM`. -/
def jigRsDim (body : List Byte) (r d : Nat) : Nat := leNat body (0x20 + (8 * r + d) * 4) 4

/-- Lathes of a gang of shape code `sh` (Table 0.4). -/
def shapeSize (sh : Nat) : Nat := if sh = 1 then 2 else if sh = 2 then 4 else if sh = 3 then 8 else if sh = 4 then 2 else 1

/-- Shape of lathe `n`'s gang. -/
def State.shape (s : State) (n : Nat) : Nat := jigShape s.jigBody n
/-- Lowest lathe of lathe `n`'s gang (R4, R5). -/
def State.gang (s : State) (n : Nat) : Nat := let k := shapeSize (s.shape n); n / k * k
/-- The member lathes of the gang of lathe `n`. -/
def State.members (s : State) (n : Nat) : List Nat := (List.range (shapeSize (s.shape n))).map (s.gang n + ·)
/-- Lathe `n` is in a Deep-2 gang. -/
def State.deep (s : State) (n : Nat) : Bool := decide (s.shape n = 4)
/-- The members whose accumulators hold the gang's groups (R151). -/
def State.accMembers (s : State) (n : Nat) : List Nat := if s.deep n then [s.gang n] else s.members n
def State.spanMib (s : State) : Nat := jigSpanMib s.jigBody
def State.jrnlMib (s : State) : Nat := jigJrnlMib s.jigBody

/-! ## Debug and device identity (17) -/

def State.devId (s : State) : Nat := s.rf DEV_FABRIC_ID DEV_FABRIC_ID_ID
/-- Debug mode is active for lathe `n` (R601). -/
def State.debug (s : State) (n : Nat) : Bool := bit (s.rd DEV_DEBUG).toNat n

/-! ## Events (00 R17, R622; 16 R584–R591) -/

/-- UNIT of Table 0.8. -/
def unitOf (kind idx : Nat) : Nat := kind * 0x1000 + idx

/-- DETAIL from byte offsets (0x10 upwards) and values (R11). -/
def mkDetail (d : List (Nat × Nat)) : BitVec 384 := BitVec.ofNat 384 (d.foldl (fun acc e => acc + e.2 * 2 ^ (8 * (e.1 - 0x10))) 0)

def cINFO : Nat := 0
def cWARN : Nat := 1
def cFAULT : Nat := 2
def cFATAL : Nat := 3

/-- The 64 bytes of a record (Table 0.7) as one little-endian number. -/
def Event.toNat (e : Event) : Nat :=
  e.ft.toNat + 2 ^ 64 * e.code.toNat + 2 ^ 80 * e.cls.toNat + 2 ^ 88 * e.flags.toNat + 2 ^ 96 * e.unit.toNat +
    2 ^ 112 * e.ctx.toNat + 2 ^ 128 * e.detail.toNat

/-- The Vent's log takes a record, and the alert follows its class (R586, R591). -/
def State.logEvent (s : State) (e : Event) : State :=
  let k := s.rf VNT_LOG_IDX VNT_LOG_IDX_NEXT
  let s := { s with vent := { s.vent with log := sput {} e s.vent.log k } }
  let s := s.wf VNT_LOG_IDX VNT_LOG_IDX_NEXT (k + 1)
  if e.cls.toNat ≥ s.rf VNT_ALERT_CFG VNT_ALERT_CFG_MIN_CLASS then s.wb VNT_ALERT VNT_ALERT_PEND true else s

/-- A record bound for queue `e` is lost (R585). -/
def State.loseRecord (s : State) (e : Nat) : State :=
  let s := s.wr (EVT_Q_LOST e) (BitVec.ofNat 32 (satTo (2 ^ 32 - 1) ((s.rd (EVT_Q_LOST e)).toNat + 1)))
  let s := s.bump EVT_STAT_LOST 1
  s.wr EVT_STATUS (BitVec.ofNat 32 ((s.rd EVT_STATUS).toNat ||| 2 ^ (16 + e)))

/-- A FATAL event fails a health check at once: the rollback begins (R566, R567). -/
def State.healthFail (s : State) (fatal : Bool) : State :=
  if fatal && s.jig.st == .health then { s with jig := { s.jig with st := .rollingBack, cause := 1, quiescing := false } } else s

/-- Post one record: logged by the Vent and sent towards its unit kind's queue, or lost at a disabled one (R584–R586). -/
def State.postEvent (s : State) (e : Event) : State :=
  let s := ((s.bump EVT_STAT_POSTED 1).logEvent e).healthFail (e.cls == 3)
  let q := s.rf (EVT_MAP (e.unit.toNat / 0x1000)) EVT_MAP_QUEUE
  if s.flag (EVT_Q_CFG q) EVT_Q_CFG_EN then { s with evtFly := s.evtFly ++ [(q, e)] } else s.loseRecord q

/-- Post an event of `code`, class, unit, context (0xFFFF for none) and DETAIL entries. -/
def State.post (s : State) (code cls unit ctx : Nat) (d : List (Nat × Nat)) : State :=
  s.postEvent { ft := s.ft, code := BitVec.ofNat 16 code, cls := BitVec.ofNat 8 cls, unit := BitVec.ofNat 16 unit,
                ctx := BitVec.ofNat 16 ctx, detail := mkDetail d }

/-- The same with FLAGS.VENT set. -/
def State.postVent (s : State) (code cls unit : Nat) (d : List (Nat × Nat)) : State :=
  s.postEvent { ft := s.ft, code := BitVec.ofNat 16 code, cls := BitVec.ofNat 8 cls, flags := 2,
                unit := BitVec.ofNat 16 unit, detail := mkDetail d }

/-- The limit record of an event code in a scope. -/
def State.limitOf (s : State) (code scope : Nat) : Limit :=
  (s.limits.find? fun l => l.code == code && l.scope == scope).getD { code := code, scope := scope }

def State.setLimit (s : State) (l : Limit) : State :=
  { s with limits := l :: s.limits.filter fun x => !(x.code == l.code && x.scope == l.scope) }

/-- R622: `add` occurrences of `code` in `scope`, the first with detail `first` where the record names it; the detail of the first occurrence
and the number of occurrences since the previous record when one posts now: at the first of the `add`, the others being left for the next record. While
the event's enable bit `on` is 0 nothing posts, and the next record counts what it missed. -/
def State.limit (s : State) (on : Bool) (code scope interval first add : Nat) : Option (Nat × Nat) × State :=
  if add = 0 then (none, s)
  else
    let l := s.limitOf code scope
    let f := if l.count = 0 then first else l.first
    let due := match l.last with | some t => decide (interval ≤ (s.ft - t).toNat) | none => true
    if on && due then
      (some (f, satTo (2 ^ 32 - 1) (l.count + 1)), s.setLimit { l with last := some s.ft, count := add - 1, first := if add = 1 then 0 else first })
    else (none, s.setLimit { l with count := l.count + add, first := f })

/-- Post under the limit of R622; `d` gives the DETAIL entries from the detail of the first occurrence and the count. -/
def State.postFirst (s : State) (on : Bool) (interval scope first add code cls unit ctx : Nat) (d : Nat → Nat → List (Nat × Nat)) : State :=
  match s.limit on code scope interval first add with
  | (some (f, k), s) => s.post code cls unit ctx (d f k)
  | (none, s) => s

/-- Post under the limit of R622; `d` gives the DETAIL entries from the count. -/
def State.postLim (s : State) (on : Bool) (interval scope add code cls unit ctx : Nat) (d : Nat → List (Nat × Nat)) : State :=
  s.postFirst on interval scope 0 add code cls unit ctx fun _ k => d k

/-- A record that no limit holds back, of a code that has one in this scope (R622): limited records keep their interval from it. -/
def State.postOver (s : State) (scope code cls unit ctx : Nat) (d : Nat → List (Nat × Nat)) : State :=
  let k := satTo (2 ^ 32 - 1) ((s.limitOf code scope).count + 1)
  (s.setLimit { code := code, scope := scope, last := some s.ft }).post code cls unit ctx (d k)

/-- One millisecond in fabric-time ticks. -/
def ms : Nat := 1000000

/-! ## Addresses and memory (01 R30; 08) -/

/-- The parts of the local address map of Table 1.8. -/
inductive Region where
  | hbm (m o : Nat) | aperture (w x : Nat) | infeed (n o : Nat) | accWin (n o : Nat) | regs (o : Nat) | unmapped
deriving DecidableEq, Repr

def region (a : Nat) : Region :=
  if a < 0x6000000000 then .hbm (a / 0xC00000000) (a % 0xC00000000)
  else if a < 0x8000000000 then .unmapped
  else if a < 0xC000000000 then .aperture ((a - 0x8000000000) / 2 ^ 30) (a % 2 ^ 30)
  else if a < 0xE000000000 then .unmapped
  else if a < 0xE010000000 then .infeed ((a - 0xE000000000) / 0x2000000) (a % 0x2000000)
  else if a < 0xE100000000 then .unmapped
  else if a < 0xE108000000 then .accWin ((a - 0xE100000000) / 0x1000000) (a % 0x1000000)
  else if a < 0xF000000000 then .unmapped
  else if a < 0xF001000000 then .regs (a - 0xF000000000)
  else .unmapped

/-- Base of lathe `n`'s infeed store. -/
def infeedBase (n : Nat) : Nat := 0xE000000000 + 0x2000000 * n

/-- The state of power domain `d` (0 OFF, 1 ON, 2 GATED, 3 RETAIN, 4 RESET). -/
def State.dom (s : State) (d : Nat) : Nat := s.rf (PWR_DOM_STATUS d) PWR_DOM_STATUS_STATE

/-- An HBM offset of stack `m` is mapped: the stack is up, its domain ON, and the offset below the hole (R303, R311, R515). -/
def State.hbmMapped (s : State) (m o : Nat) : Bool :=
  s.flag (HBM_STATUS m) HBM_STATUS_UP && decide (s.dom (48 + m) = 1) && decide (o < 2 ^ 26 * s.rf (HBM_HOLE m) HBM_HOLE_START)

/-- The host address of aperture window `w`, offset `x`, while the window is valid (R579). -/
def State.hostAddr (s : State) (w x : Nat) : Option Nat :=
  if s.rf64 (PCI_APT w) PCI_APT_VALID = 1 then some (2 ^ 30 * s.rf64 (PCI_APT w) PCI_APT_BASE + x) else none

/-- The PCIe link is up (R581). -/
def State.hostUp (s : State) : Bool := s.flag PCI_STATUS PCI_STATUS_LINK_UP

/-- An address of the host-memory aperture. -/
def isAperture (a : Nat) : Bool := match region a with | .aperture _ _ => true | _ => false

/-- A local address of memory that an engine of the device can read and write. -/
def State.mapped (s : State) (a : Nat) : Bool :=
  match region a with
  | .hbm m o => s.hbmMapped m o
  | .aperture w x => (s.hostAddr w x).isSome
  | .infeed n _ => decide (s.dom (32 + n) = 1)
  | .accWin _ _ | .regs _ | .unmapped => false

/-- A word of the accumulator window is readable (R32). -/
def State.accReadable (s : State) (n : Nat) : Bool := s.debug n && s.dom (40 + n) = 1

/-- A local address at which an engine's read is answered: memory, the accumulator window in debug mode (R32), and the register range,
where a line is an access of another size than R15 takes. -/
def State.readable (s : State) (a : Nat) : Bool :=
  match region a with
  | .accWin n _ => s.accReadable n
  | .regs _ => true
  | _ => s.mapped a

/-- A local address at which an engine's write goes to memory, or is discarded without an event (R15, R32). -/
def State.writable (s : State) (a : Nat) : Bool :=
  match region a with
  | .accWin _ _ | .regs _ => true
  | _ => s.mapped a

/-- An address of HBM or an infeed store, whose bytes `State.mem` holds. -/
def isMem (a : Nat) : Bool := match region a with | .hbm _ _ | .infeed _ _ => true | _ => false

/-- Offset `o` of an infeed store lies in the lathe's journal region (R394). -/
def State.journaled (s : State) (o : Nat) : Bool :=
  s.jrnlMib = 8 && decide ((24 - s.spanMib) * 2 ^ 20 ≤ o) && decide (o < (32 - s.spanMib) * 2 ^ 20)

/-- An address of a journal region. -/
def State.inJournal (s : State) (a : Nat) : Bool := match region a with | .infeed _ o => s.journaled o | _ => false

/-- One byte as a read finds it: HBM and infeed from `mem`, but unspecified data in a journal region (R395), the aperture from host memory, the
accumulator window in debug mode from the words (R31, R32), and ones in the register range, which answers no line (R15). -/
def State.byte (s : State) (a : Nat) : Byte :=
  match region a with
  | .aperture w x => match s.hostAddr w x with | some h => sget 0 s.hostMem h | none => 0
  | .regs _ => 0xFF
  | .accWin n o => if s.accReadable n then BitVec.ofNat 8 ((sget 0 s.accMem (2 ^ 22 * n + o / 4)).toNat / 256 ^ (o % 4)) else 0
  | .infeed _ o => if s.journaled o then Config.journalByte a s.clock else sget 0 s.mem a
  | _ => sget 0 s.mem a

/-- A byte of host memory through window `w` of the aperture; nothing is written through a window that is not valid or with the link down. -/
def State.setHost (s : State) (w x : Nat) (v : Byte) : State :=
  match s.hostAddr w x with
  | some h => if s.hostUp then { s with hostMem := sput 0 v s.hostMem h } else s
  | none => s

/-- Store one byte at an address of HBM or an infeed store, or of host memory through the aperture. -/
def State.setByte (s : State) (a : Nat) (v : Byte) : State :=
  match region a with
  | .hbm _ _ | .infeed _ _ => { s with mem := sput 0 v s.mem a }
  | .aperture w x => s.setHost w x v
  | _ => s

def State.setBytes (s : State) (a : Nat) : List Byte → State
  | [] => s
  | v :: t => (s.setByte a v).setBytes (a + 1) t

/-- `k` bytes from `a`, lowest address first. -/
def State.bytes (s : State) (a k : Nat) : List Byte := (List.range k).map fun i => s.byte (a + i)

/-- A little-endian number of `k` bytes (R11). -/
def State.num (s : State) (a k : Nat) : Nat := (List.range k).foldr (fun i acc => (s.byte (a + i)).toNat + 256 * acc) 0

/-- How the host answers a read of the line that holds `a` (R581): the code of Table 16.11, or 0 where it answers with data. -/
def State.hostCode (s : State) (a : Nat) : Nat :=
  match region a with
  | .aperture w x => if !s.hostUp then 5 else match s.hostAddr w x with | some h => sget 0 s.hostBad (h / 64) | none => 0
  | _ => 0

/-- Poison mark of the line that holds `a` (R312); what the host does not answer with data is marked (R581). -/
def State.mark (s : State) (a : Nat) : Bool := if isAperture a then s.hostCode a != 0 else sget false s.marks (a / 64)

/-- A line is written to the host with the mark `v`: a marked one goes as a poisoned transaction, and the host decides whether a later read of it
completes poisoned (R312). -/
def State.markHost (s : State) (a : Nat) (v : Bool) : State :=
  match region a with
  | .aperture w x =>
    if !s.hostUp then s
    else match s.hostAddr w x with
      | none => s
      | some h =>
        if v then { s with hostBad := sput 0 (if Config.hostKeeps (h / 64) s.clock then 3 else 0) s.hostBad (h / 64) }
        else if sget 0 s.hostBad (h / 64) = 3 then { s with hostBad := sput 0 0 s.hostBad (h / 64) }
        else s
  | _ => s

/-- Set or clear the mark of one line. -/
def State.setMark (s : State) (a : Nat) (v : Bool) : State :=
  if isMem a then { s with marks := sput false v s.marks (a / 64) } else s.markHost a v

/-- Channel 0–31, pseudo-channel, local granule of a stack offset (R290). -/
def place (o : Nat) : Nat × Nat × Nat :=
  let g := o / 256
  ((g ^^^ (g / 32) ^^^ (g / 1024)) % 32, ((g / 32) ^^^ (g / 1024) ^^^ (g / 32768)) % 2, g / 32)

/-- The granules `base`, `base + mult` … of a channel and the channel that holds them. -/
structure Spot where
  own : Nat
  base : Nat := 0
  mult : Nat := 1
  holder : Nat
deriving DecidableEq, Repr

/-- Channels of a stack still in use after those of `order` went out of it. -/
def survivors (order : List Nat) : List Nat := (List.range 32).filter fun c => !order.contains c

/-- A channel's granules are dealt out in turn to the channels that survive it (R307; placement internal, log entry 12). -/
def Spot.dealt (p : Spot) (to_ : List Nat) : List Spot :=
  to_.zipIdx.map fun e => { p with base := p.base + p.mult * e.2, mult := p.mult * to_.length, holder := e.1 }

/-- Where the granules of a stack are held once the channels of `order` have gone out of use one after the other: each hands on what it holds,
its own granules and those it was given (R307). -/
def spots (order : List Nat) : List Spot :=
  (List.range order.length).foldl (fun acc i =>
    let r := (order[i]?).getD 0
    acc.flatMap fun p => if p.holder = r then p.dealt (survivors (order.take (i + 1))) else [p]) ((List.range 32).map fun c => { own := c, holder := c })

/-- The spot of granule `g` of channel `c`. -/
def spotOf (order : List Nat) (c g : Nat) : Spot :=
  if order = [] then { own := c, holder := c }
  else ((spots order).find? fun p => p.own == c && g % p.mult == p.base).getD { own := c, holder := c }

/-- HBM channel 0–255 of a local HBM address (R289, R290): its own, or, once that is out of use, the one that holds its granules (R307, R309);
while a channel is being retired, the granules already copied are at their new place (R308). -/
def State.channelOf (s : State) (a : Nat) : Nat :=
  let m := a / 0xC00000000
  let (c, _, g) := place (a % 0xC00000000)
  let x := s.stack m
  let p := spotOf x.order c g
  if s.rf (HBM_CH_STATE m p.holder) HBM_CH_STATE_STATE = 1 && g < min (Config.retireCopied (s.clock - x.since)) ((s.clock - x.since) / 8) then
    let live := survivors (x.order ++ [p.holder])
    32 * m + (live[(g - p.base) / p.mult % live.length]?).getD p.holder
  else 32 * m + p.holder

/-- The lines that `[a, a + len)` touches, by address. -/
def lineAddrs (a len : Nat) : List Nat := if len = 0 then [] else (List.range ((a + len - 1) / 64 - a / 64 + 1)).map fun i => (a / 64 + i) * 64

/-- Channel that holds a line before a retire in progress moves it (R307, R308). -/
def State.oldChannel (s : State) (a : Nat) : Nat :=
  let m := a / 0xC00000000
  32 * m + (spotOf (s.stack m).order (place (a % 0xC00000000)).1 (place (a % 0xC00000000)).2.2).holder

/-- A retire in progress has copied the line. -/
def State.copied (s : State) (a : Nat) : Bool :=
  s.flag (HBM_STATUS (a / 0xC00000000)) HBM_STATUS_MIGRATING && s.channelOf a != s.oldChannel a

/-- A line that a retire has copied is written at its new place (R308): if the copy was marked, its read returned a marked line (R293). -/
def State.writeFresh (s : State) (l : Nat) : State :=
  let m := l / 0xC00000000
  if !s.copied l || (s.stack m).fresh.contains l then s
  else (s.bump (HBM_STAT_POISON_RD m) (b2n (s.mark l))).setStack m { s.stack m with fresh := l :: (s.stack m).fresh }

/-- A write reaches lines of `[a, a + len)`: between a scrub's read of them and its write-back it cancels that (R298), and it goes to the new place of
lines that a retire has copied (R308). -/
def State.cancelScrub (s : State) (a len : Nat) : State :=
  match region a with
  | .hbm m _ =>
    let x := s.stack m
    let s := if x.wb = [] then s else s.setStack m { x with wb := x.wb.filter fun e => decide (e.1 + 64 ≤ a) || decide (a + len ≤ e.1) }
    if s.flag (HBM_STATUS m) HBM_STATUS_MIGRATING then (lineAddrs a len).foldl State.writeFresh s else s
  | _ => s

/-- An engine writes part of a line, of which each write is counted in its stack (R294). -/
def State.notePart (s : State) (a len : Nat) : State :=
  match region a with
  | .hbm m _ => ((s.cancelScrub a len).bump (HBM_STAT_PARTIAL m) 1).bump (HBM_STAT_POISON_RD m) (b2n (s.mark a))
  | _ => s

/-- Write one whole line with a mark (R294): an unmarked write removes an earlier mark. -/
def State.putLine (s : State) (a : Nat) (data : List Byte) (poison : Bool) : State :=
  (((s.cancelScrub a 64).setBytes a data).setMark a poison)

/-- Any line of a range is marked. -/
def State.anyMark (s : State) (a len : Nat) : Bool :=
  (isAperture a && (!s.hostUp || (s.hostBad != [] && (lineAddrs a len).any fun l => s.hostCode l != 0))) || !(srange s.marks (a / 64) ((a + len + 63) / 64 - a / 64)).isEmpty

/-- The first marked line of a range, by address; the range's start when none is. -/
def State.firstMark (s : State) (a len : Nat) : Nat :=
  if isAperture a then ((lineAddrs a len).find? s.mark).getD a
  else match srange s.marks (a / 64) ((a + len + 63) / 64 - a / 64) with
    | e :: _ => e.1 * 64
    | [] => a

/-- Count one line applied by the reducer of a channel (R332, Table 8.10). -/
def State.countLine (s : State) (ch : Nat) (mark : Bool) : State :=
  let s := (s.bump (RDC_STAT_LINES (ch / 32)) 1).bump (RDC_STAT_MARKS (ch / 32)) (b2n mark)
  s.wr (RDC_CH_LINES (ch / 32) (ch % 32)) (BitVec.ofNat 32 (satTo (2 ^ 32 - 1) ((s.rd (RDC_CH_LINES (ch / 32) (ch % 32))).toNat + 1)))

/-- POISON_MARK of one line of this device's memory: data 0 and the mark (R320). -/
def State.markLine (s : State) (l : Nat) : State := let s := s.cancelScrub l 64; { s with mem := sdrop s.mem l 64, marks := sput false true s.marks (l / 64) }

/-- An operation arrives at channel `c` for requester `rank`: behind those that came before it, and in one cycle behind those of lower or equal rank
(R324). -/
def State.arriveRed (s : State) (c rank : Nat) (o : RedOp) : State :=
  let o := { o with at_ := s.clock, rank := rank }
  let ahead (x : RedOp) : Bool := decide (x.at_ < s.clock) || decide (x.rank ≤ rank)
  let l := s.rdcOf c
  s.setRdc c (l.filter ahead ++ o :: l.filter fun x => !ahead x)

/-- Copy whole lines `[src, src + len)` to `dst` with their marks, inside the device's memories (carrier of Table 8.3). -/
def State.copyLines (s : State) (src dst len : Nat) : State :=
  let s := s.cancelScrub dst len
  { s with mem := scopy 0 s.mem src dst len, marks := scopy false s.marks (src / 64) (dst / 64) (len / 64) }

/-- UNIT of a requester (Tables 0.8, 1.9). -/
def reqUnit : Requester → Nat
  | .lathe n => unitOf 1 n.val
  | .port p => unitOf 0xB p.val
  | .host => unitOf 0xE 0
  | .vent => unitOf 0 0

/-- Requester of a unit of lathe `n`; the swap engine and the tile builder (8 and above) have none of their own. -/
def weightReq (n : Nat) : Requester := if h : n < 8 then .lathe ⟨n, h⟩ else .vent

/-- ADDR_UNMAPPED for an access of `req` to 56-bit address `ga` (R33, Table 1.9). -/
def State.unmappedEvent (s : State) (req : Requester) (ctx : Option (BitVec 8)) (ga : Nat) (wr : Bool) : State :=
  s.post 0x10 cFAULT (reqUnit req) ((ctx.map (·.toNat)).getD 0xFFFF) [(0x10, ga % 2 ^ 56), (0x17, b2n wr)]

/-- The 56-bit global address of a local address (R16). -/
def State.glob (s : State) (a : Nat) : Nat := 2 ^ 40 * s.devId + a

/-- Is a 56-bit address local (R34)? -/
def State.isLocal (s : State) (ga : Nat) : Bool := decide (ga / 2 ^ 40 = s.devId)

/-- Requester of a rank among arrivals of one cycle (R324). -/
def rankReq (rank : Nat) : Requester := if h : rank < 8 then .lathe ⟨rank, h⟩ else if h : rank - 8 < 16 then .port ⟨rank - 8, h⟩ else if rank = 24 then .host else .vent

/-- POISON_MARK, by requester `rank` for stage `who`, of the lines of a range: a line of a stack goes through the reducer of its channel, in order with the
other operations there (R320, R324), a line of an infeed store is marked at once; where no memory answers, the first line is reported (R33). -/
def State.poisonRange (s : State) (rank a len : Nat) (who : Option (Nat × Nat × Nat) := none) (ctx : Option (BitVec 8) := none) : State :=
  let s := (lineAddrs a len).foldl (fun (acc : State) l =>
    if isMem l && acc.mapped l then
      if l < 0x6000000000 then acc.arriveRed (acc.channelOf l) rank { op := 8, fmt := 4, dst := l, src := [], who := who, ctx := ctx } else acc.markLine l
    else acc) s
  match (lineAddrs a len).find? fun l => !s.writable l with
  | some l => s.unmappedEvent (rankReq rank) ctx (s.glob l) true
  | none => s

/-- Bytes read from or written to infeed stores (Table 5.11). -/
def State.countInf (s : State) (a len : Nat) (wr : Bool) : State :=
  match region a with
  | .infeed n _ => s.bump (if wr then INF_STAT_WR_BYTES n else INF_STAT_RD_BYTES n) len
  | _ => s

/-! ## Register access (R574, R577) -/

/-- Domain of a register block instance (R577). -/
def blockDom (b : Block) (i : Nat) : Nat :=
  match b with
  | .lth | .acc | .fin | .oll | .inf | .cal | .str => 4 * i + 3
  | .hbm | .rdc => 48 + i
  | .izp => 56 + i / 4
  | .pci => 60
  | .sec => 62
  | .dev | .vnt | .pwr | .clk | .jig | .flt | .evt => 63
  | .izpg | .ftm | .wtb | .sem | .std | .mon | .trm => 61

/-- Any request returns the PCIe link from L1 to L0 (R574). -/
def State.wakeLink (s : State) : State := if s.rf PCI_STATUS PCI_STATUS_LPS = 2 then s.wf PCI_STATUS PCI_STATUS_LPS 0 else s

/-- The block's power domain is OFF or in RESET (R577). -/
def State.blockOff (s : State) (b : Block) (i : Nat) : Bool := let d := s.dom (blockDom b i); d = 0 || d = 4

/-- A host access to an OFF block is counted (R577). -/
def State.offAccess (s : State) : State := if s.hostUp then s.bump PCI_STAT_OFF_ACCESS 1 else s

/-- A write of a register of instance `i` of block `b`: ignored and counted while its domain is OFF or in RESET (R577). -/
def State.atBlock (s : State) (b : Block) (i : Nat) (f : State → Out) : Out :=
  if s.blockOff b i then .next s.wakeLink.offAccess else f s.wakeLink

end Sys2Proof.Machine
end

