-- ==== Sys2Proof/Machine/Float.lean ====
section
/-! DEFINITION. binary32 and bfloat16 arithmetic of R103 and R104: round to nearest even, subnormal operands read as zero,
subnormal results flushed by their exact value, quiet NaN for invalid operations; and the activations of Table 4.7. -/
namespace Sys2Proof.Machine

/-- The value of a floating-point operand: `fin neg m e` is ± m · 2^e exactly. -/
inductive FVal where
  | nan
  | inf (neg : Bool)
  | fin (neg : Bool) (m : Nat) (e : Int)
deriving DecidableEq, Repr

/-- Decode a format of `mb` fraction bits and 8 exponent bits; a subnormal operand is a zero of its sign (R103). -/
def fdec (mb : Nat) (x : Nat) : FVal :=
  let neg := bit x (mb + 8)
  let ex := bits x mb 8
  let fr := bits x 0 mb
  if ex = 255 then (if fr = 0 then .inf neg else .nan)
  else if ex = 0 then .fin neg 0 0
  else .fin neg (2 ^ mb + fr) ((ex : Int) - 127 - mb)

/-- Encode a value; the flag says that a subnormal result was flushed. A NaN takes the canonical quiet pattern. -/
def fenc (mb : Nat) (v : FVal) : Nat × Bool :=
  match v with
  | .nan => (2 ^ mb * 255 + 2 ^ (mb - 1), false)
  | .inf neg => (b2n neg * 2 ^ (mb + 8) + 2 ^ mb * 255, false)
  | .fin neg m e =>
    let s := b2n neg * 2 ^ (mb + 8)
    if m = 0 then (s, false)
    else
      let l := Nat.log2 m
      let ex : Int := e + l
      if ex < -126 then (s, true)
      else
        let r := if l ≤ mb then m * 2 ^ (mb - l) else (divRne m (l - mb)).toNat
        let (r, ex) := if r = 2 ^ (mb + 1) then (2 ^ mb, ex + 1) else (r, ex)
        if ex > 127 then (s + 2 ^ mb * 255, false) else (s + (ex + 127).toNat * 2 ^ mb + (r - 2 ^ mb), false)

/-- A binary32 word. -/
abbrev F32 := Word

def F32.dec (x : F32) : FVal := fdec 23 x.toNat

/-- The binary32 word of a result; `a` and `b` are the operands a NaN's open bits may depend on. -/
def fres (v : FVal) (a b : F32) : F32 × Bool :=
  match v with
  | .nan => (0x7FC00000 ||| (Config.nanBits a b &&& 0x803FFFFF), false)
  | v => let (x, fl) := fenc 23 v; (BitVec.ofNat 32 x, fl)

/-- A signed exact number as a value. -/
def FVal.ofInt (x : Int) (e : Int) (zneg : Bool) : FVal := if x = 0 then .fin zneg 0 0 else .fin (decide (x < 0)) x.natAbs e

def sgn (neg : Bool) (m : Nat) : Int := if neg then -(m : Int) else m

def FVal.mul : FVal → FVal → FVal
  | .nan, _ | _, .nan => .nan
  | .inf a, .inf b => .inf (a != b)
  | .inf a, .fin b m _ => if m = 0 then .nan else .inf (a != b)
  | .fin a m _, .inf b => if m = 0 then .nan else .inf (a != b)
  | .fin a m e, .fin b n f => .fin (a != b) (m * n) (e + f)

def FVal.add : FVal → FVal → FVal
  | .nan, _ | _, .nan => .nan
  | .inf a, .inf b => if a = b then .inf a else .nan
  | .inf a, .fin .. => .inf a
  | .fin .., .inf b => .inf b
  | .fin a m e, .fin b n f =>
    if m = 0 && n = 0 then .fin (a && b) 0 0
    else if m = 0 then .fin b n f
    else if n = 0 then .fin a m e
    else
      let lo := min e f
      FVal.ofInt (sgn a m * 2 ^ (e - lo).toNat + sgn b n * 2 ^ (f - lo).toNat) lo false

def FVal.neg : FVal → FVal
  | .nan => .nan
  | .inf a => .inf (!a)
  | .fin a m e => .fin (!a) m e

/-- A quotient with 80 bits and a sticky bit, which rounds as the exact quotient does. -/
def FVal.div : FVal → FVal → FVal
  | .nan, _ | _, .nan => .nan
  | .inf _, .inf _ => .nan
  | .inf a, .fin b _ _ => .inf (a != b)
  | .fin a _ _, .inf b => .fin (a != b) 0 0
  | .fin a m e, .fin b n f =>
    if n = 0 then (if m = 0 then .nan else .inf (a != b))
    else if m = 0 then .fin (a != b) 0 0
    else
      let q := m * 2 ^ 80 / n
      let st := b2n (decide (m * 2 ^ 80 % n ≠ 0))
      .fin (a != b) (2 * q + st) (e - f - 81)

/-- Integer square root by bits, from bit `k` down. -/
def isqrt (x : Nat) : Nat → Nat → Nat
  | 0, r => r
  | k + 1, r => let t := r + 2 ^ k; isqrt x k (if t * t ≤ x then t else r)

def FVal.sqrt : FVal → FVal
  | .nan => .nan
  | .inf a => if a then .nan else .inf false
  | .fin a m e =>
    if m = 0 then .fin a 0 0
    else if a then .nan
    else
      let (m, e) := if e % 2 = 0 then (m * 2 ^ 60, e - 60) else (m * 2 ^ 61, e - 61)
      let r := isqrt m 64 0
      .fin false (2 * r + b2n (decide (r * r ≠ m))) (e / 2 - 1)

/-- Compare two values that are not NaN: −1, 0 or 1; the two zeros are equal. -/
def FVal.cmp : FVal → FVal → Int
  | .inf a, .inf b => if a = b then 0 else if a then -1 else 1
  | .inf a, _ => if a then -1 else 1
  | _, .inf b => if b then 1 else -1
  | .fin a m e, .fin b n f =>
    let lo := min e f
    let d := sgn a m * 2 ^ (e - lo).toNat - sgn b n * 2 ^ (f - lo).toNat
    if d < 0 then -1 else if d = 0 then 0 else 1
  | _, _ => 0

def isNan (x : F32) : Bool := x.dec == .nan

/-- binary32 operations; each answers its result and whether it flushed. -/
def fadd (a b : F32) : F32 × Bool := fres (a.dec.add b.dec) a b
def fmul (a b : F32) : F32 × Bool := fres (a.dec.mul b.dec) a b
def fsub (a b : F32) : F32 × Bool := fres (a.dec.add b.dec.neg) a b
def fdiv (a b : F32) : F32 × Bool := fres (a.dec.div b.dec) a b
def fsqrt (a : F32) : F32 × Bool := fres a.dec.sqrt a a

/-- `x · 2^e` as a binary32 word, one rounding. -/
def fOfInt (x : Int) (e : Int) : F32 × Bool := fres (FVal.ofInt x e false) 0 0

/-- binary32 to bfloat16 (R104): 16 bits and the flush flag; a NaN keeps its upper bits and stays quiet. -/
def toBf16 (x : F32) : Nat × Bool :=
  match x.dec with
  | .nan => (x.toNat / 65536 ||| 0x40, false)
  | v => fenc 7 v

/-- bfloat16 to binary32: exact; a subnormal is a zero of its sign. -/
def ofBf16 (x : Nat) : F32 :=
  if bits x 7 8 = 0 then BitVec.ofNat 32 (x / 32768 % 2 * 2 ^ 31) else BitVec.ofNat 32 (x % 65536 * 65536)

/-- Magnitude bits: the absolute value of a word. -/
def fabs (x : F32) : F32 := x &&& 0x7FFFFFFF

/-- The larger of two magnitudes; a NaN never replaces a number. -/
def fmaxMag (a b : F32) : F32 :=
  if isNan b then a else if (fabs b).toNat > a.toNat then fabs b else a

/-! ## Activations (Table 4.7, R172)

The functions within 4 units in the last place are computed here to far more bits, rounded once, and moved by an open
number of units, at most 3 either way. -/

/-- A dyadic number m · 2^e kept to 400 bits. -/
structure Dy where
  m : Int
  e : Int
deriving DecidableEq, Repr

def Dy.cut (x : Dy) : Dy :=
  let l := Nat.log2 x.m.natAbs
  if l ≤ 400 then x else ⟨x.m / 2 ^ (l - 400), x.e + (l - 400 : Nat)⟩

def Dy.mul (a b : Dy) : Dy := Dy.cut ⟨a.m * b.m, a.e + b.e⟩
def Dy.add (a b : Dy) : Dy :=
  if a.m = 0 then b else if b.m = 0 then a
  else if a.e ≤ b.e then
    (if b.e - a.e > 2000 then b else Dy.cut ⟨a.m + b.m * 2 ^ (b.e - a.e).toNat, a.e⟩)
  else (if a.e - b.e > 2000 then a else Dy.cut ⟨a.m * 2 ^ (a.e - b.e).toNat + b.m, b.e⟩)
def Dy.neg (a : Dy) : Dy := ⟨-a.m, a.e⟩
def Dy.div (a b : Dy) : Dy := if b.m = 0 then a else Dy.cut ⟨a.m * 2 ^ 800 / b.m, a.e - b.e - 800⟩
def Dy.one : Dy := ⟨1, 0⟩

/-- The decimal fraction n / 10^6. -/
def Dy.micro (n : Int) : Dy := Dy.div ⟨n, 0⟩ ⟨1000000, 0⟩

/-- ln 2 · 2^320. -/
def ln2Scaled : Int := 1480553391661173448385607439722553250922680800745876974795605978609098082859138712941075737848984

/-- e^r · 2^320 for a fixed-point r · 2^320, by the power series: 60 terms. -/
def expSeries (r : Int) : Nat → Int → Int → Int → Int
  | 0, _, _, acc => acc
  | n + 1, k, term, acc => let t := term * r / 2 ^ 320 / k; expSeries r n (k + 1) t (acc + t)

/-- e^x for |x| below 2¹²; beyond, 0 or a number past every binary32. -/
def Dy.exp (x : Dy) : Dy :=
  if x.m = 0 then Dy.one
  else if x.e + Nat.log2 x.m.natAbs > 11 then (if x.m < 0 then ⟨1, -10000⟩ else ⟨1, 10000⟩)
  else
    let f := if x.e + 320 ≥ 0 then x.m * 2 ^ (x.e + 320).toNat else x.m / 2 ^ (-(x.e + 320)).toNat
    let k := f / ln2Scaled
    let r := f - k * ln2Scaled
    Dy.cut ⟨expSeries r 80 1 (2 ^ 320) (2 ^ 320), k - 320⟩

/-- 1 / (1 + e^(−x)). -/
def Dy.sigmoid (x : Dy) : Dy := Dy.div Dy.one (Dy.add Dy.one (Dy.exp x.neg))

/-- The argument 2 · 0.797885 (v + 0.044715 v³) of the logistic form of GELU, since (1 + tanh u) / 2 = sigmoid(2u). -/
def geluArg (v : Dy) : Dy := Dy.mul (Dy.micro 1595770) (Dy.add v (Dy.mul (Dy.micro 44715) (Dy.mul v (Dy.mul v v))))

def geluD (v : Dy) : Dy := Dy.mul v (Dy.sigmoid (geluArg v))
def siluD (v : Dy) : Dy := Dy.mul v (Dy.sigmoid v)

/-- GELU′(a) = σ + a σ (1 − σ) · d/da of its argument. -/
def geluGradD (a : Dy) : Dy :=
  let s := Dy.sigmoid (geluArg a)
  let sc := Dy.sigmoid (geluArg a).neg
  let u := Dy.mul (Dy.micro 1595770) (Dy.add Dy.one (Dy.mul (Dy.micro 134145) (Dy.mul a a)))
  Dy.add s (Dy.mul (Dy.mul a (Dy.mul s sc)) u)

/-- SILU′(a) = σ + a σ (1 − σ). -/
def siluGradD (a : Dy) : Dy :=
  let s := Dy.sigmoid a
  Dy.add s (Dy.mul a (Dy.mul s (Dy.sigmoid a.neg)))

/-- The open choice of R172 applied to a rounded result: up to 3 units either way, a zero or an infinity kept. -/
def nudge (code : Nat) (a b : F32) (r : F32 × Bool) : F32 × Bool :=
  let m := (fabs r.1).toNat
  if m = 0 || m ≥ 0x7F800000 then r
  else
    let m' := m + Config.ulp code a b % 7 - 3
    (BitVec.ofNat 32 (r.1.toNat / 2 ^ 31 * 2 ^ 31 + (if m' < 0x800000 then 0 else min m' 0x7F800000)), r.2)

def Dy.word (x : Dy) : F32 × Bool := fres (FVal.ofInt x.m x.e false) 0 0

def fone : F32 := 0x3F800000
def fneginf : F32 := 0xFF800000
def finf : F32 := 0x7F800000

/-- e^x (R179). -/
def fexp (x : F32) : F32 × Bool :=
  match x.dec with
  | .nan => fres .nan x x
  | .inf neg => (if neg then 0 else finf, false)
  | .fin neg m e => nudge 16 x x (Dy.word (Dy.exp ⟨sgn neg m, e⟩))

/-- The value of a function at an infinite argument. DESIGN CHOICE (log entry 204): its limit. -/
def actInf (code : Nat) (neg : Bool) (v : F32) : F32 × Bool :=
  match code with
  | 2 | 3 => if neg then (0x80000000, false) else (v, false)
  | _ => if neg then (0, false) else (fone, false)

/-- Activation `code` of `v` with auxiliary `a`, all but EXP_SUB (Table 4.7; NaN in, NaN out: log entry 16). -/
def activate (code : Nat) (v a : F32) : F32 × Bool :=
  match code with
  | 1 => if isNan v then fres .nan v v else if (v.toNat / 2 ^ 31 = 1) || v.toNat % 2 ^ 31 = 0 then (0, false) else (v, false)
  | 2 | 3 | 4 => match v.dec with
    | .nan => fres .nan v v
    | .inf neg => actInf code neg v
    | .fin neg m e =>
      let x : Dy := ⟨sgn neg m, e⟩
      if m = 0 && code ≠ 4 then (v, false)
      else nudge code v v (Dy.word (if code = 2 then geluD x else if code = 3 then siluD x else Dy.sigmoid x))
  | 6 => match a.dec with
    | .nan => (0, false)
    | .inf neg => if neg then (0, false) else (v, false)
    | .fin neg m _ => if !neg && m ≠ 0 then (v, false) else (0, false)
  | 7 | 8 => match a.dec with
    | .nan => fres .nan v a
    | .inf neg => if neg then fmul v 0 else (v, false)
    | .fin neg m e =>
      let x : Dy := ⟨sgn neg m, e⟩
      let g := if code = 7 then geluGradD x else siluGradD x
      match v.dec with
      | .fin vn vm ve => nudge code v a (fres (FVal.ofInt (sgn vn vm * g.m) (ve + g.e) vn) v a)
      | w => fres (w.mul (FVal.ofInt g.m g.e false)) v a
  | 9 => fmul v v
  | _ => (v, false)

end Sys2Proof.Machine
end

