-- ==== Sys2Proof/Machine/Programs.lean ====
section
/-! DEFINITION. Stroke programs: decoding headers and stages (R198–R201), lookup and hand-over (R205–R208), and aborts
(R228–R234), which every family that ends a program uses. -/
namespace Sys2Proof.Machine

/-! ## Decoding (Tables 5.1, 5.2) -/

/-- Every byte of `l` whose offset is in none of the ranges `(lo, len)` is 0. -/
def zeroOutside (l : List Byte) (rs : List (Nat × Nat)) : Bool :=
  (l.zipIdx).all fun (v, i) => v == 0 || rs.any fun r => decide (r.1 ≤ i) && decide (i < r.1 + r.2)

/-- `ok`, or the reason of R198. -/
def need (b : Bool) (reason : Nat) : Except Nat Unit := if b then .ok () else .error reason

/-- Formats whose operations of Table 8.6 exist (R326, R327). -/
def redOk (op fmt : Nat) : Bool :=
  if op = 1 || op = 2 || op = 3 then decide (1 ≤ fmt) && decide (fmt ≤ 3)
  else if op = 4 then decide (fmt = 4)
  else if op = 5 || op = 6 then decide (fmt = 5)
  else if op = 7 then decide (1 ≤ fmt) && decide (fmt ≤ 5)
  else if op = 8 then decide (fmt = 4)
  else false

/-- An address whose low 40 bits lie in the HBM range of Table 1.8. -/
def inHbm (a : Nat) : Bool := decide (a % 2 ^ 40 < 0x6000000000)

/-- Decode one stage record; `early` is PACED and EARLY_OK together, `size` the lathes of the gang (R198, R201). Fields that the stage's own settings
leave unused are not checked: those of a RUN without OPEN that Table 4.1 fixes at the open, STATE_BASE of a drain that uses no row state, SRC of a
POISON_MARK. -/
def decodeStage (l : List Byte) (early : Bool) (size : Nat) : Except Nat Stage := do
  let u (o k : Nat) := leNat l o k
  let res (rs : List (Nat × Nat)) : Except Nat Unit := need (zeroOutside l ((0, 1) :: rs)) 6
  match u 0 1 with
  | 1 => do
    res [(4, 3), (8, 5)]
    need (u 4 2 < 256 && u 6 1 < size) 6
    return .fetch (u 4 2) (u 6 1) (u 8 5)
  | 2 => do
    res [(4, 1), (6, 2), (8, 5), (0x10, 5)]
    need (u 4 1 < 2 && (u 6 2 < 4096 || u 6 2 == 0xFFFF)) 6
    return .load (bit (u 4 1) 0) (u 6 2) (u 8 5) (u 0x10 5)
  | 3 => do
    res [(4, 10), (0x10, 5), (0x18, 2)]
    let opens := bit (u 4 1) 3
    need (u 4 1 < 32 && decide (1 ≤ u 5 1) && u 5 1 < 4) 6
    need (decide (64 ≤ u 8 2) && u 8 2 ≤ 4096 && u 8 2 % 64 == 0 && (u 0x18 2 < 4096 || u 0x18 2 == 0xFFFF)) 6
    need (!opens || (u 6 2 < 8192 && u 6 2 % 64 == 0 && u 0xA 1 ≤ 8 && u 0xB 1 ≤ 15 && decide (-32 ≤ sext 8 (u 0xC 1)) && decide (sext 8 (u 0xC 1) ≤ 31) &&
      decide (-32 ≤ sext 8 (u 0xD 1)) && decide (sext 8 (u 0xD 1) ≤ 31))) 6
    return .run (u 4 1 % 8) opens (bit (u 4 1) 4) (u 5 1) (u 6 2) (u 8 2) (u 0xA 1) (u 0xB 1) (sext 8 (u 0xC 1)) (sext 8 (u 0xD 1)) (u 0x10 5) (u 0x18 2)
  | 4 => do
    res [(4, 4), (8, 7), (0x10, 5), (0x18, 5), (0x20, 6), (0x28, 4), (0x30, 5), (0x38, 5)]
    let fl := u 4 1
    let form := u 5 1
    let op := u 7 1 / 4
    need (decide (1 ≤ form) && decide (form ≤ 0xA)) 6
    let rowState := bit fl 3 || bit fl 7 || u 6 1 == 5 || u 7 1 % 4 != 0
    need (form == 0xA || (u 6 1 ≤ 9 && (!rowState || u 0x24 2 < 8192))) 6
    need (!(form == 8 || form == 9) || op == 1 || op == 2 || op == 3 || op == 7) 6
    need (!(form == 8 || form == 9) || (u 8 7 % 64 == 0 && inHbm (u 8 7))) 6
    need (!bit fl 7 || form == 7) 6
    need (!bit fl 4 || early) 7
    return .drain (fl % 8) (bit fl 3) (bit fl 4) (bit fl 5) (bit fl 6) (bit fl 7) form (u 6 1) (u 7 1) (u 8 7) (u 0x10 5) (u 0x18 5) (u 0x20 4) (u 0x24 2) (u 0x28 4) (u 0x30 5) (u 0x38 5)
  | 5 => do
    res [(4, 2), (8, 7), (0x10, 7), (0x18, 4)]
    need (redOk (u 4 1) (u 5 1) && (u 4 1 == 8 || u 8 7 % 64 == 0) && u 0x10 7 % 64 == 0 && u 0x18 4 % 64 == 0 && inHbm (u 0x10 7)) 6
    return .reduce (u 4 1) (u 5 1) (u 8 7) (u 0x10 7) (u 0x18 4)
  | 6 => do
    res [(4, 5), (0xC, 4)]
    need (u 4 2 < 8192 && u 8 1 < 2 && decide (1 ≤ u 0xC 4)) 6
    return .signal (u 4 2) (u 6 2) (bit (u 8 1) 0) (u 0xC 4)
  | 7 => do
    res [(4, 2), (0xC, 8)]
    need (u 4 2 < 8192 && decide (1 ≤ u 0xC 4)) 6
    return .wait (u 4 2) (u 0xC 4) (u 0x10 4)
  | 8 => do
    res [(6, 2), (8, 5), (0x10, 8)]
    need (u 6 2 < 4096) 6
    return .swap (u 6 2) (u 8 5) (u 0x10 8)
  | 9 => do
    res [(4, 1)]
    need (u 4 1 < 2) 6
    return .fence (u 4 1)
  | 10 => do
    res [(8, 8)]
    return .at (u 8 8)
  | _ => .error 5

/-- Decode the stages of a program from number `k` on; the error names the reason and the first offending stage. -/
def decodeStages (l : List Byte) (early : Bool) (size : Nat) : Nat → Nat → Except (Nat × Nat) (List Stage)
  | 0, _ => .ok []
  | n + 1, k =>
    match decodeStage ((l.drop (0x100 + k * 0x40)).take 0x40) early size with
    | .error r => .error (r, k)
    | .ok st => match decodeStages l early size n (k + 1) with
      | .error e => .error e
      | .ok t => .ok (st :: t)

/-- One step of the reflected CRC-32C register over a byte (R250). -/
def crcByte (c : Nat) (b : Nat) : Nat :=
  (List.range 8).foldl (fun c _ => if c % 2 = 1 then (c / 2) ^^^ 0x82F63B78 else c / 2) (c ^^^ b)

/-- CRC-32C (R250). -/
def crc32c (l : List Byte) : Nat := (l.foldl (fun c b => crcByte c b.toNat) 0xFFFFFFFF) ^^^ 0xFFFFFFFF

/-- Decode a program's bytes for the gang `gang` of `size` lathes: the program, or the reason and stage of R198, in the order
of its list. -/
def decodeProg (l : List Byte) (hdr gang size : Nat) : Except (Nat × Nat) Prog :=
  let u (o k : Nat) := leNat l o k
  let fl := u 3 1
  if u 0 2 ≠ 1 then .error (1, 0xFF)
  else if u 2 1 < 1 || 32 < u 2 1 then .error (2, 0xFF)
  else if u 5 1 ≠ gang then .error (3, 0xFF)
  else if bit fl 3 && crc32c ((l.take 0x24) ++ [0, 0, 0, 0] ++ (l.drop 0x28).take (0xD8 + 0x40 * u 2 1)) ≠ u 0x24 4 then .error (4, 0xFF)
  else match decodeStages l (bit fl 0 && bit fl 1) size (u 2 1) 0 with
    | .error e => .error e
    | .ok stages =>
      if 16 ≤ fl || u 6 2 ≠ 0 || u 0x1D 3 ≠ 0 || u 0x18 5 % 16 ≠ 0 || !(zeroOutside (l.take 0x100) [(0, 0x28)]) then .error (8, 0xFF)
      else .ok { no := 0, hdr := hdr, paced := bit fl 0, earlyOk := bit fl 1, retireEvt := bit fl 2, ctx := BitVec.ofNat 8 (u 4 1),
                 startFt := u 8 8, slack := u 0x10 4, timeout := u 0x14 4, statusAddr := u 0x18 5, tag := BitVec.ofNat 32 (u 0x20 4),
                 stages := stages, prog := stages.map fun _ => .waiting }

/-! ## The program store -/

/-- Program `p` of engine `b`. -/
def State.prog (s : State) (b p : Nat) : Option Prog := (s.engine b).progs.find? fun x => x.no == p

def State.modProg (s : State) (b p : Nat) (f : Prog → Prog) : State :=
  s.modEngine b fun e => { e with progs := e.progs.map fun x => if x.no = p then f x else x }

def State.removeProg (s : State) (b p : Nat) : State := s.modEngine b fun e => { e with progs := e.progs.filter fun x => x.no != p }

/-- Stage `k` of program `p` of engine `b`. -/
def State.stage (s : State) (b p k : Nat) : Option Stage := (s.prog b p).bind fun x => x.stages[k]?

def Prog.stageSt (x : Prog) (k : Nat) : StageSt := (x.prog[k]?).getD .done

def State.stageSt (s : State) (b p k : Nat) : StageSt := match s.prog b p with | some x => x.stageSt k | none => .done

def State.setStage (s : State) (b p k : Nat) (st : StageSt) : State :=
  s.modProg b p fun x => { x with prog := x.prog.set k st, doneFt := if st = .done then (k, s.ft.toNat) :: x.doneFt else x.doneFt }

/-- The unit a stage occupies (R205): 1 stream, 2 weight, 3 optics, 4 finisher, 5 reducer port; 0 for none. -/
def Stage.unit : Stage → Nat
  | .fetch .. => 1 | .load .. => 2 | .run .. => 3 | .drain .. => 4 | .reduce .. => 5 | _ => 0

/-- The stages of an engine that stand before stage `k` of program `p` in acceptance order. -/
def stagesBefore (progs : List Prog) (p k : Nat) : List (Prog × Stage × StageSt) :=
  progs.flatMap fun x =>
    if x.no < p then (x.stages.zip x.prog).map fun y => (x, y.1, y.2)
    else if x.no = p then ((x.stages.zip x.prog).take k).map fun y => (x, y.1, y.2)
    else []

/-- The unit of stage `k` takes it next: every earlier stage of that unit has started; the finisher and the reducer port have also
completed theirs (R205, log entry 22). -/
def State.unitFree (s : State) (b p k u : Nat) : Bool :=
  (stagesBefore (s.engine b).progs p k).all fun (x, st, ss) => x.st != .started || st.unit != u || (if 4 ≤ u then ss == .done else ss != .waiting)

/-- No WAIT, AT or FENCE before stage `k` of its program is still to complete (R208; for FENCE log entry 19). -/
def Prog.gateOpen (x : Prog) (k : Nat) : Bool :=
  ((x.stages.zip x.prog).take k).all fun (st, ss) =>
    match st with
    | .wait .. | .at .. | .fence .. => ss == .done
    | _ => true

/-- Fabric time at which the stages before stage `k` let it start: when the last WAIT, AT or FENCE before it completed, or when its program started
(R208, R270). -/
def Prog.readyFt (x : Prog) (k : Nat) : Nat :=
  let gate (i : Nat) : Bool := match x.stages[i]? with | some (.wait ..) | some (.at ..) | some (.fence ..) => true | _ => false
  match x.doneFt.find? fun e => decide (e.1 < k) && gate e.1 with
  | some e => e.2
  | none => x.beganFt

/-- An envelope of bytes, as a 56-bit global address and its length. -/
abbrev Range := Nat × Nat

def overlap (x y : Range) : Bool := decide (0 < x.2) && decide (0 < y.2) && decide (x.1 < y.1 + y.2) && decide (y.1 < x.1 + x.2)

/-- Bytes of a drained row set of `rows` rows in `form` (Table 4.5, R92). -/
def drainBytes (form rows : Nat) : Nat :=
  if form = 4 then (rows + 31) / 32 * 33344
  else if form ≤ 5 then (rows + 31) / 32 * 16960
  else if form = 6 || form = 8 then rows * 1024
  else rows * 2048

/-- Number of 4 KiB grain blocks of `d` data bytes, and the length of the trailer (R249). -/
def grainBlocks (d : Nat) : Nat := (d + 4095) / 4096
def trailerLen (d : Nat) : Nat := (4 * grainBlocks d + 63) / 64 * 64

/-- The envelope of a transfer's destination. -/
def Arm.dstRange (a : Arm) : Range :=
  let last : Int := (a.dst : Int) + ((a.rows : Int) - 1) * a.dstr
  let lo := min (a.dst : Int) last
  let hi := max (a.dst : Int) last
  (lo.toNat, (hi - lo).toNat + (if a.grain then a.rowb + trailerLen a.rowb else a.rowb))

/-- Rows of the group that a DRAIN names: what the last earlier RUN of the group gives it, else what it has. -/
def State.drainedRows (s : State) (b p k gr : Nat) : Nat :=
  (stagesBefore (s.engine b).progs p k).foldl (fun rows e =>
    match e.2.1 with
    | .run g _ _ _ _ t .. => if g = gr then t else rows
    | _ => rows) (s.group b gr).rows

/-- The member whose descriptor a FETCH names, and the arm next in line for its claim (R206). -/
def State.fetchRange (s : State) (b desc member : Nat) (who : Nat × Nat × Nat) : Option Range :=
  let d := s.desc (b + member) desc
  if d.owner = who && (d.st == .busy || d.st == .busyShadow) then some d.arm.dstRange
  else match d.st with
    | .armed | .armedShadow => some d.arm.dstRange
    | .busyShadow => some d.shadow.dstRange
    | _ => none

/-- Ranges a stage reads and ranges it writes (R206), as global addresses; `none` stands for every range. -/
def State.stageRanges (s : State) (b p k : Nat) (st : Stage) : Option (List Range × List Range) :=
  let g (a : Nat) := s.glob a
  let n := shapeSize (s.shape b)
  match st with
  | .fetch d m _ => (s.fetchRange b d m (b, p, k)).map fun r => ([], [r])
  | .load live _ src mst => some ([(g src, (n - 1) * mst + (if live then 271360 else 267136))], [])
  | .run _ _ _ _ _ t _ _ _ _ input _ =>
    some ((List.range (if s.deep b then 2 else 1)).map fun l => (g (input + 0x2000000 * l), t / 32 * 16960), [])
  | .drain gr _ _ sc bi _ form act _ dst rec vec _ _ _ aux mst =>
    let rows := s.drainedRows b p k gr
    let k := (s.accMembers b).length
    if form = 10 then
      let at_ (i : Nat) : Nat := s.num (rec + 8 * i) 5
      let m16 := (aux + 16383) / 16384 * 33344
      some ([(g rec, 64), (g (at_ 0), aux * 4), (g (at_ 4), 64)],
        [(g (at_ 1), aux * 4), (g (at_ 2), m16), (g (at_ 3), m16), (g (at_ 5), 64), (g (at_ 6), 64)] ++
          (if at_ 7 = 0 then [] else [(g (at_ 7), 64), (dst, (n - 1) * mst + (aux + 16383) / 16384 * 16960)]))
    else
      some ((if sc || bi then [(g vec + (if sc then 0 else 2048), k * 4096 - (if sc && bi then 0 else 2048))] else []) ++ (if 6 ≤ act && act ≤ 8 then [(g aux, k * rows * 1024)] else []),
        [(dst, (k - 1) * mst + drainBytes form rows)])
  | .reduce _ _ src dst len => some ([(src, len)], [(dst, len)])
  | _ => some ([], [])

/-- No earlier stage of the same program that is not complete conflicts with stage `k` (R206). -/
def State.rangesClear (s : State) (b p k : Nat) (x : Prog) (st : Stage) : Bool :=
  if st.unit = 0 then true
  else ((x.stages.zip x.prog).take k).zipIdx.all fun ((e, ss), i) =>
    e.unit == 0 || ss == .done ||
      match s.stageRanges b p i e, s.stageRanges b p k st with
      | some (r1, w1), some (r2, w2) =>
        !(w1.any fun x => r2.any (overlap x)) && !(r1.any fun x => w2.any (overlap x)) && !(w1.any fun x => w2.any (overlap x))
      | _, _ => false

/-- Stage `k` of program `p` may start: its program is started, it has not started, its unit is free and its hand-overs are
done (R205, R206, R208). -/
def State.mayStart (s : State) (b p k : Nat) : Bool :=
  match s.prog b p with
  | none => false
  | some x =>
    match x.stages[k]? with
    | none => false
    | some st => x.st == .started && x.stageSt k == .waiting && x.gateOpen k &&
        (st.unit == 0 || s.unitFree b p k st.unit) && s.rangesClear b p k x st

/-! ## Requests still on their way (R225) -/

/-- A request belongs to stage `w.2.2` of program `w.2.1` of engine `w.1`. -/
def ofStage (who : Option (Nat × Nat × Nat)) (b p k : Nat) : Bool := who == some (b, p, k)

/-- A request belongs to program `p` of engine `b`. -/
def ofProg (who : Option (Nat × Nat × Nat)) (b p : Nat) : Bool :=
  match who with
  | some (b', p', _) => b' == b && p' == p
  | none => false

/-- Requests to the fabric, the host and the reducers, those that wait for a tag, scale records still to be updated or judged (R110), and multicast
copies not acknowledged (R363), that satisfy `f`. -/
def State.countReqs (s : State) (f : Option (Nat × Nat × Nat) → Bool) : Nat :=
  (s.reqs.filter fun e => f e.2.who).length + (s.hostReqs.filter fun r => f r.who).length + (s.tagWait.filter fun e => f e.1.who).length +
    (s.hostWait.filter fun r => f r.who).length + (s.redHeld.filter fun h => f (some h.who)).length + (s.scaleUpd.filter fun u => f u.who).length +
    (s.scaleEval.filter fun u => f u.who).length +
    s.rdc.foldl (fun k e => k + (e.2.filter fun o => f o.who).length) 0 +
    s.mcMsgs.foldl (fun k e => k + (e.2.filter fun m => f m.who).length) 0

/-- Requests that program `p` of engine `b` has outstanding. -/
def State.outstanding (s : State) (b p : Nat) : Nat := s.countReqs fun w => ofProg w b p

/-- Requests that one stage has outstanding. -/
def State.stageOutstanding (s : State) (b p k : Nat) : Nat := s.countReqs fun w => ofStage w b p k

/-! ## Aborts and retirement (R227–R234) -/

/-- A program is COMMITTED: every stage has completed and every write is visible (R227). A use of marked data in its context that waits
for its abort keeps it from that (R316, log entry 23). -/
def State.committed (s : State) (b : Nat) (x : Prog) : Bool :=
  x.prog.all (· == .done) && s.outstanding b x.no = 0 && s.uses.all fun u => u.ctx != x.ctx

/-- The running stage that an abort without a stage of its own names in STAGE (Table 5.6): the first that runs, else the first not yet
complete (log entry 21). -/
def Prog.current (x : Prog) : Nat :=
  match x.prog.findIdx? fun st => st == .running with
  | some k => k
  | none => (x.prog.findIdx? fun st => st != .done).getD 0xFF

/-- The completion record of Table 5.6, one 16-byte write by engine `b`, when STATUS_ADDR is not 0. -/
def State.writeRecord (s : State) (b : Nat) (x : Prog) (status flags cause stage : Nat) : State :=
  if x.statusAddr = 0 then s
  else if !s.writable x.statusAddr then s.unmappedEvent (weightReq b) (some x.ctx) (s.glob x.statusAddr) true
  else ((s.notePart x.statusAddr 16).setBytes x.statusAddr
    (leBytes s.ft.toNat 8 ++ leBytes (status + flags * 256 + cause * 65536 + stage * 2 ^ 24) 4 ++ leBytes x.tag.toNat 4)).countInf x.statusAddr 16 true

/-- A program retires: its record, its counters and events, and it leaves the store (R227, R229, R234). -/
def State.retire (s : State) (b : Nat) (x : Prog) (aborted late : Bool) (record : Bool) : State :=
  let flags := b2n late + 2 * b2n x.deadlineMiss
  let status := if aborted then 2 else 1
  let cause := if aborted then x.cause else 0
  let s := if record then s.writeRecord b x status flags cause (if aborted || late then x.abortStage else 0xFF) else s
  let s := if aborted then s.bump (STR_STAT_ABORTED b) 1 else s.bump (STR_STAT_DONE b) 1
  let s := if late then s.bump (STR_STAT_ABORT_LATE b) 1 else s
  let s := if aborted && x.cause != 1 && x.cause != 5 then
      s.post 0x501 cFAULT (unitOf 1 b) x.ctx.toNat [(0x10, b), (0x11, x.cause), (0x12, x.abortStage), (0x14, x.tag.toNat)] else s
  let s := if x.retireEvt then
      s.post 0x502 cINFO (unitOf 1 b) x.ctx.toNat [(0x10, b), (0x11, status), (0x12, flags), (0x14, x.tag.toNat)] else s
  s.removeProg b x.no

/-- The oldest waiters of semaphore `i` complete while its value covers their COUNTs (R212). -/
def State.testWaitersN (s : State) (i : Nat) : Nat → State
  | 0 => s
  | fuel + 1 =>
    match s.waitersOf i with
    | [] => s
    | w :: rest =>
      let v := (s.rd (SEM_VAL i)).toNat
      if w.count ≤ v then
        let s := (s.wr (SEM_VAL i) (BitVec.ofNat 32 (v - w.count))).setWaiters i rest
        ((s.bump SEM_STAT_WAITS 1).setStage w.eng w.prog w.stage .done).testWaitersN i fuel
      else s

def State.testWaiters (s : State) (i : Nat) : State := s.testWaitersN i (s.waitersOf i).length

/-- Groups of the gang's accumulators that a program owns and an abort makes INVALID (Table 4.3, R152), with
GROUP_INVALIDATED per lathe. -/
def State.invalidate (s : State) (n : Nat) (sel : Group → Bool) (ctx : Nat) : State :=
  let hit (g : Nat) := let x := s.group n g; (x.st == .open || x.st == .spanMove || x.st == .closing) && sel x
  let m := maskOf 8 hit
  if m = 0 then s
  else
    let s := (List.range 8).foldl (fun acc g => if hit g then acc.modGroup n g fun x => { x with st := .invalid, held := none, drain := none } else acc) s
    let s := (List.range 8).foldl (fun acc g => if hit g then acc.bump (ACC_STAT_INVALID n) 1 else acc) s
    s.post 0x404 cINFO (unitOf 1 n) ctx [(0x10, n), (0x11, m)]

/-- Banks that an aborted program was writing, or wrote and no RUN switched to, return to FREE (R625). -/
def Lathe.dropPlanes (l : Lathe) (b p : Nat) : Lathe :=
  let mine (x : Bank) := x.src.eng == b && x.src.prog == p && !x.refresh && !x.replay && !x.relive && (x.st == .writing || x.st == .pending)
  { l with newLive := l.newLive && !((if l.liveB then l.bankB else l.bankA).src.eng == b && (if l.liveB then l.bankB else l.bankA).src.prog == p),
           bankA := if mine l.bankA then {} else l.bankA, bankB := if mine l.bankB then {} else l.bankB,
           displaced := l.displaced.filter fun d => d.1.relive || !(d.1.src.eng == b && d.1.src.prog == p),
           wait := match l.wait with | some w => if w.eng == b && w.prog == p then none else some w | none => none }

/-- A transfer stops under abort, or ends: DONE_GEN, LAST, and the shadow promoted (R221, R224). -/
def Desc.finish (d : Desc) (last : Nat) : Desc :=
  match d.st with
  | .busy => { d with st := .idle, doneGen := d.arm.gen, last := last, left := 0, moved := false, tries := 0, again := [], buf := [], bad := [] }
  | .busyShadow =>
    { d with st := .armed, doneGen := d.arm.gen, last := last, arm := d.shadow, left := 0, moved := false, tries := 0, again := [], buf := [], bad := [] }
  | _ => d

/-- The transfers that the program's stages run stop (R229). -/
def State.stopTransfers (s : State) (b p : Nat) : State :=
  let stop (d : Desc) : Desc := if (d.st == .busy || d.st == .busyShadow) && d.owner.1 == b && d.owner.2.1 == p then d.finish 2 else d
  { s with descs := smap {} stop s.descs }

/-- A stage that is a DRAIN of a group: an abort leaves a group in DRAINING to drain to its last row (R153); an update (FORM 0x0A) drains none. -/
def State.drains (s : State) (who : Option (Nat × Nat × Nat)) : Bool :=
  match who with
  | some (b, p, k) => match s.stage b p k with | some (.drain _ _ _ _ _ _ form ..) => form != 10 | _ => false
  | none => false

/-- An update of the program that the finisher runs stops; its scale records are not asked for any more (R229). -/
def Lathe.dropUpdate (l : Lathe) (b p : Nat) : Lathe :=
  match l.upd with
  | some (w, _) => if ofProg (some w) b p then { l with upd := none, finOp := if l.finOp = 3 then 0 else l.finOp } else l
  | none => l

/-- What the program's requests bring back is dropped, those not yet issued are not, and its messages complete no stage (R229). -/
def State.dropRequests (s : State) (b p : Nat) : State :=
  let mine (w : Option (Nat × Nat × Nat)) : Bool := ofProg w b p
  let mark (r : Req) : Bool := r.unit == Requester.vent
  let reqs := s.reqs.map fun (e : Nat × Req) =>
    if mine e.2.who && e.2.old.isNone then (e.1, { e.2 with drop := true, desc := none, mir := none, red := none }) else e
  let hosts := s.hostReqs.map fun (r : HostReq) => if mine r.who then { r with drop := true, desc := none, mir := none, red := none } else r
  let free (m : McMsg) : McMsg := if mine m.who then { m with who := none } else m
  { s with reqs := reqs, hostReqs := hosts, tagWait := s.tagWait.filter fun e => !mine e.1.who || s.drains e.1.who || mark e.1,
           hostWait := s.hostWait.filter fun r => !mine r.who, redHeld := s.redHeld.filter fun h => !mine (some h.who), mcMsgs := smap [] (fun l => l.map free) s.mcMsgs }

/-- The program's waiters leave their semaphores, which may let those behind them go (R212, R229). -/
def State.dropWaits (s : State) (b p : Nat) : State :=
  let hit := (s.waiters.filter fun (e : Nat × List Waiter) => e.2.any fun w => w.eng == b && w.prog == p).map (·.1)
  hit.foldl (fun (acc : State) i => acc.testWaiters i)
    { s with waiters := smap [] (fun l => l.filter fun w => !(w.eng == b && w.prog == p)) s.waiters }

/-- A RUN of program `p` that a group held is gone: with its move over, a DRAIN that waits takes effect (Table 4.3). -/
def Group.unhold (x : Group) (b p : Nat) : Group :=
  match x.held with
  | some (b', p', _) => if b' == b && p' == p then { x with held := none, st := if x.st == .open && x.drain.isSome then .closing else x.st } else x
  | none => x

/-- An abort latches in the arbiter of engine `b` for program `p` with `cause` (R228–R230); `at_` is the stage that met the fault, 0xFF
for none. -/
def State.abort (s : State) (b p cause : Nat) (at_ : Nat := 0xFF) : State :=
  match s.prog b p with
  | none => s
  | some x =>
    match x.st with
    | .aborting => s
    | .accepted => s.retire b { x with cause := cause, abortStage := 0xFF } true false true
    | .started =>
      if s.committed b x then s.retire b { x with abortStage := 0xFF } false true true
      else
        let s := s.modProg b p fun x => { x with st := .aborting, cause := cause, abortStage := if at_ = 0xFF then x.current else at_ }
        let s := (s.accMembers b).foldl (fun acc n => acc.invalidate n (fun g => g.owner == (b, p)) x.ctx.toNat) s
        let s := (s.accMembers b).foldl (fun acc n => (List.range 8).foldl (fun acc g => acc.modGroup n g fun x => x.unhold b p) acc) s
        let s := (s.members b).foldl (fun acc n => acc.modLathe n fun l => (l.dropPlanes b p).dropUpdate b p) s
        ((s.stopTransfers b p).dropRequests b p).dropWaits b p

/-- Abort every program of engine `b` that satisfies `sel`. -/
def State.abortWhere (s : State) (b cause : Nat) (sel : Prog → Bool) : State :=
  ((s.engine b).progs.filter sel).foldl (fun acc x => acc.abort b x.no cause) s

/-- A fault abort of the program of stage `k` (R232). -/
def State.faultAbort (s : State) (b p k cause : Nat) : State := s.abort b p cause k

/-- The context of program `p` of engine `b`, 0xFFFF when it is gone. -/
def State.ctxOf (s : State) (b p : Nat) : Nat := match s.prog b p with | some x => x.ctx.toNat | none => 0xFFFF

/-- A use of marked data waits for its context abort to latch (R316). -/
def State.usePoison (s : State) (lathe reducer : Option Nat) (use ctx a : Nat) : State :=
  { s with uses := s.uses ++ [{ lathe := lathe, reducer := reducer, use := use, ctx := BitVec.ofNat 8 ctx, addr := BitVec.ofNat 56 a }] }

/-- The context abort of a use latches: after one POISON_CONSUMED, every program of the context on every engine ends with
cause 0x03 (R316, R335). -/
def State.poisonAbort (s : State) (u : PoisonUse) : State :=
  let hits := (List.range 8).foldl (fun k b => k + ((s.engine b).progs.filter fun x => x.ctx == u.ctx && x.st != .aborting).length) 0
  let unit := match u.reducer, u.lathe with | some c, _ => unitOf 0xA c | none, some n => unitOf 1 n | none, none => unitOf 0 0
  let s := s.post 0x802 cFAULT unit u.ctx.toNat
    [(0x10, (if u.reducer.isSome then none else u.lathe).getD 0xFF), (0x11, u.use), (0x14, u.addr.toNat), (0x1B, satTo 255 hits)]
  let s := (List.range 8).foldl (fun (acc : State) b => acc.abortWhere b 3 fun x => x.ctx == u.ctx) s
  { s with uses := s.uses.erase u }

/-- Stage `k` completes. -/
def State.complete (s : State) (b p k : Nat) : State := s.setStage b p k .done

end Sys2Proof.Machine
end

