-- ==== Sys2Proof/Machine/Requests.lean ====
section
/-! DEFINITION. Requests to other devices (09): routing, sending on a port, issuing with a tag, and what a completion does;
and the sending of reducer operations to the channel or device that holds their line (R325, R328). -/
namespace Sys2Proof.Machine

/-! ## Routing (R353–R359) -/

/-- One dimension of a route set (Table 9.11): shift, width, size, pairs. -/
def rsShift (w : Nat) : Nat := w % 16
def rsWidth (w : Nat) : Nat := w / 16 % 16
def rsSize (w : Nat) : Nat := w / 256 % 65536 + 1
def rsPairs (w : Nat) : List Nat := (List.range 8).filter fun k => bit w (24 + k)

/-- Link states of `IZP_STATUS.STATE`. -/
def lnkDown : Nat := 0
def lnkTraining : Nat := 1
def lnkUp : Nat := 2
def lnkBypassed : Nat := 3
def lnkDisabled : Nat := 4

def State.link (s : State) (p : Nat) : Nat := s.rf (IZP_STATUS p) IZP_STATUS_STATE
def State.portUp (s : State) (p : Nat) : Bool := decide (s.link p = lnkUp)

inductive Route where
  | port (p : Nat) | wait | here | noRoute
deriving DecidableEq, Repr

/-- `next_port` from dimension `d` on (R355). -/
def State.nextPortFrom (s : State) (rs dst line : Nat) (inport : Option Nat) : Nat → Nat → Route
  | 0, _ => if dst = s.devId then .here else .noRoute
  | n + 1, d =>
    let f := jigRsDim s.jigBody rs d
    if rsWidth f = 0 then s.nextPortFrom rs dst line inport n (d + 1)
    else
      let a := bits s.devId (rsShift f) (rsWidth f)
      let b := bits dst (rsShift f) (rsWidth f)
      if a = b then s.nextPortFrom rs dst line inport n (d + 1)
      else
        let size := rsSize f
        let plus := decide ((b + size * 65536 - a) % size ≤ size / 2)
        let up := (rsPairs f).filter fun k => s.portUp (if plus then 2 * k + 1 else 2 * k)
        if up = [] then .wait
        else
          let k := (up[((line / 64) ^^^ s.devId ^^^ dst) % up.length]?).getD 0
          let out := if plus then 2 * k + 1 else 2 * k
          match inport with
          | some i =>
            -- a packet that arrived in dimension d on the plus port left by its sender's minus port, and turns back if it leaves by that port's side
            if (rsPairs f).contains (i / 2) && i % 2 == out % 2 then .noRoute else .port out
          | none => .port out

/-- The next port of a packet on route set `rs` to `dst` (R355). -/
def State.nextPort (s : State) (rs dst line : Nat) (inport : Option Nat) : Route := s.nextPortFrom rs dst line inport 8 0

/-- Does the hop out of port `out` cross between coordinates SIZE − 1 and 0; and the dimension it uses (R356). -/
def State.crosses (s : State) (rs out : Nat) : Bool × Option Nat :=
  match (List.range 8).find? fun d => rsWidth (jigRsDim s.jigBody rs d) != 0 && (rsPairs (jigRsDim s.jigBody rs d)).contains (out / 2) with
  | none => (false, none)
  | some d =>
    let f := jigRsDim s.jigBody rs d
    let a := bits s.devId (rsShift f) (rsWidth f)
    (if out % 2 = 1 then decide (a = rsSize f - 1) else decide (a = 0), some d)

/-- The dimension of route set `rs` that port `i` serves. -/
def State.dimOf (s : State) (rs i : Nat) : Option Nat :=
  (List.range 8).find? fun d => rsWidth (jigRsDim s.jigBody rs d) != 0 && (rsPairs (jigRsDim s.jigBody rs d)).contains (i / 2)

/-- The virtual channel of a packet on channel `vc` that came in on a port, or starts here, and leaves by port `out` (R356). -/
def State.hopVc (s : State) (inport : Option Nat) (rs out : Nat) (vc : Bool) : Bool :=
  let (crossing, dim) := s.crosses rs out
  if crossing then true else match inport with | some i => if s.dimOf rs i = dim then vc else false | none => false

/-! ## Sending (R340, R344) -/

/-- TYPE of a packet (Table 9.2). -/
def typeCode : PacketType → Nat
  | .read => 1 | .write => 2 | .reduce => 3 | .signal => 4 | .mcastWrite => 5 | .gap => 6 | .credit => 7 | .time => 8 | .link => 9
  | .cpl => 0x10 | .cplData => 0x11

/-- Flag bits of a header. -/
def headerFlags (pk : Packet) : Nat := b2n pk.vc + 2 * pk.rset.toNat + 8 * b2n pk.ctx.isSome

/-- LACK with its NAK and VALID bits. -/
def lackBits (pk : Packet) : Nat := pk.lack.toNat + 2 ^ 14 * b2n pk.nak + 2 ^ 15 * b2n pk.lackValid

/-- The 32 bytes of a packet's header (Table 9.1). -/
def headerBytes (pk : Packet) : List Byte :=
  [BitVec.ofNat 8 (typeCode pk.typ), BitVec.ofNat 8 (headerFlags pk), BitVec.ofNat 8 pk.lines, pk.poison] ++ leBytes pk.dst.toNat 2 ++ leBytes pk.src.toNat 2 ++
    leBytes pk.addr.toNat 5 ++ [pk.hops, pk.ctx.getD 0, pk.status] ++ leBytes pk.tag.toNat 3 ++ [BitVec.ofNat 8 (pk.op.toNat + 16 * pk.fmt.toNat)] ++
    leBytes pk.arg.toNat 4 ++ leBytes pk.lseq.toNat 2 ++ leBytes (lackBits pk) 2 ++ leBytes pk.crc.toNat 4

/-- The CRC of a packet: over its header with this field taken as 0, and its payload (R340, R344). -/
def packetCrc (pk : Packet) : Word := BitVec.ofNat 32 (crc32c (headerBytes { pk with crc := 0 } ++ pk.payload))

/-- A packet with its CRC. -/
def sealPacket (pk : Packet) : Packet := { pk with crc := packetCrc pk, mended := 0 }

/-- The packet leaves port `p`: it takes the next sequence number and its CRC, stays until acknowledged, and its payload is counted. -/
def State.transmit (s : State) (p : Nat) (pk : Packet) : State :=
  let pt := s.port p
  let pk := sealPacket { pk with lseq := pt.nextSeq, lack := pt.lastIn, lackValid := true }
  let s := s.setPort p { pt with
    nextSeq := pt.nextSeq + 1, unacked := pt.unacked ++ [pk], since := if pt.unacked = [] then s.clock else pt.since, ackDue := false }
  { s.bump (IZP_STAT_TX_BYTES p) (64 * pk.lines) with sent := (p, pk) :: s.sent }

/-- A link packet leaves port `p`: it carries the sequence number that the next packet takes, and is not kept (R340, R344). -/
def State.sendLink (s : State) (p : Nat) (nak : Bool) : State :=
  let pt := s.port p
  let pk : Packet := { typ := .link, src := BitVec.ofNat 16 s.devId, lseq := pt.nextSeq, lack := pt.lastIn, nak := nak, lackValid := true }
  { s.setPort p { pt with ackDue := false } with sent := (p, sealPacket pk) :: s.sent }

/-- Port number under which a packet waits for a port to come up (R355 "wait"). -/
def waitPort : Nat := 16

/-- A packet whose source is this device goes to its port or waits for one, with one hop used (R357); or it cannot go, with the status of that: no
route, or no hop left. -/
def State.sendPacket (s : State) (pk : Packet) : Option Nat × State :=
  let gone := { pk with hops := pk.hops - 1 }
  match s.nextPort pk.rset.toNat pk.dst.toNat pk.addr.toNat none with
  | .here | .noRoute => (some 5, s)
  | .wait => if pk.hops = 0 then (some 6, s) else (none, { s with fabQueue := s.fabQueue ++ [(waitPort, gone)] })
  | .port p => if pk.hops = 0 then (some 6, s) else (none, s.transmit p { gone with vc := s.hopVc none pk.rset.toNat p pk.vc })

/-! ## Reducer operations (R323–R328) -/

/-- Rank of a requester among arrivals of one cycle (R324). -/
def redRank : Requester → Nat
  | .lathe n => n.val
  | .port p => 8 + p.val
  | .host => 24
  | .vent => 25

/-- Hand an operation of requester `rank` to the reducer that holds its destination line (R324, R328). -/
def State.enqueueRed (s : State) (rank : Nat) (o : RedOp) : State := s.arriveRed (s.channelOf o.dst) rank o

/-- PATH_PARITY by `unit` for a line on a path (R321), of lathe `n`, or 0xFF; an infeed store's unit counts its own. -/
def State.pathParity (s : State) (unit n path ctx ga : Nat) : State :=
  let s := if path = 1 then s.bump (INF_STAT_PARITY n) 1 else s
  s.post 0x809 cFAULT unit ctx [(0x10, n), (0x11, path), (0x14, ga)]

/-- A parity error met by the line at global address `ga` on its way to or from a unit outside the lathes' own paths: in the infeed store that it lies in,
else on the crossbar (R321, Table 8.12; log entry 50). -/
def State.wayParity (s : State) (unit n ctx ga : Nat) : State :=
  match region (ga % 2 ^ 40) with
  | .infeed m _ => if s.isLocal ga then s.pathParity (unitOf 1 m) m 1 ctx ga else s.pathParity unit n 2 ctx ga
  | _ => s.pathParity unit n 2 ctx ga

/-! ## Completions (R345–R349, Table 9.3) -/

/-- CONTEXT of a record for an optional context. -/
def ctxNat (c : Option (BitVec 8)) : Nat := match c with | some x => x.toNat | none => 0xFFFF

/-- The lathe byte of a DETAIL: the lathe of a lathe requester, else 0xFF. -/
def latheByte : Requester → Nat
  | .lathe n => n.val
  | _ => 0xFF

/-- A completion other than OK and POISON: counted, and FABRIC_REQ_FAIL under its limit (R349, Table 9.14). -/
def State.reqFail (s : State) (r : Req) (status : Nat) : State :=
  let s := s.bump IZP_STAT_REQ_FAIL 1
  s.postLim (s.flag IZP_GCTRL IZP_GCTRL_REQFAIL_EVT_EN) ms (reqUnit r.unit) 1 0x906 cFAULT (reqUnit r.unit) (ctxNat r.ctx)
    fun k => [(0x10, latheByte r.unit), (0x11, status), (0x12, typeCode r.typ), (0x14, 2 ^ 40 * r.dev.toNat + r.addr.toNat), (0x1C, k)]

/-- One outstanding request of a stream transfer is answered: for a read, its data from offset `off` with its marks. -/
def State.answerDesc (s : State) (d : Option (Nat × Nat)) (off : Nat) (data : List Byte) (bad : Nat → Bool) : State :=
  match d with
  | some (n, i) =>
    let x := s.desc n i
    s.setDesc n i { x with
      left := x.left - 1, buf := sputs 0 x.buf ((List.range data.length).zip data |>.map fun e => (off + e.1, e.2)),
      bad := x.bad ++ ((List.range (data.length / 64)).filter bad).map fun j => off / 64 + j }
  | none => s

/-- A read of the running output that the drain of lathe `n` merges into is answered: its data from offset `off` with its marks (R170). -/
def State.answerOld (s : State) (n off : Nat) (data : List Byte) (bad : Nat → Bool) : State :=
  s.modLathe n fun l => { l with old := l.old.map fun w =>
    { left := w.left - 1, buf := sputs 0 w.buf ((List.range data.length).zip data |>.map fun e => (off + e.1, e.2)),
      bad := w.bad ++ ((List.range (data.length / 64)).filter bad).map fun j => off / 64 + j } }

/-- A mirror read of the record that lathe `m` (8: the swap engine) waits for is answered: data for offset `off`, or none. -/
def State.answerMirror (s : State) (m off : Nat) (d : Option (List Byte)) : State :=
  let upd (w : RecWait) : RecWait :=
    match d with
    | some l => { w with left := w.left - 1, buf := sputs 0 w.buf ((List.range l.length).zip l |>.map fun e => (off + e.1, e.2)) }
    | none => { w with left := w.left - 1, bad := true }
  if m < 8 then s.modLathe m fun l => { l with wait := l.wait.map upd } else { s with swapWait := s.swapWait.map upd }

/-- Lathe `n` still holds a stroke of the stage. -/
def Lathe.holds (l : Lathe) (b p k : Nat) : Bool :=
  let mine (x : Stroke) : Bool := x.eng == b && x.prog == p && x.stage == k
  l.cur.any mine || l.strokes.any mine || l.arbs.any fun a => !a.isSuspect && mine a.stroke

/-- A stage whose last request has been answered and that waits for nothing else completes (R325); a RUN once no stroke of it is left and the marks that its
arbitration caused are written (R388), a SIGNAL to another device once that has applied it (log entry 199). -/
def State.settleStage (s : State) (who : Option (Nat × Nat × Nat)) : State :=
  match who with
  | none => s
  | some (b, p, k) =>
    match s.stage b p k with
    | some (.fetch d m _) =>
      let x := s.desc (b + m) d
      if s.stageSt b p k == .running && s.stageOutstanding b p k = 0 &&
          !((x.st == .busy || x.st == .busyShadow) && x.owner == (b, p, k)) then s.complete b p k else s
    | some (.reduce ..) => if s.stageSt b p k == .running && s.stageOutstanding b p k = 0 then s.complete b p k else s
    | some (.signal ..) => if s.stageSt b p k == .running && s.stageOutstanding b p k = 0 then s.complete b p k else s
    | some (.run ..) =>
      if s.stageSt b p k == .running && s.stageOutstanding b p k = 0 && (s.members b).all (fun n => !(s.lathe n).holds b p k) then s.complete b p k else s
    | some (.drain ..) =>
      if s.stageSt b p k == .running && s.stageOutstanding b p k = 0 &&
          (s.accMembers b).all (fun n => (List.range 8).all fun g => (s.group n g).drain != some ⟨b, p, k⟩) &&
          (s.members b).all (fun n => match (s.lathe n).upd with | some u => u.1 != (b, p, k) | none => true) then s.complete b p k else s
    | _ => s

/-- A REDUCE of engine `b` to another device was applied with poison (Table 9.3, R316): its first marked line is the first that it sent marked, else one of
its destination lines, of which the completion does not say the number (log entry 79). -/
def State.reducePoison (s : State) (b : Nat) (r : Req) : State :=
  let (f, s) := if r.srcMark.isSome || r.lines ≤ 1 then ((0 : Word), s) else s.takeFree
  s.usePoison (some b) none 5 (ctxNat r.ctx) (r.srcMark.getD (2 ^ 40 * r.dev.toNat + r.addr.toNat + 64 * (f.toNat % max 1 r.lines)))

/-- The requester handles the completion of a request other than a READ (Table 9.3). The tag frees. -/
def State.finishAck (s : State) (tag status : Nat) : State :=
  match s.req tag with
  | none => s.bump IZP_STAT_LATE_CPL 1
  | some r =>
    let s := { s with reqs := s.reqs.filter fun e => e.1 != tag }
    let s := (if status ≥ 2 then s.reqFail r status else s).answerDesc r.desc 0 [] fun _ => false
    let s := match r.who with
      | none => s
      | some (b, p, k) =>
        if r.unit == Requester.vent then s
        else if status = 1 then (if r.typ == PacketType.reduce then s.reducePoison b r else s)
        else if status = 8 then s.faultAbort b p k 0x0C
        else if status ≠ 0 then s.faultAbort b p k 0x0F
        else s
    s.settleStage r.who

/-! ## Tags (R225, R226, R345) -/

/-- Tags of the fabric pool, of the host pool, of each lathe's, and of the pool the other units share (Table 5.5). -/
def fabricPool : Nat := 16384
def hostPool : Nat := 8192
def lathePool : Nat := 12288
def sharedPool : Nat := 8192

/-- The first tag from `t` on that no request holds. -/
def freeTag (reqs : Sparse Req) : Nat → Nat → Nat
  | 0, t => t
  | n + 1, t => if reqs.any fun e => e.1 == t then freeTag reqs n ((t + 1) % 2 ^ 17) else t

/-- A tag of the fabric pool: tags are given in turn. -/
def State.takeTag (s : State) : Nat × State :=
  let t := freeTag s.reqs fabricPool (s.nextTag % 2 ^ 17)
  (t, { s with nextTag := t + 1 })

/-- Host reads of lathe `n` that have been issued or wait for a host tag. -/
def State.latheReads (s : State) (n : Nat) : Nat :=
  (s.hostReqs.filter fun r => r.lathe == n).length + (s.hostWait.filter fun r => r.lathe == n).length

/-- Requests of up to 512 bytes by a stage, of requester rank `rank`, whose lines wait at this device's reducers. -/
def State.redRuns (s : State) (rank : Nat) : Nat :=
  ((s.rdc.flatMap fun (e : Nat × List RedOp) => (e.2.filter fun o => o.remote.isNone && o.rank == rank).map fun o => (o.who, o.dst / 512)).eraseDups).length

/-- Requests of lathe `n` that draw on its pool: host reads and lines at the reducers (R225). -/
def State.latheAsks (s : State) (n : Nat) : Nat := s.latheReads n + s.redRuns n

/-- Tags that lathe `n` holds (`STR_TAGS.IN_USE`): a request to another device holds a fabric tag in place of one (R345). -/
def State.latheTags (s : State) (n : Nat) : Nat := min lathePool (s.latheAsks n)

/-- Requests that draw on the pool shared by reducers, scrub, Vent and steady rest (Table 5.5; log entry 61): lines that channels of the reducers hold in
hand, lines that a scrub has still to write back, and the Vent's marks. -/
def State.sharedAsks (s : State) : Nat :=
  (s.rdc.filter fun (e : Nat × List RedOp) => !e.2.isEmpty).length + (List.range 8).foldl (fun k m => k + (s.stack m).wb.length) 0 + s.redRuns 25

/-- Tags held by requests to other devices (`IZP_TAGS.IN_USE`), to the host and by each lathe, and the peaks they reach (R225). -/
def State.notePeak (s : State) : State :=
  let s := if s.hostReqs.length > s.rf PCI_TAGS PCI_TAGS_PEAK then s.wf PCI_TAGS PCI_TAGS_PEAK (satTo (2 ^ 14 - 1) s.hostReqs.length) else s
  let s := if s.reqs.length > s.rf IZP_TAGS IZP_TAGS_PEAK then s.wf IZP_TAGS IZP_TAGS_PEAK (satTo (2 ^ 15 - 1) s.reqs.length) else s
  (List.range 8).foldl (fun (acc : State) n =>
    if s.latheTags n > s.rf (STR_TAGS n) STR_TAGS_PEAK then acc.wf (STR_TAGS n) STR_TAGS_PEAK (s.latheTags n) else acc) s

/-- A device marked absent (R358), or a device without an ID of its own (R600). -/
def State.noDevice (s : State) (dst : Nat) : Bool :=
  !s.flag DEV_FABRIC_ID DEV_FABRIC_ID_VALID || bit (s.rd (IZP_ABSENT (dst / 32))).toNat (dst % 32)

/-- A request to another device leaves with a tag, or has ended at its source with NO_DEVICE or NO_ROUTE: its tag and that status (R345, R357, R358,
R600). -/
def State.launch (s : State) (r : Req) (pk : Packet) : Option (Nat × Nat) × State :=
  let (t, s) := s.takeTag
  let s := ({ s with reqs := sput {} { r with since := s.clock } s.reqs t }).notePeak
  let pk := { pk with tag := BitVec.ofNat 17 t, src := BitVec.ofNat 16 s.devId, hops := BitVec.ofNat 8 (s.rf IZP_GCFG IZP_GCFG_HOP_LIMIT), ctx := r.ctx }
  if s.noDevice pk.dst.toNat then (some (t, 4), s)
  else match s.sendPacket pk with
    | (none, s) => (none, s)
    | (some st, s) => (some (t, st), s)

/-- What a request record takes from its packet. -/
def Req.of (r : Req) (pk : Packet) : Req := { r with typ := pk.typ, dev := pk.dst, addr := pk.addr }

/-- The fabric pool has no tag for a new request, or others wait for one. -/
def State.tagless (s : State) : Bool := !s.tagWait.isEmpty || decide (fabricPool ≤ s.reqs.length)

/-- Issue a request other than a READ to another device; with the pool empty it stalls (R226). -/
def State.issueAck (s : State) (r : Req) (pk : Packet) : State :=
  if s.tagless then { s with tagWait := s.tagWait ++ [(r.of pk, pk)] }
  else match s.launch (r.of pk) pk with
    | (none, s) => s
    | (some (t, st), s) => s.finishAck t st

/-- The route set of a unit of lathe `n`: 0 stream, 1 weight, 2 finisher, 3 reducer port, 4 semaphore stage; of a unit of no lathe the default
(R354). -/
def State.routeSet (s : State) (n u : Nat) : BitVec 2 :=
  if n < 8 then BitVec.ofNat 2 ((s.rd (IZP_RSEL n)).toNat / 4 ^ u) else BitVec.ofNat 2 (s.rf IZP_GCFG IZP_GCFG_DEFAULT_RS)

/-- Split `len` bytes at `a` into runs of at most 8 lines. -/
def runs (a len : Nat) : List (Nat × Nat) :=
  (List.range ((len + 511) / 512)).map fun i => (a + 512 * i, (min 512 (len - 512 * i) + 63) / 64)

/-- POISON_MARK by requester `rank`, for stage `who`, of every line of a global range: by this device's reducers, or by fabric reducer operations on
another (R320). -/
def State.poisonGlobal (s : State) (rank ga len : Nat) (rs : BitVec 2) (who : Option (Nat × Nat × Nat) := none) (ctx : Option (BitVec 8) := none) : State :=
  if s.isLocal ga then s.poisonRange rank (ga % 2 ^ 40) len who ctx
  else (runs (ga % 2 ^ 40) len).foldl (fun (acc : State) e =>
    acc.issueAck { unit := .vent, lines := e.2, who := who, ctx := ctx }
      { typ := .reduce, rset := rs, dst := BitVec.ofNat 16 (ga / 2 ^ 40), addr := BitVec.ofNat 40 e.1, op := 8, fmt := 4,
        arg := BitVec.ofNat 32 e.2 }) s

/-- One packet's lines of an operand for the reducers of another device; POISON_MARK carries none (Table 9.1). -/
def reducePacket (rs : BitVec 2) (op fmt dst a lines : Nat) (data : List Byte) (poison : Nat → Bool) : Packet :=
  let pk : Packet := { typ := .reduce, rset := rs, dst := BitVec.ofNat 16 dst, addr := BitVec.ofNat 40 a, op := BitVec.ofNat 4 op, fmt := BitVec.ofNat 4 fmt }
  if op = 8 then { pk with arg := BitVec.ofNat 32 lines }
  else { pk with lines := lines, poison := BitVec.ofNat 8 (maskOf lines poison), payload := data }

/-- Lathe `n` sends the lines of an operand, which are those from `src` on where they come from memory, to the reducers that hold a global destination
(R325, R328). -/
def State.reduceDst (s : State) (n unit : Nat) (who : Nat × Nat × Nat) (ctx : BitVec 8) (op fmt dst : Nat) (src : Option Nat) (data : List Byte)
    (poison : Nat → Bool) : State :=
  if s.isLocal dst then
    (List.range (data.length / 64)).foldl (fun (acc : State) j =>
      if 0x6000000000 ≤ dst % 2 ^ 40 + 64 * j then acc.unmappedEvent (weightReq n) (some ctx) (dst + 64 * j) true
      else acc.enqueueRed n
        { op := op, fmt := fmt, dst := dst % 2 ^ 40 + 64 * j, src := (data.drop (64 * j)).take 64, poison := poison j, who := some who,
          ctx := some ctx, from_ := src.map (· + 64 * j) }) s
  else
    (runs (dst % 2 ^ 40) data.length).foldl (fun (acc : State) e =>
      let o := e.1 - dst % 2 ^ 40
      let first := ((List.range e.2).find? fun i => poison (o / 64 + i)).map fun i => src.getD dst + o + 64 * i
      acc.issueAck { lines := e.2, unit := weightReq n, ctx := some ctx, who := some who, srcMark := first }
        (reducePacket (acc.routeSet n unit) op fmt (dst / 2 ^ 40) e.1 e.2 ((data.drop o).take (64 * e.2)) fun i => poison (o / 64 + i))) s

/-- Destinations of the source lines of a stage's REDUCE that have not come yet. -/
def State.redAwaited (s : State) (who : Nat × Nat × Nat) : List Nat :=
  let dst (w : Option (Nat × Nat × Nat)) (r : Option (Nat × Nat × Nat)) : Option Nat := if w == some who then r.map (·.2.2) else none
  s.reqs.filterMap (fun e => dst e.2.who e.2.red) ++ s.tagWait.filterMap (fun e => dst e.1.who e.1.red) ++
    s.hostReqs.filterMap (fun r => dst r.who r.red) ++ s.hostWait.filterMap (fun r => dst r.who r.red)

/-- Source lines of a REDUCE have come: they go to the reducers behind all lines of lower address, and so do those that waited for them (R328). -/
def State.landReduce (s : State) (h : RedHeld) : State :=
  let held := (s.redHeld.filter fun x => decide (x.dst < h.dst)) ++ h :: s.redHeld.filter fun x => !decide (x.dst < h.dst)
  let awaited := s.redAwaited h.who
  let go (x : RedHeld) : Bool := x.who == h.who && awaited.all fun d => decide (x.dst < d)
  (held.filter go).foldl (fun (acc : State) x => acc.reduceDst x.who.1 3 x.who x.ctx x.op x.fmt x.dst (some x.src) x.data fun j => x.bad.contains j)
    { s with redHeld := held.filter fun x => !go x }

/-- The requester handles a completion with `status` and, for a READ, the payload and its marks (Table 9.3). The tag frees. -/
def State.finishReq (s : State) (tag status : Nat) (payload : List Byte) (poison : Nat) : State :=
  match s.req tag with
  | none => s.bump IZP_STAT_LATE_CPL 1
  | some r =>
    if r.typ != PacketType.read then s.finishAck tag status
    else
      let s := { s with reqs := s.reqs.filter fun e => e.1 != tag }
      let s := if status ≥ 2 then s.reqFail r status else s
      let bad (j : Nat) : Bool := decide (status ≥ 2) || bit poison j
      let data := if status ≥ 2 then List.replicate (64 * r.lines) 0 else payload.take (64 * r.lines)
      let marks := (List.range r.lines).filter bad
      let s :=
        if r.drop || r.merge.isSome then s
        else match r.mir, r.old, r.desc, r.red, r.who with
          | some m, _, _, _, _ => s.answerMirror m r.into (if status < 2 && marks = [] then some data else none)
          | _, some n, _, _, _ => s.answerOld n r.into data bad
          | _, _, some d, _, _ => s.answerDesc (some d) r.into data bad
          | _, _, _, some (op, fmt, dst), some who =>
            s.landReduce { who := who, ctx := r.ctx.getD 0, op := op, fmt := fmt, dst := dst, src := 2 ^ 40 * r.dev.toNat + r.addr.toNat, data := data, bad := marks }
          | _, _, _, _, _ =>
            { s.bump PCI_STAT_POISON_TX (b2n (marks != [] && r.unit == Requester.host)) with resp := { data := data, poison := marks != [] } }
      s.settleStage r.who

/-- Issue a request to another device: it holds a tag until its completion, or completes at once with NO_DEVICE or NO_ROUTE; with the pool empty it
stalls (R226, R345, R357, R358, R600). -/
def State.issue (s : State) (r : Req) (pk : Packet) : State :=
  if s.tagless then { s with tagWait := s.tagWait ++ [(r.of pk, pk)] }
  else match s.launch (r.of pk) pk with
    | (none, s) => s
    | (some (t, st), s) => s.finishReq t st [] 0

/-- Requests that wait for a tag leave in their order while the pool has one (R226). -/
def State.unstall (s : State) : State :=
  s.tagWait.foldl (fun (acc : State) e => acc.issue e.1 e.2) { s with tagWait := [] }

/-- A host request fails (R581): counted, and HOST_REQ_FAIL under its limit; `why` is its code in Table 16.11, `k` the requests. -/
def State.hostFail (s : State) (why lathe ctx a k : Nat) : State :=
  (s.bump PCI_STAT_CPL_FAIL k).postLim true ms 0 k 0x1003 cFAULT (unitOf 0xE 0) ctx fun c => [(0x10, lathe), (0x11, why), (0x14, a), (0x1C, c)]

/-- Requests that meet a lost PCIe link fail at once (R581); others wake it. -/
def State.linkCheck (s : State) (req : Requester) (ctx : Option (BitVec 8)) (a len : Nat) : State :=
  if !isAperture a then s
  else if !s.hostUp then s.hostFail 5 (latheByte req) (ctxNat ctx) a (runs a len).length
  else s.wakeLink

/-- Reads that meet a lost PCIe link, or that the host does not answer with data, fail (R581); others wake the link. -/
def State.hostRead (s : State) (req : Requester) (ctx : Option (BitVec 8)) (a len : Nat) : State :=
  if !isAperture a then s
  else if s.hostBad = [] || !s.hostUp then s.linkCheck req ctx a len
  else (runs a len).foldl (fun (acc : State) r =>
    match ((List.range r.2).map fun j => acc.hostCode (r.1 + 64 * j)).find? (· ≠ 0) with
    | some why => acc.hostFail why (latheByte req) (ctxNat ctx) r.1 1
    | none => acc) s.wakeLink

/-- Marked lines read from a stack are counted (R293). -/
def State.countMarks (s : State) (a len : Nat) : State :=
  match region a with
  | .hbm m _ => s.bump (HBM_STAT_POISON_RD m) (srange s.marks (a / 64) ((a + len + 63) / 64 - a / 64)).length
  | _ => s

/-- Read one whole or part range for a unit: its bytes; an unmapped read answers with marked data and ADDR_UNMAPPED (R33). -/
def State.readFor (s : State) (req : Requester) (ctx : Option (BitVec 8)) (a len : Nat) : Bool × State :=
  if s.readable a && s.readable (a + len - 1) then (s.anyMark a len, (s.hostRead req ctx a len).countMarks a len)
  else (true, s.unmappedEvent req ctx (s.glob a) false)

/-- Whole lines just written by a stream unit, a finisher, the swap engine or the tile builder become messages of every enabled
group whose source range holds them, one per write packet of up to 8 lines (R360). -/
def State.mcastCopy (s : State) (a : Nat) (data : List Byte) (poison : Bool) (who : Option (Nat × Nat × Nat)) : State :=
  if s.mcOn = [] || a % 64 ≠ 0 then s
  else
    (runs a (data.length / 64 * 64)).foldl (fun (acc : State) r =>
      acc.mcOn.foldl (fun (acc : State) g =>
        let src := acc.rf64 (IZP_MG_SRC g) IZP_MG_SRC_ADDR
        let lo := max r.1 src
        let hi := min (r.1 + 64 * r.2) (src + 64 * (acc.rd (IZP_MG_LEN g)).toNat)
        if lo < hi then
          let seq := acc.rd (IZP_MG_MSEQ g)
          let msg : McMsg := { seq := seq, off := lo - src, data := (data.drop (lo - a)).take (hi - lo),
                               poison := if poison then BitVec.ofNat 8 (2 ^ ((hi - lo) / 64) - 1) else 0,
                               left := List.range (acc.rf (IZP_MG_SLOTS g) IZP_MG_SLOTS_MEMBERS), who := who }
          ({ acc with mcMsgs := sput [] (sget [] acc.mcMsgs g ++ [msg]) acc.mcMsgs g } : State).wr (IZP_MG_MSEQ g) (seq + 1)
        else acc) acc) s

/-- Write bytes at a mapped local address with a poison mark on every line touched; an unmarked write clears the mark of the
lines it covers whole (R294, R319). -/
def State.putBytes (s : State) (a : Nat) (data : List Byte) (poison : Bool) : State :=
  (lineAddrs a data.length).foldl (fun (acc : State) l =>
    if poison || (decide (a ≤ l) && decide (l + 64 ≤ a + data.length)) then acc.setMark l poison else acc) ((s.cancelScrub a data.length).setBytes a data)

/-- Write bytes for a unit at a mapped local address, with the copies of R360; a write to the accumulator window or the register range is discarded
(R15, R32), one to an unmapped address with ADDR_UNMAPPED (R33). -/
def State.writeFor (s : State) (req : Requester) (ctx : Option (BitVec 8)) (a : Nat) (data : List Byte) (poison : Bool)
    (who : Option (Nat × Nat × Nat) := none) : State :=
  if s.mapped a && s.mapped (a + data.length - 1) then ((s.linkCheck req ctx a data.length).putBytes a data poison).mcastCopy a data poison who
  else if s.writable a && s.writable (a + data.length - 1) then s
  else s.unmappedEvent req ctx (s.glob a) true

end Sys2Proof.Machine
end

