-- ==== Sys2Proof/Machine/LatheOps.lean ====
section
/-! DEFINITION. Operations on a lathe that several families share: its banks, its service state (Table 2.6, R76–R78, R624),
its maps (R41, R79), and what a drain cut off leaves (R154). -/
namespace Sys2Proof.Machine

/-- Code of a service state in `LTH_STATUS.SVC_STATE`. -/
def svcCode : Svc → Nat
  | .off => 0 | .starting => 1 | .calibrating => 2 | .inService => 3 | .quiescing => 4 | .outOfService => 5 | .faultHold => 6

/-- The selected (live) bank and the other one. -/
def Lathe.liveBank (l : Lathe) : Bank := if l.liveB then l.bankB else l.bankA
def Lathe.idleBank (l : Lathe) : Bank := if l.liveB then l.bankA else l.bankB
def Lathe.setIdle (l : Lathe) (b : Bank) : Lathe := if l.liveB then { l with bankA := b } else { l with bankB := b }
def Lathe.setLive (l : Lathe) (b : Bank) : Lathe := if l.liveB then { l with bankB := b } else { l with bankA := b }

/-- The lathe holds a LIVE bank (R627). -/
def Lathe.hasLive (l : Lathe) : Bool := l.liveBank.st == .live

/-- Both banks FREE, nothing displaced, no switch to come. -/
def Lathe.freeBanks (l : Lathe) : Lathe :=
  { l with bankA := {}, bankB := {}, displaced := [], newLive := false, guardDue := none }

/-- Physical row of logical input `k`, physical column of logical column `c` (R38). -/
def State.rowMap (s : State) (n k : Nat) : Nat := s.rf (LTH_ROWMAP n k) LTH_ROWMAP_PHYS
def State.colMap (s : State) (n c : Nat) : Nat := s.rf (LTH_COLMAP n c) LTH_COLMAP_PHYS

/-- The first entry of a map that is out of range or repeats an earlier one (R41). -/
def badEntry (l : List Nat) (limit : Nat) : Option Nat :=
  (List.range l.length).find? fun i => decide (limit ≤ (l[i]?).getD 0) || (l.take i).contains ((l[i]?).getD 0)

/-- What R41 and R79 find wrong with a lathe's maps: the map (0 row, 1 column, 2 Deep-2) and the first offending index. -/
def State.mapFault (s : State) (n : Nat) : Option (Nat × Nat) :=
  let rows := (List.range 512).map (s.rowMap n)
  let cols := (List.range 520).map (s.colMap n)
  match badEntry rows 528 with
  | some i => some (0, i)
  | none => match badEntry cols 536 with
    | some i => some (1, i)
    | none =>
      if s.deep n then
        match (List.range 520).find? fun c => s.colMap (s.gang n) c != s.colMap (s.gang n + 1) c with
        | some i => some (2, i)
        | none => none
      else none

/-- The output ADC of physical column `q` is needed: the column map names it, a bank that is not FREE still reads it (R402), or it holds the check
weights of a replay plane (R397). -/
def State.adcNeeded (s : State) (n q : Nat) : Bool :=
  let l := s.lathe n
  let read (x : Bank) : Bool := x.st != .free && (x.cols.contains q || x.spares.any fun e => e.2 == q)
  (List.range 520).any (fun c => s.colMap n c == q) || read l.bankA || read l.bankB

/-- A calibration that holds a slot powers the output ADCs of its lathe itself (R488). -/
def State.calHolds (s : State) (n : Nat) : Bool := (s.cal (if s.deep n then s.gang n else n)).st == .running

/-- The output ADCs of the physical columns in use are powered and the others are not (R40), in a Deep-2 gang only those of lathe 2j (R8); a lathe
that is OFF powers none. -/
def State.powerAdcs (s : State) (n : Nat) : State :=
  if s.calHolds n then s
  else s.modLathe n fun l =>
    { l with adcOn := if l.svc == .off || s.deep n && n % 2 = 1 then [] else (List.range 536).filter fun q => s.adcNeeded n q }

/-- MAP_ERR follows the check made when the lathe is asked to enter service, and MAP_INVALID is posted on a failure (R41). -/
def State.checkMaps (s : State) (n : Nat) : Bool × State :=
  match s.mapFault n with
  | none => (true, (s.modLathe n fun l => { l with mapErr := false }).powerAdcs n)
  | some (w, i) => (false, (s.modLathe n fun l => { l with mapErr := true }).post 0x105 cFAULT (unitOf 1 n) 0xFFFF [(0x10, n), (0x11, w), (0x12, i)])

/-- The global destination range of the drain of group `g` of lathe `n` (R154, R202). -/
def State.drainRange (s : State) (n g : Nat) : Option (Nat × Nat × Bool) :=
  let x := s.group n g
  match x.drain with
  | none => none
  | some d =>
    match s.stage d.eng d.prog d.stage with
    | some (.drain _ _ _ _ _ _ form _ _ dst _ _ _ _ _ _ mst) => some (dst + (n - s.gang n) * mst, drainBytes form x.rows, form == 8 || form == 9)
    | _ => none

/-- What the drain of a stage by lathe `n` has sent and no reducer or port has taken yet is withdrawn: the finisher writes no further row (R154). -/
def State.withdraw (s : State) (n : Nat) (d : DrainRef) : State :=
  let mine (w : Option (Nat × Nat × Nat)) : Bool := w == some (d.eng, d.prog, d.stage)
  { s with rdc := smap [] (fun (l : List RedOp) => l.filter fun o => !(mine o.who && o.rank == n)) s.rdc,
           tagWait := s.tagWait.filter fun e => !(mine e.1.who && e.1.unit == weightReq n) }

/-- The drain of a group is cut off: its whole destination is marked as poison and the group becomes INVALID (R154, log entry 14). -/
def State.cutDrain (s : State) (n g : Nat) : State :=
  let x := s.group n g
  if x.st == .draining then
    let s := match x.drain with | some d => s.withdraw n d | none => s
    let s' := match s.drainRange n g with
      | some (a, len, _) => s.poisonGlobal n a len (s.routeSet n 2)
      | none => s
    (s'.modGroup n g fun x => { x with st := .invalid, inflight := 0 }).modLathe n fun l => { l with finOp := 0, old := none }
  else s

/-- Every drain of a lathe is cut off (R154). -/
def State.cutDrains (s : State) (n : Nat) : State := (List.range 8).foldl (fun acc g => acc.cutDrain n g) s

/-- LATHE_OUT_OF_SERVICE with its cause (R624). -/
def State.oosEvent (s : State) (n cause : Nat) : State := s.post 0x102 cWARN (unitOf 1 n) 0xFFFF [(0x10, n), (0x11, cause)]

/-! ## The fault history (R411–R414) and dips of the rails (R409) -/

/-- History time in seconds (R412). -/
def State.histNow (s : State) : Nat := (s.clock - s.power.offTotal) / 1000000000

/-- Unit kinds that a lathe holds (Table 0.8). -/
def latheResident (kind : Nat) : Bool := decide (2 ≤ kind) && decide (kind ≤ 8)

/-- Kinds the history keeps (R411). -/
def histKept (kind : Nat) : Bool := (decide (2 ≤ kind) && decide (kind ≤ 6)) || kind = 9 || kind = 0xB || kind = 0xC

/-- Key of a unit's record. -/
def histKey (kind idx lathe : Nat) : Nat := kind * 0x1000 + idx + (if latheResident kind then lathe else 0) * 65536

def HistRec.recent (r : HistRec) (now : Nat) : Nat := (r.times.filter fun t => decide (now < t + 86400)).length

/-- A changed record waits for the flash (R411). -/
def State.touchHist (s : State) (k : Nat) (r : HistRec) : State :=
  let s := s.setHist k r
  if s.histDirty.contains k then s else { s with histDirty := s.histDirty ++ [k] }

/-- One event counts against a unit (R413). -/
def State.histEvent (s : State) (kind idx lathe : Nat) : State :=
  let k := histKey kind idx lathe
  let r := s.histOf k
  s.touchHist k { r with events := satTo (2 ^ 32 - 1) (r.events + 1), last := (s.histNow :: r.last).take 3, times := s.histNow :: (r.times.filter fun t => decide (s.histNow < t + 86400)) }

/-- The unit is classed permanent, unless it is already: UNIT_PERMANENT (R413). -/
def State.classPermanent (s : State) (kind idx lathe cause : Nat) : State :=
  let k := histKey kind idx lathe
  let r := s.histOf k
  if r.permanent then s
  else
    (s.touchHist k { r with permanent := true, permCause := cause, permS := s.histNow }).post 0xA03 cWARN (unitOf kind idx) 0xFFFF
      [(0x10, if latheResident kind then lathe else 0xFF), (0x11, cause), (0x14, r.events)]

/-- An occurrence that classes a unit permanent at once: one event and the class (R413). -/
def State.histPermanent (s : State) (kind idx lathe cause : Nat) : State := (s.histEvent kind idx lathe).classPermanent kind idx lathe cause

def State.isPermanent (s : State) (kind idx lathe : Nat) : Bool := (s.histOf (histKey kind idx lathe)).permanent

/-- Lathes a rail feeds. -/
def lathesFed (k : Nat) : List Nat := if k < 32 then [k / 4] else if k = 61 || k = 64 then List.range 8 else []

/-- A rail that feeds lathe `n` is below its warning level. -/
def State.dipsOn (s : State) (n : Nat) : Bool := s.rails.any fun (e : Nat × RailSt) => e.2.below && (lathesFed e.1).contains n

/-- SUPPLY_DIP (Table 10.12); every dip counts one event against the rail's domain (R409). -/
def State.supplyDip (s : State) (k code low suspects poisoned : Nat) : State :=
  let d := if k = 64 then 61 else k
  (s.post 0xA04 (if code = 1 then cWARN else cFATAL) (unitOf 0xC d) 0xFFFF
    [(0x10, code), (0x11, maskOf 8 fun n => (lathesFed k).contains n), (0x14, satTo (2 ^ 32 - 1) low), (0x18, satTo 255 suspects), (0x19, satTo 255 poisoned)]).histEvent
    0xC d 0

def State.modDip (s : State) (no : Nat) (f : Dip → Dip) : State := { s with dips := s.dips.map fun d => if d.no = no then f d else d }

/-- Dips with no suspect stroke left to replay are reported (R408, R409). -/
def State.settleDips (s : State) : State :=
  let open_ (d : Dip) : Bool := s.lathes.any fun (e : Nat × Lathe) => e.2.arbs.any fun a => a.dip = d.no
  (s.dips.filter fun d => !open_ d).foldl (fun (acc : State) d => acc.supplyDip d.rail 1 d.low d.suspects d.poisoned)
    { s with dips := s.dips.filter open_ }

/-! ## Leaving and entering service -/

/-- The lathe stops presenting data symbols: the stroke in progress ends and its remaining outputs never come (R78). -/
def Lathe.stopSymbols (l : Lathe) : Lathe := { l with cur := none, strokes := [], arbs := [] }

/-- In-flight strokes of a lathe that stops: the counts of its groups fall with the addends that no longer come (R152). The other
members of its gang present the strokes they are in to the end. -/
def State.dropStrokes (s : State) (n : Nat) : State :=
  let s := (List.range 8).foldl (fun (acc : State) g => acc.modGroup n g fun x => { x with inflight := 0, verdicts := 0 }) s
  (s.modLathe n Lathe.stopSymbols).settleDips

/-- Groups of accumulator `n` whose owners have retired become INVALID with the fault abort of the lathe (Table 4.3), by context. -/
def State.invalidateRest (s : State) (n : Nat) : State :=
  let ctxs := ((List.range 8).map fun g => (s.group n g).ctx).eraseDups
  ctxs.foldl (fun (acc : State) c => acc.invalidate n (fun g => g.ctx == c) c.toNat) s

/-- R78: every started program of the lathe's gang ends with cause 0x04. -/
def State.r78 (s : State) (n : Nat) : State :=
  let s := s.abortWhere (s.gang n) 4 fun x => x.st == .started
  ((s.accMembers n).foldl (fun (acc : State) m => acc.invalidateRest m) s).dropStrokes n

/-- A lathe presents symbols: it is IN_SERVICE or QUIESCING (Table 2.6). -/
def State.presents (s : State) (n : Nat) : Bool := (s.lathe n).svc == .inService || (s.lathe n).svc == .quiescing

/-- Symbols presented by a lathe: data, guard, idle (Table 2.4). -/
def State.addSym (s : State) (n data guard idle : Nat) : State :=
  if !s.presents n then s
  else
  let s := ((s.bump (LTH_STAT_DATA_SYM n) data).bump (LTH_STAT_GUARD_SYM n) guard).bump (LTH_STAT_IDLE_SYM n) idle
  s.modLathe n fun l => { l with symAcc := l.symAcc + data + guard + idle }

/-- What lathe `n` puts into a stroke: of a Deep-2 pair's two lanes the lathe's own. -/
def laneOfLathe (lanes : List Lane) (n : Nat) : Lane := (lanes[if lanes.length = 2 then n % 2 else 0]?).getD {}

/-- The first `d` data symbols of a stroke have been presented: the blocks that lathe `n` brought to a larger shift (R46) and its input bytes
of 0x80 (R43, R89) are counted. -/
def State.countShown (s : State) (n : Nat) (lanes : List Lane) (d : Nat) : State :=
  let x := laneOfLathe lanes n
  if !s.presents n then s
  else (s.bump (LTH_STAT_ALIGNED_BLK n) ((x.aligned.take d).foldl (· + ·) 0)).bump (LTH_STAT_IN80 n) ((x.in80.take d).foldl (· + ·) 0)

/-- The lathe whose accumulator and checker serve lathe `n`: the lower of a Deep-2 pair (R81). -/
def State.lead (s : State) (n : Nat) : Nat := if s.deep n then s.gang n else n

/-- The replay that lathe `n` presents now, its end not yet counted (R398, R405, R628). -/
def State.replaying (s : State) (n : Nat) : Option Arb :=
  match (s.lathe (s.lead n)).arbs with
  | a :: _ => if a.started && !a.ended then some a else none
  | [] => none

/-- Data symbols of a stroke that `k` symbol periods present: a stretched stroke takes LOAD periods for 8 (R117). -/
def Stroke.shownIn (x : Stroke) (k : Nat) : Nat := min x.t (if x.load > 8 then 8 * k / x.load else k)

/-- The lathe stops at the next symbol (R78): what it has presented of a stroke or replay in progress is counted. -/
def State.countCut (s : State) (n : Nat) : State :=
  let l := s.lathe n
  let k := 8 * s.clock - l.symAcc
  match l.cur, s.replaying n with
  | some x, _ => (s.countShown n x.lanes (x.shownIn k)).addSym n (x.shownIn k) 0 (k - x.shownIn k)
  | none, some a =>
    let d := min a.stroke.t k
    (s.countShown n a.lanes d).addSym n d (min 16 (k - d)) (k - d - 16)
  | none, none => s

/-- A lane of which only the first `d` data symbols are presented. -/
def Lane.cut (x : Lane) (d : Nat) : Lane :=
  { x with drives := x.drives.take d, xs := x.xs.take d, aligned := x.aligned.take d, in80 := x.in80.take d }

/-- The second of two lanes is cut after `d` data symbols. -/
def cutSecond (lanes : List Lane) (d : Nat) : List Lane :=
  match lanes with
  | [a, b] => [a, b.cut d]
  | l => l

/-- The odd lathe of a Deep-2 pair stops presenting data symbols (R78): in the stroke or replay that its partner goes on presenting, its rows carry
nothing from here on. -/
def State.cutLanes (s : State) (n : Nat) : State :=
  if s.deep n && n % 2 = 1 then
    let k := 8 * s.clock - (s.lathe n).symAcc
    s.modLathe (s.gang n) fun l =>
      { l with cur := l.cur.map fun x => { x with lanes := cutSecond x.lanes (x.shownIn k) },
               arbs := match l.arbs with
                 | a :: rest => (if a.started && !a.ended then { a with lanes := cutSecond a.lanes (min a.stroke.t k) } else a) :: rest
                 | [] => [] }
  else s

/-- Idle symbol periods not yet counted: none while a stroke or a replay is presented (Table 2.4). -/
def State.idleDue (s : State) (n : Nat) : Nat :=
  let l := s.lathe n
  if s.presents n && l.cur.isNone && (s.replaying n).isNone then 8 * s.clock - l.symAcc else 0

/-- Idle symbol periods since the last accounting are counted, up to the present (Table 2.4). -/
def State.countIdle (s : State) (n : Nat) : State :=
  let k := s.idleDue n
  if k = 0 then s else (s.bump (LTH_STAT_IDLE_SYM n) k).modLathe n fun l => { l with symAcc := l.symAcc + k }

/-- A lathe leaves for `goal` at once (Table 2.6, R78, R154, R624): from IN_SERVICE or QUIESCING it stops its programs; FAULT_HOLD
and OFF cut its drains. DESIGN CHOICE (log entry 25): Table 2.6 has no row that takes a QUIESCING lathe to OUT_OF_SERVICE at once; one
met by a laser failure or an outcome 6 or 7 leaves as an IN_SERVICE one does. -/
def State.leaveNow (s : State) (n : Nat) (goal : Svc) (cause : Nat) : State :=
  let was := (s.lathe n).svc
  let s := s.countIdle n
  let s := if was == .inService || was == .quiescing then ((s.countCut n).cutLanes n).r78 n else s
  let s := if goal == .faultHold || goal == .off then s.cutDrains n else s
  let s := s.modLathe n fun l => { l with svc := goal, oosCause := cause, quiesceCal := false, dip := false, symAcc := 8 * s.clock,
                                          guardDue := none, adcOn := if goal == .off then [] else l.adcOn }
  if was == .inService || was == .quiescing || (was == .calibrating && goal == .outOfService) then s.oosEvent n cause else s

/-- A lathe begins to quiesce (Table 2.6, R77): from IN_SERVICE only. -/
def State.quiesce (s : State) (n cause : Nat) (forCal : Bool) : State :=
  if (s.lathe n).svc == .inService then s.modLathe n fun l => { l with svc := .quiescing, oosCause := cause, quiesceCal := forCal } else s

/-- No started program of the lathe's gang remains. -/
def State.gangIdle (s : State) (n : Nat) : Bool := (s.engine (s.gang n)).progs.all fun x => x.st == .accepted

/-- A lathe enters IN_SERVICE: LATHE_IN_SERVICE carries the calibration count's low byte. It idles while a rail that feeds it is in a dip (R406). -/
def State.enterService (s : State) (n : Nat) : State :=
  (s.modLathe n fun l => { l with svc := .inService, oosCause := 0, symAcc := 8 * s.clock, dip := s.dipsOn n }).post 0x103 cINFO (unitOf 1 n) 0xFFFF
    [(0x10, n), (0x11, (s.rd (CAL_COUNT n)).toNat % 256)]

/-! ## Suspect strokes and the statistics (R407, R422) -/

/-- Two records of one stroke of a lathe. -/
def sameStroke (x y : Stroke) : Bool :=
  x.eng == y.eng && x.prog == y.prog && x.stage == y.stage && x.ggen == y.ggen && x.startClock == y.startClock && x.t == y.t

/-- A stroke of lathe `n` is suspect: counted once, however many faults make it so (R72, R407). -/
def State.suspect (s : State) (n : Nat) (x : Stroke) : State :=
  let mark (y : Stroke) : Stroke := if sameStroke y x then { y with suspect := true } else y
  (s.bump FLT_STAT_SUSPECT (b2n !x.suspect)).modLathe n fun l =>
    { l with cur := l.cur.map mark, strokes := l.strokes.map mark, journal := l.journal.map mark, past := l.past.map mark }

/-- Sum of the pairs that `f` finds in the parts of a window. -/
def Stats.sum (w : Stats) (f : StatPart → Int × Int) : Int × Int := w.parts.foldl (fun a p => (a.1 + (f p).1, a.2 + (f p).2)) (0, 0)

/-- Data symbols counted in the window. -/
def Stats.n (w : Stats) : Nat := w.parts.foldl (fun a p => a + p.n) 0

/-- Sums of physical row or column `p` over the window. -/
def Stats.row (w : Stats) (p : Nat) : Int × Int := w.sum fun x => sget (0, 0) x.rows p
def Stats.col (w : Stats) (p : Nat) : Int × Int := w.sum fun x => sget (0, 0) x.cols p

/-- The part of the window that belongs to the stroke started at `start` changes. -/
def Stats.modPart (w : Stats) (start : Nat) (f : StatPart → StatPart) : Stats :=
  if w.parts.any fun p => p.start == start then { w with parts := w.parts.map fun p => if p.start = start then f p else p }
  else { w with parts := w.parts ++ [f { start := start }] }

/-- The symbols of strokes that turn out suspect count no longer (R422). -/
def State.forgetSymbols (s : State) (n : Nat) (starts : List Nat) : State :=
  s.modLathe n fun l => { l with stats := { l.stats with parts := l.stats.parts.filter fun p => !starts.contains p.start } }

/-- The lathe that stands for a calibration: the lower of a Deep-2 pair (R487). -/
def State.calKey (s : State) (n : Nat) : Nat := if s.deep n then s.gang n else n

/-- Lathes that a calibration of `n` covers (R487). -/
def State.calLathes (s : State) (n : Nat) : List Nat := if s.deep n then [s.gang n, s.gang n + 1] else [n]

end Sys2Proof.Machine
end

