-- ==== Sys2Proof/Machine/Operands.lean ====
section
/-! DEFINITION. Operand forms: elements of tensor blocks (03), what a stroke presents and its outlier channels (02, 03), and the
images of planes that LOADs write (02, 07). -/
namespace Sys2Proof.Machine

/-! ## Tensor blocks (R92, R93) -/

/-- Bytes of a tensor block of 8-bit codes, and of M16 codes. -/
def blk8 : Nat := 16960
def blk16 : Nat := 33344

/-- Address of the tensor block that holds row `r` of a run of 8-bit blocks at `a`. -/
def blkOf (a r : Nat) : Nat := a + r / 32 * blk8

/-- A code byte of row `r`, column `c`; the shift byte of its block `i` (R87). -/
def State.code8 (s : State) (a r c : Nat) : Nat := (s.byte (blkOf a r + 576 + r % 32 * 512 + c)).toNat
def State.shift8 (s : State) (a r i : Nat) : Int := sext 6 (s.byte (blkOf a r + 64 + r % 32 * 16 + i)).toNat

/-- The value of a code of format `fmt` with zero point `z` in units of its shift (Table 3.1, R89, R90). -/
def codeVal (fmt z x : Nat) : Int := if fmt = 2 then (x : Int) - z else if x = 0x80 then -127 else sext 8 x

/-- Drive value of a code (R43). -/
def driveVal (fmt z x : Nat) : Int := if fmt = 2 then (x : Int) - z else 2 * codeVal fmt z x

/-- The binary32 value of an element of an input block (Table 3.1): exact. -/
def State.elem8 (s : State) (fmt a r c : Nat) : F32 :=
  (fOfInt (codeVal fmt (s.byte (blkOf a r + 2)).toNat (s.code8 a r c)) (s.shift8 a r (c / 32))).1

/-- The address of the first line that poisons a tensor block: its first marked line, or its header when that carries the flag
(R314). -/
def State.blkPoison (s : State) (a len : Nat) : Option Nat :=
  match (srange s.marks (a / 64) (len / 64)).head? with
  | some e => some (e.1 * 64)
  | none => if bit (s.byte (a + 1)).toNat 0 then some a else none

/-- Entries of the OUT_MAP of the block at `a`, unused ones left out. -/
def State.outMap (s : State) (a : Nat) : List Nat := ((List.range 8).map fun i => s.num (a + 0x10 + 2 * i) 2).filter (· ≠ 0xFFFF)

/-! ## Images of planes (Tables 7.1, 7.2) -/

/-- The bytes `[a, a + len)` as a sparse table from 0. -/
def State.imageOf (s : State) (a len : Nat) : Sparse Byte :=
  if isMem a && isMem (a + len - 1) && !s.inJournal a && !s.inJournal (a + len - 1) then (srange s.mem a len).map fun e => (e.1 - a, e.2)
  else ((List.range len).map fun i => (i, s.byte (a + i))).filter fun e => e.2 ≠ 0

def imgByte (im : Sparse Byte) (i : Nat) : Nat := (sget 0 im i).toNat
def imgNum (im : Sparse Byte) (i k : Nat) : Nat := (List.range k).foldr (fun j acc => imgByte im (i + j) + 256 * acc) 0

/-- Saturate a W7 byte (R49). -/
def w7Sat (x : Nat) : Int := clampInt (-63) 63 (sext 8 x)

/-- An image with every W7 byte saturated, and how many were (R49). -/
def clampImage (im : Sparse Byte) : Sparse Byte × Nat :=
  let inCodes (k : Nat) : Bool := decide (0x40 ≤ k) && decide (k < 0x40040)
  (im.map fun e => if inCodes e.1 then (e.1, BitVec.ofInt 8 (w7Sat e.2.toNat)) else e,
   (im.filter fun e => inCodes e.1 && decide (w7Sat e.2.toNat ≠ sext 8 e.2.toNat)).length)

/-- W7 code of logical row `k` and column `c`, and shift of column `c`, of a plane image. -/
def imgCode (im : Sparse Byte) (k c : Nat) : Int := sext 8 (imgByte im (0x40 + 512 * k + c))
def imgShift (im : Sparse Byte) (c : Nat) : Int := sext 6 (imgByte im (0x41040 + c))

/-- The plane's outlier list: the first OUT_COUNT entries of OUT_LIST (R113). -/
def imgOutliers (im : Sparse Byte) : List Nat := (List.range (min 8 (imgByte im 0xD))).map fun i => imgNum im (0x10 + 2 * i) 2

/-- Group sum of row `k` and column group `g`, which the lathe writes to the check cell (R47, R48, R248). -/
def imgSum (im : Sparse Byte) (k g : Nat) : Int := (List.range 64).foldl (fun acc j => acc + imgCode im k (64 * g + j)) 0

/-- The 13-bit value a weight DAC writes to the cell at physical row `p` and column `q` of a bank, in 1/64 of a W7 step: 64w for a data
cell, the group sum for a check cell and for a replay's spare, and 0 for a row or column that no map entry names (R39, R47, R48, R397). -/
def Bank.dac (x : Bank) (p q : Nat) : Int :=
  match x.rows.findIdx? (· == p) with
  | none => 0
  | some k =>
    match x.cols.findIdx? (· == q), x.spares.find? fun e => e.2 == q with
    | some c, _ => if c < 512 then 64 * imgCode x.image k c else imgSum x.image k (c - 512)
    | none, some e => imgSum x.image k e.1
    | none, none => 0

/-- The image of a live plane from its source of 16 W7 tensor blocks, whose rows are plane columns (R48, R92, R102). -/
def liveImage (src : Sparse Byte) : Sparse Byte :=
  let place (e : Nat × Byte) : Option (Nat × Byte) :=
    let q := e.1 / blk8
    let o := e.1 % blk8
    if 576 ≤ o then some (0x40 + 512 * ((o - 576) % 512) + 32 * q + (o - 576) / 512, e.2)
    else if 64 ≤ o && (o - 64) % 16 = 0 then some (0x41040 + 32 * q + (o - 64) / 16, e.2)
    else none
  sputs 0 [] (src.filterMap place)

/-! ## Sums of the outlier lane (R115, R116) -/

/-- Insert by rank. -/
def rankInsert (x : Nat × F32) : List (Nat × F32) → List (Nat × F32)
  | [] => [x]
  | y :: t => if x.1 ≤ y.1 then x :: y :: t else y :: rankInsert x t

/-- A binary32 sum in an open order: its value and the flushes it made. -/
def fsum (key : Nat) (l : List F32) : F32 × Nat :=
  match l with
  | [] => (0, 0)
  | [x] => (x, 0)
  | l =>
    let r := (l.zipIdx.map fun e => (Config.laneOrder key e.2, e.1)).foldr rankInsert []
    match r with
    | [] => (0, 0)
    | h :: t => t.foldl (fun acc e => let x := fadd acc.1 e.2; (x.1, acc.2 + b2n x.2)) (h.2, 0)

/-! ## What a stroke presents (R43–R46, R113–R120) -/

/-- The input address of member `l` of the gang with lowest lathe `b`: lathe `b`'s infeed store, or its own at the same offset
in a Deep-2 gang (R202). -/
def State.inputOf (s : State) (l b input : Nat) : Nat :=
  if s.deep l && l ≠ b then infeedBase l + input % 0x2000000 else input

/-- Outlier channels of a stroke of `t` symbols on a lathe: the plane's list and every block's map, ascending (R113). -/
def State.channels (s : State) (im : Sparse Byte) (inp t : Nat) : List Nat :=
  let mapped := (List.range (t / 32)).flatMap fun i => s.outMap (inp + i * blk8)
  (List.range 512).filter fun k => (imgOutliers im).contains k || mapped.contains k

/-- x_k of symbol `r` (R114): the companion's bfloat16 value where the block carries channel `k`, else the element. -/
def State.laneX (s : State) (fmt inp r k : Nat) : F32 :=
  let a := blkOf inp r
  match (s.outMap a).findIdx? (· == k) with
  | some i => ofBf16 (s.num (s.num (a + 0x20) 5 + 64 * i + 2 * (r % 32)) 2)
  | none => s.elem8 fmt inp r k

/-- U_ki of a bank's inlay (R257). -/
def Bank.u (x : Bank) (k i : Nat) : F32 := ofBf16 (imgNum x.inlayU (2 * (k * x.rank + i)) 2)
/-- V_ij of a bank's inlay. -/
def Bank.v (x : Bank) (i j : Nat) : F32 := ofBf16 (imgNum x.inlayV (2 * (512 * i + j)) 2)

/-- The terms x_k · U_ki of one lathe for symbol `r`. -/
def State.tTerms (s : State) (x : Bank) (fmt inp r i : Nat) : List F32 := (List.range 512).map fun k => (fmul (s.laneX fmt inp r k) (x.u k i)).1

/-- Flushes that one lathe's outlier lane makes in the products x_k · U_ki of a stroke of `t` symbols (R103, R115). -/
def State.tFlush (s : State) (x : Bank) (fmt inp t : Nat) : Nat :=
  (List.range t).foldl (fun acc r => (List.range x.rank).foldl (fun acc i =>
    acc + ((List.range 512).filter fun k => (fmul (s.laneX fmt inp r k) (x.u k i)).2).length) acc) 0

/-- The shifts, K8 bytes of 0x80 and so on that one lathe meets in symbol `r`: its 16 block shifts. -/
def State.symShifts (s : State) (inp r : Nat) : List Int := (List.range 16).map (s.shift8 inp r)

def maxInt : List Int → Int
  | [] => -32
  | h :: t => t.foldl max h

/-- K8 and G8 input bytes of 0x80 in symbol `r` (R43, R89). -/
def State.count80 (s : State) (fmt inp r : Nat) : Nat :=
  if fmt = 2 then 0 else ((List.range 512).filter fun c => s.code8 inp r c = 0x80).length

/-- The drive value that a lathe presents for logical row `k` in symbol `r` with symbol shift `sh` (R43–R45, R90, R113): 0 on an outlier
row, else that of the code, with its own block's zero point, divided by 2^(sh − b) and rounded half to even. -/
def State.presented (s : State) (fmt inp : Nat) (outliers : List Nat) (sh : Int) (r k : Nat) : Int :=
  if outliers.contains k then 0
  else divRne (driveVal fmt (s.byte (blkOf inp r + 2)).toNat (s.code8 inp r k)) (sh - s.shift8 inp r (k / 32)).toNat

/-- The drive values of symbol `r` by physical row; a row that is not listed, or that no row-map entry names, is driven with 0 (R38, R39). -/
def State.drivesOf (s : State) (n fmt inp : Nat) (outliers : List Nat) (sh : Int) (r : Nat) : Sparse Int :=
  sputs 0 [] ((List.range 512).map fun k => (s.rowMap n k, s.presented fmt inp outliers sh r k))

/-- The drive values on the rows of a lathe at symbol `i` of a stroke: those of its data symbol, and 0 on every row in a guard or idle
symbol (R59). -/
def Lane.drive (l : Lane) (i p : Nat) : Int := sget 0 ((l.drives[i]?).getD []) p

/-- The optical sum of physical column `q` in symbol `i`, in 1/64 product units: drive value times weight over the rows of every lathe that
sums into it (R47, R62, R79). -/
def columnSum (lanes : List Lane) (i q : Nat) : Int :=
  lanes.foldl (fun acc l => ((l.drives[i]?).getD []).foldl (fun acc e => acc + e.2 * l.bank.dac e.1 q) acc) 0

/-! ## Narrowing (R86–R105) -/

/-- Largest code of a format: 1 K8, 2 U8, 3 G8, 4 M16, 5 W7. -/
def fmtMax (fmt : Nat) : Int := if fmt = 2 then 255 else if fmt = 4 then 32767 else if fmt = 5 then 63 else 127
/-- Smallest code. -/
def fmtMin (fmt : Nat) : Int := if fmt = 2 then 0 else -fmtMax fmt

/-- A finite word divided by 2^b, plus z, as n / 2^k (exact). -/
def codeUnits (x : F32) (b : Int) (z : Int) : Int × Nat :=
  match x.dec with
  | .fin neg m e =>
    let sh := e - b
    if sh ≥ 0 then (sgn neg m * 2 ^ sh.toNat + z, 0) else let k := (-sh).toNat; (sgn neg m + z * 2 ^ k, k)
  | _ => (0, 0)

/-- Does a word saturate under R96 (or R105, for an infinity) at shift `b`? -/
def saturates (fmt : Nat) (x : F32) (b z : Int) : Bool :=
  match x.dec with
  | .nan => false
  | .inf _ => true
  | .fin .. =>
    let (n, k) := codeUnits x b z
    decide (2 * n ≥ (2 * fmtMax fmt + 1) * 2 ^ k) || decide (2 * n ≤ (2 * fmtMin fmt - 1) * 2 ^ k)

/-- Narrow one word to a code at shift `b` (R95–R98, R105); `d` is the 16-bit draw of a stochastic narrowing. -/
def narrow (fmt : Nat) (x : F32) (b z : Int) (d : Option Nat) : Int :=
  match x.dec with
  | .nan => z
  | .inf neg => if neg then fmtMin fmt else fmtMax fmt
  | .fin .. =>
    let (n, k) := codeUnits x b z
    if n ≥ fmtMax fmt * 2 ^ k then fmtMax fmt
    else if n ≤ fmtMin fmt * 2 ^ k then fmtMin fmt
    else match d with
      | none => divRne n k
      | some d =>
        let a := n / 2 ^ k
        let f := (n - a * 2 ^ k) * 65536 / 2 ^ k
        if (d : Int) < f then a + 1 else a

/-- The shift of R100 for a block: `vals` are its non-outlier words. -/
def blockShift (fmt : Nat) (e : Int) (refine : Nat) (z : Int) (vals : List F32) : Int :=
  let ok (r : Nat) : Bool := decide (e - r ≥ -32) && vals.all fun x => !saturates fmt x (e - r) z
  match ((List.range (refine + 1)).reverse).find? ok with
  | some r => e - r
  | none => e

/-! ## Generators (R99) -/

/-- Seed value of generator `i`. -/
def seedOf (seed : Word) (i : Nat) : Word :=
  let x := seed ^^^ (BitVec.ofNat 32 (i + 1) * 0x9E3779B9)
  if x = 0 then 1 else x

/-- One advance of a generator. -/
def xorshift (x : Word) : Word :=
  let x := x ^^^ (x <<< 13)
  let x := x ^^^ (x >>> 17)
  x ^^^ (x <<< 5)

/-- Draw from generator `i`: 16 bits and the table after. -/
def drawGen (seed : Word) (gen : Sparse Word) (i : Nat) : Nat × Sparse Word :=
  let x := xorshift (sget (seedOf seed i) gen i)
  (x.toNat / 65536, sput (seedOf seed i) x gen i)

end Sys2Proof.Machine
end

