-- ==== Sys2Proof/Machine/Flags.lean ====
section
/-! DEFINITION. Flag computations: over-range codes (R63), output correction (R67), the 40-bit adder path with its saturation
(R129–R137), the flags of groups and tiles, and the events they raise (R65, R105, R190). -/
namespace Sys2Proof.Machine

/-! ## The output converter and its correction (R62, R63, R67) -/

/-- The code of a column sum in 1/2²⁰ LSB, nearest with ties to even (log entry 17); ±512 stands for ±511 with the over-range flag. -/
def adcCode (sum : Int) : Int := if sum ≥ 536346624 then 512 else if sum ≤ -536346624 then -512 else divRne sum 20

/-- The code of an output: one LSB is 2^(14 − g) product units (R62), `sum` is in 1/64 product unit, and `dev` is what the analog path adds,
in 1/1024 LSB (R69). -/
def outputCode (gain : Nat) (sum dev : Int) : Int := adcCode (sum * 2 ^ gain + dev * 1024)

/-- The over-range flag of a recorded code. -/
def isOver (c : Int) : Bool := c = 512 || c = -512

/-- The ADC code itself. -/
def adcVal (c : Int) : Int := clampInt (-511) 511 c

/-- Physical column of logical column `c` for a stroke: the check columns as they stood when its bank was written (R402). -/
def State.physCol (s : State) (n : Nat) (bank : Bank) (c : Nat) : Nat :=
  if c < 512 then s.colMap n c else match bank.cols[c]? with | some p => p | none => s.colMap n c

/-- Gain times 2²² and offset in 1/256 LSB of a physical column; those of the summed columns in a Deep-2 gang. -/
def State.calOf (s : State) (n p : Nat) : Int × Int :=
  if s.deep n then (s.rf (CAL_DGAIN n p) CAL_DGAIN_G, sext 16 (s.rf (CAL_DOFS n p) CAL_DOFS_O))
  else (s.rf (CAL_GAIN n p) CAL_GAIN_G, sext 16 (s.rf (CAL_OFS n p) CAL_OFS_O))

/-- The corrected output q of a recorded code from physical column `p` (R67). -/
def State.qOf (s : State) (n p : Nat) (code : Int) : Int :=
  let (g, o) := s.calOf n p
  clampInt (-32768) 32767 (divRne (g * (256 * adcVal code - o)) 26)

/-! ## The adder (R130–R136) -/

/-- f of R129: 1 for K8 and G8, 0 for U8. -/
def fmtF (fmt : Nat) : Int := if fmt = 2 then 0 else 1

/-- The addend of an output at exponent `e` over a base exponent `beta`, and whether bits were lost (R130, R131). -/
def addendOf (q e beta : Int) : Int × Bool :=
  if e ≥ beta then (q * 2 ^ (e - beta).toNat, false) else (divRne q (beta - e).toNat, true)

def sat40 (x : Int) : Int := clampInt (-(2 ^ 39 - 1)) (2 ^ 39 - 1) x
def sat32 (x : Int) : Int := clampInt (-(2 ^ 31 - 1)) (2 ^ 31 - 1) x

/-- Stochastic division by 2^σ with the 16-bit draw `d` (R98, R135). -/
def stochDiv (x : Int) (sigma d : Nat) : Int :=
  let a := x / 2 ^ sigma
  let f := (x - a * 2 ^ sigma) * 65536 / 2 ^ sigma
  if (d : Int) < f then a + 1 else a

/-- What a run of additions leaves: memory, generators, and how many words saturated. -/
structure AddSt where
  mem : Sparse Word
  gen : Sparse Word
  sat : Nat := 0
  adds : Nat := 0
deriving DecidableEq, Repr

/-- One addition into the word at `key` on generator `gi` (R135, R136). -/
def addWord (seed : Word) (sigma : Nat) (st : AddSt) (key gi : Nat) (first : Bool) (addend : Int) : AddSt :=
  let word : Int := if first then 0 else (sget 0 st.mem key).toInt
  let acc := sat40 (word * 2 ^ sigma + sat40 addend)
  let (r, gen) := if sigma = 0 then (acc, st.gen) else let (d, g) := drawGen seed st.gen gi; (stochDiv acc sigma d, g)
  { mem := sput 0 (BitVec.ofInt 32 (sat32 r)) st.mem key, gen := gen, sat := st.sat + b2n (decide (sat32 r ≠ r)), adds := st.adds + 1 }

/-! ## Group and tile flags (R136, R137, R144, R155) -/

/-- The tile of a row. -/
def tileOf (row : Nat) : Nat := row / 4096

/-- Set a flag of a tile. -/
def State.tileFlag (s : State) (n t : Nat) (f : Fld) : State := s.wb (ACC_TILE n t) f true

/-- The tiles that hold rows of a range: in open-index mode a group may lie in both. -/
def tilesOf (base rows : Nat) : List Nat := [0, 1].filter fun t => decide (base < 4096 * (t + 1)) && decide (4096 * t < base + rows)

/-- Set a flag of every tile that holds rows of a group. -/
def State.groupFlag (s : State) (n g : Nat) (f : Fld) : State :=
  s.tileFlag n (tileOf (s.group n g).rowBase) f

/-- Every group whose rows a tile holds is FREE (R142). -/
def State.tileEmpty (s : State) (n t : Nat) : Bool :=
  (List.range 8).all fun g => (s.group n g).st == .free || !(tilesOf (s.group n g).rowBase (s.group n g).rows).contains t

/-- The group is poisoned (R155). -/
def State.poisonGroup (s : State) (n g : Nat) : State :=
  (s.modGroup n g fun x => { x with poison := true }).groupFlag n g ACC_TILE_POISON

/-- `k` words of a group saturated (R136, R190). -/
def State.noteSat (s : State) (n g k : Nat) : State :=
  if k = 0 then s
  else
    let t := tileOf (s.group n g).rowBase
    let s := (s.bump (ACC_STAT_SAT n) k).modGroup n g fun x => { x with sat := true }
    let s := s.groupFlag n g ACC_TILE_SAT
    s.postLim (s.flag (ACC_CTRL n) ACC_CTRL_SAT_EVT_EN) ms n k 0x400 cWARN (unitOf 1 n) (s.group n g).ctx.toNat
      fun c => [(0x10, n), (0x11, g), (0x12, t), (0x14, c)]

/-- `k` addends of a group lost bits (R131, R190). -/
def State.noteBeta (s : State) (n g k : Nat) : State :=
  if k = 0 then s
  else
    let t := tileOf (s.group n g).rowBase
    let s := (s.bump (ACC_STAT_BETA_LOSS n) k).modGroup n g fun x => { x with betaLoss := true }
    let s := s.groupFlag n g ACC_TILE_BETA_LOSS
    s.postLim (s.flag (ACC_CTRL n) ACC_CTRL_BETA_EVT_EN) ms n k 0x401 cWARN (unitOf 1 n) (s.group n g).ctx.toNat
      fun c => [(0x10, n), (0x11, g), (0x12, t), (0x14, c)]

/-- Over-range outputs of one symbol: `k` of them, the first from physical column `p` (R63, R65). -/
def State.noteOver (s : State) (n p k gain ctx : Nat) : State :=
  if k = 0 then s
  else
    (s.bump (LTH_STAT_OVERRANGE n) k).postLim (s.flag (LTH_CTRL n) LTH_CTRL_OVR_EVT_EN) ms n k 0x104 cWARN (unitOf 4 p) ctx
      fun c => [(0x10, n), (0x11, gain), (0x12, c)]

/-- `k` NaN values narrowed (`lane = 0`) or summed by the outlier lane (`lane = 1`) (R105, R116). -/
def State.noteNan (s : State) (n lane k ctx : Nat) : State :=
  s.postLim (s.flag (OLL_CTRL n) OLL_CTRL_NAN_EVT_EN) ms n k 0x302 cWARN (unitOf 1 n) ctx fun c => [(0x10, n), (0x11, lane), (0x12, c)]

end Sys2Proof.Machine
end

