-- ==== Sys2Proof/Machine/WeightOps.lean ====
section
/-! DEFINITION. What LOADs, RUNs, swaps and verifications share: the layer table and its passes (R259–R273), the checks of
records and their copies (R262–R264, R280–R283), and the writing of a bank (R47–R57). -/
namespace Sys2Proof.Machine

/-! ## The layer table -/

/-- States of Table 7.5 as `WTB_CTL.STATE`. -/
def stOPEN : Nat := 0
def stRAISED : Nat := 1
def stWRITING : Nat := 2
def stFAULT : Nat := 3
def stVERIFYING : Nat := 4

def State.wtbState (s : State) (i : Nat) : Nat := s.rf (WTB_CTL i) WTB_CTL_STATE
def State.wtbValid (s : State) (i : Nat) : Bool := s.flag (WTB_CTL i) WTB_CTL_VALID
def State.wtbVer (s : State) (i : Nat) : Nat := s.rf (WTB_ID i) WTB_ID_VERSION

/-- The latch of a stage of context `ctx`: its open pass's, or the generation now (R268). -/
def State.latchOf (s : State) (ctx : Nat) : Nat :=
  match (List.range 16).find? fun p => s.flag (DEV_LT_PASS p) DEV_LT_PASS_OPEN && s.rf (DEV_LT_PASS p) DEV_LT_PASS_CONTEXT == ctx with
  | some p => (s.rd (DEV_LT_LATCH p)).toNat
  | none => (s.rd DEV_LT_GEN).toNat

/-- What a stage of context `ctx` that names entry `i` meets (R271, R272, R283): go on, wait, end with its program, or an
entry that is not valid. -/
inductive Gate where
  | go | wait | dead | invalid
deriving DecidableEq, Repr

def State.gate (s : State) (i ctx : Nat) : Gate :=
  if !s.wtbValid i then .invalid
  else if s.wtbState i = stOPEN then .go
  else if s.wtbState i = stRAISED && s.latchOf ctx < (s.rd (WTB_PGEN i)).toNat then .go
  else if s.wtbState i = stFAULT && s.rf (WTB_CTL i) WTB_CTL_FAULT_CTX == ctx then .dead
  else .wait

/-- UNIT and byte 0x10 of a weight event: a lathe, or (8) the swap engine (R288). -/
def weightUnit (n : Nat) : Nat × Nat := if n < 8 then (unitOf 1 n, n) else (0, 0xFF)

/-- Post SHARD_CORRUPT (0x700) or SHARD_ABSENT (0x701). -/
def State.shardEvent (s : State) (n code reason entry tile ver ctx : Nat) : State :=
  let (u, b) := weightUnit n
  let sh := if entry < 4096 then (s.rd (WTB_SHARD entry)).toNat else 0
  s.post code cFAULT u ctx [(0x10, b), (0x11, reason), (0x12, entry), (0x14, sh), (0x18, tile), (0x1C, ver)]

/-- Answers still to come from mirror reads of what `m` no longer waits for are dropped. -/
def State.dropMirror (s : State) (m : Nat) : State :=
  { s with reqs := s.reqs.map fun (e : Nat × Req) => if e.2.mir = some m then (e.1, { e.2 with mir := none, drop := true }) else e
           hostReqs := s.hostReqs.map fun (r : HostReq) => if r.mir = some m then { r with mir := none, drop := true } else r
           hostWait := s.hostWait.filter fun (r : HostReq) => r.mir != some m }

/-- The layer-table entry that a LOAD or RUN stage names. -/
def Stage.layer : Stage → Option Nat
  | .load _ i _ _ => some i
  | .run _ _ _ _ _ _ _ _ _ _ _ i => some i
  | _ => none

/-- The idle bank may be written: FREE, or no longer live since the first data symbol of the stroke after the switch (R50, R53). DESIGN CHOICE (log
entry 27): after a switch that the next stroke does not ask for (to a refreshed bank, a replay plane or back from one), which may need a plane written into
that very bank before it can start (R56, R57, R398), 16 symbols after the switch are enough. -/
def Lathe.idleFree (l : Lathe) (clock : Nat) : Bool :=
  l.idleBank.st == .free ||
    (l.idleBank.st == .live && !l.newLive && decide ((match l.cur with | some x => x.startClock | none => l.switched + 2) ≤ clock))

/-- Stages of engine `b` that wait at the barrier of entry `i` in context `ctx`: all else lets them start (R272). -/
def State.atBarrier (s : State) (i ctx b : Nat) : List (Nat × Nat) :=
  (s.engine b).progs.flatMap fun x =>
    if x.ctx.toNat ≠ ctx then []
    else (x.stages.zipIdx.filter fun e => e.1.layer == some i && s.mayStart b x.no e.2).map fun e => (x.no, e.2)

/-- The LOAD of `ctx` whose displaced plane waits at the barrier of layer `i` to be read again on lathe `n` (R57, R272). -/
def State.displacedAt (s : State) (i ctx n : Nat) : List (Nat × Nat × Nat) :=
  match (s.lathe n).displaced with
  | (b, true) :: _ =>
    if b.src.layer = i && !b.relive && b.src.ctx.toNat = ctx && (s.lathe n).idleFree s.clock then [(b.src.eng, b.src.prog, b.src.stage)] else []
  | _ => []

/-- A corrupt (kind 1) or absent (kind 2) outcome faults the entry, and the programs of its FAULT_CTX that wait at the barrier end (R283); a swap
raised on it ends with it (Table 7.5). -/
def State.wtbFault (s : State) (i kind ctx : Nat) : State :=
  let waiting := if s.gate i ctx == .wait then
      ((List.range 8).flatMap fun b => (s.atBarrier i ctx b).map fun e => (b, e)) ++ (List.range 8).flatMap (s.displacedAt i ctx) else []
  let s := ((s.wf (WTB_CTL i) WTB_CTL_STATE stFAULT).wf (WTB_CTL i) WTB_CTL_FAULT_KIND kind).wf (WTB_CTL i) WTB_CTL_FAULT_CTX ctx
  let s : State := { s with swaps := s.swaps.filter fun x => x.entry != i }
  let s := if s.swapWait.any fun w => w.entry == i then ({ s with swapWait := none } : State).dropMirror 8 else s
  waiting.foldl (fun (acc : State) e => acc.faultAbort e.1 e.2.1 e.2.2 0x0E) s

/-! ## Records (R245–R250, R257, R262) -/

def tileLen : Nat := 267136
def tileData : Nat := 0x41240
def liveLen : Nat := 271360
def tileMark : Nat := 0x4C424E4B
def inlayMark : Nat := 0x4C59414E

/-- The bytes `[o, o + n)` of an image. -/
def imgBytes (im : Sparse Byte) (o n : Nat) : List Byte := (List.range n).map fun i => sget 0 im (o + i)

/-- The first grain block of a record of `d` data bytes at offset `o` of an image that fails its check (R249, R250). -/
def grainBad (im : Sparse Byte) (o d : Nat) : Option Nat :=
  (List.range (grainBlocks d)).find? fun i =>
    crc32c (imgBytes im (o + 4096 * i) (min 4096 (d - 4096 * i))) != imgNum im (o + d + 4 * i) 4

/-- OUT_COUNT and OUT_LIST are as R262 asks. -/
def outListOk (im : Sparse Byte) : Bool :=
  let n := imgByte im 0xD
  let e (i : Nat) := imgNum im (0x10 + 2 * i) 2
  decide (n ≤ 8) && (List.range 8).all fun i =>
    if i < n then decide (e i < 512) && (i == 0 || decide (e (i - 1) < e i)) else e i == 0xFFFF

/-- Every check byte agrees with the group sum of the codes as written (R247, R248). -/
def checkBytesOk (im : Sparse Byte) : Bool :=
  let w := (clampImage im).1
  (List.range 512).all fun k => (List.range 8).all fun g => decide (trunc 8 (imgSum w k g) = imgByte im (0x40040 + 8 * k + g))

/-- Why a tile record is not accepted, as the reason of SHARD_CORRUPT; 0 when it is. A version alone is reason 4 (R262, R264). -/
def State.tileFault (s : State) (im : Sparse Byte) (poison : Bool) (entry ver : Nat) : Nat :=
  if poison then 5
  else if imgNum im 0 4 ≠ tileMark || !outListOk im then 3
  else if entry < 4096 && (imgNum im 4 2 ≠ s.rf (WTB_ID entry) WTB_ID_BLANK_ID ||
      imgNum im 8 2 ≥ s.rf (WTB_GEOM entry) WTB_GEOM_SLICES || imgNum im 0xA 2 ≥ s.rf (WTB_GEOM entry) WTB_GEOM_BLOCKS) then 3
  else if (grainBad im 0 tileData).isSome then 1
  else if !checkBytesOk im then 2
  else if entry < 4096 && imgNum im 6 2 ≠ ver then 4
  else 0

/-- Why an inlay's header, U record and V record (one after the other in the image) are not accepted (R257, R258). -/
def State.inlayFault (s : State) (im : Sparse Byte) (poison : Bool) (entry : Nat) : Nat :=
  let r := s.rf (WTB_GEOM entry) WTB_GEOM_RANK
  if poison then 5
  else if imgNum im 0 4 ≠ inlayMark || imgByte im 4 ≠ r || imgNum im 6 2 ≠ s.rf (WTB_GEOM entry) WTB_GEOM_SLICES ||
      imgNum im 8 2 ≠ s.rf (WTB_GEOM entry) WTB_GEOM_BLOCKS then 3
  else if (grainBad im 64 (1024 * r)).isSome || (grainBad im (64 + 1024 * r + 64) (1024 * r)).isSome then 1
  else 0

/-- Why one inlay record of the swap engine or a verification, alone in the image, is not accepted: the header (`hdr`) or a U or
V record. -/
def State.inlayRecFault (s : State) (im : Sparse Byte) (poison hdr : Bool) (entry : Nat) : Nat :=
  let r := s.rf (WTB_GEOM entry) WTB_GEOM_RANK
  if poison then 5
  else if hdr then
    (if imgNum im 0 4 ≠ inlayMark || imgByte im 4 ≠ r || imgNum im 6 2 ≠ s.rf (WTB_GEOM entry) WTB_GEOM_SLICES ||
      imgNum im 8 2 ≠ s.rf (WTB_GEOM entry) WTB_GEOM_BLOCKS then 3 else 0)
  else if (grainBad im 0 (1024 * r)).isSome then 1 else 0

/-- The check of a record by its tile index: a tile, one inlay record (`single`, and whether it is the header), or a LOAD's inlay. -/
def State.recFault (s : State) (im : Sparse Byte) (poison : Bool) (entry tile ver : Nat) (single : Option Bool) : Nat :=
  if tile ≠ 0xFFFFFFFF then s.tileFault im poison entry ver
  else match single with
    | some hdr => s.inlayRecFault im poison hdr entry
    | none => s.inlayFault im poison entry

/-- Length of an inlay of entry `i` (R257). -/
def State.inlayLen (s : State) (i : Nat) : Nat :=
  64 + (s.rf (WTB_GEOM i) WTB_GEOM_SLICES + s.rf (WTB_GEOM i) WTB_GEOM_BLOCKS) * (1024 * s.rf (WTB_GEOM i) WTB_GEOM_RANK + 64)

/-- Home pieces of the inlay records of slice `k` and block `j`. -/
def State.inlayPieces (s : State) (i k j : Nat) : List (Nat × Nat) :=
  let base := s.rf64 (WTB_INLAY i) WTB_INLAY_ADDR
  let len := 1024 * s.rf (WTB_GEOM i) WTB_GEOM_RANK + 64
  [(base, 64), (base + 64 + k * len, len), (base + 64 + (s.rf (WTB_GEOM i) WTB_GEOM_SLICES + j) * len, len)]

/-- Tile index of a record at `a` with header `im`: its place in the home range, else its header's (R255, R256; log entry 18). -/
def State.tileIndex (s : State) (i a : Nat) (im : Sparse Byte) : Option Nat :=
  let blank := s.rf64 (WTB_BLANK i) WTB_BLANK_ADDR
  let first := (s.rd (WTB_FIRST i)).toNat
  let count := (s.rd (WTB_COUNT i)).toNat
  if blank ≤ a && a < blank + count * tileLen && (a - blank) % tileLen = 0 then some ((first + (a - blank) / tileLen) % 2 ^ 32)
  else if imgNum im 0 4 = tileMark && imgNum im 8 2 < s.rf (WTB_GEOM i) WTB_GEOM_SLICES && imgNum im 0xA 2 < s.rf (WTB_GEOM i) WTB_GEOM_BLOCKS then
    some (imgNum im 0xA 2 * s.rf (WTB_GEOM i) WTB_GEOM_SLICES + imgNum im 8 2)
  else none

/-- Address of the home copy of tile `t`, if the device holds one (R256). -/
def State.homeOf (s : State) (i t : Nat) : Option Nat :=
  let o := (t + 2 ^ 32 - (s.rd (WTB_FIRST i)).toNat) % 2 ^ 32
  if o < (s.rd (WTB_COUNT i)).toNat then some (s.rf64 (WTB_BLANK i) WTB_BLANK_ADDR + o * tileLen) else none

/-! ## Reading (R33, R254) -/

/-- Read pieces one after the other as one image, with a poison mark if any line of them carries one or is unmapped. -/
def State.readPieces (s : State) (n : Nat) (ctx : Option (BitVec 8)) (ps : List (Nat × Nat)) : (Sparse Byte × Bool) × State :=
  let (im, bad, s, _) := ps.foldl (fun (acc : Sparse Byte × Bool × State × Nat) p =>
    let (im, bad, s, o) := acc
    let (b, s) := s.readFor (weightReq n) ctx p.1 p.2
    (im ++ (s.imageOf p.1 p.2).map (fun e => (e.1 + o, e.2)), bad || b, s.countInf p.1 p.2 false, o + p.2)) (([], false, s, 0) : Sparse Byte × Bool × State × Nat)
  ((im, bad), s)

/-- Write an image back over its home pieces (the repair of R280, which no multicast group copies). -/
def State.repairPieces (s : State) (im : Sparse Byte) (ps : List (Nat × Nat)) : State :=
  (ps.foldl (fun (acc : State × Nat) p =>
    let (s, o) := acc
    (if s.mapped p.1 && s.mapped (p.1 + p.2 - 1) then s.putBytes p.1 (imgBytes im o p.2) false else s.unmappedEvent .vent none (s.glob p.1) true, o + p.2)) (s, 0)).1

/-- Write an image over its pieces (the swap engine). -/
def State.writePieces (s : State) (im : Sparse Byte) (ps : List (Nat × Nat)) : State :=
  (ps.foldl (fun (acc : State × Nat) p =>
    let (s, o) := acc
    (s.writeFor .vent none p.1 (imgBytes im o p.2) false, o + p.2)) (s, 0)).1

/-- SHARD_REREAD and its counter: a read passed on re-read (R253, Table 7.7). -/
def State.noteReread (s : State) (n entry ctx : Nat) : State :=
  let s := s.bump DEV_LT_STAT_REREAD 1
  let (u, b) := weightUnit n
  s.postLim (s.flag DEV_LT_CTRL DEV_LT_CTRL_REREAD_EVT_EN) ms u 1 0x702 cINFO u ctx fun c => [(0x10, b), (0x12, entry), (0x14, c)]

/-- One more failed read of an entry's records (`WTB_REREAD`). -/
def State.noteFailedRead (s : State) (entry : Nat) : State :=
  if entry < 4096 then s.wr (WTB_REREAD entry) (BitVec.ofNat 32 (satTo (2 ^ 32 - 1) ((s.rd (WTB_REREAD entry)).toNat + 1))) else s

/-! ## Writing a bank (R47–R57) -/

/-- A bank write of lathe `n` starts: its idle bank is WRITING from now on, the first row is written no earlier than 16 symbols after the last
switch (R53), and the maps in force place the plane's rows and columns (R38, R402). Every write counts when it starts (R57). -/
def State.claimBank (s : State) (n : Nat) (b : Bank) : State :=
  (s.bump (LTH_STAT_BANK_WRITES n) 1).modLathe n fun l => l.setIdle
    { b with st := .writing, start := max s.clock (l.switched + 2), rows := (List.range 512).map (s.rowMap n), cols := (List.range 520).map (s.colMap n) }

/-- The idle bank is being written by the LOAD `src`. -/
def Lathe.loading (l : Lathe) (src : LoadSrc) : Bool :=
  l.idleBank.st == .writing && l.idleBank.src == src && !l.idleBank.refresh && !l.idleBank.replay && !l.idleBank.again

/-- The write of the LOAD `src` into the idle bank starts, unless it is under way. -/
def State.claimLoad (s : State) (n : Nat) (src : LoadSrc) : State :=
  if (s.lathe n).loading src then s else s.claimBank n { src := src, entry := src.layer, relive := src.relive }

/-- The write of the LOAD `src` is abandoned and its bank is FREE (R248, R254). -/
def State.dropLoad (s : State) (n : Nat) (src : LoadSrc) : State :=
  if (s.lathe n).loading src then s.modLathe n fun l => l.setIdle {} else s

/-- The codes of a tile that a write put into a bank before its check bytes disagreed (R49, R248); the write is abandoned. -/
def State.abandonWrite (s : State) (n : Nat) (src : LoadSrc) (im : Sparse Byte) : State :=
  (s.bump (LTH_STAT_W7_CLAMP n) (clampImage im).2).dropLoad n src

/-- The plane `im` of the LOAD `src` is written into the idle bank of lathe `n` (R47–R49). -/
def State.fillBank (s : State) (n : Nat) (src : LoadSrc) (im inlay : Sparse Byte) (rank gain ver : Nat) : State :=
  let (w, clamped) := clampImage im
  ((s.claimLoad n src).bump (LTH_STAT_W7_CLAMP n) clamped).modLathe n fun l => l.setIdle
    { l.idleBank with
      image := w, rank := rank, gain := gain, ver := BitVec.ofNat 16 ver,
      inlayU := (srange inlay 64 (1024 * rank)).map fun e => (e.1 - 64, e.2),
      inlayV := (srange inlay (128 + 1024 * rank) (1024 * rank)).map fun e => (e.1 - (128 + 1024 * rank), e.2) }

/-- The gain code of a plane written from a tile header, or by the override (R66); a live plane has no header, and its gain
without the override is open. -/
def State.planeGain (s : State) (n : Nat) (im : Sparse Byte) (live : Bool) : Nat × State :=
  if s.flag (LTH_GAIN_OVR n) LTH_GAIN_OVR_OVR_EN then (s.rf (LTH_GAIN_OVR n) LTH_GAIN_OVR_GAIN, s)
  else if live then let (f, s) := s.takeFree; (f.toNat % 16, s)
  else (imgByte im 0xC % 16, s)

/-- What the reads of a record came to: its image, a reason of failure, or a copy in host memory that must be asked for first. -/
inductive ReadEnd where
  | ok (im : Sparse Byte)
  | fail (reason : Nat)
  | ask (t : Tries)
deriving DecidableEq, Repr

/-- Pieces of a record that lie in host memory and are read through the aperture with the link up. -/
def State.hostRecords (s : State) (ps : List (Nat × Nat)) : Bool :=
  s.hostUp && ps != [] &&
    ps.all fun p => isAperture p.1 && s.mapped p.1 && isAperture (p.1 + p.2 - 1) && s.mapped (p.1 + p.2 - 1)

/-- The waiting record of lathe `m`, or of the swap engine (8). -/
def State.waitOf (s : State) (m : Nat) : Option RecWait := if m < 8 then (s.lathe m).wait else s.swapWait
def State.setWait (s : State) (m : Nat) (w : Option RecWait) : State :=
  if m < 8 then s.modLathe m fun l => { l with wait := w } else { s with swapWait := w }

/-- The requests of pieces read one after another: address, lines and place of each in the record. -/
def pieceRuns (ps : List (Nat × Nat)) : List (Nat × Nat × Nat) :=
  (ps.foldl (fun (acc : List (Nat × Nat × Nat) × Nat) p =>
    (acc.1 ++ (runs p.1 p.2).map (fun e => (e.1, e.2, acc.2 + (e.1 - p.1))), acc.2 + p.2)) ([], 0)).1

/-- The host reads of a record's pieces are issued, or wait for a host tag (R226), and `m` waits for them. -/
def State.askRecord (s : State) (m : Nat) (w : RecWait) (ps : List (Nat × Nat)) : State :=
  let parts : List HostReq := (pieceRuns ps).map fun e =>
    { addr := e.1, len := 64 * e.2.1, into := e.2.2, who := if m < 8 then some (w.eng, w.prog, w.stage) else none, ctx := w.src.ctx.setWidth 16,
      lathe := if m < 8 then m else 0xFF, mir := some m, since := s.clock }
  let s := s.setWait m (some { w with left := parts.length, buf := [], bad := false })
  let free := if s.hostWait.isEmpty then hostPool - s.hostReqs.length else 0
  ({ s.wakeLink with hostReqs := s.hostReqs ++ parts.take free, hostWait := s.hostWait ++ parts.drop free } : State).notePeak

/-- A copy on this device that lies in host memory is asked for: its try is the first of `t` (R282). -/
def State.askTry (s : State) (m : Nat) (w : RecWait) (t : Tries) : State :=
  s.askRecord m { w with first := true, tries := t } (t.list.headD [])

/-- One of the 16 W7 blocks of a live plane carries POISON in its header (R314). -/
def liveFlagged (im : Sparse Byte) : Bool := (List.range 16).any fun i => bit (imgByte im (i * blk8 + 1)) 0

/-- Read pieces, unless the host has brought them already. -/
def State.readOnce (s : State) (n : Nat) (ctx : Option (BitVec 8)) (first : Option (Sparse Byte × Bool)) (ps : List (Nat × Nat)) :
    (Sparse Byte × Bool) × State :=
  match first with
  | some f => (f, s)
  | none => s.readPieces n ctx ps

/-- A parity error on the way of a record's pieces (R321). -/
def State.recordParity (s : State) (n ctx : Nat) (ps : List (Nat × Nat)) : State :=
  s.wayParity (weightUnit n).1 (weightUnit n).2 ctx (s.glob ((ps.map (·.1)).headD 0))

/-- Try the copies of a record in turn (R263, R280): `tries` are their pieces, `bad j` says that attempt `j` meets a parity
error, `chk` gives the reason a copy is refused. The first try may be a stale copy, which is no failed read. A LOAD's tile is written as it
is read, `load` being its source: check bytes that disagree abandon that write, and the next try starts another (R248). A copy in host memory is
asked for; `first` is what the host has brought of the try in front. -/
def State.tryCopies (s : State) (n entry ctx : Nat) (load : Option LoadSrc) (chk : State → Sparse Byte → Bool → Nat) (bad : Nat → Bool)
    (staleOk : Bool) : List (List (Nat × Nat)) → Nat → Bool → Nat → Option (Sparse Byte × Bool) → ReadEnd × State
  | [], _, _, last, _ => (.fail last, s)
  | ps :: rest, j, failed, _, first =>
    let s := match load with | some src => s.claimLoad n src | none => s
    if first.isNone && s.hostRecords ps then (.ask { list := ps :: rest, j := j, failed := failed }, s) else
    let ((im, poison), s) := s.readOnce n (some (BitVec.ofNat 8 ctx)) first ps
    let s := if bad j then s.recordParity n ctx ps else s
    let r := chk s im (poison || bad j)
    if r = 0 then (.ok im, if failed then s.noteReread n entry ctx else s)
    else if r = 4 && staleOk && j = 0 then tryCopies (s.bump DEV_LT_STAT_STALE 1) n entry ctx load chk bad staleOk rest (j + 1) failed r none
    else
      let s := match load with | some src => (if r = 2 then s.abandonWrite n src im else s) | none => s
      tryCopies (s.noteFailedRead entry) n entry ctx load chk bad staleOk rest (j + 1) true r none

/-- Corrupt or absent: the entry faults, the event is posted, and the program that met it ends (R283). -/
def State.shardFail (s : State) (n code reason entry tile ver ctx : Nat) (prog : Option (Nat × Nat × Nat)) : State :=
  let s := if entry < 4096 then s.wtbFault entry (if code = 0x700 then 1 else 2) ctx else s
  let s := s.shardEvent n code reason entry tile ver ctx
  match prog with
  | some (b, p, k) => s.faultAbort b p k 0x0E
  | none => s

/-- A LOAD whose plane could not be read leaves its bank FREE; where a replay had displaced a live plane, no bank is LIVE any longer. -/
def State.loadFailed (s : State) (n : Nat) (src : LoadSrc) : State :=
  let s := s.dropLoad n src
  if src.relive then s.modLathe n fun l => l.setLive {} else s

/-- Read the mirror's copies of a waiting record: on this device at once, or from host memory by host reads, else by fabric READs (R280). -/
def State.readMirror (s : State) (m : Nat) (w : RecWait) : State :=
  let s := if m < 8 then s.claimLoad m w.src else s
  let dev := s.rf64 (WTB_MIRROR w.entry) WTB_MIRROR_DEV
  let blank := s.rf64 (WTB_BLANK w.entry) WTB_BLANK_ADDR
  let base := s.rf64 (WTB_MIRROR w.entry) WTB_MIRROR_ADDR
  let there (a : Nat) : Nat := ((base : Int) + a - blank).toNat
  let ctx := w.src.ctx
  let w := { w with attempt := w.attempt + 1, buf := [], bad := false, left := 0, first := false }
  let put (s : State) (w : RecWait) : State := s.setWait m (some w)
  let ps := w.pieces.map fun p => (there p.1, p.2)
  if dev = s.devId then
    if s.hostRecords ps then s.askRecord m w ps
    else
      let ((im, poison), s) := s.readPieces m (some ctx) ps
      put s { w with buf := im, bad := poison }
  else
    let parts := pieceRuns ps
    let s := put s { w with left := parts.length }
    parts.foldl (fun (acc : State) e =>
      acc.issue { lines := e.2.1, into := e.2.2, unit := weightReq m, ctx := some ctx, mir := some m,
                  who := if m < 8 then some (w.eng, w.prog, w.stage) else none }
        { typ := .read, rset := acc.routeSet m 1, dst := BitVec.ofNat 16 dev, addr := BitVec.ofNat 40 e.1, arg := BitVec.ofNat 32 e.2.1 }) s

/-- SHARD_MIRROR and its counter. -/
def State.noteMirror (s : State) (m : Nat) (w : RecWait) : State :=
  let (u, b) := weightUnit m
  (s.bump DEV_LT_STAT_MIRROR 1).post 0x703 cWARN u w.src.ctx.toNat
    [(0x10, b), (0x12, w.entry), (0x14, (s.rd (WTB_SHARD w.entry)).toNat), (0x18, w.tile), (0x1C, s.rf64 (WTB_MIRROR w.entry) WTB_MIRROR_DEV)]

/-- Evaluate the mirror copy of the record that `m` waits for, trying again up to three times (R280): answers its image once
accepted, its reason once every copy failed. -/
def State.judgeMirror (s : State) (m : Nat) : Nat → Option ReadEnd × State
  | 0 => (none, s)
  | fuel + 1 =>
    match s.waitOf m with
    | none => (none, s)
    | some w =>
      if w.attempt = 0 || w.left ≠ 0 then (none, s)
      else
        let r := s.recFault w.buf w.bad w.entry w.tile w.ver.toNat w.single
        if r = 0 then (some (.ok w.buf), s.noteMirror m w)
        else
          let s := (if m < 8 && r = 2 then s.abandonWrite m w.src w.buf else s).noteFailedRead w.entry
          if w.attempt ≥ 3 then (some (.fail r), s) else (s.readMirror m w).judgeMirror m fuel

/-! ## The LOAD of one member (R258, R262–R265, R280) -/

/-- A record that failed every copy on the device: the mirror is tried where it is enabled, else the entry faults. -/
def State.orMirror (s : State) (m : Nat) (w : RecWait) (reason : Nat) : State :=
  if w.entry < 4096 && s.flag (WTB_CTL w.entry) WTB_CTL_MIRROR_EN && w.pieces ≠ [] then s.readMirror m w
  else
    let s := (s.setWait m none).shardFail m 0x700 reason w.entry w.tile w.ver.toNat w.src.ctx.toNat (if m < 8 then some (w.eng, w.prog, w.stage) else none)
    if m < 8 then s.loadFailed m w.src else s

/-- The plane of a LOAD is complete and in its bank. -/
def State.beginPlane (s : State) (n : Nat) (src : LoadSrc) (im inlay : Sparse Byte) (ver : Nat) : State :=
  let (g, s) := s.planeGain n im src.livePlane
  let rank := if src.layer < 4096 && !src.livePlane && s.rf64 (WTB_INLAY src.layer) WTB_INLAY_ADDR ≠ 0 then s.rf (WTB_GEOM src.layer) WTB_GEOM_RANK else 0
  (s.setWait n none).fillBank n src im inlay rank g ver

/-- The mirror copy of lathe `n`'s inlay is judged once it is all there (R280). -/
def State.resumeInlay (s : State) (n : Nat) (w : RecWait) : State :=
  match s.judgeMirror n 4 with
  | (some (.ok im), s) => ((s.repairPieces im w.pieces).setWait n none).beginPlane n w.src w.tileIm im w.ver.toNat
  | (some (.fail r), s) =>
    ((s.setWait n none).shardFail n 0x700 r w.entry w.tile w.ver.toNat w.src.ctx.toNat (some (w.eng, w.prog, w.stage))).loadFailed n w.src
  | (_, s) => s

/-- The wait of a LOAD for a copy of its tile or its inlay. -/
def LoadSrc.wait (src : LoadSrc) (tile : Nat) (pieces : List (Nat × Nat)) (ver since : Nat) : RecWait :=
  { entry := src.layer, tile := tile, eng := src.eng, prog := src.prog, stage := src.stage, src := src, pieces := pieces,
    ver := BitVec.ofNat 16 ver, since := since }

/-- The inlay of the tile `im` of a LOAD is read and checked (R258), from the first try of `t`, which has brought `first`; then the bank write. `bad j`
says that inlay attempt `j` meets a parity error; `since` is when the inlay was first read (R282). -/
def State.inlayFrom (s : State) (n : Nat) (src : LoadSrc) (im : Sparse Byte) (ver since : Nat) (t : Tries) (first : Option (Sparse Byte × Bool))
    (bad : Nat → Bool) : State :=
  let ps := s.inlayPieces src.layer (imgNum im 8 2) (imgNum im 0xA 2)
  let (e, s) := s.tryCopies n src.layer src.ctx.toNat none (fun s im p => s.inlayFault im p src.layer) bad false t.list t.j t.failed 1 first
  let w : RecWait := { src.wait 0xFFFFFFFF ps ver since with tileIm := im, inlay := true }
  match e with
  | .ok inl => s.beginPlane n src im inl ver
  | .fail r => (s.orMirror n w r).resumeInlay n w
  | .ask t => s.askTry n w t

/-- The inlay of a LOAD's tile, if its layer has one (R258), then the bank write. -/
def State.loadInlay (s : State) (n : Nat) (src : LoadSrc) (im : Sparse Byte) (ver : Nat) (bad : Nat → Bool) : State :=
  if s.rf64 (WTB_INLAY src.layer) WTB_INLAY_ADDR = 0 then s.beginPlane n src im [] ver
  else
    let ps := s.inlayPieces src.layer (imgNum im 8 2) (imgNum im 0xA 2)
    s.inlayFrom n src im ver s.clock { list := [ps, ps, ps, ps] } none bad

/-- The mirror copy of lathe `n`'s tile is judged once it is all there (R280). -/
def State.resumeTile (s : State) (n : Nat) (w : RecWait) : State :=
  match s.judgeMirror n 4 with
  | (some (.ok im), s) => ((s.repairPieces im w.pieces).setWait n none).loadInlay n w.src im w.ver.toNat fun _ => false
  | (some (.fail r), s) =>
    ((s.setWait n none).shardFail n 0x700 r w.entry w.tile w.ver.toNat w.src.ctx.toNat (some (w.eng, w.prog, w.stage))).loadFailed n w.src
  | (_, s) => s

/-- The plane of `src` on lathe `n` is read and checked (R262, R264, R280). `bad j` says that attempt `j` meets a parity error. `since` is when its
record was first read; where host reads have brought a copy, `first` has it, and the tile's index and the tries as they stood. The index of a tile
outside its blank is known from its header only. -/
def State.loadFrom (s : State) (n : Nat) (src : LoadSrc) (since : Nat) (first : Option ((Sparse Byte × Bool) × Nat × Tries)) (bad : Nat → Bool) : State :=
  let ctx := src.ctx.toNat
  let from_ := first.map (·.1)
  let whole := [(src.addr, if src.livePlane then liveLen else tileLen)]
  let wait := first.isNone && s.hostRecords whole
  if wait && (src.livePlane || decide (4096 ≤ src.layer)) then s.askTry n (src.wait 0xFFFFFFFF [] 0 since) { list := [whole] }
  else if src.livePlane then
    let ((im, poison), s) := s.readOnce n (some src.ctx) from_ whole
    let s := if bad 0 then s.recordParity n ctx whole else s
    if poison || liveFlagged im || bad 0 then (s.shardFail n 0x700 5 src.layer 0xFFFFFFFF 0 ctx (some (src.eng, src.prog, src.stage))).loadFailed n src
    else s.beginPlane n src (liveImage im) [] (if src.layer < 4096 then s.wtbVer src.layer else 0)
  else if src.layer ≥ 4096 then
    let ((im, poison), s) := s.readOnce n (some src.ctx) from_ whole
    let s := if bad 0 then s.recordParity n ctx whole else s
    let r := s.tileFault im (poison || bad 0) src.layer 0
    if r = 0 then s.beginPlane n src im [] (imgNum im 6 2)
    else
      let s := if r = 2 then s.abandonWrite n src im else s
      (s.shardFail n 0x700 r 0xFFFF 0xFFFFFFFF 0 ctx (some (src.eng, src.prog, src.stage))).loadFailed n src
  else
    let i := src.layer
    let ver := s.wtbVer i
    let t := match first with
      | some (f, tile, y) => if y.j = 0 then s.tileIndex i src.addr f.1 else some tile
      | none => s.tileIndex i src.addr (if wait then [] else s.imageOf src.addr 64)
    let home := t.bind (s.homeOf i)
    let piece (a : Nat) : List (Nat × Nat) := [(a, tileLen)]
    let all : Tries := { list := match home with
      | some h => piece src.addr :: ((if src.addr = h then [] else [piece h]) ++ [piece h, piece h, piece h])
      | none => [piece src.addr] }
    let y := match first with
      | some (_, _, y) => if y.j = 0 then all else y
      | none => all
    let staleOk := match home with | some h => src.addr != h | none => false
    let (e, s) := s.tryCopies n i ctx (some src) (fun s im p => s.tileFault im p i ver) bad staleOk y.list y.j y.failed 3 from_
    let w : RecWait := src.wait (t.getD 0xFFFFFFFF) (match home with | some h => piece h | none => []) ver since
    match e with
    | .ok im => s.loadInlay n src im ver fun j => bad (j + 16)
    | .fail r => (s.orMirror n w r).resumeTile n w
    | .ask y => s.askTry n w y

/-- The write of the plane of `src` on lathe `n` starts, and the plane is read: at once, or by reads of host memory that its record waits for
(R50, R282). -/
def State.loadPlane (s : State) (n : Nat) (src : LoadSrc) (bad : Nat → Bool) : State :=
  (s.claimLoad n src).loadFrom n src s.clock none bad

/-- A host or mirror read of lathe `n`'s record has been answered: go on with its LOAD (R280, R282). -/
def State.resumeLoad (s : State) (n : Nat) : State :=
  match s.waitOf n with
  | none => s
  | some w =>
    if w.first then
      if w.left ≠ 0 then s
      else if w.inlay then (s.setWait n none).inlayFrom n w.src w.tileIm w.ver.toNat w.since w.tries (some (w.buf, w.bad)) fun _ => false
      else (s.setWait n none).loadFrom n w.src w.since (some ((w.buf, w.bad), w.tile, w.tries)) fun _ => false
    else if w.inlay then s.resumeInlay n w else s.resumeTile n w

/-- The displaced plane in front is written again once the idle bank is FREE: from its image under R56, from its source under R57 and R398. A
LOAD that names a layer passes its barrier again (R272). -/
def State.restoreDisplaced (s : State) (n : Nat) : State :=
  let l := s.lathe n
  match l.displaced with
  | [] => s
  | (b, fromSrc) :: rest =>
    if l.idleFree s.clock then
      let drop (s : State) : State := s.modLathe n fun l => { l with displaced := rest }
      let src := { b.src with relive := b.relive }
      if !fromSrc then (drop s).claimBank n { b with again := true, refresh := false, replay := false, spares := [] }
      else match if src.layer < 4096 && !src.relive then s.gate src.layer src.ctx.toNat else .go with
        | .go => (drop s).loadPlane n src fun _ => false
        | .wait => s
        | .dead => ((drop s).faultAbort src.eng src.prog src.stage 0x0E)
        | .invalid => (((drop s).shardEvent n 0x701 2 src.layer 0xFFFFFFFF 0 src.ctx.toNat).faultAbort src.eng src.prog src.stage 0x0E)
    else s

/-- The image of the live bank is written into the idle bank, and what that bank was being written with or held PENDING is displaced, a write
under way with its reading (R54, R56, R57). -/
def State.refreshBank (s : State) (n : Nat) : State :=
  let l := s.lathe n
  let out : List (Bank × Bool) := match l.idleBank.st with
    | .writing => [(l.idleBank, !l.idleBank.again)]
    | .pending => [(l.idleBank, false)]
    | _ => []
  let s := (s.modLathe n fun l => { l with displaced := out ++ l.displaced, wait := none }).dropMirror n
  (s.claimBank n { l.liveBank with refresh := true, replay := false, again := false, relive := false, spares := [] }).bump (LTH_STAT_REFRESH n) 1

/-- The live bank switches to the PENDING idle bank; the bank that stops being live is free after the guard (R51, R53). -/
def State.switchBank (s : State) (n : Nat) : State :=
  s.modLathe n fun l =>
    let old := l.liveBank
    let l := l.setIdle { l.idleBank with st := .live, refresh := false, again := false, relive := false }
    let l := l.setLive (if old.st == .live then old else {})
    { l with liveB := !l.liveB, switched := max s.clock (l.symAcc / 8), newLive := false }

/-- The bank that stopped being live is FREE when R53 has it so, with the output ADCs that only it still read powered down (R40), and a displaced plane
goes into it. -/
def State.settleBank (s : State) (n : Nat) : State :=
  let l := s.lathe n
  let s := if l.idleBank.st == .live && l.idleFree s.clock then (s.modLathe n fun l => l.setIdle {}).powerAdcs n else s
  s.restoreDisplaced n

end Sys2Proof.Machine
end

