-- ==== Sys2Proof/Machine/History.lean ====
section
/-! DEFINITION. The fault history's counting (R411–R414), and the throttle level and calibration requests that other families
start (R486, R505, Table 13.5). -/
namespace Sys2Proof.Machine

/-- A substitute is in use for a unit (R414, R494). -/
def State.replaced (s : State) (kind idx lathe sub : Nat) : State :=
  let k := histKey kind idx lathe
  s.touchHist k { s.histOf k with replaced := true, subst := sub }

/-- The level the lathes apply: the larger of the power level and the thermal level (R505). -/
def State.level (s : State) : Nat := max (s.rf PWR_STATUS PWR_STATUS_PLEVEL) (s.rf MON_TEMP MON_TEMP_LEVEL)

/-- Throttle idle symbols after a stroke of `n` symbols at level `l` (R476). -/
def throttleIdle (n l : Nat) : Nat := if l = 0 || l ≥ 8 then 0 else (n * l + (8 - l) - 1) / (8 - l)

/-- A calibration that the P8 starts itself waits for a slot (Table 13.5): 1 LANES, 2 LOCALISE, 3 COLUMN. DEDUCED (log entry 194): it runs while its
lathe is OUT_OF_SERVICE, since Table 2.6 takes to CALIBRATING only a lathe whose calibration is older than its last power-up. It goes behind one that the
pair already waits for, and a request that waits is kept for afterwards; `ctx` is the context of the stroke it concerns; a partner in service leaves it through QUIESCING (R487). -/
def State.askCal (s : State) (n kind position column : Nat) (ctx : Nat := 0xFFFF) : State :=
  let k := s.calKey n
  let c := s.cal k
  if c.st == .slot || c.st == .running then
    if c.kind = 0 || (c.st == .slot && (c.kind, c.lathe, c.position, c.column) = (kind, n, position, column)) ||
        c.more.any fun m => m.1 == (kind, n, position, column) then s
    else s.setCal k { c with more := c.more ++ [((kind, n, position, column), ctx)] }
  else
    ((s.calLathes n).foldl (fun (acc : State) m => acc.quiesce m 9 false) s).setCal k
      { st := .slot, kind := kind, order := s.clock, lathe := n, position := position, column := column, ctx := ctx,
        held := if c.st == .waiting then some (c.at_, c.lathe, c.begun) else none }

end Sys2Proof.Machine
end

