-- ==== Sys2Proof/Machine/StrokeOps.lean ====
section
/-! DEFINITION. What RUN, its outputs and its verdict share: the group a RUN or DRAIN
names (R138–R149), bank switches and guards (R51–R61), early-drained destinations (R390), and the end of an arbitration (R388, R398). -/
namespace Sys2Proof.Machine

/-! ## The next RUN, guards and switches (R51, R54, R58, R61, R81, R82, R398) -/

/-- The next RUN that waits in the program order of the gang has NEW_PLANE; `none` when no started program has one waiting. -/
def State.nextRun (s : State) (b : Nat) : Option Bool :=
  (s.engine b).progs.findSome? fun x =>
    if x.st == .started then (x.stages.zip x.prog).findSome? fun e =>
      match e.1 with
      | .run _ _ np .. => if e.2 == .waiting then some np else none
      | _ => none
    else none

/-- The idle bank holds a plane that a LOAD left PENDING for the next RUN with NEW_PLANE. -/
def Lathe.planeReady (l : Lathe) : Bool :=
  l.idleBank.st == .pending && !l.idleBank.refresh && !l.idleBank.replay && !l.idleBank.relive

/-- Lathes that replay together with lathe `n`: both of a Deep-2 pair (R405). -/
def State.replayMates (s : State) (n : Nat) : List Nat := if s.deep n then s.members n else [n]

/-- Members of the gang of `b` whose arbitration in front still has its replay to run. -/
def State.replayers (s : State) (b : Nat) : List Nat :=
  (s.members b).filter fun n => match (s.lathe (s.lead n)).arbs with | a :: _ => !a.started | [] => false

/-- The symbols of a guard: that due after a stroke's data, with the idle symbols before it and the throttle's idle symbols after it (R58, R61,
R476), or one of its own. DESIGN CHOICE (log entry 28): R51 switches at a stroke's guard; where none is due (the first plane after service
entry, a plane that comes PENDING later, a replay on an idle lathe) the switch has a guard of 16 symbols of its own, as in the worked example
of R236. -/
def State.guardSyms (s : State) (n : Nat) : State :=
  match (s.lathe n).guardDue with
  | some (t, lvl, ended) =>
    let s := (s.modLathe n fun l => { l with guardDue := none }).countIdle n
    s.addSym n 0 16 (throttleIdle (t + ((s.lathe n).symAcc - ended) + 16) lvl)
  | none => (s.countIdle n).addSym n 0 16 0

/-- The bank switch and the guard in which it falls (R51, R58). -/
def State.switchGuard (s : State) (n : Nat) : State := ((s.countIdle n).switchBank n).guardSyms n

/-- The switch to the plane of the next RUN with NEW_PLANE. -/
def State.switchNew (s : State) (n : Nat) : State :=
  (s.switchGuard n).modLathe n fun l => { l with newLive := true }

/-- The switch to a replay plane (R397, R398): the plane it takes off is displaced, as PENDING where no stroke has used it, or to be live again
where the next RUN asks for no new one. -/
def State.switchReplay (s : State) (n : Nat) : State :=
  let l := s.lathe n
  let again := s.nextRun (s.gang n) != some true
  let out : List (Bank × Bool) :=
    if l.liveBank.st != .live || l.liveBank.replay then []
    else if l.newLive then [({ l.liveBank with st := .pending }, true)]
    else if again then [({ l.liveBank with relive := true }, true)] else []
  (s.switchGuard n).modLathe n fun l => { l with displaced := out ++ l.displaced }

/-- What the guard that a gang's members now have due can do. -/
inductive GuardGo where
  | hold | plain | replay | refresh | newPlane
deriving DecidableEq, Repr

/-- The members switch at one guard symbol (R81, R82, R405): those that replay to their replay planes, else every member to its refreshed bank
(R54), else every member to the plane of the next RUN; the guard waits for the banks it needs (R61). -/
def State.guardGo (s : State) (b : Nat) : GuardGo :=
  let idle (n : Nat) : Bank := (s.lathe n).idleBank
  if s.replayers b != [] then (if (s.replayers b).all fun n => (idle n).st == .pending && (idle n).replay then .replay else .hold)
  else if (s.members b).all fun n => (idle n).st == .pending && (idle n).refresh then .refresh
  else if s.nextRun b == some true then (if (s.members b).all fun n => (s.lathe n).planeReady then .newPlane else .hold)
  else .plain

/-- At the guard before a replay the members of a Wide gang that arbitrate nothing switch with those that replay (R82, R405), where the next RUN asks for a
new plane and stands PENDING on each of them (R51; DEDUCED, log entry 41). -/
def State.matesSwitch (s : State) (b : Nat) : State :=
  let ms := (s.members b).filter fun n => (s.lathe (s.lead n)).arbs.isEmpty
  if s.nextRun b == some true && ms.all fun n => (s.lathe n).planeReady then ms.foldl (fun (acc : State) n => acc.switchNew n) s
  else ms.foldl (fun (acc : State) n => if (acc.lathe n).guardDue.isSome then acc.guardSyms n else acc) s

/-- The guard due after a stroke runs on every member of the gang, with the switch that falls in it, unless it has to wait. -/
def State.runGuards (s : State) (b : Nat) : State :=
  let ms := s.members b
  match s.guardGo b with
  | .hold => s
  | .plain => ms.foldl (fun (acc : State) n => if (acc.lathe n).guardDue.isSome then acc.guardSyms n else acc) s
  | .replay =>
    ((s.replayers b).foldl (fun (acc : State) n => acc.switchReplay n) s).matesSwitch b
  | .refresh => ms.foldl (fun (acc : State) n => acc.switchGuard n) s
  | .newPlane => ms.foldl (fun (acc : State) n => acc.switchNew n) s

/-- A plane that a replay displaced while it was live, once written again, is switched back to as soon as the lathe idles (R398), in a Deep-2
pair on both lathes (R81); the replay plane's bank is FREE. -/
def State.settleRelive (s : State) (n : Nat) : State :=
  let ms := s.replayMates n
  if (s.lathe (s.lead n)).arbs == [] && ms.all fun m => let l := s.lathe m
      l.idleBank.relive && l.idleBank.st == .pending && l.cur.isNone then
    ms.foldl (fun (acc : State) m => acc.switchGuard m) s
  else s

/-! ## The group of a RUN (R138–R149, R156) -/

/-- The operands of a RUN (Table 5.2). -/
structure RunOp where
  group : Nat
  opens : Bool
  newPlane : Bool
  fmt : Nat
  rowBase : Nat
  t : Nat
  sigma : Nat
  gmax : Nat
  smin : Int
  cmin : Int
  input : Nat
  layer : Nat
deriving DecidableEq, Repr

def Stage.runOp : Stage → Option RunOp
  | .run g o np f rb t sg gm sm cm i l => some ⟨g, o, np, f, rb, t, sg, gm, sm, cm, i, l⟩
  | _ => none

/-- Slice counts of a stroke (R121). -/
def State.slices (s : State) (b : Nat) : Nat := if s.deep b then 2 else 1

/-- What a RUN finds at its group on one accumulator. -/
inductive GroupGo where
  | go | wait | move | noRegion | misuse (reason : Nat)
deriving DecidableEq, Repr

/-- Two row ranges share a row. -/
def rowsMeet (a la b lb : Nat) : Bool := decide (a < b + lb) && decide (b < a + la)

/-- The group of a RUN of program `p` of engine `b` on lathe `n` (R138–R149, R156, R162). DESIGN CHOICE (log entry 38): the spec does not say which reason
of GROUP_MISUSE is reported where several hold; here, of an open, 1, then 4 or the wait, then 2, then 3, and of another RUN 6, then 8, then 7. -/
def State.groupGo (s : State) (b p k n : Nat) (r : RunOp) (ctx : BitVec 8) : GroupGo :=
  let x := s.group n r.group
  if r.opens then
    let rowsOk := if s.flag (ACC_CTRL n) ACC_CTRL_MODE then decide (r.rowBase + r.t ≤ 8192) else tileOf r.rowBase == tileOf (r.rowBase + r.t - 1)
    let others := (List.range 8).filter fun g => g != r.group && (s.group n g).st != .free
    let mates := others.filter fun g => (tilesOf (s.group n g).rowBase (s.group n g).rows).contains (tileOf r.rowBase)
    if !rowsOk then .misuse 1
    else if x.st != .free then (if x.owner == (b, p) && (x.st == .open || x.st == .spanMove) then .misuse 4 else .wait)
    else if others.any fun g => rowsMeet r.rowBase r.t (s.group n g).rowBase (s.group n g).rows then .misuse 2
    else if !s.flag (ACC_CTRL n) ACC_CTRL_MODE && mates != [] && s.rf (ACC_TILE n (tileOf r.rowBase)) ACC_TILE_SIGMA != r.sigma then
      (if mates.any fun g => (s.group n g).st == .open || (s.group n g).st == .spanMove then .misuse 3 else .wait)
    else .go
  else if x.st != .open && x.st != .spanMove then .misuse 6
  else if x.ctx != ctx then .misuse 8
  else if x.rows != r.t || x.fmt != r.fmt then .misuse 7
  else if x.st == .spanMove then .wait
  else if x.held == some (b, p, k) then .go
  else if x.count + s.slices b > 128 then (if s.spanMib = 0 then .noRegion else .move)
  else .go

/-- GROUP_MISUSE and the fault abort (R149). -/
def State.groupMisuse (s : State) (n b p k g reason : Nat) : State :=
  (s.post 0x402 cFAULT (unitOf 1 n) (s.ctxOf b p) [(0x10, n), (0x11, g), (0x12, reason)]).faultAbort b p k 7

/-- A group opens (R129, R134, R142, R144), or takes one more stroke (R148, R156). -/
def State.admitGroup (s : State) (b p n : Nat) (r : RunOp) (ctx : BitVec 8) : State :=
  let x := s.group n r.group
  let s :=
    if r.opens then
      let s := (tilesOf r.rowBase r.t).foldl (fun (acc : State) t =>
        if s.tileEmpty n t then
          acc.wr (ACC_TILE n t) (if s.flag (ACC_CTRL n) ACC_CTRL_MODE then BitVec.ofNat 32 (s.rf (ACC_TILE n t) ACC_TILE_SIGMA) else BitVec.ofNat 32 r.sigma)
        else acc) s
      (s.setGroup n r.group
        { st := .open, gen := x.gen + 1, ctx := ctx, rowBase := r.rowBase, rows := r.t, count := s.slices b,
          beta := 10 - (r.gmax : Int) + r.smin + r.cmin - fmtF r.fmt, sigma := r.sigma, fmt := r.fmt, owner := (b, p) }).modLathe n
        fun l => { l with seen := sdrop l.seen r.rowBase r.t }
    else s.setGroup n r.group { x with count := x.count + s.slices b, owner := (b, p), held := none,
                                       st := if x.drain.isSome then .closing else x.st }
  s.modGroup n r.group fun x => { x with inflight := x.inflight + 1, verdicts := x.verdicts + 1 }

/-! ## Early-drained destinations (R165, R390) -/

/-- Lines of a destination that a drain has written. -/
def drainLines (len : Nat) : Nat := (len + 63) / 64

/-- The group opening of a stroke is in DRAINING. -/
def State.drainingOf (s : State) (n : Nat) (x : Stroke) : Bool := (s.group n x.group).gen = x.ggen && (s.group n x.group).st == .draining

/-- The destination of a drain that took the group before the stroke was found wrong is marked as poison and reported (R390); the stroke's RUN waits for the
marks (R388). -/
def State.earlyPoison (s : State) (n : Nat) (x : Stroke) (dst : Nat × Nat) : State :=
  let s := (s.poisonGlobal n dst.1 dst.2 (s.routeSet n 2) (some (x.eng, x.prog, x.stage)) (some x.ctx)).bump FLT_STAT_EARLY_POISON 1
  let s := if s.drainingOf n x then s.poisonGroup n x.group else s
  s.post 0xA06 cFAULT (unitOf 1 n) x.ctx.toNat [(0x10, n), (0x11, x.group), (0x14, dst.1), (0x1C, drainLines dst.2)]

/-! ## Stages of strokes (R388) -/

/-- A RUN stage with no stroke and no mark left completes (R388). -/
def State.settleRun (s : State) (b p k : Nat) : State := s.settleStage (some (b, p, k))

/-- One verdict fewer is outstanding for the group opening of a stroke. -/
def State.lessVerdict (s : State) (n : Nat) (x : Stroke) : State :=
  if (s.group n x.group).gen = x.ggen then s.modGroup n x.group fun g => { g with verdicts := g.verdicts - 1 } else s

/-- One more outcome is outstanding for the group opening of a stroke: that of its replay (R164, R408). -/
def State.moreVerdict (s : State) (n : Nat) (x : Stroke) : State :=
  if (s.group n x.group).gen = x.ggen then s.modGroup n x.group fun g => { g with verdicts := g.verdicts + 1 } else s

/-- The group opening of a stroke still takes addends (R152). -/
def State.groupLive (s : State) (n : Nat) (x : Stroke) : Bool :=
  let g := s.group n x.group
  g.gen = x.ggen && g.st != .free && g.st != .invalid

/-- The journal keeps the newest strokes within 8,192 data symbols (R394). -/
def trimJournal : Nat → List Stroke → List Stroke
  | _, [] => []
  | left, x :: t => if x.t ≤ left then x :: trimJournal (left - x.t) t else []

/-- A stroke's codes stay in the journal once its verdict is taken. -/
def Lathe.journalise (l : Lathe) (x : Stroke) : Lathe := { l with journal := trimJournal 8192 (x :: l.journal) }

/-- The codes of a stroke are still in the journal: it and the later strokes hold at most 8,192 data symbols (R394). -/
def Lathe.inJournal (l : Lathe) (x : Stroke) : Bool :=
  let later := (l.strokes.dropWhile fun y => y != x).drop 1
  decide (x.t + (later.foldl (fun acc y => acc + y.t) 0) + (match l.cur with | some c => c.outs.length | none => 0) ≤ 8192)

/-! ## Arbitrations (R396–R398) -/

/-- The plane of the arbitration in front is written afresh into the idle bank, displacing what is written or PENDING there; the group's check weights
also go into the spares of `spares`, whose ADCs are powered (R397). Answers false when its source cannot be read under R254. -/
def State.writeReplayPlane (s : State) (n : Nat) (x : Stroke) (spares : List (Nat × Nat)) : Bool × State :=
  let src := x.bank.src
  let ((im, poison), s) := s.readPieces n (some x.ctx) [(src.addr, if src.livePlane then liveLen else tileLen)]
  let bad := poison || (src.livePlane && liveFlagged im) || (!src.livePlane && s.tileFault im poison src.layer x.bank.ver.toNat ≠ 0)
  if bad then (false, s)
  else
    let old := (s.lathe n).idleBank
    let out : List (Bank × Bool) := if (old.st == .writing || old.st == .pending) && !old.refresh && !old.replay then [(old, true)] else []
    let s := (s.modLathe n fun l => { l with displaced := l.displaced ++ out, wait := none }).dropMirror n
    let w := clampImage (if src.livePlane then liveImage im else im)
    let s := s.modLathe n fun l => { l with adcOn := l.adcOn ++ (spares.map (·.2)).filter fun q => !l.adcOn.contains q }
    (true, (s.claimBank n { x.bank with image := w.1, refresh := false, again := false, relive := false, replay := true, spares := spares }).bump
      (LTH_STAT_W7_CLAMP n) w.2)

/-- Spare physical columns that no map entry names, lowest first (R38, R397); on a Deep-2 pair for either lathe (R80). -/
def State.spareCols (s : State) (n : Nat) : List Nat :=
  let ms := s.replayMates n
  (List.range 536).filter fun p => decide (520 ≤ p) && ms.all fun m => !((List.range 520).any fun c => s.colMap m c == p)

end Sys2Proof.Machine
end

