-- ==== Sys2Proof/Machine/ServiceOps.lean ====
section
/-! DEFINITION. How a lathe comes into service (Table 2.6, R41, R75, R485, R487, R519): what clears a cause, the move to CALIBRATING, which both lathes
of a Deep-2 pair make together, and the move to IN_SERVICE. -/
namespace Sys2Proof.Machine

/-- Every laser feeding a lane in use is LOCKED (Table 2.9). -/
def State.lasersLocked (s : State) (n : Nat) : Bool :=
  let pos := s.rf (LTH_SPARE_USE n) LTH_SPARE_USE_STANDBY_POS
  (List.range 512).all fun k =>
    let P := s.rowMap n k / 48
    decide (s.rf (LTH_LASER n (if pos = P then 11 else P)) LTH_LASER_STATE = 3)

/-- No laser feeding a lane in use is LOCKING. -/
def State.lasersSettled (s : State) (n : Nat) : Bool :=
  let pos := s.rf (LTH_SPARE_USE n) LTH_SPARE_USE_STANDBY_POS
  (List.range 512).all fun k =>
    let P := s.rowMap n k / 48
    decide (s.rf (LTH_LASER n (if pos = P then 11 else P)) LTH_LASER_STATE ≠ 2)

/-- The device is Active and leaves it by no transition (R519). -/
def State.active (s : State) : Bool := s.rf PWR_STATUS PWR_STATUS_STATE = 0 && !s.flag PWR_STATUS PWR_STATUS_TRANS

/-- No calibration of the lathe waits for a slot or holds one. -/
def State.calFree (s : State) (n : Nat) : Bool := let c := s.cal (s.calKey n); c.st == .idle || c.st == .waiting

/-- A full calibration of the lathe has been asked for and its wait is over (R483, R485). -/
def State.calAsked (s : State) (n : Nat) : Bool := let c := s.cal (s.calKey n); c.st == .waiting && c.begun

/-- The lathe is to be calibrated before it serves (Table 2.6): its calibration, or its partner's in a Deep-2 pair (R487), is older than the last
power-up, or a request makes it count as such (R485). -/
def State.calDue (s : State) (n : Nat) : Bool := s.calAsked n || (s.calLathes n).any fun m => !(s.lathe m).calFresh

/-- The lathe, in CALIBRATING from now, waits for a slot (R486). -/
def State.joinSlots (s : State) (n : Nat) : State :=
  s.modCal (s.calKey n) fun c =>
    if c.st == .idle || c.st == .waiting then { c with st := .slot, kind := 0, begun := true, order := s.clock, lathe := n } else c

/-- OOS causes that a request for service clears: software, calibration, map error, power and jig, and (9) a gang member out of service
once none is any longer; a laser failure, a steady-rest freeze and a permanent fault are cleared by an accepted calibration (R75, R403;
log entry 15). -/
def State.softCause (s : State) (n : Nat) : Bool :=
  let c := (s.lathe n).oosCause
  c = 0 || c = 1 || c = 2 || c = 5 || c = 7 || c = 8 ||
    (c = 9 && (s.members n).all fun m => m == n || !((s.lathe m).svc == .off || (s.lathe m).svc == .outOfService || (s.lathe m).svc == .faultHold))

/-- An OUT_OF_SERVICE lathe may leave that state as far as Table 2.6 goes, its maps apart: SVC_REQ is 1, the device is Active, no calibration holds it
out, and its cause is cleared, which causes 2, 3 and 4 count as for a requested calibration (R485); cause 9 of a Deep-2 partner that comes back with this
lathe counts as cleared too. After Steam its lasers are LOCKED first (R519). -/
def State.mayReturn (s : State) (n : Nat) : Bool :=
  let l := s.lathe n
  l.svc == .outOfService && s.flag (LTH_CTRL n) LTH_CTRL_SVC_REQ && s.active && s.calFree n &&
    (if s.calDue n then l.oosCause != 7 || s.lasersLocked n else s.lasersSettled n && (l.oosCause != 7 || s.lasersLocked n)) &&
    ((s.softCause n && !l.needCal) || (s.calAsked n && (l.oosCause = 2 || l.oosCause = 3 || l.oosCause = 4)) ||
      (l.oosCause = 9 && s.deep n && s.calDue n))

/-- A lathe may enter CALIBRATING now (Table 2.6): its lasers are LOCKED after a power-up, its quiesce for a calibration has ended, or it is out of
service and may return with valid maps. -/
def State.calEnter (s : State) (n : Nat) : Bool :=
  let l := s.lathe n
  match l.svc with
  | .starting => (List.range 11).all fun i => let x := s.rf (LTH_LASER n i) LTH_LASER_STATE; x = 3 || x = 4
  | .quiescing => l.quiesceCal && s.gangIdle n
  | .outOfService => s.mayReturn n && s.mapFault n == none
  | .calibrating => true
  | _ => false

/-- The guard still due of a lathe that stops runs, its stroke being over. -/
def State.lastGuard (s : State) (n : Nat) : State := if (s.lathe n).guardDue.isSome then s.guardSyms n else s.countIdle n

/-- A lathe enters CALIBRATING; the end of its quiesce is reported (R624). Cause 4 stands until a calibration is accepted (R75). -/
def State.toCal (s : State) (n : Nat) : State :=
  let l := s.lathe n
  match l.svc with
  | .quiescing =>
    ((s.lastGuard n).modLathe n fun l => { l with svc := .calibrating, quiesceCal := false, cur := none }).oosEvent n l.oosCause
  | .outOfService =>
    s.modLathe n fun l => { l with svc := .calibrating, oosCause := if l.oosCause = 4 then 4 else 0, mapErr := false }
  | _ => s.modLathe n fun l => { l with svc := .calibrating }

/-- The lathes of a calibration enter CALIBRATING, both of a Deep-2 pair together (R487): once all may, they do; where only lathes in service are behind,
these quiesce for it. -/
def State.enterCal (s : State) (k : Nat) : State :=
  let ls := s.calLathes k
  if ls.all s.calEnter then (ls.foldl (fun (acc : State) m => acc.toCal m) s).joinSlots k
  else if ls.all fun m => s.calEnter m || (s.lathe m).svc == .inService || (s.lathe m).svc == .quiescing then
    ls.foldl (fun (acc : State) m =>
      if (acc.lathe m).svc == .quiescing then acc.modLathe m fun l => { l with quiesceCal := true }
      else acc.quiesce m (if s.calAsked k then 2 else 9) true) s
  else s

/-- An OUT_OF_SERVICE lathe with SVC_REQ = 1, its cause cleared and its maps valid goes IN_SERVICE, or CALIBRATING when its
calibration is older than its last power-up (Table 2.6, R41, R485, R487, R519). -/
def State.tryService (s : State) (n : Nat) : State :=
  if s.mayReturn n then
    match s.checkMaps n with
    | (false, s) => s.modLathe n fun l => { l with oosCause := 5 }
    | (true, s) => if s.calDue n then s.enterCal (s.calKey n) else s.enterService n
  else s

/-- Each lathe of `ms` is asked again whether it may return to service. -/
def State.tryServices (s : State) (ms : List Nat) : State := ms.foldl (fun (acc : State) m => acc.tryService m) s

end Sys2Proof.Machine
end

