-- ==== Sys2Proof/Machine/LoopOps.lean ====
section
/-! DEFINITION. Steady-rest loops and trim channels as other families use them (11): naming of elements, initialisation, trim codes
with their deglitch hold and forced clear, freezes, and what a laser failure does (02, R71–R75, R626). -/
namespace Sys2Proof.Machine

/-- A quotient rounded half to even. -/
def ratRne (num den : Int) : Int :=
  let (num, den) := if den < 0 then (-num, -den) else (num, den)
  let q := num / den
  let r := num % den
  if 2 * r < den then q else if 2 * r > den then q + 1 else if q % 2 = 0 then q else q + 1

/-- Loops of a lathe (R418). -/
def nLoops : Nat := 1152

/-- Index i of loop `l` of lathe `n`. -/
def loopIx (n l : Nat) : Nat := nLoops * n + l

/-- The core that runs loop `l` of lathe `n` (R420). -/
def coreOf (n l : Nat) : Nat := if l < 1064 then n else 8

/-- The physical laser that stands in position `P` of lathe `n`. -/
def State.laserAt (s : State) (n P : Nat) : Nat := if s.rf (LTH_SPARE_USE n) LTH_SPARE_USE_STANDBY_POS = P then 11 else P

/-- The element a loop trims, as a unit kind and index (Table 11.1). -/
def State.loopUnit (s : State) (n l : Nat) : Nat × Nat :=
  if l < 528 then (3, l) else if l < 1064 then (4, l - 528) else (6, s.laserAt n ((l - 1064) / 8))

/-- The element of a loop is named (R438); the column loops of the odd lathe of a Deep-2 gang are IDLE (R426). -/
def State.loopNamed (s : State) (n l : Nat) : Bool :=
  if l < 528 then (List.range 512).any fun k => s.rowMap n k == l
  else if l < 1064 then !(s.deep n && n % 2 = 1) && (List.range 520).any fun c => s.colMap n c == l - 528
  else true

/-! ## Trim channels (R439–R448) -/

/-- A forced clear is in force (R446). -/
def State.trimForced (s : State) : Bool := s.trimPin || s.trimVent

def State.clearCode (s : State) (i : Nat) : Nat := s.rf (TRM_CH_CFG i) TRM_CH_CFG_CLEAR_CODE

/-- The code a channel presents, or will present when its hold ends. -/
def Trim.target (t : Trim) : Nat := t.pend.getD t.code

/-- The source of channel `i` delivers a code (R442): a change in bits [15:12] is held back for 250 ns. -/
def State.present (s : State) (i code : Nat) : State :=
  let t := { s.trim i with src := code }
  if t.sc || s.trimForced then s.setTrim i t
  else if t.pend.isSome then s.setTrim i { t with pend := some code }
  else if code / 4096 ≠ t.code / 4096 then (s.setTrim i { t with pend := some code }).bump TRM_STAT_HOLDS 1
  else s.setTrim i { t with code := code }

/-- Channel `i` is given code `c`; what waited in its queue is discarded and counted (R441). -/
def State.setCode (s : State) (i c : Nat) : State :=
  ((s.bump TRM_STAT_DROPPED (s.trim i).queue.length).modTrim i fun t => { t with queue := [] }).present i c

/-- The code that channel `i` will present once its queue is empty (R441, R442). -/
def Trim.final (t : Trim) : Nat := t.queue.getLast?.getD t.target

/-- A code is put into the queue of channel `i` (R440, R441): a full queue discards it and reports. -/
def State.pushCode (s : State) (i code : Nat) : State :=
  let t := s.trim i
  let n := i / nLoops
  if (s.loop i).st != .off then s.bump TRM_STAT_DROPPED 1
  else if t.queue.length < 16 then s.setTrim i { t with queue := t.queue ++ [code] }
  else
    let s := ((s.setTrim i { t with qovf := true }).bump TRM_STAT_DROPPED 1).bump TRM_STAT_QOVF 1
    match s.limit (s.flag TRM_CTRL TRM_CTRL_QOVF_EVT_EN) 0xB05 n ms (i % nLoops) 1 with
    | (some (l, k), s) => s.post 0xB05 cWARN (unitOf 7 l) 0xFFFF [(0x10, n), (0x14, k)]
    | (none, s) => s

/-- Channel `i` presents its clear code at once and its queue is empty (R445, R446). -/
def State.clearChannel (s : State) (i : Nat) : State :=
  s.modTrim i fun t => { t with code := s.clearCode i, src := s.clearCode i, queue := [], pend := none }

/-! ## Loops (R428, R438) -/

/-- Initialisation under R428 from code `c`. -/
def Loop.start (l : Loop) (c : Nat) : Loop :=
  { l with code := c, xs := [], us := List.replicate 3 ((c : Int) * 2 ^ 24), e1 := 0, e2 := 0, w1 := 0, w2 := 0, ys := [], cs := [] }

/-- A loop enters RUN from code `c`: its pilot register is seeded (R425), its breach count is 0, and its channel's queue is
discarded and counted (R441). Under a forced clear no loop leaves its state (R446). -/
def State.enterRun (s : State) (i c : Nat) : State :=
  if s.trimForced then s
  else
  let l := { (s.loop i).start c with st := .run, breaches := 0, freezeCause := 0, senseBreach := false, stat := none, pilot := 1,
                                     lfsr := BitVec.ofNat 16 (i % nLoops + 1) }
  let s := (s.setLoop i l).bump TRM_STAT_DROPPED (s.trim i).queue.length
  s.modTrim i fun t => { t with queue := [] }

/-- A loop re-initialises from the code already present. -/
def State.reinit (s : State) (i : Nat) : State :=
  if (s.loop i).st == .run then s.modLoop i fun l => l.start (s.trim i).target else s

/-- Loops of a lathe follow their elements' names: RUN to IDLE, IDLE to RUN (Table 11.5); under a forced clear none does (R446). -/
def State.renameLoops (s : State) (n : Nat) : State :=
  if s.trimForced then s
  else (List.range 1064).foldl (fun (acc : State) l =>
    let i := loopIx n l
    match (acc.loop i).st with
    | .run => if acc.loopNamed n l then acc else acc.modLoop i fun x => { x with st := .idle }
    | .idle => if acc.loopNamed n l then acc.enterRun i (acc.trim i).target else acc
    | _ => acc) s

/-- A loop's coefficient set: index in the register arrays, in the core's active bank (R427, R430). -/
def State.setIx (s : State) (i : Nat) : Nat :=
  let c := coreOf (i / nLoops) (i % nLoops)
  (c * 2 + s.rf (STD_CORE_BANK c) STD_CORE_BANK_ACTIVE) * 64 + s.rf (STD_LOOP_CFG i) STD_LOOP_CFG_SET

/-- R436, R444: the loop enters FROZEN with a cause; its element counts one event; LOOP_FROZEN; a lathe in service leaves it at once, and one that is
QUIESCING ends its quiesce (Table 2.6) with cause 3. -/
def State.freeze (s : State) (i cause : Nat) : State :=
  let n := i / nLoops
  let l := i % nLoops
  let x := s.loop i
  let (kind, idx) := s.loopUnit n l
  let s := (s.setLoop i { x with st := .frozen, freezeCause := cause, code := x.lastGood }).bump STD_STAT_FROZEN 1
  let s := (s.present i x.lastGood).histEvent kind idx n
  let s := s.post 0xB00 cFAULT (unitOf 8 l) 0xFFFF
    [(0x10, n), (0x11, cause), (0x12, x.lastGood), (0x14, trunc 32 x.residual), (0x18, coreOf n l)]
  match (s.lathe n).svc with
  | .inService => s.leaveNow n .outOfService 3
  | .quiescing => s.modLathe n fun l => { l with oosCause := 3 }
  | _ => s

/-- A loop goes to the state that Table 11.5 gives it for its MODE, its element's name and a short of its channel, as a forced clear ends (R446). -/
def State.settleLoop (s : State) (i : Nat) : State :=
  let l := s.loop i
  let named := s.loopNamed (i / nLoops) (i % nLoops)
  if s.rf (STD_LOOP_CFG i) STD_LOOP_CFG_MODE = 0 then
    (if l.st == .off then s else s.modLoop i fun l => { l with st := .off, freezeCause := 0 })
  else match l.st with
    | .off | .idle => if named then s.enterRun i (s.trim i).target else s.modLoop i fun l => { l with st := .idle }
    | .run => if (s.trim i).sc then s.freeze i 3 else if named then s else s.modLoop i fun l => { l with st := .idle }
    | .frozen => s

/-- R437: a lathe's cause 3 is cleared once none of its loops is FROZEN, and service follows Table 2.6. -/
def State.thawed (s : State) (n : Nat) : State :=
  let l := s.lathe n
  if l.svc == .outOfService && l.oosCause = 3 && !l.needCal &&
      (srange s.loops (nLoops * n) nLoops).all fun (e : Nat × Loop) => e.2.st != .frozen then
    (s.modLathe n fun l => { l with oosCause := 0 }).tryService n
  else s

/-! ## Lasers (R71–R75, R626) -/

/-- The set power of position `P`: the setpoint in force of its gain-section loop, derated at level L (R477; half to even). -/
def State.setpoint (s : State) (i : Nat) : Int :=
  let v := sext 24 (s.rf (STD_LOOP_SP i) STD_LOOP_SP_SETPOINT)
  if 1064 ≤ i % nLoops && i % nLoops % 8 = 2 then divRne (v * (32 - s.level : Int)) 5 else v

/-- Position `P` feeds a lane in use: the row map names a row of lanes 3P to 3P + 2. -/
def State.positionUsed (s : State) (n P : Nat) : Bool :=
  (List.range 512).any fun k => decide (48 * P ≤ s.rowMap n k) && decide (s.rowMap n k < 48 * P + 48)

/-- Position taken by the standby laser, 15 while it is not in use. -/
def State.standbyPos (s : State) (n : Nat) : Nat := s.rf (LTH_SPARE_USE n) LTH_SPARE_USE_STANDBY_POS

/-- The standby is switched into position `P` and begins to lock; the position's loops act on it (R74, R419). -/
def State.switchStandby (s : State) (n P : Nat) : State :=
  let s := (s.wf (LTH_SPARE_USE n) LTH_SPARE_USE_STANDBY_POS P).wf (LTH_LASER n 11) LTH_LASER_STATE 2
  s.replaced 6 P n 11

/-- Strokes suspect of a laser failure (R72, R410): counted, and each early-drained destination among them is marked (R390). -/
def State.suspectLaser (s : State) (lathe since : Nat) : State :=
  let n := s.lead lathe
  let l := s.lathe n
  let hit := (l.past.filter fun x => decide (since < x.endClock)).reverse ++ l.cur.toList
  hit.foldl (fun (acc : State) x =>
    let acc := acc.suspect n x
    match x.drained, x.early with
    | some d, true =>
      let acc := (acc.earlyPoison n x d).bump FLT_STAT_SUSPECT_POISON 1
      acc.post 0xA05 cFAULT (unitOf 1 n) x.ctx.toNat [(0x10, n), (0x11, x.group), (0x12, 5)]
    | _, _ => acc) s

end Sys2Proof.Machine
end

