-- ==== Sys2Proof/Machine/Checker.lean ====
section
/-! DEFINITION. The check columns (10): residuals and tests (R382, R383, R399, R629), the outcomes of Table 10.5 and what
follows them (R397–R408). Squares and integers stand for the roots of R383: all quantities are exact. -/
namespace Sys2Proof.Machine

/-! ## Residuals and tests (R382, R383) -/

/-- K_P and K_M in eighths, held at 32 (Table 10.11). -/
def State.kp (s : State) : Nat := max 32 (s.rf FLT_CFG FLT_CFG_KP)
def State.km (s : State) : Nat := max 32 (s.rf FLT_CFG FLT_CFG_KM)

def State.sigR (s : State) (n g : Nat) : Nat := s.rf (FLT_SIGMA (8 * n + g)) FLT_SIGMA_SIG_R
def State.sigD (s : State) (n g : Nat) : Nat := s.rf (FLT_SIGMA (8 * n + g)) FLT_SIGMA_SIG_D

def sumInt (l : List Int) : Int := l.foldl (· + ·) 0

/-- Corrected output of logical column `c` in one symbol's codes. -/
def State.qCol (s : State) (n : Nat) (bank : Bank) (codes : List Int) (c : Nat) : Int := s.qOf n (s.physCol n bank c) ((codes[c]?).getD 0)

/-- Sum of the 64 data outputs of column group `g`. -/
def State.dataSum (s : State) (n : Nat) (bank : Bank) (codes : List Int) (g : Nat) : Int :=
  sumInt ((List.range 64).map fun j => s.qCol n bank codes (64 * g + j))

/-- Residuals of column group `g`, one per data symbol, oldest first (R382). -/
def State.residuals (s : State) (n : Nat) (bank : Bank) (outs : List (List Int)) (g : Nat) : List Int :=
  outs.reverse.map fun codes => 64 * s.qCol n bank codes (512 + g) - s.dataSum n bank codes g

/-- A symbol fails the peak test: |r| > τ_P, for variance `var` of σ². -/
def peakFails (kp var : Nat) (r : Int) : Bool := decide (64 * r * r > (kp * kp * var : Nat))

/-- The mean-square test passes. -/
def msPasses (km var : Nat) (rs : List Int) : Bool :=
  let t : Int := rs.length
  let d := sumInt (rs.map fun r => r * r) - t * var
  decide (d ≤ 0) || decide (64 * d * d ≤ 2 * t * var * var * km * km)

/-- |r| > τ_M for one symbol of a stroke of `t`. -/
def overTauM (km var t : Nat) (r : Int) : Bool :=
  let e := r * r - var
  decide (e > 0) && decide (64 * (t : Int) * e * e > 2 * (var : Int) * var * km * km)

/-- Both tests of R383. -/
def testsPass (kp km var : Nat) (rs : List Int) : Bool := (rs.all fun r => !peakFails kp var r) && msPasses km var rs

/-- The column groups of a stroke that fail R383. -/
def State.failingGroups (s : State) (n : Nat) (bank : Bank) (outs : List (List Int)) : List Nat :=
  (List.range 8).filter fun g => !testsPass s.kp s.km (s.sigR n g ^ 2) (s.residuals n bank outs g)

/-- Largest |r|. -/
def peakOf (rs : List Int) : Nat := rs.foldl (fun acc r => max acc r.natAbs) 0

/-- The failing symbols of R629, by number. -/
def failingSymbols (kp km var : Nat) (rs : List Int) : List Nat :=
  let idx := List.range rs.length
  let at_ (t : Nat) : Int := (rs[t]?).getD 0
  let p := idx.filter fun t => peakFails kp var (at_ t)
  if p = [] then idx.filter fun t => overTauM km var rs.length (at_ t) else p

/-- The over-range bit of a column group in one symbol (R394). -/
def groupOver (codes : List Int) (g : Nat) : Bool :=
  (List.range 64).any (fun j => isOver ((codes[64 * g + j]?).getD 0)) || isOver ((codes[512 + g]?).getD 0)

/-! ## Arbitration (R399, R400) -/

/-- What a column group's arbitration finds: the outcome of Table 10.5, whether A1 and A2 hold, and the data column named. -/
structure Verdict where
  outcome : Nat
  a1 : Bool
  a2 : Bool
  column : Nat
deriving DecidableEq, Repr

/-- The spare that the replay used for a group. -/
def Arb.spare (a : Arb) (g : Nat) : Option Nat := (a.spares.find? fun e => e.1 == g).map (·.2)

/-- Evaluate the tests of R399 on one failing group and take the first row of Table 10.5 that holds. -/
def State.outcomeOf (s : State) (n : Nat) (a : Arb) (g : Nat) : Verdict :=
  let x := a.stroke
  let varR := s.sigR n g ^ 2
  let pairs := x.outs.reverse.zip a.outs.reverse
  let d := pairs.map fun e => s.dataSum n x.bank e.2 g - s.dataSum n x.bank e.1 g
  let m := testsPass s.kp s.km (2 * s.sigD n g ^ 2) d
  let a1 := testsPass s.kp s.km varR (s.residuals n (laneOfLathe a.lanes n).bank a.outs g)
  let a2 := match a.spare g with
    | none => false
    | some p => testsPass s.kp s.km varR ((a.outs.reverse.zip a.spareOuts.reverse).map fun e =>
        64 * s.qOf n p ((e.2[g]?).getD 0) - s.dataSum n x.bank e.1 g)
  let absent := (a.spare g).isNone
  let bad := failingSymbols s.kp s.km varR (s.residuals n x.bank x.outs g)
  let passed := bad.all fun t => match pairs[t]? with | some e => groupOver e.1 g && groupOver e.2 g | none => false
  let rms (j : Nat) : Int := sumInt (pairs.map fun e => (s.qCol n x.bank e.2 (64 * g + j) - s.qCol n x.bank e.1 (64 * g + j)) ^ 2)
  let worst := (List.range 64).foldl (fun acc j => if rms j > rms acc then j else acc) 0
  let o := if passed then 1
    else if m && a1 && (a2 || absent) then 2
    else if m && a2 && !a1 then 3
    else if m && a1 && !a2 then 4
    else if !m && (a1 || a2) then 5
    else if m then 6 else 7
  { outcome := o, a1 := a1, a2 := a2, column := 64 * g + worst }

/-- CHECK_ARBITRATED for one column group of a stroke (R417). -/
def State.arbEvent (s : State) (n : Nat) (x : Stroke) (failing : List Nat) (g outcome spare column peak why : Nat) : State :=
  let d := [(0x10, n), (0x11, outcome), (0x12, maskOf 8 fun i => failing.contains i), (0x13, x.group), (0x14, spare),
            (0x16, column), (0x18, peak % 2 ^ 32), (0x1C, why)]
  let cls := if 1 ≤ outcome && outcome ≤ 5 then cWARN else cFAULT
  let unit := unitOf 4 (s.physCol n x.bank (512 + g))
  if outcome = 1 || outcome = 2 then
    s.postLim (s.flag FLT_CTRL FLT_CTRL_ARB_EVT_EN) ms n 1 0xA00 cls unit x.ctx.toNat fun _ => d
  else s.post 0xA00 cls unit x.ctx.toNat d

/-- The spare takes the place of check column 512 + g in the column map (R402), of both lathes in a Deep-2 gang (R405), for a stroke of context `ctx`. -/
def State.substCheck (s : State) (n g spare ctx : Nat) : State :=
  let old := s.colMap n (512 + g)
  let s := (if s.deep n then s.members n else [n]).foldl (fun (acc : State) m => (acc.wf (LTH_COLMAP m (512 + g)) LTH_COLMAP_PHYS spare).renameLoops m) s
  ((s.powerAdcs n).replaced 4 old n spare).post 0xA01 cINFO (unitOf 4 old) ctx [(0x10, n), (0x11, 1), (0x12, spare)]

/-- The fault-history consequences of an outcome, and the substitution of R402 (Table 10.5). -/
def State.applyOutcome (s : State) (n : Nat) (a : Arb) (g : Nat) (v : Verdict) : State :=
  let chk := s.physCol n a.stroke.bank (512 + g)
  let spare := (a.spare g).getD 0
  match v.outcome with
  | 2 => s.histEvent 4 chk n
  | 3 => (s.histPermanent 4 chk n 2).substCheck n g spare a.stroke.ctx.toNat
  | 4 => s.histPermanent 4 spare n 2
  | 5 =>
    let s := s.histEvent 4 (s.colMap n v.column) n
    if !v.a1 then (s.histPermanent 4 chk n 2).substCheck n g spare a.stroke.ctx.toNat
    else if !v.a2 && (a.spare g).isSome then s.histPermanent 4 spare n 2
    else s
  | _ => s

/-! ## Poisoning without arbitration (R404, R408) -/

/-- A failing stroke that is not arbitrated: its group is poisoned and outcome 0 reported (R404). -/
def State.unarbitrated (s : State) (n : Nat) (x : Stroke) (failing : List Nat) (why : Nat) : State :=
  let s := if s.groupLive n x then s.poisonGroup n x.group else s
  let s := failing.foldl (fun (acc : State) g =>
    (acc.bump FLT_STAT_UNARBITRATED 1).arbEvent n x failing g 0 0xFFFF 0xFFFF (peakOf (s.residuals n x.bank x.outs g)) why) s
  (s.lessVerdict n x).settleRun x.eng x.prog x.stage

/-- A suspect stroke that cannot be corrected: its group, if still live, is poisoned and the reason reported (R408). -/
def State.suspectPoison (s : State) (n : Nat) (a : Arb) (why : Nat) : State :=
  let x := a.stroke
  let s := if s.groupLive n x && (s.group n x.group).st != .draining then s.poisonGroup n x.group else s
  let s := if why = 3 then match x.drained with | some d => s.earlyPoison n x d | none => s else s
  ((s.bump FLT_STAT_SUSPECT_POISON 1).modDip a.dip fun d => { d with poisoned := d.poisoned + 1 }).post 0xA05 cFAULT (unitOf 1 n) x.ctx.toNat [(0x10, n), (0x11, x.group), (0x12, why)]

/-! ## The arbitration in front (R396, R397) -/

/-- What stops an arbitration before it starts, as the code of byte 0x1C; 0 when nothing does (R404). -/
def State.arbBar (s : State) (inJournal : Bool) : Nat :=
  if s.jrnlMib = 0 then 1 else if !inJournal then 2 else 0

/-- The replay planes of a stroke: on both lathes of a Deep-2 gang, which write the same spare columns (R405). -/
def State.writeReplayPlanes (s : State) (n : Nat) (x : Stroke) (spares : List (Nat × Nat)) : Bool × State :=
  let (ok, s) := s.writeReplayPlane n x spares
  if !ok then (false, s)
  else if s.deep n then
    match (s.lathe (n + 1)).journal.find? fun y => y.eng == x.eng && y.prog == x.prog && y.stage == x.stage with
    | some y => s.writeReplayPlane (n + 1) y spares
    | none => (false, s)
  else (true, s)

/-- Replay planes that a lathe was to replay with are given up: their banks are FREE. -/
def State.dropReplay (s : State) (n : Nat) : State :=
  (s.replayMates n).foldl (fun (acc : State) m => if (acc.lathe m).idleBank.replay then acc.modLathe m fun l => l.setIdle {} else acc) s

/-- With no arbitration left, the output ADCs are powered for the maps again and what was displaced is written again (R397, R398). -/
def State.arbsOver (s : State) (n : Nat) : State :=
  if (s.lathe n).arbs = [] then ((s.replayMates n).foldl (fun (acc : State) m => (acc.powerAdcs m).settleBank m) s).settleRelive n else s

/-- The next arbitration, or suspect replay, in front of the list begins, with the spares that no map entry names now (R397); one whose plane cannot be read
ends at once. -/
def State.beginArbs (s : State) (n : Nat) : Nat → State
  | 0 => s
  | fuel + 1 =>
    match (s.lathe n).arbs with
    | [] => s
    | a :: rest =>
      let a := { a with spares := a.failing.zip (s.spareCols n) }
      let s := s.modLathe n fun l => { l with arbs := a :: rest }
      match s.writeReplayPlanes n a.stroke a.spares with
      | (true, s) => s
      | (false, s) =>
        let s := (s.dropReplay n).modLathe n fun l => { l with arbs := rest }
        let s := if a.isSuspect then (s.suspectPoison n a 6).lessVerdict n a.stroke else s.unarbitrated n a.stroke a.failing 3
        s.beginArbs n fuel

/-- The guard that ends the gang's replays (R398, R405): every member switches to the plane of the next RUN where it is PENDING on all that have not done so,
else a lathe switches back to the plane that its replay displaced where that is PENDING. -/
def State.guardReplay (s : State) (b : Nat) : State :=
  let ms := s.members b
  let last (n : Nat) : Bool := decide ((s.lathe (s.lead n)).arbs.length ≤ 1)
  let back (n : Nat) : Bool := (s.lathe n).idleBank.relive && (s.lathe n).idleBank.st == .pending
  if s.nextRun b == some true && ms.all fun n => ((s.lathe n).planeReady || (s.lathe n).newLive) && last n then
    ms.foldl (fun (acc : State) n => if (s.lathe n).planeReady then acc.switchNew n else if (s.lathe n).guardDue.isSome then acc.guardSyms n else acc) s
  else ms.foldl (fun (acc : State) n =>
    if last n && (s.replayMates n).all back then acc.switchGuard n
    else if (s.lathe n).guardDue.isSome then acc.guardSyms n else acc) s

/-- The replay of the arbitration in front has been presented: its symbols are counted (R628), and its guard is due, at which the members of the
gang switch together once none of them replays (R405). -/
def State.endReplay (s : State) (n : Nat) : State :=
  match (s.lathe n).arbs with
  | [] => s
  | a :: rest =>
    let s := (s.replayMates n).foldl (fun (acc : State) m =>
      let acc := (acc.countShown m a.lanes a.stroke.t).addSym m a.stroke.t 0 0
      acc.modLathe m fun l => { l with guardDue := some (0, 0, l.symAcc) }) s
    let s := s.modLathe n fun l => { l with arbs := { a with ended := true } :: rest }
    if (s.members n).any fun m => (s.replaying m).isSome then s else s.guardReplay (s.gang n)

/-- The arbitration in front ends: CHECK_WAIT falls, its RUN may complete, displaced planes are written again (R388, R396, R398). -/
def State.finishArb (s : State) (n : Nat) : State :=
  match (s.lathe n).arbs with
  | [] => s
  | a :: rest =>
    let x := a.stroke
    let s := s.modLathe n fun l => { l with arbs := rest }
    let s := if (s.group n x.group).gen = x.ggen && a.started then s.modGroup n x.group fun g => { g with inflight := g.inflight - 1 } else s
    let s := s.lessVerdict n x
    let s := if a.isSuspect then s else s.settleRun x.eng x.prog x.stage
    ((s.beginArbs n (rest.length + 1)).settleDips).arbsOver n

/-! ## Corrections (R401) -/

/-- What a correction adds: the differences q′ − q of one stroke into the data columns and check columns of the groups listed, one addend
per word, and the count of addends β lost. -/
def State.corSum (s : State) (n : Nat) (a : Arb) : AddSt × AddSt × Nat :=
  let x := a.stroke
  let gr := s.group n x.group
  let l := s.lathe n
  let expo (c : Nat) (sh : Int) : Int := 10 - (x.bank.gain : Int) + sh + imgShift x.bank.image c - fmtF x.fmt
  let rows := ((x.outs.reverse.zip a.outs.reverse).zip a.spareOuts.reverse).zipIdx
  rows.foldl (fun (acc : AddSt × AddSt × Nat) e =>
    let ((o, r), sp) := e.1
    let row := gr.rowBase + e.2
    let sh := (x.shifts[e.2]?).getD 0
    a.correcting.foldl (fun (acc : AddSt × AddSt × Nat) cg =>
      let g := cg.1
      let chkNew := if cg.2 then s.qOf n ((a.spare g).getD 0) ((sp[g]?).getD 0) else s.qCol n (laneOfLathe a.lanes n).bank r (512 + g)
      let (cd, cl) := addendOf (chkNew - s.qCol n x.bank o (512 + g)) (expo (64 * g) sh) gr.beta
      let ca := addWord l.seed gr.sigma acc.2.1 (n * 65536 + row * 8 + g) (1536 + g) false cd
      let (da, beta) := (List.range 64).foldl (fun (acc : AddSt × Nat) j =>
        let c := 64 * g + j
        let (d, lost) := addendOf (s.qCol n x.bank r c - s.qCol n x.bank o c) (expo c sh) gr.beta
        (addWord l.seed gr.sigma acc.1 (2 ^ 22 * n + row * 512 + c) (1024 + c) false d, acc.2 + b2n lost)) (acc.1, acc.2.2)
      (da, { ca with gen := ca.gen }, beta + b2n cl)) acc)
    (({ mem := s.accMem, gen := l.gen } : AddSt), ({ mem := s.chkMem, gen := l.gen } : AddSt), 0)

/-- Add q′ − q of one stroke into its group's data columns and check columns for the groups listed, one addend per word. -/
def State.correct (s : State) (n : Nat) (a : Arb) : State :=
  let x := a.stroke
  if !s.groupLive n x then s
  else
    let u := s.corSum n a
    let da := u.1
    let ca := u.2.1
    let gen := sputs 0 (da.gen.filter fun e => e.1 < 1536) (ca.gen.filter fun e => 1536 ≤ e.1)
    let s := { s with accMem := da.mem, chkMem := ca.mem }
    let s := (s.modLathe n fun l => { l with gen := gen }).bump (ACC_STAT_ADDS n) (da.adds + ca.adds)
    (s.noteSat n x.group (da.sat + ca.sat)).noteBeta n x.group u.2.2

end Sys2Proof.Machine
end

