-- ==== Sys2Proof/Machine/Strokes.lean ====
section
/-! DEFINITION. Planes and strokes: LOAD and the end of a bank write (R47–R57), RUN (R28, R129–R149, R156, R235, R236, R265, R627),
the refresh of a bank (R54–R57), and the end of a stroke's data (R51–R61). -/
namespace Sys2Proof.Machine

/-! ## LOAD -/

/-- The members of a gang free the banks that R53 frees now and write what was displaced again, where a barrier lets them (R56, R57, R272). -/
def State.pollDisplaced (s : State) (b : Nat) : State := (s.members b).foldl (fun (acc : State) n => acc.settleBank n) s

/-- LOAD (R50, R202, R254–R265, R280): once every member's idle bank is FREE, each member's bank write starts, and its source is read and
checked. -/
def execLoad (b : Fin 8) (p : Nat) (k : Fin 32) (glitch : List (Nat × Nat)) (s : State) : Out :=
  .next (match s.stage b p k with
  | some (.load live layer src mst) =>
    let s := s.pollDisplaced b
    let ms := s.members b
    let ready := ms.all fun n => let l := s.lathe n
      (l.svc == .inService || l.svc == .quiescing) && l.idleFree s.clock && l.displaced.isEmpty && l.wait.isNone && l.arbs.isEmpty
    if !s.mayStart b p k || !ready then s
    else
      let ctx := s.ctxOf b p
      let go (s : State) : State :=
        let s := s.setStage b p k .running
        ms.foldl (fun (acc : State) n =>
          if acc.stageSt b p k == .running && ((acc.prog b p).any fun x => x.st == .started) then
            acc.loadPlane n { eng := b, prog := p, stage := k, addr := src + (n - b) * mst, livePlane := live, layer := layer, ctx := BitVec.ofNat 8 ctx }
              fun j => glitch.contains (n - b.val, j)
          else acc) s
      if layer < 4096 then
        match s.gate layer ctx with
        | .invalid => (s.shardEvent b 0x701 2 layer 0xFFFFFFFF 0 ctx).faultAbort b p k 0x0E
        | .dead => s.faultAbort b p k 0x0E
        | .wait => s
        | .go => go s
      else go s
  | _ => s)

/-- A LOAD stage whose plane stands written on every member, or was so before a refresh displaced it, completes. -/
def State.settleLoad (s : State) (src : LoadSrc) : State :=
  match s.stage src.eng src.prog src.stage with
  | some (.load ..) =>
    let mine (x : Bank) : Bool := x.src.eng == src.eng && x.src.prog == src.prog && x.src.stage == src.stage && !x.refresh && !x.replay
    let done (n : Nat) : Bool :=
      let l := s.lathe n
      let here (x : Bank) : Bool := mine x && (x.st == .pending || x.st == .live || x.again)
      here l.bankA || here l.bankB || l.displaced.any fun d => mine d.1 && !d.2
    if s.stageSt src.eng src.prog src.stage == .running && (s.members src.eng).all done then s.complete src.eng src.prog src.stage else s
  | _ => s

/-- BANK_WRITE_END (R47, R50, R61): the write of the idle bank is complete and the bank is PENDING; a guard that waited for it runs with its
switch. -/
def execBankWriteEnd (n : Fin 8) (s : State) : Out :=
  let l := s.lathe n
  let x := l.idleBank
  .next (if x.st == .writing && l.wait.isNone then
    let s := s.modLathe n fun l => l.setIdle { x with st := .pending, wrote := s.clock }
    let s := if x.refresh || x.replay || x.relive then s else s.settleLoad x.src
    if (s.members n).all fun m => (s.lathe m).cur.isNone && (s.lathe m).guardDue.isSome then s.runGuards (s.gang n)
    else s.settleRelive n
  else s)

/-- REFRESH_START (R54, R56, R57): where the live bank of lathe `n` had the refresh age at the stroke's start, its image is written into the idle
bank, which is displaced if it is PENDING or WRITING. DEDUCED (log entry 26): the members of a gang switch banks at one guard symbol (R81, R82),
and only to a PENDING bank (R51), so every member refreshes with the first that is due. -/
def execRefreshStart (n : Fin 8) (s : State) : Out :=
  let s := s.pollDisplaced n
  let ms := s.members n
  let able (m : Nat) : Bool := let l := s.lathe m
    l.cur.isSome && l.hasLive && l.arbs.isEmpty && l.idleBank.st != .live && !l.idleBank.refresh && !l.idleBank.replay
  let due : Bool := match (s.lathe n).cur with
    | some x => decide ((s.lathe n).liveBank.wrote + (s.rd (LTH_BANK_AGE_MAX n)).toNat * 1000 ≤ x.startClock)
    | none => false
  .next (if due && ms.all able then ms.foldl (fun (acc : State) m => acc.refreshBank m) s else s)

/-! ## RUN -/

/-- Banks of a RUN on one member (R28, R51, R627): ready with or without a switch, waiting, or none live. -/
inductive BankGo where
  | ready | switch | wait | noPlane
deriving DecidableEq, Repr

def Lathe.bankGo (l : Lathe) (newPlane : Bool) : BankGo :=
  let relive := l.idleBank.relive || l.displaced.any fun d => d.1.relive
  if newPlane then
    if l.newLive then .ready
    else if l.planeReady && !relive then .switch
    else .wait
  else if relive then .wait
  else if l.hasLive then .ready
  else .noPlane

/-- The bank a RUN uses on a member. -/
def Lathe.runBank (l : Lathe) (newPlane : Bool) : Bank := if newPlane && !l.newLive then l.idleBank else l.liveBank

/-- The input blocks of a stroke of `t` symbols at `inp`, by address. -/
def inputBlocks (inp t : Nat) : List Nat := (List.range (t / 32)).map fun i => inp + i * blk8

/-- The input blocks of a stroke lie at addresses that answer reads. -/
def State.inputMapped (s : State) (inp t : Nat) : Bool := s.mapped inp && s.mapped (inp + t / 32 * blk8 - 1)

/-- The companions that a stroke's input blocks name, by address. -/
def State.companions (s : State) (inp t : Nat) : List Nat := ((inputBlocks inp t).filter fun a => s.outMap a != []).map fun a => s.num (a + 0x20) 5

/-- A stroke's input blocks and their companions are read (Table 5.11, R293). -/
def State.countInput (s : State) (inp t : Nat) : State :=
  (s.companions inp t).foldl (fun (acc : State) a => (acc.countMarks a 512).countInf a 512 false) (s.countInf inp (t / 32 * blk8) false)

/-- ADDR_UNMAPPED for the inputs of a stroke of engine `b`, or for the first companion, that no memory answers (R33). -/
def State.inputUnmapped (s : State) (b ctx inp t : Nat) : State :=
  if !s.inputMapped inp t then s.unmappedEvent (weightReq b) (some (BitVec.ofNat 8 ctx)) (s.glob inp) false
  else match (s.companions inp t).find? fun a => !s.mapped a with
    | some a => s.unmappedEvent (weightReq b) (some (BitVec.ofNat 8 ctx)) (s.glob a) false
    | none => s

/-- The first poisoned line among a stroke's input blocks, as use 1, or among the companions they name, as use 2 (R313, R314); an unmapped one reads
as poison (R33). -/
def State.inputPoison (s : State) (inp t : Nat) : Option (Nat × Nat) :=
  if !s.inputMapped inp t then some (1, inp)
  else match (inputBlocks inp t).findSome? fun a => s.blkPoison a blk8 with
  | some a => some (1, a)
  | none => (inputBlocks inp t).findSome? fun a =>
      if s.outMap a = [] then none
      else if !s.mapped (s.num (a + 0x20) 5) then some (2, s.num (a + 0x20) 5)
      else match (srange s.marks (s.num (a + 0x20) 5 / 64) 8).head? with
        | some e => some (2, e.1 * 64)
        | none => none

/-- The first input block whose FORMAT is not the RUN's (R94). -/
def State.wrongFormat (s : State) (inp t fmt : Nat) : Option Nat :=
  if s.inputMapped inp t then (inputBlocks inp t).find? fun a => (s.byte a).toNat != fmt else none

/-- What lathe `n` puts into a stroke of `t` symbols of format `fmt` from its input blocks at `inp`, at the symbol shifts `shifts`
(R38, R43–R46, R113, R114). -/
def State.laneOf (s : State) (n : Nat) (bank : Bank) (fmt inp t : Nat) (shifts : List Int) : Lane :=
  let ch := s.channels bank.image inp t
  let sym (i : Nat) : Int := (shifts[i]?).getD 0
  { bank := bank, inp := inp, drives := (List.range t).map fun i => s.drivesOf n fmt inp ch (sym i) i,
    xs := (List.range t).map fun i => ch.map fun k => (k, s.laneX fmt inp i k),
    aligned := (List.range t).map fun i => ((s.symShifts inp i).filter fun x => decide (x < sym i)).length,
    in80 := (List.range t).map fun i => s.count80 fmt inp i }

/-- The symbol shifts of a stroke over the blocks of `inps` (R45, R81). -/
def State.shiftsOf (s : State) (inps : List Nat) (t : Nat) : List Int :=
  (List.range t).map fun i => maxInt (inps.flatMap fun a => s.symShifts a i)

/-- The rounded inlay intermediates of every symbol, over all inputs of the gang, with the flushes made (R115, R119). -/
def State.inlayTs (s : State) (banks : List (Bank × Nat)) (r : RunOp) : List (List Word × Nat) :=
  let rank := match banks with | (x, _) :: _ => x.rank | [] => 0
  (List.range r.t).map fun i =>
    (List.range rank).foldl (fun (acc : List Word × Nat) j =>
      let terms := banks.flatMap fun e => s.tTerms e.1 r.fmt e.2 i j
      let (v, k) := fsum (i * 16 + j) terms
      let (h, f) := toBf16 v
      (acc.1 ++ [ofBf16 h], acc.2 + k + b2n f)) ([], 0)

/-- `OLL_[n]` after a stroke of load `load` with `ch` (R117). -/
def State.noteLane (s : State) (n : Nat) (ch : List Nat) (load t ctx : Nat) : State :=
  let s := s.wr (OLL_STATUS n) (BitVec.ofNat 32 (load + b2n (decide (load > 8)) * 64))
  let s := (List.range 16).foldl (fun (acc : State) i => acc.wr (OLL_CHAN n i) (BitVec.ofNat 32 ((ch[i]?).getD 0xFFFF))) s
  let s := if load > 0 then s.bump (OLL_STAT_STROKES n) 1 else s
  if load > 8 then
    ((s.bump (OLL_STAT_STRETCHED n) 1).bump (OLL_STAT_STRETCH_SYM n) ((t * load + 7) / 8 - t)).postFirst
      (s.flag (OLL_CTRL n) OLL_CTRL_STRETCH_EVT_EN) ms n load 1 0x305 cINFO (unitOf 1 n) ctx fun f k => [(0x10, n), (0x11, f), (0x12, k)]
  else s

/-- The guard still due runs, and a plane still PENDING is switched to with a guard of its own; then every member of the gang idles until all are
ready, so that the stroke starts in the same symbol period on each (R58, R81, R82; log entry 28). -/
def State.readyBanks (s : State) (b : Nat) (newPlane : Bool) : State :=
  let ms := s.members b
  let s := ms.foldl (fun (acc : State) n =>
    if newPlane && (acc.lathe n).bankGo true == .switch then (acc.switchGuard n).modLathe n fun l => { l with newLive := true }
    else if (acc.lathe n).guardDue.isSome then acc.guardSyms n else acc.countIdle n) s
  let first := ms.foldl (fun a n => max a (s.lathe n).symAcc) (8 * s.clock)
  ms.foldl (fun (acc : State) n => acc.addSym n 0 0 (first - (acc.lathe n).symAcc)) s

/-- Clock of the first data symbol of a stroke that starts when `s` is ready for it. -/
def State.firstSymbol (s : State) (b : Nat) : Nat := max s.clock (((s.lathe b).symAcc + 7) / 8)

/-- The stroke starts on every member, its banks being ready (R28, R45, R46, R81, R113–R120, R150): its group is opened or admitted and what it
presents is fixed. DESIGN CHOICE (log entry 29): the members of a Wide gang take each its own plane's outlier list and inlay; R113 gives each
plane its own, and R120 takes them to be the same. Lathe 2j of a Deep-2 pair counts the flushes of the joint inlay sums t_i (log entry 30). -/
def State.startStroke (s : State) (b p k : Nat) (r : RunOp) (ctx : BitVec 8) (bad : Bool) : State :=
  let ms := s.members b
  let s := (s.accMembers b).foldl (fun (acc : State) n => acc.admitGroup b p n r ctx) s
  let s := if bad then (s.accMembers b).foldl (fun (acc : State) n => acc.poisonGroup n r.group) s else s
  let now := s
  let inp (n : Nat) : Nat := now.inputOf n b r.input
  let bank (n : Nat) : Bank := (now.lathe n).liveBank
  let shifts := now.shiftsOf (if now.deep b then ms.map inp else [r.input]) r.t
  let lanes := ms.map fun n => (n, now.laneOf n (bank n) r.fmt (inp n) r.t shifts)
  let chans (n : Nat) : List Nat := now.channels (bank n).image (inp n) r.t
  let load (n : Nat) : Nat := (chans n).length + 2 * (bank n).rank
  let top := ms.foldl (fun acc n => max acc (load n)) 0
  ms.foldl (fun (acc : State) n =>
    let tsf := now.inlayTs (if now.deep b then ms.map fun m => (bank m, inp m) else [(bank n, inp n)]) r
    let st : Stroke := {
      eng := b, prog := p, stage := k, ctx := ctx, group := r.group, ggen := (now.group (if now.deep b then b else n) r.group).gen,
      t := r.t, fmt := r.fmt, layer := r.layer, bank := bank n, shifts := shifts,
      lanes := (lanes.filter fun e => now.deep b || e.1 == n).map (·.2),
      ts := tsf.map (·.1), startClock := now.firstSymbol b, load := if now.deep b then top else load n, lvl := now.level }
    let acc := acc.noteLane n (chans n) st.load r.t ctx.toNat
    let acc := acc.bump (OLL_STAT_FLUSH n) (now.tFlush (bank n) r.fmt (inp n) r.t + if now.deep b && n ≠ b then 0 else tsf.foldl (fun a e => a + e.2) 0)
    let acc := if now.deep b || n = b then acc.countInput (inp n) r.t else acc
    acc.modLathe n fun l => { l with cur := some st, newLive := false }) s

/-- What stops a RUN before its stroke, in the order the model tries it: a tag of R265, a format of R94, an outlier load of R118, or
a group of R149; `none` to go on. -/
def State.runFault (s : State) (b p k : Nat) (r : RunOp) : Option State :=
  let ms := s.members b
  let ctx := s.ctxOf b p
  let bank (n : Nat) : Bank := (s.lathe n).runBank r.newPlane
  let tagBad := r.layer < 4096 && ms.any fun n => (bank n).entry != r.layer || (bank n).ver.toNat != s.wtbVer r.layer
  if tagBad then some ((s.shardEvent b 0x701 4 r.layer 0xFFFFFFFF (s.wtbVer r.layer) ctx).faultAbort b p k 0x0E)
  else
    let srcs := if s.deep b then ms.map fun n => (n, s.inputOf n b r.input) else [(b, r.input)]
    match srcs.findSome? fun e => (s.wrongFormat e.2 r.t r.fmt).map fun a => (e.1, a) with
    | some (n, a) => some ((s.post 0x306 cFAULT (unitOf 1 n) ctx [(0x10, n), (0x11, (s.byte a).toNat), (0x12, r.fmt), (0x14, a)]).faultAbort b p k 0x0B)
    | none =>
      match ms.findSome? fun n =>
          let c := (s.channels (bank n).image (s.inputOf n b r.input) r.t).length
          if c > 16 then some (n, 0, c) else if (bank n).rank > 16 then some (n, 1, (bank n).rank) else none with
      | some (n, code, c) => some ((s.post 0x304 cFAULT (unitOf 1 n) ctx [(0x10, n), (0x11, code), (0x12, satTo 255 c)]).faultAbort b p k 0x0A)
      | none => none

/-- The group, then the stroke (R145, R149, R156, R162). DESIGN CHOICE (log entry 38): in a Wide gang the first member that finds a misuse reports it, and
each member reports a span region that it lacks. -/
def State.runGroup (s : State) (b p k : Nat) (r : RunOp) (x : Prog) (poison : Option (Nat × Nat × Nat)) : State :=
  let accs := s.accMembers b
  let goes := accs.map fun n => (n, s.groupGo b p k n r x.ctx)
  match goes.findSome? fun e => match e.2 with | .misuse c => some (e.1, c) | _ => none with
  | some (n, c) => s.groupMisuse n b p k r.group c
  | none =>
    if goes.any fun e => e.2 == .noRegion then
      (accs.foldl (fun (acc : State) n => acc.post 0x403 cFAULT (unitOf 1 n) x.ctx.toNat [(0x10, n), (0x11, r.group)]) s).faultAbort b p k 8
    else if goes.any fun e => e.2 == .wait then s
    else if goes.any fun e => e.2 == .move then
      accs.foldl (fun (acc : State) n => acc.modGroup n r.group fun g => { g with st := .spanMove, held := some (b, p, k) }) s
    else
      let first := x.paced && (x.stages.take k).all fun st => st.runOp.isNone
      let s := (s.setStage b p k .running).readyBanks b r.newPlane
      let at_ := s.ft.toNat + (s.firstSymbol b - s.clock)
      let s := if first && decide (x.startFt + x.slack < at_) then
          let late := at_ - x.startFt
          let s := (s.modProg b p fun x => { x with deadlineMiss := true }).bump (STR_STAT_DEADLINE_MISS b) 1
          if s.flag (STR_CTRL b) STR_CTRL_DEADLINE_EVT_EN then
            s.post 0x504 cWARN (unitOf 1 b) x.ctx.toNat [(0x10, b), (0x14, x.tag.toNat), (0x18, late)]
          else s
        else s
      let s := s.startStroke b p k r x.ctx poison.isSome
      match poison with
      | some (n, use, a) => (s.inputUnmapped b x.ctx.toNat (s.inputOf n b r.input) r.t).usePoison (some n) none use x.ctx.toNat (s.glob a)
      | none => s

/-- The stage may start and its banks hold the planes it needs: an input parity error (R28) marks its line, a fault that the operands
show aborts, else the stroke's group begins. -/
def State.runStart (s : State) (b p k : Nat) (r : RunOp) (x : Prog) (parity : Option (Nat × Nat)) : State :=
  let s := match parity with
    | some (off, path) =>
      let a := (r.input + off) / 64 * 64
      ((s.setMark a true).bump (INF_STAT_PARITY b) 1).post 0x809 cFAULT (unitOf 1 b) x.ctx.toNat [(0x10, b), (0x11, path), (0x14, s.glob a)]
    | none => s
  match s.runFault b p k r with
  | some s => s
  | none =>
    let poison := (if s.deep b then s.members b else [b]).findSome? fun n => (s.inputPoison (s.inputOf n b r.input) r.t).map fun e => (n, e.1, e.2)
    s.runGroup b p k r x poison

/-- Refreshed banks that stand on every member where the new plane belongs are switched to first (R56; log entry 28). -/
def State.runSwitch (s : State) (b : Nat) (newPlane : Bool) : State :=
  let ms := s.members b
  if newPlane && ms.all fun n => (s.lathe n).idleBank.refresh && (s.lathe n).idleBank.st == .pending then
    ms.foldl (fun (acc : State) n => acc.switchGuard n) s
  else s

/-- Fabric time of the first data symbol of a RUN that would start now (R235): after the guard that is due, or that its switch needs. -/
def State.runStartsAt (s : State) (b : Nat) (newPlane : Bool) : Nat :=
  let x := s.readyBanks b newPlane
  s.ft.toNat + (x.firstSymbol b - s.clock)

/-- RUN (R28, R29, R77, R94, R113–R122, R129, R138–R156, R235, R236, R265, R272, R627). -/
def execRun (b : Fin 8) (p : Nat) (k : Fin 32) (parity : Option (Nat × Nat)) (s : State) : Out :=
  .next (match s.prog b p, (s.stage b p k).bind Stage.runOp with
  | some x, some r =>
    let s := s.pollDisplaced b
    let ms := s.members b
    let ready := ms.all fun n => let l := s.lathe n
      (l.svc == .inService || l.svc == .quiescing) && l.cur.isNone && !l.dip && l.arbs.isEmpty
    let first := x.paced && (x.stages.take k).all fun st => st.runOp.isNone
    let early := first && decide (s.runStartsAt b r.newPlane < x.startFt)
    let accs := s.accMembers b
    if !s.mayStart b p k || !ready || early || accs.any (fun n => (s.group n r.group).held == some (b.val, p, k.val) && (s.group n r.group).st != .open) then s
    else
      match if r.layer < 4096 then s.gate r.layer x.ctx.toNat else .go with
      | .invalid => (s.shardEvent b 0x701 2 r.layer 0xFFFFFFFF 0 x.ctx.toNat).faultAbort b p k 0x0E
      | .dead => s.faultAbort b p k 0x0E
      | .wait => s
      | .go =>
        let banks := ms.map fun n => (s.lathe n).bankGo r.newPlane
        if banks.contains .noPlane then s.faultAbort b p k 0x13
        else if banks.contains .wait then s.runSwitch b r.newPlane
        else s.runStart b p k r x parity
  | _, _ => s)

/-! ## The end of a stroke's data -/

/-- Clock of the last good sample of the locked laser whose last good sample is oldest (R72), on both lathes of a Deep-2 pair; the standby counts in the
position it stands in (R419). -/
def State.oldestGood (s : State) (n : Nat) : Nat :=
  (s.replayMates n).foldl (fun acc m => (List.range 11).foldl (fun acc P =>
    let g := (s.loop (1152 * m + 1064 + 8 * P + 2)).goodAt
    if s.rf (LTH_LASER m (s.laserAt m P)) LTH_LASER_STATE = 3 then min acc g else acc) acc) s.clock

/-- A stroke without its data: what R72 and R410 need of it. -/
def Stroke.brief (x : Stroke) : Stroke := { x with bank := {}, shifts := [], lanes := [], ts := [], outs := [] }

/-- STROKE_DATA_END (R51–R61, R82, R476): the stroke leaves the inputs on every member, its symbols are counted, and its guard is due, in which
the members' banks switch where a replay, a refresh or the next RUN asks for it. -/
def execStrokeDataEnd (b : Fin 8) (s : State) : Out :=
  let ms := s.members b
  .next (if ms.any fun n => (s.lathe n).cur.isSome then
    let accs := s.accMembers b
    let s := ms.foldl (fun (acc : State) n =>
      match (acc.lathe n).cur with
      | none => acc
      | some x =>
        let stretch := if x.load > 8 then (x.t * x.load + 7) / 8 - x.t else 0
        let acc := ((acc.countShown n x.lanes x.t).addSym n x.t 0 stretch).bump (LTH_STAT_STROKES n) 1
        acc.modLathe n fun l =>
          let y := { x with endClock := acc.clock }
          let l' := if accs.contains n then { l with strokes := l.strokes ++ [y], past := y.brief :: l.past.filter fun z => decide (acc.oldestGood n < z.endClock) }
            else l.journalise y
          { l' with cur := none, guardDue := some (x.t + stretch, x.lvl, l.symAcc) }) s
    s.runGuards b
  else s)

end Sys2Proof.Machine
end

