-- ==== Sys2Proof/Machine/Accumulator.lean ====
section
/-! DEFINITION. The accumulator and the checker's commands: an output's addition (R129–R137, R114–R116), verdicts, replays,
arbitrations and corrections (10), span moves (R156–R162), and INVALID groups (R145, R152). -/
namespace Sys2Proof.Machine

/-! ## ACCUMULATOR_ADD -/

/-- The sum of the outlier lane of lathe number `li` of the stroke's for column `j` of symbol `i`, with the flushes it made (R114–R116). DESIGN CHOICE
(log entry 30): R119 does not say which lane of a Deep-2 pair adds Σ t_i · V_ij, nor in which order the two lanes' sums enter a word; the first
lathe's lane adds it, and its sum enters first. -/
def laneSum (x : Stroke) (li : Nat) (lane : Lane) (i j : Nat) : F32 × Nat :=
  let im := lane.bank.image
  let ch := ((lane.xs[i]?).getD []).map fun e => fmul e.2 (fOfInt (imgCode im e.1 j) (imgShift im j)).1
  let inl := if li = 0 then ((x.ts[i]?).getD []).zipIdx.map fun e => fmul e.1 (x.bank.v e.2 j) else []
  let (v, k) := fsum (65536 + (i * 512 + j) * 2 + li) ((ch ++ inl).map (·.1))
  (v, k + ((ch ++ inl).filter (·.2)).length)

/-- A lane's sum as an addend at base exponent `beta` (R116), and whether it was a NaN. -/
def laneAddend (v : F32) (beta : Int) : Int × Bool :=
  match v.dec with
  | .nan => (0, true)
  | .inf neg => (if neg then -(2 ^ 39 - 1) else 2 ^ 39 - 1, false)
  | .fin .. => let (n, k) := codeUnits v beta 0; (divRne n k, false)

/-- What adding one symbol leaves: words, check words, generators, and its counts, those of the outlier lanes by lathe (R127). -/
structure SymAdd where
  acc : AddSt
  chk : AddSt
  beta : Nat := 0
  nan : Nat → Nat := fun _ => 0
  flush : Nat → Nat := fun _ => 0

/-- `k` more at place `i`. -/
def plusAt (f : Nat → Nat) (i k : Nat) : Nat → Nat := fun j => if j = i then f j + k else f j

/-- What symbol `i` of stroke `x` adds, on codes `codes`: the optical addend of every data column and of every check column, and those of
the outlier lanes (R130–R137). -/
def State.symSum (s : State) (n : Nat) (x : Stroke) (i : Nat) (codes : List Int) : SymAdd :=
  let gr := s.group n x.group
  let l := s.lathe n
  let row := gr.rowBase + i
  let first := !(sget false l.seen row)
  let sh := (x.shifts[i]?).getD 0
  let expo (c : Nat) : Int := 10 - (x.bank.gain : Int) + sh + imgShift x.bank.image c - fmtF x.fmt
  let lanes := x.lanes.zipIdx.filter fun e => (e.1.xs.any fun y => !y.isEmpty) || (e.2 == 0 && (x.ts.any fun y => !y.isEmpty))
  let data (a : SymAdd) (c : Nat) : SymAdd :=
    let key := 2 ^ 22 * n + row * 512 + c
    let (d, lost) := addendOf (s.qCol n x.bank codes c) (expo c) gr.beta
    let a := { a with acc := addWord l.seed gr.sigma a.acc key (1024 + c) first d, beta := a.beta + b2n lost }
    lanes.foldl (fun (a : SymAdd) e =>
      let (v, k) := laneSum x e.2 e.1 i c
      let (d, bad) := laneAddend v gr.beta
      { a with acc := addWord l.seed gr.sigma a.acc key (1024 + c) false d, nan := plusAt a.nan e.2 (b2n bad), flush := plusAt a.flush e.2 k }) a
  let check (a : SymAdd) (g : Nat) : SymAdd :=
    let (d, lost) := addendOf (s.qCol n x.bank codes (512 + g)) (expo (64 * g)) gr.beta
    { a with chk := addWord l.seed gr.sigma a.chk (n * 65536 + row * 8 + g) (1536 + g) first d, beta := a.beta + b2n lost }
  let a := (List.range 512).foldl data { acc := { mem := s.accMem, gen := l.gen }, chk := { mem := s.chkMem, gen := l.gen } }
  (List.range 8).foldl check a

/-- What the outlier lane of lathe `m` counts of a symbol (R103, R116, R127). -/
def State.noteSums (s : State) (m nan flush ctx : Nat) : State :=
  ((s.bump (OLL_STAT_FLUSH m) flush).bump (OLL_STAT_NAN m) nan).noteNan m 1 nan ctx

/-- Symbol `i` of stroke `x`, with codes `codes`, enters row ROW_BASE + i of its group: the optical addend of every column, then
those of the outlier lanes (R130–R137). -/
def State.addSymbol (s : State) (n : Nat) (x : Stroke) (i : Nat) (codes : List Int) : State :=
  let base := (s.group n x.group).rowBase
  let row := base + i
  let a := s.symSum n x i codes
  let gen := sputs 0 (a.acc.gen.filter fun e => e.1 < 1536) (a.chk.gen.filter fun e => 1536 ≤ e.1)
  let s := { s with accMem := a.acc.mem, chkMem := a.chk.mem }
  let s := s.modLathe n fun l => { l with gen := gen, seen := sput false true l.seen row }
  let s := s.bump (ACC_STAT_ADDS n) (a.acc.adds + a.chk.adds)
  let s := (List.range x.lanes.length).foldl (fun (acc : State) j => acc.noteSums (n + j) (a.nan j) (a.flush j) x.ctx.toNat) s
  let s := (s.noteSat n x.group (a.acc.sat + a.chk.sat)).noteBeta n x.group a.beta
  if codes.any isOver then
    (s.modGroup n x.group fun g => { g with ovr := true }).groupFlag n x.group ACC_TILE_OVR
  else s

/-- Over-range outputs of a symbol (R63, R65). -/
def State.overSymbol (s : State) (n : Nat) (x : Stroke) (codes : List Int) : State :=
  match codes.findIdx? isOver with
  | some c => s.noteOver n (s.physCol n x.bank c) (codes.filter isOver).length x.bank.gain x.ctx.toNat
  | none => s

/-- The codes of the 520 logical columns in symbol `i` of a stroke: each its physical column's optical sum on the output ADC, with what the analog
path adds to it (R38, R62, R69). -/
def State.codesOf (s : State) (n : Nat) (bank : Bank) (lanes : List Lane) (i : Nat) (dev : List Int) : List Int :=
  (List.range 520).map fun c => outputCode bank.gain (columnSum lanes i (s.physCol n bank c)) ((dev[c]?).getD 0)

/-- The codes of a replay's spare columns in symbol `i`, by column group (R397). -/
def sparesOf (bank : Bank) (lanes : List Lane) (i : Nat) (dev : List Int) : List Int :=
  (List.range 8).map fun g => match bank.spares.find? fun e => e.1 == g with
    | some e => outputCode bank.gain (columnSum lanes i e.2) ((dev[g]?).getD 0)
    | none => 0

/-- A supply dip makes the stroke of lathe `n` suspect: one still below the warning level, or one that is over (R407). -/
def State.suspectNow (s : State) (n : Nat) (x : Stroke) : Bool :=
  x.suspect || s.rails.any fun (e : Nat × RailSt) => e.2.below && (s.replayMates n).any ((lathesFed e.1).contains ·) &&
    (x.endClock = 0 || decide (e.2.since < x.endClock + 250))

/-- C and D of logical input `k` in one symbol, 2¹⁰ times (Table 11.2): `x` the value its row presents, `ws` its written codes and `qs` the
corrected outputs over the data columns. -/
def rowTerm (x : Int) (ws qs : List Int) (gain : Nat) : Int × Int :=
  (2 ^ 10 * (x * sumInt ((ws.zip qs).map fun e => e.1 * e.2)), 2 ^ gain * (x * x * sumInt (ws.map fun w => w * w)))

def addPair (a b : Int × Int) : Int × Int := (a.1 + b.1, a.2 + b.2)

/-- Symbol `i` of an ordinary stroke, on codes `codes`, enters the statistics of its lathe and, in a Deep-2 gang, of both lathes' rows, unless the
stroke is suspect (R422, R423, R426). DESIGN CHOICE (log entry 31): of the symbols counted since reset, numbers 0, 2^SUB, 2·2^SUB … enter C and D. -/
def State.gather (s : State) (n : Nat) (x : Stroke) (i : Nat) (codes : List Int) : State :=
  if s.suspectNow n x then s
  else
    let qs := (List.range 520).map fun c => s.qCol n x.bank codes c
    let rs := (List.range 8).map fun g => 64 * (qs[512 + g]?).getD 0 - sumInt ((qs.drop (64 * g)).take 64)
    let s := s.modLathe n fun l =>
      { l with stats := l.stats.modPart x.startClock fun w => { w with cols := qs.zipIdx.foldl (fun acc e =>
          if e.1 = 0 then acc
          else
            let p := s.physCol n x.bank e.2
            let r := (rs[if e.2 < 512 then e.2 / 64 else e.2 - 512]?).getD 0
            sput (0, 0) (addPair (sget (0, 0) acc p) (r * e.1, e.1 * e.1)) acc p) w.cols } }
    (x.lanes.zipIdx).foldl (fun (acc : State) e =>
      let m := if x.lanes.length = 2 then n + e.2 else n
      let l := acc.lathe m
      let add (rows : Sparse (Int × Int)) : Sparse (Int × Int) :=
        if l.stats.all % 2 ^ acc.rf (STD_CORE_CFG m) STD_CORE_CFG_SUB ≠ 0 then rows
        else (List.range 512).foldl (fun rows k =>
          let p := acc.rowMap m k
          let v := e.1.drive i p
          if v = 0 then rows
          else sput (0, 0) (addPair (sget (0, 0) rows p)
            (rowTerm v ((List.range 512).map fun j => imgCode e.1.bank.image k j) qs e.1.bank.gain)) rows p) rows
      acc.setLathe m { l with stats := { l.stats.modPart x.startClock fun w => { w with n := w.n + 1, rows := add w.rows } with all := l.stats.all + 1 } }) s

/-- ACCUMULATOR_ADD (R60–R67, R129–R137, R150, R152, R422): the next symbol's outputs of lathe `n`, for the oldest stroke that still lacks
some, else for the replay that runs, whose last outputs follow its guard (R60, R628). -/
def execAccumulatorAdd (n : Fin 8) (dev spareDev : List Int) (s : State) : Out :=
  let l := s.lathe n
  let done (x : Stroke) : Bool := decide (x.t ≤ x.outs.length)
  let codes (x : Stroke) : List Int := s.codesOf n x.bank x.lanes x.outs.length dev
  let deliver (x : Stroke) : State :=
    let s := (s.overSymbol n x (codes x)).gather n x x.outs.length (codes x)
    let s := if s.groupLive n x then s.addSymbol n x x.outs.length (codes x) else s
    if x.outs.length + 1 = x.t && (s.group n x.group).gen = x.ggen then
      s.modGroup n x.group fun g => { g with inflight := g.inflight - 1 }
    else s
  let take (x : Stroke) : Stroke := { x with outs := codes x :: x.outs }
  .next (match l.strokes.find? fun x => !done x with
  | some x => (deliver x).modLathe n fun l => { l with strokes := l.strokes.map fun y => if y = x then take y else y }
  | none =>
    match l.cur with
    | some x => if done x || !(s.accMembers n).contains n.val then s else (deliver x).modLathe n fun l => { l with cur := some (take x) }
    | none =>
      match l.arbs with
      | a :: rest =>
        if a.started && decide (a.outs.length < a.stroke.t) then
          let i := a.outs.length
          let bank := (laneOfLathe a.lanes n).bank
          let c := s.codesOf n bank a.lanes i dev
          let s := (s.overSymbol n a.stroke c).modLathe n fun l =>
            { l with arbs := { a with outs := c :: a.outs, spareOuts := sparesOf bank a.lanes i spareDev :: a.spareOuts } :: rest }
          if i + 1 = a.stroke.t then s.endReplay n else s
        else s
      | [] => s)

/-! ## Verdicts and arbitration -/

/-- STROKE_VERDICT (R383, R384, R388, R390, R396, R404): the oldest stroke whose outputs are complete passes or fails. -/
def execStrokeVerdict (n : Fin 8) (s : State) : Out :=
  let l := s.lathe n
  .next (match l.strokes with
  | x :: rest =>
    if x.outs.length < x.t then s
    else
      let failing := s.failingGroups n x.bank x.outs
      let inJ := l.inJournal x
      let s := (s.bump FLT_STAT_TESTS 8).modLathe n fun l => { l with strokes := rest }.journalise x
      if failing = [] then (s.lessVerdict n x).settleRun x.eng x.prog x.stage
      else
        let s := s.bump FLT_STAT_FAILS 1
        let s := match x.drained with | some d => s.earlyPoison n x d | none => s
        let why : Nat := s.arbBar inJ
        if why ≠ 0 then s.unarbitrated n x failing why
        else
          let a : Arb := { stroke := x, failing := failing, marked := x.drained.isSome,
                           peaks := failing.map fun g => (g, peakOf (s.residuals n x.bank x.outs g)) }
          let idle := (s.lathe n).arbs.isEmpty
          let s := s.modLathe n fun l => { l with arbs := l.arbs ++ [a] }
          if idle then (s.beginArbs n 1).arbsOver n else s
  | [] => s)

/-- What a replay presents: the inputs of the failing stroke, read again, on the replay planes (R389, R398, R405). -/
def State.replayLanes (s : State) (n : Nat) (x : Stroke) : List Lane :=
  let ms := s.replayMates n
  let inps := x.lanes.map (·.inp)
  let shifts := s.shiftsOf inps x.t
  (ms.zip inps).map fun e => s.laneOf e.1 (s.lathe e.1).liveBank x.fmt e.2 x.t shifts

/-- REPLAY_START (R398, R405, R406, R628): no stroke is in progress, no dip idles the lathe and the replay plane is written; the lathe switches to it and
its gang with it, unless the last stroke's guard did, and replays. -/
def execReplayStart (n : Fin 8) (s : State) : Out :=
  let l := s.lathe n
  let ms := s.replayMates n
  .next (match l.arbs with
  | a :: rest =>
    let ready := ms.all fun m => (s.lathe m).idleBank.st == .pending && (s.lathe m).idleBank.replay
    let there := l.liveBank.src == a.stroke.bank.src && ms.all fun m => (s.lathe m).hasLive && (s.lathe m).liveBank.replay && !(s.lathe m).idleBank.replay
    if !a.started && l.strokes.all (fun x => x.t ≤ x.outs.length) && ms.all (fun m => (s.lathe m).cur.isNone && !(s.lathe m).dip) && (ready || there) then
      let s := ms.foldl (fun (acc : State) m => if ready then acc.switchReplay m else acc.countIdle m) s
      let s := if ready then s.matesSwitch (s.gang n) else s
      let now := ((l.journal ++ l.strokes).find? (sameStroke a.stroke)).getD a.stroke
      let lanes := s.replayLanes n now
      let s := s.modLathe n fun l => { l with arbs := { a with started := true, stroke := now, lanes := lanes } :: rest }
      let s := lanes.foldl (fun (acc : State) x => acc.countInput x.inp now.t) s
      let s := if (s.group n a.stroke.group).gen = a.stroke.ggen then
          s.modGroup n a.stroke.group fun g => { g with inflight := g.inflight + 1 } else s
      s.bump FLT_STAT_REPLAYS 1
    else s
  | [] => s)

/-- An early drain that took the group after the failing verdict left what cannot be corrected any more: its destination is marked (R390, R403; log
entry 197). -/
def State.lateDrain (s : State) (n : Nat) (a : Arb) : State :=
  match a.stroke.drained, a.marked with
  | some d, false => s.earlyPoison n a.stroke d
  | _, _ => s

/-- ARBITRATION_END (R399–R403): the replay's outputs are complete; each failing column group ends in an outcome of Table 10.5. -/
def execArbitrationEnd (n : Fin 8) (s : State) : Out :=
  .next (match (s.lathe n).arbs with
  | a :: rest =>
    let x := a.stroke
    if !a.started || a.isSuspect || a.outs.length < x.t || !a.correcting.isEmpty then s
    else
      let vs := a.failing.map fun g => (g, s.outcomeOf n a g)
      let s := vs.foldl (fun (acc : State) e =>
        let v := e.2
        let acc := (acc.bump (FLT_STAT_OUTCOME v.outcome) 1).arbEvent n x a.failing e.1 v.outcome ((a.spare e.1).getD 0xFFFF)
          (if v.outcome = 5 then s.colMap n v.column else 0xFFFF) (((a.peaks.find? fun q => q.1 == e.1).map (·.2)).getD 0) 0
        acc.applyOutcome n a e.1 v) s
      let s := if vs.any fun e => e.2.outcome ≥ 5 then s.lateDrain n a else s
      let lost := (vs.filter fun e => decide (e.2.outcome ≥ 6)).map (·.1)
      if lost ≠ [] then lost.foldl (fun (acc : State) g => acc.askCal n 2 0 g x.ctx.toNat) (s.leaveNow n .outOfService 6)
      else
        let fix := (vs.filter fun e => e.2.outcome == 5).map fun e => (e.1, !e.2.a1)
        if fix = [] || x.drained.isSome || !s.groupLive n x then s.finishArb n
        else s.modLathe n fun l => { l with arbs := { a with correcting := fix } :: rest }
  | [] => s)

/-- CORRECTION_END (R401): q′ − q has been added into every row, and the arbitration or suspect replay ends. -/
def execCorrectionEnd (n : Fin 8) (s : State) : Out :=
  .next (match (s.lathe n).arbs with
  | a :: _ => if a.correcting.isEmpty then s else (s.correct n a).finishArb n
  | [] => s)

/-- SUSPECT_REPLAY_END (R408): the replay of a suspect stroke passes and all 520 columns are to be corrected, or its group is poisoned. -/
def execSuspectReplayEnd (n : Fin 8) (s : State) : Out :=
  .next (match (s.lathe n).arbs with
  | a :: rest =>
    let x := a.stroke
    if !a.started || !a.isSuspect || a.outs.length < x.t || !a.correcting.isEmpty then s
    else
      let s := s.bump FLT_STAT_TESTS 8
      if s.failingGroups n (laneOfLathe a.lanes n).bank a.outs ≠ [] then ((s.bump FLT_STAT_FAILS 1).suspectPoison n a 4).finishArb n
      else if x.drained.isSome || s.drainingOf n x then (s.suspectPoison n a 3).finishArb n
      else if !s.groupLive n x then s.finishArb n
      else s.modLathe n fun l => { l with arbs := { a with correcting := (List.range 8).map fun g => (g, false) } :: rest }
  | [] => s)

/-! ## Span moves -/

/-- Row-region size of the span entries, in rows (R161). -/
def State.spanRows (s : State) : Nat := s.spanMib * 512

/-- Address of the span entry of accumulator row `r` of lathe `n` (R161). -/
def State.spanAddr (s : State) (n r : Nat) : Nat := infeedBase n + (32 - s.spanMib) * 2 ^ 20 + r % s.spanRows * 2048

/-- Another group of the lathe that is not FREE holds a span entry of group `g` (R162): it is extended and two of their rows share
an entry. -/
def State.spanHeld (s : State) (n g : Nat) : Bool :=
  let x := s.group n g
  (List.range 8).any fun h =>
    let y := s.group n h
    h != g && y.st != .free && (y.extended || y.moving) &&
      (List.range x.rows).any fun i => (List.range y.rows).any fun j => (x.rowBase + i) % s.spanRows == (y.rowBase + j) % s.spanRows

/-- SPAN_MOVE_START (R156, R162): the in-flight count is 0, no verdict is outstanding, the span entries are free and so is the
finisher. -/
def execSpanMoveStart (n g : Fin 8) (s : State) : Out :=
  let x := s.group n g
  .next (if x.st == .spanMove && !x.moving && x.inflight = 0 && x.verdicts = 0 && (s.lathe n).finOp = 0 && !s.spanHeld n g then
    (s.modGroup n g fun x => { x with moving := true }).modLathe n fun l => { l with finOp := 2, finGroup := g }
  else s)

/-- One row of a span move: each word as binary32, added to its span entry or written into it (R157); the flushes made. -/
def State.moveRow (s : State) (n g r : Nat) : State :=
  let x := s.group n g
  let a := s.spanAddr n r
  let seen := sget false (s.lathe n).seen r
  let (bytes, k) := (List.range 512).foldl (fun (acc : List Byte × Nat) c =>
    let word : Int := if seen then (sget 0 s.accMem (2 ^ 22 * n + r * 512 + c)).toInt else 0
    let (p, f) := fOfInt word (x.beta + x.sigma)
    let (v, f') := if x.extended then fadd (BitVec.ofNat 32 (s.num (a + 4 * c) 4)) p else (p, false)
    (acc.1 ++ leBytes v.toNat 4, acc.2 + b2n f + b2n f')) ([], 0)
  let bad := x.extended && s.anyMark a 2048
  let s := if bad then (s.poisonGroup n g).usePoison (some n) none 3 x.ctx.toNat (s.glob (s.firstMark a 2048)) else s
  let s := (lineAddrs a 2048).foldl (fun (acc : State) l => acc.setMark l bad) (s.setBytes a bytes)
  (s.countInf a 2048 true).bump (FIN_STAT_FLUSH n) k

/-- SPAN_MOVE_END (R157–R160): the words move to the span entries, a new span opens and the held stroke is admitted; where an abort has taken that stroke
away, a DRAIN that waits takes effect. DESIGN CHOICE (log entry 198): the move of a group that became INVALID only ends and writes no entry; every move
sets the tile's EXTENDED flag, also one that software has cleared since the group's first. -/
def execSpanMoveEnd (n g : Fin 8) (s : State) : Out :=
  let x := s.group n g
  .next (if !x.moving then s
  else
    let s := s.modLathe n fun l => { l with finOp := 0 }
    if x.st != .spanMove then s.modGroup n g fun x => { x with moving := false }
    else
      let s := (List.range x.rows).foldl (fun (acc : State) i => acc.moveRow n g (x.rowBase + i)) s
      let s := s.modLathe n fun l => { l with seen := sdrop l.seen x.rowBase x.rows }
      let s := s.modGroup n g fun y => { y with st := if y.held.isNone && y.drain.isSome then .closing else .open, moving := false, extended := true, count := 0, spans := satTo 65535 (y.spans + 1) }
      (s.groupFlag n g ACC_TILE_EXTENDED).bump (ACC_STAT_SPAN_MOVES n) 1)

/-! ## INVALID groups, the mode and the seed -/

/-- INVALID_GROUP_FREE (R145, R152): an INVALID group with nothing in flight and no move under way becomes FREE. -/
def execInvalidGroupFree (n g : Fin 8) (s : State) : Out :=
  let x := s.group n g
  .next (if x.st == .invalid && x.inflight = 0 && !x.moving then
    (s.setGroup n g { gen := x.gen }).modLathe n fun l => { l with seen := sdrop l.seen x.rowBase x.rows }
  else s)

/-- ACC_MODE_WRITE (R139): taken only while every group of the lathe is FREE. -/
def execAccModeWrite (n : Fin 8) (v : Bool) (s : State) : Out := s.atBlock .acc n fun s =>
  .next (if (List.range 8).all fun g => (s.group n g).st == .free then s.wb (ACC_CTRL n) ACC_CTRL_MODE v else s)

/-- SEED_WRITE (R99, R184): every generator of the lathe restarts from the seed. -/
def execSeedWrite (n : Fin 8) (v : Word) (s : State) : Out := s.atBlock .fin n fun s =>
  .next ((s.wr (FIN_SR_SEED n) v).modLathe n fun l => { l with seed := v, gen := [] })

end Sys2Proof.Machine
end

