-- ==== Sys2Proof/Machine/CalOps.lean ====
section
/-! DEFINITION. How a calibration holds its lathe and ends (13, R487–R499): the settings it saves, acceptance, rejection and the
interruptions of Table 13.4; and a laser failure, which can end one (02, R71–R75, R626). -/
namespace Sys2Proof.Machine

/-! ## Saved settings (R491, R497) -/

/-- Register ranges of lathe `n` that a rejection restores: its maps, its calibration tables, its `FLT_SIGMA`, and the settings of
its loops. -/
def calRanges (n : Nat) : List (Nat × Nat) :=
  [(LTH_ROWMAP n 0, 2048), (LTH_COLMAP n 0, 2080), (CAL_GAIN n 0, 0x4000), (FLT_SIGMA (8 * n), 32), (STD_LOOP_CFG (loopIx n 0), 16 * nLoops)]

/-- The listed words of those ranges. -/
def State.calWords (s : State) (n : Nat) : Sparse Word := (calRanges n).flatMap fun r => srange s.regs r.1 r.2

/-- Give those ranges the words `saved`. -/
def State.putCalWords (s : State) (n : Nat) (saved : Sparse Word) : State :=
  let s : State := { s with regs := (calRanges n).foldl (fun (acc : Sparse Word) r => sdrop acc r.1 r.2) s.regs }
  saved.foldl (fun (acc : State) e => acc.wr e.1 e.2) s

/-- The source loops of a lathe. -/
def sourceLoops (n : Nat) : List Nat := (List.range 88).map fun j => loopIx n (1064 + j)

/-- The sense fields of a loop, and that calibration has changed them: its next sample is held (R431). -/
def State.sense (s : State) (i : Nat) : Nat × Nat := (s.rf (STD_LOOP_CFG i) STD_LOOP_CFG_SENSE_CONV, s.rf (STD_LOOP_CFG i) STD_LOOP_CFG_SENSE_IN)
def Loop.newSense (l : Loop) : Loop := { l with skip := true, seq := none, watched := none, low := 0 }

/-- Source loops whose sense fields differ from those in `s₀` hold their next sample (R431). -/
def State.noteSense (s s₀ : State) (n : Nat) : State :=
  (sourceLoops n).foldl (fun (acc : State) i => if acc.sense i = s₀.sense i then acc else acc.modLoop i Loop.newSense) s

/-- Row and column loops of a lathe. -/
def rowColLoops (n : Nat) : List Nat := (List.range 1064).map (loopIx n)

/-- The codes that its row and column channels present, or will once their queues are empty. -/
def State.trimCodes (s : State) (n : Nat) : List (Nat × Nat) := (rowColLoops n).map fun i => (i, (s.trim i).final)

/-- Row and column loops are written MODE 0: they hold their outputs, frozen ones included (R491). -/
def State.stopLoops (s : State) (n : Nat) : State :=
  (rowColLoops n).foldl (fun (acc : State) i =>
    let acc := acc.wf (STD_LOOP_CFG i) STD_LOOP_CFG_MODE 0
    if acc.trimForced then acc else acc.modLoop i fun l => { l with st := .off, freezeCause := 0 }) s

/-- Row and column loops whose MODE is 1 enter RUN or IDLE from the code in place (R496, Table 11.5), or once a forced clear ends (R446). -/
def State.startLoops (s : State) (n : Nat) : State :=
  if s.trimForced then s
  else (rowColLoops n).foldl (fun (acc : State) i =>
    if acc.rf (STD_LOOP_CFG i) STD_LOOP_CFG_MODE = 1 then
      if acc.loopNamed n (i % nLoops) then acc.enterRun i (acc.trim i).target else acc.modLoop i fun l => { l with st := .idle }
    else acc) s

/-! ## The end (R496–R499, Table 2.6) -/

/-- Outcome codes of `CAL_RESULT`. -/
def State.setCalResult (s : State) (n outcome kind reason : Nat) : State :=
  s.wr (CAL_RESULT n) (BitVec.ofNat 32 (outcome + 4 * kind + 256 * reason))

/-- Where a lathe goes when its calibration has been accepted, or stands in for an earlier one (Table 2.6): from CALIBRATING IN_SERVICE with SVC_REQ
and valid maps, else OUT_OF_SERVICE; one that was calibrated out of service has its cause cleared. Both banks are FREE. -/
def State.leaveCal (s : State) (n : Nat) : State :=
  let s := s.modLathe n Lathe.freeBanks
  let out (s : State) (cause : Nat) : State := (s.modLathe n fun l => { l with svc := .outOfService, oosCause := cause }).oosEvent n cause
  match (s.lathe n).svc with
  | .calibrating =>
    match s.checkMaps n with
    | (false, s) => out s 5
    | (true, s) => if s.flag (LTH_CTRL n) LTH_CTRL_SVC_REQ then s.enterService n else out s 1
  | .outOfService => (s.modLathe n fun l => { l with oosCause := if s.active then 1 else 7 }).tryService n
  | _ => s

/-- The lathe becomes OUT_OF_SERVICE after a calibration that leaves it no other way. -/
def State.calOut (s : State) (n cause : Nat) : State :=
  let was := (s.lathe n).svc
  let s := s.modLathe n fun l => { l.freeBanks with svc := if was == .calibrating || was == .outOfService then .outOfService else was, oosCause := cause }
  if was == .calibrating then s.oosEvent n cause else s

/-- What a lathe, or a pair, waits for once a calibration is over: the next that the P8 has asked for, else the request that waits. -/
def Cal.after (c : Cal) (clock : Nat) : Cal :=
  match c.more with
  | ((kd, n, P, i), x) :: rest => { st := .slot, kind := kd, lathe := n, position := P, column := i, ctx := x, order := clock, more := rest, held := c.held }
  | [] => match c.held with
    | some (a, n, b) => { st := .waiting, at_ := a, lathe := n, begun := b }
    | none => {}

/-- The calibration of `k` holds its lathes no longer and `c` is what they wait for: their output ADCs are powered as the maps say (R40). -/
def State.calEnd (s : State) (k : Nat) (c : Cal) : State :=
  (s.calLathes k).foldl (fun (acc : State) m => acc.powerAdcs m) (s.setCal k c)

/-- A calibration is over; a FULL one leaves nothing for those that the P8 had asked for behind it. -/
def State.calDone (s : State) (k : Nat) : State :=
  let c := s.cal k
  s.calEnd k ((if c.kind = 0 then { c with more := [] } else c).after s.clock)

/-- A lathe out of service for a laser failure that its standby makes good asks for its LANES calibration once the standby is LOCKED (R74, R626). -/
def State.wantLanes (s : State) (n : Nat) : State :=
  let l := s.lathe n
  let P := s.standbyPos n
  if l.svc == .outOfService && l.oosCause = 4 && !l.needFull && P ≠ 15 && s.rf (LTH_LASER n 11) LTH_LASER_STATE = 3 then
    s.askCal n 1 P 0
  else s

/-- Where a lathe goes when a calibration of kind `kind` is rejected for `reason` (R75, R447, R497, Table 13.4, Table 13.5). The partner of the lathe whose
LANES calibration is rejected waits with cause 9. A LOCALISE calibration leaves its lathe as it stood out of service (R403; log entry 195). -/
def State.calRefused (s : State) (m kind lathe reason : Nat) : State :=
  let l := s.lathe m
  let four := l.needFull || l.oosCause = 4
  if kind = 1 && m ≠ lathe && reason ≠ 6 then s.calOut m 9
  else if reason = 5 || kind = 1 then (s.calOut m 4).modLathe m fun l => { l with needFull := true, needCal := l.needCal || decide (reason = 6) }
  else if kind = 2 then (s.modLathe m fun l => { l with needCal := l.needCal || decide (reason = 6) }).wantLanes m
  else if reason = 6 then (s.calOut m (if four then 4 else 3)).modLathe m fun l => { l with needCal := true }
  else if l.calFresh && !(if kind = 0 then l.needFull else four) then s.leaveCal m
  else (s.calOut m (if four then 4 else if kind = 0 then 2 else l.oosCause)).wantLanes m

/-- Rejection (R497): what was in force at the slot grant is restored, loops restart, and the lathe leaves CALIBRATING. -/
def State.rejectCal (s : State) (k reason : Nat) : State :=
  let c := s.cal k
  let ls := s.calLathes k
  let s := (ls.zip c.saved).foldl (fun (acc : State) e => ((acc.putCalWords e.1 e.2).noteSense acc e.1).powerAdcs e.1) s
  let s := c.codes.foldl (fun (acc : State) e => acc.setCode e.1 e.2) s
  let s := ls.foldl (fun (acc : State) m => acc.startLoops m) s
  let s := s.calDone k
  let s := ls.foldl (fun (acc : State) m =>
    ((acc.setCalResult m 2 c.kind reason).bump (CAL_STAT_REJECTED m) 1).post 0xD01 cWARN (unitOf 1 m) 0xFFFF
      [(0x10, m), (0x11, c.kind), (0x12, reason), (0x14, c.disagree)]) s
  let s := if reason = 2 then s.post 0xA02 cFAULT (unitOf 1 k) c.ctx [(0x10, k), (0x11, c.failKind)] else s
  let s := ls.foldl (fun (acc : State) m => acc.calRefused m c.kind c.lathe reason) s
  ls.foldl (fun (acc : State) m => acc.thawed m) s

/-- A calibration ends with nothing installed (Table 13.4): FAULT_HOLD, a domain off, or a Vent power transition (reason 7). -/
def State.endCal (s : State) (n reason : Nat) : State :=
  let k := s.calKey n
  let c := s.cal k
  match c.st with
  | .idle => s
  | .running =>
    let s := (s.calLathes k).foldl (fun (acc : State) m =>
      let acc := acc.setCalResult m 3 c.kind reason
      if reason = 7 then acc.post 0xD01 cWARN (unitOf 1 m) 0xFFFF [(0x10, m), (0x11, c.kind), (0x12, 7), (0x14, 0xFFFF)] else acc) s
    s.calEnd k {}
  | _ => s.calEnd k {}

/-- A lathe enters FAULT_HOLD or goes OFF at once: its calibration ends with nothing installed (Table 13.4), and a partner that was
calibrating with it leaves with cause 9. -/
def State.dropLathe (s : State) (n : Nat) (goal : Svc) (cause : Nat) : State :=
  let held := (s.cal (s.calKey n)).st == .running || (s.cal (s.calKey n)).st == .slot
  let s := s.endCal n 0
  let s := if held then (s.calLathes n).foldl (fun (acc : State) m =>
      if m ≠ n && (acc.lathe m).svc == .calibrating then acc.calOut m 9 else acc) s else s
  s.leaveNow n goal cause

/-- A supply dip with recovery (Table 13.4): the first restarts the phase in progress, the second rejects. -/
def State.dipCal (s : State) (n : Nat) : State :=
  let k := s.calKey n
  let c := s.cal k
  if c.st != .running then s
  else if c.dips = 0 then s.setCal k { c with dips := 1 }
  else s.rejectCal k 3

/-- Calibrations that hold a slot. -/
def State.runningCals (s : State) : List Nat := (s.cals.filter fun (e : Nat × Cal) => e.2.st == .running).map (·.1)

/-- The level rises above 0: every running calibration is rejected with reason 4 (Table 13.4). -/
def State.throttleCals (s : State) : State := s.runningCals.foldl (fun (acc : State) k => acc.rejectCal k 4) s

/-! ## Lasers (R71–R75, R626) -/

/-- What follows when the laser in position `P` of lathe `n` is lost (R72–R75, R626; Table 13.4); `since` is the instant of its last
good sample. -/
def State.laserGone (s : State) (n P since : Nat) : State :=
  let svc := (s.lathe n).svc
  let free := decide (s.standbyPos n = 15) && s.rf (LTH_LASER n 11) LTH_LASER_STATE != 4
  let k := s.calKey n
  let used := s.positionUsed n P
  let switch (s : State) : State :=
    if free then s.switchStandby n P
    else if used then s.modLathe n fun l => { l with needFull := true }
    else s
  let out (s : State) : State := if svc == .outOfService && used then s.modLathe n fun l => { l with oosCause := 4 } else s
  if (s.cal k).st == .running && (used || (s.cal k).kind = 0) then (if free then ((out s).switchStandby n P).modCal k fun c => { c with phase := 0 } else (out s).rejectCal k 5)
  else if used && (svc == .inService || svc == .quiescing) then switch ((s.suspectLaser n since).leaveNow n .outOfService 4)
  else if svc == .inService || svc == .quiescing || svc == .outOfService || svc == .calibrating then switch (out s)
  else s

/-- The laser in position `P` of lathe `n` fails (R71). -/
def State.laserFail (s : State) (n P since : Nat) : State :=
  let i := s.laserAt n P
  let s := (s.wf (LTH_LASER n i) LTH_LASER_STATE 4).histEvent 6 i n
  (s.post 0x100 cFAULT (unitOf 6 i) 0xFFFF [(0x10, n), (0x11, P), (0x12, s.rf (LTH_LASER n i) LTH_LASER_POWER)]).laserGone n P since

end Sys2Proof.Machine
end

