-- ==== Sys2Proof/Machine/Pilots.lean ====
section
/-! DEFINITION. The estimates that calibration forms from its pilot strokes (13, R488–R490, Table 13.1), and the row phase (Table 13.2). Every fit is exact;
what a register or a later test needs of it is rounded to nearest. DESIGN CHOICE (log entry 196). -/
namespace Sys2Proof.Machine

/-- The pilot strokes' gain code: 2, or 1 on a Deep-2 pair (R488, R489). -/
def State.pilotGain (s : State) (n : Nat) : Nat := if s.deep n then 1 else 2

/-- Sign of x_k(t) · w_kc in symbol `i` of a pilot stroke: a drive value of ±254 on row `k` of lathe `n` and a weight of ±63 in its cell of column `c`
(R488). -/
def pilotSign (n : Nat) (p : Pilot) (i k c : Nat) : Int :=
  (if Config.pilotDrive n k (p.first + i) then 1 else -1) * (if Config.pilotWeight n p.plane k c then 1 else -1)

/-- The symbols of a group of pilot strokes, 4,096 of each (R488): stroke, symbol number and codes. -/
def pilotSymbols (ps : List Pilot) : List (Pilot × Nat × List Int) :=
  ps.flatMap fun p => (p.codes.take 4096).zipIdx.map fun e => (p, e.2, e.1)

/-- The sums of a least-squares fit of y on x. -/
structure LsSums where
  n : Int := 0
  sx : Int := 0
  sy : Int := 0
  sxx : Int := 0
  sxy : Int := 0
  syy : Int := 0
deriving DecidableEq, Repr

def LsSums.add (a : LsSums) (x y : Int) : LsSums := ⟨a.n + 1, a.sx + x, a.sy + y, a.sxx + x * x, a.sxy + x * y, a.syy + y * y⟩

/-- n² times the covariance of x and y, and the variances of x and of y: the slope is `cov / varx`. -/
def LsSums.cov (a : LsSums) : Int := a.n * a.sxy - a.sx * a.sy
def LsSums.varx (a : LsSums) : Int := a.n * a.sxx - a.sx * a.sx
def LsSums.vary (a : LsSums) : Int := a.n * a.syy - a.sy * a.sy

/-- A list in ascending order. -/
def insertAsc (x : Int) : List Int → List Int
  | [] => [x]
  | y :: t => if x ≤ y then x :: y :: t else y :: insertAsc x t

/-- The median; of an even number of values the mean of the middle two. -/
def medianOf (l : List Int) : Int :=
  let a := l.foldr insertAsc []
  if l.length % 2 = 1 then (a[l.length / 2]?).getD 0
  else divRne ((a[l.length / 2 - 1]?).getD 0 + (a[l.length / 2]?).getD 0) 1

/-- The slope of a_c(t) on x_k(t) · w_kc in LSB, times 2¹⁴: row `k` of lathe `n` seen through column `c`, at gain code `g`. -/
def rowSlope (g n : Nat) (syms : List (Pilot × Nat × List Int)) (k c : Nat) : Int :=
  let a := syms.foldl (fun (a : LsSums) e => a.add (254 * 63 * pilotSign n e.1 e.2.1 k c) ((e.2.2[c]?).getD 0)) {}
  if a.varx = 0 then 0 else ratRne (a.cov * 2 ^ (28 - g)) a.varx

/-- Row responses ρ times 2¹⁴ of lathe `n` (Table 13.1): the median over the columns that the column map names. -/
def State.rowRho (s : State) (n : Nat) (ps : List Pilot) : List Nat :=
  let syms := pilotSymbols ps
  if syms = [] then []
  else
    let cols := (List.range 520).map (s.colMap n)
    (List.range 528).map fun k => (medianOf (cols.map fun c => rowSlope (s.pilotGain n) n syms k c)).toNat

/-- The natural number nearest to the square root of a quotient. -/
def rootNear (num den : Nat) : Nat := (Nat.sqrt (4 * num / den) + 1) / 2

/-- Gain, offset and noise of a column from the sums of its codes on 2¹⁴ times its ideal products (Table 13.1); a slope of 0 or less has no gain that
a register could hold, and leaves the largest. -/
def fitCol (g : Nat) (a : LsSums) : ColFit :=
  if a.varx ≤ 0 || a.cov ≤ 0 then ⟨2 ^ 24 - 1, 0, 255⟩
  else
    ⟨(ratRne (a.varx * 2 ^ g) (a.cov * 2 ^ 6)).toNat, ratRne ((a.sy * a.varx - a.cov * a.sx) * 256) (a.n * a.varx),
      rootNear (a.varx * 2 ^ (2 * g) * (a.vary * a.varx - a.cov * a.cov)).toNat (a.cov * a.cov * 2 ^ 40 * (a.n * a.n)).toNat⟩

/-- The estimates of a column pass of calibration `k` from its pilot strokes (R489, R490). -/
def State.fitPass (s : State) (k : Nat) (ps : List Pilot) : CalFit :=
  let syms := pilotSymbols ps
  let ls := s.calLathes k
  if syms = [] then {}
  else
    let rho := ls.flatMap fun n => s.rowRho n ps
    let ideal (e : Pilot × Nat × List Int) (c : Nat) : Int :=
      (ls.zipIdx).foldl (fun acc m => (List.range 528).foldl (fun acc r =>
        acc + 254 * 63 * (((rho[528 * m.2 + r]?).getD 0 : Nat) : Int) * pilotSign m.1 e.1 e.2.1 r c) acc) 0
    { rho := rho,
      cols := (List.range 536).map fun c => fitCol (s.pilotGain k) (syms.foldl (fun (a : LsSums) e => a.add (ideal e c) ((e.2.2[c]?).getD 0)) {}) }

/-! ## The row phase (Table 13.2) -/

/-- The new code of a row heater at `c` with step `d`, from 2¹⁴ρ at c − d, c and c + d: the vertex of the parabola, limited to c ± d. Three values on a line
have no vertex, and the code is then any within the limits (log entry 196). -/
def State.vertex (s : State) (c d : Nat) (lo mid hi : Nat) : Nat × State :=
  let den : Int := (lo : Int) - 2 * mid + hi
  let bound (x : Int) : Nat := (clampInt 0 65535 (clampInt ((c : Int) - d) (c + d) x)).toNat
  if den = 0 then let (f, s) := s.takeFree; (bound ((c : Int) - d + (f.toNat % (2 * d + 1) : Nat)), s)
  else (bound (c + ratRne (d * ((lo : Int) - hi)) (2 * den)), s)

/-- The rounds of a row phase with steps `ds` for row heater `r` of lathe `n`; `rhos` are the row responses of each group of pilot strokes. Its last code
goes through the channel's queue (R491). -/
def State.phaseRow (s : State) (ds : List Nat) (rhos : List (List Nat)) (n r : Nat) : State :=
  let at_ (q : Nat) : Nat := (((rhos[q]?).getD [])[r]?).getD 0
  let (c, s) := ds.zipIdx.foldl (fun (acc : Nat × State) e => acc.2.vertex acc.1 e.1 (at_ (3 * e.2)) (at_ (3 * e.2 + 1)) (at_ (3 * e.2 + 2)))
    ((s.trim (loopIx n r)).final, s)
  s.pushCode (loopIx n r) c

/-- The row phase of calibration `k` on the rows that `sel` picks by lathe and physical row. -/
def State.rowPhase (s : State) (k : Nat) (ds : List Nat) (groups : List (List Pilot)) (sel : Nat → Nat → Bool) : State :=
  (s.calLathes k).foldl (fun (acc : State) n =>
    let rhos := groups.map (s.rowRho n)
    (List.range 528).foldl (fun (acc : State) r => if sel n r then acc.phaseRow ds rhos n r else acc) acc) s

end Sys2Proof.Machine
end

