-- ==== Sys2Proof/Machine/Calibration.lean ====
section
/-! DEFINITION. Calibration: requests, slots, the phases with their judgements, acceptance and the shorter kinds (13, R482–R500). -/
namespace Sys2Proof.Machine

/-! ## Requests (R482–R485) -/

/-- The wait of a request is over (R483): an IN_SERVICE lathe quiesces, an OUT_OF_SERVICE one counts its calibration as old (R485). A request that was
kept behind another calibration goes on once that is over. -/
def State.beginCal (s : State) (k : Nat) : State :=
  let ls := s.calLathes k
  let s := s.modCal k fun c => match c.st, c.held with
    | .waiting, _ => { c with begun := true }
    | _, some (a, n, _) => { c with held := some (a, n, true) }
    | _, none => c
  let s := ls.foldl (fun (acc : State) m =>
    match (acc.lathe m).svc with
    | .inService => acc.quiesce m 2 true
    | .quiescing => acc.modLathe m fun l => { l with quiesceCal := true }
    | .outOfService => acc.modLathe m fun l => { l with calFresh := false }
    | _ => acc) s
  if ls.all fun m => (s.lathe m).svc == .calibrating then s.joinSlots k else s.tryServices ls

/-- A request for a full calibration of lathe `n` at fabric time `at_` (R482, R483, R487): ignored while a lathe that it would calibrate is OFF, STARTING or
in FAULT_HOLD. -/
def State.requestCal (s : State) (n at_ : Nat) : State :=
  let k := s.calKey n
  let no (m : Nat) : Bool := let svc := (s.lathe m).svc; svc == .off || svc == .starting || svc == .faultHold
  if (s.calLathes n).any no || (s.cal k).st != .idle then s
  else
    let s := s.setCal k { st := .waiting, at_ := at_, lathe := n }
    if at_ = 0 then s.beginCal k else s

/-- CAL_GO (R482). -/
def execCalGo (n : Fin 8) (s : State) : Out := s.atBlock .cal n fun s => .next (s.requestCal n (s.rd64 (CAL_AT n)))

/-- DEV_CAL_GO (R482). -/
def execDevCalGo (mask : BitVec 8) (s : State) : Out := s.atBlock .dev 0 fun s =>
  .next ((List.range 8).foldl (fun (acc : State) n => if bit mask.toNat n then acc.requestCal n (acc.rd64 DEV_CAL_AT) else acc) s)

/-- The request of a lathe that still waits for its time, if any: the time. -/
def Cal.waits (c : Cal) : Option Nat :=
  match c.st, c.held with
  | .waiting, _ => if c.begun then none else some c.at_
  | _, some (a, _, false) => some a
  | _, _ => none

/-- CAL_CANCEL (R484): a request still waiting for its time is withdrawn. -/
def execCalCancel (n : Fin 8) (s : State) : Out := s.atBlock .cal n fun s =>
  let c := s.cal (s.calKey n)
  .next (if c.waits.isNone then s else if c.st == .waiting then s.setCal (s.calKey n) {} else s.setCal (s.calKey n) { c with held := none })

/-- CAL_AT_REACHED (R483, R378). -/
def execCalAtReached (n : Fin 8) (s : State) : Out :=
  .next (match (s.cal (s.calKey n)).waits with
  | some a => if a ≤ s.ft.toNat then s.beginCal (s.calKey n) else s
  | none => s)

/-! ## The slot (R486, R491) -/

/-- Work at the start of phase 1 (Table 13.2): frozen source loops run again, and failed working lasers not classed permanent are
driven through LOCKING. -/
def State.phaseOne (s : State) (n : Nat) : State :=
  let s := (sourceLoops n).foldl (fun (acc : State) i =>
    if (acc.loop i).st == .frozen then acc.enterRun i (acc.loop i).lastGood else acc) s
  (List.range 11).foldl (fun (acc : State) P =>
    if acc.rf (LTH_LASER n P) LTH_LASER_STATE = 4 && !acc.isPermanent 6 P n then acc.wf (LTH_LASER n P) LTH_LASER_STATE 2 else acc) s

/-- The first full calibration after a power-up starts from the flash copy's maps and codes, or from the codes kept through Dormant
(R496, R519). -/
def State.startingPoint (s : State) (n : Nat) : State :=
  let f := sget {} s.calFlash n
  if (s.rd (CAL_COUNT n)).toNat ≠ 0 then s
  else
    let s := if f.valid then
        f.regs.foldl (fun (acc : State) e => if e.1 < CAL_STATUS n then acc.wr e.1 e.2 else acc) s else s
    let mine := s.keptCodes.filter fun (e : Nat × Nat) => e.1 / nLoops == n
    let codes := if mine = [] then f.codes else mine
    let s := codes.foldl (fun (acc : State) e => acc.setCode e.1 e.2) s
    { s with keptCodes := s.keptCodes.filter fun (e : Nat × Nat) => e.1 / nLoops != n }

/-- The lathes of calibration `k` are where its kind runs: CALIBRATING for a FULL one, OUT_OF_SERVICE for the others (log entry 194). -/
def State.slotReady (s : State) (k : Nat) : Bool :=
  (s.calLathes k).all fun m => (s.lathe m).svc == .calibrating || ((s.cal k).kind ≠ 0 && (s.lathe m).svc == .outOfService)

/-- CAL_SLOT_GRANT (R486, R491): at most two run, only at level 0, in the order in which they asked; the pilot strokes power
every output ADC (R488); a forced clear in force rejects (R611, Table 13.4). -/
def execCalSlotGrant (n : Fin 8) (s : State) : Out :=
  let k := s.calKey n
  let c := s.cal k
  let ls := s.calLathes k
  let first := s.cals.all fun (e : Nat × Cal) => e.2.st != .slot || !s.slotReady e.1 || decide (c.order < e.2.order) || (decide (c.order = e.2.order) && decide (k ≤ e.1))
  .next (if c.st != .slot || !s.slotReady k || !first || 2 ≤ s.runningCals.length || s.level ≠ 0 then s
  else
    let s := s.setCal k { c with st := .running, phase := 1, dips := 0, saved := ls.map s.calWords, codes := ls.flatMap s.trimCodes }
    let s := if c.kind = 0 then ls.foldl (fun (acc : State) m => acc.startingPoint m) s else s
    let s := ls.foldl (fun (acc : State) m =>
      let acc := (acc.modLathe m fun l => { l.freeBanks with adcOn := if acc.deep m && m % 2 = 1 then [] else List.range 536 }).stopLoops m
      if c.kind = 0 then acc.phaseOne m else acc) s
    if s.trimForced then s.rejectCal k 6 else s)

/-! ## Estimates and criteria (Tables 13.1, 13.3; R492–R494) -/

/-- The estimate of physical column `p`; one not measured meets no criterion. -/
def CalFit.col (m : CalFit) (p : Nat) : ColFit := (m.cols[p]?).getD ⟨0, 0, 0⟩

/-- R493. -/
def agree (a b : ColFit) : Bool :=
  decide (1000 * ((a.g : Int) - b.g).natAbs ≤ a.g + b.g) && decide ((a.o - b.o).natAbs ≤ 128)

/-- The means of two measurements (R493), half to even. -/
def meanFit (a b : ColFit) : ColFit := ⟨(divRne (a.g + b.g) 1).toNat, divRne (a.o + b.o) 1, (divRne (a.s + b.s) 1).toNat⟩

/-- Table 13.3 for a column's figures: 0.8 ≤ G ≤ 1.25, |O| ≤ 16 LSB, s ≤ 0.45 LSB. -/
def colOk (f : ColFit) : Bool :=
  decide (4 * 2 ^ 22 ≤ 5 * f.g) && decide (4 * f.g ≤ 5 * 2 ^ 22) && decide (f.o.natAbs ≤ 4096) && decide (100 * f.s ≤ 45 * 256)

/-- The last two measurements of a column. -/
def Cal.two (c : Cal) (p : Nat) : ColFit × ColFit :=
  if c.newCols.contains p then (c.extra1.col p, c.extra2.col p) else (c.pass1.col p, c.pass2.col p)

/-- A column's class in the history, for either lathe of a pair (R80). -/
def State.colPermanent (s : State) (k p : Nat) : Bool := (s.calLathes k).any fun m => s.isPermanent 4 p m

/-- A column meets Table 13.3 on its last two measurements. -/
def State.colKept (s : State) (k : Nat) (c : Cal) (p : Nat) : Bool :=
  agree (c.two p).1 (c.two p).2 && colOk (meanFit (c.two p).1 (c.two p).2) && !s.colPermanent k p

/-- Row responses of row `r` of member `j` that count: those of its two further measurements where it is newly named, else that of the last pass, else what
`CAL_ROW` holds. -/
def State.rhos (s : State) (k : Nat) (c : Cal) (j r : Nat) : List Nat :=
  let at_ (m : CalFit) : Nat := (m.rho[528 * j + r]?).getD (s.rf (CAL_ROW (k + j) r) CAL_ROW_RHO)
  if c.newRows.contains (j, r) && c.extra2.rho ≠ [] then [at_ c.extra1, at_ c.extra2]
  else [at_ (if c.pass2.rho = [] then c.pass1 else c.pass2)]

/-- A trim code of loop `i` lies strictly inside the limits of its set. -/
def State.insideLimits (s : State) (i : Nat) : Bool :=
  let k := s.setIx i
  let c := (s.trim i).final
  decide (s.rf (STD_SET_LIMITS k) STD_SET_LIMITS_CODE_MIN < c) && decide (c < s.rf (STD_SET_LIMITS k) STD_SET_LIMITS_CODE_MAX)

/-- A plane row meets Table 13.3: ρ ≥ 0.85, its code strictly inside its limits, not permanent. -/
def State.rowKept (s : State) (k : Nat) (c : Cal) (j r : Nat) : Bool :=
  (s.rhos k c j r).all (fun x => decide (85 * 2 ^ 14 ≤ 100 * x)) && s.insideLimits (loopIx (k + j) r) && !s.isPermanent 3 r (k + j)

/-- What choosing spares does to a map (R492): the map, the replacements made, and failing elements left without a spare. -/
structure Choice where
  map : List Nat
  subs : List (Nat × Nat) := []
  left : List Nat := []
deriving DecidableEq, Repr

/-- Each failing element, in ascending physical order, takes the lowest-numbered free spare that meets its criterion. -/
def choose (map : List Nat) (lo hi : Nat) (kept : Nat → Bool) (fails : List Nat) : Choice :=
  ((List.range hi).filter fun p => fails.contains p).foldl (fun (acc : Choice) p =>
    match (List.range hi).find? fun q => decide (lo ≤ q) && !acc.map.contains q && !acc.subs.any (fun e => e.1 == q) && kept q with
    | some q => { acc with map := acc.map.map fun x => if x = p then q else x, subs := acc.subs ++ [(p, q)] }
    | none => { acc with left := acc.left ++ [p] }) { map := map }

/-- A replacement is recorded and reported (R494). -/
def State.spareChosen (s : State) (n kind old new : Nat) : State :=
  (s.replaced kind old n new).post 0xD02 cINFO (unitOf 1 n) 0xFFFF [(0x10, n), (0x11, kind), (0x12, old), (0x14, new)]

/-- The row map of member `j` after phase 2 (R492, R494): rows of `among` that fail are counted and replaced. -/
def State.chooseRows (s : State) (k j : Nat) (among : Nat → Bool) : State :=
  let n := k + j
  let c := s.cal k
  let map := (List.range 512).map (s.rowMap n)
  let fails := map.filter fun p => among p && !s.rowKept k c j p
  let ch := choose map 512 528 (s.rowKept k c j) fails
  let s := fails.foldl (fun (acc : State) p => acc.histEvent 3 p n) s
  let s := ch.subs.foldl (fun (acc : State) e => acc.spareChosen n 3 e.1 e.2) s
  s.setCal k { c with rowMaps := c.rowMaps ++ [ch.map], newRows := c.newRows ++ ch.subs.map fun e => (j, e.2),
                      reason := if ch.left = [] then c.reason else 2, failKind := if ch.left = [] then c.failKind else 3 }

/-- A column that fails counts one event, in a Deep-2 pair against the columns of both lathes that it sums (R80, R489, R494). -/
def State.colEvent (s : State) (k p : Nat) : State := (s.calLathes k).foldl (fun (acc : State) m => acc.histEvent 4 p m) s

/-- The column map after the column passes (R492–R494), of both lathes of a pair (R80). -/
def State.chooseCols (s : State) (k : Nat) : State :=
  let c := s.cal k
  let map := (List.range 520).map (s.colMap k)
  let fails := map.filter fun p => !s.colKept k c p
  let ch := choose map 520 536 (s.colKept k c) fails
  let s := fails.foldl (fun (acc : State) p => acc.colEvent k p) s
  let s := ch.subs.foldl (fun (acc : State) e => (s.calLathes k).foldl (fun (acc : State) m => acc.spareChosen m 4 e.1 e.2) acc) s
  let dis := (List.range 536).find? fun p => fails.contains p && !agree (c.two p).1 (c.two p).2
  s.setCal k { c with colMap := ch.map, newCols := ch.subs.map (·.2), disagree := dis.getD 0xFFFF,
                      reason := if ch.left = [] then c.reason else 2, failKind := if ch.left = [] then c.failKind else 4 }

/-- `CAL_ROW` of a lathe, and `CAL_COL` unless a pair is calibrated (R489), show the rows and columns judged. -/
def State.showFits (s : State) (k : Nat) (rows : Nat → Nat → Bool) (cols : Nat → Bool) : State :=
  let c := s.cal k
  let s := ((s.calLathes k).zipIdx).foldl (fun (acc : State) e =>
    (List.range 528).foldl (fun (acc : State) r =>
      if rows e.2 r then acc.wr (CAL_ROW e.1 r) (BitVec.ofNat 32 (satTo 65535 (((s.rhos k c e.2 r).getLast?).getD 0) + 65536 * b2n (!s.rowKept k c e.2 r)))
      else acc) acc) s
  if s.deep k then s
  else (List.range 536).foldl (fun (acc : State) p =>
    if cols p then acc.wr (CAL_COL k p) (BitVec.ofNat 32 (satTo 255 (meanFit (c.two p).1 (c.two p).2).s + 256 * b2n (!s.colKept k c p) +
      512 * b2n (!agree (c.two p).1 (c.two p).2)))
    else acc) s

/-! ## Phases (Tables 13.2, 13.5) -/

/-- Sense signal of loop `j` of a position (Table 12.1). -/
def senseSignal (j : Nat) : Nat :=
  if j < 2 then 0 else if j = 2 then 1 else if 6 ≤ j then 3 else (Config.senseOf j).val

/-- Calibration writes the sense fields of position `P`'s loops (R431, R451); a loop whose fields change holds its next sample. -/
def State.setSense (s : State) (n P : Nat) : State :=
  (List.range 8).foldl (fun (acc : State) j =>
    let i := loopIx n (1064 + 8 * P + j)
    let conv := 2 * n + (if P < 6 then 0 else 1)
    let inp := 4 * (P % 6) + senseSignal j
    if acc.rf (STD_LOOP_CFG i) STD_LOOP_CFG_SENSE_CONV = conv && acc.rf (STD_LOOP_CFG i) STD_LOOP_CFG_SENSE_IN = inp then acc
    else ((acc.wf (STD_LOOP_CFG i) STD_LOOP_CFG_SENSE_CONV conv).wf (STD_LOOP_CFG i) STD_LOOP_CFG_SENSE_IN inp).modLoop i Loop.newSense) s

/-- Phase 1 ends for position `P` of lathe `n`, member `j` (Tables 13.2, 13.3): its laser reached its set power within the gain-section code limit and its
setpoints are set, or it has failed and the standby takes the position; answers whether the position is served. -/
def State.endPosition (s : State) (m : CalMeas) (n j P : Nat) : Bool × State :=
  let i := s.laserAt n P
  let sp (q : Nat) : Word := BitVec.ofNat 32 (trunc 24 ((m.laserSet[3 * (11 * j + P) + q]?).getD 0))
  let settle (s : State) : State :=
    (((s.setSense n P).wr (STD_LOOP_SP (loopIx n (1064 + 8 * P + 2))) (sp 0)).wr (STD_LOOP_SP (loopIx n (1064 + 8 * P))) (sp 1)).wr
      (STD_LOOP_SP (loopIx n (1064 + 8 * P + 1))) (sp 2)
  let g := loopIx n (1064 + 8 * P + 2)
  let inside := decide (s.rf (STD_SET_LIMITS (s.setIx g)) STD_SET_LIMITS_CODE_MIN ≤ (s.trim g).final) &&
    decide ((s.trim g).final ≤ s.rf (STD_SET_LIMITS (s.setIx g)) STD_SET_LIMITS_CODE_MAX)
  if (m.laserOk[11 * j + P]?).getD false && inside && !s.isPermanent 6 i n then (true, settle (s.wf (LTH_LASER n i) LTH_LASER_STATE 3))
  else
    let s := (s.wf (LTH_LASER n i) LTH_LASER_STATE 4).histEvent 6 i n
    if s.standbyPos n = 15 && s.rf (LTH_LASER n 11) LTH_LASER_STATE != 4 then
      (true, (s.switchStandby n P).post 0xD02 cINFO (unitOf 1 n) 0xFFFF [(0x10, n), (0x11, 6), (0x12, P), (0x14, 11)])
    else (!s.positionUsed n P, s)

/-- The failed laser of the standby's position was driven again: it takes up its position if it locked, and the standby goes back
to its bias (Table 13.2); else it stays FAILED. -/
def State.retryLaser (s : State) (m : CalMeas) (n j : Nat) : State :=
  let P := s.standbyPos n
  if P = 15 || s.rf (LTH_LASER n P) LTH_LASER_STATE ≠ 2 then s
  else if (m.retryOk[j]?).getD false then
    let s := ((s.wf (LTH_LASER n P) LTH_LASER_STATE 3).wf (LTH_LASER n 11) LTH_LASER_STATE 1).wf (LTH_SPARE_USE n) LTH_SPARE_USE_STANDBY_POS 15
    let s := (List.range 8).foldl (fun (acc : State) q => acc.reinit (loopIx n (1064 + 8 * P + q))) s
    s.touchHist (histKey 6 P n) { s.histOf (histKey 6 P n) with replaced := false, subst := 0xFFFF }
  else s.wf (LTH_LASER n P) LTH_LASER_STATE 4

/-- Phase 1 ends for positions `ps` of member `j`. -/
def State.endSources (s : State) (m : CalMeas) (n j : Nat) (ps : List Nat) : Bool × State :=
  ps.foldl (fun (acc : Bool × State) P => let r := acc.2.endPosition m n j P; (acc.1 && r.1, r.2)) (true, s)

/-- Newly named elements measured again meet their criteria (R492, R493). -/
def State.judgeNew (s : State) (k : Nat) (g1 g2 : List Pilot) : State :=
  let s := s.modCal k fun c => { c with extra1 := s.fitPass k g1, extra2 := s.fitPass k g2 }
  let c := s.cal k
  let bad := c.newCols.filter fun p => !s.colKept k c p
  let rows := c.newRows.filter fun e => !s.rowKept k c e.1 e.2
  let s := bad.foldl (fun (acc : State) p => acc.colEvent k p) s
  let s := rows.foldl (fun (acc : State) e => acc.histEvent 3 e.2 (k + e.1)) s
  let s := s.showFits k (fun j r => c.newRows.contains (j, r)) fun p => c.newCols.contains p
  s.modCal k fun c => { c with
    reason := if c.reason = 0 && (bad != [] || rows != []) then 1 else c.reason,
    disagree := if c.disagree = 0xFFFF then (bad.find? fun p => !agree (c.two p).1 (c.two p).2).getD 0xFFFF else c.disagree }

/-- Rows of lathe `n` that lie in the position a LANES calibration is for. -/
def Cal.inPos (c : Cal) (n r : Nat) : Bool := n == c.lathe && decide (48 * c.position ≤ r) && decide (r < 48 * c.position + 48)

/-- The gain and offset in force for physical column `p`. -/
def State.installed (s : State) (k p : Nat) : ColFit :=
  if s.deep k then ⟨s.rf (CAL_DGAIN k p) CAL_DGAIN_G, sext 16 (s.rf (CAL_DOFS k p) CAL_DOFS_O), 0⟩
  else ⟨s.rf (CAL_GAIN k p) CAL_GAIN_G, sext 16 (s.rf (CAL_OFS k p) CAL_OFS_O), 0⟩

/-- The end of phase `c.phase` of calibration `k` with what it delivered, `m`. -/
def State.endPhase (s : State) (k : Nat) (m : CalMeas) : State :=
  let c := s.cal k
  let ls := s.calLathes k
  let grp (i : Nat) : List Pilot := (m.groups[i]?).getD []
  let nextPhase (s : State) : State := s.modCal k fun c => { c with phase := c.phase + 1 }
  match c.kind, c.phase with
  | 0, 1 =>
    let r := (ls.zipIdx).foldl (fun (acc : Bool × State) e => let r := (acc.2.retryLaser m e.1 e.2).endSources m e.1 e.2 (List.range 11); (acc.1 && r.1, r.2)) (true, s)
    if !r.1 then r.2.rejectCal k 5
    else if ls.any fun n => r.2.rf (LTH_LASER n 11) LTH_LASER_STATE == 2 then r.2.modCal k fun c => { c with phase := 0 }
    else nextPhase r.2
  | 0, 2 => nextPhase ((s.setCal k { c with plantRow := m.plantRow }).rowPhase k [256, 128, 64, 32] m.groups fun _ _ => true)
  | 0, 3 => nextPhase (s.setCal k { c with pass1 := s.fitPass k (grp 0) })
  | 0, 4 =>
    let s := s.setCal k { c with pass2 := s.fitPass k (grp 0), plantCol := m.plantCol }
    let s := (ls.zipIdx).foldl (fun (acc : State) e => acc.chooseRows k e.2 fun _ => true) s
    nextPhase ((s.showFits k (fun _ _ => true) fun _ => true).chooseCols k)
  | 0, 5 => nextPhase (s.judgeNew k (grp 0) (grp 1))
  | 1, 1 =>
    let j := c.lathe - k
    let r := s.endSources m c.lathe j [c.position]
    if r.1 then nextPhase r.2 else r.2.rejectCal k 5
  | 1, 2 => nextPhase ((s.setCal k { c with plantRow := m.plantRow }).rowPhase k [128, 64] m.groups c.inPos)
  | 1, 3 =>
    let fit := s.fitPass k (grp 0)
    let c := { c with pass1 := fit, pass2 := fit, colMap := (List.range 520).map (s.colMap k) }
    let bad := (List.range 536).find? fun p => c.colMap.contains p && !agree (fit.col p) (s.installed k p)
    let s := s.setCal k { c with reason := if bad.isSome then 1 else 0, disagree := bad.getD 0xFFFF }
    let s := (ls.zipIdx).foldl (fun (acc : State) e => acc.chooseRows k e.2 (c.inPos e.1)) s
    nextPhase (s.showFits k (fun j => c.inPos (k + j)) fun _ => true)
  | 3, 1 =>
    let p := s.colMap k c.column
    let c := { c with extra1 := s.fitPass k (grp 0), extra2 := s.fitPass k (grp 1), plantCol := m.plantCol, newCols := [p], colMap := (List.range 520).map (s.colMap k) }
    let ok := s.colKept k c p
    let s := if ok then s else s.colEvent k p
    let s := s.setCal k { c with reason := if ok then 0 else 1, disagree := if agree (c.two p).1 (c.two p).2 then 0xFFFF else p }
    nextPhase (s.showFits k (fun _ _ => false) fun q => q == p)
  | _, _ => s

/-- CAL_PHASE_END (Tables 13.2, 13.5): the phase in progress of a calibration that holds a slot ends. -/
def execCalPhaseEnd (n : Fin 8) (m : CalMeas) (s : State) : Out :=
  let k := s.calKey n
  .next (if (s.cal k).st == .running then s.endPhase k m else s)

/-! ## The end (R495, R496) -/

/-- The natural number nearest to the square root of `x` (log entry 20). -/
def sqrtNear (x : Nat) : Nat := let r := Nat.sqrt x; if x ≤ r * r + r then r else r + 1

/-- `FLT_SIGMA` of column group `g` from the noises `s` of its columns in 1/256 LSB (13, after Table 13.1): σ_D = 16 √Σs², and σ_R the
root of (1024 s_k)² + σ_D². -/
def sigmaWord (data : List Nat) (check : Nat) : Word :=
  let sum := data.foldl (fun (a : Nat) x => a + x * x) 0
  BitVec.ofNat 32 (satTo 65535 (sqrtNear (16 * check * check + sum / 256)) + 65536 * satTo 65535 (sqrtNear (sum / 256)))

/-- Class of a loop's plant gain `g` (R496): min(max(round(log₂(g / K_REF)) + 4, 0), 7); class 4 for K_REF 0. -/
def gainClass (g kref : Nat) : Nat :=
  if kref = 0 then 4 else ((List.range 7).filter fun j => decide (kref * kref * 2 ^ (2 * (j + 1) - 1) ≤ g * g * 2 ^ 8)).length

/-- The settings of a row or column loop (R496): setpoint 0, the set of its class where its plant gain was measured, MODE 1. -/
def State.setLoopClass (s : State) (n l : Nat) (plant : Option Nat) : State :=
  let i := loopIx n l
  let (base, kref) := if l < 528 then (s.rf (CAL_SETSEL n) CAL_SETSEL_ROW_BASE, s.rf (CAL_KREF_ROW n) CAL_KREF_ROW_K)
    else (s.rf (CAL_SETSEL n) CAL_SETSEL_COL_BASE, s.rf (CAL_KREF_COL n) CAL_KREF_COL_K)
  let s := s.wr (STD_LOOP_SP i) 0
  let s := match plant with | some g => s.wf (STD_LOOP_CFG i) STD_LOOP_CFG_SET (base + gainClass g kref) | none => s
  s.wf (STD_LOOP_CFG i) STD_LOOP_CFG_MODE 1

/-- Gains and offsets of column `p` take the means of its last two measurements (R493, R489). -/
def State.installCol (s : State) (k : Nat) (c : Cal) (p : Nat) : State :=
  let f := meanFit (c.two p).1 (c.two p).2
  let g : Word := BitVec.ofNat 32 (satTo (2 ^ 24 - 1) f.g)
  let o : Word := BitVec.ofNat 32 (trunc 16 f.o)
  if s.deep k then (s.wr (CAL_DGAIN k p) g).wr (CAL_DOFS k p) o else (s.wr (CAL_GAIN k p) g).wr (CAL_OFS k p) o

/-- The maps a calibration chose are installed. -/
def State.installMaps (s : State) (k : Nat) (c : Cal) : State :=
  ((s.calLathes k).zip (c.rowMaps ++ [[], []])).foldl (fun (acc : State) e =>
    let acc := (e.2.zipIdx).foldl (fun (acc : State) x => acc.wf (LTH_ROWMAP e.1 x.2) LTH_ROWMAP_PHYS x.1) acc
    ((c.colMap.zipIdx).foldl (fun (acc : State) x => acc.wf (LTH_COLMAP e.1 x.2) LTH_COLMAP_PHYS x.1) acc).powerAdcs e.1) s

/-- The noise of physical column `p` that calibration `c` of `k` measured, else that of the last one accepted. -/
def State.noiseOf (s : State) (k : Nat) (c : Cal) (p : Nat) : Nat :=
  if c.kind ≤ 1 || c.newCols.contains p then (meanFit (c.two p).1 (c.two p).2).s else sget 0 (s.lathe k).noise p

/-- Plant gain of loop `l` of member `j`, lathe `n`, where calibration `c` measured it: every loop of a FULL one, the rows of its position of a LANES one,
its column of a COLUMN one. -/
def Cal.plant (c : Cal) (n j l : Nat) : Option Nat :=
  if l < 528 then (if c.kind = 0 || (c.kind = 1 && c.inPos n l) then some ((c.plantRow[528 * j + l]?).getD 0) else none)
  else if c.kind = 0 || (c.kind = 3 && c.newCols.contains (l - 528)) then some ((c.plantCol[l - 528]?).getD 0) else none

/-- Everything a calibration installs (R496): its maps, the gains and offsets it is to give (every column's of a FULL one, its column's of a COLUMN one; a LANES
one only compares), `FLT_SIGMA`, and the settings of every row and column loop. -/
def State.installCal (s : State) (k : Nat) (c : Cal) : State :=
  let ls := s.calLathes k
  let s := s.installMaps k c
  let noise := s.noiseOf k c
  let s := (List.range 8).foldl (fun (acc : State) g =>
    acc.wr (FLT_SIGMA (8 * k + g)) (sigmaWord ((List.range 64).map fun j => noise (s.colMap k (64 * g + j))) (noise (s.colMap k (512 + g))))) s
  let s := s.modLathe k fun l => { l with noise := (List.range 536).foldl (fun acc p => sput 0 (noise p) acc p) l.noise }
  let s := match c.kind with
    | 0 => (List.range 536).foldl (fun (acc : State) p => acc.installCol k c p) s
    | 3 => s.installCol k c (s.colMap k c.column)
    | _ => s
  (ls.zipIdx).foldl (fun (acc : State) e => (List.range 1064).foldl (fun (acc : State) l => acc.setLoopClass e.1 l (c.plant e.1 e.2 l)) acc) s

/-- Settings in force at the slot grant come back for the loops that a LOCALISE calibration stopped, and they start again. -/
def State.resumeLoops (s : State) (k : Nat) (c : Cal) : State :=
  let s := ((s.calLathes k).zip c.saved).foldl (fun (acc : State) e =>
      e.2.foldl (fun (acc : State) w => if STD_LOOP_CFG 0 ≤ w.1 && (w.1 - STD_LOOP_CFG 0) / 16 % nLoops < 1064 then acc.wr w.1 w.2 else acc) acc) s
  (s.calLathes k).foldl (fun (acc : State) m => acc.startLoops m) s

/-- Spare rows and columns that the maps name. -/
def State.sparesUsed (s : State) (n : Nat) : Nat × Nat :=
  (((List.range 16).filter fun j => (List.range 512).any fun k => s.rowMap n k == 512 + j).length,
   ((List.range 16).filter fun j => (List.range 520).any fun c => s.colMap n c == 520 + j).length)

/-- Acceptance (R496, R498): results installed, loops restarted, the flash copy written, CAL_DONE, and service under Table 2.6. Only a full
calibration clears a cause 4 of R75, and a COLUMN one none (R626); a LANES one leaves it standing while another used position has no working
laser. -/
def State.acceptCal (s : State) (k : Nat) : State :=
  let c := s.cal k
  let ls := s.calLathes k
  let s := (ls.foldl (fun (acc : State) m => acc.startLoops m) (s.installCal k c)).calDone k
  let s := ls.foldl (fun (acc : State) m =>
    let acc := acc.wr (CAL_COUNT m) (BitVec.ofNat 32 (satTo (2 ^ 32 - 1) ((acc.rd (CAL_COUNT m)).toNat + 1)))
    let acc := ((acc.wr64 (CAL_LAST_FT m) acc.ft.toNat).setCalResult m 1 c.kind 0).bump (CAL_STAT_ACCEPTED m) 1
    let acc := { acc with calFlash := sput {} { valid := true, regs := acc.calWords m, codes := acc.trimCodes m } acc.calFlash m }
    let acc := acc.modLathe m fun l => { l with calFresh := l.calFresh || c.kind == 0, needCal := false, needFull := l.needFull && c.kind != 0 }
    acc.post 0xD00 cINFO (unitOf 1 m) 0xFFFF
      [(0x10, m), (0x11, c.kind), (0x12, (acc.rd (CAL_COUNT m)).toNat), (0x16, (acc.sparesUsed m).1), (0x17, (acc.sparesUsed m).2)]) s
  let s := ls.foldl (fun (acc : State) m =>
    let dark := (List.range 11).any fun P => acc.positionUsed m P && acc.rf (LTH_LASER m (acc.laserAt m P)) LTH_LASER_STATE == 4
    if c.kind ≠ 0 && (acc.lathe m).needFull || c.kind = 1 && dark then (acc.calOut m 4).modLathe m fun l => { l with needFull := true }
    else if c.kind = 3 && (acc.lathe m).oosCause = 4 then (acc.calOut m 4).wantLanes m
    else if c.kind ≠ 0 && !acc.calFree m then acc.modLathe m Lathe.freeBanks
    else acc.leaveCal m) s
  ls.foldl (fun (acc : State) m => acc.thawed m) s

/-- The maps that stand once calibration `k` is accepted are valid (R41; R79, since both lathes of a pair take the one column map): those it proposes, else
those in force. -/
def State.mapsOk (s : State) (k : Nat) (c : Cal) : Bool :=
  ((s.calLathes k).zipIdx.all fun e => badEntry ((c.rowMaps[e.2]?).getD ((List.range 512).map (s.rowMap e.1))) 528 == none) && badEntry c.colMap 536 == none

/-- CALIBRATION_END (R495–R497): the last phase of a FULL, LANES or COLUMN calibration ends. -/
def execCalibrationEnd (n : Fin 8) (s : State) : Out :=
  let k := s.calKey n
  let c := s.cal k
  let last := if c.kind = 0 then 6 else if c.kind = 1 then 4 else 2
  .next (if c.st != .running || c.kind = 2 || c.phase ≠ last then s
  else if c.reason ≠ 0 then s.rejectCal k c.reason
  else if !s.mapsOk k c then s.rejectCal k 0
  else s.acceptCal k)

/-! ## Localisation (R500, R403) -/

/-- Physical columns of the group that LOCALISE is for, in ascending order. -/
def State.localised (s : State) (k : Nat) (c : Cal) : List Nat :=
  let mine := (List.range 64).map (fun j => s.colMap k (64 * c.column + j)) ++ [s.colMap k (512 + c.column)]
  (List.range 536).filter fun p => mine.contains p

/-- The column that LOCALISE names, and why: 1 a criterion failed, 2 gain departure, 0 none. -/
def State.localise (s : State) (k : Nat) (c : Cal) : Option Nat × Nat :=
  let ps := s.localised k c
  let inst (p : Nat) : Nat := if s.deep k then s.rf (CAL_DGAIN k p) CAL_DGAIN_G else s.rf (CAL_GAIN k p) CAL_GAIN_G
  let dep (p : Nat) : Nat := (((meanFit (c.two p).1 (c.two p).2).g : Int) - inst p).natAbs
  match ps.find? fun p => !s.colKept k c p with
  | some p => (some p, 1)
  | none =>
    let far := ps.foldl (fun (best : Option Nat) p => match best with
      | none => some p
      | some q => if dep q * inst p < dep p * inst q then some p else some q) none
    match far with
    | some p => if inst p < 100 * dep p then (some p, 2) else (none, 0)
    | none => (none, 0)

/-- LOCALISE_END (R500, R403): the result is posted; a named column is classed permanent (Table 10.5) and replaced by the lowest
spare pair left, which a COLUMN calibration then takes up; with none named or none left, SPARES_EXHAUSTED. -/
def execLocaliseEnd (n : Fin 8) (m : CalMeas) (s : State) : Out :=
  let k := s.calKey n
  let c := s.cal k
  .next (if c.st != .running || c.kind ≠ 2 then s
  else
    let c := { c with extra1 := s.fitPass k ((m.groups[0]?).getD []), extra2 := s.fitPass k ((m.groups[1]?).getD []), newCols := List.range 536 }
    let (named, why) := s.localise k c
    let s := (s.setCal k c).showFits k (fun _ _ => false) fun p => (s.localised k c).contains p
    let s := (s.resumeLoops k c).calDone k
    let s := (s.calLathes k).foldl (fun (acc : State) m => (acc.modLathe m Lathe.freeBanks).setCalResult m 1 2 0) s
    let s := s.post 0xD03 cWARN (unitOf 1 k) 0xFFFF [(0x10, k), (0x11, c.column), (0x12, named.getD 0xFFFF), (0x14, why)]
    let exhausted (s : State) : State :=
      (s.calLathes k).foldl (fun (acc : State) m => acc.wantLanes m) (s.post 0xA02 cFAULT (unitOf 1 k) c.ctx [(0x10, k), (0x11, 4)])
    match named with
    | none => exhausted s
    | some p =>
      let s := s.histPermanent 4 p k 2
      let used := (List.range 520).map (s.colMap k)
      match (List.range 536).find? fun q => decide (520 ≤ q) && !used.contains q && s.colKept k c q,
            (List.range 520).find? fun i => s.colMap k i == p with
      | some q, some i =>
        let s := (s.calLathes k).foldl (fun (acc : State) m => (((acc.wf (LTH_COLMAP m i) LTH_COLMAP_PHYS q).replaced 4 p m q).renameLoops m).powerAdcs m) s
        (s.post 0xA01 cINFO (unitOf 4 p) c.ctx [(0x10, k), (0x11, if i < 512 then 2 else 1), (0x12, q)]).askCal k 3 0 i c.ctx
      | _, _ => exhausted s)

/-- STANDBY_LOCKED (R74): the standby is LOCKED in its position; a running calibration goes back to phase 1 (Table 13.4), and a
lathe that is out of service for a laser failure asks for its LANES calibration. -/
def execStandbyLocked (n : Fin 8) (s : State) : Out :=
  let P := s.standbyPos n
  .next (if P = 15 || s.rf (LTH_LASER n 11) LTH_LASER_STATE ≠ 2 then s
  else
    let s := s.wf (LTH_LASER n 11) LTH_LASER_STATE 3
    let s := (List.range 8).foldl (fun (acc : State) j => acc.reinit (loopIx n (1064 + 8 * P + j))) s
    let s := s.post 0x101 cINFO (unitOf 6 11) 0xFFFF [(0x10, n), (0x11, P)]
    let k := s.calKey n
    if (s.cal k).st == .running && (s.cal k).phase = 0 then
      let s := s.modCal k fun c => { c with phase := 1, rowMaps := [], newRows := [], newCols := [], reason := 0 }
      if (s.cal k).kind = 0 then (s.calLathes k).foldl (fun (acc : State) m => acc.phaseOne m) s else s.wantLanes n
    else s.wantLanes n)

end Sys2Proof.Machine
end

