-- ==== Sys2Proof/Machine/Finisher.lean ====
section
/-! DEFINITION. What drains and updates share: scale records and their checks (R106–R112), the narrowing of blocks (R95–R102), the
epilogue and row reductions (R169–R179), and where results go (R168, R202). -/
namespace Sys2Proof.Machine

/-! ## Scale records (Table 3.4) -/

/-- The fields of a scale record that govern a narrowing. -/
structure NarrowRec where
  addr : Nat
  fmt : Nat
  e : Int
  z : Nat
  refine : Nat
  stoch : Bool
  chain : Nat
  outMap : Nat
  outComp : Nat
deriving DecidableEq, Repr

/-- The record at `a`. DESIGN CHOICE (log entry 37): the spec gives E the range −32 to +31 and does not say what a byte outside it means; here its low 6
bits count. -/
def State.scaleRec (s : State) (a : Nat) : NarrowRec :=
  let c := s.num (a + 0x23) 1
  { addr := a, fmt := s.num (a + 0x20) 1, e := sext 6 (s.num (a + 0x21) 1), z := s.num (a + 0x22) 1, refine := c % 8, stoch := bit c 3,
    chain := c / 16 % 4, outMap := s.num (a + 0x28) 5, outComp := s.num (a + 0x30) 5 }

/-- Why a record is refused for a narrowing to `target` (R108), as the reason of SCALE_RECORD_INVALID; 0 when it is not. DESIGN CHOICE (log entry 200): of
several reasons the lowest number. -/
def NarrowRec.fault (r : NarrowRec) (target : Nat) : Nat :=
  if r.fmt < 1 || 5 < r.fmt then 1
  else if r.fmt = 2 && r.chain ≠ 0 then 2
  else if r.fmt = 3 && r.chain ≠ 1 then 3
  else if r.z ≠ 0 && r.fmt ≠ 2 then 4
  else if r.outMap ≠ 0 && (r.fmt = 4 || r.fmt = 5) then 5
  else if r.outMap ≠ 0 && r.outComp = 0 then 6
  else if r.fmt ≠ target then 7
  else 0

/-! ## Narrowing a block (R95–R102, R105) -/

/-- An element to be narrowed: its value, whether its column is an outlier channel, its generator, whether the record counts it. -/
structure Elem where
  x : F32
  out : Bool := false
  gi : Nat := 0
  counted : Bool := true
deriving DecidableEq, Repr

/-- Counts and maxima of narrowed data, for the block (`bsat`) and for the record. -/
structure Stat where
  elements : Nat := 0
  sat : Nat := 0
  nan : Nat := 0
  bsat : Nat := 0
  bnan : Nat := 0
  maxabs : Word := 0
  outMaxabs : Word := 0
  /-- Magnitudes flushed to zero (R103). -/
  flush : Nat := 0
deriving DecidableEq, Repr

/-- |x| in units of 2^E, binary32, and whether it was flushed; a NaN has none. -/
def magUnits (x : F32) (e : Int) : Word × Bool :=
  match x.dec with
  | .nan => (0, false)
  | .inf _ => (finf, false)
  | .fin _ m ex => fOfInt m (ex - e)

/-- A block's statistics `b`, begun from the counts of `a` with its own maxima, joined with what stood before. -/
def Stat.after (a b : Stat) : Stat :=
  { b with bsat := 0, bnan := 0, maxabs := fmaxMag a.maxabs b.maxabs, outMaxabs := fmaxMag a.outMaxabs b.outMaxabs }

/-- The statistics a block begins with. -/
def Stat.fresh (a : Stat) : Stat := { a with bsat := 0, bnan := 0, maxabs := 0, outMaxabs := 0 }

/-- One element counted. -/
def Stat.note (st : Stat) (r : NarrowRec) (b : Int) (e : Elem) : Stat :=
  let sat := !e.out && saturates r.fmt e.x b r.z
  let nan := isNan e.x
  let (m, fl) := magUnits e.x r.e
  { elements := st.elements + b2n e.counted, sat := st.sat + b2n (sat && e.counted), nan := st.nan + b2n (nan && e.counted),
    bsat := st.bsat + b2n sat, bnan := st.bnan + b2n nan,
    maxabs := if e.out then st.maxabs else fmaxMag st.maxabs m,
    outMaxabs := if e.out then fmaxMag st.outMaxabs m else st.outMaxabs,
    flush := st.flush + b2n fl }

/-- Narrow one block: its shift byte, its codes, the generators after, and what it counts. -/
def narrowBlock (r : NarrowRec) (seed : Word) (gen : Sparse Word) (st : Stat) (xs : List Elem) : Int × List Int × Sparse Word × Stat :=
  let b := blockShift r.fmt r.e r.refine r.z ((xs.filter fun e => !e.out).map (·.x))
  let (codes, gen, st) := xs.foldl (fun (acc : List Int × Sparse Word × Stat) e =>
    let (d, gen) := if r.stoch then let (d, g) := drawGen seed acc.2.1 e.gi; (some d, g) else (none, acc.2.1)
    (narrow r.fmt e.x b r.z d :: acc.1, gen, acc.2.2.note r b e)) ([], gen, st)
  (b, codes.reverse, gen, st)

/-- Lists of `k` elements. -/
def chunks {α : Type} (k : Nat) (l : List α) : List (List α) := (List.range ((l.length + k - 1) / k)).map fun i => (l.drop (i * k)).take k

/-- Narrow a row of 512: in blocks of 32, or for W7 as one (R88, R102): 16 shifts, 512 codes. -/
def narrowRow (r : NarrowRec) (seed : Word) (gen : Sparse Word) (st : Stat) (xs : List Elem) : List Int × List Int × Sparse Word × Stat :=
  if r.fmt = 5 then
    let (b, c, gen, st) := narrowBlock r seed gen st xs
    (List.replicate 16 b, c, gen, st)
  else
    (chunks 32 xs).foldl (fun (acc : List Int × List Int × Sparse Word × Stat) x =>
      let (b, c, gen, st) := narrowBlock r seed acc.2.2.1 acc.2.2.2 x
      (acc.1 ++ [b], acc.2.1 ++ c, gen, st)) ([], [], gen, st)

/-- The bytes of a tensor block (R92, R93). -/
def blockBytes (r : NarrowRec) (poison pending : Bool) (st : Stat) (map : List Nat) (comp : Nat) (rows : List (List Int × List Int)) : List Byte :=
  let flags := b2n poison + 2 * b2n (decide (st.bsat > 0)) + 4 * b2n pending + 8 * b2n (decide (st.bnan > 0))
  let header := leBytes (r.fmt + flags * 256 + r.z * 65536 + trunc 8 r.e * 2 ^ 24) 4 ++ leBytes st.bsat 2 ++ leBytes map.length 1 ++ leBytes 0 1 ++
    leBytes st.maxabs.toNat 4 ++ leBytes st.outMaxabs.toNat 4 ++
    ((List.range 8).flatMap fun i => leBytes ((map[i]?).getD 0xFFFF) 2) ++ leBytes (if map = [] then 0 else comp) 8 ++ leBytes r.addr 8 ++ leBytes 0 16
  header ++ (rows.flatMap fun x => x.1.map fun b => BitVec.ofNat 8 (trunc 6 b)) ++
    (rows.flatMap fun x => x.2.flatMap fun c => leBytes (trunc (if r.fmt = 4 then 16 else 8) c) (if r.fmt = 4 then 2 else 1))

/-- The outlier map of a range of 512 columns (R101), its unused entries left out. -/
def State.mapOf (s : State) (r : NarrowRec) (range : Nat) : List Nat :=
  if r.outMap = 0 then [] else ((List.range 8).map fun i => s.num (r.outMap + 16 * range + 2 * i) 2).filter (· < 512)

/-! ## Where results go (R168, R202, R225) -/

/-- Write whole lines of a result at a global destination for a stage of lathe `n`: at once on this device, by fabric WRITEs on
another. -/
def State.writeDst (s : State) (n : Nat) (who : Nat × Nat × Nat) (ctx : BitVec 8) (dst : Nat) (data : List Byte) (poison : Bool) : State :=
  if s.isLocal dst then
    (s.writeFor (weightReq n) (some ctx) (dst % 2 ^ 40) data poison (some who)).countInf (dst % 2 ^ 40) data.length true
  else
    (runs (dst % 2 ^ 40) data.length).foldl (fun (acc : State) e =>
      acc.issue { lines := e.2, unit := weightReq n, ctx := some ctx, who := some who }
        { typ := .write, rset := acc.routeSet n 2, dst := BitVec.ofNat 16 (dst / 2 ^ 40), addr := BitVec.ofNat 40 e.1, lines := e.2,
          poison := if poison then BitVec.ofNat 8 (2 ^ e.2 - 1) else 0, payload := (data.drop (e.1 - dst % 2 ^ 40)).take (64 * e.2) }) s

/-! ## Reductions (R173–R179) -/

/-- (M, I) after the row's largest (`big`) or smallest value and its index (R176, R177, R331). -/
def pairStep (big : Bool) (m i : Word) (v : F32) (idx : Nat) : Word × Word :=
  if isNan v then (m, i)
  else
    let c := FVal.cmp v.dec (F32.dec m)
    let c := if big then c else -c
    if c > 0 || (c = 0 && idx < i.toNat) then (v, BitVec.ofNat 32 idx) else (m, i)

/-- Sum of a row in the fixed tree of R178, with the flushes made. -/
def treeSum : Nat → List F32 → F32 × Nat
  | 0, l => ((l.head?).getD 0, 0)
  | d + 1, l =>
    let step := (List.range (l.length / 2)).map fun i => fadd ((l[2 * i]?).getD 0) ((l[2 * i + 1]?).getD 0)
    let (v, k) := treeSum d (step.map (·.1))
    (v, k + (step.filter (·.2)).length)

/-- A drain's settings for one member (Tables 4.6, 5.2). -/
structure DrainOp where
  group : Nat
  init : Bool
  early : Bool
  scaleEn : Bool
  biasEn : Bool
  mergeEn : Bool
  form : Nat
  act : Nat
  red : Nat
  dst : Nat
  recAddr : Nat
  vec : Nat
  s0 : Word
  stateBase : Nat
  colBase : Nat
  aux : Nat
  mstride : Nat
deriving DecidableEq, Repr

def Stage.drainOp : Stage → Option DrainOp
  | .drain g i e sc bi me f a r d rc v s0 sb cb ax ms => some ⟨g, i, e, sc, bi, me, f, a, r, d, rc, v, BitVec.ofNat 32 s0, sb, cb, ax, ms⟩
  | _ => none

/-- The row-state entry of group row `i` (R173). -/
def rowKey (n stateBase i : Nat) : Nat := n * 8192 + (stateBase + i) % 8192

/-- INIT of one entry (R174, R171). -/
def initRow (o : DrainOp) : RowState :=
  { m := if o.red % 4 = 3 && o.act ≠ 5 then finf else fneginf, i := 0xFFFFFFFF, s := 0, f := fone, oValid := false }

/-- Steps 1 to 6 of Table 4.6 on one row: the words read, the span entry, the running output, the auxiliary row; the row's results,
its entry after, and the flushes made. DESIGN CHOICE (log entry 204): for EXP_SUB, v - M is rounded to binary32 before the exponential, whose 4 ulp are
taken around the power of that rounded difference. -/
def epilogueRow (o : DrainOp) (expo : Int) (words : List Int) (span : Option (List Word)) (sv bv : List Word) (ro aux : List Word)
    (rs : RowState) (base : Nat) : List F32 × RowState × Nat :=
  let at_ (l : List Word) (j : Nat) : Word := (l[j]?).getD 0
  let one (j : Nat) : F32 × Nat :=
    let (v, k) := fOfInt ((words[j]?).getD 0) expo
    let (v, k) := match span with | some a => let r := fadd (at_ a j) v; (r.1, b2n k + b2n r.2) | none => (v, b2n k)
    let (v, k) := if o.scaleEn then
        let a := fmul v (at_ sv j); let c := fmul a.1 o.s0; (c.1, k + b2n a.2 + b2n c.2) else (v, k)
    let (v, k) := if o.biasEn then let r := fadd v (at_ bv j); (r.1, k + b2n r.2) else (v, k)
    if o.mergeEn then
      let a := fmul rs.f (at_ ro j); let r := fadd a.1 v; (r.1, k + b2n a.2 + b2n r.2) else (v, k)
  let vs := (List.range 512).map one
  let fl := vs.foldl (fun acc e => acc + e.2) 0
  let row := vs.map (·.1)
  let rs := if o.mergeEn then { rs with oValid := true } else rs
  let scan (big : Bool) (l : List F32) : Word × Word := l.zipIdx.foldl (fun (acc : Word × Word) e => pairStep big acc.1 acc.2 e.1 ((base + e.2) % 2 ^ 32)) (rs.m, rs.i)
  if o.act = 5 then
    let (m, i) := scan true row
    let (f, kf) := if FVal.cmp (F32.dec m) (F32.dec rs.m) = 0 then (fone, 0) else
        let d := fsub rs.m m; let e := fexp d.1; (e.1, b2n d.2 + b2n e.2)
    let ps := row.map fun v => let d := fsub v m; let e := fexp d.1; (e.1, b2n d.2 + b2n e.2)
    let (t, kt) := treeSum 9 (ps.map (·.1))
    let a := fmul rs.s f
    let r := fadd a.1 t
    (ps.map (·.1), { rs with m := m, i := i, s := r.1, f := f }, fl + kf + ps.foldl (fun acc e => acc + e.2) 0 + kt + b2n a.2 + b2n r.2)
  else
    let outs := row.zipIdx.map fun e => activate o.act e.1 (at_ aux e.2)
    let fl := fl + (outs.filter (·.2)).length
    let out := outs.map (·.1)
    match o.red % 4 with
    | 1 =>
      let (t, kt) := treeSum 9 out
      let r := fadd rs.s t
      (out, { rs with s := r.1 }, fl + kt + b2n r.2)
    | 2 => let (m, i) := scan true out; (out, { rs with m := m, i := i }, fl)
    | 3 => let (m, i) := scan false out; (out, { rs with m := m, i := i }, fl)
    | _ => (out, rs, fl)

end Sys2Proof.Machine
end

