-- ==== Sys2Proof/Machine/Drains.lean ====
section
/-! DEFINITION. Drains and updates: DRAIN (R108, R149, R180–R183, R630), DRAIN_START (R164–R179, R154, R155), DRAIN_END (R109, R166),
and the scale records they update (R109–R112). -/
namespace Sys2Proof.Machine

/-! ## Optimiser updates (R180–R183, R203) -/

/-- The addresses of an update record (R203). -/
structure UpdRec where
  g : Nat
  w : Nat
  m : Nat
  v : Nat
  o : Nat
  rm : Nat
  rv : Nat
  rw : Nat
deriving DecidableEq, Repr

def State.updRec (s : State) (a : Nat) : UpdRec :=
  let f (i : Nat) : Nat := s.num (a + 8 * i) 5
  ⟨f 0, f 1, f 2, f 3, f 4, f 5, f 6, f 7⟩

/-- An M16 element of the tensor at `a` by number: its value, and whether its word was 0x8000 (R89). -/
def State.elem16 (s : State) (a e : Nat) : F32 × Bool :=
  let b := a + e / 16384 * blk16
  let x := s.num (b + 576 + e % 16384 * 2) 2
  let c : Int := if x = 0x8000 then -32767 else sext 16 x
  ((fOfInt c (sext 6 (s.num (b + 64 + e % 16384 / 512 * 16 + e % 512 / 32) 1))).1, x == 0x8000)

/-- One element of R180: new w, m, v, the flushes, and whether it is skipped (R182). -/
def updElem (word : Nat → Word) (g w m v : F32) : F32 × F32 × F32 × Nat × Bool :=
  let mul (a b : F32) (k : Nat) : F32 × Nat := let r := fmul a b; (r.1, k + b2n r.2)
  let add (a b : F32) (k : Nat) : F32 × Nat := let r := fadd a b; (r.1, k + b2n r.2)
  let (g, k) := mul g (word 9) 0
  match g.dec with
  | .fin .. =>
    let (a, k) := mul (word 1) m k
    let (b, k) := mul (word 2) g k
    let (m, k) := add a b k
    let (a, k) := mul (word 3) v k
    let (c, k) := mul g g k
    let (b, k) := mul (word 4) c k
    let (v, k) := add a b k
    let (t, k) := mul m (word 5) k
    let (c, k) := mul v (word 6) k
    let r := fsqrt c
    let (d, k) := add r.1 (word 7) (k + b2n r.2)
    let q := fdiv t d
    let (e, k) := mul (word 8) w (k + b2n q.2)
    let (u, k) := add q.1 e k
    let (u, k) := mul (word 0) u k
    let r := fsub w u
    (r.1, m, v, k + b2n r.2, false)
  | _ => (w, m, v, k, true)

/-- What an update has come to: the device, generators, record counts, skipped elements, 0x8000 words, flushes. -/
structure UpdAcc where
  s : State
  gen : Sparse Word
  stM : Stat := {}
  stV : Stat := {}
  stW : Stat := {}
  skip : Nat := 0
  in80 : Nat := 0
  flush : Nat := 0
  poison : Option Nat := none

/-- Read the ranges of `src` in turn: the first marked line, if there is one. -/
def State.readAll (s : State) (n : Nat) (ctx : BitVec 8) (src : List (Nat × Nat)) : Option Nat × State :=
  src.foldl (fun (acc : Option Nat × State) p =>
    let r := acc.2.readFor (weightReq n) (some ctx) p.1 p.2
    (match acc.1 with | some x => some x | none => if r.1 then some (r.2.firstMark p.1 p.2) else none, r.2.countInf p.1 p.2 false)) (none, s)

/-- What the rows of one block of an update have come to: the block's results, and its bytes. -/
structure UpdRows where
  a : UpdAcc
  rowsM : List (List Int × List Int) := []
  rowsV : List (List Int × List Int) := []
  rowsW : List (List Int × List Int) := []
  bytes : List Byte := []

/-- Row `row` of 512 elements of the block of an update that starts at element `lo`, on state `s` (R181, R182). DESIGN CHOICE (log entry 33): the spec
does not order the draws of R99 that a lane makes for one row; here its m are narrowed, then its v, then its w. -/
def updRow (s : State) (n : Nat) (u : UpdRec) (rM rV rW : NarrowRec) (count : Nat) (word : Nat → Word) (lo : Nat) (acc : UpdRows) (row : Nat) : UpdRows :=
  let a := acc.a
  let seed := (s.lathe n).seed
  let es := (List.range 512).map fun j => lo + row * 512 + j
  let vals := es.map fun e =>
    let (m, xm) := s.elem16 u.m e
    let (v, xv) := s.elem16 u.v e
    if e < count then
      let w : Word := BitVec.ofNat 32 (s.num (u.w + 4 * e) 4)
      let (w', m', v', k, sk) := updElem word (BitVec.ofNat 32 (s.num (u.g + 4 * e) 4)) w m v
      (e, w', m', v', k, sk, b2n xm + b2n xv)
    else (e, (0 : Word), m, v, 0, false, b2n xm + b2n xv)
  let el (f : Nat × Word × Word × Word × Nat × Bool × Nat → Word) := vals.map fun x => ({ x := f x, gi := x.1 % 1024, counted := decide (x.1 < count) } : Elem)
  let (bm, cm, gen, stM) := narrowRow rM seed a.gen a.stM (el fun x => x.2.2.1)
  let (bv, cv, gen, stV) := narrowRow rV seed gen a.stV (el fun x => x.2.2.2.1)
  let live := (el fun x => x.2.1).filter (·.counted)
  let (bw, cw, gen, stW) := if u.rw = 0 || live = [] then ([], [], gen, a.stW) else narrowRow rW seed gen a.stW live
  { a := { a with gen := gen, stM := stM, stV := stV, stW := stW,
                  skip := a.skip + (vals.filter fun x => x.2.2.2.2.2.1).length,
                  in80 := a.in80 + vals.foldl (fun acc x => acc + x.2.2.2.2.2.2) 0,
                  flush := a.flush + vals.foldl (fun acc x => acc + x.2.2.2.2.1) 0 }
    rowsM := acc.rowsM ++ [(bm, cm)], rowsV := acc.rowsV ++ [(bv, cv)], rowsW := acc.rowsW ++ [(bw, cw)]
    bytes := acc.bytes ++ (vals.filter fun x => decide (x.1 < count)).flatMap fun x => leBytes x.2.1.toNat 4 }

/-- Write data of the finisher of lathe `n` at `addr`, counting infinities. -/
def State.putFin (s : State) (n : Nat) (who : Nat × Nat × Nat) (ctx : BitVec 8) (poison : Bool) (addr : Nat) (data : List Byte) : State :=
  (s.writeFor (weightReq n) (some ctx) addr data poison (some who)).countInf addr data.length true

/-- The narrow weights of an update block at `at_`; of a last part block, its header and the shifts and codes of the rows that exist. DESIGN CHOICE (log
entry 69): the elements that a last partial row lacks are written as 0. -/
def State.putNarrowW (s : State) (n : Nat) (who : Nat × Nat × Nat) (ctx : BitVec 8) (poison : Bool) (rW : NarrowRec) (st : Stat) (at_ : Nat)
    (used : List (List Int × List Int)) : State :=
  let image := blockBytes rW poison false st [] 0 (used.map fun x => (x.1, x.2 ++ List.replicate (512 - x.2.length) 0))
  if used.length = 32 then s.writeDst n who ctx at_ (image.take blk8) poison
  else
    used.zipIdx.foldl (fun (acc : State) e =>
      acc.writeDst n who ctx (at_ + 576 + 512 * e.2) (e.1.2.map fun c => BitVec.ofInt 8 c) poison)
      (s.writeDst n who ctx at_ (image.take (64 + 16 * used.length)) poison)

/-- One M16 block of 16,384 elements of an update of `count`, from element `lo` (R181, R182); a block whose header carries POISON is poisoned whole
(R314). -/
def updBlock (n : Nat) (who : Nat × Nat × Nat) (ctx : BitVec 8) (u : UpdRec) (dst : Nat) (rM rV rW : NarrowRec) (count : Nat) (word : Nat → Word)
    (parity : Option Nat) (a : UpdAcc) (blk : Nat) : UpdAcc :=
  let lo := blk * 16384
  let cnt := min 16384 (count - lo)
  let r := a.s.readAll n ctx
    [(u.o, 64), (u.g + 4 * lo, 4 * cnt), (u.w + 4 * lo, 4 * cnt), (u.m + blk * blk16, blk16), (u.v + blk * blk16, blk16)]
  let flagged := [u.m + blk * blk16, u.v + blk * blk16].find? fun b => bit (r.2.num (b + 1) 1) 0
  let r := if parity = some blk then (r.1, r.2.pathParity (unitOf 1 n) n 5 ctx.toNat (r.2.glob (u.g + 4 * lo / 64 * 64))) else r
  let hit := match r.1 with | some x => some x | none => if parity = some blk then some (u.g + 4 * lo / 64 * 64) else flagged
  let poison := hit.isSome
  let w := (List.range 32).foldl (updRow r.2 n u rM rV rW count word lo)
    { a := { a with stM := a.stM.fresh, stV := a.stV.fresh, stW := a.stW.fresh } }
  let b := w.a
  let s := r.2.putFin n who ctx poison (u.w + 4 * lo) w.bytes
  let s := s.putFin n who ctx poison (u.m + blk * blk16) (blockBytes rM poison false b.stM [] 0 w.rowsM)
  let s := s.putFin n who ctx poison (u.v + blk * blk16) (blockBytes rV poison false b.stV [] 0 w.rowsV)
  let s := if u.rw = 0 then s
    else s.putNarrowW n who ctx poison rW b.stW (dst + blk * blk8) (w.rowsW.filter fun x => x.2 ≠ [])
  { b with s := s, stM := a.stM.after b.stM, stV := a.stV.after b.stV, stW := a.stW.after b.stW,
           poison := match a.poison with | some x => some x | none => hit }

/-- The whole update of a DRAIN of FORM 0x0A on the finisher of lathe `n`, with destination `dst`; its scale records take what it counts once it
ends (R109). -/
def State.runUpdate (s : State) (n : Nat) (who : Nat × Nat × Nat) (ctx : BitVec 8) (o : DrainOp) (dst : Nat) (parity : Option Nat) : State :=
  let u := s.updRec o.recAddr
  let word (i : Nat) : Word := BitVec.ofNat 32 (s.num (u.o + 4 * i) 4)
  let rM := s.scaleRec u.rm
  let rV := s.scaleRec u.rv
  let rW := s.scaleRec u.rw
  let r0 := s.readFor (weightReq n) (some ctx) o.recAddr 64
  let s := r0.2.countInf o.recAddr 64 false
  let a := (List.range ((o.aux + 16383) / 16384)).foldl (updBlock n who ctx u dst rM rV rW o.aux word parity)
    { s := s, gen := (s.lathe n).gen, poison := if r0.1 then some o.recAddr else none }
  let upd (rec : Nat) (st : Stat) : ScaleUpd :=
    { addr := rec, elements := st.elements, saturated := st.sat, nans := st.nan, maxabs := st.maxabs, outMaxabs := st.outMaxabs, lathe := n, ctx := ctx,
      who := some who }
  let s := a.s.modLathe n fun l => { l with
    gen := a.gen, finOp := 3, upd := some (who, [upd u.rm a.stM, upd u.rv a.stV] ++ (if u.rw = 0 then [] else [upd u.rw a.stW])) }
  let s := (((s.bump (FIN_STAT_UPD_ELEM n) o.aux).bump (FIN_STAT_UPD_SKIP n) a.skip).bump (FIN_STAT_IN80 n) a.in80).bump (FIN_STAT_FLUSH n)
    (a.flush + a.stM.flush + a.stV.flush + a.stW.flush)
  let s := s.postLim (s.flag (FIN_CTRL n) FIN_CTRL_UPD_EVT_EN) ms n a.skip 0x405 cWARN (unitOf 1 n) ctx.toNat fun c => [(0x10, n), (0x14, c)]
  let s := s.noteNan n 0 (a.stM.nan + a.stV.nan + a.stW.nan) ctx.toNat
  match a.poison with
  | some x => s.usePoison (some n) none 4 ctx.toNat (s.glob x)
  | none => s

/-! ## DRAIN -/

/-- The first refused record of a DRAIN, by address and reason (R108). DESIGN CHOICE (log entry 200): of the records of an update that of m is tried first,
then that of v, then that of W7. -/
def State.badRecord (s : State) (o : DrainOp) : Option (Nat × Nat) :=
  let chk (a target : Nat) : Option (Nat × Nat) := let f := (s.scaleRec a).fault target; if f = 0 then none else some (a, f)
  if o.form = 10 then
    let u := s.updRec o.recAddr
    match chk u.rm 4 with
    | some x => some x
    | none => match chk u.rv 4 with
      | some x => some x
      | none => if u.rw = 0 then none else chk u.rw 5
  else if o.form ≤ 5 then chk o.recAddr o.form
  else none

/-- Lathe `n` reads the records that `badRecord` judges down to the refused one at `a`; an unmapped one is reported (R33). -/
def State.readBad (s : State) (n : Nat) (ctx : BitVec 8) (o : DrainOp) (a : Nat) : State :=
  let get (s : State) (a : Nat) : State := (s.readFor (weightReq n) (some ctx) a 64).2.countInf a 64 false
  get (if o.form = 10 then get s o.recAddr else s) a

/-- Earlier RUNs of the program that name the group have started or are held (R630). -/
def State.runsBegun (s : State) (b p k : Nat) (x : Prog) (g : Nat) : Bool :=
  ((x.stages.zip x.prog).take k).zipIdx.all fun e =>
    match e.1.1.runOp with
    | some r => r.group != g || e.1.2 != .waiting || (s.accMembers b).all fun n => (s.group n g).held == some (b, p, e.2)
    | none => true

/-- DRAIN (R108, R145, R148, R149, R202, R630): a group goes to CLOSING, or waits for its span move; an update runs on every member once the members'
finishers are idle, and DRAIN_END ends it there. DESIGN CHOICE (log entry 38): reason 6 before reason 8. -/
def execDrain (b : Fin 8) (p : Nat) (k : Fin 32) (parity : Option Nat) (s : State) : Out :=
  .next (match s.prog b p, (s.stage b p k).bind Stage.drainOp with
  | some x, some o =>
    let accs := s.accMembers b
    if !s.mayStart b p k then s
    else if o.form ≠ 10 && !s.runsBegun b p k x o.group then s
    else match s.badRecord o with
      | some (a, why) =>
        ((s.readBad b x.ctx o a).post 0x303 cFAULT (unitOf 1 b) x.ctx.toNat [(0x10, b), (0x11, why), (0x14, a)]).faultAbort b p k 9
      | none =>
        if o.form = 10 then
          if (s.members b).all fun n => (s.lathe n).finOp = 0 then
            (s.members b).foldl (fun (acc : State) n => acc.runUpdate n (b, p, k) x.ctx o (o.dst + (n - b) * o.mstride) parity) (s.setStage b p k .running)
          else s
        else
          let why (n : Nat) : Option Nat :=
            let g := s.group n o.group
            if g.st != .open && g.st != .spanMove || g.drain.isSome then some 6 else if g.ctx != x.ctx then some 8 else none
          match accs.findSome? fun n => (why n).map fun r => (n, r) with
          | some (n, r) => s.groupMisuse n b p k o.group r
          | none =>
            accs.foldl (fun (acc : State) n => acc.modGroup n o.group fun g =>
              { g with drain := some ⟨b, p, k⟩, owner := (b, p), st := if g.st == .open && g.held.isNone then .closing else g.st })
              (s.setStage b p k .running)
  | _, _ => s)

/-! ## DRAIN_START -/

/-- What a drain has come to. -/
structure DrainAcc where
  s : State
  gen : Sparse Word
  st : Stat := {}
  flush : Nat := 0
  poison : Bool
  /-- The row whose line a parity error has marked (R321). -/
  hit : Option Nat := none

/-- `len` words from `at_` on. -/
def State.wordsAt (s : State) (at_ len : Nat) : List Word := (List.range len).map fun j => BitVec.ofNat 32 (s.num (at_ + 4 * j) 4)

/-- The finisher of lathe `n` reads `len` bytes at `at_`: the first marked line, if there is one. -/
def State.readFin (s : State) (n : Nat) (ctx : BitVec 8) (at_ len : Nat) : Option Nat × State :=
  let r := s.readFor (weightReq n) (some ctx) at_ len
  (if r.1 then some (r.2.firstMark at_ len) else none, r.2.countInf at_ len false)

/-- The binary32 row of results that a merge reads at global address `at_`, `off` bytes from the destination of the member's first row: from this
device's memory, or as another device answered the READs of R170. -/
def State.readOld (s : State) (n : Nat) (ctx : BitVec 8) (at_ off : Nat) : (List Word × Option Nat) × State :=
  if s.isLocal at_ then
    let r := s.readFin n ctx (at_ % 2 ^ 40) 2048
    ((r.2.wordsAt (at_ % 2 ^ 40) 512, r.1.map r.2.glob), r.2)
  else
    let w := ((s.lathe n).old).getD {}
    let byte (k : Nat) : Nat := (sget (0 : Byte) w.buf (off + k)).toNat
    (((List.range 512).map fun j => BitVec.ofNat 32 (byte (4 * j) + 256 * byte (4 * j + 1) + 65536 * byte (4 * j + 2) + 2 ^ 24 * byte (4 * j + 3)),
      ((List.range 32).find? fun j => w.bad.contains (off / 64 + j)).map fun j => at_ + 64 * j), s)

/-- What row `i` of the group reads besides its accumulators: the extension, the auxiliary row, the old row of a merge (R169, R172, R178). -/
structure RowIn where
  span : Option (List Word) := none
  aux : List F32 := []
  old : List Word := List.replicate 512 0
  bad : Option Nat := none

/-- The reads of row `i`, in order. -/
def State.rowIn (s : State) (n : Nat) (ctx : BitVec 8) (o : DrainOp) (x : Group) (i auxRow at_ : Nat) (oValid : Bool) : RowIn × State :=
  let a := s.spanAddr n (x.rowBase + i)
  let r1 := if x.extended then s.readFin n ctx a 2048 else (none, s)
  let span := if x.extended then some (r1.2.wordsAt a 512) else none
  let act := 6 ≤ o.act && o.act ≤ 8
  let r2 := if act then r1.2.readFin n ctx auxRow 1024 else (none, r1.2)
  let aux := if act then (List.range 512).map fun j => ofBf16 (r2.2.num (auxRow + 2 * j) 2) else []
  let r3 := if o.mergeEn && oValid then r2.2.readOld n ctx at_ (2048 * i) else ((List.replicate 512 0, none), r2.2)
  ({ span := span, aux := aux, old := r3.1.1, bad := [r1.1.map s.glob, r2.1.map s.glob, r3.1.2].findSome? id }, r3.2)

/-- Row `i` of the group: steps 1 to 6 of the epilogue (R169–R179). -/
def drainRow (n : Nat) (who : Nat × Nat × Nat) (ctx : BitVec 8) (o : DrainOp) (dst aux : Nat) (sv bv : List Word) (base i : Nat) (x : Group)
    (a : DrainAcc) : List F32 × DrainAcc :=
  let row := x.rowBase + i
  let seen := sget false (a.s.lathe n).seen row
  let ws := (List.range 512).map fun c => if seen then (sget 0 a.s.accMem (2 ^ 22 * n + row * 512 + c)).toInt else 0
  let key := rowKey n o.stateBase i
  let rs := sget {} a.s.rowState key
  let r := a.s.rowIn n ctx o x i (aux + 1024 * i) (dst + 2048 * i) rs.oValid
  let s := match r.1.bad with
    | some at_ => r.2.usePoison (some n) none 3 ctx.toNat at_
    | none => r.2
  let poison := a.poison || r.1.bad.isSome
  let e := epilogueRow o (x.beta + x.sigma) ws r.1.span sv bv r.1.old r.1.aux rs base
  let s := { s with rowState := sput {} e.2.1 s.rowState key }
  -- a merge reads what the row before it has not touched; binary32 rows are written one by one
  let s := if o.form = 7 then s.writeDst n who ctx (dst + 2048 * i) (e.1.flatMap fun v => leBytes v.toNat 4) (poison || a.hit == some i) else s
  (e.1, { a with s := s, flush := a.flush + e.2.2, poison := poison })

/-- The results of `rows` group rows from row `i0` on. -/
def drainRows (n : Nat) (who : Nat × Nat × Nat) (ctx : BitVec 8) (o : DrainOp) (dst aux : Nat) (sv bv : List Word) (base : Nat) (i0 rows : Nat)
    (a : DrainAcc) : List (List F32) × DrainAcc :=
  let x := a.s.group n o.group
  (List.range rows).foldl (fun (acc : List (List F32) × DrainAcc) j =>
    let r := drainRow n who ctx o dst aux sv bv base (i0 + j) x acc.2
    (acc.1 ++ [r.1], r.2)) ([], a)

/-- 32 rows in their form (R92, R101, R168), the companion beside them. DESIGN CHOICE (log entry 34): the spec does not say what the companion's slots of
channels beyond OUT_CHANS hold; here they are zeros. -/
def drainBlock (n : Nat) (who : Nat × Nat × Nat) (ctx : BitVec 8) (o : DrainOp) (r : NarrowRec) (map : List Nat) (dst aux : Nat) (sv bv : List Word)
    (base compBase : Nat) (a : DrainAcc) (blk : Nat) : DrainAcc :=
  let r0 := drainRows n who ctx o dst aux sv bv base (blk * 32) 32 a
  let rows := r0.1
  let a := r0.2
  let s := a.s
  if o.form ≤ 5 then
    let seed := (s.lathe n).seed
    let u := rows.zipIdx.foldl (fun (acc : List (List Int × List Int) × Sparse Word × Stat) e =>
      let es := e.1.zipIdx.map fun y => ({ x := y.1, out := map.contains y.2, gi := 512 * (e.2 % 2) + y.2 } : Elem)
      let (b, c, gen, st) := narrowRow r seed acc.2.1 acc.2.2 es
      (acc.1 ++ [(b, c)], gen, st)) ([], a.gen, a.st.fresh)
    let st := u.2.2
    let len := if o.form = 4 then blk16 else blk8
    let poison := a.poison || (a.hit.map (· / 32)) == some blk
    let comp := compBase + 512 * blk
    let s := s.writeDst n who ctx (dst + blk * len) (blockBytes r poison o.early st map comp u.1) poison
    let v := (List.range 8).foldl (fun (acc : List Byte × Nat) c =>
      match map[c]? with
      | some col => rows.foldl (fun (acc : List Byte × Nat) row => let (h, f) := toBf16 ((row[col]?).getD 0); (acc.1 ++ leBytes h 2, acc.2 + b2n f)) acc
      | none => (acc.1 ++ List.replicate 64 0, acc.2)) ([], 0)
    let s := if map = [] then s else (s.writeFor (weightReq n) (some ctx) comp v.1 poison (some who)).countInf comp 512 true
    { a with s := s, gen := u.2.1, st := a.st.after st, flush := a.flush + v.2 }
  else if o.form = 7 then a
  else
    let half := o.form = 6 || o.form = 8
    rows.zipIdx.foldl (fun (a : DrainAcc) e =>
      let i := blk * 32 + e.2
      let d := e.1.foldl (fun (acc : List Byte × Nat) v =>
        if half then let (h, f) := toBf16 v; (acc.1 ++ leBytes h 2, acc.2 + b2n f) else (acc.1 ++ leBytes v.toNat 4, acc.2)) ([], 0)
      let at_ := dst + (if half then 1024 else 2048) * i
      let s := if o.form = 6 then a.s.writeDst n who ctx at_ d.1 (a.poison || a.hit == some i)
        else a.s.reduceDst n 2 who ctx (o.red / 4) (if half then 2 else 1) at_ none d.1 fun _ => a.poison || a.hit == some i
      { a with s := s, flush := a.flush + d.2 }) a

/-- Row `i` of a drain meets a parity error on the accumulator's path, or (`fin`) the finisher's: what it writes is marked from there on (R321). -/
def State.drainParity (s : State) (n : Nat) (ctx : BitVec 8) (form dst rows : Nat) (parity : Option (Nat × Bool)) : State :=
  match parity with
  | some (i, fin) => if i < rows then s.pathParity (unitOf 1 n) n (if fin then 5 else 4) ctx.toNat (dst + drainBytes form (if form ≤ 5 then i / 32 * 32 else i)) else s
  | none => s

/-- The drain of group `g` of lathe `n` by its stage (R164–R179). DESIGN CHOICE (log entry 35): the spec does not say how a block's place under
OUT_COMP_ADDR follows from more than one drain; here it restarts with each drain, at member × blocks of a member. -/
def State.runDrain (s : State) (n : Nat) (d : DrainRef) (o : DrainOp) (ctx : BitVec 8) (parity : Option (Nat × Bool)) : State :=
  let x := s.group n o.group
  let b := d.eng
  let who := (d.eng, d.prog, d.stage)
  let dst := o.dst + (n - b) * o.mstride
  let vec := o.vec + (n - b) * 4096
  let aux := o.aux + (n - b) * x.rows * 1024
  let member := n - b
  let blocks := x.rows / 32
  let r := s.scaleRec o.recAddr
  let words (at_ : Nat) : List Word := s.wordsAt at_ 512
  let map := if o.form ≤ 3 then s.mapOf r (o.colBase / 512 + member) else []
  let at_ := if o.scaleEn then vec else vec + 2048
  let r0 := if o.scaleEn || o.biasEn then s.readFin n ctx at_ (if o.scaleEn && o.biasEn then 4096 else 2048) else (none, s)
  let s := match r0.1 with | some x => r0.2.usePoison (some n) none 3 ctx.toNat (r0.2.glob x) | none => r0.2
  let r00 := if o.form ≤ 5 then s.readFin n ctx o.recAddr 64 else (none, s)
  let s := match r00.1 with | some x => r00.2.usePoison (some n) none 3 ctx.toNat (r00.2.glob x) | none => r00.2
  let r01 := if o.form ≤ 3 && r.outMap ≠ 0 then s.readFin n ctx (r.outMap + 16 * (o.colBase / 512 + member)) 16 else (none, s)
  let s := match r01.1 with | some x => r01.2.usePoison (some n) none 3 ctx.toNat (r01.2.glob x) | none => r01.2
  let s := s.drainParity n ctx o.form dst x.rows parity
  let s := if o.init then (List.range x.rows).foldl (fun (acc : State) i =>
      { acc with rowState := sput {} (initRow o) acc.rowState (rowKey n o.stateBase i) }) s else s
  let a := (List.range blocks).foldl
    (drainBlock n who ctx o r map dst aux (words vec) (words (vec + 2048)) (o.colBase + member * 512) (r.outComp + 512 * (member * blocks)))
    { s := s, gen := (s.lathe n).gen, poison := x.poison || r0.1.isSome || r00.1.isSome || r01.1.isSome, hit := parity.map (·.1) }
  let s := a.s.modLathe n fun l => { l with gen := a.gen }
  let s := (s.bump (FIN_STAT_FLUSH n) (a.flush + a.st.flush)).noteNan n 0 a.st.nan ctx.toNat
  let s := if a.poison && !x.poison then s.poisonGroup n o.group else s
  let upd : List ScaleUpd := if o.form ≤ 5 then
      [{ addr := o.recAddr, elements := a.st.elements, saturated := a.st.sat, nans := a.st.nan, maxabs := a.st.maxabs,
         outMaxabs := a.st.outMaxabs, lathe := n, ctx := ctx, who := some who }] else []
  s.modGroup n o.group fun g => { g with upd := upd }

/-- The CLOSING group of a lathe that its finisher takes next: the one whose DRAIN stands first in acceptance order (R205). -/
def State.firstDrain (s : State) (n g : Nat) (d : DrainRef) : Bool :=
  (List.range 8).all fun h =>
    match (s.group n h).drain with
    | some e => h == g || (s.group n h).st == .draining || d.prog < e.prog || (d.prog == e.prog && d.stage < e.stage)
    | none => true

/-- Rows of group `g` whose running output a merge reads from another device (R170, R171). -/
def State.oldRows (s : State) (n : Nat) (o : DrainOp) (dst rows : Nat) : List Nat :=
  if o.mergeEn && !o.init && !s.isLocal dst then (List.range rows).filter fun i => (sget {} s.rowState (rowKey n o.stateBase i)).oValid else []

/-- The finisher of lathe `n` asks another device for the rows of a running output (R170, R354). -/
def State.askOld (s : State) (n : Nat) (who : Nat × Nat × Nat) (ctx : BitVec 8) (dst : Nat) (rows : List Nat) : State :=
  let parts := rows.flatMap fun i => (List.range 4).map fun q => 2048 * i + 512 * q
  parts.foldl (fun (acc : State) o =>
    acc.issue { lines := 8, into := o, unit := weightReq n, ctx := some ctx, who := some who, old := some n }
      { typ := .read, rset := acc.routeSet n 2, dst := BitVec.ofNat 16 (dst / 2 ^ 40), addr := BitVec.ofNat 40 (dst + o), arg := 8 })
    (s.modLathe n fun l => { l with old := some { left := parts.length } })

/-- DRAIN_START (R164, R165, R170): a CLOSING group with nothing in flight, its verdicts passed or not asked for, is drained; a merge into rows of another
device first reads them there, and is drained once all have come. -/
def execDrainStart (n g : Fin 8) (parity : Option (Nat × Bool)) (s : State) : Out :=
  let x := s.group n g
  .next (match x.drain with
  | some d =>
    match (s.stage d.eng d.prog d.stage).bind Stage.drainOp with
    | some o =>
      if x.st == .closing && x.inflight = 0 && (o.early || x.verdicts = 0) && (s.lathe n).finOp = 0 && s.firstDrain n g d then
        let who := (d.eng, d.prog, d.stage)
        let dst := o.dst + (n.val - d.eng) * o.mstride
        let s := (s.modGroup n g fun x => { x with st := .draining }).modLathe n fun l => { l with finOp := 1, finGroup := g }
        let range := s.drainRange n g
        let mark (y : Stroke) : Stroke := if y.group = g.val && y.ggen = x.gen then { y with drained := range.map fun r => (r.1, r.2.1), early := o.early } else y
        let s := s.modLathe n fun l => { l with
          strokes := l.strokes.map mark, journal := l.journal.map mark, past := l.past.map mark, arbs := l.arbs.map fun a => { a with stroke := mark a.stroke } }
        match s.oldRows n o dst x.rows with
        | [] => s.runDrain n d o x.ctx parity
        | rows => s.askOld n who x.ctx dst rows
      else if x.st == .draining && (s.lathe n).finOp = 1 && (s.lathe n).finGroup = g.val && ((s.lathe n).old.map (·.left)) == some 0 then
        (s.runDrain n d o x.ctx parity).modLathe n fun l => { l with old := none }
      else s
    | none => s
  | none => s)

/-- Why the finisher of lathe `n` stalls its drain (R167, `FIN_STATUS.STALL_CAUSE`): 1 while lines wait for their reducers or for a fabric tag, 2 while
rows of a running output are read on another device, 0 when it does not. DESIGN CHOICE (log entry 201): that running output counts as a source. -/
def State.finStall (s : State) (n : Nat) : Nat :=
  let l := s.lathe n
  if l.finOp ≠ 1 then 0
  else if l.old.isSome then 2
  else match (s.group n l.finGroup).drain with
    | none => 0
    | some d =>
      let mine (w : Option (Nat × Nat × Nat)) : Bool := w == some (d.eng, d.prog, d.stage)
      if s.rdc.any (fun e => e.2.any fun o => mine o.who && o.rank == n) || s.tagWait.any (fun e => mine e.1.who && e.1.unit == weightReq n) then 1 else 0

/-- DRAIN_END (R109, R166, R167): the last row is read and the group is FREE, unless the drain stalls; its scale record is to be updated; the stage
completes with its last request. An update ends the same way. -/
def execDrainEnd (n : Fin 8) (s : State) : Out :=
  let l := s.lathe n
  let g := l.finGroup
  let x := s.group n g
  .next (if l.finOp = 1 && x.st == .draining && s.finStall n = 0 then
    let s := (s.setGroup n g { gen := x.gen }).modLathe n fun l => { l with finOp := 0, seen := sdrop l.seen x.rowBase x.rows }
    let s := ({ s with scaleUpd := s.scaleUpd ++ x.upd }).bump (FIN_STAT_ROWS n) x.rows
    match x.drain with
    | some d => s.settleStage (some (d.eng, d.prog, d.stage))
    | none => s
  else if l.finOp = 3 then
    let s := s.modLathe n fun l => { l with finOp := 0, upd := none }
    match l.upd with
    | some (who, upd) => ({ s with scaleUpd := s.scaleUpd ++ upd } : State).settleStage (some who)
    | none => s
  else s)

/-! ## Scale records (R109–R112) -/

/-- Where the bytes of a record at a local address are written. -/
def State.putNum (s : State) (a v k : Nat) : State := s.setBytes a (leBytes v k)

/-- Update `u` is added to its record at a mapped address; the one that first takes ELEMENTS to EXPECTED waits to be evaluated, with the values it
left. DESIGN CHOICE (log entry 36): the spec does not say what NAN_COUNT does past 2³² − 1; here it wraps. -/
def State.addScale (s : State) (u : ScaleUpd) : State :=
  let old := s.num (u.addr + 8) 8
  let done := bit (s.num (u.addr + 0x38) 1) 0
  let now := old + u.elements
  let sat := s.num (u.addr + 0x10) 8 + u.saturated
  let m := fmaxMag (BitVec.ofNat 32 (s.num (u.addr + 0x18) 4)) u.maxabs
  let om := fmaxMag (BitVec.ofNat 32 (s.num (u.addr + 0x1C) 4)) u.outMaxabs
  let nans := s.num (u.addr + 0x24) 4 + u.nans
  let want := s.num u.addr 8
  let s := (((s.countMarks u.addr 64).cancelScrub u.addr 64).countInf u.addr 64 false).countInf u.addr 64 true
  let s := ((((s.putNum (u.addr + 8) now 8).putNum (u.addr + 0x10) sat 8).putNum (u.addr + 0x18) m.toNat 4).putNum (u.addr + 0x1C) om.toNat 4).putNum
    (u.addr + 0x24) nans 4
  if !done && want ≠ 0 && old < want && want ≤ now then
    { s with scaleEval := s.scaleEval ++ [{ u with elements := now, saturated := sat, maxabs := m, outMaxabs := om }] }
  else s

/-- SCALE_RECORD_UPDATE (R33, R109, R111): the oldest waiting update is added, and its stage may complete. -/
def execScaleRecordUpdate (s : State) : Out :=
  .next (match s.scaleUpd with
  | u :: rest =>
    let s := { s with scaleUpd := rest }
    (if s.mapped u.addr then s.addScale u else s.unmappedEvent (weightReq u.lathe) (some u.ctx) (s.glob u.addr) true).settleStage u.who
  | [] => s)

/-- Is a magnitude below M × 2⁻⁶ of a format (R110)? M is max(z, 255 − z) for U8. -/
def belowLow (r : NarrowRec) (m : Word) : Bool :=
  let big : Int := if r.fmt = 2 then max (r.z : Int) (255 - r.z) else fmtMax r.fmt
  decide (FVal.cmp (F32.dec m) (FVal.ofInt big (-6) false) < 0)

/-- The scale record that update `u` changed is judged by the values that update left: HIGH, LOW and DONE are set, and an event posted for each of the
first two (R110, R112). -/
def State.judgeScale (s : State) (u : ScaleUpd) : State :=
  let r := s.scaleRec u.addr
  let el := u.elements
  let sat := u.saturated
  let m := u.maxabs
  let high := decide (sat * 1024 > el)
  let low := belowLow r m
  let d := [(0x10, u.lathe), (0x11, r.chain), (0x12, r.fmt), (0x13, s.num (u.addr + 0x21) 1), (0x14, u.addr), (0x20, sat), (0x28, el), (0x30, m.toNat)]
  let s := ((s.cancelScrub u.addr 64).putNum (u.addr + 0x38) (1 + 2 * b2n high + 4 * b2n low) 1).countInf (u.addr + 0x38) 1 true
  let s := if high then s.post 0x300 cWARN (unitOf 1 u.lathe) u.ctx.toNat d else s
  if low then s.post 0x301 cWARN (unitOf 1 u.lathe) u.ctx.toNat d else s

/-- SCALE_RECORD_EVALUATE (R110, R112): the oldest update not yet judged is. -/
def execScaleRecordEvaluate (s : State) : Out :=
  .next (match s.scaleEval with
  | u :: rest => (({ s with scaleEval := rest } : State).judgeScale u).settleStage u.who
  | [] => s)

end Sys2Proof.Machine
end

