-- ==== Sys2Proof/Machine/EngineOps.lean ====
section
/-! DEFINITION. What the command engine's meanings share: semaphores (R210–R216), descriptor arms (R217–R224), and stream transfers
between this device's memories, host memory and other devices (R219, R251, R253, R321). -/
namespace Sys2Proof.Machine

/-! ## Semaphores -/

/-- SEM_OVERFLOW (R211). -/
def State.semOverflow (s : State) (i dev ctx : Nat) : State :=
  if s.flag SEM_CTRL SEM_CTRL_OVF_EVT_EN then s.post 0x506 cFAULT 0 ctx [(0x10, i), (0x12, dev)] else s

/-- COUNT is added to semaphore `i`: whether the sum overflowed, and the state with its waiters tested (R211–R213). -/
def State.addSem (s : State) (i count dev ctx : Nat) : Bool × State :=
  let v := (s.rd (SEM_VAL i)).toNat + count
  let passed := decide (v > 2 ^ 32 - 1)
  let s := s.wr (SEM_VAL i) (BitVec.ofNat 32 (satTo (2 ^ 32 - 1) v))
  let s := if passed then s.semOverflow i dev ctx else s
  (passed, s.testWaiters i)

/-- A context that a checked semaphore does not take (R215). -/
def State.semMisuse (s : State) (i ctx : Nat) : Bool := s.flag (SEM_CFG i) SEM_CFG_CTX_CHECK && s.rf (SEM_CFG i) SEM_CFG_CONTEXT != ctx

/-- SEM_MISUSE (R215). -/
def State.semMisuseEvent (s : State) (i ctx : Nat) : State := s.post 0x507 cFAULT 0 ctx [(0x10, i), (0x12, ctx)]

/-! ## Descriptor arms (R217, R221) -/

/-- An arm from an image: SRC, DST, ROW_BYTES, ROWS, strides, MODE. -/
def mkArm (src dst rowb rows sstr dstr mode : Nat) : Arm :=
  { src := src % 2 ^ 56, dst := dst % 2 ^ 56, rowb := rowb, rows := rows, sstr := sext 40 sstr, dstr := sext 40 dstr, grain := bit mode 0 }

/-- The image of `STR_[n]`'s descriptor registers. -/
def State.regArm (s : State) (n d : Nat) : Arm :=
  mkArm (s.rd64 (STR_DESC_SRC n d)) (s.rd64 (STR_DESC_DST n d)) (s.rd (STR_DESC_ROWB n d)).toNat (s.rd (STR_DESC_ROWS n d)).toNat
    (s.rd64 (STR_DESC_SSTR n d)) (s.rd64 (STR_DESC_DSTR n d)) (s.rd (STR_DESC_MODE n d)).toNat

/-- The image in memory that a FETCH names (R220). -/
def State.memArm (s : State) (a : Nat) : Arm :=
  mkArm (s.num a 8) (s.num (a + 8) 8) (s.num (a + 0x10) 4) (s.num (a + 0x14) 4) (s.num (a + 0x18) 8) (s.num (a + 0x20) 8) (s.num (a + 0x28) 4)

/-- The limits of R217. -/
def Arm.ok (a : Arm) : Bool :=
  a.src % 64 == 0 && a.dst % 64 == 0 && a.rowb % 64 == 0 && a.sstr % 64 == 0 && a.dstr % 64 == 0 &&
    decide (64 ≤ a.rowb) && decide (a.rowb ≤ 2 ^ 24) && decide (1 ≤ a.rows) && decide (a.rows ≤ 2 ^ 24)

/-- Table 5.3 for ARM: the descriptor after, or the reason of the rejection. -/
def Desc.armWith (d : Desc) (a : Arm) : Except Nat Desc :=
  if !a.ok then .error 2
  else
    let g := d.gen + 1
    let a := { a with gen := g }
    match d.st with
    | .idle => .ok { d with st := .armed, arm := a, gen := g }
    | .armed => .ok { d with st := .armedShadow, shadow := a, gen := g }
    | .busy => .ok { d with st := .busyShadow, shadow := a, gen := g }
    | .armedShadow | .busyShadow => .error 1

/-- STR_REARM_REJECT and its counter. -/
def State.rejectArm (s : State) (n d reason ctx : Nat) : State :=
  let s := s.bump (STR_STAT_REARM_REJECT n) 1
  s.postLim (s.flag (STR_CTRL n) STR_CTRL_REARM_EVT_EN) ms n 1 0x503 cWARN (unitOf 1 n) ctx
    fun k => [(0x10, n), (0x11, d), (0x12, (s.desc n d).gen.toNat), (0x14, k), (0x18, reason)]

/-! ## Transfers -/

/-- Where one end of a transfer lies. -/
inductive End where
  | here | host | away
deriving DecidableEq, Repr

def State.endOf (s : State) (ga : Nat) : End :=
  if !s.isLocal ga then .away
  else match region (ga % 2 ^ 40) with
    | .aperture _ _ => .host
    | _ => .here

/-- Bytes of one row with its trailer (R251). -/
def Arm.pitch (a : Arm) : Nat := if a.grain then a.rowb + trailerLen a.rowb else a.rowb

/-- Global address of row `r` at the source and at the destination. -/
def Arm.srcRow (a : Arm) (r : Nat) : Nat := ((a.src : Int) + r * a.sstr).toNat
def Arm.dstRow (a : Arm) (r : Nat) : Nat := ((a.dst : Int) + r * a.dstr).toNat

/-- The lines of a host read reach what asked for them, marked when `bad` (R579, R581). -/
def State.deliverHost (s : State) (r : HostReq) (data : List Byte) (bad : Bool) : State :=
  let data := (data ++ List.replicate r.len 0).take r.len
  let s := if r.drop then s else match r.mir, r.desc, r.red, r.who with
    | some m, _, _, _ => s.answerMirror m r.into (if bad then none else some data)
    | none, some d, _, _ => s.answerDesc (some d) r.into data fun _ => bad
    | none, none, some (op, fmt, dst), some who =>
      s.landReduce { who := who, ctx := r.ctx.setWidth 8, op := op, fmt := fmt, dst := dst, src := s.glob r.addr, data := data, bad := if bad then List.range (r.len / 64) else [] }
    | _, _, _, _ => s
  s.settleStage r.who

/-- A host read fails for reason `why` of Table 16.11 (R581). -/
def State.failHost (s : State) (r : HostReq) (why : Nat) : State :=
  (s.hostFail why r.lathe r.ctx.toNat r.addr 1).deliverHost r [] true

/-- Reads of host memory are issued: an aperture window that is not valid is unmapped (R33, R579), while the link is down a read fails at once
(R581), and with the host pool empty it stalls (R226). -/
def State.askHost (s : State) (rs : List HostReq) : State :=
  rs.foldl (fun (acc : State) r =>
    if !acc.mapped r.addr then
      (acc.unmappedEvent (weightReq r.lathe) (some (r.ctx.setWidth 8)) (acc.glob r.addr) false).deliverHost r [] true
    else if !acc.hostUp then acc.failHost r 5
    else if !acc.hostWait.isEmpty || decide (hostPool ≤ acc.hostReqs.length) then ({ acc.wakeLink with hostWait := acc.hostWait ++ [r] } : State).notePeak
    else ({ acc.wakeLink with hostReqs := acc.hostReqs ++ [r] } : State).notePeak) s

/-- Host reads that wait for a tag are issued in their order while the pool has one (R226). -/
def State.unstallHost (s : State) : State :=
  let n := hostPool - s.hostReqs.length
  { s with hostReqs := s.hostReqs ++ (s.hostWait.take n).map fun (r : HostReq) => { r with since := s.clock }, hostWait := s.hostWait.drop n }

/-- The reads of one row from another device or from host memory are issued; their data is gathered at the row's offset. -/
def State.askRow (s : State) (n d : Nat) (who : Nat × Nat × Nat) (ctx : BitVec 8) (a : Arm) (r : Nat) : State :=
  let ga := a.srcRow r
  let parts := (runs (ga % 2 ^ 40) a.pitch).map fun e => (e.1, e.2, r * a.pitch + (e.1 - ga % 2 ^ 40))
  let x := s.desc n d
  let s := s.setDesc n d { x with left := x.left + parts.length }
  match s.endOf ga with
  | .away =>
    parts.foldl (fun (acc : State) e =>
      acc.issue { lines := e.2.1, into := e.2.2, unit := weightReq n, ctx := some ctx, desc := some (n, d), who := some who }
        { typ := .read, rset := acc.routeSet n 0, dst := BitVec.ofNat 16 (ga / 2 ^ 40), addr := BitVec.ofNat 40 e.1, arg := BitVec.ofNat 32 e.2.1 }) s
  | _ =>
    let asked : List HostReq := parts.map fun e =>
      { addr := e.1, len := 64 * e.2.1, into := e.2.2, who := some who, ctx := ctx.setWidth 16, lathe := n, desc := some (n, d), since := s.clock }
    s.askHost asked

/-- A claim issues what the transfer must ask for (R219, R225). -/
def State.beginTransfer (s : State) (n d : Nat) : State :=
  let x := s.desc n d
  let s := s.setDesc n d { x with left := 0, moved := false, since := s.clock, tries := 0, again := [], buf := [], bad := [] }
  if s.endOf x.arm.src == .here then s
  else (List.range x.arm.rows).foldl (fun (acc : State) r => acc.askRow n d x.owner x.ctx x.arm r) s

/-- One row as it stands at its source or has been gathered: its bytes, its marked lines by number. -/
def State.rowOf (s : State) (x : Desc) (r : Nat) : List Byte × List Nat :=
  let a := x.arm
  if s.endOf a.src == .here then
    let l := a.srcRow r % 2 ^ 40
    let ok := s.readable l && s.readable (l + a.pitch - 1)
    (if ok then s.bytes l a.pitch else List.replicate a.pitch 0,
     (List.range (a.pitch / 64)).filter fun j => !ok || s.mark (l + 64 * j))
  else ((List.range a.pitch).map fun i => sget 0 x.buf (r * a.pitch + i), (List.range (a.pitch / 64)).filter fun j => x.bad.contains (r * a.pitch / 64 + j))

/-- The first grain block of a row that fails: by its check, or by a mark on one of its lines or on its check's line (R250, R253). -/
def rowFails (a : Arm) (data : List Byte) (bad : List Nat) : Option Nat :=
  (List.range (grainBlocks a.rowb)).find? fun i =>
    let lo := 4096 * i
    let len := min 4096 (a.rowb - lo)
    bad.any (fun j => (decide (lo / 64 ≤ j) && decide (j < (lo + len + 63) / 64)) || j == (a.rowb + 4 * i) / 64) ||
      crc32c ((data.drop lo).take len) != leNat data (a.rowb + 4 * i) 4

/-- Write one row with its marks at its destination: lines of this device or host memory at once, a WRITE otherwise. -/
def State.putRow (s : State) (n d : Nat) (a : Arm) (r : Nat) (data : List Byte) (bad : List Nat) : State :=
  let ga := a.dstRow r
  let x := s.desc n d
  if s.isLocal ga then
    let s := (chunks 64 data).zipIdx.foldl (fun (acc : State) e => acc.writeFor (weightReq n) (some x.ctx) (ga % 2 ^ 40 + 64 * e.2) e.1 (bad.contains e.2) (some x.owner)) s
    s.countInf (ga % 2 ^ 40) data.length true
  else
    (runs (ga % 2 ^ 40) data.length).foldl (fun (acc : State) e =>
      let o := e.1 - ga % 2 ^ 40
      let y := acc.desc n d
      (acc.setDesc n d { y with left := y.left + 1 }).issue
        { lines := e.2, unit := weightReq n, ctx := some x.ctx, desc := some (n, d), who := some x.owner }
        { typ := .write, rset := acc.routeSet n 0, dst := BitVec.ofNat 16 (ga / 2 ^ 40), addr := BitVec.ofNat 40 e.1, lines := e.2,
          poison := BitVec.ofNat 8 (maskOf e.2 fun j => bad.contains (o / 64 + j)), payload := (data.drop o).take (64 * e.2) }) s

/-- The rows of a grained transfer from another device or the host that are to be read again: they fail, and fewer than 3 re-reads
have been made (R253). -/
def State.rowsAgain (s : State) (n d : Nat) : List Nat :=
  let x := s.desc n d
  if x.arm.grain && s.endOf x.arm.src != .here && x.tries < 3 then
    (List.range x.arm.rows).filter fun r => let (data, bad) := s.rowOf x r; (rowFails x.arm data bad).isSome
  else []

/-- Failed rows are asked for again. -/
def State.askAgain (s : State) (n d : Nat) (rows : List Nat) : State :=
  let x := s.desc n d
  let w := x.arm.pitch / 64
  let s := s.setDesc n d { x with tries := x.tries + 1, again := x.again ++ rows, bad := x.bad.filter fun j => !rows.contains (j / w) }
  rows.foldl (fun (acc : State) r => acc.askRow n d x.owner x.ctx x.arm r) s

/-- Every row of a transfer is written: plain rows with their marks, grained rows once they pass, else marked with GRAIN_FAIL
(R218, R251, R253). DESIGN CHOICE (log entry 32): the spec does not say how many ADDR_UNMAPPED a transfer over unmapped addresses posts; here one
for each unmapped row read and one for each line written. -/
def State.moveRows (s : State) (n d : Nat) (parity : Option (Nat × Nat)) : State :=
  let x := s.desc n d
  let a := x.arm
  let lines := a.pitch / 64
  let s := s.setDesc n d { x with moved := true }
  (List.range a.rows).foldl (fun (s : State) r =>
    let (data, bad) := s.rowOf x r
    let s := if s.endOf a.src == .here then
        let l := a.srcRow r % 2 ^ 40
        let s := if s.readable l && s.readable (l + a.pitch - 1) then s.countMarks l a.pitch else s.unmappedEvent (weightReq n) (some x.ctx) (a.srcRow r) false
        s.countInf l a.pitch false
      else s
    let hit := match parity with | some (j, path) => if r * lines ≤ j && j < (r + 1) * lines then some (j - r * lines, path) else none | none => none
    let s := match hit with | some (j, path) => s.pathParity (unitOf 1 n) n path x.ctx.toNat (a.srcRow r + 64 * j) | none => s
    if !a.grain then s.putRow n d a r data (match hit with | some (j, _) => j :: bad | none => bad)
    else
      match rowFails a data bad with
      | none =>
        let s := if hit.isSome || x.again.contains r then s.noteReread n 0xFFFF x.ctx.toNat else s
        s.putRow n d a r data []
      | some i =>
        let s := s.post 0x707 cFAULT (unitOf 1 n) x.ctx.toNat [(0x10, n), (0x11, d), (0x14, a.srcRow r), (0x1B, satTo 255 i)]
        let y := s.desc n d
        (s.setDesc n d { y with tries := 4 }).putRow n d a r data (List.range lines)) s

end Sys2Proof.Machine
end

