-- ==== Sys2Proof/Machine/Engine.lean ====
section
/-! DEFINITION. The command engine (05): queues, acceptance, the stages FETCH, REDUCE, SIGNAL, WAIT, FENCE and AT, descriptors,
semaphores, retirement and aborts. -/
namespace Sys2Proof.Machine

/-! ## Queues (R191–R199) -/

/-- Entries of a ring. -/
def State.sqSize (s : State) (n i : Nat) : Nat := 2 ^ s.rf (STR_SQ_CFG n i) STR_SQ_CFG_LOG2_SIZE

/-- QUEUE_ERROR for queue 8n + i. -/
def State.queueError (s : State) (n i reason : Nat) : State := s.post 0x508 cFAULT (unitOf 1 n) 0xFFFF [(0x10, n), (0x11, 8 * n + i), (0x12, reason)]

/-- SQ_ENABLE (R193): a write of `STR_SQ_CFG[i]`; an enable of a misplaced or misconfigured queue is refused. -/
def execSqEnable (n i : Fin 8) (v : Word) (s : State) : Out := s.atBlock .str n fun s =>
  let s := s.wr (STR_SQ_CFG n i) (v &&& 0x31F)
  let base := s.rf64 (STR_SQ_BASE n i) STR_SQ_BASE_BASE
  let log := s.rf (STR_SQ_CFG n i) STR_SQ_CFG_LOG2_SIZE
  let placed := match region base with | .hbm _ _ | .aperture _ _ => s.mapped base | _ => false
  let ok := decide (6 ≤ log) && decide (log ≤ 16) && base % (8 * 2 ^ log) == 0 && placed
  .next (if s.flag (STR_SQ_CFG n i) STR_SQ_CFG_EN && !ok then (s.wb (STR_SQ_CFG n i) STR_SQ_CFG_EN false).queueError n i 1 else s)

/-- SQ_DOORBELL (R194): the tail moves to `t`, unless `t` is at or above the ring size. -/
def execSqDoorbell (n i : Fin 8) (t : Word) (s : State) : Out := s.atBlock .str n fun s =>
  .next (if t.toNat < s.sqSize n i then s.wf (STR_SQ_TAIL n i) ⟨0, 16⟩ t.toNat else s.queueError n i 2)

/-- The queue served last at priority `p`, plus 1; 0 for none yet. -/
def Engine.last (e : Engine) (p : Nat) : Nat := bits e.rr (7 * p) 7

/-- The queue the engine of gang `b` takes next (R196): the highest PRIO with an entry waiting, and among equals round robin by number. -/
def State.nextQueue (s : State) (b : Nat) : Option (Nat × Nat) :=
  let qs := (s.members b).flatMap fun n => (List.range 8).map fun i => (n, i)
  let live := qs.filter fun q => s.flag (STR_SQ_CFG q.1 q.2) STR_SQ_CFG_EN && (s.rd (STR_SQ_HEAD q.1 q.2)) != (s.rd (STR_SQ_TAIL q.1 q.2))
  let prio (q : Nat × Nat) : Nat := s.rf (STR_SQ_CFG q.1 q.2) STR_SQ_CFG_PRIO
  let top := live.foldl (fun acc q => max acc (prio q)) 0
  let best := live.filter fun q => prio q = top
  let last := (s.engine b).last top
  match best.find? fun q => decide (last ≤ 8 * q.1 + q.2) with
  | some q => some q
  | none => best.head?

/-- The program whose bytes were copied from `entry` gets the engine's next number and enters the store, or retires rejected (R197–R199). -/
def State.storeProg (s : State) (b : Nat) (entry : Nat) (bytes : List Byte) : State :=
  let no := (s.engine b).nextNo
  let s := s.modEngine b fun e => { e with nextNo := no + 1 }
  match decodeProg bytes entry b (shapeSize (s.shape b)) with
  | .ok x => (s.modEngine b fun e => { e with progs := e.progs ++ [{ x with no := no }] }).bump (STR_STAT_ACCEPTED b) 1
  | .error (reason, stage) =>
    let u (o k : Nat) : Nat := leNat bytes o k
    let x : Prog := { no := no, hdr := entry, retireEvt := bit (u 3 1) 2, ctx := BitVec.ofNat 8 (u 4 1), statusAddr := u 0x18 5,
                      tag := BitVec.ofNat 32 (u 0x20 4), cause := 5, abortStage := 0xFF }
    (s.post 0x500 cFAULT (unitOf 1 b) x.ctx.toNat [(0x10, b), (0x11, reason), (0x12, stage), (0x14, entry)]).retire b x true false true

/-- The program at `entry` is read, or its queue stops on a poisoned or impossible address (R196). -/
def State.takeEntry (s : State) (b n i entry len : Nat) (bad : Bool) : State :=
  let (bad, s) := if bad || entry ≥ 2 ^ 40 || entry % 256 ≠ 0 then (true, s)
    else let r := s.readFor (weightReq b) none entry len; (r.1, r.2.countInf entry len false)
  if bad then
    (s.wb (STR_SQ_CFG n i) STR_SQ_CFG_EN false).queueError n i 3
  else
    let head := (s.rd (STR_SQ_HEAD n i)).toNat
    (s.wr (STR_SQ_HEAD n i) (BitVec.ofNat 32 ((head + 1) % s.sqSize n i))).storeProg b entry (s.bytes entry len)

/-- The entry at the head of queue `i` of lathe `n` is read, and the program it names (R196, R197). -/
def State.acceptFrom (s : State) (b n i : Nat) : State :=
  let head := (s.rd (STR_SQ_HEAD n i)).toNat
  let slot := s.rf64 (STR_SQ_BASE n i) STR_SQ_BASE_BASE + 8 * head
  let entry := s.num slot 8
  let stages := (s.byte (entry + 2)).toNat
  let len := 0x100 + (if 1 ≤ stages && stages ≤ 32 then 0x40 * stages else 0)
  let top := s.rf (STR_SQ_CFG n i) STR_SQ_CFG_PRIO
  let s := s.modEngine b fun e => { e with rr := setBits e.rr (7 * top) 7 (8 * n + i + 1) }
  let (bad, s) := s.readFor (weightReq b) none slot 8
  (s.countInf slot 8 false).takeEntry b n i entry len bad

/-- PROGRAM_ACCEPT (R196–R199): the next entry's program is copied into the store, refused, or stops its queue. -/
def execProgramAccept (b : Fin 8) (s : State) : Out :=
  .next (if s.gang b ≠ b.val || (s.engine b).progs.length ≥ 1024 || (s.lathe b).svc == .off then s
  else match s.nextQueue b with
    | none => s
    | some (n, i) => s.acceptFrom b n i)

/-- PROGRAM_START (R7, R77, R204): the first accepted program starts. -/
def execProgramStart (b : Fin 8) (s : State) : Out :=
  let ps := (s.engine b).progs
  .next (if (ps.filter fun x => x.st != .accepted).length < 16 && (s.members b).all fun n => (s.lathe n).svc == .inService then
    match ps.find? fun x => x.st == .accepted with
    | some x => s.modProg b x.no fun x => { x with st := .started, startClock := s.clock, beganFt := s.ft.toNat }
    | none => s
  else s)

/-! ## FETCH and its transfers -/

/-- Descriptor `d` of lathe `n` is armed from the image of the FETCH stage, unless there is none or it already was (R202): the state, and
whether the image was accepted. -/
def State.fetchArm (s : State) (b p k n d img : Nat) : Bool × State :=
  if img = 0 || ((s.prog b p).map fun x => x.armed.contains k) == some true then (true, s)
  else
    let ctx := s.ctxOf b p
    let (bad, s) := s.readFor (weightReq n) (some (BitVec.ofNat 8 ctx)) img 64
    let s := s.countInf img 64 false
    let a := if bad then { s.memArm img with rowb := 0 } else s.memArm img
    match (s.desc n d).armWith a with
    | .ok x => (true, (s.setDesc n d x).modProg b p fun y => { y with armed := k :: y.armed })
    | .error reason => (false, (s.rejectArm n d reason ctx).faultAbort b p k 0x0D)

/-- The stage claims descriptor `d` of lathe `n` when it is armed and fewer than 32 transfers of the lathe run (R206, R219, R220). -/
def State.fetchClaim (s : State) (b p k n d : Nat) : State :=
  let x := s.desc n d
  let claim (st : DescSt) : State :=
    (((s.setDesc n d { x with st := st, owner := (b, p, k), ctx := BitVec.ofNat 8 (s.ctxOf b p) }).setStage b p k .running)).beginTransfer n d
  if (s.descs.filter fun (e : Nat × Desc) => e.1 / 256 = n && (e.2.st == .busy || e.2.st == .busyShadow)).length ≥ 32 then s
  else match x.st with
  | .armed => claim .busy
  | .armedShadow => claim .busyShadow
  | _ => s

/-- FETCH (R202, R206, R219, R220): arms its descriptor once from an image, if one is given, and claims it when it is armed and fewer
than 32 transfers of the lathe run. -/
def execFetch (b : Fin 8) (p : Nat) (k : Fin 32) (s : State) : Out :=
  .next (match s.stage b p k with
  | some (.fetch d m img) =>
    if !s.mayStart b p k then s
    else
      let r := s.fetchArm b p k (b.val + m) d img
      if r.1 then r.2.fetchClaim b p k (b.val + m) d else r.2
  | _ => s)

/-- Multicast copies of what stage `who` wrote are not acknowledged yet, so its writes are not visible (R219, R363). -/
def State.copiesOpen (s : State) (who : Nat × Nat × Nat) : Bool := s.mcMsgs.any fun (e : Nat × List McMsg) => e.2.any fun m => m.who == some who

/-- TRANSFER_DONE (R219, R221, R251, R253, R321): once every request is answered the rows are checked and written, and, once every
write is visible, the transfer ends. -/
def execTransferDone (n : Fin 8) (d : Fin 256) (parity : Option (Nat × Nat)) (s : State) : Out :=
  let x := s.desc n d
  .next (if !(x.st == .busy || x.st == .busyShadow) || x.left ≠ 0 then s
  else
    let again := if x.moved then [] else s.rowsAgain n d
    if again ≠ [] then s.askAgain n d again
    else
      let s := if x.moved then s else s.moveRows n d parity
      let y := s.desc n d
      if y.left ≠ 0 || s.copiesOpen y.owner then s
      else
        let s := s.setDesc n d (y.finish (if y.tries = 4 then 3 else 1))
        s.settleStage (some y.owner))

/-- DESC_ARM (R217, R221, R223): the register image is committed, or rejected. -/
def execDescArm (n : Fin 8) (d : Fin 256) (s : State) : Out := s.atBlock .str n fun s =>
  .next (match (s.desc n d).armWith (s.regArm n d) with
  | .ok x => s.setDesc n d x
  | .error reason => s.rejectArm n d reason 0xFFFF)

/-- DESC_CANCEL (R221): the arm not yet claimed, or the shadow, is withdrawn. -/
def execDescCancel (n : Fin 8) (d : Fin 256) (s : State) : Out := s.atBlock .str n fun s =>
  let x := s.desc n d
  .next (match x.st with
  | .armed | .armedShadow => s.setDesc n d { x with st := .idle }
  | .busyShadow => s.setDesc n d { x with st := .busy }
  | _ => s)

/-! ## REDUCE -/

/-- REDUCE (R205, R206, R316, R325, R328): the source's lines are read and sent to the reducers that hold the destination. -/
def execReduce (b : Fin 8) (p : Nat) (k : Fin 32) (s : State) : Out :=
  .next (match s.stage b p k with
  | some (.reduce op fmt src dst len) =>
    if !s.mayStart b p k then s
    else
      let ctx := BitVec.ofNat 8 (s.ctxOf b p)
      let who := (b.val, p, k.val)
      let s := s.setStage b p k .running
      let ask := (runs (src % 2 ^ 40) len).map fun e => (e.1, e.2, e.1 - src % 2 ^ 40)
      let s :=
        if op = 8 then s.reduceDst b 3 who ctx 8 4 dst none (List.replicate len 0) fun _ => false
        else match s.endOf src with
          | .here =>
            let l := src % 2 ^ 40
            let there (j : Nat) : Bool := s.readable (l + 64 * j)
            let data := (List.range (len / 64)).flatMap fun j => if there j then s.bytes (l + 64 * j) 64 else List.replicate 64 0
            let t := match (List.range (len / 64)).find? fun j => !there j with
              | some j => s.unmappedEvent (.lathe b) (some ctx) (src + 64 * j) false
              | none => s
            ((t.countMarks l len).reduceDst b 3 who ctx op fmt dst (some src) data fun j => !there j || s.mark (l + 64 * j)).countInf l len false
          | .away =>
            ask.foldl (fun (acc : State) e =>
              acc.issue { lines := e.2.1, unit := .lathe b, ctx := some ctx, who := some who, red := some (op, fmt, dst + e.2.2) }
                { typ := .read, rset := acc.routeSet b 3, dst := BitVec.ofNat 16 (src / 2 ^ 40), addr := BitVec.ofNat 40 e.1, arg := BitVec.ofNat 32 e.2.1 }) s
          | .host =>
            let asked : List HostReq := ask.map fun e =>
              { addr := e.1, len := 64 * e.2.1, who := some who, ctx := ctx.setWidth 16, lathe := b, red := some (op, fmt, dst + e.2.2), since := s.clock }
            s.askHost asked
      s.settleStage (some who)
  | _ => s)

/-! ## SIGNAL, WAIT, FENCE, AT -/

/-- Every write that an earlier stage of the program issues is visible: its FETCH, DRAIN and REDUCE stages are complete (R210). -/
def State.writesVisible (s : State) (b p k : Nat) (x : Prog) : Bool :=
  ((x.stages.zip x.prog).take k).all (fun e => !(e.1.unit == 1 || e.1.unit == 4 || e.1.unit == 5) || e.2 == .done) &&
    s.countReqs (fun w => match w with | some (b', p', k') => b' == b && p' == p && k' < k | none => false) = 0

/-- A SIGNAL, WAIT, SWAP, FENCE or AT whose turn has come in its program (R208). -/
def State.mayOrder (s : State) (b p k : Nat) : Bool := s.mayStart b p k

/-- SIGNAL (R210, R211, R215). -/
def execSignal (b : Fin 8) (p : Nat) (k : Fin 32) (s : State) : Out :=
  .next (match s.prog b p, s.stage b p k with
  | some x, some (.signal sem dev remote count) =>
    if !s.mayOrder b p k || !s.writesVisible b p k x then s
    else if remote && dev ≠ s.devId then
      (s.setStage b p k .running).issue { unit := .lathe b, ctx := some x.ctx, who := some (b, p, k) }
        { typ := .signal, rset := s.routeSet b 4, dst := BitVec.ofNat 16 dev, addr := BitVec.ofNat 40 sem, arg := BitVec.ofNat 32 count }
    else if s.semMisuse sem x.ctx.toNat then (s.semMisuseEvent sem x.ctx.toNat).faultAbort b p k 0x0C
    else
      let (passed, s) := (s.bump SEM_STAT_SIGNALS 1).addSem sem count s.devId x.ctx.toNat
      if passed then s.faultAbort b p k 0x0C else s.complete b p k
  | _, _ => s)

/-- WAIT (R212, R215): it queues on its semaphore, and completes at once if it is the oldest and the value covers it. -/
def execWait (b : Fin 8) (p : Nat) (k : Fin 32) (s : State) : Out :=
  .next (match s.prog b p, s.stage b p k with
  | some x, some (.wait sem count timeout) =>
    if !s.mayOrder b p k then s
    else if s.semMisuse sem x.ctx.toNat then (s.semMisuseEvent sem x.ctx.toNat).faultAbort b p k 0x0C
    else
      let w : Waiter := { eng := b, prog := p, stage := k, count := count, since := s.clock, timeout := timeout }
      ((s.setStage b p k .running).setWaiters sem (s.waitersOf sem ++ [w])).testWaiters sem
  | _, _ => s)

/-- WAIT_TIMEOUT (R214): the WAIT has been queued for its TIMEOUT; it leaves the queue and its program ends. -/
def execWaitTimeout (i : Fin 8192) (b : Fin 8) (p : Nat) (k : Fin 32) (s : State) : Out :=
  let mine (w : Waiter) : Bool := w.eng == b && w.prog == p && w.stage == k
  .next (match (s.waitersOf i).find? mine with
  | some w =>
    if w.timeout = 0 || s.clock < w.since + 1000 * w.timeout then s
    else
      let s := (s.setWaiters i ((s.waitersOf i).filter fun w => !mine w)).bump SEM_STAT_TIMEOUTS 1
      let s := s.post 0x505 cFAULT 0 (s.ctxOf b p) [(0x10, i), (0x12, (s.rd (SEM_VAL i)).toNat), (0x16, b)]
      (s.testWaiters i).faultAbort b p k 0x0C
  | none => s)

/-- SEM_VAL_WRITE (R213, R216). -/
def execSemValWrite (i : Fin 8192) (v : Word) (s : State) : Out := s.atBlock .sem 0 fun s => .next ((s.wr (SEM_VAL i) v).testWaiters i)

/-- SEM_ADD_WRITE (R211, R213, R216). -/
def execSemAddWrite (i : Fin 8192) (v : Word) (s : State) : Out := s.atBlock .sem 0 fun s => .next (s.addSem i v.toNat s.devId 0xFFFF).2

/-- FENCE (R208): with SCOPE 0 the earlier stages of its program, with SCOPE 1 also every earlier program of the gang. -/
def execFence (b : Fin 8) (p : Nat) (k : Fin 32) (s : State) : Out :=
  .next (match s.prog b p, s.stage b p k with
  | some x, some (.fence scope) =>
    let own := (x.prog.take k).all (· == .done) && s.writesVisible b p k x
    let earlier := scope = 0 || (s.engine b).progs.all fun y => y.no ≥ p || (y.st == .started && y.prog.all (· == .done) && s.outstanding b y.no = 0)
    if s.mayOrder b p k && own && earlier then s.complete b p k else s
  | _, _ => s)

/-- AT (R208): the first moment at or after its fabric time. -/
def execAtStage (b : Fin 8) (p : Nat) (k : Fin 32) (s : State) : Out :=
  .next (match s.stage b p k with
  | some (.at ft) => if s.mayOrder b p k && decide (ft ≤ s.ft.toNat) then s.complete b p k else s
  | _ => s)

/-! ## Retirement and aborts -/

/-- PROGRAM_COMMIT (R227, R234): the last stage has completed and every write is visible. -/
def execProgramCommit (b : Fin 8) (p : Nat) (s : State) : Out :=
  .next (match s.prog b p with
  | some x => if x.st == .started && s.committed b x then s.retire b x false false true else s
  | none => s)

/-- STR_ABORT (R228–R233): by tag, by context, or all. -/
def execStrAbort (n : Fin 8) (v : Word) (s : State) : Out := s.atBlock .str n fun s =>
  let arg := s.rd (STR_ABORT_ARG n)
  .next (match v.toNat % 4 with
  | 0 => s.abortWhere n 1 fun x => x.tag == arg
  | 1 => s.abortWhere n 1 fun x => x.ctx.toNat == arg.toNat % 256
  | 2 => s.abortWhere n 1 fun _ => true
  | _ => s)

/-- PROGRAM_ABORT_RETIRE (R229): no tag is held and no group of the program is INVALID or DRAINING. -/
def execProgramAbortRetire (b : Fin 8) (p : Nat) (s : State) : Out :=
  .next (match s.prog b p with
  | some x =>
    let clear := (s.accMembers b).all fun n => (List.range 8).all fun g =>
      let y := s.group n g
      y.owner != (b.val, p) || !(y.st == .invalid || y.st == .draining)
    if x.st == .aborting && s.outstanding b p = 0 && clear then s.retire b x true false true else s
  | none => s)

/-- PROGRAM_TIMEOUT_EXPIRY (R200): the TIMEOUT of the header has passed since the start. -/
def execProgramTimeoutExpiry (b : Fin 8) (p : Nat) (s : State) : Out :=
  .next (match s.prog b p with
  | some x =>
    if x.st == .started && x.timeout ≠ 0 && x.startClock + 1000 * x.timeout ≤ s.clock then
      (s.post 0x509 cFAULT (unitOf 1 b) x.ctx.toNat [(0x10, b), (0x11, x.current), (0x14, x.tag.toNat)]).abort b p 6
    else s
  | none => s)

/-- CONTEXT_POISON_ABORT (R316, R317): the abort of a use of marked data latches on every engine. -/
def execContextPoisonAbort (unit : Requester) (reducer : Option (Fin 256)) (use ctx : BitVec 8) (a : GAddr) (s : State) : Out :=
  let lathe := match unit with | .lathe n => some n.val | _ => none
  let mine (u : PoisonUse) : Bool := u.lathe == lathe && u.reducer == reducer.map (·.val) && u.use == use.toNat && u.ctx == ctx && u.addr == a
  .next (match s.uses.find? mine with
  | some u => s.poisonAbort u
  | none => s)

end Sys2Proof.Machine
end

