-- ==== Sys2Proof/Machine/Weights.lean ====
section
/-! DEFINITION. Passes, swaps, verification and the tile builder: the commands of the layer table (07, R259–R286). -/
namespace Sys2Proof.Machine

/-! ## Swap and table writes -/

/-- SWAP (R208, R269–R271): it waits for OPEN or FAULT and for AT_FT, raises the barrier, and completes; one that became ready after its AT_FT is
late. -/
def execSwap (b : Fin 8) (p : Nat) (k : Fin 32) (s : State) : Out :=
  .next (match s.prog b p, s.stage b p k with
  | some x, some (.swap layer source atFt) =>
    let ctx := x.ctx.toNat
    if !s.mayStart b p k then s
    else if !s.wtbValid layer then (s.shardEvent b 0x701 2 layer 0xFFFFFFFF 0 ctx).faultAbort b p k 0x0E
    else if !(s.wtbState layer = stOPEN || s.wtbState layer = stFAULT) || s.ft.toNat < atFt then s
    else
      let gen := (s.rd DEV_LT_GEN) + 1
      let s := ((s.wr DEV_LT_GEN gen).wr (WTB_PGEN layer) gen).wf (WTB_CTL layer) WTB_CTL_STATE stRAISED
      let s : State := { s with swaps := s.swaps ++ [{ entry := layer, source := source, raised := s.clock, ctx := x.ctx }] }
      let s := s.post 0x704 cINFO 0 ctx [(0x10, 0xFF), (0x12, layer), (0x14, gen.toNat)]
      let s := if atFt ≠ 0 && atFt < x.readyFt k then
          s.post 0x706 cWARN 0 ctx [(0x10, 0xFF), (0x12, layer), (0x18, s.ft.toNat - atFt)] else s
      s.complete b p k
  | _, _ => s)

/-- CLEAR written while the entry is in FAULT: its home copy is to be verified (R284). -/
def State.clearEntry (s : State) (i : Nat) : State :=
  if s.wtbState i = stFAULT then { s.wf (WTB_CTL i) WTB_CTL_STATE stVERIFYING with verifying := s.verifying ++ [i] } else s

/-- WTB_WRITE (R260, R261): word `w` of entry `i` is taken according to VALID and STATE. -/
def execWtbWrite (i : Fin 4096) (w : Fin 16) (v : Word) (s : State) : Out := s.atBlock .wtb 0 fun s =>
  let off := WTB_CTL i + 4 * w
  let x := v.toNat
  let openSt := s.wtbState i = stOPEN
  .next (if w.val = 0 then
    if openSt then
      let was := s.wtbValid i
      let s := (s.wb off WTB_CTL_VALID (bit x 0)).wb off WTB_CTL_MIRROR_EN (bit x 1)
      if !was && bit x 0 then s.wr (WTB_GEN i) (s.rd DEV_LT_GEN) else s
    else if bit x 8 then s.clearEntry i else s
  else if w.val ≤ 8 then
    if s.wtbValid i then s
    else
      let m := if w.val = 3 || w.val = 5 then x % 256 else if w.val = 6 then x % 2 ^ 29 else x
      let s := s.wr off (BitVec.ofNat 32 m)
      s.wb (WTB_CTL i) WTB_CTL_HOST (match region (s.rf64 (WTB_BLANK i) WTB_BLANK_ADDR) with | .aperture _ _ => true | _ => false)
  else if w.val ≤ 12 then
    if openSt then s.wr off (BitVec.ofNat 32 (if w.val = 11 then x % 2 ^ 24 else if w.val = 12 then x % 65536 else x)) else s
  else s)

/-- WTB_CLEAR (R284). -/
def execWtbClear (i : Fin 4096) (s : State) : Out := s.atBlock .wtb 0 fun s => .next (s.clearEntry i)

/-! ## Passes (R266–R268, R273) -/

/-- PASS_OPEN (R266, R267). -/
def execPassOpen (p : Fin 16) (ctx : BitVec 8) (s : State) : Out := s.atBlock .dev 0 fun s =>
  let held := (List.range 16).any fun q => s.flag (DEV_LT_PASS q) DEV_LT_PASS_OPEN && s.rf (DEV_LT_PASS q) DEV_LT_PASS_CONTEXT == ctx.toNat
  .next (if s.flag (DEV_LT_PASS p) DEV_LT_PASS_OPEN || held then s
  else
    let s := (s.wf (DEV_LT_PASS p) DEV_LT_PASS_CONTEXT ctx.toNat).wb (DEV_LT_PASS p) DEV_LT_PASS_OPEN true
    s.wr (DEV_LT_LATCH p) (s.rd DEV_LT_GEN))

/-- PASS_CLOSE (R266): the write that clears OPEN, with its CONTEXT field. -/
def execPassClose (p : Fin 16) (ctx : BitVec 8) (s : State) : Out := s.atBlock .dev 0 fun s =>
  .next ((s.wf (DEV_LT_PASS p) DEV_LT_PASS_CONTEXT ctx.toNat).wb (DEV_LT_PASS p) DEV_LT_PASS_OPEN false)

/-! ## The swap engine (R274–R277, R281) -/

/-- Records that a swap or a verification of entry `i` covers: COUNT tiles, and with an inlay its header and its records. -/
def State.recCount (s : State) (i : Nat) : Nat :=
  (s.rd (WTB_COUNT i)).toNat + (if s.rf64 (WTB_INLAY i) WTB_INLAY_ADDR = 0 then 0
    else 1 + s.rf (WTB_GEOM i) WTB_GEOM_SLICES + s.rf (WTB_GEOM i) WTB_GEOM_BLOCKS)

/-- Address and length of record `r` of a copy of entry `i` with the given bases. -/
def State.recPiece (s : State) (i r blank inlay : Nat) : Nat × Nat :=
  let count := (s.rd (WTB_COUNT i)).toNat
  let len := 1024 * s.rf (WTB_GEOM i) WTB_GEOM_RANK + 64
  if r < count then (blank + r * tileLen, tileLen) else if r = count then (inlay, 64) else (inlay + 64 + (r - count - 1) * len, len)

/-- The home piece of record `r`, and its tile index (0xFFFF_FFFF for an inlay record). -/
def State.homePiece (s : State) (i r : Nat) : Nat × Nat := s.recPiece i r (s.rf64 (WTB_BLANK i) WTB_BLANK_ADDR) (s.rf64 (WTB_INLAY i) WTB_INLAY_ADDR)
def State.recTile (s : State) (i r : Nat) : Nat :=
  if r < (s.rd (WTB_COUNT i)).toNat then ((s.rd (WTB_FIRST i)).toNat + r) % 2 ^ 32 else 0xFFFFFFFF

/-- Record `r` is the header of the inlay (R257, R275). -/
def State.isHeader (s : State) (i r : Nat) : Bool := r == (s.rd (WTB_COUNT i)).toNat

/-- VERSION + 1 modulo 65,536 (R276). -/
def State.nextVer (s : State) (i : Nat) : Nat := (s.wtbVer i + 1) % 65536

/-- The front swap, changed. -/
def State.modSwap (s : State) (f : Swap → Swap) : State :=
  match s.swaps with
  | [] => s
  | x :: t => { s with swaps := f x :: t }

/-- The swap engine reads, checks and writes records until the last, or until it must wait: for a staged header of the new
version (R276), for the host, or for a mirror (R281). `bad r j` says that attempt `j` at record `r` meets a parity error; of the first record, `since`
is when its first read was made (R282), and `first` what its host reads have brought, with the tries as they stood. -/
def State.runSwap (s : State) (bad : Nat → Nat → Bool) (since : Option Nat) (first : Option ((Sparse Byte × Bool) × Tries)) : Nat → State
  | 0 => s
  | fuel + 1 =>
    match s.swaps with
    | [] => s
    | x :: _ =>
      if !x.writing || x.done then s
      else if s.recCount x.entry ≤ x.next then s.modSwap fun y => { y with done := true }
      else
        let i := x.entry
        let r := x.next
        let ver := s.nextVer i
        let staged := s.recPiece i r x.source (x.source + (s.rd (WTB_COUNT i)).toNat * tileLen)
        let home := s.homePiece i r
        let tile := s.recTile i r
        let single := some (s.isHeader i r)
        let w : RecWait := { entry := i, tile := tile, src := { ctx := x.ctx }, pieces := [home], ver := BitVec.ofNat 16 ver, since := since.getD s.clock, single := single }
        let y := match first with | some f => f.2 | none => { list := [[staged], [staged], [staged], [staged]] }
        let other := match first with
          | some (f, y) => y.j = 0 && imgNum f.1 6 2 ≠ ver && !f.2
          | none => !s.hostRecords [staged] && s.readable staged.1 && s.num (staged.1 + 6) 2 ≠ ver && !s.mark staged.1
        if tile ≠ 0xFFFFFFFF && other then { s with swapWait := some w }
        else
          let (e, s) := s.tryCopies 8 i x.ctx.toNat none (fun s im p => s.recFault im p i tile ver single) (bad r) false
            y.list y.j y.failed 1 (first.map (·.1))
          match e with
          | .ask y => s.askTry 8 w y
          | .ok im => ((s.writePieces im [home]).modSwap fun y => { y with next := y.next + 1 }).runSwap bad none none fuel
          | .fail reason =>
            match (s.orMirror 8 w reason).judgeMirror 8 4 with
            | (some (.ok im), s) => (((s.writePieces im [home]).setWait 8 none).modSwap fun y => { y with next := y.next + 1 }).runSwap bad none none fuel
            | (some (.fail k), s) => (s.setWait 8 none).shardFail 8 0x700 k i tile ver x.ctx.toNat none
            | (_, s) => s

/-- Go on with the front swap. -/
def State.goSwap (s : State) (bad : Nat → Nat → Bool) (since : Option Nat) (first : Option ((Sparse Byte × Bool) × Tries)) : State :=
  match s.swaps with
  | [] => s
  | x :: _ => s.runSwap bad since first (s.recCount x.entry + 1)

/-- The verification of the entry in front goes on at record `r`, of which the host may have brought `first`: each record of the home copy is read once,
those in host memory by host reads. The entry opens after the last; the first record that fails is a shard failure (R282, R284). -/
def State.verifyFrom (s : State) (i since : Nat) : Nat → Nat → Option (Sparse Byte × Bool) → State
  | 0, _, _ =>
    let s : State := { s with verifying := s.verifying.drop 1 }
    ((s.wf (WTB_CTL i) WTB_CTL_STATE stOPEN).wf (WTB_CTL i) WTB_CTL_FAULT_KIND 0).wf (WTB_CTL i) WTB_CTL_FAULT_CTX 0
  | fuel + 1, r, first =>
    let ps := [s.homePiece i r]
    let tile := s.recTile i r
    let ver := s.wtbVer i
    let ctx := s.rf (WTB_CTL i) WTB_CTL_FAULT_CTX
    if first.isNone && s.hostRecords ps then
      s.askTry 8 { entry := i, tile := tile, src := { ctx := BitVec.ofNat 8 ctx }, ver := BitVec.ofNat 16 ver, since := since, verify := true, rno := r } { list := [ps] }
    else
      let ((im, poison), s) := s.readOnce 8 none first ps
      let why := s.recFault im poison i tile ver (some (s.isHeader i r))
      if why = 0 then s.verifyFrom i s.clock fuel (r + 1) none
      else
        let s : State := { s.noteFailedRead i with verifying := s.verifying.drop 1 }
        s.shardFail 8 0x700 why i tile ver ctx none

/-- The verification in front goes on at record `r`. -/
def State.verifyRun (s : State) (first : Option (Sparse Byte × Bool)) (r since : Nat) : State :=
  match s.verifying with
  | [] => s
  | i :: _ => s.verifyFrom i since (s.recCount i - r) r first

/-- A host or mirror read of the swap engine's record has been answered: go on (R281, R282). -/
def State.resumeSwap (s : State) : State :=
  match s.swapWait with
  | none => s
  | some w =>
    if w.first then
      if w.left ≠ 0 then s
      else if w.verify then (s.setWait 8 none).verifyRun (some (w.buf, w.bad)) w.rno w.since
      else if w.header then
        if imgNum w.buf 6 2 ≠ w.ver.toNat && !w.bad then s.setWait 8 (some { w with first := false, header := false })
        else (s.setWait 8 none).goSwap (fun _ _ => false) (some w.since) none
      else (s.setWait 8 none).goSwap (fun _ _ => false) (some w.since) (some ((w.buf, w.bad), w.tries))
    else match s.judgeMirror 8 4 with
    | (some (.ok im), s) =>
      let s := (s.writePieces im w.pieces).setWait 8 none
      (s.modSwap fun y => { y with next := y.next + 1 }).goSwap (fun _ _ => false) none none
    | (some (.fail r), s) => (s.setWait 8 none).shardFail 8 0x700 r w.entry w.tile w.ver.toNat w.src.ctx.toNat none
    | (_, s) => s

/-- Host reads of the record that `m` (8: the swap engine) waits for have been answered. -/
def State.resumeRecord (s : State) (m : Nat) : State := if m < 8 then s.resumeLoad m else s.resumeSwap

/-- What waited for the host reads `rs` goes on once the last of them is answered. -/
def State.resumeHost (s : State) (rs : List HostReq) : State :=
  rs.foldl (fun (acc : State) r => match r.mir with | some m => if r.drop then acc else acc.resumeRecord m | none => acc) s

/-- The home ranges of entry `i`. -/
def State.homeRanges (s : State) (i : Nat) : List Range :=
  (s.rf64 (WTB_BLANK i) WTB_BLANK_ADDR, (s.rd (WTB_COUNT i)).toNat * tileLen) ::
    (if s.rf64 (WTB_INLAY i) WTB_INLAY_ADDR = 0 then [] else [(s.rf64 (WTB_INLAY i) WTB_INLAY_ADDR, s.inlayLen i)])

/-- The envelope of a transfer's source. -/
def Arm.srcRange (a : Arm) : Range :=
  let last : Int := (a.src : Int) + ((a.rows : Int) - 1) * a.sstr
  let lo := min (a.src : Int) last
  let hi := max (a.src : Int) last
  (lo.toNat, (hi - lo).toNat + a.pitch)

/-- A read of the home copy of entry `i` that began by clock `t` is still in progress: a LOAD's record or a transfer (R274). -/
def State.oldHomeRead (s : State) (i t : Nat) : Bool :=
  (List.range 8).any (fun n => match (s.lathe n).wait with | some w => w.entry == i && decide (w.since ≤ t) | none => false) ||
    s.descs.any fun e => (e.2.st == .busy || e.2.st == .busyShadow) && decide (e.2.since ≤ t) &&
      (s.homeRanges i).any fun h => overlap (s.glob h.1, h.2) e.2.arm.srcRange

/-- SWAP_WRITE_START (R274–R276, R281, R283): the oldest raised swap begins to write once no open pass latches below its
generation and no older read of the home copy goes on. -/
def execSwapWriteStart (glitch : List (Nat × Nat)) (s : State) : Out :=
  .next (match s.swaps with
  | [] => s
  | x :: _ =>
    let pgen := (s.rd (WTB_PGEN x.entry)).toNat
    let older := (List.range 16).any fun p => s.flag (DEV_LT_PASS p) DEV_LT_PASS_OPEN && decide ((s.rd (DEV_LT_LATCH p)).toNat < pgen)
    if x.writing || older || s.oldHomeRead x.entry x.raised || s.verifying ≠ [] then s
    else
      let s := s.wf (WTB_CTL x.entry) WTB_CTL_STATE stWRITING
      (s.modSwap fun y => { y with writing := true, began := s.ft.toNat }).goSwap (fun r j => glitch.contains (r, j)) none none)

/-- STAGED_HEADER_REREAD (R276): the staged header is read again, through the host where it is staged in host memory; with the new version the swap
goes on. -/
def execStagedHeaderReread (s : State) : Out :=
  .next (match s.swaps, s.swapWait with
  | x :: _, some w =>
    let a := (s.recPiece x.entry x.next x.source 0).1
    if w.attempt ≠ 0 || w.first then s
    else if s.hostRecords [(a, 64)] then s.askRecord 8 { w with first := true, header := true } [(a, 64)]
    else if (s.readable a && s.num (a + 6) 2 ≠ w.ver.toNat && !s.mark a) then s
    else (s.setWait 8 none).goSwap (fun _ _ => false) (some w.since) none
  | _, _ => s)

/-- SWAP_WRITE_END (R277). -/
def execSwapWriteEnd (s : State) : Out :=
  .next (match s.swaps with
  | [] => s
  | x :: t =>
    if !(x.writing && x.done) then s
    else
      let i := x.entry
      let ver := s.nextVer i
      let s := (s.wf (WTB_ID i) WTB_ID_VERSION ver).wr (WTB_GEN i) (s.rd (WTB_PGEN i))
      let s := ((s.wf (WTB_CTL i) WTB_CTL_STATE stOPEN).wf (WTB_CTL i) WTB_CTL_FAULT_KIND 0).wf (WTB_CTL i) WTB_CTL_FAULT_CTX 0
      let s := (s.bump DEV_LT_STAT_SWAPS 1).post 0x705 cINFO 0 x.ctx.toNat
        [(0x10, 0xFF), (0x12, i), (0x14, ver), (0x18, s.ft.toNat - x.began)]
      { s with swaps := t })

/-- SHARD_TIMEOUT (R282, R283): the record has not been accepted within the entry's timeout. -/
def execShardTimeout (n : Option (Fin 8)) (s : State) : Out :=
  let m := match n with | some k => k.val | none => 8
  .next (match s.waitOf m with
  | none => s
  | some w =>
    let t := s.rf (WTB_TMO w.entry) WTB_TMO_MS
    if 4096 ≤ w.entry || s.clock < w.since + 1000000 * (if t = 0 then 50 else t) then s
    else
      let reason := if m = 8 && w.attempt = 0 && (!w.first || w.header) then 3 else 1
      let s : State := if w.verify then { s with verifying := s.verifying.drop 1 } else s
      ((s.setWait m none).dropMirror m).shardFail m 0x701 reason w.entry w.tile w.ver.toNat w.src.ctx.toNat
        (if m < 8 then some (w.eng, w.prog, w.stage) else none))

/-- VERIFY_END (R284). -/
def execVerifyEnd (s : State) : Out :=
  .next (match s.verifying with
  | [] => s
  | _ :: _ => if s.swapWait.isSome then s else s.verifyRun none 0 s.clock)

/-! ## The tile builder (R285, R286) -/

/-- BUILD_GO (R285, R286): GO is ignored while a build is in progress, the GAIN field of the write is not. -/
def execBuildGo (gain : BitVec 4) (s : State) : Out := s.atBlock .dev 0 fun s =>
  .next (if s.building.isSome then s.wf DEV_LT_BUILD_CMD DEV_LT_BUILD_CMD_GAIN gain.toNat
  else
    let s := ((s.wf DEV_LT_BUILD_CMD DEV_LT_BUILD_CMD_GAIN gain.toNat).wb DEV_LT_BUILD_CMD DEV_LT_BUILD_CMD_BUSY true).wf
      DEV_LT_BUILD_CMD DEV_LT_BUILD_CMD_RESULT 0
    { s with building := some {
        src := s.rd64 DEV_LT_BUILD_SRC % 2 ^ 40, dst := s.rd64 DEV_LT_BUILD_DST % 2 ^ 40, out := s.rd64 DEV_LT_BUILD_OUT % 2 ^ 40,
        slices := s.rf DEV_LT_BUILD_GEOM DEV_LT_BUILD_GEOM_SLICES, id := (s.rd DEV_LT_BUILD_ID).toNat,
        first := (s.rd DEV_LT_BUILD_FIRST).toNat, count := (s.rd DEV_LT_BUILD_COUNT).toNat, gain := gain.toNat } })

/-- The pieces of the W7 tensor that plane column `c` of tile (k, j) is read from: its row of codes and its shift byte. Row
`n · SLICES + k` of the tensor holds slice `k` of output column `n`. -/
def Build.colAt (x : Build) (t c : Nat) : Nat × Nat × Nat :=
  let r := (t / x.slices * 512 + c) * x.slices + t % x.slices
  let a := x.src + r / 32 * blk8
  (a, a + 576 + r % 32 * 512, a + 64 + r % 32 * 16)

/-- The data bytes of tile `t` as the builder forms them (R245–R247). -/
def State.builtImage (s : State) (x : Build) (t : Nat) : Sparse Byte :=
  let outs := if x.out = 0 then List.replicate 16 (0xFF : Byte) else s.bytes (x.out + 16 * (t % x.slices)) 16
  let n := ((List.range 8).filter fun i => leNat outs (2 * i) 2 != 0xFFFF).length
  let hdr := leBytes tileMark 4 ++ leBytes x.id 4 ++ leBytes (t % x.slices) 2 ++ leBytes (t / x.slices) 2 ++ leBytes x.gain 1 ++
    leBytes n 1 ++ leBytes 0 2 ++ outs
  let im := sputs 0 [] ((List.range 32).zip hdr)
  let im := (List.range 512).foldl (fun (acc : Sparse Byte) c =>
    let (_, a, sh) := x.colAt t c
    sputs 0 acc ((0x41040 + c, s.byte sh &&& 0x3F) :: (s.imageOf a 512).map fun e => (0x40 + 512 * e.1 + c, e.2))) im
  let w := (clampImage im).1
  sputs 0 im ((List.range 4096).map fun q => (0x40040 + q, BitVec.ofNat 8 (trunc 8 (imgSum w (q / 8) (q % 8)))))

/-- A record's bytes with its grain trailer (R249). -/
def grained (im : Sparse Byte) (d : Nat) : List Byte :=
  let crcs := (List.range (grainBlocks d)).flatMap fun i => leBytes (crc32c (imgBytes im (4096 * i) (min 4096 (d - 4096 * i)))) 4
  imgBytes im 0 d ++ crcs ++ List.replicate (trailerLen d - crcs.length) 0

/-- The source of tile `t` is poisoned or unmapped; an unmapped read posts ADDR_UNMAPPED (R33). -/
def State.buildBad (s : State) (x : Build) (t : Nat) : Bool × State :=
  (List.range 512).foldl (fun (acc : Bool × State) c =>
    if acc.1 then acc
    else
      let (blk, _, _) := x.colAt t c
      let (b, s) := acc.2.readFor .vent none blk blk8
      (b || (s.blkPoison blk blk8).isSome, s))
    (if x.out = 0 then (false, s) else s.readFor .vent none (x.out + 16 * (t % x.slices)) 16)

/-- Build tile `q` of the build: true where a bad source stops it, nothing then written. -/
@[irreducible] def State.buildTile (s : State) (x : Build) (q : Nat) : Bool × State :=
  match s.buildBad x (x.first + q) with
  | (true, s) => (true, s)
  | (false, s) => (false, s.writeFor .vent none (x.dst + q * tileLen) (grained (s.builtImage x (x.first + q)) tileData) false)

/-- Build tiles in order until the last or until a bad source: the tiles written and whether it stopped. -/
def State.buildTiles (s : State) (x : Build) (parity : Option Nat) : Nat → Nat → (Nat × Bool) × State
  | 0, q => ((q, false), s)
  | fuel + 1, q =>
    if parity = some q then ((q, true), s.wayParity 0 0xFF 0xFFFF (s.glob (x.colAt (x.first + q) 0).1))
    else match s.buildTile x q with
    | (true, s) => ((q, true), s)
    | (false, s) => s.buildTiles x parity fuel (q + 1)

/-- BUILD_END (R285, R286): the builder finishes, or stops on a poisoned or unmapped source. -/
def execBuildEnd (parity : Option Nat) (s : State) : Out :=
  .next (match s.building with
  | none => s
  | some x =>
    if s.verifying ≠ [] || s.swaps.any (·.writing) then s
    else
      let ((n, stopped), s) := s.buildTiles x parity x.count 0
      let result := if stopped then 2 else 1
      let s := (s.wb DEV_LT_BUILD_CMD DEV_LT_BUILD_CMD_BUSY false).wf DEV_LT_BUILD_CMD DEV_LT_BUILD_CMD_RESULT result
      ({ s with building := none } : State).post 0x708 cINFO 0 0xFFFF [(0x10, 0xFF), (0x11, result), (0x14, n)])

end Sys2Proof.Machine
end

