-- ==== Sys2Proof/Machine/FabricOps.lean ====
section
/-! DEFINITION. What the fabric commands share (09): the link layer of a port, its going down and coming up, completions that a
target returns and a requester takes, bypasses, and the acknowledgement of multicast messages. -/
namespace Sys2Proof.Machine

/-! ## The link layer (R340–R343) -/

/-- Drop the packets that sequence number `lack` acknowledges: those up to the one that carries it (R340). -/
def ackList (l : List Packet) (lack : BitVec 12) : List Packet :=
  match l.findIdx? fun pk => pk.lseq == lack with
  | some i => l.drop (i + 1)
  | none => l

/-- An acknowledgement arrives on port `p`. -/
def State.acked (s : State) (p : Nat) (lack : BitVec 12) : State :=
  let x := s.port p
  let rest := ackList x.unacked lack
  if rest.length = x.unacked.length then s else s.setPort p { x with unacked := rest, retries := 0, since := s.clock }

/-- A packet that fails its CRC, or (`fec`) lies in an uncorrectable codeword, arrives on port `p`: it is discarded, and, unless a NAK has been sent
already, a NAK goes out (R340). -/
def State.badPacket (s : State) (p : Nat) (fec : Bool) : State :=
  if !s.portUp p then s
  else
    let s := if fec then s.bump (IZP_STAT_FEC_UNCORR p) 1 else s.bump (IZP_STAT_CRC_FAIL p) 1
    let x := s.port p
    if x.discarding then s else (s.setPort p { x with discarding := true }).sendLink p true

/-- A packet arrives on port `p` (R340, R342): it is taken only with its CRC right and in order, on an UP port, and is to be acknowledged; its LACK
acknowledges, and its payload is counted. -/
def State.receive (s : State) (p : Nat) (pk : Packet) : Bool × State :=
  if !s.portUp p then (false, s)
  else
  let s := s.bump (IZP_STAT_FEC_CORR p) pk.mended
  if pk.crc ≠ packetCrc pk then (false, s.badPacket p false)
  else
    let s := if pk.lackValid then s.acked p pk.lack else s
    let x := s.port p
    if pk.lseq ≠ x.lastIn + 1 then (false, s)
    else
      let s := s.setPort p { x with lastIn := pk.lseq, discarding := false, ackDue := true }
      let marked := ((List.range pk.lines).filter fun j => bit pk.poison.toNat j).length
      (true, (s.bump (IZP_STAT_RX_BYTES p) (64 * pk.lines)).bump (IZP_STAT_POISON_RX p) marked)

/-- Retransmission from the first unacknowledged packet. -/
def State.retransmit (s : State) (p : Nat) : State :=
  let x := s.port p
  let again := x.unacked.map fun pk => sealPacket { pk with lack := x.lastIn, lackValid := true }
  { (s.bump (IZP_STAT_REPLAY p) again.length).setPort p { x with since := s.clock, ackDue := false } with
      sent := again.reverse.map (fun pk => (p, pk)) ++ s.sent }

/-! ## Completions -/

/-- A packet that this device originates in answer to `pk`: on the same route set, to its sender; dropped with no route. -/
def State.reply (s : State) (pk : Packet) (ans : Packet) : State :=
  let ans := { ans with rset := pk.rset, dst := pk.src, src := BitVec.ofNat 16 s.devId, tag := pk.tag,
                        hops := BitVec.ofNat 8 (s.rf IZP_GCFG IZP_GCFG_HOP_LIMIT) }
  match s.sendPacket ans with
  | (none, s) => s
  | (some _, s) => s.bump IZP_STAT_DROPPED 1

/-- Lines of a READ or POISON_MARK (Table 9.1). -/
def argLines (pk : Packet) : Nat := min 8 pk.arg.toNat

/-- The completion of a request with `status`: for a READ that failed, its lines marked (Table 9.3). -/
def State.complReply (s : State) (pk : Packet) (status : Nat) (data : List Byte) (poison : Nat) : State :=
  match pk.typ with
  | .read =>
    let n := argLines pk
    if status ≥ 2 then s.reply pk { typ := .cplData, lines := n, status := BitVec.ofNat 8 status, poison := BitVec.ofNat 8 (2 ^ n - 1), payload := List.replicate (64 * n) 0 }
    else s.reply pk { typ := .cplData, lines := n, status := BitVec.ofNat 8 status, poison := BitVec.ofNat 8 poison, payload := data }
  | .write | .reduce | .signal => s.reply pk { typ := .cpl, status := BitVec.ofNat 8 status }
  | .mcastWrite => s.reply pk { typ := .credit, arg := BitVec.ofNat 32 pk.lines }
  | _ => s

/-- The requester takes a completion (R349): a mirror read goes on with its record, a partial write of another device's line with its merge; the tag
that frees goes to a request that waits for one (R226). -/
def State.takeReq (s : State) (tag status : Nat) (payload : List Byte) (poison : Nat) : State :=
  let r := s.req tag
  let s := s.finishReq tag status payload poison
  let s := match r.bind fun r => r.merge.map fun m => (r, m) with
    | some (r, o, bytes, bad) =>
      if status ≥ 2 then s
      else
        let line := (payload.take o ++ bytes ++ payload.drop (o + bytes.length)).take 64
        s.issue { unit := r.unit, lines := 1 }
          { typ := .write, rset := BitVec.ofNat 2 (s.rf IZP_GCFG IZP_GCFG_DEFAULT_RS), dst := r.dev, addr := r.addr, lines := 1,
            poison := if bad || poison % 2 = 1 then 1 else 0, payload := line }
    | none => s
  let s := match r.bind fun r => r.mir with
    | some m => if m < 8 then s.resumeLoad m else s.resumeSwap
    | none => s
  s.unstall

/-! ## Multicast (R360–R368) -/

def State.msgs (s : State) (g : Nat) : List McMsg := sget [] s.mcMsgs g
def State.setMsgs (s : State) (g : Nat) (l : List McMsg) : State := { s with mcMsgs := sput [] l s.mcMsgs g }

/-- Slot of member `i` of group `g`, its device, its credit and its prune bit. -/
def State.mslot (s : State) (g i : Nat) : Nat := s.rf (IZP_MG_SLOTS g) IZP_MG_SLOTS_SLOT_BASE + i
def State.memberDev (s : State) (g i : Nat) : Nat := s.rf (IZP_MSLOT (s.mslot g i)) IZP_MSLOT_DEV
def State.credit (s : State) (g i : Nat) : Nat := s.rf (IZP_MSLOT (s.mslot g i)) IZP_MSLOT_CREDIT
def State.pruned (s : State) (g i : Nat) : Bool := bit (s.rd64 (IZP_MG_PRUNE g)) i

/-- Messages that every unpruned member has received and acknowledged leave, and their stages may complete (R363). -/
def State.settleMsgs (s : State) (g : Nat) : State :=
  let done (m : McMsg) : Bool := m.left.isEmpty && m.unacked.all fun i => s.pruned g i
  let gone := (s.msgs g).filter done
  let s := s.setMsgs g ((s.msgs g).filter fun m => !done m)
  gone.foldl (fun (acc : State) m => acc.settleStage m.who) s

/-- Member `i` of group `g` returns `n` lines of credit for the oldest message it has not acknowledged (R362, R363). -/
def State.creditBack (s : State) (g i n : Nat) : State :=
  let s := s.wf (IZP_MSLOT (s.mslot g i)) IZP_MSLOT_CREDIT (satTo 16383 (s.credit g i + n))
  let l := s.msgs g
  let s := match l.findIdx? fun m => m.unacked.contains i with
    | some k => s.setMsgs g (l.modify k fun m => { m with unacked := m.unacked.erase i })
    | none => s
  s.settleMsgs g

/-- The CREDIT from device `dev` for group `g`. -/
def State.creditOf (s : State) (g dev n : Nat) : State :=
  match (List.range (s.rf (IZP_MG_SLOTS g) IZP_MG_SLOTS_MEMBERS)).find? fun i => s.memberDev g i == dev with
  | none => s
  | some i => s.creditBack g i n

/-- Send what waits for a port, now that one has come up (R355); what has no route then ends as if it had come so (R357). -/
def State.sendWaiting (s : State) : State :=
  s.fabQueue.foldl (fun (acc : State) e =>
    let (i, pk) := e
    let inport := if i = waitPort then none else some i
    match acc.nextPort pk.rset.toNat pk.dst.toNat pk.addr.toNat inport with
    | .port p => acc.transmit p { pk with vc := acc.hopVc inport pk.rset.toNat p pk.vc }
    | .wait => { acc with fabQueue := acc.fabQueue ++ [e] }
    | .here | .noRoute =>
      match inport, pk.typ with
      | some _, _ => (acc.bump IZP_STAT_DROPPED 1).complReply pk 5 [] 0
      | none, .read | none, .write | none, .reduce | none, .signal => acc.takeReq pk.tag.toNat 5 [] 0
      | none, .mcastWrite => (acc.bump IZP_STAT_DROPPED 1).creditOf (pk.tag.toNat % 4096) pk.dst.toNat pk.lines
      | none, _ => acc.bump IZP_STAT_DROPPED 1) { s with fabQueue := [] }

/-! ## A port's state -/

/-- Power domain of port `p`'s group. -/
def portDom (p : Nat) : Nat := 56 + p / 4

/-- The bypass of pair `k` is closed or moving. -/
def State.bypassed (s : State) (k : Nat) : Bool := bit (s.rf IZP_BYP IZP_BYP_CLOSED) k
def State.bypMoving (s : State) (k : Nat) : Bool := bit (s.rf IZP_BYP IZP_BYP_MOVING) k

/-- A port not carrying traffic takes the state that its bypass, enable and light give it (R338, R352). -/
def State.restLink (s : State) (p : Nat) : State :=
  let st := if s.bypassed (p / 2) then lnkBypassed
    else if !s.flag (IZP_CTRL p) IZP_CTRL_EN then lnkDisabled
    else if (s.port p).light && s.dom (portDom p) = 1 then lnkTraining else lnkDown
  s.wf (IZP_STATUS p) IZP_STATUS_STATE st

/-- The link of port `p` goes down with `cause`: LINK_DOWN from UP, and one event against the port for causes 1 and 2 (R343). -/
def State.linkDown (s : State) (p cause : Nat) : State :=
  let was := s.portUp p
  let s := (s.wf (IZP_STATUS p) IZP_STATUS_WAVES 0).wf (IZP_STATUS p) IZP_STATUS_HALF 0
  let s := if was || s.link p = lnkTraining then s.wf (IZP_STATUS p) IZP_STATUS_CAUSE cause else s
  let s := s.wr (FTM_LINK_DELAY p) 0
  let s : State := { s with ftm := { s.ftm with ann := sput {} {} s.ftm.ann p } }
  let x := s.port p
  let s := s.setPort p { x with discarding := false, retries := 0 }
  let s := if was && (cause = 1 || cause = 2) then s.histEvent 0xB p 0 else s
  let s := if was && s.flag (IZP_CTRL p) IZP_CTRL_EVT_EN then
      s.post 0x900 cWARN (unitOf 0xB p) 0xFFFF [(0x10, cause), (0x12, s.rf (IZP_PEER p) IZP_PEER_DEV)] else s
  (s.wf (IZP_STATUS p) IZP_STATUS_STATE lnkDown).restLink p

/-- The link of port `p` comes UP with its peer (R338, R339, R342). -/
def State.linkUp (s : State) (p dev pp waves half : Nat) : State :=
  let known := s.flag (IZP_PEER p) IZP_PEER_VALID
  let old := s.rf (IZP_PEER p) IZP_PEER_DEV
  let same := known && old = dev && s.rf (IZP_PEER p) IZP_PEER_PORT = pp
  let s := if known then s.bump (IZP_STAT_RETRAIN p) 1 else s
  let s := s.wr (IZP_PEER p) (BitVec.ofNat 32 (dev + 65536 * pp + 2 ^ 31))
  let s := ((s.wf (IZP_STATUS p) IZP_STATUS_STATE lnkUp).wf (IZP_STATUS p) IZP_STATUS_WAVES waves).wf (IZP_STATUS p) IZP_STATUS_HALF half
  let evt := s.flag (IZP_CTRL p) IZP_CTRL_EVT_EN
  let s := if evt then s.post 0x901 cINFO (unitOf 0xB p) 0xFFFF [(0x10, waves), (0x12, dev), (0x14, pp)] else s
  let s := if evt && waves = 4 then s.post 0x902 cWARN (unitOf 0xB p) 0xFFFF [(0x10, waves), (0x11, half)] else s
  let s := if known && !same then s.post 0x903 cWARN (unitOf 0xB p) 0xFFFF [(0x10, old), (0x12, dev)] else s
  let s := if same then s.retransmit p
    else s.setPort p { s.port p with unacked := [], nextSeq := 0, lastIn := 0xFFF, retries := 0, discarding := false }
  s.sendWaiting

/-! ## Bypasses (R350–R352) -/

/-- The bypass of pair `k` starts to close for reason `why` of Table 9.14: both its ports are BYPASSED from now on. -/
def State.closeBypass (s : State) (k why linkCause : Nat) : State :=
  let closing := s.bypassed k && !bit s.bypOpening k
  if closing then s
  else
    let down := [2 * k, 2 * k + 1].foldl (fun (acc : State) p => if acc.link p = lnkBypassed then acc else acc.linkDown p linkCause) s
    let s := (down.wf IZP_BYP IZP_BYP_CLOSED (s.rf IZP_BYP IZP_BYP_CLOSED ||| 2 ^ k)).wf IZP_BYP IZP_BYP_MOVING (s.rf IZP_BYP IZP_BYP_MOVING ||| 2 ^ k)
    let s := { s with bypOpening := s.bypOpening - bits s.bypOpening k 1 * 2 ^ k, bypCause := sput 0 why s.bypCause k }
    [2 * k, 2 * k + 1].foldl (fun (acc : State) p => acc.restLink p) s

/-- The bypass of pair `k` starts to open, while its port group is powered and the device has an ID (R351, R600). -/
def State.openBypass (s : State) (k : Nat) : State :=
  if s.flag DEV_FABRIC_ID DEV_FABRIC_ID_VALID && s.dom (portDom (2 * k)) = 1 && s.bypassed k && !bit s.bypOpening k then
    { s.wf IZP_BYP IZP_BYP_MOVING (s.rf IZP_BYP IZP_BYP_MOVING ||| 2 ^ k) with bypOpening := s.bypOpening ||| 2 ^ k }
  else s

/-! ## Pruning (R364–R366) -/

/-- MCAST_PRUNED for member `i`, and its prune bit; a GAP tells it the first message it misses when `gap`. -/
def State.prune (s : State) (g i : Nat) (seq : Word) (why : Nat) (gap : Bool) : State :=
  let s := s.wr64 (IZP_MG_PRUNE g) (s.rd64 (IZP_MG_PRUNE g) ||| 2 ^ i)
  let s := if gap then
      (s.sendPacket { typ := .gap, rset := BitVec.ofNat 2 (s.rf (IZP_MG_CTL g) IZP_MG_CTL_RSET), dst := BitVec.ofNat 16 (s.memberDev g i),
                      src := BitVec.ofNat 16 s.devId, tag := BitVec.ofNat 17 g, arg := seq,
                      hops := BitVec.ofNat 8 (s.rf IZP_GCFG IZP_GCFG_HOP_LIMIT) }).2 else s
  s.post 0x908 cWARN 0 0xFFFF [(0x10, g), (0x12, s.mslot g i), (0x14, s.memberDev g i), (0x18, seq.toNat), (0x1C, why)]

/-- The WINDOW in force of a group, in lines (Table 9.11). -/
def State.mcWindow (s : State) (g : Nat) : Nat :=
  let w := s.rf (IZP_MG_WINDOW g) IZP_MG_WINDOW_LINES
  if w = 0 then 8192 else max 16 w

end Sys2Proof.Machine
end

