-- ==== Sys2Proof/Machine/Fabric.lean ====
section
/-! DEFINITION. Links, routing of transit packets, completions, bypasses and multicast (09, R336–R368). -/
namespace Sys2Proof.Machine

/-! ## Links -/

/-- LIGHT_RECEIVED (R338): an enabled port that receives light trains. -/
def execLightReceived (p : Fin 16) (s : State) : Out :=
  let s := s.setPort p { s.port p with light := true }
  .next (if s.link p = lnkDown then s.restLink p else s)

/-- LINK_TRAINED (R338, R339, R342). -/
def execLinkTrained (p : Fin 16) (dev : DevId) (pp : BitVec 4) (lower upper : Bool) (s : State) : Out :=
  .next (if s.link p ≠ lnkTraining then s
  else if lower && upper then s.linkUp p dev.toNat pp.toNat 8 0
  else if lower then s.linkUp p dev.toNat pp.toNat 4 0
  else if upper then s.linkUp p dev.toNat pp.toNat 4 1
  else s.wf (IZP_STATUS p) IZP_STATUS_STATE lnkDown)

/-- LOSS_OF_LIGHT (R343). -/
def execLossOfLight (p : Fin 16) (s : State) : Out :=
  let s := s.setPort p { s.port p with light := false }
  .next (if s.portUp p || s.link p = lnkTraining then s.linkDown p 1 else s)

/-- PORT_RETRAIN (R342): DOWN with cause 3, then training again. -/
def execPortRetrain (p : Fin 16) (s : State) : Out := s.atBlock .izp p fun s =>
  .next (if s.portUp p then s.linkDown p 3 else if s.link p = lnkDown then s.restLink p else s)

/-- PORT_EN_WRITE (R380). -/
def execPortEnWrite (p : Fin 16) (v : Bool) (s : State) : Out := s.atBlock .izp p fun s =>
  let t := s.wb (IZP_CTRL p) IZP_CTRL_EN v
  .next (if v then (if s.link p = lnkDisabled then t.restLink p else t)
  else if s.link p = lnkUp || s.link p = lnkTraining then t.linkDown p 3
  else t.restLink p)

/-- CORRUPT_PACKET (R340). -/
def execCorruptPacket (p : Fin 16) (fec : Bool) (s : State) : Out :=
  .next (s.badPacket p fec)

/-- RETRANSMIT_TIMEOUT (R340, R341): on a NAK, or 2 µs without acknowledgement, everything not acknowledged goes again. -/
def execRetransmitTimeout (p : Fin 16) (nak : Option (BitVec 12)) (s : State) : Out :=
  let s := match nak with | some q => s.acked p q | none => s
  let x := s.port p
  .next (if !s.portUp p || x.unacked = [] || 16 ≤ x.retries || (nak.isNone && s.clock < x.since + 2000) then s
  else (s.setPort p { x with retries := x.retries + 1 }).retransmit p)

/-- RETRY_LIMIT (R341, R343). -/
def execRetryLimit (p : Fin 16) (s : State) : Out :=
  .next (if s.portUp p && 16 ≤ (s.port p).retries then s.linkDown p 2 else s)

/-- LINK (R340, R344): a packet of acknowledgements alone. -/
def execLink (p : Fin 16) (pk : Packet) (s : State) : Out :=
  .next (if !s.portUp p then s
  else if pk.crc ≠ packetCrc pk then s.badPacket p false
  else if pk.lackValid then s.acked p pk.lack else s)

/-- PACKET_FORWARD (R355–R357): a transit packet goes on, waits for a port, or is dropped with its completion. -/
def execPacketForward (p : Fin 16) (pk : Packet) (s : State) : Out :=
  let drop (s : State) (status : Nat) : State := (s.bump IZP_STAT_DROPPED 1).complReply pk status [] 0
  .next (if pk.dst.toNat = s.devId then s
  else match s.receive p pk with
  | (false, s) => s
  | (true, s) =>
    match s.nextPort pk.rset.toNat pk.dst.toNat pk.addr.toNat (some p) with
    | .here | .noRoute => drop s 5
    | .wait => if pk.hops = 0 then drop s 6 else { s with fabQueue := s.fabQueue ++ [(p.val, { pk with hops := pk.hops - 1 })] }
    | .port out =>
      if pk.hops = 0 then drop s 6
      else
        s.transmit out { pk with hops := pk.hops - 1, vc := s.hopVc (some p.val) pk.rset.toNat out pk.vc })

/-! ## Completions at the requester (R345–R349) -/

/-- CPL (R349). -/
def execCpl (p : Fin 16) (pk : Packet) (s : State) : Out :=
  .next (if pk.dst.toNat ≠ s.devId then s
  else match s.receive p pk with
  | (false, s) => s
  | (true, s) => s.takeReq pk.tag.toNat pk.status.toNat [] 0)

/-- CPL_DATA (R349). -/
def execCplData (p : Fin 16) (pk : Packet) (s : State) : Out :=
  .next (if pk.dst.toNat ≠ s.devId then s
  else match s.receive p pk with
  | (false, s) => s
  | (true, s) => s.takeReq pk.tag.toNat pk.status.toNat pk.payload pk.poison.toNat)

/-- REQUEST_TIMEOUT (R347). -/
def execRequestTimeout (tag : BitVec 17) (s : State) : Out :=
  let t := s.rf IZP_GCFG IZP_GCFG_REQ_TMO
  .next (match s.req tag.toNat with
  | some r => if s.clock < r.since + 1000000 * (if t = 0 then 200 else t) then s else s.takeReq tag.toNat 7 [] 0
  | none => s)

/-! ## Bypasses -/

/-- BYPASS_OPEN (R351, R600). -/
def execBypassOpen (mask : BitVec 8) (s : State) : Out := s.atBlock .izpg 0 fun s =>
  .next ((List.range 8).foldl (fun (acc : State) k => if bit mask.toNat k then acc.openBypass k else acc) s)

/-- BYPASS_CLOSE (R350). -/
def execBypassClose (mask : BitVec 8) (s : State) : Out := s.atBlock .izpg 0 fun s =>
  .next ((List.range 8).foldl (fun (acc : State) k => if bit mask.toNat k then acc.closeBypass k 4 4 else acc) s)

/-- BYPASS_SETTLED (R351, R352): the switch stands open, and its ports may train; or closed. -/
def execBypassSettled (k : Fin 8) (s : State) : Out :=
  .next (if !s.bypMoving k then s
  else
    let s := s.wf IZP_BYP IZP_BYP_MOVING (s.rf IZP_BYP IZP_BYP_MOVING - 2 ^ k.val)
    if bit s.bypOpening k then
      let s := { s.wf IZP_BYP IZP_BYP_CLOSED (s.rf IZP_BYP IZP_BYP_CLOSED - 2 ^ k.val) with bypOpening := s.bypOpening - 2 ^ k.val }
      let s := [2 * k.val, 2 * k.val + 1].foldl (fun (acc : State) p => acc.restLink p) s
      s.post 0x905 cINFO (unitOf 0xB (2 * k)) 0xFFFF [(0x10, k)]
    else if s.dom 63 = 0 then s
    else s.post 0x904 cINFO (unitOf 0xB (2 * k)) 0xFFFF [(0x10, k), (0x11, sget 0 s.bypCause k)])

/-! ## Multicast -/

/-- Why an enable of group `g` is refused (R361, reasons of MCAST_CONFIG in their order); 0 when it is not. -/
def State.mcRefusal (s : State) (g : Nat) : Nat :=
  let src := s.rf64 (IZP_MG_SRC g) IZP_MG_SRC_ADDR
  let len := 64 * (s.rd (IZP_MG_LEN g)).toNat
  let base := s.rf (IZP_MG_SLOTS g) IZP_MG_SLOTS_SLOT_BASE
  let n := s.rf (IZP_MG_SLOTS g) IZP_MG_SLOTS_MEMBERS
  let others := s.mcOn.filter (· ≠ g)
  if len = 0 then 1
  else if 0x6000000000 < src + len then 2
  else if others.any fun h => overlap (src, len) (s.rf64 (IZP_MG_SRC h) IZP_MG_SRC_ADDR, 64 * (s.rd (IZP_MG_LEN h)).toNat) then 3
  else if n < 1 || 64 < n then 4
  else if 16384 < base + n || others.any fun h => overlap (base, n) (s.rf (IZP_MG_SLOTS h) IZP_MG_SLOTS_SLOT_BASE, s.rf (IZP_MG_SLOTS h) IZP_MG_SLOTS_MEMBERS) then 5
  else if (List.range n).any fun i => s.memberDev g i == s.devId then 6
  else 0

/-- MCAST_ENABLE (R361, R362): a write of `IZP_MG_CTL`. -/
def execMcastEnable (g : Fin 4096) (v : Word) (s : State) : Out := s.atBlock .izpg 0 fun s =>
  let was := s.flag (IZP_MG_CTL g) IZP_MG_CTL_EN
  let s := (s.wb (IZP_MG_CTL g) IZP_MG_CTL_POLICY (bit v.toNat 1)).wf (IZP_MG_CTL g) IZP_MG_CTL_RSET (bits v.toNat 2 2)
  .next (if !bit v.toNat 0 then
    let s := (s.wb (IZP_MG_CTL g) IZP_MG_CTL_EN false).wb (IZP_MG_CTL g) IZP_MG_CTL_HOLDING false
    let gone := s.msgs g
    let s : State := { s.setMsgs g [] with mcOn := s.mcOn.filter (· ≠ g.val) }
    gone.foldl (fun (acc : State) m => acc.settleStage m.who) s
  else if was then s
  else
    let why := s.mcRefusal g
    if why ≠ 0 then
      (s.wb (IZP_MG_CTL g) IZP_MG_CTL_ERR true).post 0x90A cWARN 0 0xFFFF [(0x10, g), (0x12, why)]
    else
      let s := (s.wb (IZP_MG_CTL g) IZP_MG_CTL_ERR false).wb (IZP_MG_CTL g) IZP_MG_CTL_EN true
      let s := (List.range (s.rf (IZP_MG_SLOTS g) IZP_MG_SLOTS_MEMBERS)).foldl (fun (acc : State) i =>
        acc.wf (IZP_MSLOT (acc.mslot g i)) IZP_MSLOT_CREDIT (acc.mcWindow g)) s
      { s with mcOn := s.mcOn ++ [g.val] })

/-- One member of the message being sent: pruned, absent, sent to, or still waiting for credit (R360, R362, R363, R366). The
first component tells that it waits. -/
def State.mcOne (s : State) (g : Nat) (m : McMsg) (i : Nat) : (Bool × Bool) × State :=
  let dev := s.memberDev g i
  let n := m.data.length / 64
  if s.pruned g i then ((false, false), s)
  else if bit (s.rd (IZP_ABSENT (dev / 32))).toNat (dev % 32) then ((false, false), s.prune g i m.seq 2 false)
  else if s.credit g i < n then ((true, false), s)
  else
    let s := (s.wf (IZP_MSLOT (s.mslot g i)) IZP_MSLOT_CREDIT (s.credit g i - n)).bump IZP_STAT_MCAST_LINES n
    let pk : Packet := { typ := .mcastWrite, rset := BitVec.ofNat 2 (s.rf (IZP_MG_CTL g) IZP_MG_CTL_RSET), lines := n, poison := m.poison,
                         dst := BitVec.ofNat 16 dev, src := BitVec.ofNat 16 s.devId, addr := BitVec.ofNat 40 (s.rf64 (IZP_MG_DST g) IZP_MG_DST_ADDR + m.off),
                         hops := BitVec.ofNat 8 (s.rf IZP_GCFG IZP_GCFG_HOP_LIMIT), tag := BitVec.ofNat 17 g, arg := m.seq, payload := m.data }
    match s.sendPacket pk with
    | (none, s) => ((false, true), s)
    | (some _, s) => ((false, false), (s.bump IZP_STAT_DROPPED 1).wf (IZP_MSLOT (s.mslot g i)) IZP_MSLOT_CREDIT (s.credit g i + n))

/-- Message `m`, in place `at_` of group `g`, goes to every member it still waits for whose credit covers it. -/
def State.mcGo (s : State) (g at_ : Nat) (m : McMsg) : State :=
  let (left, sent, s) := m.left.foldl (fun (acc : List Nat × List Nat × State) i =>
    let (left, sent, s) := acc
    let ((waits, went), s) := s.mcOne g m i
    (if waits then left ++ [i] else left, if went then sent ++ [i] else sent, s)) (([], [], s) : List Nat × List Nat × State)
  let holding := s.flag (IZP_MG_CTL g) IZP_MG_CTL_HOLDING
  let m := { m with left := left, unacked := m.unacked ++ sent, since := if left ≠ [] && !holding then s.clock else m.since }
  ((s.wb (IZP_MG_CTL g) IZP_MG_CTL_HOLDING (!left.isEmpty)).setMsgs g ((s.msgs g).set at_ m)).settleMsgs g

/-- MCAST_SEND (R360–R364, R366): the oldest message still to be sent goes to every member whose credit covers it. -/
def execMcastSend (g : Fin 4096) (s : State) : Out :=
  .next (match (s.msgs g).findIdx? fun m => !m.left.isEmpty with
  | none => s
  | some at_ =>
    match (s.msgs g)[at_]? with
    | none => s
    | some m => s.mcGo g at_ m)

/-- MCAST_HOLD_EXPIRY (R364, R365): under HOLD the group reports and goes on waiting, under PRUNE the members still without
credit are pruned. -/
def execMcastHoldExpiry (g : Fin 4096) (s : State) : Out :=
  let us := s.rf (IZP_MG_HOLD g) IZP_MG_HOLD_US
  .next (match (s.msgs g).findIdx? fun m => !m.left.isEmpty with
  | none => s
  | some at_ =>
    match (s.msgs g)[at_]? with
    | none => s
    | some m =>
      let late := m.left.filter fun i => decide (s.credit g i < m.data.length / 64)
      if !s.flag (IZP_MG_CTL g) IZP_MG_CTL_HOLDING || late = [] || s.clock < m.since + 1000 * (if us = 0 then 50 else us) then s
      else
        let s := s.wr (IZP_MG_STALLS g) (BitVec.ofNat 32 (satTo (2 ^ 32 - 1) ((s.rd (IZP_MG_STALLS g)).toNat + 1)))
        if s.flag (IZP_MG_CTL g) IZP_MG_CTL_POLICY then
          let s := late.foldl (fun (acc : State) i => acc.prune g i m.seq 1 true) s
          let left := m.left.filter fun i => !late.contains i
          ((s.wb (IZP_MG_CTL g) IZP_MG_CTL_HOLDING (!left.isEmpty)).setMsgs g ((s.msgs g).set at_ { m with left := left })).settleMsgs g
        else
          let i := late.headD 0
          let s := s.postLim (s.flag IZP_GCTRL IZP_GCTRL_MCAST_EVT_EN) ms g 1 0x907 cWARN 0 0xFFFF
            fun _ => [(0x10, g), (0x12, s.mslot g i), (0x14, s.memberDev g i), (0x18, m.seq.toNat)]
          s.setMsgs g ((s.msgs g).set at_ { m with since := s.clock }))

/-- MCAST_UNPRUNE (R368): prune bits are cleared by writing 1. -/
def execMcastUnprune (g : Fin 4096) (mask : DWord) (s : State) : Out := s.atBlock .izpg 0 fun s =>
  let x := s.rd64 (IZP_MG_PRUNE g)
  .next (s.wr64 (IZP_MG_PRUNE g) (x - (x &&& mask.toNat)))

/-- CREDIT (R362, R363): lines go back to the member's credit, and its oldest message not acknowledged is. -/
def execCredit (p : Fin 16) (pk : Packet) (s : State) : Out :=
  let g := pk.tag.toNat % 4096
  .next (if pk.dst.toNat ≠ s.devId then s
  else match s.receive p pk with
  | (false, s) => s
  | (true, s) =>
    s.creditOf g pk.src.toNat pk.arg.toNat)

/-- GAP (R367). -/
def execGap (p : Fin 16) (pk : Packet) (s : State) : Out :=
  .next (if pk.dst.toNat ≠ s.devId then s
  else match s.receive p pk with
  | (false, s) => s
  | (true, s) => s.post 0x909 cWARN 0 0xFFFF [(0x10, pk.tag.toNat % 4096), (0x14, pk.src.toNat), (0x18, pk.arg.toNat)])

end Sys2Proof.Machine
end

