-- ==== Sys2Proof/Machine/Lines.lean ====
section
/-! DEFINITION. Reads of HBM lines under their code, and writes of lines or parts of lines of the HBM stacks and the infeed stores (08,
R291–R296, R298, R299, R623). -/
namespace Sys2Proof.Machine

def msHour : Nat := 3600000000000

/-! ## The code of a line (R291, R292) -/

/-- The stored symbols of the line at `a` (R291): 32 data symbols, each of two bytes in ascending address order, the metadata symbol with the
POISON mark in bit 0, and the 3 check symbols over them. -/
def State.codeword (s : State) (a : Nat) : List (BitVec 16) :=
  let w := (List.range 32).map (fun i => BitVec.ofNat 16 (s.num (a + 2 * i) 2)) ++ [if s.mark a then 1 else 0]
  w ++ (List.range 3).map (Config.rsCheck w)

/-- Symbols as the controller receives them. -/
def received (w : List (BitVec 16)) (e : LineErr) : List (BitVec 16) :=
  w.zipIdx.map fun x => e.foldl (fun v q => if q.1.val = x.2 then v ^^^ q.2 else v) x.1

/-- The 64 bytes that a word's data symbols hold. -/
def wordBytes (w : List (BitVec 16)) : List Byte := (w.take 32).flatMap fun x => leBytes x.toNat 2

/-- The POISON mark that a word's metadata symbol holds. -/
def wordMark (w : List (BitVec 16)) : Bool := ((w[32]?).getD 0).getLsbD 0

/-- The parity bit that an infeed store keeps beside its byte at `a` (R623), formed as the byte is written: it is a function of the byte, so `State.mem` is
its one home. A byte and a bit that disagree are the parity error that a command's operand brings (R321, log entry 50). -/
def State.infeedParity (s : State) (a : Nat) : Bool := (List.range 8).foldl (fun p i => p ^^ (s.byte a).getLsbD i) Config.parityOdd

/-- What the decoder makes of a line. -/
inductive LineDecode where
  | clean | corrected | uncorrectable
deriving DecidableEq, Repr

/-- The decoder's result on the line at `a` received with the errors `e`, and the word it answers (R292): an error of one symbol is corrected, one of
two is uncorrectable, and one of three or more is detected, miscorrected in one further symbol, or missed. -/
def State.decodeLine (s : State) (a : Nat) (e : LineErr) : (LineDecode × List (BitVec 16)) × State :=
  let w := s.codeword a
  let v := received w e
  let wrong := ((w.zip v).filter fun x => x.1 != x.2).length
  if wrong = 0 then ((.clean, w), s)
  else if wrong = 1 then ((.corrected, w), s)
  else if wrong = 2 then ((.uncorrectable, v), s)
  else
    let (k, s) := s.takeFree
    if k.toNat % 3 = 0 then ((.uncorrectable, v), s)
    else if k.toNat % 3 = 1 then ((.corrected, received v [(Fin.ofNat 36 (k.toNat / 3 % 33), BitVec.ofNat 16 (k.toNat / 2 ^ 16))]), s)
    else ((.clean, v), s)

/-! ## Errors of a line (Table 8.1, R295, R296) -/

def srcCode : ErrSource → Nat
  | .demand => 0 | .scrub => 1 | .retireCopy => 2 | .partialWrite => 3

/-- One corrected line of channel `ch`: counted, and HBM_CE under its limit with the channel of the first correction. -/
def State.corrected (s : State) (ch src ctx : Nat) : State :=
  let m := ch / 32
  let s := s.incF (HBM_CH_ERR m (ch % 32)) HBM_CH_ERR_CE 1
  let x := s.stack m
  let recent := ((sget [] x.ce (ch % 32)).filter fun t => decide (s.clock < t + msHour)).take 999
  let s := s.setStack m { x with ce := sput [] (s.clock :: recent) x.ce (ch % 32) }
  match s.limit (s.flag (HBM_CTRL m) HBM_CTRL_CE_EVT_EN) 0x800 m ms (ch + 256 * src) 1 with
  | (some (f, k), s) => s.post 0x800 cINFO (unitOf 9 (f % 256)) ctx [(0x10, k), (0x14, f / 256)]
  | (none, s) => s

/-- An event against an HBM channel (R296); `why` is 1 for an uncorrectable line, 2 for the correction rate. -/
def State.channelEvent (s : State) (ch why : Nat) : State :=
  let s := s.histEvent 9 ch 0
  s.setHist (histKey 9 ch 0) { s.histOf (histKey 9 ch 0) with why := why }

/-- A line that could not be corrected on the read and one re-read: written back as read, `w`, with POISON, counted, recorded and reported
(R293, R299; `src` is `HBM_ERR_INFO.SOURCE`). -/
def State.uncorrectable (s : State) (a : Nat) (w : List (BitVec 16)) (ch src ctx : Nat) : State :=
  let m := a / 0xC00000000
  let pc := (place (a % 0xC00000000)).2.1
  let s := ((s.putLine a (wordBytes w) true).bump (HBM_STAT_UE m) 1).incF (HBM_CH_ERR m (ch % 32)) HBM_CH_ERR_UE 1
  let s := if s.flag (HBM_ERR_INFO m) HBM_ERR_INFO_VALID then s
    else (s.wr (HBM_ERR_INFO m) (BitVec.ofNat 32 (ch % 32 + 32 * pc + 64 * src + 2 ^ 31))).wr64 (HBM_ERR_ADDR m) (a / 64 * 64)
  if src = 1 then s.post 0x803 cFAULT (unitOf 9 ch) 0xFFFF [(0x10, a / 64 * 64), (0x16, pc)]
  else (s.channelEvent ch 1).post 0x801 cFAULT (unitOf 9 ch) ctx [(0x10, a / 64 * 64), (0x15, src), (0x16, pc)]

/-- A corrected line goes back to its place: at once, or, of a scrub's read, when the scrub comes to write it (R293, R298). -/
def State.writeBack (s : State) (a : Nat) (w : List (BitVec 16)) (src : Nat) : State :=
  if src = 1 then
    let x := s.stack (a / 0xC00000000)
    s.setStack (a / 0xC00000000) { x with wb := (x.wb.filter fun e => e.1 != a) ++ [(a, wordBytes w, wordMark w)] }
  else s.putLine a (wordBytes w) (wordMark w)

/-- The channel whose controller reads the line at `a`: for a retire's copy the one that is being retired. -/
def State.readerOf (s : State) (a src : Nat) : Nat :=
  if src = 2 then s.oldChannel a else s.channelOf a

/-- A controller read of the line at `a`, received with the errors `d`, on its re-read with `r`: the data it returns and whether they are marked
(Table 8.1). -/
def State.lineRead (s : State) (a : Nat) (d r : LineErr) (src ctx : Nat) : (List Byte × Bool) × State :=
  let ch := s.readerOf a src
  let m := a / 0xC00000000
  let answer (w : List (BitVec 16)) (s : State) : (List Byte × Bool) × State :=
    ((wordBytes w, wordMark w), s.bump (HBM_STAT_POISON_RD m) (b2n (wordMark w)))
  match s.decodeLine a d with
  | ((.clean, w), s) => answer w s
  | ((.corrected, w), s) => answer w (((s.writeBack a w src).bump (HBM_STAT_CE m) 1).corrected ch src ctx)
  | ((.uncorrectable, _), s) =>
    match s.decodeLine a r with
    | ((.uncorrectable, w), s) => ((wordBytes w, true), s.uncorrectable a w ch src ctx)
    | ((.corrected, w), s) => answer w (((s.writeBack a w src).bump (HBM_STAT_RETRY_OK m) 1).corrected ch src ctx)
    | ((.clean, w), s) => answer w ((s.bump (HBM_STAT_RETRY_OK m) 1).corrected ch src ctx)

/-! ## Writes of lines and parts of lines (R294, R623) -/

/-- `data` fits one line at `a`. -/
def inLine (a len : Nat) : Bool := decide (0 < len) && decide (a % 64 + len ≤ 64)

/-- A write of a whole line or of part of one at a mapped HBM address: part of a line is merged into what the read of the line returns, and carries
its mark or that of the new bytes; `d` and `r` are the errors that read and its re-read meet (R294). -/
def State.hbmWrite (s : State) (a : Nat) (data : List Byte) (poison : Bool) (d r : LineErr) : State :=
  if data.length = 64 then s.putLine a data poison
  else
    let (x, s) := (s.bump (HBM_STAT_PARTIAL (a / 0xC00000000)) 1).lineRead (a / 64 * 64) d r 3 0xFFFF
    s.putLine (a / 64 * 64) (x.1.take (a % 64) ++ data ++ x.1.drop (a % 64 + data.length)) (poison || x.2)

/-- A write of a whole line or of part of one at a mapped address of infeed store `n` (R623). -/
def State.infeedWrite (s : State) (n a : Nat) (data : List Byte) (poison : Bool) : State :=
  let old := s.mark a
  ((s.setBytes a data).setMark a (if data.length = 64 then poison else poison || old)).bump (INF_STAT_WR_BYTES n) data.length

end Sys2Proof.Machine
end

