-- ==== Sys2Proof/Machine/HostOps.lean ====
section
/-! DEFINITION. What the host commands share (16): the loss of the PCIe link, MSI-X messages, and accesses of the local window. -/
namespace Sys2Proof.Machine

/-! ## The link (R573, R574, R581) -/

/-- Code of HOST_LINK_DOWN (Table 16.11). -/
def lossCode : LinkLoss → Nat
  | .surprise => 1 | .perst => 2 | .domain60 => 3 | .hotReset => 4

/-- Code of HOST_REQ_FAIL (Table 16.11). -/
def failCode : HostFail → Nat
  | .unsupported => 1 | .abort => 2 | .poisoned => 3 | .timeout => 4 | .linkDown => 5

/-- The PCIe link is lost: counted, every outstanding read fails, and HOST_LINK_DOWN from the Vent (R581, R597). -/
def State.hostLinkDown (s : State) (why : LinkLoss) : State :=
  if !s.hostUp then s
  else
    let s := (s.wr PCI_STATUS (s.rd PCI_STATUS &&& BitVec.ofNat 32 0x2000)).bump PCI_STAT_LINK_DOWN 1
    let rs := s.hostReqs ++ s.hostWait
    let s := (rs.foldl (fun (acc : State) r => acc.failHost r 5) { s with hostReqs := [], hostWait := [] }).resumeHost rs
    if s.flag PCI_CTRL PCI_CTRL_LINK_EVT_EN then s.postVent 0x1000 cWARN (unitOf 0xE 0) [(0x10, lossCode why)] else s

/-! ## Interrupts (R572, R587) -/

/-- Vector `v` is masked in the MSI-X table. -/
def State.msixMasked (s : State) (v : Nat) : Bool := bit (sget 0 s.msixTable (4 * v + 3)).toNat 0

/-- Queue `e` signals its vector: a masked vector goes pending, and a message needs the link. -/
def State.signalQueue (s : State) (e : Nat) : State :=
  let v := s.rf (EVT_Q_CFG e) EVT_Q_CFG_VECTOR
  let s := { s with evtQs := sput {} {} s.evtQs e }
  if s.msixMasked v then { s with msixPending := sput false true s.msixPending v }
  else if s.hostUp then { s.wakeLink with msixSent := v :: s.msixSent }
  else s

/-- EVT_QUEUE_ERROR without a limit. -/
def State.evtError (s : State) (e why : Nat) : State := s.postOver e 0x1004 cWARN 0 0xFFFF fun _ => [(0x10, e), (0x11, why)]

/-- Slots of event queue `e`. -/
def State.evtSize (s : State) (e : Nat) : Nat := 2 ^ s.rf (EVT_Q_CFG e) EVT_Q_CFG_LOG2_SIZE

/-! ## The local window (R578) -/

/-- Ranges that the window reaches. -/
def inWindow (a : Nat) : Bool :=
  match region a with
  | .hbm _ _ | .infeed _ _ | .accWin _ _ => true
  | _ => false

/-- Parts of `[a, a + len)` that lie in one line each: offset in the range and length. -/
def lineParts (a len : Nat) : List (Nat × Nat) :=
  (lineAddrs a len).map fun l => (max a l - a, min (a + len) (l + 64) - max a l)

/-- A local read through the window: its bytes, whether its data carries a mark, and whether part of it is unmapped. -/
def State.windowRead (s : State) (a len : Nat) : List Byte × Bool × Bool :=
  match region a with
  | .accWin n _ =>
    if s.accReadable n && region (a + len - 1) == .accWin n ((a + len - 1 - 0xE100000000) % 0x1000000) then
      (s.bytes a len, false, false)
    else (List.replicate len 0, true, true)
  | _ =>
    if inWindow a && s.mapped a && s.mapped (a + len - 1) then (s.bytes a len, s.anyMark a len, false)
    else (List.replicate len 0, true, true)

/-- One line or part of one line is written through the window to HBM or an infeed store (R294, R623); `d` and `r` are the errors that the read for
a partial write and its re-read meet. -/
def State.windowWrite (s : State) (a : Nat) (data : List Byte) (poison : Bool) (d r : LineErr) : State :=
  match region a with
  | .accWin _ _ => s
  | .hbm _ _ => if !s.mapped a then s.unmappedEvent .host none (s.glob a) true else s.hbmWrite a data poison d r
  | .infeed n _ => if !s.mapped a then s.unmappedEvent .host none (s.glob a) true else s.infeedWrite n a data poison
  | _ => s.unmappedEvent .host none (s.glob a) true

/-- Reads of another device through the window, on the default route set. -/
def State.remoteRead (s : State) (dev a len : Nat) : State :=
  (runs (a / 64 * 64) (a + len - a / 64 * 64)).foldl (fun (acc : State) r =>
    acc.issue { unit := .host, lines := r.2 }
      { typ := .read, rset := BitVec.ofNat 2 (acc.rf IZP_GCFG IZP_GCFG_DEFAULT_RS), dst := BitVec.ofNat 16 dev,
        addr := BitVec.ofNat 40 r.1, arg := BitVec.ofNat 32 r.2 }) s

/-- One line or part of one line of another device is written through the window; part of a line is read and merged first. -/
def State.remoteWrite (s : State) (dev a : Nat) (data : List Byte) (poison : Bool) : State :=
  let rs := BitVec.ofNat 2 (s.rf IZP_GCFG IZP_GCFG_DEFAULT_RS)
  if data.length = 64 then
    s.issue { unit := .host, lines := 1 }
      { typ := .write, rset := rs, dst := BitVec.ofNat 16 dev, addr := BitVec.ofNat 40 a, lines := 1, poison := if poison then 1 else 0, payload := data }
  else
    s.issue { unit := .host, lines := 1, merge := some (a % 64, data, poison) }
      { typ := .read, rset := rs, dst := BitVec.ofNat 16 dev, addr := BitVec.ofNat 40 (a / 64 * 64), arg := 1 }

end Sys2Proof.Machine
end

