-- ==== Sys2Proof/Machine/Host.lean ====
section
/-! DEFINITION. The host interface (16): the local window, host-memory requests, the PCIe link, and the event queues. -/
namespace Sys2Proof.Machine

/-- WINDOW_ACCESS (R578): local or remote, read or write. -/
def execWindowAccess (off : BitVec 36) (rd : Bool) (len : Nat) (data : List Byte) (poison : Bool) (errs : List (Addr × LineErr × LineErr)) (parity : Bool)
    (s : State) : Out :=
  let n := if rd then len else data.length
  .next (if !s.hostUp || n = 0 then s
  else
    let s := s.wakeLink
    let a := 2 ^ 30 * s.rf64 PCI_WIN_BASE PCI_WIN_BASE_BASE + off.toNat
    let dev := s.rf PCI_WIN_CFG PCI_WIN_CFG_DEV
    let here := !s.flag PCI_WIN_CFG PCI_WIN_CFG_REMOTE || dev = s.devId
    let hit := parity && here && inWindow a && s.mapped a
    let s := if hit then s.wayParity (unitOf 0xE 0) 0xFF 0xFFFF (s.glob (a / 64 * 64)) else s
    if s.flag PCI_WIN_CFG PCI_WIN_CFG_REMOTE && dev != s.devId && inWindow a then
      if rd then s.remoteRead dev a len
      else (lineParts a n).foldl (fun (acc : State) e => acc.remoteWrite dev (a + e.1) ((data.drop e.1).take e.2) poison) s
    else if rd then
      let (bytes, bad, unmapped) := s.windowRead a len
      let s := if unmapped then s.unmappedEvent .host none (s.glob a) false else (s.countMarks a len).countInf a len false
      { s.bump PCI_STAT_POISON_TX (b2n (bad || hit)) with resp := { data := bytes, poison := bad || hit } }
    else (lineParts a n).foldl (fun (acc : State) e => 
      let err := ((errs.find? fun x => x.1.toNat / 64 == (a + e.1) / 64).map (·.2)).getD ([], [])
      acc.windowWrite (a + e.1) ((data.drop e.1).take e.2) (poison || hit) err.1 err.2) s)

/-- HOST_REQUEST_COMPLETE (R581, R225): the oldest outstanding read delivers its data, or its lines marked. -/
def execHostRequestComplete (fail : Option HostFail) (data : List Byte) (s : State) : Out :=
  .next (match s.hostReqs with
  | [] => s
  | r :: rest =>
    let s := { s with hostReqs := rest }
    ((match fail with
    | none => s.deliverHost r data false
    | some f => (s.bump PCI_STAT_POISON_RX (if f = HostFail.poisoned then r.len / 64 else 0)).failHost r (failCode f)).resumeHost [r]).unstallHost)

/-- HOST_READ_TIMEOUT (R581): the oldest read that has waited for the completion timeout fails. -/
def execHostReadTimeout (s : State) : Out :=
  .next (if s.ctoOff then s
  else match s.hostReqs.find? fun r => decide (r.since + s.ctoNs ≤ s.clock) with
    | none => s
    | some r => (({ s with hostReqs := s.hostReqs.erase r }.failHost r 4).resumeHost [r]).unstallHost)

/-- PCIE_LINK_DOWN (R581, R597). -/
def execPcieLinkDown (why : LinkLoss) (s : State) : Out := .next (s.hostLinkDown why)

/-- PCIE_LINK_UP (R572, R597): the link trains while domain 60 is ON and PERST_N is high. -/
def execPcieLinkUp (width : BitVec 5) (gen : BitVec 4) (flit : Bool) (s : State) : Out :=
  .next (if s.hostUp || s.perst || s.dom 60 ≠ 1 || !([1, 2, 4, 8, 16] : List Nat).contains width.toNat || gen.toNat = 0 || gen.toNat > 6 then s
  else
    let s := (((s.wb PCI_STATUS PCI_STATUS_LINK_UP true).wf PCI_STATUS PCI_STATUS_WIDTH width.toNat).wf PCI_STATUS PCI_STATUS_GEN gen.toNat).wb
      PCI_STATUS PCI_STATUS_FLIT flit
    let d := [(0x10, width.toNat), (0x11, gen.toNat), (0x12, b2n flit)]
    if s.flag PCI_CTRL PCI_CTRL_LINK_EVT_EN then
      let s := s.post 0x1001 cINFO (unitOf 0xE 0) 0xFFFF d
      if width = 16 && gen = 6 && flit then s else s.post 0x1002 cWARN (unitOf 0xE 0) 0xFFFF d
    else s)

/-- LINK_IDLE_L1 (R574). -/
def execLinkIdleL1 (s : State) : Out :=
  .next (if s.hostUp && s.rf PWR_STATUS PWR_STATUS_STATE = 3 then s.wf PCI_STATUS PCI_STATUS_LPS 2 else s)

/-- EVT_QUEUE_ENABLE (R583): a write of `EVT_Q_CFG[e]`; an enable of a misplaced or misconfigured queue is refused. -/
def execEvtQueueEnable (e : Fin 16) (v : Word) (s : State) : Out := s.atBlock .evt 0 fun s =>
  let s := s.wrSoft (EVT_Q_CFG e) v
  let log := s.rf (EVT_Q_CFG e) EVT_Q_CFG_LOG2_SIZE
  let ok := decide (6 ≤ log) && decide (log ≤ 20) && s.rf64 (EVT_Q_BASE e) EVT_Q_BASE_ADDR % (64 * 2 ^ log) == 0
  .next (if !s.flag (EVT_Q_CFG e) EVT_Q_CFG_EN then s
  else if ok then s.wb (EVT_Q_CFG e) EVT_Q_CFG_ERR false
  else ((s.wb (EVT_Q_CFG e) EVT_Q_CFG_EN false).wb (EVT_Q_CFG e) EVT_Q_CFG_ERR true).evtError e 1)

/-- Record `r` is written into slot `slot` of queue `e`, behind which TAIL moves to `next` (R585, R587). -/
def State.placeRecord (s : State) (e : Nat) (r : Event) (slot next : Nat) : State :=
  let lost := bit (s.rf EVT_STATUS EVT_STATUS_LOST_PEND) e
  let r := if lost then { r with flags := r.flags ||| 1 } else r
  let s := s.wf EVT_STATUS EVT_STATUS_LOST_PEND (s.rf EVT_STATUS EVT_STATUS_LOST_PEND - if lost then 2 ^ e else 0)
  let s := ((s.linkCheck .host none slot 64).putLine slot (leBytes r.toNat 64) false).wf (EVT_Q_TAIL e) EVT_Q_TAIL_INDEX next
  let q : EvtQ := sget {} s.evtQs e
  let s := { s with evtQs := sput {} ({ unsig := q.unsig + 1, oldest := if q.unsig = 0 then s.clock else q.oldest } : EvtQ) s.evtQs e }
  if q.unsig + 1 ≥ max 1 (s.rf (EVT_Q_CFG e) EVT_Q_CFG_COAL_COUNT) || r.cls.toNat = cFATAL then s.signalQueue e else s

/-- Record `r`, bound for queue `e`, finds its slot, or is lost (R584, R585). -/
def State.landRecord (s : State) (e : Nat) (r : Event) (fail : Bool) : State :=
  let tail := s.rf (EVT_Q_TAIL e) EVT_Q_TAIL_INDEX
  let next := (tail + 1) % s.evtSize e
  if !s.flag (EVT_Q_CFG e) EVT_Q_CFG_EN || next = s.rf (EVT_Q_HEAD e) EVT_Q_HEAD_INDEX then s.loseRecord e
  else
    let slot := s.rf64 (EVT_Q_BASE e) EVT_Q_BASE_ADDR + 64 * tail
    if fail || !s.mapped slot || (isAperture slot && !s.hostUp) then
      let s := if s.mapped slot then s.linkCheck .host none slot 64 else s
      (s.loseRecord e).postLim true ms e 1 0x1004 cWARN 0 0xFFFF fun _ => [(0x10, e), (0x11, 3)]
    else s.placeRecord e r slot next

/-- EVENT_RECORD_WRITE_END (R584, R585, R587): the oldest record bound for queue `e` is in its slot, or is lost. -/
def execEventRecordWriteEnd (e : Fin 16) (fail : Bool) (s : State) : Out :=
  .next (match s.evtFly.find? fun x => x.1 == e.val with
  | none => s
  | some x => ({ s with evtFly := s.evtFly.erase x } : State).landRecord e x.2 fail)

/-- COAL_TIMEOUT (R587). -/
def execCoalTimeout (e : Fin 16) (s : State) : Out :=
  let q : EvtQ := sget {} s.evtQs e
  let us := s.rf (EVT_Q_CFG e) EVT_Q_CFG_COAL_US
  .next (if q.unsig > 0 && us > 0 && decide (q.oldest + 1000 * us ≤ s.clock) then s.signalQueue e else s)

/-- EVT_HEAD_WRITE (R576, R588): the head moves within the records not yet consumed. -/
def execEvtHeadWrite (e : Fin 16) (v : Word) (s : State) : Out := s.atBlock .evt 0 fun s =>
  let i := bits v.toNat 0 20
  let size := s.evtSize e
  let head := s.rf (EVT_Q_HEAD e) EVT_Q_HEAD_INDEX
  let tail := s.rf (EVT_Q_TAIL e) EVT_Q_TAIL_INDEX
  .next (if i < size && (i + size - head % size) % size ≤ (tail + size - head % size) % size then s.wf (EVT_Q_HEAD e) EVT_Q_HEAD_INDEX i
  else s.evtError e 2)

end Sys2Proof.Machine
end

