-- ==== Sys2Proof/Machine/SteadyRest.lean ====
section
/-! DEFINITION. The steady rest's sweeps, compensators, supervision and coefficient banks (11, R420–R438; 02, R71). -/
namespace Sys2Proof.Machine

/-! ## Compensator arithmetic (R427) -/

/-- One coefficient term: the exact product shifted right, ties toward +∞. -/
def term (c : Int) (s : Nat) (x : Int) : Int := if s = 0 then c * x else (c * x + 2 ^ (s - 1)) / 2 ^ s

/-- Saturation to ±(2⁴⁷ − 1). -/
def sat48 (x : Int) : Int := clampInt (-(2 ^ 47 - 1)) (2 ^ 47 - 1) x

/-- Saturation to 24 bits (R423). -/
def sat24 (x : Int) : Int := clampInt (-(2 ^ 23)) (2 ^ 23 - 1) x

/-- A signed coefficient register. -/
def State.coef (s : State) (off : Nat) : Int := (s.rd off).toInt

/-- The five-bit shift number `j` of a shift register. -/
def State.shift (s : State) (off j : Nat) : Nat := bits (s.rd off).toNat (5 * j) 5

/-- Entry `j` of a history, 0 when it has not been filled. -/
def nth (l : List Int) (j : Nat) : Int := (l[j]?).getD 0

/-- One computed sample of the compensator with set `k` on error `e` (R427): the loop with its new histories and code, and whether
the code was clamped. -/
def State.compensate (s : State) (k : Nat) (l : Loop) (e : Int) : Loop × Bool :=
  let three := s.flag (STD_SET_CFG k) STD_SET_CFG_FORM
  let notch := s.flag (STD_SET_CFG k) STD_SET_CFG_NOTCH_EN
  let w := sat48 (term (s.coef (STD_SET_NB0 k)) (s.shift (STD_SET_SH1 k) 1) e + term (s.coef (STD_SET_NB1 k)) (s.shift (STD_SET_SH1 k) 2) l.e1 +
    term (s.coef (STD_SET_NB2 k)) (s.shift (STD_SET_SH1 k) 3) l.e2 + term (s.coef (STD_SET_NA1 k)) (s.shift (STD_SET_SH1 k) 4) l.w1 +
    term (s.coef (STD_SET_NA2 k)) (s.shift (STD_SET_SH1 k) 5) l.w2)
  let x := if notch then w else e
  let l := if notch then { l with e2 := l.e1, e1 := e, w2 := l.w1, w1 := w } else l
  let u := term (s.coef (STD_SET_B0 k)) (s.shift (STD_SET_SH0 k) 0) x + term (s.coef (STD_SET_B1 k)) (s.shift (STD_SET_SH0 k) 1) (nth l.xs 0) +
    term (s.coef (STD_SET_B2 k)) (s.shift (STD_SET_SH0 k) 2) (nth l.xs 1) + term (s.coef (STD_SET_A1 k)) (s.shift (STD_SET_SH0 k) 4) (nth l.us 0) +
    term (s.coef (STD_SET_A2 k)) (s.shift (STD_SET_SH0 k) 5) (nth l.us 1)
  let u := if three then u + term (s.coef (STD_SET_B3 k)) (s.shift (STD_SET_SH0 k) 3) (nth l.xs 2) +
    term (s.coef (STD_SET_A3 k)) (s.shift (STD_SET_SH1 k) 0) (nth l.us 2) else u
  let u := sat48 u
  let code := (u + 2 ^ 23) / 2 ^ 24
  let lo : Int := s.rf (STD_SET_LIMITS k) STD_SET_LIMITS_CODE_MIN
  let hi : Int := s.rf (STD_SET_LIMITS k) STD_SET_LIMITS_CODE_MAX
  let out := decide (code < lo) || decide (hi < code)
  let code' := if out then min (max code lo) hi else code
  let u := if out then code' * 2 ^ 24 else u
  ({ l with xs := (x :: l.xs).take 3, us := (u :: l.us).take 3, code := code'.toNat }, out)

/-- The pilot's 16-bit register advances: taps 16, 14, 13 and 11 (R425). -/
def lfsrNext (r : BitVec 16) : BitVec 16 :=
  let x := r.toNat
  BitVec.ofNat 16 (x / 2 + 2 ^ 15 * ((x + x / 4 + x / 8 + x / 32) % 2))

/-! ## Supervision (R435) -/

/-- The residual check on measurement `y` with set `k`; `l` is the loop after its new code. -/
def State.supervise (s : State) (i k : Nat) (y : Int) : State :=
  let l := s.loop i
  match l.ys, l.cs with
  | y1 :: y2 :: _, c1 :: c2 :: _ =>
    let model := term (s.coef (STD_SET_MA k)) (s.shift (STD_SET_MSH k) 0) (y1 - y2) +
      term (s.coef (STD_SET_MB k)) (s.shift (STD_SET_MSH k) 1) ((c1 : Int) - c2)
    let rho := (y - y1) - model
    let l := { l with residual := sat24 rho }
    if s.rf (STD_SET_RESTH k) STD_SET_RESTH_RES_TH < rho.natAbs then
      (s.setLoop i { l with breaches := satTo 255 (l.breaches + 1), senseBreach := false }).bump STD_STAT_BREACH 1
    else s.setLoop i { l with breaches := 0, lastGood := l.code }
  | _, _ => s

/-! ## Measurement (R422–R424, Table 11.2) -/

/-- What a loop finds at its sample. -/
inductive Meas where
  | val (y : Int)
  | hold
  | stale
  | passed
deriving DecidableEq, Repr

/-- The measurement of loop `i`, from the statistics of its window or from its monitor input, and the loop with what it must
remember of this sample. -/
def State.measure (s : State) (i : Nat) : Meas × Loop :=
  let l := s.loop i
  if 1064 ≤ i % nLoops then
    let r := MON_RES (s.rf (STD_LOOP_CFG i) STD_LOOP_CFG_SENSE_CONV * 32 + s.rf (STD_LOOP_CFG i) STD_LOOP_CFG_SENSE_IN)
    let seq := s.rf r MON_RES_SEQ
    let l' := { l with seq := some seq }
    if l.seq = some seq || (l.seq.isNone && seq = 0) then (.stale, l')
    else if s.flag r MON_RES_OVR then (.passed, l')
    else (.val (sext 24 (s.rf r MON_RES_RESULT)), l')
  else
    let w := (s.lathe (i / nLoops)).stats
    if i % nLoops < 528 then
      let (c, d) := w.row (i % nLoops)
      let l' := { l with stat := some (c, d) }
      if w.n < 4096 || d = 0 then (.hold, l')
      else match l.stat with
        | some (c0, d0) => if d0 = 0 then (.hold, l') else (.val (sat24 (ratRne (2 ^ 20 * l.pilot * (c * d0 - c0 * d)) (d * d0))), l')
        | none => (.hold, l')
    else
      let (a, b) := w.col (i % nLoops - 528)
      if w.n < 4096 || b = 0 then (.hold, l) else (.val (sat24 (ratRne (2 ^ 20 * a) b)), l)

/-! ## A sweep (R420–R434) -/

/-- How far a sweep has come: its cycles, and the software accesses still to arrive. -/
structure Sweep where
  cycles : Nat := 0
  left : List Nat := []
deriving DecidableEq, Repr

/-- The accesses that have arrived by now take 4 cycles each, those that arrive meanwhile among them (R432). -/
def takeAccesses : Nat → List Nat → Sweep
  | cycles, [] => { cycles := cycles }
  | cycles, t :: rest => if t ≤ cycles then takeAccesses (cycles + 4) rest else { cycles := cycles, left := t :: rest }

/-- A RUN loop computes in this power state: in Steam only the wavelength heaters do (R518), and none under a forced clear (R446). -/
def State.loopRuns (s : State) (i : Nat) : Bool :=
  !s.trimForced && (s.rf PWR_STATUS PWR_STATUS_STATE != 2 || (decide (1064 ≤ i % nLoops) && decide (i % nLoops % 8 < 2)))

/-- Delay of a code in ns, `w` cycles into a sweep that starts `lead` ns after its sample instant (R432, R433). -/
def loopDelay (lead w : Nat) : Nat := lead + 5 * w / 2

/-- A held sample (R424): nothing is computed, and the model's references are lost. -/
def Loop.holdSample (l : Loop) : Loop := { l with held := true, ys := [], cs := [] }

/-- A loop of core `c` whose code takes effect late: counted, and LOOP_OVERRUN under its limit, with the largest delay since the previous record
(R434). -/
def State.noteLate (s : State) (c i delay : Nat) : State :=
  let s := s.bump STD_STAT_OVERRUN 1
  let l := s.limitOf 0xB01 c
  let worst := max l.most delay
  match (s.setLimit { l with most := worst }).limit (s.flag STD_CTRL STD_CTRL_OVR_EVT_EN) 0xB01 c ms i 1 with
  | (some (f, k), s) =>
    (s.setLimit { s.limitOf 0xB01 c with most := 0 }).post 0xB01 cWARN (unitOf 8 (f % nLoops)) 0xFFFF [(0x10, f / nLoops), (0x11, c), (0x14, worst), (0x18, k)]
  | (none, s) => s

/-- One loop's turn in a sweep of core `c`. -/
def State.sweepLoop (s : State) (c lead : Nat) (acc : Sweep) (i : Nat) : State × Sweep :=
  let l0 := s.loop i
  let acc := takeAccesses acc.cycles acc.left
  if l0.st != .run || !s.loopRuns i then (s, { acc with cycles := acc.cycles + 1 })
  else
    let k := s.setIx i
    let (m, l) := s.measure i
    let m := if l.skip || s.fwBusy.any (fun a => a.kind == 4) then Meas.hold else m
    let hold (stat : Nat) : State × Sweep := ((s.setLoop i l.holdSample).bump stat 1, { acc with cycles := acc.cycles + 1 })
    match m with
    | .stale => hold STD_STAT_STALE
    | .hold =>
      if l.skip then ((s.setLoop i ({ l.holdSample with skip := false }.start (s.trim i).target)).bump STD_STAT_HELD 1, { acc with cycles := acc.cycles + 1 })
      else hold STD_STAT_HELD
    | .passed =>
      (((s.setLoop i { l.holdSample with breaches := satTo 255 (l.breaches + 1), senseBreach := true }).bump STD_STAT_HELD 1).bump STD_STAT_BREACH 1,
        { acc with cycles := acc.cycles + 1 })
    | .val y =>
      let w := acc.cycles + (if s.flag (STD_SET_CFG k) STD_SET_CFG_FORM then 8 else 6) + (if s.flag (STD_SET_CFG k) STD_SET_CFG_NOTCH_EN then 5 else 0)
      let (l, clamped) := s.compensate k { l with held := false } (s.setpoint i - y)
      let amp : Int := s.rf (STD_SET_CFG k) STD_SET_CFG_PILOT
      let row := decide (i % nLoops < 528)
      let d : Int := if l.lfsr.toNat % 2 = 1 then 1 else -1
      let lo : Int := s.rf (STD_SET_LIMITS k) STD_SET_LIMITS_CODE_MIN
      let hi : Int := s.rf (STD_SET_LIMITS k) STD_SET_LIMITS_CODE_MAX
      let out := if row && 0 < amp then (min (max ((l.code : Int) + d * amp) lo) hi).toNat else l.code
      let delay := loopDelay lead w
      let l := { l with delay := satTo 255 (delay / 1000), pilot := if row then d else l.pilot, lfsr := if row then lfsrNext l.lfsr else l.lfsr }
      let s := (((s.setLoop i l).bump STD_STAT_SAMPLES 1).bump STD_STAT_CLAMP (b2n clamped)).supervise i k y
      let s := s.modLoop i fun l => { l with ys := (y :: l.ys).take 2, cs := (out :: l.cs).take 2 }
      let s := s.present i out
      (if 45000 < delay then s.noteLate c i delay else s, { acc with cycles := w })

/-- R71, R72: each new result of a gain-section loop's sense is judged against 60 % of the set power; two low in a row fail the laser. -/
def State.watchLaser (s : State) (i : Nat) : State :=
  let n := i / nLoops
  let P := (i % nLoops - 1064) / 8
  let x := s.laserAt n P
  let r := MON_RES (s.rf (STD_LOOP_CFG i) STD_LOOP_CFG_SENSE_CONV * 32 + s.rf (STD_LOOP_CFG i) STD_LOOP_CFG_SENSE_IN)
  let y := sext 24 (s.rf r MON_RES_RESULT)
  let seq := some (s.rf r MON_RES_SEQ)
  if (s.loop i).watched = seq then s
  else
    let low := (s.loop i).low
    let s := s.modLoop i fun l => { l with watched := seq, low := 0 }
    let s := s.wf (LTH_LASER n x) LTH_LASER_POWER (Config.laserUnits y).toNat
    if s.rf (LTH_LASER n x) LTH_LASER_STATE = 3 && 5 * y < 3 * s.setpoint i then
      if low = 0 then s.modLoop i fun l => { l with low := 1 } else s.laserFail n P (s.loop i).goodAt
    else s.modLoop i fun l => { l with goodAt := s.clock }

/-- The loops of a core in the order of its sweep (R420). -/
def coreLoops (c : Nat) : List Nat :=
  if c < 8 then (List.range 1064).map (loopIx c)
  else (List.range 8).flatMap fun n => (List.range 88).map fun k => loopIx n (1064 + k)

/-- A swap written at least one HCLK cycle ago takes effect at this sample (R430). -/
def State.takeSwap (s : State) (c : Nat) : State :=
  match (s.core c).swapAt with
  | some t =>
    if s.clock < t + 3 then s
    else
      let init := (s.core c).init
      let s := (s.wf (STD_CORE_BANK c) STD_CORE_BANK_ACTIVE (1 - s.rf (STD_CORE_BANK c) STD_CORE_BANK_ACTIVE)).wb (STD_CORE_BANK c) STD_CORE_BANK_PENDING false
      let s := s.setCore c { s.core c with swapAt := none, init := false }
      if init then (coreLoops c).foldl (fun (acc : State) i => acc.reinit i) s else s
  | none => s

/-- LOOP_SAMPLE (R420–R435, R71): the core takes its sample now and sweeps its loops; the window of its lathe's statistics ends (R422). -/
def execLoopSample (c : Fin 9) (accesses : List Nat) (s : State) : Out :=
  let start := max (s.clock + 2000) (s.core c).sweepEnd
  let lead := start - s.clock
  let s := s.takeSwap c
  let r := (coreLoops c).foldl (fun (acc : State × Sweep) i =>
    let (s, w) := acc.1.sweepLoop c lead acc.2 i
    ((if c.val = 8 && i % nLoops % 8 = 2 then s.watchLaser i else s), w)) (s, ({ left := accesses } : Sweep))
  let s := r.1
  let w := takeAccesses r.2.cycles r.2.left
  let s := if c.val < 8 then s.modLathe c fun l => { l with stats := { all := l.stats.all } } else s
  let s := s.setCore c { s.core c with sweepStart := start, sweepEnd := start + (5 * w.cycles + 1) / 2 }
  let last := satTo 65535 (loopDelay lead w.cycles / 10)
  let s := s.wf (STD_CORE_SWEEP c) STD_CORE_SWEEP_LAST last
  let s := s.wf (STD_CORE_SWEEP c) STD_CORE_SWEEP_MAX (max last (s.rf (STD_CORE_SWEEP c) STD_CORE_SWEEP_MAX))
  .next s

/-- BREACH_LIMIT (R436). -/
def execBreachLimit (i : Fin 9216) (s : State) : Out :=
  let l := s.loop i
  let count := s.rf (STD_SET_CFG (s.setIx i)) STD_SET_CFG_RES_COUNT
  .next (if l.st == .run && decide ((if count = 0 then 8 else count) ≤ l.breaches) then s.freeze i (if l.senseBreach then 2 else 1) else s)

/-- COEFF_BANK_SWAP (R430): SWAP written to `STD_CORE_BANK`, with or without INIT. -/
def execCoeffBankSwap (c : Fin 9) (init : Bool) (s : State) : Out := s.atBlock .std 0 fun s =>
  .next ((s.setCore c { s.core c with swapAt := some s.clock, init := init }).wb (STD_CORE_BANK c) STD_CORE_BANK_PENDING true)

/-- SET_WRITE (R429): a set of the inactive bank, while no swap is pending. -/
def execSetWrite (c : Fin 9) (b : Bool) (k : Fin 64) (w : Fin 20) (v : Word) (s : State) : Out := s.atBlock .std 0 fun s =>
  .next (if b2n b = s.rf (STD_CORE_BANK c) STD_CORE_BANK_ACTIVE || (s.core c).swapAt.isSome then s
  else s.wrSoft (STD_SET_CFG ((c.val * 2 + b2n b) * 64 + k) + 4 * w) v)

/-- LOOP_MODE_WRITE (R431, R438, R446, Table 11.5): a write of `STD_LOOP_CFG`. SET and the sense fields are taken only while MODE is OFF. Under a forced
clear the loop stays in its state until the clear ends. -/
def execLoopModeWrite (i : Fin 9216) (v : Word) (s : State) : Out := s.atBlock .std 0 fun s =>
  let mode := bits v.toNat 0 2
  let old := s.rf (STD_LOOP_CFG i) STD_LOOP_CFG_MODE
  let s := if old = 0 then s.wrSoft (STD_LOOP_CFG i) (BitVec.ofNat 32 (setBits v.toNat 0 2 0)) else s
  let s := if mode < 2 then s.wf (STD_LOOP_CFG i) STD_LOOP_CFG_MODE mode else s
  .next (if s.trimForced then s
  else match mode, (s.loop i).st with
  | 1, .off => if s.loopNamed (i / nLoops) (i % nLoops) then s.enterRun i (s.trim i).target else s.modLoop i fun l => { l with st := .idle }
  | 1, .frozen => ((s.enterRun i (s.loop i).lastGood).present i (s.loop i).lastGood).thawed (i / nLoops)
  | 0, .run => s.modLoop i fun l => { l with st := .off }
  | 0, .idle => s.modLoop i fun l => { l with st := .off }
  | 0, .frozen => (s.modLoop i fun l => { l with st := .off, freezeCause := 0 }).thawed (i / nLoops)
  | _, _ => s)

/-- CORE_CFG_WRITE (R421, Table 11.7): PERIOD and SUB hold the nearer limit. -/
def execCoreCfgWrite (c : Fin 9) (v : Word) (s : State) : Out := s.atBlock .std 0 fun s =>
  let p := bits v.toNat 0 10
  let s := s.wf (STD_CORE_CFG c) STD_CORE_CFG_PERIOD (if c.val < 8 then clampNat 8 40 p else clampNat 10 1000 p)
  .next (s.wf (STD_CORE_CFG c) STD_CORE_CFG_SUB (if c.val < 8 then clampNat 10 16 (bits v.toNat 16 4) else bits v.toNat 16 4))

end Sys2Proof.Machine
end

