-- ==== Sys2Proof/Machine/Monitors.lean ====
section
/-! DEFINITION. Monitor converters, the housekeeping round, and the throttle and trip that follow the temperature (12). -/
namespace Sys2Proof.Machine

/-! ## Converters (R451–R466) -/

def State.monRun (s : State) (c : Nat) : Bool := s.flag (MON_CFG c) MON_CFG_RUN
def monRes (c i : Nat) : Nat := MON_RES (32 * c + i)

/-- The input scanned after `i`: the next one set in the mask, which always holds input 31 (R452, R459). -/
def State.nextInput (s : State) (c i : Nat) : Nat :=
  let m := (s.rd (MON_SCAN c)).toNat ||| 2 ^ 31
  ((List.range 32).map fun j => (i + j) % 32).find? (bit m) |>.getD 31

/-- The converter starts or resumes its scan at the lowest set input, or is IDLE (R459, R461, R466). -/
def State.convResume (s : State) (c : Nat) : State :=
  if s.monRun c then s.setConv c { s.conv c with st := .scan, input := s.nextInput c 0 } else s.setConv c { s.conv c with st := .idle }

/-- The other converter of 0 and 1 calibrates (R466). -/
def State.calBlocked (s : State) (c : Nat) : Bool := decide (c < 2) && (s.conv (1 - c)).st == .cal

/-- A calibration command starts, or waits for a one-shot or for the other of converters 0 and 1 (R466). -/
def State.convCal (s : State) (c : Nat) : State :=
  let x := s.conv c
  if x.st == .cal then s
  else if x.st == .oneshot || s.calBlocked c then s.setConv c { x with calQueued := true }
  else s.setConv c
    { x with st := .cal, input := 30, calQueued := false, order := s.rf (MON_CFG c) MON_CFG_ORDER,
             secondAt := s.clock + 100000 * s.rf (MON_CFG c) MON_CFG_OSR }

/-- The corrected result of a raw one, with its OVR flag (R456–R458). -/
def State.correctRaw (s : State) (c : Nat) (raw : Int) (unstable : Bool) : Int × Bool :=
  let v := divRne ((raw - sext 24 (s.rf (MON_CAL_OFS c) MON_CAL_OFS_OFS)) * (s.rd (MON_CAL_GAIN c)).toNat) 30
  let m : Int := 2 ^ 23 - 1
  if unstable || v < -m || m < v then (if v < 0 then -m else m, true) else (v, false)

/-- BUSY of `MON_URGENT_RES` follows the one-shots in progress. -/
def State.showBusy (s : State) : State :=
  s.wb MON_URGENT_RES MON_URGENT_RES_BUSY ((List.range 16).any fun c => (s.conv c).st == .oneshot)

/-- CONVERSION_END (R456–R463): the result of the input under conversion is written and the converter moves on. Inputs 22 and 23
of odd converters are not connected and read as zero (Table 12.1). -/
def execConversionEnd (c : Fin 16) (raw : Int) (unstable : Bool) (s : State) : Out :=
  let x := s.conv c
  let open_ := c.val % 2 = 1 && (x.input = 22 || x.input = 23)
  let (v, ovr) : Int × Bool := if open_ then (0, false) else s.correctRaw c raw unstable
  let word : Nat := trunc 24 v + 2 ^ 24 * b2n ovr
  .next (match x.st with
  | .scan =>
    let seq := s.rf (monRes c x.input) MON_RES_SEQ
    let s := s.wr (monRes c x.input) (BitVec.ofNat 32 (word + 2 ^ 25 * ((seq + 1) % 128)))
    let s := (s.bump MON_STAT_RESULTS 1).bump MON_STAT_OVR (b2n ovr)
    if s.monRun c then s.setConv c { x with input := s.nextInput c (x.input + 1) } else s.setConv c { x with st := .idle }
  | .oneshot =>
    let s := s.wr MON_URGENT_RES (BitVec.ofNat 32 (word + 2 ^ 25))
    let s := (s.bump MON_STAT_RESULTS 1).bump MON_STAT_OVR (b2n ovr)
    let s := (s.setConv c { x with st := .idle }).convResume c
    (if x.calQueued then s.convCal c else s).showBusy
  | _ => s)

/-- MON_CFG_WRITE (R452, R453, R455, R459, R461): a write of `MON_CFG` or `MON_SCAN`. -/
def execMonCfgWrite (c : Fin 16) (scan : Bool) (v : Word) (s : State) : Out := s.atBlock .mon 0 fun s =>
  .next (if scan then s.wr (MON_SCAN c) (v ||| 0x80000000)
  else
    let order := bits v.toNat 1 2
    let s := (s.wf (MON_CFG c) MON_CFG_RUN v.toNat).wf (MON_CFG c) MON_CFG_OSR (clampNat 64 1024 (bits v.toNat 16 11))
    let s := if order = 3 then s else s.wf (MON_CFG c) MON_CFG_ORDER order
    if (s.conv c).st == .idle && s.monRun c then s.convResume c else s)

/-- URGENT_REQUEST (R462). -/
def execUrgentRequest (c : Fin 16) (i : Fin 32) (s : State) : Out := s.atBlock .mon 0 fun s =>
  .next (if (s.conv c).st == .idle then
    (s.setConv c { s.conv c with st := .oneshot, input := i }).wb MON_URGENT_RES MON_URGENT_RES_DONE false |>.showBusy
  else
    let s := (s.bump MON_STAT_DROPPED 1).wb (MON_CSTAT c) MON_CSTAT_DROPPED true
    s.postFirst (s.flag MON_CTRL MON_CTRL_DROP_EVT_EN) ms c i 1 0xC09 cINFO (unitOf 0xD c) 0xFFFF fun f k => [(0x10, f), (0x14, k)])

/-- MON_CAL_GO (R464, R466). -/
def execMonCalGo (c : Fin 16) (s : State) : Out := s.atBlock .mon 0 fun s => .next (s.convCal c)

/-- MON_CAL_END (R464–R466): `sum30` and `sum29` are the sums of the raw results kept in the two phases. -/
def execMonCalEnd (c : Fin 16) (sum30 sum29 : Int) (s : State) : Out :=
  let x := s.conv c
  let n : Int := 1000 - (3 + x.order)
  let ofs := ratRne sum30 n
  let den := sum29 - n * ofs
  let (gain, s) : Int × State := if den = 0 then (((s.takeFree).1.toNat : Int), (s.takeFree).2) else (ratRne (2 ^ 30 * 5242880 * n) den, s)
  let d : List (Nat × Nat) := [(0x14, trunc 24 ofs), (0x18, trunc 32 gain)]
  .next (if x.st != .cal then s
  else
    let s := s.setConv c { x with st := .idle }
    let s :=
      if ofs.natAbs ≤ 65536 && 0x3CCCCCCD ≤ gain && gain ≤ 0x43333333 then
        (((s.wb (MON_CSTAT c) MON_CSTAT_CAL_VALID true).wr (MON_CAL_OFS c) (BitVec.ofNat 32 (trunc 24 ofs))).wr (MON_CAL_GAIN c)
          (BitVec.ofNat 32 gain.toNat)).post 0xC07 cINFO (unitOf 0xD c) 0xFFFF d
      else (s.wb (MON_CSTAT c) MON_CSTAT_CAL_ERR true).post 0xC08 cWARN (unitOf 0xD c) 0xFFFF d
    let s := s.convResume c
    if c.val < 2 && (s.conv (1 - c.val)).calQueued then s.convCal (1 - c.val) else s)

/-! ## The housekeeping round (R467–R478) -/

/-- Result and OVR of an input. -/
def State.result (s : State) (c i : Nat) : Int := sext 24 (s.rf (monRes c i) MON_RES_RESULT)
def State.resOvr (s : State) (c i : Nat) : Bool := s.flag (monRes c i) MON_RES_OVR

/-- An input has a result newer than the previous round's (R467). -/
def State.fresh (s : State) (c i : Nat) : Bool := s.rf (monRes c i) MON_RES_SEQ != sget 0 s.temp.seqs (32 * c + i)

def State.calibrating (s : State) (c : Nat) : Bool := (s.conv c).st == .cal

/-- Pair `k` fails its cross-check in this round (R468). -/
def State.crossFail (s : State) (k : Nat) : Bool :=
  s.fresh (2 * k) 31 && s.fresh (2 * k + 1) 31 && !s.resOvr (2 * k) 31 && !s.resOvr (2 * k + 1) 31 &&
    !s.calibrating (2 * k) && !s.calibrating (2 * k + 1) &&
    decide (s.rf MON_XCHK_TOL MON_XCHK_TOL_TOL < (s.result (2 * k) 31 - s.result (2 * k + 1) 31).natAbs)

/-- The cross-checks of a round (R468). -/
def State.crossChecks (s : State) : State :=
  (List.range 8).foldl (fun (acc : State) k =>
    if acc.crossFail k then
      (((acc.wb (MON_CSTAT (2 * k)) MON_CSTAT_XCHK_FAIL true).wb (MON_CSTAT (2 * k + 1)) MON_CSTAT_XCHK_FAIL true).bump MON_STAT_XCHK_FAIL 1).post
        0xC05 cWARN (unitOf 0xD (2 * k)) 0xFFFF
        [(0x10, k), (0x14, trunc 24 (acc.result (2 * k) 31)), (0x18, trunc 24 (acc.result (2 * k + 1) 31))]
    else acc) s

/-- The reference checks of a round (R469). -/
def State.refChecks (s : State) : State :=
  (List.range 16).foldl (fun (acc : State) c =>
    let check (acc : State) (i : Nat) (bad : Bool) : State :=
      if acc.fresh c i && bad then
        ((acc.wb (MON_CSTAT c) MON_CSTAT_REF_ERR true).bump MON_STAT_REF_FAIL 1).post 0xC06 cWARN (unitOf 0xD c) 0xFFFF
          [(0x10, i), (0x14, trunc 24 (acc.result c i))]
      else acc
    check (check acc 29 (decide (5243 < (acc.result c 29 - 5242880).natAbs))) 30 (decide (256 < (acc.result c 30).natAbs))) s

/-- A diode code is at or above `x` hundredths of a degree Celsius (R470). -/
def hotter (code : Int) (x : Int) : Bool := decide ((x + 27315) * 16384 ≤ 100 * code)

/-- A diode code in 1/128 °C (R470; half to even). -/
def temp128 (code : Int) : Int := ratRne (5 * code - 22376448) 640

/-- Why the sensor is broken in this round (R472), 0 when it is not, and the converter concerned. -/
def State.sensorFault (s : State) : Nat × Nat :=
  let used := (List.range 2).filter fun c => !s.calibrating c
  let hit (cause : Nat) (p : Nat → Bool) : Option (Nat × Nat) := (used.find? p).map fun c => (cause, c)
  let flags (cause : Nat) (f : Fld) : Option (Nat × Nat) := ((List.range 2).find? fun c => s.flag (MON_CSTAT c) f).map fun c => (cause, c)
  let found := [hit 1 fun c => s.fresh c 31 && s.resOvr c 31,
                hit 2 fun c => s.fresh c 31 && !s.resOvr c 31 && !hotter (s.result c 31) (-4000),
                (if used = [] then some (3, 0) else hit 3 fun c => !s.fresh c 31),
                flags 4 MON_CSTAT_XCHK_FAIL, flags 5 MON_CSTAT_REF_ERR]
  (found.findSome? id).getD (0, 0)

/-- The thermal level takes a value: THERMAL_THROTTLE, THERMAL_NORMAL, and calibrations rejected when the level in force rises above
0 (R475, Table 13.4). -/
def State.setLevel (s : State) (l : Nat) : State :=
  let old := s.rf MON_TEMP MON_TEMP_LEVEL
  let was := s.level
  let s := s.wf MON_TEMP MON_TEMP_LEVEL l
  let temp := s.rf MON_TEMP MON_TEMP_TEMP
  let s := if old = 0 && 0 < l then ({ s with temp := { s.temp with rounds := 0 } } : State).post 0xC01 cWARN 0 0xFFFF [(0x10, temp), (0x12, l)]
    else if 0 < old && l = 0 then s.post 0xC02 cINFO 0 0xFFFF [(0x10, temp), (0x14, s.temp.rounds)] else s
  if was = 0 && 0 < s.level then s.throttleCals else s

/-- The trip (R478): every lathe goes to FAULT_HOLD, every laser is OFF, TRIPPED and THERMAL_TRIP. DESIGN CHOICE (log entry 203): FLAGS.VENT of that record
is set for the Vent's operation THERMAL_TRIP (`vent`) and clear for the trip of a housekeeping round. -/
def State.trip (s : State) (vent : Bool) : State :=
  if s.flag MON_TEMP MON_TEMP_TRIPPED then s
  else
    let hit := (List.range 8).filter fun n => (s.lathe n).svc != .faultHold
    let s := s.wb MON_TEMP MON_TEMP_TRIPPED true
    let d : List (Nat × Nat) := [(0x10, s.rf MON_TEMP MON_TEMP_TEMP), (0x12, maskOf 8 fun n => hit.contains n)]
    let s := if vent then s.postVent 0xC03 cFATAL 0 d else s.post 0xC03 cFATAL 0 0xFFFF d
    let s := hit.foldl (fun (acc : State) n => acc.dropLathe n .faultHold 11) s
    (List.range 8).foldl (fun (acc : State) n => (List.range 12).foldl (fun (acc : State) i => acc.wf (LTH_LASER n i) LTH_LASER_STATE 0) acc) s

/-- A round with a valid temperature (R471, R474, R475, R478). -/
def State.validRound (s : State) (code : Int) : State :=
  let lim := jigWarn s.jigBody
  let s := ((s.wb MON_TEMP MON_TEMP_VALID true).wf MON_TEMP MON_TEMP_FAIL_CAUSE 0).wf MON_TEMP MON_TEMP_TEMP (trunc 16 (temp128 code))
  let s : State := { s with temp := { s.temp with code := code, peak := some (match s.temp.peak with | some p => max p code | none => code) } }
  let temp := s.rf MON_TEMP MON_TEMP_TEMP
  let s :=
    if hotter code (100 * lim) then
      let s' := s.wb MON_TEMP MON_TEMP_WARN true
      if !s.flag MON_TEMP MON_TEMP_WARN && s.flag MON_CTRL MON_CTRL_WARN_EVT_EN then s'.post 0xC00 cWARN 0 0xFFFF [(0x10, temp)] else s'
    else if !hotter code (100 * ((lim : Int) - 2)) then s.wb MON_TEMP MON_TEMP_WARN false
    else s
  let l := s.rf MON_TEMP MON_TEMP_LEVEL
  let thr : Int := jigThrottle s.jigBody
  let s := s.setLevel (if hotter code (100 * thr) then min (l + 1) 6 else if !hotter code (100 * (thr - 2)) then l - 1 else l)
  if hotter code (100 * jigTrip s.jigBody) then s.trip false else s

/-- HOUSEKEEPING_ROUND (R467–R478). -/
def execHousekeepingRound (s : State) : Out :=
  .next (if s.dom 61 ≠ 1 then s
  else
    let s := (s.wf MON_ROUND_CFG MON_ROUND_CFG_COUNT (s.rf MON_ROUND_CFG MON_ROUND_CFG_COUNT + 1)).crossChecks.refChecks
    let (why, conv) := s.sensorFault
    let diodes := ((List.range 2).filter fun c => !s.calibrating c).map fun c => s.result c 31
    let s :=
      if why = 0 then s.validRound (diodes.foldl (fun (a : Int) x => max a x) (-(2 ^ 23)))
      else
        let was := s.flag MON_TEMP MON_TEMP_VALID
        let s := (s.wb MON_TEMP MON_TEMP_VALID false).wf MON_TEMP MON_TEMP_FAIL_CAUSE why
        let s := if was then s.post 0xC04 cFAULT (unitOf 0xD conv) 0xFFFF
            [(0x10, why), (0x14, trunc 24 (s.result 0 31)), (0x18, trunc 24 (s.result 1 31))] else s
        s.setLevel 6
    let s := if 0 < s.rf MON_TEMP MON_TEMP_LEVEL then
        ({ s with temp := { s.temp with rounds := s.temp.rounds + 1 } } : State).bump MON_STAT_THROTTLE_ROUNDS 1 else s
    { s with temp := { s.temp with seqs := (List.range 512).foldl (fun (acc : Sparse Nat) j => sput 0 (s.rf (MON_RES j) MON_RES_SEQ) acc j) [] } })

/-- ROUND_CFG_WRITE (R467): 1 to 100 ms, the nearer limit held. -/
def execRoundCfgWrite (v : Word) (s : State) : Out := s.atBlock .mon 0 fun s => .next (s.wf MON_ROUND_CFG MON_ROUND_CFG_PERIOD (clampNat 1 100 (bits v.toNat 0 8)))

/-- TRIPPED_CLEAR (R478): ignored while the temperature is invalid or at or above WARN. -/
def execTrippedClear (s : State) : Out := s.atBlock .mon 0 fun s =>
  .next (if s.flag MON_TEMP MON_TEMP_VALID && !hotter s.temp.code (100 * jigWarn s.jigBody) then s.wb MON_TEMP MON_TEMP_TRIPPED false else s)

end Sys2Proof.Machine
end

