-- ==== Sys2Proof/Machine/Sha3.lean ====
section
/-! DEFINITION. SHA3-512 (FIPS 202), which the measurement registers and key digests use (15, R541, R545). -/
namespace Sys2Proof.Machine.Sha3

/-- Lane (x, y) of the 1,600-bit state, held as 25 lanes in the order x + 5y. -/
def lane (a : List (BitVec 64)) (x y : Nat) : BitVec 64 := (a[x % 5 + 5 * (y % 5)]?).getD 0

/-- Build a state from its lanes. -/
def build (f : Nat → Nat → BitVec 64) : List (BitVec 64) := (List.range 25).map fun i => f (i % 5) (i / 5)

/-- Rotation offsets of step ρ, in the order x + 5y. -/
def offsets : List Nat :=
  [0, 1, 62, 28, 27, 36, 44, 6, 55, 20, 3, 10, 43, 25, 39, 41, 45, 15, 21, 8, 18, 2, 61, 56, 14]

/-- Round constants of step ι. -/
def constants : List (BitVec 64) :=
  [0x1, 0x8082, 0x800000000000808a, 0x8000000080008000, 0x808b, 0x80000001, 0x8000000080008081, 0x8000000000008009,
   0x8a, 0x88, 0x80008009, 0x8000000a] ++
  [0x8000808b, 0x800000000000008b, 0x8000000000008089, 0x8000000000008003, 0x8000000000008002, 0x8000000000000080,
   0x800a, 0x800000008000000a, 0x8000000080008081, 0x8000000000008080, 0x80000001, 0x8000000080008008]

/-- One round: θ, ρ and π, χ, ι. -/
def round (a : List (BitVec 64)) (rc : BitVec 64) : List (BitVec 64) :=
  let cols := (List.range 5).map fun x => (List.range 5).foldl (fun acc y => acc ^^^ lane a x y) 0
  let col (x : Nat) : BitVec 64 := (cols[x % 5]?).getD 0
  let a := build fun x y => lane a x y ^^^ col (x + 4) ^^^ (col (x + 1)).rotateLeft 1
  let b := build fun x y => (lane a (x + 3 * y) x).rotateLeft ((offsets[(x + 3 * y) % 5 + 5 * x]?).getD 0)
  let a := build fun x y => lane b x y ^^^ (~~~(lane b (x + 1) y) &&& lane b (x + 2) y)
  match a with
  | l :: rest => (l ^^^ rc) :: rest
  | [] => []

/-- The permutation Keccak-f[1600]. -/
def permute (a : List (BitVec 64)) : List (BitVec 64) := constants.foldl round a

/-- A 64-bit lane of a byte string. -/
def laneOf (l : List Byte) (i : Nat) : BitVec 64 :=
  BitVec.ofNat 64 (((l.drop (8 * i)).take 8).foldr (fun b acc => b.toNat + 256 * acc) 0)

/-- Absorb `n` blocks of 72 bytes. -/
def absorb : Nat → List Byte → List (BitVec 64) → List (BitVec 64)
  | 0, _, a => a
  | n + 1, l, a => absorb n (l.drop 72) (permute (build fun x y => lane a x y ^^^ if x + 5 * y < 9 then laneOf l (x + 5 * y) else 0))

/-- The padding of SHA3: 01, then pad10*1 to a multiple of 72 bytes. -/
def pad (n : Nat) : List Byte :=
  let k := 72 - n % 72
  if k = 1 then [0x86] else 0x06 :: (List.replicate (k - 2) 0 ++ [0x80])

/-- SHA3-512 of a byte string: the digest as a little-endian number of its 64 bytes. -/
def sha3 (l : List Byte) : BitVec 512 :=
  let a := absorb ((l.length + 72) / 72) (l ++ pad l.length) (List.replicate 25 0)
  BitVec.ofNat 512 ((List.range 8).foldr (fun i acc => ((a[i]?).getD 0).toNat + 2 ^ 64 * acc) 0)

end Sys2Proof.Machine.Sha3
end

