-- ==== Sys2Proof/Machine/SecOps.lean ====
section
/-! DEFINITION. The security module's measurement registers, counters, owner slots, and the acceptance of images (15, R542–R551). -/
namespace Sys2Proof.Machine
open Sha3

/-- The 64 bytes of a digest. -/
def digBytes (d : BitVec 512) : List Byte := leBytes d.toNat 64

/-- Measurement register `r` (Table 15.10). -/
def State.meas (s : State) (r : Nat) : BitVec 512 :=
  BitVec.ofNat 512 ((List.range 16).foldr (fun w acc => (s.rd (SEC_MEAS (16 * r + w))).toNat + 2 ^ 32 * acc) 0)

def State.setMeas (s : State) (r : Nat) (m : BitVec 512) : State :=
  (List.range 16).foldl (fun (acc : State) w => acc.wr (SEC_MEAS (16 * r + w)) (BitVec.ofNat 32 (m.toNat / 2 ^ (32 * w)))) s

/-- M ← SHA3-512(M ‖ d) (R545). -/
def State.extend (s : State) (r : Nat) (d : List Byte) : State := s.setMeas r (sha3 (digBytes (s.meas r) ++ d))

/-- Anti-rollback counter `k` (R550); it never decreases (R551). -/
def State.ctr (s : State) (k : Nat) : Nat := sget 0 s.sec.ctrs k
def State.raiseCtr (s : State) (k svn : Nat) : State :=
  { s with sec := { s.sec with ctrs := sput 0 (max (s.ctr k) svn) s.sec.ctrs k } }

/-- A slot holds a key: the device is owned. -/
def State.owned (s : State) : Bool := (List.range 8).any fun k => (s.owner k).valid
def State.setOwner (s : State) (k : Nat) (o : Owner) : State := { s with sec := { s.sec with owners := sput {} o s.sec.owners k } }

/-- Usages of a slot (Table 15.12). -/
def uUSER : Nat := 0
def uENROLL : Nat := 1
def uJIG : Nat := 2
def uDEBUG : Nat := 3
def uZEROISE : Nat := 4

/-- The key of a jig's signer stands: an owner slot with JIG usage holding its digest, or the vendor key on a device with no owner
(R544). -/
def State.jigKeyOk (s : State) (signer : Nat) (key : BitVec 512) (vendorOk : Bool) : Bool :=
  if signer = 0 then !s.owned && vendorOk
  else signer ≤ 8 && (s.owner (signer - 1)).valid && bit (s.owner (signer - 1)).usage.toNat uJIG && decide ((s.owner (signer - 1)).digest = key)

/-- Why the image of a jig slot fails R544 at a start-up: 1 its key, 2 its SVN; none when it passes. -/
def State.slotFault (s : State) (i : JigImg) : Option Nat :=
  if !s.jigKeyOk i.signer i.key true then some 1 else if i.svn < s.ctr 7 then some 2 else none

/-- IMAGE_REJECTED, counted (R544, Table 15.13). -/
def State.imageRejected (s : State) (kind reason version : Nat) : State :=
  (s.bump SEC_STAT_VERIFY_FAIL 1).post 0xF05 cWARN (unitOf 0xF 0) 0xFFFF [(0x10, kind), (0x11, reason), (0x14, version)]

/-- The digest that measures the jig in force: of its image, or of the default jig's body (R548). -/
def State.jigDigest (s : State) : BitVec 512 :=
  match s.jig.inForce with
  | some i => i.digest
  | none => sha3 defaultJig

/-- VERSION of the jig in force. -/
def State.jigVersion (s : State) : Nat := match s.jig.inForce with | some i => i.version | none => 0

/-- Active image of firmware kind `k`: version, SVN, digest (Table 15.11). -/
def Fw.active (f : Fw) : Nat × Nat × BitVec 512 := if f.activeB then (f.verB, f.svnB, f.digB) else (f.verA, f.svnA, f.digA)
/-- Its inactive slot's. -/
def Fw.other (f : Fw) : Nat × Nat × BitVec 512 := if f.activeB then (f.verA, f.svnA, f.digA) else (f.verB, f.svnB, f.digB)

/-- Register of firmware kind `k`'s measurement and its counter (Table 15.3): `k − 1`. -/
def fwReg (k : Nat) : Nat := k - 1

/-- Sessions end (R552). -/
def State.endSessions (s : State) : State :=
  { s with sec := { s.sec with sess := smap {} (fun (x : Session) => { x with slot := none, challenge := none }) s.sec.sess } }

/-- The security module's domain goes off: its registers are lost, and it starts again in SELFTEST (R545, R549, R555). Owner slots and counters
stand in the flash; sessions and the debug grant end only as R552 and R558 list, so that a session still authorises the Vent's WAKE in Cold
(R523, R590). -/
def State.secReset (s : State) : State :=
  let s := s.resetBlock .sec 0
  { s with sec := { s.sec with st := .selftest, zeroising := false, stFail := 0 } }

/-- `SEC_STATUS.APPROVED` (R542). -/
def State.approved (s : State) : Bool := s.sec.st == .operational && s.sec.grant.isNone

end Sys2Proof.Machine
end

