-- ==== Sys2Proof/Machine/PowerOps.lean ====
section
/-! DEFINITION. Power domains going off and on with what they hold (14, R511–R516, Table 14.5), device fault hold (R509), and the
steps of start-up (Table 14.10). -/
namespace Sys2Proof.Machine

/-! ## Domains and clocks (Tables 14.3, 14.7) -/

/-- The domains of lathe group `n`, and the group of a domain. -/
def groupDoms (n : Nat) : List Nat := [4 * n, 4 * n + 1, 4 * n + 2, 4 * n + 3, 32 + n, 40 + n]
def groupOf (d : Nat) : Option Nat := if d < 32 then some (d / 4) else if d < 48 then some (d % 8) else none

/-- Clocks that serve a domain. -/
def domClocks (d : Nat) : List Nat :=
  if d < 32 then (if d % 4 = 3 then [d / 4, 8 + d / 4, 16 + d / 4] else [])
  else if d < 48 then [] else if d < 56 then [d - 24] else if d < 60 then [32]
  else if d = 60 then [33] else if d = 61 then [34, 36] else if d = 63 then [35] else []

/-- Clock `k` runs, is gated, or stops, as the state `st` of its domain says; the jig's clock plan chooses which clocks run at all. -/
def State.setClk (s : State) (k st : Nat) : State :=
  let on := jigClkEn s.jigBody k && st ≠ 0 && st ≠ 4
  ((s.wb (CLK_DOM k) CLK_DOM_ON on).wb (CLK_DOM k) CLK_DOM_GATED (on && st ≠ 1)).wb (CLK_DOM k) CLK_DOM_LOCKED on

/-- Domain `d` may be on: the jig enables it (R512), and no firmware its units run was left out at boot (R536, R547). Steady-rest and finisher
firmware serve the lathe groups, the HBM controller's the stacks, the fabric's the port groups. DEDUCED (log 40). -/
def State.jigDom (s : State) (d : Nat) : Bool :=
  jigDomEn s.jigBody d &&
    !(if d < 48 then bit s.power.out 4 || bit s.power.out 5 else if d < 56 then bit s.power.out 6 else decide (d < 60) && bit s.power.out 7)

/-- Domain `d` takes a state, with its clocks: 0 OFF, 1 ON, 2 GATED, 3 RETAIN, 4 RESET. -/
def State.setDom (s : State) (d st : Nat) : State :=
  let s := s.wf (PWR_DOM_STATUS d) PWR_DOM_STATUS_STATE st
  (domClocks d).foldl (fun (acc : State) k =>
    acc.setClk k (if k = 32 then b2n ((List.range 4).any fun j => acc.dom (56 + j) = 1) else st)) s

/-- Register blocks in a domain (R577). -/
def domBlocks (d : Nat) : List (Block × Nat) :=
  if d < 32 then (if d % 4 = 3 then [Block.lth, .acc, .fin, .oll, .inf, .cal, .str].map fun b => (b, d / 4) else [])
  else if d < 48 then [] else if d < 56 then [(.hbm, d - 48), (.rdc, d - 48)]
  else if d < 60 then (List.range 4).map fun i => (.izp, 4 * (d - 56) + i)
  else if d = 60 then [(.pci, 0)] else if d = 61 then [(.izpg, 0), (.ftm, 0), (.wtb, 0), (.sem, 0), (.std, 0), (.mon, 0), (.trm, 0)]
  else if d = 62 then [(.sec, 0)] else [(.dev, 0), (.vnt, 0), (.pwr, 0), (.clk, 0), (.jig, 0), (.flt, 0), (.evt, 0)]

def State.resetBlocks (s : State) (d : Nat) : State := (domBlocks d).foldl (fun (acc : State) b => acc.resetBlock b.1 b.2) s

/-! ## Lathe groups (R513, Table 2.6) -/

/-- `PWR_STATUS.FAULT_HOLD` clears when no lathe is in FAULT_HOLD (R509). -/
def State.settleHold (s : State) : State :=
  if (List.range 8).any fun n => (s.lathe n).svc == .faultHold then s else s.wb PWR_STATUS PWR_STATUS_FAULT_HOLD false

/-- What lathe `n`'s domains hold is lost: its engine, streams, groups, memories, and its blocks' registers. -/
def State.clearLathe (s : State) (n : Nat) : State :=
  let mine (w : Option (Nat × Nat × Nat)) : Bool := match w with | some (b, _, _) => b == n | none => false
  let s : State :=
    { s with engines := sput {} {} s.engines n, descs := sdrop s.descs (n * 256) 256, groups := sdrop s.groups (n * 8) 8,
             accMem := sdrop s.accMem (2 ^ 22 * n) (2 ^ 22), chkMem := sdrop s.chkMem (n * 65536) 65536,
             rowState := sdrop s.rowState (n * 8192) 8192, mem := sdrop s.mem (infeedBase n) 0x2000000,
             marks := sdrop s.marks (infeedBase n / 64) (0x2000000 / 64),
             waiters := smap [] (fun l => l.filter fun w => w.eng != n) s.waiters }
  let s : State :=
    { s with reqs := s.reqs.map fun (e : Nat × Req) => if mine e.2.who then (e.1, { e.2 with drop := true, desc := none, mir := none, old := none, red := none }) else e,
             hostReqs := s.hostReqs.map fun (r : HostReq) => if mine r.who then { r with drop := true, desc := none, mir := none, red := none } else r,
             tagWait := s.tagWait.filter fun e => !mine e.1.who, hostWait := s.hostWait.filter fun r => !mine r.who,
             redHeld := s.redHeld.filter fun h => !mine (some h.who) }
  s.resetBlocks (4 * n + 3)

/-- Programs of engine `n` that have begun end without a completion record (R531). -/
def State.endSilently (s : State) (n : Nat) : State :=
  (s.engine n).progs.foldl (fun (acc : State) x =>
    if x.st == .accepted then acc
    else acc.retire n { x with cause := if x.st == .aborting then x.cause else 4, abortStage := x.current } true false false) s

/-- Lathe group `n` switches off (`st` 0), or into reset (4): the lathe leaves service at once with cause 12, its programs end, and
what it held is lost. A lathe in FAULT_HOLD goes to OFF only by a reset (Table 2.6). `record` is false in a device reset (R531). -/
def State.latheOff (s : State) (n st : Nat) (record : Bool) : State :=
  let hold := (s.lathe n).svc == .faultHold
  let stay := hold && st ≠ 4
  let s := if record then s else s.endSilently n
  let s := if hold || (s.lathe n).svc == .off then s else s.dropLathe n .off 12
  let s := (s.engine n).progs.foldl (fun (acc : State) x => if x.st == .accepted then acc else acc.retire n x true false record) s
  let cause := (s.lathe n).oosCause
  let s := (s.clearLathe n).setLathe n { svc := if stay then .faultHold else .off, oosCause := if hold && !stay then 12 else cause }
  ((groupDoms n).foldl (fun (acc : State) d => acc.setDom d (if acc.jigDom d then st else 0)) s).settleHold

/-- The trim channels of lathe `n` present their clear codes, and its loops start from them (R445, R428). -/
def State.clearTrims (s : State) (n : Nat) : State :=
  (List.range nLoops).foldl (fun (acc : State) l => (acc.clearChannel (loopIx n l)).reinit (loopIx n l)) s

/-- Lathe `n` starts (Table 2.6, R71, R74): lasers begin to lock, and the source loops run from the recorded setpoints. -/
def State.startUpLathe (s : State) (n : Nat) : State :=
  let s := (s.setLathe n { svc := .starting }).powerAdcs n
  let s := (List.range 12).foldl (fun (acc : State) i => acc.wf (LTH_LASER n i) LTH_LASER_STATE (if i = 11 then 1 else 2)) s
  let f := sget {} s.calFlash n
  (List.range 11).foldl (fun (acc : State) P =>
    let acc := acc.setSense n P
    let sp := loopIx n (1064 + 8 * P + 2)
    let acc := acc.wr (STD_LOOP_SP sp) (if f.valid then sget 0 f.regs (STD_LOOP_SP sp) else (Config.madeSetpoint n P).setWidth 32)
    (List.range 8).foldl (fun (acc : State) j =>
      let i := loopIx n (1064 + 8 * P + j)
      (acc.wf (STD_LOOP_CFG i) STD_LOOP_CFG_MODE 1).enterRun i (acc.trim i).target) acc) s

/-- No lathe group may switch on: the device has tripped, or the self-tests of start-up are not passed (R478, R536, R556). -/
def State.lathesBarred (s : State) : Bool :=
  s.flag MON_TEMP MON_TEMP_TRIPPED || s.sec.st == .error || bit (s.rf PWR_START PWR_START_PEND) 0

/-- Lathe group `n` switches on as the jig sets it (R513); its channels clear as its front end does (R445). -/
def State.latheOn (s : State) (n : Nat) : State :=
  if s.lathesBarred then (groupDoms n).foldl (fun (acc : State) d => acc.setDom d 0) s
  else
    let was := s.dom (4 * n + 1)
    let s := (groupDoms n).foldl (fun (acc : State) d => acc.setDom d (b2n (acc.jigDom d))) s
    let s := if (was = 0 || was = 4) && s.dom (4 * n + 1) = 1 then s.clearTrims n else s
    if s.dom (4 * n + 3) = 1 && (s.lathe n).svc == .off then s.startUpLathe n else s

/-- Lathe groups that a command for lathe group `n` acts on (R513). -/
def State.groupsOf (s : State) (n : Nat) : List Nat := if s.deep n then [s.gang n, s.gang n + 1] else [n]

/-! ## The other domains -/

/-- Stack `m` switches off or into reset: its contents and registers are lost (R515). -/
def State.stackOff (s : State) (m st : Nat) : State :=
  let base := 0xC00000000 * m
  let s : State := { s with mem := sdrop s.mem base 0xC00000000, marks := sdrop s.marks (base / 64) (0xC00000000 / 64) }
  ((s.setStack m {}).resetBlocks (48 + m)).setDom (48 + m) st

/-- Port group `j` switches off or into reset: the bypasses of its ring pairs close (R516), and its links and registers are lost. -/
def State.portsOff (s : State) (j st : Nat) : State :=
  let s := [2 * j, 2 * j + 1].foldl (fun (acc : State) k => acc.closeBypass k 2 5) s
  let s := (List.range 4).foldl (fun (acc : State) i =>
    let p := 4 * j + i
    let keep := acc.rd (IZP_STATUS p)
    let light := (acc.port p).light
    ((acc.resetBlock .izp p).wr (IZP_STATUS p) keep).setPort p { light := light }) s
  let gone (e : Nat × Packet) : Bool := e.1 / 4 == j
  ({ s with fabQueue := s.fabQueue.filter fun e => !gone e } : State).setDom (56 + j) st

/-- Domain 61 switches off or into reset: the registers of its blocks and what its units hold are lost; the bypass switches stay as
they are, channels keep presenting their codes, and the Vent keeps fabric time (R369, R521). -/
def State.homeOff (s : State) (st : Nat) : State :=
  let byp := s.rd IZP_BYP
  let f := s.ftm
  let s := (s.resetBlocks 61).wr IZP_BYP byp
  let s : State :=
    { s with swaps := [], swapWait := none, verifying := [], building := none, mcMsgs := [], mcOn := [],
             loops := [], cores := [], convs := [], temp := {}, trims := smap {} (fun (t : Trim) => { code := t.code, src := t.code }) s.trims,
             ftm := { refLost := f.refLost, ref10 := f.ref10, refPps := f.refPps } }
  ((s.dropMirror 8).wb DEV_LT_BUILD_CMD DEV_LT_BUILD_CMD_BUSY false).setDom 61 st

/-- Domain 61 switches on: its converters scan (R459). -/
def State.homeOn (s : State) : State :=
  let s := s.setDom 61 1
  (List.range 16).foldl (fun (acc : State) c => acc.convResume c) s

/-- Domain 60 switches off or into reset (Table 16.11). -/
def State.hostOff (s : State) (st : Nat) : State :=
  let s := s.hostLinkDown .domain60
  ({ s with hostReqs := [], hostWait := [] } : State).resetBlocks 60 |>.setDom 60 st

/-- A domain outside the lathe groups and the Vent goes off (0) or into reset (4). -/
def State.domOff (s : State) (d st : Nat) : State :=
  if d < 48 || d ≥ 63 then s
  else if d < 56 then s.stackOff (d - 48) st
  else if d < 60 then s.portsOff (d - 56) st
  else if d = 60 then s.hostOff st
  else if d = 61 then s.homeOff st
  else s.secReset.setDom 62 st

/-- A domain outside the lathe groups and the Vent switches on, unless the jig disables it (R512). -/
def State.domOn (s : State) (d : Nat) : State :=
  if d < 48 || d ≥ 63 then s
  else if !s.jigDom d then s.setDom d 0
  else if s.dom d = 1 then s
  else if d = 61 then s.homeOn
  else if 56 ≤ d && d < 60 then (List.range 4).foldl (fun (acc : State) i => acc.restLink (4 * (d - 56) + i)) (s.setDom d 1)
  else if d = 62 then { s.setDom 62 1 with fabricIdFlash := s.rd DEV_FABRIC_ID }
  else s.setDom d 1

/-- Every domain but the Vent's goes into reset, with the requests and packets on their way. -/
def State.holdAll (s : State) (record : Bool) : State :=
  let s := (List.range 8).foldl (fun (acc : State) n => acc.latheOff n 4 record) s
  let s := (List.range 15).foldl (fun (acc : State) i => acc.domOff (48 + i) (if acc.jigDom (48 + i) then 4 else 0)) s
  { s with reqs := [], tagWait := [], redHeld := [], hostReqs := [], hostWait := [], fabQueue := [], rdc := [], uses := [], scaleUpd := [], scaleEval := [], waiters := [],
           power := { s.power with resets := sput 0 (sget 0 s.power.resets 63) [] 63 } }

/-! ## Power states (Table 14.5) -/

/-- State of domain `d` in power state `t` (0 Active, 1 Simmer, 2 Steam, 3 Dormant, 4 Cold), if the jig enables it. -/
def placement (t d : Nat) : Nat :=
  if d < 32 then
    match d % 4 with
    | 0 => if t ≤ 1 then 1 else if t = 2 then 3 else 0
    | 1 => if t ≤ 2 then 1 else 0
    | 2 => if t ≤ 1 then 1 else 0
    | _ => if t = 0 then 1 else if t ≤ 2 then 2 else 0
  else if d < 48 then (if t = 0 then 1 else if t = 1 then 2 else 0)
  else if d < 56 then (if t ≤ 1 then 1 else if t = 2 then 3 else 0)
  else if d < 60 then (if t ≤ 2 then 1 else 0)
  else if d = 61 then (if t ≤ 2 then 1 else 0)
  else if d = 63 then 1
  else (if t ≤ 3 then 1 else 0)

/-- The present power state. -/
def State.pwr (s : State) : Nat := if s.power.cold then 4 else s.rf PWR_STATUS PWR_STATUS_STATE

/-- What power state `t` makes of domain `d` of a lathe group: nothing switches on while the device has tripped (R478, R512, R517). -/
def State.lathePlaced (s : State) (t d : Nat) : Nat :=
  if !s.jigDom d || (s.flag MON_TEMP MON_TEMP_TRIPPED && s.dom d = 0) then 0 else placement t d

/-- Lathe group `n` is placed as power state `t` gives it: infeed store and accumulator memory lose what they hold when they go off, and
lasers fall to, or lock again from, their standby bias. -/
def State.placeLathe (s : State) (n t : Nat) : State :=
  if t ≥ 3 then s.latheOff n 0 true
  else
    let s := if s.dom (4 * n + 3) = 0 || s.dom (4 * n + 3) = 4 then s.latheOn n else s
    if (s.lathe n).svc == .off then s
    else
      let bias := s.dom (4 * n) = 3
      let s := (groupDoms n).foldl (fun (acc : State) d => acc.setDom d (acc.lathePlaced t d)) s
      let pos := s.rf (LTH_SPARE_USE n) LTH_SPARE_USE_STANDBY_POS
      let used (i : Nat) : Bool := if i = 11 then pos ≠ 15 else pos ≠ i
      let laser (s : State) (p : Nat → Bool) (st : Nat) : State :=
        (List.range 12).foldl (fun (acc : State) i => if used i && p (acc.rf (LTH_LASER n i) LTH_LASER_STATE) then acc.wf (LTH_LASER n i) LTH_LASER_STATE st else acc) s
      if t = 2 then
        let s := laser s (fun x => x = 2 || x = 3) 1
        { s with accMem := sdrop s.accMem (2 ^ 22 * n) (2 ^ 22), mem := sdrop s.mem (infeedBase n) 0x2000000,
                 marks := sdrop s.marks (infeedBase n / 64) (0x2000000 / 64) }
      else if bias then laser s (fun x => x = 1) 2
      else s

/-- A domain of a stack, a port group or 60 to 62 is placed as power state `t` gives it; a stack at self-refresh is not up (R515, R517). -/
def State.placeDom (s : State) (t d : Nat) : State :=
  let st := placement t d
  if st = 0 then (if s.dom d = 0 then s else s.domOff d 0)
  else if st = 3 then (if s.jigDom d then (s.wb (HBM_STATUS (d - 48)) HBM_STATUS_UP false).setDom d 3 else s)
  else s.domOn d

/-- Every domain is placed as power state `t` gives it (R517, R521). One in reset is placed when its reset ends (R533). -/
def State.placeAll (s : State) (t : Nat) : State :=
  let s := if t = 3 then { s with keptCodes := (List.range 8).flatMap fun n => s.trimCodes n } else if t = 4 then { s with keptCodes := [] } else s
  let s := (List.range 15).foldl (fun (acc : State) i =>
    if sget 0 acc.power.resets (48 + i) ≠ 0 && placement t (48 + i) ≠ 0 then acc else acc.placeDom t (48 + i)) s
  (List.range 8).foldl (fun (acc : State) n => if sget 0 acc.power.resets (4 * n) ≠ 0 && t < 3 then acc else acc.placeLathe n t) s

/-! ## Device fault hold (R509) -/

/-- Every lathe enters FAULT_HOLD and every laser is OFF. -/
def State.deviceHold (s : State) : State :=
  let s := (List.range 8).foldl (fun (acc : State) n =>
    if (acc.lathe n).svc == .faultHold then acc else acc.dropLathe n .faultHold 11) s
  let s := (List.range 8).foldl (fun (acc : State) n => (List.range 12).foldl (fun (acc : State) i => acc.wf (LTH_LASER n i) LTH_LASER_STATE 0) acc) s
  (s.wb PWR_STATUS PWR_STATUS_FAULT_HOLD true).settleHold

/-- A power-loss reset (R510, R350, R369, R411): every domain is off, every bypass closes, and only the flash, the pins and what lies outside the
device are left. -/
def State.powerLoss (s : State) : State :=
  let open_ := 255 - s.rf IZP_BYP IZP_BYP_CLOSED % 256
  let moving := (s.rf IZP_BYP IZP_BYP_MOVING &&& s.rf IZP_BYP IZP_BYP_CLOSED &&& (255 - s.bypOpening % 256)) ||| open_ ||| s.bypOpening
  let t : State :=
    { pending := s.pending, clock := s.clock, hist := s.histFlash, histFlash := s.histFlash, calFlash := s.calFlash, fws := s.fws,
      jig := { s.jig with st := .idle, quiescing := false, force := 0 },
      sec := { owners := s.sec.owners, ctrs := s.sec.ctrs, asked := s.sec.asked }, fabricIdFlash := s.fabricIdFlash, hostMem := s.hostMem, hostBad := s.hostBad,
      trimPin := s.trimPin, rails := s.rails, perst := s.perst, recPin := s.recPin,
      ftm := { refLost := s.ftm.refLost, ref10 := s.ftm.ref10, refPps := s.ftm.refPps },
      ports := smap {} (fun (x : Port) => { light := x.light }) s.ports, sent := s.sent, msixSent := s.msixSent, freeNo := s.freeNo,
      power := { offAt := if s.power.input then s.clock else s.power.offAt, offTotal := s.power.offTotal },
      bypCause := (List.range 8).foldl (fun acc k => if bit open_ k then sput 0 1 acc k else acc) s.bypCause }
  t.wf IZP_BYP IZP_BYP_MOVING moving

/-! ## Domain resets (R533) -/

/-- Key of a domain reset in progress: a lathe group goes by its first domain. -/
def resetKey (d : Nat) : Nat := match groupOf d with | some n => 4 * n | none => d

/-- The lathe group of lathe `n`, with its Deep-2 partner's, goes into reset (R513, R533); `record` is false where its programs retire without
a completion record (R594). -/
def State.groupReset (s : State) (n : Nat) (record : Bool) : State :=
  (s.groupsOf n).foldl (fun (acc : State) n =>
    let acc := acc.latheOff n 4 record
    { acc with power := { acc.power with resets := sput 0 (acc.clock + 1) acc.power.resets (4 * n) } }) s

/-- DOMAIN_RESET for reason `why`: 1 a command, 2 the Vent, 3 a rail, 4 a clock (R533). -/
def State.resetEvent (s : State) (d why : Nat) : State :=
  s.post 0xE06 (if why ≤ 2 then cINFO else cFATAL) (unitOf 0xC d) 0xFFFF [(0x10, why)]

/-- A domain goes into reset (R513, R533). -/
def State.domainReset (s : State) (d why : Nat) : State :=
  match groupOf d with
  | some n => (s.groupReset n true).resetEvent d why
  | none =>
    let s := s.domOff d 4
    ({ s with power := { s.power with resets := sput 0 (s.clock + 1) s.power.resets d } } : State).resetEvent d why

/-! ## Start-up (Table 14.10, R535–R537) -/

/-- DEVICE_READY, and the pairs of AUTO_OPEN open (R351, R535). -/
def State.ready (s : State) : State :=
  let msec := (s.clock - s.power.startedAt) / 1000000
  let s := ({ s with power := { s.power with starting := false } } : State).wb PWR_STATUS PWR_STATUS_READY true
  let s := s.wf PWR_START PWR_START_MS (satTo 65535 msec)
  let s := s.post 0xE05 cINFO 0 0xFFFF [(0x10, satTo (2 ^ 32 - 1) msec), (0x14, s.rf PWR_START PWR_START_PEND)]
  (List.range 8).foldl (fun (acc : State) k => if bit (jigAutoOpen acc.jigBody) k then acc.openBypass k else acc) s

/-- Step `k` of `PWR_START.PEND` ends; a failed one posts START_STEP_FAIL (R535, R536). -/
def State.stepDone (s : State) (k : Nat) (ok : Bool) : State :=
  if !bit (s.rf PWR_START PWR_START_PEND) k then s
  else
    let s := s.wf PWR_START PWR_START_PEND (s.rf PWR_START PWR_START_PEND - 2 ^ k)
    let s := if ok then s else s.post 0xE08 cFAULT 0 0xFFFF [(0x10, k)]
    if s.power.starting && s.rf PWR_START PWR_START_PEND = 0 then s.ready else s

/-- Start-up begins: `msec` is the time of Table 14.10 that clock `from_` stands for. -/
def State.beginStart (s : State) (msec from_ : Nat) : State :=
  let s : State := { s with power := { s.power with starting := true, startedAt := from_, startMs := msec } }
  ((s.wb PWR_STATUS PWR_STATUS_READY false).wr PWR_START 0).wf PWR_START PWR_START_PEND 0x3F

/-- Firmware whose activation waited for a device reset starts from its other slot (Table 15.9). -/
def State.fwAtReset (s : State) : State :=
  { s with fws := smap {} (fun (f : Fw) => if f.atReset then { f with activeB := !f.activeB, atReset := false } else f) s.fws }

/-- Why slot B, or slot A, of firmware kind `k` is rejected at boot (R544, Table 15.12), 0 when it is accepted. -/
def State.fwSlotFault (s : State) (k : Nat) (b : Bool) : Nat :=
  let f := s.fw k
  if !(if b then f.okB else f.okA) then 1 else if (if b then f.svnB else f.svnA) < s.ctr (fwReg k) then 2 else 0

/-- The bit of `PWR_START.PEND` whose step the left-out kind fails. DEDUCED (log 40). -/
def fwStep (k : Nat) : Nat := match k with | 4 => 2 | 5 => 4 | 6 => 1 | 7 => 5 | _ => 0

/-- Firmware kind `k` is verified at boot (R546, R547): its active slot, then the other; when both fail it is left out. The boot ROM reports
nothing of a first stage it rejects: it enters recovery (R612). A left-out Vent image has no step in PEND: the start-up stops at the first one. -/
def State.bootFw (s : State) (k : Nat) : State :=
  let f := s.fw k
  let keep := s.power.out &&& (0xFF - 2 ^ k)
  let s : State := { s with power := { s.power with out := keep } }
  let why := s.fwSlotFault k f.activeB
  if why = 0 then s
  else if s.fwSlotFault k (!f.activeB) = 0 then s.setFw k { f with activeB := !f.activeB }
  else
    let s : State := { s with power := { s.power with out := keep + 2 ^ k } }
    if k = 1 then { s with recovery := true, recReply := none } else (s.imageRejected k why f.active.1).stepDone (fwStep k) false

/-- The start-up stops at its first steps: the first stage, the security module or the Vent has no image (R546, R547). -/
def State.bootStopped (s : State) : Bool := bit s.power.out 1 || bit s.power.out 2 || bit s.power.out 3

/-- Steps 1 to 3 of Table 15.3, at a cold start. -/
def State.bootChain (s : State) : State :=
  let s := ((s.fwAtReset.bootFw 1).bootFw 2).bootFw 3
  if s.bootStopped then { s with power := { s.power with starting := false } } else s

/-- The images of the boot chain are measured (Table 15.3). -/
def State.measureBoot (s : State) : State :=
  (List.range 7).foldl (fun (acc : State) i =>
    if bit acc.power.out (i + 1) then acc else acc.extend (fwReg (i + 1)) (digBytes (acc.fw (i + 1)).active.2.2)) s

/-- Step 4 of Table 15.3: the jig in force is Current's, else Previous's, else the default jig; an uncommitted one starts a new health
check, and at the second reset is rolled back (R548, R568). -/
def State.bootJig (s : State) : State :=
  let j := s.jig
  let s : State := { s with jig := { j with st := .idle, quiescing := false, force := 0 } }
  let second := j.uncommitted && j.resetSeen
  let s : State :=
    if second then { s with jig := { s.jig with cur := j.prev, prev := {}, uncommitted := false, resetSeen := false } }
    else if j.uncommitted then { s with jig := { s.jig with st := .health, healthFrom := s.clock, resetSeen := true } }
    else s
  let try_ (s : State) (i : JigImg) (which : Nat) : Bool × State :=
    if !i.valid then (which == 0 && !s.jig.prev.valid, s)
    else match s.slotFault i with
      | none => (true, { s with jig := { s.jig with force := which } })
      | some r => (false, s.imageRejected 0x10 r i.version)
  let s := match try_ s s.jig.cur 0 with
    | (true, s) => s
    | (false, s) => match try_ s s.jig.prev 1 with
      | (true, s) => s
      | (false, s) => { s with jig := { s.jig with force := 2 } }
  let s := s.extend 7 (digBytes s.jigDigest)
  let s := (s.wf FLT_CFG FLT_CFG_KP (jigKp s.jigBody)).wf FLT_CFG FLT_CFG_KM (jigKm s.jigBody)
  if second then (s.bump JIG_STAT_ROLLBACKS 1).post 0xF08 cWARN (unitOf 0xF 0) 0xFFFF [(0x10, 5), (0x14, s.jigVersion)] else s

/-- The steps at 150, 160 and 200 ms of Table 14.10: domains 60 to 62, the firmware of Table 15.3, the jig, monitor calibration, then stacks
and port groups. Nothing follows a first stage or a security module without an image (R546, R547). -/
def State.boot150 (s : State) : State :=
  let s := ((s.domOn 62).fwAtReset.bootFw 1).bootFw 2
  if s.bootStopped then { s with power := { s.power with starting := false } }
  else
  let s := [4, 5, 6, 7].foldl (fun (acc : State) k => acc.bootFw k) s
  let s := s.measureBoot.bootJig
  let s := [60, 61].foldl (fun (acc : State) d => acc.domOn d) s
  let s := (List.range 16).foldl (fun (acc : State) c => acc.convCal c) s
  (List.range 12).foldl (fun (acc : State) i => acc.domOn (48 + i)) s

end Sys2Proof.Machine
end

