-- ==== Sys2Proof/Machine/Power.lean ====
section
/-! DEFINITION. Input power, domains, power states, clocks, resets and start-up (14, R503–R537; 16, R573, R595; 17, R602). -/
namespace Sys2Proof.Machine

/-! ## Input power (R503–R506, R510) -/

/-- POWER_INPUT_GOOD (R503, Table 14.10, R412, R599, R612): cold start begins with the Vent and the security module; with REC_N low the
boot ROM enters recovery instead. -/
def execPowerInputGood (s : State) : Out :=
  .next (if s.power.input then s
  else
    let s : State :=
      { s with power := { s.power with input := true, offTotal := s.power.offTotal + (s.clock - s.power.offAt) }, hist := s.histFlash,
               histDirty := [], recovery := s.recPin, recReply := none, vent := { s.vent with booting := true, bootCause := 0 } }
    let s := (((s.setDom 63 1).setDom 62 1).wr DEV_FABRIC_ID s.fabricIdFlash).beginStart 0 s.clock
    if s.recovery then s else s.bootChain)

/-- POWER_LOSS (R510): the 48 V input reaches its reset level. -/
def execPowerLoss (s : State) : Out := .next s.powerLoss

/-- POWER_LEVEL_UPDATE (R504, R505): the 1 ms average, PL, and what follows from it. -/
def execPowerLevelUpdate (power volt : BitVec 16) (s : State) : Out :=
  .next (if !s.power.input then s
  else
    let s := s.wr PWR_INPUT (BitVec.ofNat 32 (volt.toNat + 65536 * power.toNat))
    let lim := s.rf PWR_LIMIT PWR_LIMIT_LIMIT
    let pl := s.rf PWR_STATUS PWR_STATUS_PLEVEL
    let was := s.level
    let pl' := if lim ≤ power.toNat then min (pl + 1) 6 else if 100 * power.toNat < 95 * lim then pl - 1 else pl
    let s := s.wf PWR_STATUS PWR_STATUS_PLEVEL pl'
    let evt := s.flag PWR_CTRL PWR_CTRL_CAP_EVT_EN
    let s := if pl = 0 && 0 < pl' then
        let s : State := { s with power := { s.power with capMs := 0 } }
        if evt then s.post 0xE03 cWARN 0 0xFFFF [(0x10, pl'), (0x12, power.toNat)] else s
      else if 0 < pl && pl' = 0 && evt then s.post 0xE04 cINFO 0 0xFFFF [(0x14, satTo (2 ^ 32 - 1) s.power.capMs)] else s
    let s := if 0 < pl' then ({ s with power := { s.power with capMs := s.power.capMs + 1 } } : State).bump PWR_STAT_CAP_MS 1 else s
    if was = 0 && 0 < s.level then s.throttleCals else s)

/-- PWR_LIMIT_WRITE (R506): 500.0 to 1,250.0 W, the nearer limit held. -/
def execPwrLimitWrite (v : Word) (s : State) : Out := s.atBlock .pwr 0 fun s => .next (s.wf PWR_LIMIT PWR_LIMIT_LIMIT (clampNat 5000 12500 (bits v.toNat 0 16)))

/-! ## Domain commands (R511–R516, R533) -/

/-- `PWR_DOM_CMD` for domain `d` is taken (R512, R514), and no reset of the device holds it. -/
def State.domTaken (s : State) (d : Nat) : Bool :=
  decide (d < 60) && s.jigDom d && !s.flag PWR_STATUS PWR_STATUS_TRANS && !s.power.resetHeld && !s.power.refLost && s.power.input

/-- PWR_DOM_ON (R513–R515, R556): the domain, or its lathe group, switches on as the power state places it. -/
def execPwrDomOn (d : Fin 64) (s : State) : Out := s.atBlock .pwr 0 fun s =>
  .next (if !s.domTaken d then s
  else match groupOf d with
    | some n => (s.groupsOf n).foldl (fun (acc : State) n => if acc.dom (4 * n + 3) = 0 then acc.placeLathe n acc.pwr else acc) s
    | none => if s.dom d = 0 then s.placeDom s.pwr d else s)

/-- PWR_DOM_OFF (R513, R515, R516). -/
def execPwrDomOff (d : Fin 64) (s : State) : Out := s.atBlock .pwr 0 fun s =>
  .next (if !s.domTaken d then s
  else match groupOf d with
    | some n => (s.groupsOf n).foldl (fun (acc : State) n => acc.latheOff n 0 true) s
    | none => s.domOff d 0)

/-- PWR_DOM_RESET (R513, R533). -/
def execPwrDomReset (d : Fin 64) (s : State) : Out := s.atBlock .pwr 0 fun s => .next (if s.domTaken d then s.domainReset d 1 else s)

/-- DOMAIN_REON (R533): a domain that has been in reset for 1 ms switches on again. -/
def execDomainReon (d : Fin 64) (s : State) : Out :=
  let k := resetKey d
  let t := sget 0 s.power.resets k
  .next (if t = 0 || s.clock < t - 1 + ms then s
  else
    let s : State := { s with power := { s.power with resets := sput 0 0 s.power.resets k } }
    match groupOf d with
    | some n => s.placeLathe n s.pwr
    | none => if d.val = 63 then s.setDom 63 1 else s.placeDom s.pwr d)

/-! ## Power states (R517–R528) -/

/-- A transition to Dormant or Cold that the Vent ordered is in progress (R528). -/
def State.ventDown (s : State) : Bool :=
  s.flag PWR_STATUS PWR_STATUS_TRANS && s.power.byVent && decide (3 ≤ s.rf PWR_STATUS PWR_STATUS_TARGET)

/-- PWR_STATE_GO (R522–R524): a write of `PWR_STATE_REQ`; with GO its target becomes the one pending request, at once or, with AT_EN, at the
fabric time of `PWR_STATE_AT`. -/
def execPwrStateGo (v : Word) (s : State) : Out := s.atBlock .pwr 0 fun s =>
  let s := s.wrSoft PWR_STATE_REQ v
  let t := bits v.toNat 0 3
  .next (if !bit v.toNat 8 || t > 4 || s.power.cold || s.ventDown then s
  else if bit v.toNat 4 then { s with power := { s.power with timed := s.power.timed ++ [(s.rd64 PWR_STATE_AT, t)] } }
  else { s with power := { s.power with reqTarget := some t, reqVent := false, timed := [] } })

/-- A rail that feeds a lathe is below its warning level (R525). -/
def State.railLow (s : State) : Bool :=
  s.rails.any fun (e : Nat × RailSt) => e.2.below && (decide (e.1 < 48) || e.1 = 61 || e.1 = 64)

/-- A downward transition must wait (R525, R499). -/
def State.downWaits (s : State) : Bool :=
  (List.range 8).any (fun n => (s.lathe n).svc == .calibrating) || s.runningCals ≠ [] || s.railLow ||
    (s.jig.st == .applyWait || s.jig.st == .applying || s.jig.st == .rollingBack)

/-- A transition to `t` begins: a downward one from Active quiesces every lathe with cause 7 (R519, R526). -/
def State.beginTransition (s : State) (t : Nat) (byVent : Bool) : State :=
  let down := s.pwr = 0
  let s := (s.wb PWR_STATUS PWR_STATUS_TRANS true).wf PWR_STATUS PWR_STATUS_TARGET t
  let s : State := { s with power := { s.power with transFrom := s.clock, waiting := down, byVent := byVent, tmoDone := false, reqTarget := none } }
  if down then (List.range 8).foldl (fun (acc : State) n => acc.quiesce n 7 false) s else s

/-- The timed request whose time has come acts (R522, R524, R378): it becomes the one pending request and replaces those made before it. Where
the times of several have come, the latest of these times counts. One that comes late posts PWR_TRANSITION_LATE; a transition that the Vent
ordered disregards it (R528). -/
def State.timedActs (s : State) : State :=
  let now := s.ft.toNat
  let due := s.power.timed.filter fun e => decide (e.1 ≤ now)
  match due.find? fun e => due.all fun o => decide (o.1 ≤ e.1) with
  | none => s
  | some (at_, t) =>
    let after := ((s.power.timed.dropWhile fun e => e != (at_, t)).drop 1).filter fun e => decide (now < e.1)
    let s : State := { s with power := { s.power with timed := after } }
    if s.ventDown then s
    else
      let s := if at_ < now then s.post 0xE01 cWARN 0 0xFFFF [(0x10, t), (0x18, now - at_)] else s
      { s with power := { s.power with reqTarget := some t, reqVent := false } }

/-- PWR_REQUEST_ACT (R522–R525, R378): a timed request acts once its time has come, and the pending request takes effect once its conditions
hold. -/
def execPwrRequestAct (s : State) : Out :=
  .next (if s.power.resetHeld || s.power.refLost || !s.power.input then s
  else
    let s := if s.power.cold then s else s.timedActs
    match s.power.reqTarget with
    | none => s
    | some t =>
      if s.flag PWR_STATUS PWR_STATUS_TRANS then s
      else if s.pwr = t || (s.pwr = 4 && t ≠ 0) then { s with power := { s.power with reqTarget := none } }
      else if s.pwr < t && s.downWaits then s
      else s.beginTransition t s.power.reqVent)

/-- QUIESCE_TIMEOUT (R526): programs that still run after `PWR_QUIESCE_TMO` are aborted with cause 0x10. -/
def execQuiesceTimeout (s : State) : Out :=
  let tmo := s.rf PWR_QUIESCE_TMO PWR_QUIESCE_TMO_MS
  let late := (List.range 8).filter fun n => (s.lathe n).svc == .quiescing
  let running (b : Nat) : List Prog := (s.engine b).progs.filter fun x => x.st == .started
  let engines := (late.map s.gang).eraseDups
  let count := (engines.map fun b => (running b).length).foldl (· + ·) 0
  .next (if !s.flag PWR_STATUS PWR_STATUS_TRANS || !s.power.waiting || tmo = 0 || s.clock < s.power.transFrom + tmo * ms || s.power.tmoDone || late.isEmpty then s
  else
    let s := engines.foldl (fun (acc : State) b => acc.abortWhere b 0x10 fun x => x.st == .started) { s with power := { s.power with tmoDone := true } }
    s.post 0xE02 cWARN 0 0xFFFF
      [(0x10, s.rf PWR_STATUS PWR_STATUS_TARGET), (0x11, maskOf 8 fun n => late.contains n), (0x14, count)])

/-- The device has woken from Cold: start-up goes on from the step at 150 ms (R537). -/
def State.wakeCold (s : State) : State :=
  let s : State := { s with power := { s.power with cold := false } }
  (s.beginStart 140 s.power.transFrom).boot150

/-- PWR_TRANSITION_END (R517–R521, R527): once the lathes have quiesced and, for Dormant and Cold, every bypass has closed, the domains
are placed and STATE is set. -/
def execPwrTransitionEnd (s : State) : Out :=
  let t := s.rf PWR_STATUS PWR_STATUS_TARGET
  let old := s.pwr
  let quiet := s.power.byVent || !s.power.waiting || (List.range 8).all fun n => (s.lathe n).svc != .quiescing
  let closed := (List.range 8).all fun k => s.bypassed k && !bit s.bypOpening k
  .next (if !s.flag PWR_STATUS PWR_STATUS_TRANS || !quiet || s.power.refLost then s
  else if t ≥ 3 && !closed then (List.range 8).foldl (fun (acc : State) k => acc.closeBypass k 2 5) s
  else if t ≥ 3 && s.rf IZP_BYP IZP_BYP_MOVING ≠ 0 then s
  else
    let s := (List.range 8).foldl (fun (acc : State) n => acc.modLathe n Lathe.freeBanks) s
    let why := if s.power.byVent then 2 else 1
    let us := (s.clock - s.power.transFrom) / 1000
    let s := if old = 4 && t = 0 then s.wakeCold else s.placeAll t
    let s := ((s.wf PWR_STATUS PWR_STATUS_STATE (min t 3)).wb PWR_STATUS PWR_STATUS_TRANS false).bump PWR_STAT_TRANSITIONS 1
    let s : State := { s with power := { s.power with cold := t == 4, waiting := false, byVent := false } }
    let s := if t = 4 then s.wb PWR_STATUS PWR_STATUS_READY false else s
    let s := if s.flag PWR_CTRL PWR_CTRL_STATE_EVT_EN then s.post 0xE00 cINFO 0 0xFFFF [(0x10, old), (0x11, t), (0x12, why), (0x14, us)] else s
    if t = 0 then (List.range 8).foldl (fun (acc : State) n => acc.tryService n) s else s)

/-! ## Resets (R531, R532, R534, R595) -/

/-- A device reset begins (R531): every domain except the Vent's is held off, and what waits for the host or the fabric is gone. -/
def State.deviceReset (s : State) : State :=
  if !s.power.input then s
  else
    let s := s.holdAll false
    let s := (s.wr DEV_DEBUG 0).wr PWR_START 0
    let keep := s.power
    let st := (s.rd PWR_STATUS).toNat &&& (7 * 2 ^ 12 + 2 ^ 16)
    let s := s.wr PWR_STATUS (BitVec.ofNat 32 st)
    { s with power := { keep with starting := false, resetHeld := true, resetAt := s.clock, reqTarget := none, reqVent := false, timed := [],
                                  waiting := false, byVent := false, cold := false },
             sec := { s.sec with grant := none, sess := [] } }

/-- A Vent reset (R534, R595): it abandons its operation and its requests, and boots again. -/
def State.ventReset (s : State) (cause : Nat) : State :=
  if s.vent.booting || !s.power.input then s
  else
    let s := s.incF VNT_STATUS VNT_STATUS_RESTARTS 1
    let s := (s.wb VNT_MBX_STATUS VNT_MBX_STATUS_BUSY false).wb VNT_MBX_STATUS VNT_MBX_STATUS_DONE false
    { s with vent := { s.vent with booting := true, bootCause := cause, abandoned := (s.vent.run.map (·.op)).getD 0, run := none,
                                   queue := [] } }

/-- A fault of the Vent's rail resets domain 63 (R508, R533): the Vent restarts, and its domain is off for 1 ms. Its blocks, which report on
every other domain, keep their registers. DEDUCED (log 138). -/
def State.ventDomainReset (s : State) : State :=
  let s := (s.ventReset 1).setDom 63 4
  ({ s with power := { s.power with resets := sput 0 (s.clock + 1) s.power.resets 63 } } : State).resetEvent 63 3

/-- PERST_N (R573): a device reset, held while the pin is low. -/
def execPerstN (s : State) : Out := .next (({ s with perst := true } : State).hostLinkDown .perst).deviceReset

/-- DEV_RESET_CMD (R602). -/
def execDevResetCmd (v : BitVec 16) (s : State) : Out := s.atBlock .dev 0 fun s => .next (if v = 0xD0A5 then s.deviceReset else s)

/-- DEVICE_RESET_RELEASE (R531, R530, R612): after at least 10 ms, and with the reference oscillator, start-up runs from the step at 150 ms, or the
boot ROM enters recovery. -/
def execDeviceResetRelease (s : State) : Out :=
  .next (if !s.power.resetHeld || s.clock < s.power.resetAt + 10 * ms || s.power.refLost then s
  else
    let s : State := { s with perst := false, power := { s.power with resetHeld := false }, recovery := s.recPin, recReply := none }
    if s.recPin then s.setDom 62 1 else (s.beginStart 150 s.clock).boot150)

/-- A function-level reset (R532): every program ends with cause 0x11, every submission queue is disabled, and the function's interrupt
and configuration state is reset. -/
def State.functionReset (s : State) : State :=
  let s := (List.range 8).foldl (fun (acc : State) b => acc.abortWhere b 0x11 fun _ => true) s
  let s := (List.range 64).foldl (fun (acc : State) q => acc.wb (STR_SQ_CFG (q / 8) (q % 8)) STR_SQ_CFG_EN false) s
  { s with msixTable := [], msixPending := [], evtQs := [], ctoNs := 50000000, ctoOff := false }

/-- HOT_RESET (R573): a hot reset or link disable. -/
def execHotReset (s : State) : Out := .next (s.hostLinkDown .hotReset).functionReset

/-- FUNCTION_LEVEL_RESET (R532). -/
def execFunctionLevelReset (s : State) : Out := .next s.functionReset

/-- VENT_WATCHDOG (R534, R595). -/
def execVentWatchdog (s : State) : Out := .next (s.ventReset 1)

/-- VENT_BOOTED (R595, Table 14.10): VENT_RESTARTED after a reset; at cold start the device starts up from the step at 150 ms. -/
def execVentBooted (s : State) : Out :=
  .next (if !s.vent.booting || s.recovery || s.bootStopped || s.dom 63 ≠ 1 || (s.vent.bootCause = 0 && s.power.refLost) then s
  else
    let v := s.vent
    let s : State := { s with vent := { v with booting := false, abandoned := 0 } }
    if v.bootCause = 0 then s.boot150 else s.postVent 0x1006 cWARN 0 [(0x10, v.bootCause), (0x11, v.abandoned)])

/-! ## Clocks (R529, R530) -/

/-- PLL_UNLOCK (R530, Table 14.8). -/
def execPllUnlock (k : Option (Fin 37)) (s : State) : Out :=
  let evt (s : State) (i : Nat) : State :=
    if s.flag CLK_CTRL CLK_CTRL_UNLOCK_EVT_EN then s.post 0xE07 cFATAL 0 0xFFFF [(0x10, i)] else s
  .next (match k with
  | none =>
    if !s.power.input || s.power.refLost then s
    else
      let s := evt ((s.bump CLK_STAT_UNLOCK 1).wb CLK_REF CLK_REF_REF_OK false |>.wb CLK_REF CLK_REF_FALLBACK true) 0xFF
      let s := s.holdAll true
      { s with power := { s.power with refLost := true } }
  | some k =>
    if !s.flag (CLK_DOM k) CLK_DOM_LOCKED then s
    else
      let s := evt (((s.bump CLK_STAT_UNLOCK 1).wb (CLK_DOM k) CLK_DOM_LOCKED false).incF (CLK_DOM k) CLK_DOM_UNLOCKS 1) k
      if k.val < 24 then
        (if (s.lathe (k % 8)).svc == .faultHold then s else s.dropLathe (k % 8) .faultHold 11)
      else if k.val < 32 then s.domainReset (48 + (k - 24)) 4
      else if k.val = 32 then (List.range 4).foldl (fun (acc : State) j => if acc.dom (56 + j) = 1 then acc.domainReset (56 + j) 4 else acc) s
      else if k.val = 33 then s.domainReset 60 4
      else if k.val = 34 then s.deviceHold.domainReset 61 4
      else if k.val = 35 then (s.wb CLK_REF CLK_REF_FALLBACK true).ventReset 2
      else s.deviceReset)

/-- REF_OSC_RETURN (R530): the held domains are released, but for a device reset that still holds them (R531) and, before the Vent's first
boot has ended, all but domain 62 (Table 14.10). -/
def execRefOscReturn (s : State) : Out :=
  .next (if !s.power.refLost then s
  else
    let s : State := { s with power := { s.power with refLost := false } }
    let s := (s.wb CLK_REF CLK_REF_REF_OK true).wb CLK_REF CLK_REF_FALLBACK false
    if s.power.resetHeld then s
    else if s.vent.booting && s.vent.bootCause = 0 then s.domOn 62
    else s.placeAll s.pwr)

/-! ## Start-up (R535, R536) -/

/-- START_STEP_END (R535, R536): step 0 ends with the self-tests. -/
def execStartStepEnd (k : Fin 6) (ok : Bool) (s : State) : Out :=
  .next (if k.val = 0 && s.sec.st == .selftest then s else s.stepDone k ok)

/-- READY_TIMEOUT (R535): READY at 4,000 ms of Table 14.10, with the steps still pending. -/
def execReadyTimeout (s : State) : Out :=
  .next (if s.power.starting && decide (s.power.startedAt + (4000 - s.power.startMs) * ms ≤ s.clock) then s.ready else s)

end Sys2Proof.Machine
end

