-- ==== Sys2Proof/Machine/JigOps.lean ====
section
/-! DEFINITION. Images, the verification of a jig's body, and the steps of an apply, a rollback and a firmware activation
(15, R543–R569). -/
namespace Sys2Proof.Machine
open Sha3

/-! ## Images (R543, R544) -/

/-- An image read from its source: its bytes, none when a line is unmapped or marked, or the address lies outside the local map. -/
def State.readImage (s : State) (src len : Nat) : Option (List Byte) :=
  if len = 0 || src + len > 2 ^ 40 then none
  else if (lineAddrs src len).all fun l => s.readable (max src l) && !s.mark l then some (s.bytes src len) else none

/-- The source read of an image posts ADDR_UNMAPPED for its first unmapped line (R33, log 32). -/
def State.imageUnmapped (s : State) (src len : Nat) : State :=
  match (lineAddrs src len).find? fun l => !s.readable (max src l) with
  | some l => s.unmappedEvent .vent none (s.glob (max src l)) false
  | none => s

def imgVersion (l : List Byte) : Nat := leNat l 0x0C 4
def imgSvn (l : List Byte) : Nat := leNat l 0x08 4
def imgSigner (l : List Byte) : Nat := leNat l 5 1
def imgBodyLen (l : List Byte) : Nat := leNat l 0x10 4
def imgBody (l : List Byte) : List Byte := (l.drop 256).take (imgBodyLen l)
/-- Digest of the image's public key. -/
def imgKey (l : List Byte) : BitVec 512 := sha3 ((l.drop (256 + imgBodyLen l)).take 2592)

/-- The header is as the loader expects (R544, first condition), and the image has the length its header gives. -/
def headerOk (l : List Byte) (kind : Nat) : Bool :=
  leNat l 0 4 == 0x4C494D47 && leNat l 4 1 == kind && leNat l 6 2 == 0xB0 && decide (1 ≤ imgBodyLen l) && decide (imgBodyLen l ≤ 16777216) &&
    l.length == 256 + imgBodyLen l + 2592 + 4627 && (leNat l 0x14 1 == 0 || (leNat l 0x14 1 == 1 && leNat l 0x18 64 == Config.devId.toNat))

/-- Why an image of `kind` is rejected under R544 (Table 15.12), 0 when it is accepted. -/
def State.imageFault (s : State) (l : List Byte) (kind : Nat) (keyOk sigOk : Bool) : Nat :=
  if !headerOk l kind then 3
  else
    let key := if kind = 0x10 then s.jigKeyOk (imgSigner l) (imgKey l) keyOk else imgSigner l == 0 && keyOk
    if !key || !sigOk then 1
    else if imgSvn l < s.ctr (if kind = 0x10 then 7 else fwReg kind) then 2
    else 0

/-! ## A jig's body (R560, R561) -/

/-- R6: every gang's lathes carry one shape code and start at a multiple of its size. -/
def shapesOk (b : List Byte) : Bool :=
  (List.range 8).all fun n =>
    let sh := leNat b n 1
    decide (sh ≤ 4) && (List.range (shapeSize sh)).all fun i => leNat b (n / shapeSize sh * shapeSize sh + i) 1 == sh

/-- R353 for one route set. -/
def routeSetOk (b : List Byte) (r : Nat) : Bool :=
  let used := (List.range 8).filter fun d => rsWidth (jigRsDim b r d) != 0
  let f (d : Nat) : Nat := jigRsDim b r d
  used.all (fun d => decide (rsShift (f d) + rsWidth (f d) ≤ 16) && decide (rsSize (f d) ≤ 2 ^ rsWidth (f d)) && rsPairs (f d) != []) &&
    used.all fun d => used.all fun e => d == e ||
      ((decide (rsShift (f d) + rsWidth (f d) ≤ rsShift (f e)) || decide (rsShift (f e) + rsWidth (f e) ≤ rsShift (f d))) &&
        (rsPairs (f d)).all fun k => !(rsPairs (f e)).contains k)

/-- R473. -/
def limitsOk (b : List Byte) : Bool :=
  decide (jigWarn b ≤ 95) && decide (jigThrottle b ≤ 105) && decide (jigTrip b ≤ 115) && decide (jigWarn b < jigThrottle b) && decide (jigThrottle b < jigTrip b)

/-- The ADC bank of the odd lathe of a Deep-2 gang. -/
def deepAdc (b : List Byte) (d : Nat) : Bool := decide (d < 32) && d % 4 == 2 && d / 4 % 2 == 1 && jigShape b (d / 4) == 4

/-- Partition, domains and clocks (R561). -/
def plansOk (b : List Byte) : Bool :=
  (jigSpanMib b == 0 || jigSpanMib b == 8 || jigSpanMib b == 16) && (jigJrnlMib b == 0 || jigJrnlMib b == 8) &&
    decide (32 ≤ jigKp b) && decide (32 ≤ jigKm b) && leNat b 16 8 < 2 ^ 37 &&
    (List.range 4).all (fun i => jigDomEn b (60 + i)) && (List.range 5).all (fun i => jigClkEn b (32 + i)) &&
    (List.range 8).all (fun n =>
      let on := jigDomEn b (4 * n)
      (groupDoms n).all (fun d => jigDomEn b d == (on && !deepAdc b d)) && [n, 8 + n, 16 + n].all fun k => jigClkEn b k == on) &&
    (List.range 8).all fun m => jigDomEn b (48 + m) == jigClkEn b (24 + m)

/-- Why a jig's body is rejected (R561, Table 15.12), 0 when it is not. -/
def bodyFault (b : List Byte) : Nat :=
  if b.length ≠ 160 then 3
  else if !shapesOk b then 4
  else if !(List.range 4).all (routeSetOk b) then 5
  else if !limitsOk b then 6
  else if !plansOk b then 7
  else 0

/-! ## Apply and rollback (R563–R568) -/

/-- `JIG_RESULT`: the command and its reason. -/
def State.jigResult (s : State) (cmd reason : Nat) : State := s.wr JIG_RESULT (BitVec.ofNat 32 (reason + 256 * cmd))

/-- The lathes that a change of body affects (R563). -/
def affected (old new : List Byte) (n : Nat) : Bool :=
  leNat old n 1 != leNat new n 1 || (groupDoms n).any (fun d => jigDomEn old d != jigDomEn new d) ||
    jigSpanMib old != jigSpanMib new || jigJrnlMib old != jigJrnlMib new

/-- The body that the apply or rollback in progress will install. -/
def State.nextBody (s : State) : List Byte :=
  let i := if s.jig.st == .rollingBack then s.jig.prev else s.jig.pend
  if i.valid then i.body else defaultJig

def State.affectedBy (s : State) (body : List Byte) : List Nat := (List.range 8).filter fun n => affected s.jigBody body n

/-- Affected lathes begin to quiesce with cause 8, once no power transition and no calibration is in progress (R563). -/
def State.quiesceJig (s : State) : State :=
  if s.flag PWR_STATUS PWR_STATUS_TRANS || s.runningCals ≠ [] then s
  else
    let hit := (s.affectedBy s.nextBody).filter fun n => (s.lathe n).svc == .inService || (s.lathe n).svc == .quiescing
    let s := hit.foldl (fun (acc : State) n => acc.quiesce n 8 false) s
    { s with jig := { s.jig with quiescing := true, quiesceFrom := s.clock, mask := maskOf 8 fun n => hit.contains n } }

/-- The affected lathes are out of service. -/
def State.jigQuiet (s : State) : Bool :=
  s.jig.quiescing && (s.affectedBy s.nextBody).all fun n =>
    let v := (s.lathe n).svc
    v != .inService && v != .quiescing && v != .calibrating

/-- A rollback begins with its cause (R567). -/
def State.beginRollback (s : State) (cause : Nat) : State :=
  ({ s with jig := { s.jig with st := .rollingBack, cause := cause, quiescing := false } } : State).quiesceJig

/-- The new body takes force in one step (R564, R565): groups of affected lathes are INVALID, their unstarted programs end, domains go
off and on, and `FLT_CFG` follows; `move` changes the slots. -/
def State.installJig (s : State) (move : Jig → Jig) : State :=
  let old := s.jigBody
  let hit := s.affectedBy s.nextBody
  let new := s.nextBody
  let s := hit.foldl (fun (acc : State) n => (acc.cutDrains n).invalidate n (fun _ => true) 0xFFFF) s
  let s := (hit.map s.gang).eraseDups.foldl (fun (acc : State) b => acc.abortWhere b 0x12 fun x => x.st == .accepted) s
  let gone := (List.range 64).filter fun d => jigDomEn old d && !jigDomEn new d
  let came := (List.range 64).filter fun d => !jigDomEn old d && jigDomEn new d
  let s := gone.foldl (fun (acc : State) d =>
    if d ≥ 48 then acc.domOff d 0
    else if d < 32 && d % 4 = 3 then acc.latheOff (d / 4) 0 true
    else if d < 32 && d % 4 = 2 then acc.setDom d 0
    else acc) s
  let s : State := { s with jig := move s.jig }
  let s := came.foldl (fun (acc : State) d =>
    if d ≥ 48 then acc.placeDom acc.pwr d
    else if d < 32 && d % 4 = 3 then acc.placeLathe (d / 4) acc.pwr
    else if d < 32 && d % 4 = 2 && acc.dom (d - 2) ≠ 0 then acc.setDom d (acc.lathePlaced acc.pwr d)
    else acc) s
  let s := (s.wf FLT_CFG FLT_CFG_KP (jigKp new)).wf FLT_CFG FLT_CFG_KM (jigKm new)
  let s := s.extend 7 (digBytes s.jigDigest)
  let s := hit.foldl (fun (acc : State) n =>
    if (jigShape old n == 4) != (jigShape new n == 4) then (acc.modLathe n fun l => { l with calFresh := false }).renameLoops n else acc) s
  hit.foldl (fun (acc : State) n => (acc.modLathe n Lathe.freeBanks).tryService n) s

/-- A Pending jig is applied and its health check starts (R564). -/
def State.applyJig (s : State) : State :=
  let mask := s.jig.mask
  let s := (s.installJig fun j =>
    { j with st := .health, prev := j.cur, cur := j.pend, pend := {}, uncommitted := true, resetSeen := false, quiescing := false, force := 0,
             healthFrom := s.clock }).bump JIG_STAT_APPLIES 1
  s.post 0xF06 cINFO (unitOf 0xF 0) 0xFFFF [(0x10, mask), (0x14, s.jigVersion)]

/-- The Previous jig, or the default jig while Previous is empty, is applied again (R567). -/
def State.rollBack (s : State) : State :=
  let cause := s.jig.cause
  let s := (s.installJig fun j =>
    { j with st := .idle, cur := j.prev, prev := {}, uncommitted := false, resetSeen := false, quiescing := false, force := 0 }).bump JIG_STAT_ROLLBACKS 1
  let s := s.wf JIG_RESULT JIG_RESULT_REASON (if cause = 1 || cause = 2 then 11 else s.rf JIG_RESULT JIG_RESULT_REASON)
  s.post 0xF08 cWARN (unitOf 0xF 0) 0xFFFF [(0x10, cause), (0x14, s.jigVersion)]

/-- Why a rollback command is refused (R562, R567), 0 when it is taken. -/
def State.rollbackRefusal (s : State) : Nat :=
  if s.jig.st != .idle && s.jig.st != .health then 8
  else if !s.jig.prev.valid || s.jig.prev.svn < s.ctr 7 then 9
  else 0

/-! ## Firmware (R569, Table 15.9) -/

def State.fwResult (s : State) (reason : Nat) : State := s.wf JIG_FW_STATUS JIG_FW_STATUS_REASON reason

/-- An activation of the kind is in progress. -/
def State.fwActive (s : State) (kind : Nat) : Bool := s.fwBusy.any fun a => a.kind == kind

/-- Every instance of a kind. -/
def fwAll (kind : Nat) : Nat := if kind = 5 || kind = 6 then 0xFF else if kind = 7 then 0xF else 1

/-- The image of the kind takes its place: the slot changes, its register is extended, and FW_ACTIVATED. -/
def State.fwDone (s : State) (a : FwAct) : State :=
  let f := s.fw a.kind
  let f := if a.flip then { f with activeB := !f.activeB, loaded := a.back, committed := a.back, ran := 0 } else f
  let f := { f with ran := f.ran ||| (if a.kind ≤ 4 then 1 else a.inst) }
  let s := (s.setFw a.kind f).extend (fwReg a.kind) (digBytes f.active.2.2)
  s.post 0xF09 cINFO (unitOf 0xF 0) 0xFFFF [(0x10, a.kind), (0x11, a.inst), (0x14, f.active.1)]

/-- An activation begins on its instances. -/
def State.fwBegin (s : State) (a : FwAct) (bypass : Bool) : State :=
  match a.kind with
  | 1 | 2 =>
    let f := s.fw a.kind
    let s := s.setFw a.kind { f with atReset := true, loaded := a.back, committed := a.back }
    (s.extend (fwReg a.kind) (digBytes f.other.2.2)).post 0xF09 cINFO (unitOf 0xF 0) 0xFFFF [(0x10, a.kind), (0x11, a.inst), (0x14, f.other.1)]
  | 3 => { s.ventReset 3 with fwBusy := s.fwBusy ++ [a] }
  | 5 =>
    let s := (List.range 8).foldl (fun (acc : State) n =>
      if !bit a.inst n then acc
      else match (acc.lathe n).svc with
        | .inService => (acc.setCal (acc.calKey n) { st := .waiting, begun := true, lathe := n }).quiesce n 10 true
        | .outOfService => acc.modLathe n fun l => { l with calFresh := false }
        | _ => acc) s
    { s with fwBusy := s.fwBusy ++ [a] }
  | 7 =>
    let groups := (List.range 4).filter (bit a.inst)
    if bypass then
      let pairs := groups.flatMap fun j => [2 * j, 2 * j + 1]
      let open_ := pairs.filter fun k => !s.bypassed k
      let s := open_.foldl (fun (acc : State) k => acc.closeBypass k 2 3) s
      { s with fwBusy := s.fwBusy ++ [{ a with pairs := maskOf 8 fun k => open_.contains k }] }
    else
      let s := (groups.flatMap fun j => (List.range 4).map (4 * j + ·)).foldl (fun (acc : State) p => if acc.portUp p then acc.linkDown p 3 else acc) s
      { s with fwBusy := s.fwBusy ++ [a] }
  | _ => { s with fwBusy := s.fwBusy ++ [a] }

/-- The work of an activation in progress is over. -/
def State.fwReady (s : State) (a : FwAct) : Bool :=
  match a.kind with
  | 3 => !s.vent.booting
  | 5 => (List.range 8).all fun n => !bit a.inst n || (s.lathe n).svc != .quiescing
  | 7 => a.pairs &&& s.rf IZP_BYP IZP_BYP_MOVING = 0
  | _ => true

end Sys2Proof.Machine
end

