-- ==== Sys2Proof/Machine/JigCmds.lean ====
section
/-! DEFINITION. The commands of the jig and of live firmware updates (15, R561–R569). -/
namespace Sys2Proof.Machine

/-- JIG_VERIFY (R541, R544, R561, R562, Table 15.7): a staged image that passes replaces Pending. Refused while domain 62 is not ON (log 202). -/
def execJigVerify (keyOk sigOk : Bool) (s : State) : Out := s.atBlock .jig 0 fun s =>
  .next (if s.jig.st != .idle || s.dom 62 ≠ 1 then s.jigResult 1 8
  else match s.readImage (s.rd64 JIG_SRC) (s.rd JIG_LEN).toNat with
    | none => ((s.imageUnmapped (s.rd64 JIG_SRC) (s.rd JIG_LEN).toNat).jigResult 1 10).imageRejected 0x10 10 0
    | some l =>
      let why := let r := s.imageFault l 0x10 keyOk sigOk; if r ≠ 0 then r else bodyFault (imgBody l)
      if why ≠ 0 then (s.jigResult 1 why).imageRejected 0x10 why (imgVersion l)
      else
        let i : JigImg := { valid := true, version := imgVersion l, svn := imgSvn l, body := imgBody l, signer := imgSigner l,
                            key := imgKey l, digest := Sha3.sha3 l }
        ({ s with jig := { s.jig with pend := i } } : State).jigResult 1 0)

/-- JIG_APPLY (R562, Table 15.7). -/
def execJigApply (atEn : Bool) (s : State) : Out := s.atBlock .jig 0 fun s =>
  .next (if s.jig.st != .idle || !s.jig.pend.valid then s.jigResult 2 8
  else ({ s with jig := { s.jig with st := .applyWait, applyAt := if atEn then s.rd64 JIG_AT else 0, quiescing := false } } : State).jigResult 2 0)

/-- JIG_ROLLBACK (R562, R567). -/
def execJigRollback (s : State) : Out := s.atBlock .jig 0 fun s =>
  .next (let why := s.rollbackRefusal; if why ≠ 0 then s.jigResult 3 why else (s.jigResult 3 0).beginRollback 3)

/-- JIG_DISCARD (R562, Table 15.7). -/
def execJigDiscard (s : State) : Out := s.atBlock .jig 0 fun s =>
  .next (if s.jig.st != .idle && s.jig.st != .applyWait then s.jigResult 4 8
  else ({ s with jig := { s.jig with st := .idle, pend := {}, quiescing := false } } : State).jigResult 4 0)

/-- APPLY_ACT (R563, R378): at its time, with no power transition and no calibration in progress, the apply quiesces its lathes. -/
def execApplyAct (s : State) : Out :=
  .next (if s.jig.st != .applyWait || s.ft.toNat < s.jig.applyAt || s.flag PWR_STATUS PWR_STATUS_TRANS || s.runningCals ≠ [] then s
  else ({ s with jig := { s.jig with st := .applying } } : State).quiesceJig)

/-- APPLY_QUIESCED (R564, R565). -/
def execApplyQuiesced (s : State) : Out := .next (if s.jig.st == .applying && s.jigQuiet then s.applyJig else s)

/-- JIG_QUIESCE_TIMEOUT (R563, R567): remaining programs of the affected lathes are aborted with cause 0x12. -/
def execJigQuiesceTimeout (s : State) : Out :=
  let set := s.rf PWR_QUIESCE_TMO PWR_QUIESCE_TMO_MS
  let tmo := if set = 0 && s.jig.st == .rollingBack then 10 else set
  .next (if !s.jig.quiescing || tmo = 0 || s.clock < s.jig.quiesceFrom + tmo * ms then s
  else
    let late := (s.affectedBy s.nextBody).filter fun n => (s.lathe n).svc == .quiescing
    (late.map s.gang).eraseDups.foldl (fun (acc : State) b => acc.abortWhere b 0x12 fun x => x.st == .started) s)

/-- HEALTH_CHECK_END (R551, R566): at 30 s the check passes and commits, or fails and rolls back. -/
def execHealthCheckEnd (s : State) : Out :=
  .next (if s.jig.st != .health || s.clock < s.jig.healthFrom + 30000 * ms then s
  else
    let lathes := (List.range 8).all fun n =>
      let l := s.lathe n
      !jigDomEn s.jigBody (4 * n + 3) || l.svc == .inService || l.svc == .calibrating || (l.svc == .outOfService && l.oosCause = 1)
    let hbmStacks := (List.range 8).all fun m => !jigDomEn s.jigBody (48 + m) || s.flag (HBM_STATUS m) HBM_STATUS_UP
    if lathes && hbmStacks then
      let s := ({ s with jig := { s.jig with st := .idle, uncommitted := false, resetSeen := false } } : State).raiseCtr 7 s.jig.cur.svn
      s.post 0xF07 cINFO (unitOf 0xF 0) 0xFFFF [(0x14, s.jig.cur.version), (0x18, s.jig.cur.svn)]
    else s.beginRollback 2)

/-- ROLLBACK_APPLY (R567): the affected lathes quiesce, and once they are out of service the earlier jig is in force again. -/
def execRollbackApply (s : State) : Out :=
  .next (if s.jig.st != .rollingBack then s
  else
    let s := if s.jig.quiescing then s else s.quiesceJig
    if s.jigQuiet then s.rollBack else s)

/-- FW_VERIFY (R541, R544, R569): an accepted image is loaded into the inactive slot of its kind. -/
def execFwVerify (kind : BitVec 3) (keyOk sigOk : Bool) (s : State) : Out := s.atBlock .jig 0 fun s =>
  let k := kind.toNat
  .next (if k = 0 then s.fwResult 3
  else if s.fwActive k || s.dom 62 ≠ 1 then s.fwResult 8
  else match s.readImage (s.rd64 JIG_FW_SRC) (s.rd JIG_FW_LEN).toNat with
    | none => ((s.imageUnmapped (s.rd64 JIG_FW_SRC) (s.rd JIG_FW_LEN).toNat).fwResult 10).imageRejected k 10 0
    | some l =>
      let why := s.imageFault l k keyOk sigOk
      if why ≠ 0 then (s.fwResult why).imageRejected k why (imgVersion l)
      else
        let f := s.fw k
        let f := if f.activeB then { f with verA := imgVersion l, svnA := imgSvn l, digA := Sha3.sha3 l, okA := true, loaded := true }
          else { f with verB := imgVersion l, svnB := imgSvn l, digB := Sha3.sha3 l, okB := true, loaded := true }
        (s.setFw k f).fwResult 0)

/-- FW_ACTIVATE (R569, Table 15.9): the verified image of the inactive slot starts, or an activation goes on to further instances. -/
def execFwActivate (kind : BitVec 3) (inst : BitVec 8) (bypass : Bool) (s : State) : Out := s.atBlock .jig 0 fun s =>
  let k := kind.toNat
  let f := s.fw k
  .next (if k = 0 || s.fwActive k || (!f.loaded && f.committed) then s.fwResult 8
  else (s.fwResult 0).fwBegin { kind := k, inst := inst.toNat, flip := f.loaded } bypass)

/-- FW_ACTIVATE_OTHER (R569): until COMMIT, the earlier image of the other slot starts again. -/
def execFwActivateOther (kind : BitVec 3) (inst : BitVec 8) (bypass : Bool) (s : State) : Out := s.atBlock .jig 0 fun s =>
  let k := kind.toNat
  .next (if k = 0 || s.fwActive k || (s.fw k).committed then s.fwResult 8
  else (s.fwResult 0).fwBegin { kind := k, inst := inst.toNat, back := true } bypass)

/-- FW_ACTIVATION_END (R351, R428, R569): the oldest activation whose work is over ends. -/
def execFwActivationEnd (s : State) : Out :=
  .next (match s.fwBusy.find? s.fwReady with
  | none => s
  | some a =>
    let s : State := { s with fwBusy := s.fwBusy.erase a }
    let s := s.fwDone a
    if a.kind = 4 then (s.loops.map (·.1)).foldl (fun (acc : State) (i : Nat) => acc.reinit i) s
    else if a.kind = 7 then (List.range 8).foldl (fun (acc : State) k => if bit a.pairs k then acc.openBypass k else acc) s
    else s)

/-- FW_COMMIT (R541, R551): once every instance runs the new image, its counter is raised. -/
def execFwCommit (kind : BitVec 3) (s : State) : Out := s.atBlock .jig 0 fun s =>
  let k := kind.toNat
  let f := s.fw k
  .next (if k < 4 || s.dom 62 ≠ 1 || s.fwActive k || f.committed || f.ran &&& fwAll k ≠ fwAll k then s.fwResult 8
  else
    let s := ((s.setFw k { f with committed := true, loaded := false }).raiseCtr (fwReg k) f.active.2.1).fwResult 0
    s.post 0xF0A cINFO (unitOf 0xF 0) 0xFFFF [(0x10, k), (0x14, f.active.2.1)])

end Sys2Proof.Machine
end

