-- ==== Sys2Proof/Machine/Lathe.lean ====
section
/-! DEFINITION. The commands of a lathe's service state, maps and bank age (02). -/
namespace Sys2Proof.Machine

/-- SVC_REQ_WRITE (R76): 0 quiesces an IN_SERVICE lathe with cause 1; 1 brings an OUT_OF_SERVICE lathe back. -/
def execSvcReqWrite (n : Fin 8) (v : Bool) (s : State) : Out := s.atBlock .lth n fun s =>
  let s := s.wb (LTH_CTRL n) LTH_CTRL_SVC_REQ v
  .next (if v then s.tryService n else s.quiesce n 1 false)

/-- LTH_MAP_WRITE (R42): a map entry is written only in OUT_OF_SERVICE or OFF. -/
def execLthMapWrite (n : Fin 8) (col : Bool) (i : Fin 520) (v : Word) (s : State) : Out := s.atBlock .lth n fun s =>
  let svc := (s.lathe n).svc
  if svc == .outOfService || svc == .off then
    if col then .next (((s.wf (LTH_COLMAP n i) LTH_COLMAP_PHYS v.toNat).renameLoops n).powerAdcs n)
    else if i.val < 512 then .next ((s.wf (LTH_ROWMAP n i) LTH_ROWMAP_PHYS v.toNat).renameLoops n)
    else .next s
  else .next s

/-- BANK_AGE_MAX_WRITE (R55): held to 500–4,500 µs. -/
def execBankAgeMaxWrite (n : Fin 8) (v : Word) (s : State) : Out := s.atBlock .lth n fun s =>
  .next (s.wr (LTH_BANK_AGE_MAX n) (BitVec.ofNat 32 (clampNat 500 4500 v.toNat)))

/-- LASERS_LOCKED (R76, R487, R519): every working laser is LOCKED and the standby warm; a STARTING lathe goes to CALIBRATING, with its partner in a Deep-2
pair, and its full calibration waits for a slot; one out of service whose lasers lock again after Steam may return. -/
def execLasersLocked (n : Fin 8) (s : State) : Out :=
  let pos := s.rf (LTH_SPARE_USE n) LTH_SPARE_USE_STANDBY_POS
  let lock (acc : State) (i : Nat) : State :=
    if acc.rf (LTH_LASER n i) LTH_LASER_STATE = 4 then acc
    else acc.wf (LTH_LASER n i) LTH_LASER_STATE (if i = 11 && pos = 15 then 1 else 3)
  let steam : Bool := (s.lathe n).oosCause = 7 || (List.range 11).any fun i => decide (s.rf (LTH_LASER n i) LTH_LASER_STATE = 2)
  .next (if (s.lathe n).svc == .starting then ((List.range 12).foldl lock s).enterCal (s.calKey n)
  else if (s.lathe n).svc == .outOfService && s.dom (4 * n) = 1 && steam then ((List.range 12).foldl lock s).tryService n
  else s)

/-- QUIESCE_END (R76, R487, R624): no started program of the gang remains; the guard still due runs, and the lathe goes OUT_OF_SERVICE, or to
CALIBRATING for a calibration command, both lathes of a Deep-2 pair together; a lathe asked for service again meanwhile returns by the OUT_OF_SERVICE row. -/
def execQuiesceEnd (n : Fin 8) (s : State) : Out :=
  let l := s.lathe n
  if l.svc == .quiescing && s.gangIdle n then
    if l.quiesceCal && (s.calLathes n).all s.calEnter then .next (s.enterCal (s.calKey n))
    else
      let s := ((s.lastGuard n).modLathe n fun l => { l with svc := .outOfService, quiesceCal := false, cur := none }).oosEvent n l.oosCause
      .next (if l.oosCause = 1 || l.quiesceCal then s.tryService n else s)
  else .next s

end Sys2Proof.Machine
end

