-- ==== Sys2Proof/Machine/Memory.lean ====
section
/-! DEFINITION. The commands on lines of the HBM stacks and the infeed stores, the patrol scrub, refresh, and channel retire (08,
R289–R311, R623). -/
namespace Sys2Proof.Machine

/-- HBM_LINE_READ (R293, R295): what the read returns is the answer; an unmapped line answers marked (R33). -/
def execHbmLineRead (a : Addr) (d r : LineErr) (src : ErrSource) (req : Requester) (ctx : Option (BitVec 8)) (s : State) : Out :=
  let l := a.toNat / 64 * 64
  .next (match region l with
  | .hbm _ _ =>
    if s.mapped l then
      let (x, s) := s.lineRead l d r (srcCode src) (ctxNat ctx)
      { s with resp := { data := x.1, poison := x.2 } }
    else { s.unmappedEvent req ctx (s.glob l) false with resp := { data := List.replicate 64 0, poison := true } }
  | _ => s)

/-- CORRECTION_RATE (R296): 1,000 corrections of a channel within one hour count one event, and the count restarts. -/
def execCorrectionRate (c : Fin 256) (s : State) : Out :=
  let x := s.stack (c / 32)
  let recent := (sget [] x.ce (c % 32)).filter fun t => decide (s.clock < t + msHour)
  .next (if recent.length < 1000 then s
  else (s.setStack (c / 32) { x with ce := sput [] [] x.ce (c % 32) }).channelEvent c 2)

/-- HBM_LINE_WRITE (R294, R319): a whole line takes the requester's mark; part of a line is merged and carries the mark of the
new bytes, of the line read, or of a line that could not be corrected. -/
def execHbmLineWrite (a : Addr) (data : List Byte) (poison : Bool) (d r : LineErr) (req : Requester) (s : State) : Out :=
  let a := a.toNat
  .next (match region a with
  | .hbm _ _ =>
    if !inLine a data.length then s
    else if !s.mapped a then s.unmappedEvent req none (s.glob a) true
    else s.hbmWrite a data poison d r
  | _ => s)

/-- INFEED_LINE_WRITE (R623). -/
def execInfeedLineWrite (a : Addr) (data : List Byte) (poison : Bool) (req : Requester) (s : State) : Out :=
  let a := a.toNat
  .next (match region a with
  | .infeed n _ =>
    if !inLine a data.length then s
    else if !s.mapped a then s.unmappedEvent req none (s.glob a) true
    else s.infeedWrite n a data poison
  | _ => s)

/-! ## Patrol scrub (R297–R299) -/

/-- Offset in the stack of line `j` (0–3) of granule `g` of channel `c` (R290). -/
def scrubOffset (c g j : Nat) : Nat := (g * 32 + (c ^^^ (g % 32) ^^^ (g / 32 % 32))) * 256 + j * 64

/-- The granules that channel `c` holds: its own, then those it was given (R307), while each channel maps `h` granules of its own. -/
def heldSpots (order : List Nat) (c : Nat) : List Spot :=
  let l := (spots order).filter fun p => p.holder == c
  (l.filter fun p => p.own == c) ++ l.filter fun p => p.own != c

/-- Mapped granules of a spot. -/
def Spot.size (p : Spot) (h : Nat) : Nat := if h ≤ p.base then 0 else (h - p.base + p.mult - 1) / p.mult

/-- Mapped lines that channel `c` holds. -/
def heldLines (order : List Nat) (h c : Nat) : Nat := (heldSpots order c).foldl (fun k p => k + 4 * p.size h) 0

/-- Offset in the stack of the `i`-th line among those of some spots. -/
def lineAt (h : Nat) : List Spot → Nat → Option Nat
  | [], _ => none
  | p :: t, i => if i < 4 * p.size h then some (scrubOffset p.own (p.base + p.mult * (i / 4)) (i % 4)) else lineAt h t (i - 4 * p.size h)

/-- The corrected lines that the scrub of channel `c` has read go back to their places (R293, R298). -/
def State.scrubBack (s : State) (c : Nat) : State :=
  let m := c / 32
  let x := s.stack m
  let due := x.wb.filter fun e => s.channelOf e.1 == c
  let s := s.setStack m { x with wb := x.wb.filter fun e => s.channelOf e.1 != c }
  due.foldl (fun (acc : State) e => if acc.mapped e.1 then (acc.putLine e.1 e.2.1 e.2.2).bump (HBM_STAT_SCRUB_FIX m) 1 else acc) s

/-- SCRUB_READ (R297–R299): what the scrub last corrected in the channel is written back, and the next line that the channel holds, in local-granule
order, is read under R293; a channel that has read every mapped line waits for the others of its stack, and the pass ends with the last. -/
def execScrubRead (c : Fin 256) (d r : LineErr) (s : State) : Out :=
  let m := c.val / 32
  .next (if !(s.flag (HBM_STATUS m) HBM_STATUS_UP && s.flag (HBM_CTRL m) HBM_CTRL_SCRUB_EN) then s
  else
    let s := s.scrubBack c
    let order := (s.stack m).order
    let h := s.rf (HBM_HOLE m) HBM_HOLE_START * 8192
    let i := sget 0 (s.stack m).scrub (c % 32)
    let s := match lineAt h (heldSpots order (c % 32)) i with
      | some o =>
        let s := (s.lineRead (0xC00000000 * m + o) d r 1 0xFFFF).2
        s.setStack m { s.stack m with scrub := sput 0 (i + 1) (s.stack m).scrub (c % 32) }
      | none => s
    let x := s.stack m
    let sum := x.scrub.foldl (fun k e => k + min e.2 (heldLines order h e.1)) 0
    if sum ≥ 128 * h then
      ((s.setStack m { x with scrub := [] }).wf (HBM_SCRUB_POS m) HBM_SCRUB_POS_PROGRESS 0).incF (HBM_SCRUB_POS m) HBM_SCRUB_POS_PASSES 1
    else s.wf (HBM_SCRUB_POS m) HBM_SCRUB_POS_PROGRESS (sum * 1000 / (128 * h)))

/-! ## Stack temperature (R300–R302) -/

/-- Refresh code of a valid reading (Table 8.2). -/
def refreshOf (t : Int) : Nat := if t ≤ 85 then 0 else if t ≤ 95 then 1 else 2

/-- STACK_TEMP_READ (R300–R302). -/
def execStackTempRead (m : Fin 8) (t : Option Int) (s : State) : Out :=
  let x := s.stack m
  let cur := s.rf (HBM_STATUS m) HBM_STATUS_REFRESH
  let hot (reason : Nat) (v : Int) (_ : Nat) : List (Nat × Nat) := [(0x10, m), (0x11, reason), (0x12, trunc 8 v)]
  let invalid (s : State) (v : Int) : State :=
    let s := ((s.wf (HBM_STATUS m) HBM_STATUS_REFRESH 2).wb (HBM_STATUS m) HBM_STATUS_TEMP_INVALID true).wb (HBM_TEMP m) HBM_TEMP_VALID false
    (s.setStack m { x with cool85 := 0, cool95 := 0 }).postOver m 0x807 cWARN (unitOf 9 (32 * m)) 0xFFFF (hot 2 v)
  .next (if !s.flag (HBM_STATUS m) HBM_STATUS_UP then s
  else match t with
  | none => invalid s 0
  | some t =>
    let s := s.wf (HBM_TEMP m) HBM_TEMP_TEMP (trunc 8 t)
    if t < -40 || 125 < t then invalid s t
    else
      let c85 := if t ≤ 83 then min 10 (x.cool85 + 1) else 0
      let c95 := if t ≤ 93 then min 10 (x.cool95 + 1) else 0
      let next := if cur < refreshOf t then refreshOf t
        else if 0 < cur && 10 ≤ c85 then 0
        else if cur = 2 && 10 ≤ c95 then 1
        else cur
      let s := ((s.wf (HBM_STATUS m) HBM_STATUS_REFRESH next).wb (HBM_STATUS m) HBM_STATUS_TEMP_INVALID false).wb (HBM_TEMP m) HBM_TEMP_VALID true
      let s := s.setStack m { x with cool85 := c85, cool95 := c95 }
      if 105 ≤ t then s.postLim (s.flag (HBM_CTRL m) HBM_CTRL_HOT_EVT_EN) (1000 * ms) m 1 0x807 cWARN (unitOf 9 (32 * m)) 0xFFFF (hot 1 t) else s)

/-! ## Retire (R303–R310) -/

/-- Channels of a stack that are retired, or failed training: k of R303. -/
def State.retiredCount (s : State) (m : Nat) : Nat := ((List.range 32).filter fun c => decide (2 ≤ s.rf (HBM_CH_STATE m c) HBM_CH_STATE_STATE)).length

/-- RETIRE_GO (R304–R306): the range below the hole is discarded and the copy begins, or the command is refused. -/
def execRetireGo (m : Fin 8) (c : Fin 32) (s : State) : Out := s.atBlock .hbm m fun s =>
  let s := s.wf (HBM_RETIRE_CMD m) HBM_RETIRE_CMD_CHANNEL c
  let refuse (why : Nat) : State :=
    (s.wf (HBM_RETIRE_CMD m) HBM_RETIRE_CMD_RESULT 2).post 0x806 cWARN (unitOf 9 (32 * m + c)) 0xFFFF [(0x10, why)]
  .next (if 2 ≤ s.rf (HBM_CH_STATE m c) HBM_CH_STATE_STATE then refuse 1
  else if s.flag (HBM_RETIRE_CMD m) HBM_RETIRE_CMD_BUSY then refuse 2
  else if 4 ≤ s.retiredCount m then refuse 3
  else
    let hole := s.rf (HBM_HOLE m) HBM_HOLE_START - 24
    let a := 0xC00000000 * m + 2 ^ 26 * hole
    let s : State := { s with mem := sdrop s.mem a (24 * 2 ^ 26), marks := sdrop s.marks (a / 64) (24 * 2 ^ 20) }
    let s := s.setStack m { s.stack m with since := s.clock, fresh := [] }
    let s := ((s.wf (HBM_HOLE m) HBM_HOLE_START hole).wf (HBM_CH_STATE m c) HBM_CH_STATE_STATE 1).wb (HBM_STATUS m) HBM_STATUS_MIGRATING true
    (s.wb (HBM_RETIRE_CMD m) HBM_RETIRE_CMD_BUSY true).wf (HBM_RETIRE_CMD m) HBM_RETIRE_CMD_RESULT 0)

/-- A channel takes its place as retired (`st` 2) or failed (3): the mask and k follow, its waiting reducer operations go to the
channels that now hold their lines (R309), and the fault history records it (R310). -/
def State.placeRetired (s : State) (m c st : Nat) : State :=
  let s := (s.wf (HBM_CH_STATE m c) HBM_CH_STATE_STATE st).setStack m { s.stack m with order := (s.stack m).order ++ [c] }
  let s := s.wr (HBM_RETIRED m) (BitVec.ofNat 32 ((s.rd (HBM_RETIRED m)).toNat ||| 2 ^ c))
  let s := (s.wf (HBM_STATUS m) HBM_STATUS_RETIRED (s.retiredCount m)).replaced 9 (32 * m + c) 0 0xFFFF
  let ops := s.rdcOf (32 * m + c)
  ops.foldl (fun (acc : State) o => acc.enqueueRed o.rank o) (s.setRdc (32 * m + c) [])

/-- The copy of a retire has read the line with the errors given (R293, R308); a line written since then at its new place keeps what was written. -/
def State.copyRead (s : State) (a : Nat) (d r : LineErr) : State :=
  let t := (s.lineRead a d r 2 0xFFFF).2
  if (s.stack (a / 0xC00000000)).fresh.contains a then { t with mem := s.mem, marks := s.marks } else t

/-- RETIRE_END (R307–R310): the copy has read every line of the channel, those of `errs` with errors, and the channel is retired. Marked lines count as
read marked (R293). -/
def execRetireEnd (m : Fin 8) (errs : List (Addr × LineErr × LineErr)) (s : State) : Out :=
  .next (match (List.range 32).find? fun c => s.rf (HBM_CH_STATE m c) HBM_CH_STATE_STATE == 1 with
  | none => s
  | some c =>
    let ue := s.rd64 (HBM_STAT_UE m)
    let named (a : Nat) : Bool := errs.any fun e => e.1.toNat / 64 * 64 == a
    let marked := ((srange s.marks (0xC00000000 * m / 64) (0xC00000000 / 64)).filter fun e =>
      let a := 64 * e.1
      e.2 && !named a && !(s.stack m).fresh.contains a && s.mapped a && s.readerOf a 2 == 32 * m + c).length
    let s := errs.foldl (fun (acc : State) e =>
      let a := e.1.toNat / 64 * 64
      if a / 0xC00000000 == m.val && acc.mapped a && acc.readerOf a 2 == 32 * m.val + c then acc.copyRead a e.2.1 e.2.2 else acc)
      (s.bump (HBM_STAT_POISON_RD m) marked)
    let bad := s.rd64 (HBM_STAT_UE m) - ue
    let s := ((s.placeRetired m c 2).wb (HBM_STATUS m) HBM_STATUS_MIGRATING false).wb (HBM_RETIRE_CMD m) HBM_RETIRE_CMD_BUSY false
    (s.wf (HBM_RETIRE_CMD m) HBM_RETIRE_CMD_RESULT 1).post 0x805 cWARN (unitOf 9 (32 * m + c)) 0xFFFF
      [(0x10, s.rf (HBM_HOLE m) HBM_HOLE_START), (0x14, bad)])

end Sys2Proof.Machine
end

