-- ==== Sys2Proof/Machine/Packets.lean ====
section
/-! DEFINITION. Requests from other devices at their target (09, R345–R349, Table 9.3; 08 R318; 05 R210–R215; multicast R360, R362). -/
namespace Sys2Proof.Machine

/-- How the target answers a request for `n` lines at an address (R35, R348, R33): REFUSED for the aperture, and for the register range
unless it is served; UNMAPPED where nothing is. In the register range a line is an access of another size (R15): `2 ^ 8` stands for that. -/
def State.target (s : State) (a n : Nat) (wr : Bool) : Nat :=
  match region a with
  | .aperture _ _ => 3
  | .regs _ => if s.flag IZP_GCFG IZP_GCFG_REG_REMOTE then 2 ^ 8 else 3
  | .accWin m _ => if wr then 2 ^ 8 else if s.accReadable m && n ≠ 0 && region (a + 64 * n - 1) == .accWin m ((a + 64 * n - 1 - 0xE100000000) % 0x1000000) then 0 else 2
  | _ => if n ≠ 0 && s.mapped a && s.mapped (a + 64 * n - 1) then 0 else 2

/-- A packet for this device arrives on port `p` and is taken (R340); the rest is its meaning. -/
def State.atTarget (s : State) (p : Fin 16) (pk : Packet) (typ : PacketType) (f : State → State) : State :=
  if pk.typ ≠ typ || pk.dst.toNat ≠ s.devId then s
  else match s.receive p pk with
    | (false, s) => s
    | (true, s) => f s

/-- ADDR_UNMAPPED for a fabric request. -/
def State.portUnmapped (s : State) (p : Fin 16) (pk : Packet) (wr : Bool) : State :=
  s.unmappedEvent (.port p) pk.ctx (s.glob pk.addr.toNat) wr

/-- A parity error met on the crossbar by line `j` of the `n` of a fabric request at local address `a` (R321). -/
def State.packetParity (s : State) (p : Fin 16) (pk : Packet) (a n : Nat) (parity : Option Nat) : State :=
  match parity with
  | some j => if j < n then s.wayParity (unitOf 0xB p) 0xFF (ctxNat pk.ctx) (s.glob (a + 64 * j)) else s
  | none => s

/-- FABRIC_READ (R348): the lines with their marks, or a refusal. -/
def execFabricRead (p : Fin 16) (pk : Packet) (parity : Option Nat) (s : State) : Out :=
  let a := pk.addr.toNat / 64 * 64
  let n := argLines pk
  .next (s.atTarget p pk .read fun s =>
    match s.target a n false with
    | 0 =>
      let s := s.packetParity p pk a n parity
      let marks := maskOf n fun j => parity = some j || match region a with | .accWin _ _ => false | _ => s.mark (a + 64 * j)
      let data := (s.windowRead a (64 * n)).1
      ((s.countMarks a (64 * n)).countInf a (64 * n) false).complReply pk (if marks = 0 then 0 else 1) data marks
    | 2 => (s.portUnmapped p pk false).complReply pk 2 [] 0
    | 3 => s.complReply pk 3 [] 0
    | _ => s.complReply pk 0 (List.replicate (64 * n) 0xFF) 0)

/-- The whole lines of a packet are written, each with its mark (R294). -/
def State.writeLines (s : State) (a : Nat) (pk : Packet) : State :=
  ((List.range pk.lines).foldl (fun (acc : State) j =>
    acc.putLine (a + 64 * j) ((pk.payload.drop (64 * j)).take 64) (bit pk.poison.toNat j)) s).countInf a (64 * pk.lines) true

/-- FABRIC_WRITE (R294, R348). -/
def execFabricWrite (p : Fin 16) (pk : Packet) (parity : Option Nat) (s : State) : Out :=
  let a := pk.addr.toNat / 64 * 64
  .next (s.atTarget p pk .write fun s =>
    match s.target a pk.lines true with
    | 0 =>
      let hit := match parity with | some j => if j < pk.lines then 2 ^ j else 0 | none => 0
      ((s.packetParity p pk a pk.lines parity).writeLines a { pk with poison := pk.poison ||| BitVec.ofNat 8 hit }).complReply pk 0 [] 0
    | 2 => (s.portUnmapped p pk true).complReply pk 2 [] 0
    | 3 => s.complReply pk 3 [] 0
    | _ => s.complReply pk 0 [] 0)

/-- FABRIC_REDUCE (R318, R320, R323–R328): each line goes to the reducer of its channel, and the completion follows the last. POISON_MARK
of an infeed store marks its lines at once; the accumulator window and the register range discard it (R15, R32). -/
def execFabricReduce (p : Fin 16) (pk : Packet) (s : State) : Out :=
  let a := pk.addr.toNat / 64 * 64
  let mark := pk.op = 8
  let n := if mark then argLines pk else pk.lines
  .next (s.atTarget p pk .reduce fun s =>
    match s.target a n true, region a with
    | 0, .hbm _ _ =>
      (List.range n).foldl (fun (acc : State) j =>
        acc.enqueueRed (8 + p.val)
          { op := pk.op.toNat, fmt := pk.fmt.toNat, dst := a + 64 * j, src := (pk.payload.drop (64 * j)).take 64,
            poison := bit pk.poison.toNat j, ctx := pk.ctx, remote := some (p.val, { pk with status := 0 }) }) s
    | 0, .infeed _ _ => if mark then (s.poisonRange (8 + p.val) a (64 * n)).complReply pk 0 [] 0 else (s.portUnmapped p pk true).complReply pk 2 [] 0
    | 3, _ => s.complReply pk 3 [] 0
    | 256, _ => s.complReply pk 0 [] 0
    | _, _ => (s.portUnmapped p pk true).complReply pk 2 [] 0)

/-- FABRIC_SIGNAL (R210–R215): COUNT is added, or the signal completes with SEM_ERROR. -/
def execFabricSignal (p : Fin 16) (pk : Packet) (s : State) : Out :=
  let i := pk.addr.toNat % 8192
  let ctx := ctxNat pk.ctx
  .next (s.atTarget p pk .signal fun s =>
    if s.semMisuse i ctx then (s.semMisuseEvent i ctx).complReply pk 8 [] 0
    else
      let (passed, s) := (s.bump SEM_STAT_SIGNALS 1).addSem i pk.arg.toNat pk.src.toNat ctx
      s.complReply pk (if passed then 8 else 0) [] 0)

/-- MCAST_WRITE (R360, R362): the lines are written, and CREDIT returns their number. -/
def execMcastWrite (p : Fin 16) (pk : Packet) (s : State) : Out :=
  let a := pk.addr.toNat / 64 * 64
  .next (s.atTarget p pk .mcastWrite fun s =>
    match s.target a pk.lines true with
    | 0 => (s.writeLines a pk).complReply pk 0 [] 0
    | 2 => (s.portUnmapped p pk true).complReply pk 0 [] 0
    | _ => s.complReply pk 0 [] 0)

end Sys2Proof.Machine
end

