-- ==== Sys2Proof/Machine/Rails.lean ====
section
/-! DEFINITION. Supply rails (14, R507–R510; 10, R406–R409) and the fault history (10, R411–R416). -/
namespace Sys2Proof.Machine

/-! ## Rails (Table 14.2) -/

/-- Number of a rail: its first domain, or 64 for the 48 V input. -/
def railKey : Rail → Nat
  | .laser n => 4 * n.val | .frontEnd n => 4 * n.val + 1 | .adc n => 4 * n.val + 2 | .digital n => 4 * n.val + 3
  | .hbm m => 48 + m.val | .portGroup j => 56 + j.val | .pcie => 60 | .security => 62 | .shared => 61 | .vent => 63 | .input => 64

/-- Domains a rail supplies; the input's dips are reported against domain 61. -/
def railDoms (k : Nat) : List Nat := if k < 32 && k % 4 = 3 then [k, 32 + k / 4, 40 + k / 4] else if k = 64 then [61] else [k]

def State.rail (s : State) (k : Nat) : RailSt := sget {} s.rails k
def State.setRail (s : State) (k : Nat) (x : RailSt) : State := { s with rails := sput {} x s.rails k }

/-- The rail is powered. -/
def State.railOn (s : State) (k : Nat) : Bool := if k = 64 then s.power.input else s.dom k ≠ 0 && s.dom k ≠ 4

/-- Strokes of lathe `n` that a dip since `since` makes suspect, oldest first: those of its journal, and all (R407). -/
def State.suspects (s : State) (n since : Nat) : List Stroke × List Stroke :=
  let l := s.lathe (s.lead n)
  let recent := (l.journal.filter fun x => decide (since < x.endClock + 250)).reverse
  (recent, recent ++ (l.strokes.filter fun x => x.endClock = 0 || decide (since < x.endClock + 250)) ++ l.cur.toList)

/-- The symbols that the suspect strokes of lathe `n` have brought to the open windows are taken out (R422). -/
def State.forgetSuspects (s : State) (n since : Nat) : State :=
  let starts := (s.suspects n since).2.map (·.startClock)
  (s.replayMates (s.lead n)).foldl (fun (acc : State) m => acc.forgetSymbols m starts) s

/-- A rail falls below its warning level: counted, shown, and the lathes it feeds idle after their stroke (R406, R508). -/
def State.railFalls (s : State) (k : Nat) : State :=
  let s := (s.setRail k { below := true, since := s.clock }).bump FLT_STAT_DIPS 1
  let s := (railDoms k).foldl (fun (acc : State) d =>
    (if k = 64 then acc else acc.wb (PWR_DOM_STATUS d) PWR_DOM_STATUS_WARN true).incF (PWR_DOM_STATUS d) PWR_DOM_STATUS_DIPS 1) s
  let s := if k = 64 then (s.wb PWR_STATUS PWR_STATUS_INPUT_WARN true).bump PWR_STAT_INPUT_WARN 1 else s
  (lathesFed k).foldl (fun (acc : State) n =>
    let acc := acc.forgetSuspects n acc.clock
    if (acc.lathe n).svc == .inService || (acc.lathe n).svc == .quiescing then acc.modLathe n fun l => { l with dip := true } else acc) s

/-- RAIL_BELOW_WARNING (R406, R507, R508). -/
def execRailBelowWarning (r : Rail) (s : State) : Out :=
  .next (if (s.rail (railKey r)).below || !s.railOn (railKey r) then s else s.railFalls (railKey r))

/-- Lathes in service that a rail feeds, a Deep-2 pair once. -/
def State.dipLathes (s : State) (k : Nat) : List Nat :=
  (lathesFed k).filter fun n => ((s.lathe n).svc == .inService || (s.lathe n).svc == .quiescing) && !(s.deep n && n ≠ s.gang n && 1 < (lathesFed k).length)

/-- Each stroke of lathe `n` that becomes suspect is to be replayed, or is poisoned at once; dip `no` counts them (R407, R408). -/
def State.suspectDip (s : State) (n since no : Nat) : State :=
  let b := s.lead n
  let (recent, hit) := s.suspects n since
  let idle := (s.lathe b).arbs.isEmpty
  let l := s.lathe b
  let s := (hit.filter fun x => !x.suspect).foldl (fun (s : State) x =>
    let s := (s.suspect b x).modDip no fun d => { d with suspects := d.suspects + 1 }
    let why := if s.jrnlMib = 0 then 2 else if !recent.contains x && !l.inJournal x then 1
      else if x.drained.isSome || s.drainingOf b x then 3 else 0
    if why ≠ 0 then s.suspectPoison b { stroke := x, dip := no } why
    else (s.moreVerdict b x).modLathe b fun l => { l with arbs := l.arbs ++ [{ stroke := x, isSuspect := true, dip := no }] }) s
  if idle && !(s.lathe b).arbs.isEmpty then s.beginArbs b (s.lathe b).arbs.length else s

/-- RAIL_RECOVERED (R406–R409, Table 13.4): suspect strokes are replayed, and a calibration restarts its phase or is rejected. -/
def execRailRecovered (r : Rail) (s : State) : Out :=
  let k := railKey r
  let x := s.rail k
  .next (if !x.below then s
  else
    let s := s.setRail k {}
    let s := if k = 64 then s.wb PWR_STATUS PWR_STATUS_INPUT_WARN false
      else (railDoms k).foldl (fun (acc : State) d => acc.wb (PWR_DOM_STATUS d) PWR_DOM_STATUS_WARN false) s
    let s := (lathesFed k).foldl (fun (acc : State) n => if acc.dipsOn n then acc else acc.modLathe n fun l => { l with dip := false }) s
    if x.done then s
    else
      let no := s.dipNo + 1
      let s : State := { s with dipNo := no, dips := s.dips ++ [{ no := no, rail := k, low := s.clock - x.since }] }
      let s := (s.dipLathes k).foldl (fun (acc : State) n => acc.suspectDip n x.since no) s
      let keys := ((lathesFed k).map s.calKey).eraseDups
      (keys.foldl (fun (acc : State) n => acc.dipCal n) s).settleDips)

/-- A rail has been below its warning level for more than 20 µs (code 2), or has reached its reset level (3): the lathes it feeds enter
FAULT_HOLD, a shared rail or the input holds the whole device, and a domain that feeds no lathe is reset (R408, R409, R508–R510). -/
def State.railFails (s : State) (k code : Nat) : State :=
  let x := s.rail k
  let new (n : Nat) : List Stroke := (s.suspects n x.since).2.filter fun y => !y.suspect
  let hit := (s.dipLathes k).foldl (fun c n => c + (new n).length) 0
  let s := (s.dipLathes k).foldl (fun (acc : State) n => (new n).foldl (fun (acc : State) y => acc.suspect (acc.lead n) y) acc) s
  let s := (s.setRail k { x with done := true }).supplyDip k code (s.clock - x.since) hit 0
  if k = 64 && code = 3 then s.powerLoss
  else if k = 61 || k = 64 then s.deviceHold
  else if k < 32 then
    (if (s.lathe (k / 4)).svc == .faultHold then s else s.dropLathe (k / 4) .faultHold 11)
  else if k = 63 then s.ventDomainReset
  else s.domainReset k 3

/-- RAIL_WARNING_TIMEOUT (R409, R508, R509). -/
def execRailWarningTimeout (r : Rail) (s : State) : Out :=
  let x := s.rail (railKey r)
  .next (if !x.below || x.done || s.clock ≤ x.since + 20000 then s else s.railFails (railKey r) 2)

/-- RAIL_RESET_LEVEL (R409, R508–R510). -/
def execRailResetLevel (r : Rail) (s : State) : Out :=
  let k := railKey r
  .next (if !s.railOn k then s
  else if (s.rail k).done then (if k = 64 then s.powerLoss else s)
  else (if (s.rail k).below then s else s.railFalls k).railFails k 3)

/-! ## Fault history (R411–R416) -/

/-- PERMANENT_CLASSING (R413, R414, Table 10.8): a unit with three events within 86,400 s is permanent; an HBM channel says so, and a
laser gives way to the standby, and a check column to the lowest spare column, which its next bank write uses (R402). -/
def execPermanentClassing (u : UnitId) (s : State) : Out :=
  let r := s.histOf (histKey u.kind u.index u.lathe)
  .next (if !histKept u.kind || r.permanent || r.recent s.histNow < 3 then s
  else
    let s := s.classPermanent u.kind u.index u.lathe 1
    if u.kind = 9 then
      (s.wb (HBM_CH_STATE (u.index / 32) (u.index % 32)) HBM_CH_STATE_PERMANENT true).post 0x804 cWARN (unitOf 9 u.index) 0xFFFF [(0x10, r.why)]
    else if u.kind = 6 && u.index < 12 then
      match (List.range 11).find? fun P => s.laserAt u.lathe P = u.index with
      | some P =>
        if s.rf (LTH_LASER u.lathe u.index) LTH_LASER_STATE = 4 then s
        else (s.wf (LTH_LASER u.lathe u.index) LTH_LASER_STATE 4).laserGone u.lathe P s.clock
      | none => s
    else if u.kind = 4 then
      match (List.range 8).find? (fun g => s.colMap u.lathe (512 + g) = u.index), s.spareCols u.lathe with
      | some g, spare :: _ => s.substCheck u.lathe g spare 0xFFFF
      | _, _ => s
    else s)

/-- HISTORY_FLASH_WRITE_END (R411), through the security module (R541). -/
def execHistoryFlashWriteEnd (s : State) : Out := .next (if s.dom 62 = 1 then { s with histFlash := s.hist, histDirty := [] } else s)

/-- Units of a kind (Table 0.8). -/
def unitCount (kind : Nat) : Nat :=
  match kind with
  | 2 => 33 | 3 => 528 | 4 => 536 | 5 => 536 | 6 => 16 | 7 => 1152 | 8 => 1152 | 9 => 256 | 0xA => 256 | 0xB => 16 | 0xC => 64 | _ => 0

/-- The record that a value of `FLT_HIST_SEL` selects, if the history keeps one for that unit (R411). -/
def histSel (sel : Nat) : Option Nat :=
  let kind := bits sel 12 4
  let idx := bits sel 0 12
  if histKept kind && idx < unitCount kind then some (histKey kind idx (bits sel 16 3)) else none

/-- The words of Table 10.7. -/
def State.histWords (s : State) (k : Nat) : List Nat :=
  let r := s.histOf k
  [r.events,
   b2n r.permanent + 2 * b2n r.replaced + 4 * r.permCause + 256 * satTo 255 (r.recent s.histNow) + 65536 * r.subst,
   (r.last[0]?).getD 0, (r.last[1]?).getD 0, (r.last[2]?).getD 0, r.permS, 0, 0]

/-- HIST_READ (R416, Table 10.11). -/
def execHistRead (s : State) : Out := s.atBlock .flt 0 fun s =>
  .next (match histSel (s.rd FLT_HIST_SEL).toNat with
  | none => (s.wb FLT_HIST_STATUS FLT_HIST_STATUS_VALID false).wb FLT_HIST_STATUS FLT_HIST_STATUS_NO_UNIT true
  | some k =>
    let s := (s.histWords k).zipIdx.foldl (fun (acc : State) e => acc.wr (FLT_HIST_DATA e.2) (BitVec.ofNat 32 e.1)) s
    (s.wb FLT_HIST_STATUS FLT_HIST_STATUS_VALID true).wb FLT_HIST_STATUS FLT_HIST_STATUS_NO_UNIT false)

/-- HIST_CLEAR (R415): counts, times and PERMANENT; a substitution stays in force. -/
def execHistClear (s : State) : Out := s.atBlock .flt 0 fun s =>
  .next (match histSel (s.rd FLT_HIST_SEL).toNat with
  | none => (s.wb FLT_HIST_STATUS FLT_HIST_STATUS_VALID false).wb FLT_HIST_STATUS FLT_HIST_STATUS_NO_UNIT true
  | some k =>
    let r := s.histOf k
    let s := s.touchHist k { replaced := r.replaced, subst := r.subst }
    let c := k % 4096
    let s := if k / 4096 = 9 then s.wb (HBM_CH_STATE (c / 32) (c % 32)) HBM_CH_STATE_PERMANENT false else s
    (s.wb FLT_HIST_STATUS FLT_HIST_STATUS_VALID false).wb FLT_HIST_STATUS FLT_HIST_STATUS_NO_UNIT false)

end Sys2Proof.Machine
end

