-- ==== Sys2Proof/Machine/Recovery.lean ====
section
/-! DEFINITION. The recovery port (18, R612–R614). -/
namespace Sys2Proof.Machine

/-- After the reply, with REC_N high, the boot chain starts at step 1 (R614): with the Vent's boot at a cold start, and from the steps at 150 ms
after a device reset, whose Vent has kept running. -/
def State.recoveryOver (s : State) : State :=
  let s : State := { s with recovery := false }
  if s.vent.booting then (s.beginStart 0 s.clock).bootChain else (s.beginStart 150 s.clock).boot150

/-- RECOVERY_IMAGE (R544, R613): in recovery an image is verified as KIND 0x01; an accepted one is written to first-stage slot A, and the reply
byte is 0 or the reason. An image above the 1 MiB of the slot is rejected with code 3. Where REC_N is high the boot goes on at once (R614). -/
def execRecoveryImage (image : List Byte) (keyOk sigOk : Bool) (s : State) : Out :=
  .next (if !s.recovery then s
  else
    let why := if 2 ^ 20 < image.length then 3 else s.imageFault image 1 keyOk sigOk
    let s : State := { s with recReply := some (BitVec.ofNat 8 why) }
    let s := if why ≠ 0 then s
      else s.setFw 1 { s.fw 1 with verA := imgVersion image, svnA := imgSvn image, digA := Sha3.sha3 image, okA := true }
    if s.recPin then s else s.recoveryOver)

/-- REC_N_RELEASE (R612, R614): REC_N goes high. After a reply the boot chain starts at step 1. -/
def execRecNRelease (s : State) : Out :=
  let s : State := { s with recPin := false }
  .next (if !s.recovery || s.recReply.isNone then s else s.recoveryOver)

end Sys2Proof.Machine
end

