-- ==== Sys2Proof/Machine/Reducers.lean ====
section
/-! DEFINITION. The reducers: each applies the operations that wait at its channel, one line at a time in order of arrival (08,
R320, R323–R331). -/
namespace Sys2Proof.Machine

/-! ## Elements (Tables 8.6, 8.7; R329–R331) -/

/-- Bytes of an element of a format. -/
def fmtBytes (fmt : Nat) : Nat := if fmt = 2 then 2 else if fmt = 1 || fmt = 3 then 4 else 8

/-- An A32 word, 0x8000_0000 read as −(2³¹ − 1) (R330). -/
def a32 (x : Nat) : Int := if x % 2 ^ 32 = 2 ^ 31 then -(2 ^ 31 - 1) else sext 32 x

/-- ADD of two elements, and whether it counts under R330. -/
def redAdd (fmt d s : Nat) : Nat × Bool :=
  if fmt = 1 then ((fadd (BitVec.ofNat 32 d) (BitVec.ofNat 32 s)).1.toNat, false)
  else if fmt = 2 then ((toBf16 (fadd (ofBf16 d) (ofBf16 s)).1).1, false)
  else
    let x := a32 d + a32 s
    let lim : Int := 2 ^ 31 - 1
    (trunc 32 (clampInt (-lim) lim x), d = 2 ^ 31 || s = 2 ^ 31 || x < -lim || lim < x)

/-- The exact value of a binary32 word, subnormals included: only ADD takes R103 (R329, R331). -/
def fexact (x : Nat) : FVal := if bits x 23 8 = 0 then .fin (bit x 31) (bits x 0 23) (-149) else fdec 23 x

/-- −1, 0 or 1 as `s` is below, equal to or above `d`; `none` when one is NaN (R331). -/
def redCmp (fmt d s : Nat) : Option Int :=
  let f (x : Nat) : FVal := fexact (if fmt = 2 then x % 65536 * 65536 else x % 2 ^ 32)
  if fmt = 3 then (if sext 32 s < sext 32 d then some (-1) else if sext 32 s = sext 32 d then some 0 else some 1)
  else if f s = .nan || f d = .nan then none
  else some (FVal.cmp (f s) (f d))

/-- `d` is a NaN of the format. -/
def redNan (fmt d : Nat) : Bool := if fmt = 2 then isNan (ofBf16 d) else if fmt = 3 then false else isNan (BitVec.ofNat 32 d)

/-- MAX or MIN of two elements (R331). -/
def redPick (big : Bool) (fmt d s : Nat) : Nat :=
  match redCmp fmt d s with
  | none => if !redNan fmt s then s else d
  | some c => if (big && c > 0) || (!big && c < 0) then s else d

/-- MAX_IDX or MIN_IDX of two pairs (R331). -/
def redPickIdx (big : Bool) (d s : Nat) : Nat :=
  match redCmp 1 (d % 2 ^ 32) (s % 2 ^ 32) with
  | none => if !redNan 1 (s % 2 ^ 32) then s else d
  | some c =>
    if (big && c > 0) || (!big && c < 0) then s
    else if c = 0 && s / 2 ^ 32 < d / 2 ^ 32 then s else d

/-- One element of the result, and whether it counts under R330. -/
def redElem (op fmt d s : Nat) : Nat × Bool :=
  match op with
  | 1 => redAdd fmt d s
  | 2 => (redPick true fmt d s, false)
  | 3 => (redPick false fmt d s, false)
  | 4 => (d ^^^ s, false)
  | 5 => (redPickIdx true d s, false)
  | 6 => (redPickIdx false d s, false)
  | 7 => (s, false)
  | _ => (0, false)

/-- The result line of an operation, and the elements counted under R330. -/
def redLine (op fmt : Nat) (d s : List Byte) : List Byte × Nat :=
  let w := fmtBytes fmt
  let es := (List.range (64 / w)).map fun i => redElem op fmt (leNat d (w * i) w) (leNat s (w * i) w)
  (es.flatMap fun e => leBytes e.1 w, (es.filter (·.2)).length)

/-! ## One operation -/

/-- The completion of a remote request once its last line has been applied: POISON when any result line was marked (R318). -/
def State.settleRemote (s : State) (o : RedOp) (bad : Bool) : State :=
  match o.remote with
  | none => s
  | some (p, pk) =>
    let same (x : RedOp) : Bool := match x.remote with | some (q, k) => q == p && k.tag == pk.tag && k.src == pk.src | none => false
    let status := if bad then 1 else pk.status.toNat
    if s.rdc.any fun e => e.2.any same then
      { s with rdc := smap [] (fun (l : List RedOp) => l.map fun x =>
          if same x then { x with remote := some (p, { pk with status := BitVec.ofNat 8 status }) } else x) s.rdc }
    else s.complReply pk status [] 0

/-- Apply one operation at channel `c`: the result line, its mark and its counts, the use of marked data, and the completion it
brings about (R316, R318, R320, R323–R326). -/
def State.applyRed (s : State) (c : Nat) (o : RedOp) : State :=
  let m := c / 32
  let remote := o.remote.isSome
  let ctx := match o.remote with | some (_, pk) => ctxNat pk.ctx | none => ctxNat o.ctx
  if !s.mapped o.dst then
    let req : Requester := match o.remote, o.who with
      | some (p, _), _ => if h : p < 16 then .port ⟨p, h⟩ else .vent
      | none, some (b, _, _) => weightReq b
      | none, none => .vent
    let s := s.unmappedEvent req o.ctx (s.glob o.dst) true
    let o := match o.remote with | some (p, pk) => { o with remote := some (p, { pk with status := 2 }) } | none => o
    (s.settleRemote o false).settleStage o.who
  else
    let old := s.mark o.dst
    let used := o.op ≠ 8 && (o.poison || (o.op ≠ 7 && old))
    let s := s.bump (HBM_STAT_POISON_RD m) (b2n (old && o.op ≠ 7 && o.op ≠ 8))
    let (line, sat) := redLine o.op o.fmt (s.bytes o.dst 64) o.src
    let s := if o.op = 8 then s.markLine o.dst else s.putLine o.dst line used
    let s := ((s.countLine c (decide (o.op = 8))).bump (RDC_STAT_REMOTE m) (b2n remote)).bump (RDC_STAT_POISON m) (b2n (used && remote))
    let s := s.bump (RDC_STAT_SAT m) sat
    let s := s.postLim (s.flag (RDC_CTRL m) RDC_CTRL_SAT_EVT_EN) ms c sat 0x80A cWARN (unitOf 0xA c) ctx fun k => [(0x10, k)]
    let s := if used && !remote && o.ctx.isSome then
        s.usePoison (o.who.map (·.1)) (some c) 5 ctx (if o.poison then o.from_.getD (s.glob o.dst) else s.glob o.dst) else s
    (s.settleRemote o used).settleStage o.who

/-- The oldest operation at channel `c` is applied when it is `op`; a parity error on the reducer's path marks its line (R321). -/
def State.runRed (s : State) (c : Nat) (parity : Bool) (op : Nat) : State :=
  match s.rdcOf c with
  | [] => s
  | o :: rest =>
    if o.op = op then
      let s := s.setRdc c rest
      let ctx := match o.remote with | some (_, pk) => ctxNat pk.ctx | none => ctxNat o.ctx
      if parity then (s.pathParity (unitOf 0xA c) 0xFF 6 ctx (s.glob o.dst)).applyRed c { o with poison := true, from_ := if o.poison then o.from_ else none } else s.applyRed c o
    else s

/-- ADD (R329, R330). -/
def execAdd (c : Fin 256) (parity : Bool) (s : State) : Out := .next (s.runRed c parity 1)
/-- MAX (R331). -/
def execMax (c : Fin 256) (parity : Bool) (s : State) : Out := .next (s.runRed c parity 2)
/-- MIN (R331). -/
def execMin (c : Fin 256) (parity : Bool) (s : State) : Out := .next (s.runRed c parity 3)
/-- XOR (Table 8.6). -/
def execXor (c : Fin 256) (parity : Bool) (s : State) : Out := .next (s.runRed c parity 4)
/-- MAX_IDX (R331). -/
def execMaxIdx (c : Fin 256) (parity : Bool) (s : State) : Out := .next (s.runRed c parity 5)
/-- MIN_IDX (R331). -/
def execMinIdx (c : Fin 256) (parity : Bool) (s : State) : Out := .next (s.runRed c parity 6)
/-- WRITE (R326). -/
def execReducerWrite (c : Fin 256) (parity : Bool) (s : State) : Out := .next (s.runRed c parity 7)
/-- POISON_MARK (R320). -/
def execPoisonMark (c : Fin 256) (parity : Bool) (s : State) : Out := .next (s.runRed c parity 8)

end Sys2Proof.Machine
end

