-- ==== Sys2Proof/Machine/TrimOut.lean ====
section
/-! DEFINITION. Trim outputs: queues, the deglitch hold, shorts and the forced clear (11, R439–R448). -/
namespace Sys2Proof.Machine

/-- TRIM_TICK (R441): each channel fed by its queue presents its oldest entry. -/
def execTrimTick (s : State) : Out :=
  .next (if s.trimForced then s
  else (s.trims.map (·.1)).foldl (fun (acc : State) (i : Nat) =>
    match (acc.loop i).st, (acc.trim i).queue with
    | .off, c :: rest => (acc.modTrim i fun t => { t with queue := rest }).present i c
    | _, _ => acc) s)

/-- TRM_CH_PUSH (R440, R441). -/
def execTrmChPush (i : Fin 9216) (code : BitVec 16) (s : State) : Out := s.atBlock .trm 0 fun s => .next (s.pushCode i code.toNat)

/-- DEGLITCH_END (R442). -/
def execDeglitchEnd (i : Fin 9216) (s : State) : Out :=
  .next (s.modTrim i fun t => match t.pend with | some c => { t with code := c, pend := none } | none => t)

/-- SHORT_LIMIT_EXPIRY (R443, R444); under a forced clear the loop freezes once the clear ends (R446). -/
def execShortLimitExpiry (i : Fin 9216) (s : State) : Out :=
  let t := s.trim i
  .next (if t.sc then s
  else
    let s := (s.setTrim i { t with sc := true, code := s.clearCode i, pend := none }).bump TRM_STAT_SHORT 1
    let s := s.post 0xB02 cFAULT (unitOf 7 (i % nLoops)) 0xFFFF [(0x10, i.val / nLoops), (0x12, t.code)]
    if (s.loop i).st == .run && !s.trimForced then s.freeze i 3 else s)

/-- SC_CLEAR (R443): the channel presents its source's current code again. -/
def execScClear (i : Fin 9216) (s : State) : Out := s.atBlock .trm 0 fun s =>
  let t := s.trim i
  .next (if t.sc then (s.setTrim i { t with sc := false }).present i t.src else s)

/-- A forced clear begins (R446, R447; Table 13.4 for a running calibration); `why` is 1 for TRIM_CLR_N, 2 for the Vent. -/
def State.forceClear (s : State) (why : Nat) : State :=
  let s := (List.range 9216).foldl (fun (acc : State) i => acc.clearChannel i) s
  let hit := (List.range 8).filter fun n => (s.lathe n).svc == .inService
  let s := s.post 0xB03 cFAULT 0 0xFFFF [(0x10, 0xFF), (0x11, why), (0x12, maskOf 8 fun n => hit.contains n)]
  let s := s.runningCals.foldl (fun (acc : State) k => acc.rejectCal k 6) s
  hit.foldl (fun (acc : State) n => (acc.leaveNow n .outOfService 3).modLathe n fun l => { l with needCal := true }) s

/-- TRIM_CLR_ASSERT (R446, R447). A second source while a clear is in force only joins it. -/
def execTrimClrAssert (vent : Bool) (s : State) : Out :=
  let was := s.trimForced
  let s : State := if vent then { s with trimVent := true } else { s with trimPin := true }
  .next (if was then s else ({ s with trimSince := s.clock } : State).forceClear (if vent then 2 else 1))

/-- The forced clear ends: RUN loops start again from their clear codes, and loops go to the states that they could not go to meanwhile (R446, R448). -/
def State.releaseClear (s : State) : State :=
  let s := (List.range 9216).foldl (fun (acc : State) i => (acc.reinit i).settleLoop i) s
  s.post 0xB04 cINFO 0 0xFFFF [(0x10, 0xFF), (0x14, s.clock - s.trimSince)]

/-- TRIM_CLR_RELEASE (R448): the clear ends when no source forces it any longer. -/
def execTrimClrRelease (vent : Bool) (s : State) : Out :=
  let was := s.trimForced
  let s : State := if vent then { s with trimVent := false } else { s with trimPin := false }
  .next (if was && !s.trimForced then s.releaseClear else s)

end Sys2Proof.Machine
end

