-- ==== Sys2Proof/Machine/Security.lean ====
section
/-! DEFINITION. The services of the security module (15, R552–R559), and the identity and debug registers of `DEV_` (17, R599–R601). -/
namespace Sys2Proof.Machine

/-! ## Requests (R552, R553, R555–R557) -/

def ifaceNo : SecIface → Nat
  | .registers => 0 | .doe0 => 1 | .doe1 => 2 | .management => 3

/-- The module answers service `op` at all: every one while OPERATIONAL, GET_STATUS otherwise (R555–R557). -/
def State.secAnswers (s : State) (op : Nat) : Bool := s.dom 62 = 1 && (s.sec.st == .operational || op = 1)

/-- The response to a request on an interface: header and payload, in `SEC_MBX_RSP` for the registers. -/
def State.secRespond (s : State) (i : SecIface) (op status : Nat) (data : List Byte) : State :=
  let all := leBytes (op + 256 * status) 4 ++ leBytes data.length 4 ++ List.replicate 8 0 ++ data
  let s : State := { s with resp := { data := all } }
  match i with
  | .registers =>
    let s := (List.range (min 2048 ((all.length + 3) / 4))).foldl (fun (acc : State) w => acc.wr (SEC_MBX_RSP w) (BitVec.ofNat 32 (leNat all (4 * w) 4))) s
    ((s.wb SEC_MBX_STATUS SEC_MBX_STATUS_BUSY false).wb SEC_MBX_STATUS SEC_MBX_STATUS_DONE true).wf SEC_MBX_STATUS SEC_MBX_STATUS_STATUS status
  | _ => s

/-- A request on an interface keeps its session alive (R552). -/
def State.touchSession (s : State) (i : SecIface) : State :=
  let k := ifaceNo i
  s.setSess k { s.sess k with last := s.clock }

/-- The session of an interface has a usage. -/
def State.hasUsage (s : State) (i : SecIface) (u : Nat) : Bool :=
  match (s.sess (ifaceNo i)).slot with
  | some k => bit (s.owner k).usage.toNat u
  | none => false

/-- Run a service that needs usage `u` of the interface's session: status 2 without it (R553). -/
def State.service (s : State) (i : SecIface) (op u : Nat) (f : State → State) : State :=
  if !s.secAnswers op then s
  else
    let s := s.touchSession i
    if s.hasUsage i u then f s else s.secRespond i op 2 []

/-- SEC_AUTH_FAIL, counted (R552). -/
def State.authFail (s : State) (i : SecIface) (slot op : Nat) : State :=
  let s := s.bump SEC_STAT_AUTH_FAIL 1
  if s.flag SEC_CTRL SEC_CTRL_AUTH_EVT_EN then s.post 0xF01 cWARN (unitOf 0xF 0) 0xFFFF [(0x10, ifaceNo i), (0x11, slot), (0x12, op)] else s

/-- `SEC_STATUS` as it reads. -/
def State.secStatus (s : State) : Nat :=
  let st := match s.sec.st with | .selftest => 0 | .operational => 1 | .error => 2 | .zeroised => 3
  st + 4 * b2n s.approved + 8 * b2n s.owned + 16 * b2n s.sec.grant.isSome + 32 * b2n (s.fw 1).activeB + 256 * s.sec.stFail

/-- `SEC_SLOT[k]` as it reads. -/
def State.slotWord (s : State) (k : Nat) : Nat :=
  let o := s.owner k
  let used := (List.range 4).any fun i => ((s.sess i).slot.map (·.val)) == some k
  b2n o.valid + 16 * o.usage.toNat + 65536 * b2n used

/-- GET_STATUS (Table 15.4, R556). -/
def execGetStatus (i : SecIface) (s : State) : Out :=
  let data := leBytes s.secStatus 4 ++ (List.range 8).flatMap (fun k => leBytes (s.ctr k) 4) ++ (List.range 8).flatMap fun k => leBytes (s.slotWord k) 4
  .next (if !s.secAnswers 1 then s else (s.touchSession i).secRespond i 1 (if s.sec.st == .error then 5 else 0) data)

/-- GET_CERTS (Table 15.4). -/
def execGetCerts (i : SecIface) (s : State) : Out :=
  .next (if !s.secAnswers 2 then s else (s.touchSession i).secRespond i 2 0 Config.certs)

/-- The quote of Table 15.5 for a nonce and a register mask, with its signature. -/
def State.quote (s : State) (nonce : List Byte) (mask : Nat) : List Byte :=
  let flags := b2n s.approved + 2 * b2n s.owned + 4 * b2n s.sec.grant.isSome + 8 * b2n s.jig.uncommitted + 16 * b2n s.jig.inForce.isNone
  let body := leBytes 0x4C515554 4 ++ leBytes 1 2 ++ leBytes flags 1 ++ leBytes nonce.length 1 ++ leBytes mask 2 ++ List.replicate 6 0 ++
    (nonce ++ List.replicate 64 0).take 64 ++ digBytes Config.devId ++ leBytes s.ft.toNat 8 ++ leBytes s.jig.cur.version 4 ++ List.replicate 4 0 ++
    (List.range 8).flatMap (fun k => leBytes (s.ctr k) 4) ++ ((List.range 16).filter (bit mask)).flatMap fun r => digBytes (s.meas r)
  body ++ (List.range 4627).map (Config.sign body)

/-- QUOTE (R559): a nonce of 1 to 64 bytes. -/
def execQuote (i : SecIface) (nonce : List Byte) (mask : BitVec 16) (s : State) : Out :=
  .next (if !s.secAnswers 3 then s
  else
    let s := s.touchSession i
    if nonce.length = 0 || 64 < nonce.length then s.secRespond i 3 6 []
    else (s.bump SEC_STAT_QUOTES 1).secRespond i 3 0 (s.quote nonce mask.toNat))

/-- EXTEND (R545, Table 15.4): one of registers 9 to 15, by a 64-byte value. -/
def execExtend (i : SecIface) (r : Fin 16) (v : List Byte) (s : State) : Out :=
  .next (s.service i 4 uUSER fun s => if r.val < 9 || v.length ≠ 64 then s.secRespond i 4 6 [] else (s.extend r v).secRespond i 4 0 [])

/-- CHALLENGE (R552). -/
def execChallenge (i : SecIface) (s : State) : Out :=
  .next (if !s.secAnswers 5 then s
  else
    let c := Config.challenge s.sec.asked
    let s := s.touchSession i
    let s : State := { s with sec := { s.sec with asked := s.sec.asked + 1 } }
    let s := s.setSess (ifaceNo i) { s.sess (ifaceNo i) with challenge := some (c.setWidth 512, s.clock) }
    s.secRespond i 5 0 (leBytes c.toNat 32))

/-- LOGIN (R552): a signed challenge under a valid slot opens the session of an interface that has none and is not locked out. -/
def execLogin (i : SecIface) (slot : Fin 8) (sigOk : Bool) (s : State) : Out :=
  let k := ifaceNo i
  .next (if !s.secAnswers 6 then s
  else
    let s := s.touchSession i
    let x := s.sess k
    if x.lockedUntil.isSome || 3 ≤ x.fails || x.slot.isSome || x.challenge.isNone then s.secRespond i 6 6 []
    else
      let x := { x with challenge := none }
      if sigOk && (s.owner slot).valid then (s.setSess k { x with slot := some slot, fails := 0 }).secRespond i 6 0 []
      else ((s.setSess k { x with fails := x.fails + 1 }).authFail i slot 6).secRespond i 6 3 [])

/-- LOGIN_LOCKOUT (R552): after three consecutive failures the interface refuses LOGIN for 10 s. -/
def execLoginLockout (i : SecIface) (s : State) : Out :=
  let x := s.sess (ifaceNo i)
  .next (if 3 ≤ x.fails && x.lockedUntil.isNone then s.setSess (ifaceNo i) { x with lockedUntil := some (s.clock + 10000 * ms) } else s)

/-- LOCKOUT_END (R552). -/
def execLockoutEnd (i : SecIface) (s : State) : Out :=
  let x := s.sess (ifaceNo i)
  .next (match x.lockedUntil with
  | some t => if t ≤ s.clock then s.setSess (ifaceNo i) { x with lockedUntil := none, fails := 0 } else s
  | none => s)

/-- LOGOUT (R552). -/
def execLogout (i : SecIface) (s : State) : Out :=
  let k := ifaceNo i
  .next (if !s.secAnswers 7 then s
  else
    let s := s.touchSession i
    if (s.sess k).slot.isNone then s.secRespond i 7 2 [] else (s.setSess k { s.sess k with slot := none }).secRespond i 7 0 [])

/-- SESSION_TIMEOUT (R552): 60 s without a request. -/
def execSessionTimeout (i : SecIface) (s : State) : Out :=
  let x := s.sess (ifaceNo i)
  .next (if x.slot.isSome && x.last + 60000 * ms ≤ s.clock then s.setSess (ifaceNo i) { x with slot := none } else s)

/-- ENROLL (R554): a free slot takes a key digest and usage; with no valid slot it needs an ownership token and no session. -/
def execEnroll (i : SecIface) (slot : Fin 8) (digest : BitVec 512) (usage : BitVec 5) (tokenOk : Bool) (s : State) : Out :=
  let write (s : State) : State :=
    if (s.owner slot).valid then s.secRespond i 8 6 []
    else ((s.setOwner slot { valid := true, usage := usage, digest := digest }).post 0xF02 cINFO (unitOf 0xF 0) 0xFFFF
      [(0x10, slot), (0x11, 1), (0x12, usage.toNat)]).secRespond i 8 0 []
  .next (if s.owned then s.service i 8 uENROLL write
  else if !s.secAnswers 8 then s
  else
    let s := s.touchSession i
    if tokenOk && bit usage.toNat uENROLL then write s else s.secRespond i 8 3 [])

/-- REVOKE (R554): not of the last slot with ENROLL usage; sessions of the slot end (R552). -/
def execRevoke (i : SecIface) (slot : Fin 8) (s : State) : Out :=
  .next (s.service i 9 uENROLL fun s =>
    let others := (List.range 8).any fun k => k != slot.val && (s.owner k).valid && bit (s.owner k).usage.toNat uENROLL
    let o := s.owner slot
    if !o.valid || (bit o.usage.toNat uENROLL && !others) then s.secRespond i 9 6 []
    else
      let s := (s.setOwner slot {}).post 0xF02 cINFO (unitOf 0xF 0) 0xFFFF [(0x10, slot), (0x11, 2), (0x12, o.usage.toNat)]
      let s : State := { s with sec := { s.sec with sess := smap {} (fun (x : Session) => if x.slot = some slot then { x with slot := none } else x) s.sec.sess } }
      s.secRespond i 9 0 [])

/-- ZEROISE (R557): the volatile keys are cleared, the erase begins, register 8 is extended and every session ends. -/
def execZeroise (i : SecIface) (s : State) : Out :=
  .next (s.service i 0xA uZEROISE fun s =>
    let s := (s.extend 8 (digBytes (Config.fixedRecord true))).post 0xF03 cWARN (unitOf 0xF 0) 0xFFFF [(0x10, ifaceNo i)]
    let s := (s.secRespond i 0xA 0 []).endSessions
    { s with sec := { s.sec with st := .zeroised, zeroising := true } })

/-- ZEROISE_ERASE_END (R557): owner slots are erased; counters stay. -/
def execZeroiseEraseEnd (s : State) : Out :=
  .next (if s.sec.zeroising then { s with sec := { s.sec with zeroising := false, owners := [] } } else s)

/-- GRANT_DEBUG (R558): the grant lasts until device reset. -/
def execGrantDebug (i : SecIface) (mask : BitVec 8) (s : State) : Out :=
  .next (s.service i 0xB uDEBUG fun s =>
    let slot := ((s.sess (ifaceNo i)).slot.map (·.val)).getD 0
    let s : State := { s with sec := { s.sec with grant := some ((s.sec.grant.getD 0) ||| mask) } }
    ((s.extend 8 (digBytes (Config.fixedRecord false))).post 0xF04 cWARN (unitOf 0xF 0) 0xFFFF [(0x10, mask.toNat), (0x11, slot)]).secRespond i 0xB 0 [])

/-- SELFTEST (R555): the tests run again. -/
def execSelftest (i : SecIface) (s : State) : Out :=
  .next (s.service i 0xC uUSER fun s =>
    let s := s.secRespond i 0xC 0 []
    { s with sec := { s.sec with st := .selftest } })

/-- SELFTEST_END (R551, R555, R556, Table 14.10): OPERATIONAL, with the counters of the images that booted raised, and the lathe groups
of a start-up on; or ERROR, which stops the start-up. -/
def execSelftestEnd (fail : BitVec 4) (s : State) : Out :=
  .next (if s.sec.st != .selftest || s.dom 62 ≠ 1 then s
  else if fail ≠ 0 then
    let s : State := { s with sec := { s.sec with st := .error, stFail := fail.toNat } }
    let s := s.post 0xF00 cFATAL (unitOf 0xF 0) 0xFFFF [(0x10, fail.toNat)]
    if bit (s.rf PWR_START PWR_START_PEND) 0 then ({ s with power := { s.power with starting := false } } : State).stepDone 0 false else s
  else
    let starting := bit (s.rf PWR_START PWR_START_PEND) 0
    let s : State := { s with sec := { s.sec with st := .operational, stFail := 0 } }
    let s := [1, 2, 3].foldl (fun (acc : State) k => acc.raiseCtr (fwReg k) (acc.fw k).active.2.1) s
    let s := s.stepDone 0 true
    if starting then (List.range 8).foldl (fun (acc : State) n => acc.placeLathe n acc.pwr) s else s)

/-! ## `DEV_` (R599–R601) -/

/-- DEBUG_WRITE (R601): bits set only for granted lathes; clearing is always taken. -/
def execDebugWrite (v : Word) (s : State) : Out := s.atBlock .dev 0 fun s =>
  let old := s.rf DEV_DEBUG DEV_DEBUG_LATHES
  .next (s.wf DEV_DEBUG DEV_DEBUG_LATHES (v.toNat &&& (old ||| (s.sec.grant.getD 0).toNat)))

/-- FABRIC_ID_WRITE (R599): taken only while every port reads DOWN, DISABLED or BYPASSED; the Vent copies it to the flash through the
security module, and once that is back where its domain is off (R541). -/
def execFabricIdWrite (v : Word) (s : State) : Out := s.atBlock .dev 0 fun s =>
  .next (if (List.range 16).all fun p => s.link p = lnkDown || s.link p = lnkDisabled || s.link p = lnkBypassed then
    let s := s.wrSoft DEV_FABRIC_ID v
    if s.dom 62 = 1 then { s with fabricIdFlash := s.rd DEV_FABRIC_ID } else s
  else s)

end Sys2Proof.Machine
end

