-- ==== Sys2Proof/Machine/Time.lean ====
section
/-! DEFINITION. Fabric time: exchanges, the grandmaster's election, holdover and external references (09, R369–R379; R615, R616). -/
namespace Sys2Proof.Machine

def ftFREE : Nat := 0
def ftACQUIRING : Nat := 1
def ftLOCKED : Nat := 2
def ftHOLDOVER : Nat := 3

def State.ftState (s : State) : Nat := s.rf FTM_STATUS FTM_STATUS_STATE
def State.isGm (s : State) : Bool := s.flag FTM_STATUS FTM_STATUS_GM
def State.setFtState (s : State) (v : Nat) : State := s.wf FTM_STATUS FTM_STATUS_STATE v

/-- The bound `FTM_UNCERT` as it stands: it grows by 0.2 ns per ms in holdover (R375). -/
def State.uncert (s : State) : Nat :=
  match s.ftm.growFrom with
  | some t => satTo (2 ^ 32 - 1) ((s.rd FTM_UNCERT).toNat + (s.clock - t) / 5000000)
  | none => (s.rd FTM_UNCERT).toNat

/-- FT_UNLOCKED with its reason. -/
def State.unlocked (s : State) (why : Nat) : State :=
  if s.flag FTM_CTRL FTM_CTRL_LOCK_EVT_EN then s.post 0x90C cWARN 0 0xFFFF [(0x10, why), (0x14, s.uncert)] else s

/-- The bound starts to grow from its present value, or stops (R375). -/
def State.growUncert (s : State) (on : Bool) : State :=
  let s := s.wr FTM_UNCERT (BitVec.ofNat 32 s.uncert)
  { s with ftm := { s.ftm with growFrom := if on then some s.clock else none, passed := false } }

/-- The counter moves to `t`: forward at once, or, never decreasing, held until `t` has caught up (R369, R372). A time past the end of the
64 bits leaves it at the end (log entry 24). -/
def State.moveFt (s : State) (t : Nat) : State :=
  if s.ft.toNat ≤ t then { s with ft := BitVec.ofNat 64 (min t (2 ^ 64 - 1)) }
  else { s.wb FTM_STATUS FTM_STATUS_HELD true with ftm := { s.ftm with slew := 0, holdUntil := s.clock + (s.ft.toNat - t) } }

/-- FT_STEP with its signed correction, a step (0) or a hold (1). -/
def State.stepEvent (s : State) (corr : Int) (kind : Nat) : State :=
  let s := s.bump FTM_STAT_STEPS 1
  if s.flag FTM_CTRL FTM_CTRL_STEP_EVT_EN then s.post 0x90E cINFO 0 0xFFFF [(0x10, trunc 64 corr), (0x18, kind)] else s

/-! ## Election (R371) -/

/-- The announcement in force on port `p`. -/
def State.annOf (s : State) (p : Nat) : Announce := sget {} s.ftm.ann p

/-- UP ports with a valid announcement of another grandmaster than this device. -/
def State.gmPorts (s : State) : List Nat :=
  (List.range 16).filter fun p => s.portUp p && (s.annOf p).valid && (s.annOf p).dev.toNat != s.devId

/-- Rank of a port as parent: the better grandmaster, then the fewer hops, then the lower number. -/
def State.portRank (s : State) (p : Nat) : Nat :=
  let a := s.annOf p
  ((a.prio.toNat * 65536 + a.dev.toNat) * 256 + a.hops.toNat) * 16 + p

/-- The best of some ports. -/
def State.bestPort (s : State) (ps : List Nat) : Option Nat :=
  ps.foldl (fun best p => match best with
    | none => some p
    | some q => if s.portRank p < s.portRank q then some p else some q) none

/-- A grandmaster takes office for this device: FT_GM_CHANGE when it is another one. -/
def State.setGm (s : State) (dev prio : Nat) : State :=
  let w := BitVec.ofNat 32 (dev + 65536 * prio + 2 ^ 31)
  if s.rd FTM_GM = w then s
  else ((s.wr FTM_GM w).bump FTM_STAT_GM_CHANGES 1).post 0x90D cINFO 0 0xFFFF [(0x10, dev), (0x12, prio)]

/-- The election among this device and what its ports announce (R371, R373). -/
def State.elect (s : State) : State :=
  let prio := s.rf FTM_CFG FTM_CFG_PRIORITY
  let own := s.flag FTM_CFG FTM_CFG_GM_CAPABLE
  let best := s.bestPort s.gmPorts
  let win := match best with
    | none => own
    | some p => let a := s.annOf p; own && decide (prio * 65536 + s.devId < a.prio.toNat * 65536 + a.dev.toNat)
  if win then
    if s.isGm then s.setGm s.devId prio
    else
      let s := (((s.setGm s.devId prio).setFtState ftLOCKED).wb FTM_STATUS FTM_STATUS_GM true).wf FTM_STATUS FTM_STATUS_HOPS 0
      ({ s with ftm := { s.ftm with growFrom := none, passed := false, slew := 0 } } : State).wr FTM_UNCERT 0
  else match best with
    | none => s.wb FTM_STATUS FTM_STATUS_GM false
    | some p =>
      let a := s.annOf p
      let first := s.isGm || s.ftState = ftFREE || s.ftState = ftHOLDOVER || s.rf FTM_STATUS FTM_STATUS_PARENT ≠ p
      let s := s.setGm a.dev.toNat a.prio.toNat
      let s := ((s.wb FTM_STATUS FTM_STATUS_GM false).wf FTM_STATUS FTM_STATUS_PARENT p).wf FTM_STATUS FTM_STATUS_HOPS (a.hops.toNat + 1)
      let s : State := if first then { s with ftm := { s.ftm with lastGood := s.clock } } else s
      if s.ftState = ftFREE || s.ftState = ftHOLDOVER then
        { (s.growUncert false).setFtState ftACQUIRING with ftm := { (s.growUncert false).ftm with good := 0 } }
      else s

/-! ## Exchanges (R370, R372, R373) -/

/-- What this device announces: the grandmaster it knows and its hops to it. -/
def State.announce (s : State) : Announce :=
  { valid := s.flag FTM_GM FTM_GM_VALID && s.ftState != ftFREE, prio := BitVec.ofNat 8 (s.rf FTM_GM FTM_GM_PRIORITY),
    dev := BitVec.ofNat 16 (s.rf FTM_GM FTM_GM_DEV), hops := BitVec.ofNat 8 (s.rf FTM_STATUS FTM_STATUS_HOPS) }

/-- A TIME packet leaves port `p`; its line carries the stamps in order. -/
def State.sendTime (s : State) (p : Nat) (stamps : List Nat) : State :=
  let a := s.announce
  let body := stamps.flatMap (fun t => leBytes t 8) ++ leBytes (b2n a.valid) 1 ++ leBytes a.prio.toNat 1 ++ leBytes a.dev.toNat 2 ++ leBytes a.hops.toNat 1
  s.transmit p { typ := .time, lines := 1, src := BitVec.ofNat 16 s.devId, payload := body ++ List.replicate (64 - body.length) 0 }

/-- TIME_EXCHANGE (R370, R371): each UP port sends a request stamped by the counter. -/
def execTimeExchange (s : State) : Out :=
  let s := s.elect
  .next ((List.range 16).foldl (fun (acc : State) p => if acc.portUp p then acc.sendTime p [acc.ft.toNat] else acc) s)

/-- The frequency correction, and the offset of the reference oscillator that shows, take what the comparison with a parent or a reference gives: the
spec gives no formula (log entry 92). -/
def State.newFreq (s : State) : State :=
  let (f, s) := s.takeFree
  let (o, s) := (s.wr FTM_FREQ f).takeFree
  s.wf CLK_REF CLK_REF_OFFSET o.toNat

/-- The correction toward the parent that an exchange with `offset` makes (R372, R373). -/
def State.correctFt (s : State) (offset : Int) : State :=
  let s := s.wr FTM_OFFSET (BitVec.ofInt 32 offset)
  let s : State := { s with ftm := { s.ftm with lastGood := s.clock, good := if -10 ≤ offset && offset ≤ 10 then s.ftm.good + 1 else 0 } }
  let s :=
    if s.flag FTM_STATUS FTM_STATUS_HELD then s
    else if offset < -10000 then ((s.moveFt (s.ft.toNat - offset.natAbs)).stepEvent offset 1)
    else if s.ftState = ftACQUIRING && 0 < offset then (s.moveFt (s.ft.toNat + offset.natAbs)).stepEvent offset 0
    else { s with ftm := { s.ftm with slew := offset } }
  let s := s.newFreq
  if s.ftState = ftACQUIRING && 16 ≤ s.ftm.good then
    let (u, s) := (s.setFtState ftLOCKED).takeFree
    let s := ({ s with ftm := { s.ftm with growFrom := none, passed := false } } : State).wr FTM_UNCERT u
    if s.flag FTM_CTRL FTM_CTRL_LOCK_EVT_EN then
      s.post 0x90B cINFO 0 0xFFFF [(0x10, s.rf FTM_STATUS FTM_STATUS_PARENT), (0x11, s.rf FTM_STATUS FTM_STATUS_HOPS), (0x12, s.rf FTM_GM FTM_GM_DEV)]
    else s
  else s

/-- The device corrects its time by the exchanges of port `p`, its parent's (R371–R373). -/
def State.follows (s : State) (p : Nat) : Bool :=
  !s.isGm && s.rf FTM_STATUS FTM_STATUS_PARENT = p && (s.ftState = ftACQUIRING || s.ftState = ftLOCKED)

/-- TIME (R340, R370–R373): a packet with message `m` arrives: a request is stamped and answered; a reply completes an exchange. -/
def execTime (p : Fin 16) (pk : Packet) (m : TimeMsg) (s : State) : Out :=
  let hear (s : State) (a : Announce) : State := { s with ftm := { s.ftm with ann := sput {} a s.ftm.ann p } }
  .next (match s.receive p pk, m with
  | (false, s), _ => s
  | (true, s), .request t1 a =>
    let s := ((hear s a).sendTime p [t1.toNat, s.ft.toNat, s.ft.toNat]).elect
    if s.follows p then { s with ftm := { s.ftm with lastGood := s.clock } } else s
  | (true, s), .reply t1 t2 t3 a =>
    let t4 : Int := s.ft.toNat
    let delay := ((t4 - t1.toNat) - ((t3.toNat : Int) - t2.toNat)) / 2
    let offset := (((t2.toNat : Int) - t1.toNat) - (t4 - t3.toNat)) / 2
    let s := (hear s a).wr (FTM_LINK_DELAY p) (BitVec.ofNat 32 (trunc 24 delay + 2 ^ 31))
    let s := s.elect
    if s.follows p then s.correctFt offset else s)

/-- PARENT_TIMEOUT (R373): 5 ms without TIME from the parent. -/
def execParentTimeout (s : State) : Out :=
  let st := s.ftState
  .next (if s.isGm || !(st = ftACQUIRING || st = ftLOCKED) || s.clock < s.ftm.lastGood + 5000000 then s
  else
    let p := s.rf FTM_STATUS FTM_STATUS_PARENT
    let s : State := { s with ftm := { s.ftm with ann := sput {} {} s.ftm.ann p } }
    match s.bestPort s.gmPorts with
    | some _ => s.elect
    | none =>
      let s := s.wr FTM_GM 0
      let s := if st = ftACQUIRING then s.setFtState ftFREE
        else ((s.setFtState ftHOLDOVER).bump FTM_STAT_HOLDOVERS 1).growUncert true
      (s.unlocked 1).elect)

/-- UNCERT_LIMIT (R375): the growing bound passes UNCERT_MAX. -/
def execUncertLimit (s : State) : Out :=
  .next (if s.ftm.growFrom.isNone || s.ftm.passed || s.uncert ≤ s.rf FTM_CFG FTM_CFG_UNCERT_MAX then s
  else ({ s with ftm := { s.ftm with passed := true } } : State).unlocked 2)

/-! ## External references (R376, R615, R616) -/

/-- REFERENCE_LOST (R376, R615). -/
def execReferenceLost (i : RefInput) (s : State) : Out :=
  let s : State := { s with ftm := match i with | .pps => { s.ftm with refPps := false } | .mhz10 => { s.ftm with ref10 := false } | .ptp => s.ftm }
  .next (if s.isGm && s.rf FTM_CFG FTM_CFG_REF = (match i with | .ptp => 1 | _ => 2) && !s.ftm.refLost then
    let s := s.growUncert true
    ({ s with ftm := { s.ftm with refLost := true } } : State).unlocked 3
  else s)

/-- REFERENCE_RESTORED (R616): the 10 MHz input is present and locked again. -/
def execReferenceRestored (s : State) : Out :=
  let s : State := { s with ftm := { s.ftm with ref10 := true } }
  .next (if s.isGm && s.rf FTM_CFG FTM_CFG_REF = 2 then s.newFreq else s)

/-- The reference is followed again: the bound stops growing. -/
def State.refBack (s : State) : State :=
  if s.ftm.refLost then ({ s with ftm := { s.ftm with refLost := false, growFrom := none, passed := false } } : State).wr FTM_UNCERT 0 else s

/-- PPS_EDGE (R376, R616): with the 10 MHz input locked, a grandmaster with REF 2 aligns to the nearest whole second. -/
def execPpsEdge (s : State) : Out :=
  let s : State := { s with ftm := { s.ftm with refPps := true } }
  .next (if s.isGm && s.rf FTM_CFG FTM_CFG_REF = 2 && s.ftm.ref10 then
    s.refBack.newFreq.moveFt ((s.ft.toNat + 500000000) / 1000000000 * 1000000000)
  else s)

/-- PTP_MESSAGE (R376): a grandmaster with REF 1 follows PTP time. -/
def execPtpMessage (t : DWord) (s : State) : Out :=
  .next (if s.isGm && s.rf FTM_CFG FTM_CFG_REF = 1 then s.refBack.newFreq.moveFt t.toNat else s)

/-- FTM_SET (R377). -/
def execFtmSet (v : DWord) (s : State) : Out := s.atBlock .ftm 0 fun s =>
  .next (if ((s.isGm && s.rf FTM_CFG FTM_CFG_REF = 0) || s.ftState = ftFREE) && s.ft.toNat ≤ v.toNat then { s with ft := v } else s)

/-- FTM_NOW_READ (R380): the low word answers, and the high word is latched. -/
def execFtmNowRead (s : State) : Out :=
  let off := s.blockOff .ftm 0
  let s := if off then s.wakeLink.offAccess else s.wakeLink.wr FTM_NOW_HI (BitVec.ofNat 32 (s.ft.toNat / 2 ^ 32))
  .next { s with resp := { data := if off then List.replicate 4 0xFF else leBytes s.ft.toNat 4 } }

end Sys2Proof.Machine
end

