-- ==== Sys2Proof/Machine/Views.lean ====
section
/-! DEFINITION. Register words as they read: status words that the records of State hold, shown in the register map (R37, R596 and the
register tables of each file). Every other word reads as it is stored. -/
namespace Sys2Proof.Machine

/-- Bits of a word from (position, value) pairs. -/
def pack (l : List (Nat × Nat)) : Nat := l.foldl (fun acc e => acc + e.2 * 2 ^ e.1) 0

/-- The stored word with a field replaced. -/
def State.withField (s : State) (off : Nat) (f : Fld) (v : Nat) : Nat := setBits (s.rd off).toNat f.lo f.w v

/-- How many of `l` satisfy `p`. -/
def countOf {α : Type} (l : List α) (p : α → Bool) : Nat := (l.filter p).length

def bankCode : BankSt → Nat
  | .free => 0 | .writing => 1 | .pending => 2 | .live => 0

/-- `LTH_STATUS`. -/
def State.lthStatus (s : State) (n : Nat) : Nat :=
  let l := s.lathe n
  pack [(0, svcCode l.svc), (3, b2n l.liveB), (4, bankCode l.idleBank.st), (6, b2n (l.idleBank.st == .writing && (l.idleBank.refresh || l.idleBank.again))), (8, s.shape n),
    (11, s.gang n), (14, b2n (s.debug n)), (15, b2n (s.lasersLocked n)), (16, b2n l.mapErr), (17, b2n (s.level ≠ 0)), (18, l.oosCause)]

/-- `LTH_SPARE_USE`: spare rows and columns that the maps name, and the stored standby position. -/
def State.lthSpareUse (s : State) (n : Nat) : Nat :=
  pack [(0, countOf (List.range 16) fun i => (List.range 512).any fun k => s.rowMap n k == 512 + i),
    (8, countOf (List.range 16) fun i => (List.range 520).any fun c => s.colMap n c == 520 + i),
    (16, s.rf (LTH_SPARE_USE n) LTH_SPARE_USE_STANDBY_POS)]

def grpCode : GrpSt → Nat
  | .free => 0 | .open => 1 | .spanMove => 2 | .closing => 3 | .draining => 4 | .invalid => 5

/-- The group of lathe `n` that a row belongs to, if it is not FREE. -/
def State.rowGroup (s : State) (n row : Nat) : Option Nat :=
  (List.range 8).find? fun g => let x := s.group n g; x.st != .free && decide (x.rowBase ≤ row) && decide (row < x.rowBase + x.rows)

/-- `ACC_` words (R186, R187). -/
def State.accView (s : State) (n off r : Nat) : Nat :=
  if r = 0 then
    pack [(0, b2n (s.flag (ACC_CTRL n) ACC_CTRL_MODE)), (8, countOf (List.range 8) fun g => (s.group n g).st != .free),
      (12, b2n ((List.range 8).any fun g => (s.group n g).moving))]
  else if r = 8 || r = 12 then s.withField off ACC_TILE_EMPTY (b2n (s.tileEmpty n ((r - 8) / 4)))
  else if r = 0x10 then s.spanMib
  else if 0x100 ≤ r && r < 0x180 then
    let x := s.group n ((r - 0x100) / 16)
    match r % 16 with
    | 0 => pack [(0, grpCode x.st), (3, tileOf x.rowBase), (8, b2n x.sat), (9, b2n x.ovr), (10, b2n x.extended), (11, b2n x.betaLoss),
        (12, b2n x.poison), (13, b2n (x.verdicts ≠ 0)), (16, satTo 255 x.inflight), (24, x.ctx.toNat)]
    | 4 => pack [(0, x.rowBase), (16, x.rows)]
    | 8 => pack [(0, x.count), (8, satTo 65535 x.spans)]
    | _ => pack [(0, trunc 8 x.beta), (8, x.sigma), (12, x.fmt)]
  else if r = 0x200 then
    let row := s.rf off ACC_DBG_ROW_ROW
    pack [(0, row), (16, b2n (sget false (s.lathe n).seen row)), (17, b2n (s.rowGroup n row).isSome), (18, (s.rowGroup n row).getD 0)]
  else if 0x220 ≤ r && r < 0x240 then
    (if s.debug n then (sget 0 s.chkMem (n * 65536 + s.rf (ACC_DBG_ROW n) ACC_DBG_ROW_ROW * 8 + (r - 0x220) / 4)).toNat else 0)
  else (s.rd off).toNat

def descCode : DescSt → Nat
  | .idle => 0 | .armed => 1 | .busy => 2 | .armedShadow => 3 | .busyShadow => 4

/-- `STR_` words. -/
def State.strView (s : State) (n off r : Nat) : Nat :=
  let ps := (s.engine n).progs
  if r = 0 then pack [(0, ps.length), (16, (ps.filter fun x => x.st != .accepted).length), (24, b2n (s.gang n = n && s.dom (4 * n + 3) = 1))]
  else if r = 0x10 then s.withField off STR_TAGS_IN_USE (s.latheTags n)
  else if 0x4000 ≤ r && r < 0x8000 then
    let x := s.desc n ((r - 0x4000) / 64)
    if r % 64 = 0x30 then pack [(0, descCode x.st), (3, b2n (x.st != .idle)), (4, x.last), (8, x.ctx.toNat)]
    else if r % 64 = 0x34 then pack [(0, x.gen.toNat), (16, x.doneGen.toNat)]
    else (s.rd off).toNat
  else (s.rd off).toNat

/-- `INF_CFG`: which lathe of its gang feeds, and the span region (R151). -/
def State.infCfg (s : State) (n : Nat) : Nat :=
  pack [(0, b2n (s.gang n = n && 1 ≤ s.shape n && s.shape n ≤ 3)), (1, b2n (s.deep n && n ≠ s.gang n)), (8, s.spanMib)]

/-- `DEV_LT_STATUS`. -/
def State.ltStatus (s : State) : Nat :=
  let at_ := match s.swaps.find? (·.writing) with
    | some w => w.entry
    | none => s.verifying.head?.getD ((s.swaps.head?.map (·.entry)).getD 0)
  pack [(0, b2n (s.swaps.any fun w => !w.writing)), (1, b2n (s.swaps.any (·.writing))), (2, b2n (!s.verifying.isEmpty)), (3, b2n s.building.isSome),
    (4, countOf (List.range 16) fun p => s.flag (DEV_LT_PASS p) DEV_LT_PASS_OPEN), (16, at_)]

def calCode : CalSt → Nat
  | .idle => 0 | .waiting => 1 | .slot => 2 | .running => 3

/-- The phase of Table 13.2 whose work the step in progress is: the column passes of the shorter kinds are a phase 3, and what is left at the end a
phase 6. -/
def Cal.shownPhase (c : Cal) : Nat :=
  match c.kind with
  | 0 => c.phase
  | 1 => if c.phase = 4 then 6 else c.phase
  | 2 => if c.phase = 1 then 3 else c.phase
  | _ => if c.phase = 1 then 3 else if c.phase = 2 then 6 else c.phase

/-- `DEV_CAL_STATUS`. -/
def State.devCalStatus (s : State) : Nat :=
  let st (n : Nat) : CalSt := (s.cal (s.calKey n)).st
  pack [(0, maskOf 8 fun n => st n == .waiting || st n == .slot), (8, maskOf 8 fun n => st n == .running)]

def loopCode : LoopSt → Nat
  | .off => 0 | .run => 1 | .idle => 2 | .frozen => 3

/-- `STD_` words of a loop (R477). -/
def State.loopView (s : State) (i off k : Nat) : Nat :=
  let l := s.loop i
  match k with
  | 4 => trunc 32 (s.setpoint i) % 2 ^ 24
  | 8 => pack [(0, loopCode l.st), (3, b2n l.held), (4, satTo 255 l.breaches), (12, l.freezeCause), (16, l.lastGood)]
  | 12 => pack [(0, trunc 24 l.residual), (24, satTo 255 l.delay)]
  | _ => (s.rd off).toNat

/-- `TRM_CH_STAT`. -/
def State.trimView (s : State) (i : Nat) : Nat :=
  let t := s.trim i
  pack [(0, t.code), (16, t.queue.length), (24, b2n t.sc), (25, b2n t.qovf), (26, b2n t.pend.isSome)]

def convCode : ConvSt → Nat
  | .idle => 0 | .scan => 1 | .cal => 2 | .oneshot => 3

/-- `MON_` words. -/
def State.monView (s : State) (off r : Nat) : Nat :=
  if r = 0 then
    pack [(0, maskOf 16 fun c => (s.conv c).st == .cal),
      (16, maskOf 8 fun k => s.flag (MON_CSTAT (2 * k)) MON_CSTAT_XCHK_FAIL || s.flag (MON_CSTAT (2 * k + 1)) MON_CSTAT_XCHK_FAIL)]
  else if r = 0x14 then pack [(0, jigWarn s.jigBody), (8, jigThrottle s.jigBody), (16, jigTrip s.jigBody)]
  else if r = 0x18 then (match s.temp.peak with | some c => trunc 16 (temp128 c) | none => 0)
  else if 0x1000 ≤ r && r < 0x1200 && r % 32 = 8 then
    let x := s.conv ((r - 0x1000) / 32)
    setBits (s.withField off MON_CSTAT_STATE (convCode x.st)) 2 5 (if x.st == .cal && decide (x.secondAt ≤ s.clock) then 29 else x.input)
  else (s.rd off).toNat

def jigCode : JigSt → Nat
  | .idle => 0 | .applyWait => 1 | .applying => 2 | .health => 3 | .rollingBack => 4

/-- `JIG_` words. -/
def State.jigView (s : State) (off r : Nat) : Nat :=
  let j := s.jig
  let slot (k : Nat) : JigImg := if k = 0 then j.cur else if k = 1 then j.prev else j.pend
  if r = 0 then pack [(0, jigCode j.st), (4, b2n j.inForce.isNone), (5, b2n j.prev.valid), (6, b2n j.pend.valid), (7, b2n j.uncommitted)]
  else if 0x20 ≤ r && r < 0x38 then
    let i := slot ((r - 0x20) / 8)
    if !i.valid then 0 else if r % 8 = 0 then i.version else i.svn
  else if r = 0x38 then (if j.st == .health then 30000 - (s.clock - j.healthFrom) / ms else 0)
  else if r = 0x104 then s.withField off JIG_FW_STATUS_BUSY (b2n (!s.fwBusy.isEmpty))
  else if 0x124 ≤ r && r < 0x140 then (s.fw ((r - 0x120) / 4)).active.1
  else (s.rd off).toNat

/-- The alert pins are low (R591, Table 16.4). -/
def State.alertLow (s : State) : Bool := s.vent.booting || s.flag VNT_ALERT VNT_ALERT_PEND
def State.thermLow (s : State) : Bool :=
  s.vent.booting || decide (0 < s.level) || s.flag MON_TEMP MON_TEMP_WARN || s.flag MON_TEMP MON_TEMP_TRIPPED || !s.flag MON_TEMP MON_TEMP_VALID

/-- `VNT_` words (R586). -/
def State.vntView (s : State) (off r : Nat) : Nat :=
  if r = 0 then
    pack [(0, (s.vent.run.map (·.op)).getD 0), (8, countOf s.vent.queue fun q => !q.mgmt), (11, countOf s.vent.queue (·.mgmt)),
      (14, b2n s.vent.mgmtLink), (15, b2n (s.flag CLK_REF CLK_REF_FALLBACK)), (24, s.rf off VNT_STATUS_RESTARTS)]
  else if r = 0x10 then pack [(0, b2n (s.flag VNT_ALERT VNT_ALERT_PEND)), (1, b2n s.alertLow), (2, b2n s.thermLow)]
  else if 0x4000 ≤ r && r < 0x5000 then bits (sget {} s.vent.log ((r - 0x4000) / 64)).toNat (8 * (r % 64)) 32
  else (s.rd off).toNat

/-- `CLK_LOCK_LO` and `CLK_LOCK_HI`. -/
def State.clkLock (s : State) (hi : Bool) : Nat :=
  let base := if hi then 32 else 0
  maskOf (if hi then 5 else 32) fun k => s.flag (CLK_DOM (base + k)) CLK_DOM_LOCKED

/-- The word at offset `off` of the register range, as it reads. DESIGN CHOICE (log entry 201): `FIN_STATUS.GROUP` keeps the ID of the last group while the
finisher is idle or runs an update. -/
def State.viewNat (s : State) (off : Nat) : Nat :=
  let raw := (s.rd off).toNat
  match locate off with
  | none => 0
  | some (b, i, r) =>
    match b with
    | .lth =>
      if r = 4 then s.lthStatus i
      else if r = 0x18 then s.lthSpareUse i
      else if r = 0x58 || r = 0x5C then bits (satTo (2 ^ 64 - 1) (s.rd64 (LTH_STAT_IDLE_SYM i) + s.idleDue i)) (8 * (r - 0x58)) 32
      else raw
    | .acc => s.accView i off r
    | .fin => if r = 0 then pack [(0, (s.lathe i).finOp), (3, (s.lathe i).finGroup), (6, b2n (s.finStall i ≠ 0)), (8, s.finStall i)] else raw
    | .inf => if r = 0 then s.infCfg i else raw
    | .str => s.strView i off r
    | .cal =>
      if r = 0 then
        let c := s.cal (s.calKey i)
        if c.st == .idle then 0 else pack [(0, calCode c.st), (2, c.kind), (8, if c.st == .running then c.shownPhase else 0)]
      else raw
    | .sem =>
      if r = 0 then (s.waiters.map fun (e : Nat × List Waiter) => e.2.length).foldl (· + ·) 0
      else if 0x10000 ≤ r && r % 16 = 8 then (s.waitersOf ((r - 0x10000) / 16)).length
      else raw
    | .dev =>
      if r = 0x800C then s.ltStatus
      else if r = 0x9010 then s.devCalStatus
      else if r = 0xC then (s.sec.grant.getD 0).toNat
      else raw
    | .hbm => if r = 0 then s.withField off HBM_STATUS_SCRUBBING (b2n (!(s.stack i).scrub.isEmpty)) else raw
    | .rdc => if r = 0 then maskOf 32 fun c => !(s.rdcOf (32 * i + c)).isEmpty else raw
    | .izpg =>
      if r = 0x58008 then s.withField off IZP_TAGS_IN_USE s.reqs.length
      else if r = 0x58010 then jigAutoOpen s.jigBody
      else if 0x5C000 ≤ r then jigRsDim s.jigBody ((r - 0x5C000) / 32) ((r - 0x5C000) / 4 % 8)
      else raw
    | .ftm => if r = 0 then s.ft.toNat % 2 ^ 32 else if r = 0x18 then s.uncert else raw
    | .flt =>
      if r = 0 then
        pack [(0, maskOf 8 fun n => !(s.lathe (s.lead n)).arbs.isEmpty), (8, maskOf 8 fun n => (s.lathe n).dip), (16, b2n (!s.histDirty.isEmpty))]
      else if r = 8 then s.withField off FLT_CFG_JRNL_MIB s.jrnlMib
      else if r = 0x20C then s.histNow
      else raw
    | .std =>
      if r = 0 then
        pack [(0, maskOf 9 fun c => decide ((s.core c).sweepStart ≤ s.clock) && decide (s.clock < (s.core c).sweepEnd)), (16, maskOf 9 fun c => s.flag (STD_CORE_BANK c) STD_CORE_BANK_ACTIVE)]
      else if 0x40000 ≤ r then s.loopView ((r - 0x40000) / 16) off (r % 16)
      else raw
    | .trm =>
      if r = 0 then pack [(0, b2n s.trimForced), (1, b2n s.trimPin), (2, b2n s.trimVent)]
      else if 0x10000 ≤ r && r % 16 = 4 then s.trimView ((r - 0x10000) / 16)
      else raw
    | .mon => s.monView off r
    | .pwr =>
      if r = 0 then s.withField off PWR_STATUS_PENDING (b2n s.power.reqTarget.isSome)
      else if 0x100 ≤ r && r < 0x300 && r % 8 = 0 then s.withField off PWR_DOM_STATUS_JIG_OFF (b2n (!jigDomEn s.jigBody ((r - 0x100) / 8)))
      else raw
    | .clk => if r = 0 then s.clkLock false else if r = 4 then s.clkLock true else raw
    | .sec =>
      if r = 0 then s.secStatus
      else if 0x500 ≤ r && r < 0x540 then bits Config.devId.toNat (8 * (r - 0x500)) 32
      else if 0x540 ≤ r && r < 0x560 then s.ctr ((r - 0x540) / 4)
      else if 0x560 ≤ r && r < 0x580 then s.slotWord ((r - 0x560) / 4)
      else raw
    | .jig => s.jigView off r
    | .pci => if r = 0x14 then s.withField off PCI_TAGS_IN_USE s.hostReqs.length else raw
    | .evt => if r = 0 then s.withField off EVT_STATUS_ENABLED (maskOf 16 fun e => s.flag (EVT_Q_CFG e) EVT_Q_CFG_EN) else raw
    | .vnt => s.vntView off r
    | .oll => if r = 0 then s.withField off OLL_STATUS_RANK (if (s.lathe i).hasLive then (s.lathe i).liveBank.rank else 0) else raw
    | .wtb | .izp => raw

/-- The same as a word. -/
def State.viewWord (s : State) (off : Nat) : Word := BitVec.ofNat 32 (s.viewNat off)

end Sys2Proof.Machine
end

