-- ==== Sys2Proof/Machine/VentOps.lean ====
section
/-! DEFINITION. How the Vent takes requests, runs one operation at a time and answers (16, R589–R595, Tables 16.5, 16.6). -/
namespace Sys2Proof.Machine

/-- The Vent runs: it has booted and the boot ROM is not in recovery (R534, R612). -/
def State.ventUp (s : State) : Bool := !s.vent.booting && !s.recovery && s.dom 63 = 1

/-- A request is authorised: on the management port only STATUS, HISTORY and QUOTE need no USER session (R590). -/
def State.ventAllowed (s : State) (r : VentReq) : Bool :=
  !r.mgmt || r.op = 1 || r.op = 2 || r.op = 0xA || s.hasUsage .management uUSER

/-- The response to a request (R589), counted, and VENT_OP (R595). A register request's stands in `VNT_MBX_RSP`. -/
def State.ventReply (s : State) (r : VentReq) (status : Nat) (data : List Byte) : State :=
  let all := leBytes (r.op + 256 * status) 2 ++ leBytes r.seq.toNat 2 ++ leBytes data.length 4 ++ data
  let s : State := { s with resp := { data := all } }
  let s := if r.mgmt then s
    else
      let s := (List.range (min 2048 ((all.length + 3) / 4))).foldl (fun (acc : State) w => acc.wr (VNT_MBX_RSP w) (BitVec.ofNat 32 (leNat all (4 * w) 4))) s
      s.wr VNT_MBX_STATUS (BitVec.ofNat 32 (pack [(0, b2n (s.vent.queue.any fun q => !q.mgmt)), (1, 1), (8, status), (16, r.seq.toNat)]))
  let s := if status = 0 then s.bump VNT_STAT_OPS 1 else if status ≥ 2 then s.bump VNT_STAT_REFUSED 1 else s
  if r.op = 1 || r.op = 2 || r.op = 0xA then s
  else s.postVent 0x1005 cINFO 0 [(0x10, r.op), (0x11, b2n r.mgmt), (0x12, status), (0x14, r.seq.toNat)]

/-! ## Operations (Table 16.5) -/

/-- A register word in the STATUS snapshot: 0xFFFF_FFFF while its block does not answer (Table 16.6). -/
def State.snapWord (s : State) (off : Nat) : List Byte :=
  let off_ := match locate off with
    | some (b, i, _) => s.blockOff b i
    | none => true
  leBytes (if off_ then 2 ^ 32 - 1 else s.viewNat off) 4

/-- STATUS: Table 16.6. -/
def State.ventSnapshot (s : State) : List Byte :=
  let words := [PWR_STATUS, PWR_INPUT, CLK_LOCK_LO, CLK_LOCK_HI, MON_TEMP, SEC_STATUS, JIG_STATUS, FTM_STATUS] ++ (List.range 8).map LTH_STATUS ++
    (List.range 8).map HBM_STATUS ++ (List.range 16).map IZP_STATUS ++ (List.range 64).map PWR_DOM_STATUS
  let next := s.rf VNT_LOG_IDX VNT_LOG_IDX_NEXT
  words.flatMap s.snapWord ++ (List.range 64).flatMap fun i => leBytes (sget {} s.vent.log ((next + i) % 64)).toNat 64

/-- HISTORY: Table 10.7. -/
def State.ventHist (s : State) (r : VentReq) : State :=
  match histSel r.arg0 with
  | none => s.ventReply r 3 []
  | some k => s.ventReply r 0 ((s.histWords k).flatMap fun w => leBytes w 4)

/-- DOMAIN_RESET (R533, R513): domain 63 answers with status 3; a domain that the jig disables, or one in a transition, is refused. -/
def State.ventDomain (s : State) (r : VentReq) : State :=
  let d := bits r.arg0 0 6
  if d = 63 then s.ventReply r 3 []
  else if !s.jigDom d || s.flag PWR_STATUS PWR_STATUS_TRANS || s.power.resetHeld || s.power.refLost then s.ventReply r 6 []
  else (s.domainReset d 2).ventReply r 0 []

/-- DEVICE_RESET: the response goes out first (R531). -/
def State.ventReset_ (s : State) (r : VentReq) : State := (s.ventReply r 0 []).deviceReset

/-- Every program of every engine is aborted with cause 0x02 (R228, R594). -/
def State.abortEvery (s : State) : State := (List.range 8).foldl (fun (acc : State) b => acc.abortWhere b 2 fun _ => true) s

/-- An engine still holds programs that an abort has not retired. -/
def State.holdsAborting (s : State) (b : Nat) : Bool := (s.engine b).progs.any fun x => x.st == .aborting

/-- ABORT_ALL begins (R594). -/
def State.ventAbort (s : State) (r : VentReq) : State :=
  let s := s.abortEvery
  { s with vent := { s.vent with run := some r, abortAt := s.clock } }

/-- POWER_DOWN begins (R528): to Dormant or Cold, waiting for nothing. -/
def State.ventPower (s : State) (r : VentReq) : State :=
  let t := r.arg0
  if t ≠ 3 && t ≠ 4 then s.ventReply r 3 []
  else if s.power.resetHeld || s.power.refLost then s.ventReply r 6 []
  else if s.power.cold || t ≤ s.pwr && !s.flag PWR_STATUS PWR_STATUS_TRANS then s.ventReply r 0 []
  else
    let s := s.abortEvery
    let s := (List.range 8).foldl (fun (acc : State) n => acc.endCal n 7) s
    let s := s.beginTransition t true
    { s with power := { s.power with waiting := false }, vent := { s.vent with run := some r } }

/-- BYPASS_CLOSE (R350). -/
def State.ventBypass (s : State) (r : VentReq) : State :=
  ((List.range 8).foldl (fun (acc : State) k => if bit r.arg0 k then acc.closeBypass k 3 4 else acc) s).ventReply r 0 []

/-- THERMAL_TRIP: the actions of R478. -/
def State.ventTrip (s : State) (r : VentReq) : State := (s.trip true).ventReply r 0 []

/-- JIG_ROLLBACK begins with cause 4, or is refused as R567 says. -/
def State.ventRollback (s : State) (r : VentReq) : State :=
  if s.rollbackRefusal ≠ 0 then s.ventReply r 6 []
  else
    let s := s.beginRollback 4
    { s with vent := { s.vent with run := some r } }

/-- QUOTE (Table 15.5), through the security module. -/
def State.ventAttest (s : State) (r : VentReq) : State :=
  let len := bits r.arg0 0 8
  if !s.secAnswers 3 then s.ventReply r 5 []
  else if len = 0 || 48 < len then s.ventReply r 3 []
  else (s.bump SEC_STAT_QUOTES 1).ventReply r 0 (s.quote ((r.data ++ List.replicate 48 0).take len) (bits r.arg0 16 16))

/-- TRIM_CLEAR (R446–R448). -/
def State.ventTrim (s : State) (r : VentReq) : State :=
  let was := s.trimForced
  if bit r.arg0 0 then
    let s : State := { s with trimVent := true }
    (if was then s else ({ s with trimSince := s.clock } : State).forceClear 2).ventReply r 0 []
  else
    let s : State := { s with trimVent := false }
    (if was && !s.trimForced then s.releaseClear else s).ventReply r 0 []

/-- WAKE (R523): from Dormant or Cold to Active. -/
def State.ventWakeUp (s : State) (r : VentReq) : State :=
  if s.pwr < 3 then s.ventReply r 6 []
  else ({ s with power := { s.power with reqTarget := some 0, reqVent := true, timed := [] } } : State).ventReply r 0 []

/-- POISON_MARK (R320) on this device or, on the default route set, another; a line that is not mapped memory here answers 5. -/
def State.ventMark (s : State) (r : VentReq) : State :=
  let a := r.arg1 % 2 ^ 56 / 64 * 64
  let here := s.isLocal a
  let ok := (List.range (min r.arg0 1)).all fun _ => s.mapped (a % 2 ^ 40) && s.mapped (a % 2 ^ 40 + 64 * (r.arg0 - 1))
  if here && !ok then s.ventReply r 5 []
  else (s.poisonGlobal 25 a (64 * r.arg0) (BitVec.ofNat 2 (s.rf IZP_GCFG IZP_GCFG_DEFAULT_RS))).ventReply r 0 []

/-- One request starts: refused without authority, unknown operations with status 1. -/
def State.ventStart (s : State) (r : VentReq) : State :=
  if !s.ventAllowed r then s.ventReply r 2 []
  else match r.op with
    | 0x01 => s.ventReply r 0 s.ventSnapshot
    | 0x02 => s.ventHist r
    | 0x03 => s.ventDomain r
    | 0x04 => s.ventReset_ r
    | 0x05 => s.ventAbort r
    | 0x06 => s.ventPower r
    | 0x07 => s.ventBypass r
    | 0x08 => s.ventTrip r
    | 0x09 => s.ventRollback r
    | 0x0A => s.ventAttest r
    | 0x0B => s.ventTrim r
    | 0x10 => s.ventWakeUp r
    | 0x11 => s.ventMark r
    | _ => s.ventReply r 1 []

/-! ## One at a time (R592) -/

/-- The running operation is over: ABORT_ALL once every aborted program has retired, POWER_DOWN with its transition, JIG_ROLLBACK with the
rollback. -/
def State.ventOver (s : State) (r : VentReq) : Bool :=
  match r.op with
  | 0x05 => (List.range 8).all fun b => !s.holdsAborting b
  | 0x06 => !s.flag PWR_STATUS PWR_STATUS_TRANS
  | _ => s.jig.st != .rollingBack

/-- Start waiting requests, oldest first, while no operation runs; at most `n` of them. -/
def State.ventDrain (s : State) : Nat → State
  | 0 => s
  | n + 1 =>
    match s.vent.run, s.vent.queue with
    | none, r :: rest => (({ s with vent := { s.vent with queue := rest } } : State).ventStart r).ventDrain n
    | _, _ => s

/-- A running operation that is over is answered, and waiting requests start. -/
def State.ventSettle (s : State) : State :=
  match s.vent.run with
  | none => s
  | some r => if s.ventOver r then (({ s with vent := { s.vent with run := none } } : State).ventReply r 0 []).ventDrain 8 else s

/-- A request arrives (R592): THERMAL_TRIP, TRIM_CLEAR and BYPASS_CLOSE start at once; another waits behind a running operation, and a fifth
of its interface is answered with status 4. In Cold only the management port reaches the Vent (R523). -/
def State.ventArrive (s : State) (r : VentReq) : State :=
  if !s.ventUp || (s.power.cold && !r.mgmt) then s
  else
    let s := s.ventSettle
    if s.vent.run.isNone || r.op = 7 || r.op = 8 || r.op = 0xB then s.ventStart r
    else if 4 ≤ countOf s.vent.queue (fun q => q.mgmt == r.mgmt) then s.ventReply r 4 []
    else
      let s := if r.mgmt then s else (s.wb VNT_MBX_STATUS VNT_MBX_STATUS_BUSY true).wb VNT_MBX_STATUS VNT_MBX_STATUS_DONE false
      { s with vent := { s.vent with queue := s.vent.queue ++ [r] } }

/-- The request that stands in `VNT_MBX_REQ` (R589). -/
def State.mbxReq (s : State) : VentReq :=
  let all := (List.range 16).flatMap fun w => leBytes (s.rd (VNT_MBX_REQ w)).toNat 4
  { op := leNat all 0 1, seq := BitVec.ofNat 16 (leNat all 2 2), arg0 := leNat all 4 4, arg1 := leNat all 8 8, data := all.drop 16 }

end Sys2Proof.Machine
end

