-- ==== Sys2Proof/Machine/RegWrite.lean ====
section
/-! DEFINITION. A write of one register word (00 R12–R15; 01 R37; 17 R603): a register with a command of its own acts as that command, any
other follows its access code; and the clearing of a block's counters (R84, R603). -/
namespace Sys2Proof.Machine

/-- The next state that a meaning answers. -/
def stateOf (s : State) : Out → State
  | .next t => t
  | _ => s

/-- The STAT_CLR bit of the word at offset `r` of a block. -/
def statClrBit (b : Block) (r : Nat) : Option Nat :=
  match b with
  | .lth => if r = 8 then some 1 else none
  | .oll | .acc | .izp => if r = 4 then some 1 else none
  | .cal => if r = 4 then some 2 else none
  | .dev => if r = 0x8004 then some 0 else none
  | .izpg => if r = 0x58004 then some 0 else none
  | .ftm => if r = 0x10 then some 0 else none
  | .clk => if r = 0xC then some 0 else none
  | .wtb | .jig => none
  | _ => if r = 4 then some 0 else none

/-- STAT_CLR of instance `i` of block `b`: its counters go to 0, and what it holds since the last STAT_CLR starts again. -/
def State.statClear (s : State) (b : Block) (i : Nat) : State :=
  let s := (if b == .lth then s.countIdle i else s).clearStats b i
  match b with
  | .str => s.wf (STR_TAGS i) STR_TAGS_PEAK (s.latheTags i)
  | .izpg => s.wf IZP_TAGS IZP_TAGS_PEAK s.reqs.length
  | .pci => s.wf PCI_TAGS PCI_TAGS_PEAK s.hostReqs.length
  | .std => (List.range 9).foldl (fun (acc : State) c => acc.wf (STD_CORE_SWEEP c) STD_CORE_SWEEP_MAX 0) s
  | .clk => (List.range 37).foldl (fun (acc : State) k => acc.wf (CLK_DOM k) CLK_DOM_UNLOCKS 0) s
  | _ => s

/-- A software write where the value is held inside limits. -/
def State.wrLimited (s : State) (off lo hi v : Nat) : State := s.wr off (BitVec.ofNat 32 (clampNat lo hi v))

/-- Registers of the device block. -/
def State.writeDev (s : State) (off r : Nat) (v : Word) : State :=
  let x := v.toNat
  let p := Fin.ofNat 16 ((r - 0x8040) / 8)
  if r = 4 then stateOf s (execFabricIdWrite v s)
  else if r = 8 then stateOf s (execDebugWrite v s)
  else if r = 0x10 then stateOf s (execDevResetCmd (v.setWidth 16) s)
  else if r = 0x8008 then s.wrLimited off 16 4000 (bits x 0 12)
  else if 0x8040 ≤ r && r < 0x80C0 && r % 8 = 0 then
    stateOf s (if bit x 0 then execPassOpen p (BitVec.ofNat 8 (bits x 8 8)) s else execPassClose p (BitVec.ofNat 8 (bits x 8 8)) s)
  else if r = 0x8228 then (if bit x 0 then stateOf s (execBuildGo (BitVec.ofNat 4 (bits x 4 4)) s) else s.wrSoft off v)
  else if r = 0x9000 then (if bit x 8 then stateOf s (execDevCalGo (v.setWidth 8) s) else s)
  else s.wrSoft off v

/-- Registers of the lathe block. -/
def State.writeLth (s : State) (i off r : Nat) (v : Word) : State :=
  let n := Fin.ofNat 8 i
  if r = 8 then (let s := s.wrSoft off (v &&& ~~~1); stateOf s (execSvcReqWrite n (bit v.toNat 0) s))
  else if r = 0x10 then stateOf s (execBankAgeMaxWrite n v s)
  else if 0x1000 ≤ r && r < 0x1800 then stateOf s (execLthMapWrite n false (Fin.ofNat 520 ((r - 0x1000) / 4)) v s)
  else if 0x2000 ≤ r && r < 0x2820 then stateOf s (execLthMapWrite n true (Fin.ofNat 520 ((r - 0x2000) / 4)) v s)
  else s.wrSoft off v

/-- Registers of the stream block. -/
def State.writeStr (s : State) (i off r : Nat) (v : Word) : State :=
  let n := Fin.ofNat 8 i
  let q := Fin.ofNat 8 ((r - 0x100) / 32)
  let d := Fin.ofNat 256 ((r - 0x4000) / 64)
  if r = 8 then stateOf s (execStrAbort n v s)
  else if 0x100 ≤ r && r < 0x200 && r % 32 = 8 then stateOf s (execSqEnable n q v s)
  else if 0x100 ≤ r && r < 0x200 && r % 32 = 0x10 then stateOf s (execSqDoorbell n q v s)
  else if 0x4000 ≤ r && r < 0x8000 && r % 64 = 0x38 then
    (match v.toNat % 4 with
    | 1 => stateOf s (execDescArm n d s)
    | 2 => stateOf s (execDescCancel n d s)
    | _ => s)
  else s.wrSoft off v

/-- Registers of the port and fabric blocks. -/
def State.writeIzp (s : State) (i off r : Nat) (v : Word) : State :=
  let p := Fin.ofNat 16 i
  if r = 4 then
    let s := s.wrSoft off (setBits v.toNat 0 1 (s.rf off IZP_CTRL_EN))
    let s := if bit v.toNat 0 = s.flag off IZP_CTRL_EN then s else stateOf s (execPortEnWrite p (bit v.toNat 0) s)
    if bit v.toNat 2 then stateOf s (execPortRetrain p s) else s
  else s.wrSoft off v

/-- A member slot belongs to an enabled multicast group. -/
def State.slotHeld (s : State) (i : Nat) : Bool :=
  s.mcOn.any fun g => overlap (i, 1) (s.rf (IZP_MG_SLOTS g) IZP_MG_SLOTS_SLOT_BASE, s.rf (IZP_MG_SLOTS g) IZP_MG_SLOTS_MEMBERS)

/-- Registers of the fabric block: an enabled group keeps its SLOTS, SRC, LEN, DST and WINDOW, and the DEV of its slots (R380). -/
def State.writeFab (s : State) (off r : Nat) (v : Word) : State :=
  let x := v.toNat
  let g := Fin.ofNat 4096 (r / 64)
  if r < 0x40000 && ([4, 8, 0xC, 0x10, 0x18, 0x1C, 0x20] : List Nat).contains (r % 64) && s.flag (IZP_MG_CTL g) IZP_MG_CTL_EN then s
  else if 0x40000 ≤ r && r < 0x50000 && s.slotHeld ((r - 0x40000) / 4) then s
  else if r < 0x40000 && r % 64 = 0 then stateOf s (execMcastEnable g v s)
  else if r < 0x40000 && r % 64 = 0x20 then s.wr off (BitVec.ofNat 32 (let w := bits x 0 14; if w = 0 then 0 else max 16 w))
  else if r < 0x40000 && r % 64 = 0x28 then stateOf s (execMcastUnprune g (v.setWidth 64) s)
  else if r < 0x40000 && r % 64 = 0x2C then stateOf s (execMcastUnprune g (v.setWidth 64 <<< 32) s)
  else if r = 0x5800C then
    let s := stateOf s (execBypassOpen (BitVec.ofNat 8 (bits x 8 8)) s)
    stateOf s (execBypassClose (BitVec.ofNat 8 (bits x 16 8)) s)
  else s.wrSoft off v

/-- Registers of the steady rest. -/
def State.writeStd (s : State) (off r : Nat) (v : Word) : State :=
  let c := Fin.ofNat 9 ((r - 0x1000) / 32)
  let k := (r - 0x10000) / 128
  if 0x1000 ≤ r && r < 0x1120 && r % 32 = 0 then stateOf s (execCoreCfgWrite c v s)
  else if 0x1000 ≤ r && r < 0x1120 && r % 32 = 4 then (if bit v.toNat 1 then stateOf s (execCoeffBankSwap c (bit v.toNat 2) s) else s)
  else if 0x10000 ≤ r && r < 0x34000 && r % 128 < 0x50 then
    stateOf s (execSetWrite (Fin.ofNat 9 (k / 128)) (k / 64 % 2 = 1) (Fin.ofNat 64 k) (Fin.ofNat 20 (r % 128 / 4)) v s)
  else if 0x40000 ≤ r && r % 16 = 0 then stateOf s (execLoopModeWrite (Fin.ofNat 9216 ((r - 0x40000) / 16)) v s)
  else s.wrSoft off v

/-- Registers of the trim outputs. -/
def State.writeTrm (s : State) (off r : Nat) (v : Word) : State :=
  let i := Fin.ofNat 9216 ((r - 0x10000) / 16)
  if 0x10000 ≤ r && r % 16 = 4 then
    let s := if bit v.toNat 24 then stateOf s (execScClear i s) else s
    if bit v.toNat 25 then s.modTrim i fun t => { t with qovf := false } else s
  else if 0x10000 ≤ r && r % 16 = 8 then stateOf s (execTrmChPush i (v.setWidth 16) s)
  else s.wrSoft off v

/-- Registers of the monitors. -/
def State.writeMon (s : State) (off r : Nat) (v : Word) : State :=
  let x := v.toNat
  let c := Fin.ofNat 16 ((r - 0x1000) / 32)
  if r = 8 then stateOf s (execRoundCfgWrite v s)
  else if r = 0x10 then (if bit x 21 then stateOf s (execTrippedClear s) else s)
  else if r = 0x1C then stateOf s (execUrgentRequest (Fin.ofNat 16 (bits x 0 4)) (Fin.ofNat 32 (bits x 4 5)) s)
  else if 0x1000 ≤ r && r < 0x1200 then
    (match r % 32 with
    | 0 => stateOf s (execMonCfgWrite c false v s)
    | 4 => stateOf s (execMonCfgWrite c true v s)
    | 0xC => if bit x 0 then stateOf s (execMonCalGo c s) else s
    | _ => s.wrSoft off v)
  else s.wrSoft off v

/-- Registers of power and the clocks. -/
def State.writePwr (s : State) (off r : Nat) (v : Word) : State :=
  let d := Fin.ofNat 64 ((r - 0x100) / 8)
  if r = 8 then stateOf s (execPwrStateGo v s)
  else if r = 0x1C then stateOf s (execPwrLimitWrite v s)
  else if 0x100 ≤ r && r < 0x300 && r % 8 = 4 then
    (match v.toNat % 4 with
    | 1 => stateOf s (execPwrDomReset d s)
    | 2 => stateOf s (execPwrDomOff d s)
    | 3 => stateOf s (execPwrDomOn d s)
    | _ => s)
  else s.wrSoft off v

/-- Registers of the jig: whether the key and the signature of a staged image verify is a property of its bytes (`Config.imageOk`). -/
def State.writeJig (s : State) (off r : Nat) (v : Word) : State :=
  let x := v.toNat
  let ok (src len : Nat) : Bool × Bool := Config.imageOk (s.bytes src len)
  if r = 4 then
    (match x % 8 with
    | 1 => let o := ok (s.rd64 JIG_SRC) (s.rd JIG_LEN).toNat; stateOf s (execJigVerify o.1 o.2 s)
    | 2 => stateOf s (execJigApply (bit x 8) s)
    | 3 => stateOf s (execJigRollback s)
    | 4 => stateOf s (execJigDiscard s)
    | _ => s)
  else if r = 0x100 then
    let kind := BitVec.ofNat 3 (bits x 4 3)
    let inst := BitVec.ofNat 8 (bits x 8 8)
    (match x % 8 with
    | 1 => let o := ok (s.rd64 JIG_FW_SRC) (s.rd JIG_FW_LEN).toNat; stateOf s (execFwVerify kind o.1 o.2 s)
    | 2 => stateOf s (execFwActivate kind inst (bit x 16) s)
    | 3 => stateOf s (execFwCommit kind s)
    | 4 => stateOf s (execFwActivateOther kind inst (bit x 16) s)
    | _ => s)
  else s.wrSoft off v

/-- One word of a register of instance `i` of block `b`, at offset `r` of the block. -/
def State.writeIn (s : State) (b : Block) (i off r : Nat) (v : Word) : State :=
  let x := v.toNat
  let n := Fin.ofNat 8 i
  match b with
  | .dev => s.writeDev off r v
  | .lth => s.writeLth i off r v
  | .str => s.writeStr i off r v
  | .izp => s.writeIzp i off r v
  | .izpg => s.writeFab off r v
  | .std => s.writeStd off r v
  | .trm => s.writeTrm off r v
  | .mon => s.writeMon off r v
  | .pwr => s.writePwr off r v
  | .jig => s.writeJig off r v
  | .acc =>
    if r = 4 then
      let s := s.wrSoft off (setBits x 0 1 (s.rf off ACC_CTRL_MODE))
      stateOf s (execAccModeWrite n (bit x 0) s)
    else s.wrSoft off v
  | .fin => if r = 8 then stateOf s (execSeedWrite n v s) else s.wrSoft off v
  | .cal =>
    if r = 4 then
      let s := if bit x 0 then stateOf s (execCalGo n s) else s
      if bit x 1 then stateOf s (execCalCancel n s) else s
    else s.wrSoft off v
  | .sem =>
    let k := Fin.ofNat 8192 ((r - 0x10000) / 16)
    if 0x10000 ≤ r && r % 16 = 0 then stateOf s (execSemValWrite k v s)
    else if 0x10000 ≤ r && r % 16 = 0xC then stateOf s (execSemAddWrite k v s)
    else s.wrSoft off v
  | .wtb => stateOf s (execWtbWrite (Fin.ofNat 4096 (r / 64)) (Fin.ofNat 16 (r % 64 / 4)) v s)
  | .hbm =>
    if r = 8 then s.wrLimited off 1 168 (bits x 0 8)
    else if r = 0x14 && bit x 8 then stateOf s (execRetireGo n (Fin.ofNat 32 (bits x 0 5)) s)
    else s.wrSoft off v
  | .ftm =>
    if r = 0x20 then { s with heldLow := sput 0 v s.heldLow off }
    else if r = 0x24 then stateOf s (execFtmSet (v ++ sget 0 s.heldLow (off - 4)) s)
    else s.wrSoft off v
  | .flt =>
    if r = 8 then (s.wf off FLT_CFG_KP (max 32 (bits x 0 8))).wf off FLT_CFG_KM (max 32 (bits x 8 8))
    else if r = 0x200 then
      let t := s.wrSoft off v
      if t.rd off = s.rd off then t else (t.wb FLT_HIST_STATUS FLT_HIST_STATUS_VALID false).wb FLT_HIST_STATUS FLT_HIST_STATUS_NO_UNIT false
    else if r = 0x204 then
      (match x % 4 with
      | 1 => stateOf s (execHistRead s)
      | 2 => stateOf s (execHistClear s)
      | _ => s)
    else s.wrSoft off v
  | .evt =>
    let e := Fin.ofNat 16 ((r - 0x100) / 32)
    if 0x100 ≤ r && r % 32 = 8 then stateOf s (execEvtQueueEnable e v s)
    else if 0x100 ≤ r && r % 32 = 0xC then stateOf s (execEvtHeadWrite e v s)
    else s.wrSoft off v
  | .sec =>
    if r = 0x600 && bit x 0 then (s.wb SEC_MBX_STATUS SEC_MBX_STATUS_BUSY true).wb SEC_MBX_STATUS SEC_MBX_STATUS_DONE false
    else s.wrSoft off v
  | .vnt => if r = 8 then (if bit x 0 then s.ventArrive s.mbxReq else s) else s.wrSoft off v
  | .oll | .inf | .rdc | .clk | .pci => s.wrSoft off v

/-- One word at offset `off` of the register range; where no register is, a write is ignored (R37). -/
def State.writeWord (s : State) (off : Nat) (v : Word) : State :=
  match locate off with
  | none => s
  | some (b, i, r) =>
    let s := match statClrBit b r with
      | some k => if bit v.toNat k then s.statClear b i else s
      | none => s
    if (findRow off).isSome then s.writeIn b i off r v else s

/-- The block at an offset has its power domain OFF or in RESET (R577). -/
def State.offAt (s : State) (off : Nat) : Bool :=
  match locate off with
  | some (b, i, _) => s.blockOff b i
  | none => false

/-- A register access of this size and alignment is one the device takes (R15). -/
def regAccessOk (off size : Nat) : Bool := (size = 4 || size = 8) && off % size = 0

/-- A register write of `size` bytes (R15, R577, R603): its low word first. -/
def State.regWrite (s : State) (off size : Nat) (v : DWord) : State :=
  if !regAccessOk off size then s
  else if s.offAt off then s.offAccess
  else
    let s := s.writeWord off (v.setWidth 32)
    if size = 8 then s.writeWord (off + 4) (BitVec.ofNat 32 (v.toNat / 2 ^ 32)) else s

/-- Reading a word: its value, and what the read clears (Table 0.6) or latches (R603). -/
def State.readWord (s : State) (off : Nat) : Nat × State :=
  let x := s.viewNat off
  if off = MON_TEMP_PEAK then (x, { s with temp := { s.temp with peak := none } })
  else if off = FTM_NOW_LO then (x, s.wr FTM_NOW_HI (BitVec.ofNat 32 (s.ft.toNat / 2 ^ 32)))
  else match findRow off with
    | some (row, _) => if row.rc then (x, s.wr off 0) else (x, s)
    | none => (0, s)

/-- A register read of `size` bytes: all ones where R15 or R577 gives no register. -/
def State.regRead (s : State) (off size : Nat) : List Byte × State :=
  if !regAccessOk off size then (List.replicate size 0xFF, s)
  else if s.offAt off then (List.replicate size 0xFF, s.offAccess)
  else
    let (lo, s) := s.readWord off
    if size = 8 then
      let (hi, s) := s.readWord (off + 4)
      (leBytes lo 4 ++ leBytes hi 4, s)
    else (leBytes lo 4, s)

end Sys2Proof.Machine
end

