-- ==== Sys2Proof/Machine/Registers.lean ====
section
/-! DEFINITION. Register accesses, STAT_CLR, and accesses of unmapped addresses and of the accumulator window (00 R12–R15; 01 R31–R33). -/
namespace Sys2Proof.Machine

/-- REGISTER_WRITE (R12–R15, R37, R577, R603). -/
def execRegisterWrite (off : BitVec 24) (size : Nat) (value : DWord) (s : State) : Out := .next (s.wakeLink.regWrite off.toNat size value)

/-- REGISTER_READ (R12–R15, R37, R577, R603). -/
def execRegisterRead (off : BitVec 24) (size : Nat) (s : State) : Out :=
  let (data, s) := s.wakeLink.regRead off.toNat size
  .next { s with resp := { data := data } }

/-- The block and instance that hold the STAT_CLR. -/
def statBlock : StatBlock → Block × Nat
  | .lth n => (.lth, n) | .acc n => (.acc, n) | .fin n => (.fin, n) | .oll n => (.oll, n) | .inf n => (.inf, n) | .cal n => (.cal, n)
  | .str n => (.str, n) | .sem => (.sem, 0) | .devLt => (.dev, 0) | .hbm m => (.hbm, m) | .rdc m => (.rdc, m) | .izp p => (.izp, p)
  | .izpGlobal => (.izpg, 0) | .ftm => (.ftm, 0) | .flt => (.flt, 0) | .std => (.std, 0) | .trm => (.trm, 0) | .mon => (.mon, 0)
  | .pwr => (.pwr, 0) | .clk => (.clk, 0) | .sec => (.sec, 0) | .pci => (.pci, 0) | .evt => (.evt, 0) | .vnt => (.vnt, 0)

/-- STAT_CLR (R84, R603). -/
def execStatClr (blk : StatBlock) (s : State) : Out :=
  let (b, i) := statBlock blk
  s.atBlock b i fun s => .next (s.statClear b i)

/-- A read that meets no mapped memory: marked data, and ADDR_UNMAPPED (R33). -/
def State.unmappedRead (s : State) (req : Requester) (ctx : Option (BitVec 8)) (ga len : Nat) : State :=
  let s := s.unmappedEvent req ctx ga false
  let s := if req = .host then s.bump PCI_STAT_POISON_TX 1 else s
  { s with resp := { data := List.replicate len 0, poison := true } }

/-- The local address is one at which nothing answers an access: not memory, not a register, nor the accumulator window that a write meets. -/
def State.isUnmapped (s : State) (a : Nat) (wr : Bool) : Bool :=
  match region a with
  | .regs _ => false
  | .accWin n _ => !wr && !s.accReadable n
  | _ => !s.mapped a

/-- UNMAPPED_ACCESS (R33, Table 1.9). -/
def execUnmappedAccess (req : Requester) (ctx : Option (BitVec 8)) (a : GAddr) (wr : Bool) (s : State) : Out :=
  .next (if !s.isLocal a.toNat || !s.isUnmapped (a.toNat % 2 ^ 40) wr then s
  else if wr then s.unmappedEvent req ctx a.toNat true
  else s.unmappedRead req ctx a.toNat 64)

/-- ACC_WINDOW_READ (R31, R32): the stored word in debug mode, otherwise as unmapped. -/
def execAccWindowRead (a : Addr) (s : State) : Out :=
  let at_ := a.toNat / 4 * 4
  .next (match region at_ with
  | .accWin n _ =>
    if s.accReadable n then { s with resp := { data := (s.windowRead at_ 4).1 } } else s.unmappedRead .host none (s.glob at_) 4
  | _ => s)

end Sys2Proof.Machine
end

