-- ==== Sys2Proof/Machine/Training.lean ====
section
/-! DEFINITION. The end of a stack's training (08, R310, R311, R515). -/
namespace Sys2Proof.Machine

/-- Channels of stack `m` that the fault history records as retired (R310). -/
def State.recordedRetired (s : State) (m : Nat) : List Nat :=
  (List.range 32).filter fun c => (s.histOf (histKey 9 (32 * m + c) 0)).replaced

/-- HBM_TRAINING_END (R310, R311): recorded channels are placed as retired, failed ones with them, and the stack comes up; with more than
4 such channels, or when it fails as a whole, it is left out. -/
def execHbmTrainingEnd (m : Fin 8) (failed : Word) (whole : Bool) (s : State) : Out :=
  let old := s.recordedRetired m
  let bad := (List.range 32).filter fun c => bit failed.toNat c && !old.contains c
  .next (if s.dom (48 + m) ≠ 1 || s.flag (HBM_STATUS m) HBM_STATUS_UP then s
  else if whole || old.length + bad.length > 4 then
    (s.stackOff m 0).post 0x808 cFATAL (unitOf 9 (32 * m)) 0xFFFF [(0x10, m), (0x14, if whole then 0xFFFFFFFF else failed.toNat)]
  else
    let s := (List.range 32).foldl (fun (acc : State) c => acc.wb (HBM_CH_STATE m c) HBM_CH_STATE_PERMANENT (acc.isPermanent 9 (32 * m + c) 0)) s
    let s := old.foldl (fun (acc : State) c => acc.placeRetired m c 2) s
    let s := bad.foldl (fun (acc : State) c => acc.placeRetired m c 3) s
    let hole := 768 - 24 * (old.length + bad.length)
    let s := (s.wf (HBM_HOLE m) HBM_HOLE_START hole).wb (HBM_STATUS m) HBM_STATUS_UP true
    bad.foldl (fun (acc : State) c => acc.post 0x805 cWARN (unitOf 9 (32 * m + c)) 0xFFFF [(0x10, hole), (0x18, 1)]) s)

end Sys2Proof.Machine
end

