-- ==== Sys2Proof/Machine/Vent.lean ====
section
/-! DEFINITION. The commands of the Vent (16, R592–R594, Table 16.5). -/
namespace Sys2Proof.Machine

/-- The interface is the management port. -/
def onMgmt : VentIface → Bool
  | .registers => false
  | .management => true

/-- VENT_STATUS. -/
def execVentStatus (i : VentIface) (seq : BitVec 16) (s : State) : Out := .next (s.ventArrive { mgmt := onMgmt i, op := 0x01, seq := seq })

/-- VENT_HISTORY. -/
def execVentHistory (i : VentIface) (seq : BitVec 16) (sel : Word) (s : State) : Out :=
  .next (s.ventArrive { mgmt := onMgmt i, op := 0x02, seq := seq, arg0 := sel.toNat })

/-- VENT_DOMAIN_RESET. -/
def execVentDomainReset (i : VentIface) (seq : BitVec 16) (d : Word) (s : State) : Out :=
  .next (s.ventArrive { mgmt := onMgmt i, op := 0x03, seq := seq, arg0 := d.toNat })

/-- VENT_DEVICE_RESET. -/
def execVentDeviceReset (i : VentIface) (seq : BitVec 16) (s : State) : Out := .next (s.ventArrive { mgmt := onMgmt i, op := 0x04, seq := seq })

/-- VENT_ABORT_ALL. -/
def execVentAbortAll (i : VentIface) (seq : BitVec 16) (s : State) : Out := .next (s.ventArrive { mgmt := onMgmt i, op := 0x05, seq := seq })

/-- ABORT_ALL_TIMEOUT (R594): 10 ms after the abort latched, the lathe group of each engine that still holds aborted programs is reset; they
retire without a completion record. -/
def execAbortAllTimeout (s : State) : Out :=
  .next (match s.vent.run with
  | some r =>
    if r.op ≠ 5 || s.clock < s.vent.abortAt + 10 * ms then s
    else
      let late := (List.range 8).filter s.holdsAborting
      (late.foldl (fun (acc : State) b => (acc.groupReset b false).resetEvent (4 * b + 3) 2) s).ventSettle
  | none => s)

/-- VENT_POWER_DOWN. -/
def execVentPowerDown (i : VentIface) (seq : BitVec 16) (target : Word) (s : State) : Out :=
  .next (s.ventArrive { mgmt := onMgmt i, op := 0x06, seq := seq, arg0 := target.toNat })

/-- VENT_BYPASS_CLOSE. -/
def execVentBypassClose (i : VentIface) (seq : BitVec 16) (mask : Word) (s : State) : Out :=
  .next (s.ventArrive { mgmt := onMgmt i, op := 0x07, seq := seq, arg0 := mask.toNat })

/-- VENT_THERMAL_TRIP. -/
def execVentThermalTrip (i : VentIface) (seq : BitVec 16) (s : State) : Out := .next (s.ventArrive { mgmt := onMgmt i, op := 0x08, seq := seq })

/-- VENT_JIG_ROLLBACK. -/
def execVentJigRollback (i : VentIface) (seq : BitVec 16) (s : State) : Out := .next (s.ventArrive { mgmt := onMgmt i, op := 0x09, seq := seq })

/-- VENT_QUOTE. -/
def execVentQuote (i : VentIface) (seq : BitVec 16) (arg : Word) (nonce : List Byte) (s : State) : Out :=
  .next (s.ventArrive { mgmt := onMgmt i, op := 0x0A, seq := seq, arg0 := arg.toNat, data := nonce })

/-- VENT_TRIM_CLEAR. -/
def execVentTrimClear (i : VentIface) (seq : BitVec 16) (arg : Word) (s : State) : Out :=
  .next (s.ventArrive { mgmt := onMgmt i, op := 0x0B, seq := seq, arg0 := arg.toNat })

/-- VENT_WAKE. -/
def execVentWake (i : VentIface) (seq : BitVec 16) (s : State) : Out := .next (s.ventArrive { mgmt := onMgmt i, op := 0x10, seq := seq })

/-- VENT_POISON_MARK. -/
def execVentPoisonMark (i : VentIface) (seq : BitVec 16) (lines : Word) (a : GAddr) (s : State) : Out :=
  .next (s.ventArrive { mgmt := onMgmt i, op := 0x11, seq := seq, arg0 := lines.toNat, arg1 := a.toNat })

end Sys2Proof.Machine
end

