-- ==== Sys2Proof/Machine/Dispatch.lean ====
section
/-! DEFINITION. One arm per command: a direct call of its meaning, or rejected by name. -/
namespace Sys2Proof.Machine

def exec (i : Instr) (s : State) : Host.Outcome State Fault Refusal :=
  match i with
  | .registerWrite off size value => Sys2Proof.Machine.execRegisterWrite off size value s
  | .statClr blk => Sys2Proof.Machine.execStatClr blk s
  | .unmappedAccess req ctx a wr => Sys2Proof.Machine.execUnmappedAccess req ctx a wr s
  | .accWindowRead a => Sys2Proof.Machine.execAccWindowRead a s
  | .svcReqWrite n v => Sys2Proof.Machine.execSvcReqWrite n v s
  | .lthMapWrite n col ix v => Sys2Proof.Machine.execLthMapWrite n col ix v s
  | .bankAgeMaxWrite n v => Sys2Proof.Machine.execBankAgeMaxWrite n v s
  | .lasersLocked n => Sys2Proof.Machine.execLasersLocked n s
  | .quiesceEnd n => Sys2Proof.Machine.execQuiesceEnd n s
  | .programAccept b => Sys2Proof.Machine.execProgramAccept b s
  | .sqEnable n ix v => Sys2Proof.Machine.execSqEnable n ix v s
  | .sqDoorbell n ix t => Sys2Proof.Machine.execSqDoorbell n ix t s
  | .programStart b => Sys2Proof.Machine.execProgramStart b s
  | .fetch b p k => Sys2Proof.Machine.execFetch b p k s
  | .load b p k glitch => Sys2Proof.Machine.execLoad b p k glitch s
  | .bankWriteEnd n => Sys2Proof.Machine.execBankWriteEnd n s
  | .run b p k parity => Sys2Proof.Machine.execRun b p k parity s
  | .refreshStart n => Sys2Proof.Machine.execRefreshStart n s
  | .strokeDataEnd b => Sys2Proof.Machine.execStrokeDataEnd b s
  | .accumulatorAdd n dev spareDev => Sys2Proof.Machine.execAccumulatorAdd n dev spareDev s
  | .strokeVerdict n => Sys2Proof.Machine.execStrokeVerdict n s
  | .replayStart n => Sys2Proof.Machine.execReplayStart n s
  | .arbitrationEnd n => Sys2Proof.Machine.execArbitrationEnd n s
  | .correctionEnd n => Sys2Proof.Machine.execCorrectionEnd n s
  | .spanMoveStart n g => Sys2Proof.Machine.execSpanMoveStart n g s
  | .spanMoveEnd n g => Sys2Proof.Machine.execSpanMoveEnd n g s
  | .drain b p k parity => Sys2Proof.Machine.execDrain b p k parity s
  | .drainStart n g parity => Sys2Proof.Machine.execDrainStart n g parity s
  | .drainEnd n => Sys2Proof.Machine.execDrainEnd n s
  | .scaleRecordUpdate => Sys2Proof.Machine.execScaleRecordUpdate s
  | .scaleRecordEvaluate => Sys2Proof.Machine.execScaleRecordEvaluate s
  | .invalidGroupFree n g => Sys2Proof.Machine.execInvalidGroupFree n g s
  | .accModeWrite n v => Sys2Proof.Machine.execAccModeWrite n v s
  | .seedWrite n v => Sys2Proof.Machine.execSeedWrite n v s
  | .reduce b p k => Sys2Proof.Machine.execReduce b p k s
  | .signal b p k => Sys2Proof.Machine.execSignal b p k s
  | .wait b p k => Sys2Proof.Machine.execWait b p k s
  | .waitTimeout ix b p k => Sys2Proof.Machine.execWaitTimeout ix b p k s
  | .semValWrite ix v => Sys2Proof.Machine.execSemValWrite ix v s
  | .semAddWrite ix v => Sys2Proof.Machine.execSemAddWrite ix v s
  | .swap b p k => Sys2Proof.Machine.execSwap b p k s
  | .fence b p k => Sys2Proof.Machine.execFence b p k s
  | .atStage b p k => Sys2Proof.Machine.execAtStage b p k s
  | .descArm n d => Sys2Proof.Machine.execDescArm n d s
  | .descCancel n d => Sys2Proof.Machine.execDescCancel n d s
  | .transferDone n d parity => Sys2Proof.Machine.execTransferDone n d parity s
  | .programCommit b p => Sys2Proof.Machine.execProgramCommit b p s
  | .strAbort n v => Sys2Proof.Machine.execStrAbort n v s
  | .programAbortRetire b p => Sys2Proof.Machine.execProgramAbortRetire b p s
  | .programTimeoutExpiry b p => Sys2Proof.Machine.execProgramTimeoutExpiry b p s
  | .wtbWrite ix w v => Sys2Proof.Machine.execWtbWrite ix w v s
  | .wtbClear ix => Sys2Proof.Machine.execWtbClear ix s
  | .verifyEnd => Sys2Proof.Machine.execVerifyEnd s
  | .passOpen p ctx => Sys2Proof.Machine.execPassOpen p ctx s
  | .passClose p ctx => Sys2Proof.Machine.execPassClose p ctx s
  | .swapWriteStart glitch => Sys2Proof.Machine.execSwapWriteStart glitch s
  | .stagedHeaderReread => Sys2Proof.Machine.execStagedHeaderReread s
  | .swapWriteEnd => Sys2Proof.Machine.execSwapWriteEnd s
  | .shardTimeout n => Sys2Proof.Machine.execShardTimeout n s
  | .buildGo gain => Sys2Proof.Machine.execBuildGo gain s
  | .buildEnd parity => Sys2Proof.Machine.execBuildEnd parity s
  | .hbmLineRead a d r src req ctx => Sys2Proof.Machine.execHbmLineRead a d r src req ctx s
  | .correctionRate c => Sys2Proof.Machine.execCorrectionRate c s
  | .hbmLineWrite a data poison d r req => Sys2Proof.Machine.execHbmLineWrite a data poison d r req s
  | .infeedLineWrite a data poison req => Sys2Proof.Machine.execInfeedLineWrite a data poison req s
  | .scrubRead c d r => Sys2Proof.Machine.execScrubRead c d r s
  | .stackTempRead m t => Sys2Proof.Machine.execStackTempRead m t s
  | .retireGo m c => Sys2Proof.Machine.execRetireGo m c s
  | .retireEnd m errs => Sys2Proof.Machine.execRetireEnd m errs s
  | .hbmTrainingEnd m failed whole => Sys2Proof.Machine.execHbmTrainingEnd m failed whole s
  | .contextPoisonAbort unit reducer use ctx a => Sys2Proof.Machine.execContextPoisonAbort unit reducer use ctx a s
  | .add c parity => Sys2Proof.Machine.execAdd c parity s
  | .max c parity => Sys2Proof.Machine.execMax c parity s
  | .min c parity => Sys2Proof.Machine.execMin c parity s
  | .xor c parity => Sys2Proof.Machine.execXor c parity s
  | .maxIdx c parity => Sys2Proof.Machine.execMaxIdx c parity s
  | .minIdx c parity => Sys2Proof.Machine.execMinIdx c parity s
  | .reducerWrite c parity => Sys2Proof.Machine.execReducerWrite c parity s
  | .poisonMark c parity => Sys2Proof.Machine.execPoisonMark c parity s
  | .linkTrained p dev pp lower upper => Sys2Proof.Machine.execLinkTrained p dev pp lower upper s
  | .lossOfLight p => Sys2Proof.Machine.execLossOfLight p s
  | .portRetrain p => Sys2Proof.Machine.execPortRetrain p s
  | .portEnWrite p v => Sys2Proof.Machine.execPortEnWrite p v s
  | .corruptPacket p fec => Sys2Proof.Machine.execCorruptPacket p fec s
  | .retransmitTimeout p nak => Sys2Proof.Machine.execRetransmitTimeout p nak s
  | .retryLimit p => Sys2Proof.Machine.execRetryLimit p s
  | .link p pk => Sys2Proof.Machine.execLink p pk s
  | .packetForward p pk => Sys2Proof.Machine.execPacketForward p pk s
  | .fabricRead p pk parity => Sys2Proof.Machine.execFabricRead p pk parity s
  | .fabricWrite p pk parity => Sys2Proof.Machine.execFabricWrite p pk parity s
  | .fabricReduce p pk => Sys2Proof.Machine.execFabricReduce p pk s
  | .fabricSignal p pk => Sys2Proof.Machine.execFabricSignal p pk s
  | .cpl p pk => Sys2Proof.Machine.execCpl p pk s
  | .cplData p pk => Sys2Proof.Machine.execCplData p pk s
  | .requestTimeout tag => Sys2Proof.Machine.execRequestTimeout tag s
  | .bypassOpen mask => Sys2Proof.Machine.execBypassOpen mask s
  | .bypassClose mask => Sys2Proof.Machine.execBypassClose mask s
  | .bypassSettled k => Sys2Proof.Machine.execBypassSettled k s
  | .mcastEnable g v => Sys2Proof.Machine.execMcastEnable g v s
  | .mcastSend g => Sys2Proof.Machine.execMcastSend g s
  | .mcastHoldExpiry g => Sys2Proof.Machine.execMcastHoldExpiry g s
  | .mcastUnprune g mask => Sys2Proof.Machine.execMcastUnprune g mask s
  | .mcastWrite p pk => Sys2Proof.Machine.execMcastWrite p pk s
  | .credit p pk => Sys2Proof.Machine.execCredit p pk s
  | .gap p pk => Sys2Proof.Machine.execGap p pk s
  | .timeExchange => Sys2Proof.Machine.execTimeExchange s
  | .time p pk m => Sys2Proof.Machine.execTime p pk m s
  | .parentTimeout => Sys2Proof.Machine.execParentTimeout s
  | .uncertLimit => Sys2Proof.Machine.execUncertLimit s
  | .referenceLost ix => Sys2Proof.Machine.execReferenceLost ix s
  | .ppsEdge => Sys2Proof.Machine.execPpsEdge s
  | .ftmSet v => Sys2Proof.Machine.execFtmSet v s
  | .ftmNowRead => Sys2Proof.Machine.execFtmNowRead s
  | .railBelowWarning r => Sys2Proof.Machine.execRailBelowWarning r s
  | .railRecovered r => Sys2Proof.Machine.execRailRecovered r s
  | .suspectReplayEnd n => Sys2Proof.Machine.execSuspectReplayEnd n s
  | .railWarningTimeout r => Sys2Proof.Machine.execRailWarningTimeout r s
  | .railResetLevel r => Sys2Proof.Machine.execRailResetLevel r s
  | .permanentClassing u => Sys2Proof.Machine.execPermanentClassing u s
  | .historyFlashWriteEnd => Sys2Proof.Machine.execHistoryFlashWriteEnd s
  | .histRead => Sys2Proof.Machine.execHistRead s
  | .histClear => Sys2Proof.Machine.execHistClear s
  | .loopSample c accesses => Sys2Proof.Machine.execLoopSample c accesses s
  | .breachLimit ix => Sys2Proof.Machine.execBreachLimit ix s
  | .coeffBankSwap c init => Sys2Proof.Machine.execCoeffBankSwap c init s
  | .setWrite c b k w v => Sys2Proof.Machine.execSetWrite c b k w v s
  | .loopModeWrite ix v => Sys2Proof.Machine.execLoopModeWrite ix v s
  | .coreCfgWrite c v => Sys2Proof.Machine.execCoreCfgWrite c v s
  | .trimTick => Sys2Proof.Machine.execTrimTick s
  | .trmChPush ix code => Sys2Proof.Machine.execTrmChPush ix code s
  | .deglitchEnd ix => Sys2Proof.Machine.execDeglitchEnd ix s
  | .shortLimitExpiry ix => Sys2Proof.Machine.execShortLimitExpiry ix s
  | .scClear ix => Sys2Proof.Machine.execScClear ix s
  | .trimClrAssert vent => Sys2Proof.Machine.execTrimClrAssert vent s
  | .trimClrRelease vent => Sys2Proof.Machine.execTrimClrRelease vent s
  | .conversionEnd c raw unstable => Sys2Proof.Machine.execConversionEnd c raw unstable s
  | .monCfgWrite c scan v => Sys2Proof.Machine.execMonCfgWrite c scan v s
  | .urgentRequest c ix => Sys2Proof.Machine.execUrgentRequest c ix s
  | .monCalGo c => Sys2Proof.Machine.execMonCalGo c s
  | .monCalEnd c sum30 sum29 => Sys2Proof.Machine.execMonCalEnd c sum30 sum29 s
  | .housekeepingRound => Sys2Proof.Machine.execHousekeepingRound s
  | .roundCfgWrite v => Sys2Proof.Machine.execRoundCfgWrite v s
  | .trippedClear => Sys2Proof.Machine.execTrippedClear s
  | .calGo n => Sys2Proof.Machine.execCalGo n s
  | .devCalGo mask => Sys2Proof.Machine.execDevCalGo mask s
  | .calCancel n => Sys2Proof.Machine.execCalCancel n s
  | .calAtReached n => Sys2Proof.Machine.execCalAtReached n s
  | .calSlotGrant n => Sys2Proof.Machine.execCalSlotGrant n s
  | .calPhaseEnd n m => Sys2Proof.Machine.execCalPhaseEnd n m s
  | .calibrationEnd n => Sys2Proof.Machine.execCalibrationEnd n s
  | .localiseEnd n m => Sys2Proof.Machine.execLocaliseEnd n m s
  | .standbyLocked n => Sys2Proof.Machine.execStandbyLocked n s
  | .powerInputGood => Sys2Proof.Machine.execPowerInputGood s
  | .powerLoss => Sys2Proof.Machine.execPowerLoss s
  | .powerLevelUpdate power volt => Sys2Proof.Machine.execPowerLevelUpdate power volt s
  | .pwrLimitWrite v => Sys2Proof.Machine.execPwrLimitWrite v s
  | .pwrDomOn d => Sys2Proof.Machine.execPwrDomOn d s
  | .pwrDomOff d => Sys2Proof.Machine.execPwrDomOff d s
  | .pwrDomReset d => Sys2Proof.Machine.execPwrDomReset d s
  | .domainReon d => Sys2Proof.Machine.execDomainReon d s
  | .pwrStateGo v => Sys2Proof.Machine.execPwrStateGo v s
  | .pwrRequestAct => Sys2Proof.Machine.execPwrRequestAct s
  | .quiesceTimeout => Sys2Proof.Machine.execQuiesceTimeout s
  | .pwrTransitionEnd => Sys2Proof.Machine.execPwrTransitionEnd s
  | .pllUnlock k => Sys2Proof.Machine.execPllUnlock k s
  | .refOscReturn => Sys2Proof.Machine.execRefOscReturn s
  | .perstN => Sys2Proof.Machine.execPerstN s
  | .devResetCmd v => Sys2Proof.Machine.execDevResetCmd v s
  | .deviceResetRelease => Sys2Proof.Machine.execDeviceResetRelease s
  | .hotReset => Sys2Proof.Machine.execHotReset s
  | .functionLevelReset => Sys2Proof.Machine.execFunctionLevelReset s
  | .ventWatchdog => Sys2Proof.Machine.execVentWatchdog s
  | .ventBooted => Sys2Proof.Machine.execVentBooted s
  | .startStepEnd k ok => Sys2Proof.Machine.execStartStepEnd k ok s
  | .readyTimeout => Sys2Proof.Machine.execReadyTimeout s
  | .selftestEnd fail => Sys2Proof.Machine.execSelftestEnd fail s
  | .getStatus ix => Sys2Proof.Machine.execGetStatus ix s
  | .getCerts ix => Sys2Proof.Machine.execGetCerts ix s
  | .quote ix nonce mask => Sys2Proof.Machine.execQuote ix nonce mask s
  | .extend ix r v => Sys2Proof.Machine.execExtend ix r v s
  | .challenge ix => Sys2Proof.Machine.execChallenge ix s
  | .login ix slot sigOk => Sys2Proof.Machine.execLogin ix slot sigOk s
  | .loginLockout ix => Sys2Proof.Machine.execLoginLockout ix s
  | .lockoutEnd ix => Sys2Proof.Machine.execLockoutEnd ix s
  | .logout ix => Sys2Proof.Machine.execLogout ix s
  | .sessionTimeout ix => Sys2Proof.Machine.execSessionTimeout ix s
  | .enroll ix slot digest usage tokenOk => Sys2Proof.Machine.execEnroll ix slot digest usage tokenOk s
  | .revoke ix slot => Sys2Proof.Machine.execRevoke ix slot s
  | .zeroise ix => Sys2Proof.Machine.execZeroise ix s
  | .zeroiseEraseEnd => Sys2Proof.Machine.execZeroiseEraseEnd s
  | .grantDebug ix mask => Sys2Proof.Machine.execGrantDebug ix mask s
  | .selftest ix => Sys2Proof.Machine.execSelftest ix s
  | .debugWrite v => Sys2Proof.Machine.execDebugWrite v s
  | .fabricIdWrite v => Sys2Proof.Machine.execFabricIdWrite v s
  | .jigVerify keyOk sigOk => Sys2Proof.Machine.execJigVerify keyOk sigOk s
  | .jigApply atEn => Sys2Proof.Machine.execJigApply atEn s
  | .jigRollback => Sys2Proof.Machine.execJigRollback s
  | .jigDiscard => Sys2Proof.Machine.execJigDiscard s
  | .applyAct => Sys2Proof.Machine.execApplyAct s
  | .applyQuiesced => Sys2Proof.Machine.execApplyQuiesced s
  | .healthCheckEnd => Sys2Proof.Machine.execHealthCheckEnd s
  | .rollbackApply => Sys2Proof.Machine.execRollbackApply s
  | .fwVerify kind keyOk sigOk => Sys2Proof.Machine.execFwVerify kind keyOk sigOk s
  | .fwActivate kind inst bypass => Sys2Proof.Machine.execFwActivate kind inst bypass s
  | .fwActivateOther kind inst bypass => Sys2Proof.Machine.execFwActivateOther kind inst bypass s
  | .fwActivationEnd => Sys2Proof.Machine.execFwActivationEnd s
  | .fwCommit kind => Sys2Proof.Machine.execFwCommit kind s
  | .windowAccess off rd len data poison errs parity => Sys2Proof.Machine.execWindowAccess off rd len data poison errs parity s
  | .hostRequestComplete fail data => Sys2Proof.Machine.execHostRequestComplete fail data s
  | .hostReadTimeout => Sys2Proof.Machine.execHostReadTimeout s
  | .pcieLinkDown why => Sys2Proof.Machine.execPcieLinkDown why s
  | .pcieLinkUp width gen flit => Sys2Proof.Machine.execPcieLinkUp width gen flit s
  | .linkIdleL1 => Sys2Proof.Machine.execLinkIdleL1 s
  | .evtQueueEnable e v => Sys2Proof.Machine.execEvtQueueEnable e v s
  | .eventRecordWriteEnd e fail => Sys2Proof.Machine.execEventRecordWriteEnd e fail s
  | .coalTimeout e => Sys2Proof.Machine.execCoalTimeout e s
  | .evtHeadWrite e v => Sys2Proof.Machine.execEvtHeadWrite e v s
  | .ventStatus ix seq => Sys2Proof.Machine.execVentStatus ix seq s
  | .ventHistory ix seq sel => Sys2Proof.Machine.execVentHistory ix seq sel s
  | .ventDomainReset ix seq d => Sys2Proof.Machine.execVentDomainReset ix seq d s
  | .ventDeviceReset ix seq => Sys2Proof.Machine.execVentDeviceReset ix seq s
  | .ventAbortAll ix seq => Sys2Proof.Machine.execVentAbortAll ix seq s
  | .abortAllTimeout => Sys2Proof.Machine.execAbortAllTimeout s
  | .ventPowerDown ix seq target => Sys2Proof.Machine.execVentPowerDown ix seq target s
  | .ventBypassClose ix seq mask => Sys2Proof.Machine.execVentBypassClose ix seq mask s
  | .ventThermalTrip ix seq => Sys2Proof.Machine.execVentThermalTrip ix seq s
  | .ventJigRollback ix seq => Sys2Proof.Machine.execVentJigRollback ix seq s
  | .ventQuote ix seq arg nonce => Sys2Proof.Machine.execVentQuote ix seq arg nonce s
  | .ventTrimClear ix seq arg => Sys2Proof.Machine.execVentTrimClear ix seq arg s
  | .ventWake ix seq => Sys2Proof.Machine.execVentWake ix seq s
  | .ventPoisonMark ix seq lines a => Sys2Proof.Machine.execVentPoisonMark ix seq lines a s
  | .recoveryImage image keyOk sigOk => Sys2Proof.Machine.execRecoveryImage image keyOk sigOk s
  | .recNRelease => Sys2Proof.Machine.execRecNRelease s
  | .lightReceived p => Sys2Proof.Machine.execLightReceived p s
  | .registerRead off size => Sys2Proof.Machine.execRegisterRead off size s
  | .jigQuiesceTimeout => Sys2Proof.Machine.execJigQuiesceTimeout s
  | .ptpMessage t => Sys2Proof.Machine.execPtpMessage t s
  | .referenceRestored => Sys2Proof.Machine.execReferenceRestored s

end Sys2Proof.Machine
end

