-- ==== Sys2Proof/Machine/Step.lean ====
section
/-! DEFINITION. One step: the command at the front of the queue, or one tick of the clock when none waits. -/
namespace Sys2Proof.Machine

/-- What the fabric-time counter gains in one nanosecond: nothing while it is held or its domain is off, when the Vent keeps it
(R369, R521), else 1, and one more or less in every 10,000 ns of slewing (R372). -/
def ftStep (s : State) : Nat :=
  if s.flag FTM_STATUS FTM_STATUS_HELD || s.dom 61 = 0 || s.dom 61 = 4 then 0
  else if s.ftm.slew ≠ 0 && s.ftm.slewAcc = 9999 then (if 0 < s.ftm.slew then 2 else 0)
  else 1

/-- Clock cycles that requests stalled for want of a tag, and stalled drains, spend in the nanosecond that ends at `clock`: of NCLK (1.6 GHz) at the
fabric pool, of PCLK (1 GHz) at the host pool, of HCLK (400 MHz) at the shared pool, and of each lathe's DCLK (2 GHz) (R167, R226). -/
def State.countStalls (s : State) : State :=
  let s := if s.tagWait.isEmpty then s else s.bump IZP_STAT_TAG_STALL (s.clock * 8 / 5 - (s.clock - 1) * 8 / 5)
  let s := if s.hostWait.isEmpty then s else s.bump PCI_STAT_TAG_STALL 1
  let s := if s.sharedAsks ≤ sharedPool then s else s.bump (RDC_STAT_TAG_STALL 0) (s.clock * 2 / 5 - (s.clock - 1) * 2 / 5)
  (List.range 8).foldl (fun (acc : State) n =>
    let acc := if lathePool < acc.latheAsks n then acc.bump (STR_STAT_TAG_STALL n) 2 else acc
    if acc.finStall n = 0 then acc else acc.bump (FIN_STAT_STALL_CYC n) 2) s

/-- A port that owes its peer an acknowledgement and sends nothing else sends a LINK packet (R340, Table 9.2). -/
def State.sendAcks (s : State) : State :=
  (s.ports.filter fun (e : Nat × Port) => e.2.ackDue).foldl (fun (acc : State) e => if acc.portUp e.1 then acc.sendLink e.1 false else acc) s

/-- One nanosecond with no command waiting (log entry 1): the model's clock and the fabric-time counter advance, a hold ends when its
time has come (R372), stalls are counted, acknowledgements go out, banks that are no longer live are FREE (R53), and the Vent answers an operation that
is over (R592). -/
def tick (s : State) : State :=
  let f := s.ftm
  let turn := f.slew ≠ 0 && f.slewAcc = 9999
  let f := { f with slewAcc := if f.slew = 0 || turn then 0 else f.slewAcc + 1,
                    slew := if turn then (if 0 < f.slew then f.slew - 1 else f.slew + 1) else f.slew }
  let s := { s with clock := s.clock + 1, ft := s.ft + BitVec.ofNat 64 (ftStep s), ftm := f }
  let s := if s.flag FTM_STATUS FTM_STATUS_HELD && f.holdUntil ≤ s.clock then s.wb FTM_STATUS FTM_STATUS_HELD false else s
  ((List.range 8).foldl (fun (acc : State) n => acc.settleBank n) s.countStalls.sendAcks).ventSettle

/-- Take the command at the front of the queue and run it with the rest of the queue. -/
def step (s : State) : Host.Outcome State Fault Refusal :=
  match s.pending with
  | [] => .next (tick s)
  | c :: rest => exec c { s with pending := rest }

/-- No row of the opcode table gives bits, so no word spells a command and the queue stays as it is. -/
def State.withFetchWord (s : State) (_nbits _w : Nat) : State := s

end Sys2Proof.Machine
end

