-- ==== Sys2Proof/Safety.lean ====
section
/-! DEFINITION. What claims about whole runs are stated in: the parts of the state, a step that changes some of them only, and the
canonical form of the tables. -/
namespace Sys2Proof.Machine

/-- The parts of the state, as the claims name them. -/
inductive Part where
  /-- The queue of waiting commands. -/
  | queue
  /-- The model's own clock. -/
  | clock
  /-- The fabric-time counter. -/
  | fabricTime
  /-- The register file, with the low words that 64-bit WO registers hold. -/
  | registers
  /-- HBM and infeed stores, with their poison marks. -/
  | memory
  /-- Host memory that the aperture reaches. -/
  | hostMemory
  /-- Accumulator and check accumulator. -/
  | accumulators
  /-- Row-state entries of the finisher. -/
  | rowState
  /-- What each lathe holds: service state, banks, strokes, arbitrations, generators. -/
  | lathes
  /-- Accumulation groups. -/
  | groups
  /-- Program stores of the command engines. -/
  | engines
  /-- Stream descriptors. -/
  | descriptors
  /-- Waiters of the semaphores. -/
  | waiters
  /-- What a stack holds besides its registers. -/
  | hbmStacks
  /-- Reducer queues. -/
  | reducers
  /-- Scale-record updates and evaluations. -/
  | scaleRecords
  /-- Raised swaps and the record the swap engine waits for. -/
  | swaps
  /-- Uses of marked data whose abort has not latched. -/
  | poisonUses
  /-- Entries being verified. -/
  | verifying
  /-- The build in progress. -/
  | building
  /-- Outstanding fabric requests. -/
  | requests
  /-- Ports, packets waiting, packets sent. -/
  | links
  /-- Multicast groups enabled and their messages. -/
  | multicast
  /-- Movements of the bypass switches. -/
  | bypass
  /-- What the fabric-time unit holds besides its registers. -/
  | timeUnit
  /-- The fault history. -/
  | history
  /-- Its copy in the flash. -/
  | historyFlash
  /-- Steady-rest loops and cores. -/
  | steadyRest
  /-- Trim channels and the forced clear. -/
  | trims
  /-- Monitor converters and the housekeeping round. -/
  | monitors
  /-- Calibrations. -/
  | calibrations
  /-- Calibration results that the Vent keeps. -/
  | calibrationFlash
  /-- Rails below their warning level and dips. -/
  | rails
  /-- Power, reset and start-up. -/
  | power
  /-- The security module, but for owner slots and counters. -/
  | security
  /-- Owner slots. -/
  | owners
  /-- Anti-rollback counters. -/
  | rollbackCounters
  /-- Jig slots and the operation in progress. -/
  | jig
  /-- Firmware slots and activations. -/
  | firmware
  /-- The flash copy of `DEV_FABRIC_ID`. -/
  | fabricIdFlash
  /-- Outstanding host reads. -/
  | hostReads
  /-- What the host decides: lines that fail, the completion timeout. -/
  | hostSettings
  /-- Records bound for an event queue, and post limits. -/
  | events
  /-- Unsignalled records of the event queues. -/
  | eventQueues
  /-- MSI-X table, pending bits and messages sent. -/
  | msix
  /-- What the Vent holds besides its registers. -/
  | vent
  /-- PERST_N and REC_N. -/
  | pins
  /-- Recovery and its reply byte. -/
  | recovery
  /-- The answer to the last command that reads. -/
  | answer
  /-- Draws of free values made so far. -/
  | freeDraws
deriving DecidableEq, Repr

/-- Part `p` of `t` is part `p` of `s`. -/
def Part.same (p : Part) (s t : State) : Prop :=
  match p with
  | .queue => t.pending = s.pending
  | .clock => t.clock = s.clock
  | .fabricTime => t.ft = s.ft
  | .registers => (t.regs, t.heldLow) = (s.regs, s.heldLow)
  | .memory => (t.mem, t.marks) = (s.mem, s.marks)
  | .hostMemory => t.hostMem = s.hostMem
  | .accumulators => (t.accMem, t.chkMem) = (s.accMem, s.chkMem)
  | .rowState => t.rowState = s.rowState
  | .lathes => t.lathes = s.lathes
  | .groups => t.groups = s.groups
  | .engines => t.engines = s.engines
  | .descriptors => t.descs = s.descs
  | .waiters => t.waiters = s.waiters
  | .hbmStacks => t.hbmStacks = s.hbmStacks
  | .reducers => t.rdc = s.rdc
  | .scaleRecords => (t.scaleUpd, t.scaleEval) = (s.scaleUpd, s.scaleEval)
  | .swaps => (t.swaps, t.swapWait) = (s.swaps, s.swapWait)
  | .poisonUses => t.uses = s.uses
  | .verifying => t.verifying = s.verifying
  | .building => t.building = s.building
  | .requests => (t.reqs, t.nextTag, t.tagWait, t.redHeld) = (s.reqs, s.nextTag, s.tagWait, s.redHeld)
  | .links => (t.ports, t.fabQueue, t.sent) = (s.ports, s.fabQueue, s.sent)
  | .multicast => (t.mcMsgs, t.mcOn) = (s.mcMsgs, s.mcOn)
  | .bypass => (t.bypOpening, t.bypCause) = (s.bypOpening, s.bypCause)
  | .timeUnit => t.ftm = s.ftm
  | .history => (t.hist, t.histDirty) = (s.hist, s.histDirty)
  | .historyFlash => t.histFlash = s.histFlash
  | .steadyRest => (t.loops, t.cores) = (s.loops, s.cores)
  | .trims => (t.trims, t.trimPin, t.trimVent, t.trimSince) = (s.trims, s.trimPin, s.trimVent, s.trimSince)
  | .monitors => (t.convs, t.temp) = (s.convs, s.temp)
  | .calibrations => t.cals = s.cals
  | .calibrationFlash => (t.calFlash, t.keptCodes) = (s.calFlash, s.keptCodes)
  | .rails => (t.rails, t.dips, t.dipNo) = (s.rails, s.dips, s.dipNo)
  | .power => t.power = s.power
  | .security => (t.sec.st, t.sec.grant, t.sec.sess, t.sec.zeroising, t.sec.stFail, t.sec.asked) =
      (s.sec.st, s.sec.grant, s.sec.sess, s.sec.zeroising, s.sec.stFail, s.sec.asked)
  | .owners => t.sec.owners = s.sec.owners
  | .rollbackCounters => t.sec.ctrs = s.sec.ctrs
  | .jig => t.jig = s.jig
  | .firmware => (t.fws, t.fwBusy) = (s.fws, s.fwBusy)
  | .fabricIdFlash => t.fabricIdFlash = s.fabricIdFlash
  | .hostReads => (t.hostReqs, t.hostWait) = (s.hostReqs, s.hostWait)
  | .hostSettings => (t.hostBad, t.ctoNs, t.ctoOff) = (s.hostBad, s.ctoNs, s.ctoOff)
  | .events => (t.evtFly, t.limits) = (s.evtFly, s.limits)
  | .eventQueues => t.evtQs = s.evtQs
  | .msix => (t.msixTable, t.msixPending, t.msixSent) = (s.msixTable, s.msixPending, s.msixSent)
  | .vent => t.vent = s.vent
  | .pins => (t.perst, t.recPin) = (s.perst, s.recPin)
  | .recovery => (t.recovery, t.recReply) = (s.recovery, s.recReply)
  | .answer => t.resp = s.resp
  | .freeDraws => t.freeNo = s.freeNo

/-- `t` differs from `s` in the parts `ps` at most. -/
def changesOnly (ps : List Part) (s t : State) : Prop := ∀ p : Part, p ∉ ps → p.same s t

/-- Memory in canonical form: addresses strictly rising, no byte equal to what an unlisted address reads as. -/
def Memory.wf (m : Memory) : Bool := swf (fun _ => 0) m

/-- Every table of the state is in canonical form (keys strictly rising, no entry equal to what an unlisted key reads as), so that equal
contents are equal data. -/
structure Canon (s : State) : Prop where
  regs : swf resetWord s.regs = true
  heldLow : swf (fun _ => 0) s.heldLow = true
  mem : Memory.wf s.mem = true
  marks : swf (fun _ => false) s.marks = true
  hostMem : Memory.wf s.hostMem = true
  accMem : swf (fun _ => 0) s.accMem = true
  chkMem : swf (fun _ => 0) s.chkMem = true
  rowState : swf (fun _ => {}) s.rowState = true
  lathes : swf (fun _ => {}) s.lathes = true
  groups : swf (fun _ => {}) s.groups = true
  engines : swf (fun _ => {}) s.engines = true
  descs : swf (fun _ => {}) s.descs = true
  waiters : swf (fun _ => []) s.waiters = true
  hbmStacks : swf (fun _ => {}) s.hbmStacks = true
  rdc : swf (fun _ => []) s.rdc = true
  ports : swf (fun _ => {}) s.ports = true
  mcMsgs : swf (fun _ => []) s.mcMsgs = true
  bypCause : swf (fun _ => 0) s.bypCause = true
  hist : swf (fun _ => {}) s.hist = true
  histFlash : swf (fun _ => {}) s.histFlash = true
  loops : swf (fun _ => {}) s.loops = true
  cores : swf (fun _ => {}) s.cores = true
  trims : swf (fun _ => {}) s.trims = true
  convs : swf (fun _ => {}) s.convs = true
  cals : swf (fun _ => {}) s.cals = true
  calFlash : swf (fun _ => {}) s.calFlash = true
  rails : swf (fun _ => {}) s.rails = true
  fws : swf (fun _ => {}) s.fws = true
  hostBad : swf (fun _ => 0) s.hostBad = true
  evtQs : swf (fun _ => {}) s.evtQs = true
  msixTable : swf (fun _ => 0) s.msixTable = true
  msixPending : swf (fun _ => false) s.msixPending = true
  owners : swf (fun _ => {}) s.sec.owners = true
  ctrs : swf (fun _ => 0) s.sec.ctrs = true

/-- No anti-rollback counter of `t` is below that of `s` (R551). -/
def countersKept (s t : State) : Prop := ∀ k, sget 0 s.sec.ctrs k ≤ sget 0 t.sec.ctrs k

/-! ## How claims say what a command does -/

/-- Command `c` completes from `s`, in a state of which `P` holds. -/
def Completes (c : Instr) (s : State) (P : State → Prop) : Prop := ∃ t, exec c s = .next t ∧ P t

/-- Every register but those at `l` reads in the register file of `t` as in that of `s`. -/
def registersKeptBut (l : List Nat) (s t : State) : Prop := ∀ o, o ∉ l → t.rd o = s.rd o

/-- Every byte outside `[a, a + k)` reads in `t` as in `s`. -/
def bytesKeptOutside (a k : Nat) (s t : State) : Prop := ∀ b, b < a ∨ a + k ≤ b → t.byte b = s.byte b

/-- Both words of a 64-bit register. -/
def both (o : Nat) : List Nat := [o, o + 4]

/-- What any access to a register may change besides: the link leaves L1 (R574), or the access to a block that is off is counted (R577). -/
def accessRegs : List Nat := PCI_STATUS :: both PCI_STAT_OFF_ACCESS

/-- The registers that a command may change, for the commands that change a few registers only and post no event. -/
def registersOf : Instr → Option (List Nat)
  | .roundCfgWrite _ => some (MON_ROUND_CFG :: accessRegs)
  | .trippedClear => some (MON_TEMP :: accessRegs)
  | .monCfgWrite c _ _ => some (MON_CFG c :: MON_SCAN c :: accessRegs)
  | .monCalGo _ => some accessRegs
  | .pwrLimitWrite _ => some (PWR_LIMIT :: accessRegs)
  | .accModeWrite n _ => some (ACC_CTRL n :: accessRegs)
  | .seedWrite n _ => some (FIN_SR_SEED n :: accessRegs)
  | .bankAgeMaxWrite n _ => some (LTH_BANK_AGE_MAX n :: accessRegs)
  | .coreCfgWrite c _ => some (STD_CORE_CFG c :: accessRegs)
  | .coeffBankSwap c _ => some (STD_CORE_BANK c :: accessRegs)
  | .setWrite c b k w _ => some ((STD_SET_CFG ((c.val * 2 + b2n b) * 64 + k) + 4 * w.val) :: accessRegs)
  | .scClear _ => some (both TRM_STAT_HOLDS ++ accessRegs)
  | .passOpen p _ => some (DEV_LT_PASS p :: DEV_LT_LATCH p :: accessRegs)
  | .passClose p _ => some (DEV_LT_PASS p :: accessRegs)
  | .wtbWrite i w _ => some ((WTB_CTL i + 4 * w.val) :: WTB_CTL i :: WTB_GEN i :: accessRegs)
  | .wtbClear i => some (WTB_CTL i :: accessRegs)
  | .buildGo _ => some (DEV_LT_BUILD_CMD :: accessRegs)
  | .debugWrite _ => some (DEV_DEBUG :: accessRegs)
  | .fabricIdWrite _ => some (DEV_FABRIC_ID :: accessRegs)
  | .calCancel _ => some accessRegs
  | .descCancel _ _ => some accessRegs
  | .histRead => some (FLT_HIST_STATUS :: (List.range 8).map FLT_HIST_DATA ++ accessRegs)
  | .ftmSet _ => some accessRegs
  | .ppsEdge => some [CLK_REF, FTM_FREQ, FTM_UNCERT, FTM_STATUS]
  | .mcastUnprune g _ => some (both (IZP_MG_PRUNE g) ++ accessRegs)
  | .lightReceived p => some [IZP_STATUS p]
  | .corruptPacket p _ => some (both (IZP_STAT_FEC_UNCORR p) ++ both (IZP_STAT_CRC_FAIL p))
  | .retransmitTimeout p _ => some (both (IZP_STAT_REPLAY p))
  | .linkIdleL1 => some [PCI_STATUS]
  | _ => none

/-! ## What each command may change -/

/-- What posting an event may change: registers, the jig watch, the records on their way, the Vent. -/
def Part.posting : List Part :=
  [.registers, .jig, .events, .vent]

/-- What the end of a program may change besides: its engine, groups, lathe, descriptors, requests and waiters, its status in memory. -/
def Part.ending : List Part :=
  [.memory, .hostMemory, .lathes, .groups, .engines, .descriptors, .waiters, .hbmStacks, .requests, .multicast, .hostReads]

/-- What a request to another device may change besides. -/
def Part.fetching : List Part :=
  [.reducers, .swaps, .poisonUses, .links, .answer, .freeDraws]

/-- What a domain that goes OFF or is held may change besides. -/
def Part.switchingOff : List Part :=
  [.accumulators, .rowState, .verifying, .building, .bypass, .timeUnit, .history, .steadyRest, .trims, .monitors, .calibrations, .rails, .security, .hostSettings]

/-- The parts of the state that a command may change; every other part stays as it was. The queue and the clock are no command's. -/
def partsOf : Instr → List Part
  | .registerWrite _ _ _ => Part.posting ++ Part.ending ++ Part.fetching ++ Part.switchingOff ++ [.fabricTime, .scaleRecords, .power, .rollbackCounters, .firmware, .fabricIdFlash]
  | .statClr _ => [.registers, .lathes]
  | .unmappedAccess _ _ _ _ => Part.posting ++ [.answer]
  | .accWindowRead _ => Part.posting ++ [.answer]
  | .svcReqWrite _ _ => Part.posting ++ [.lathes, .calibrations]
  | .lthMapWrite _ _ _ _ => [.registers, .lathes, .steadyRest, .trims]
  | .bankAgeMaxWrite _ _ => [.registers]
  | .lasersLocked _ => Part.posting ++ [.lathes, .calibrations]
  | .quiesceEnd _ => Part.posting ++ [.lathes, .calibrations]
  | .programAccept _ => Part.posting ++ [.memory, .hostMemory, .engines, .hbmStacks]
  | .sqEnable _ _ _ => Part.posting
  | .sqDoorbell _ _ _ => Part.posting
  | .programStart _ => [.engines]
  | .fetch _ _ _ => Part.posting ++ Part.ending ++ Part.fetching
  | .load _ _ _ _ => Part.posting ++ Part.ending ++ Part.fetching ++ [.hostSettings]
  | .bankWriteEnd _ => [.registers, .lathes, .engines]
  | .run _ _ _ _ => Part.posting ++ Part.ending ++ Part.fetching ++ [.hostSettings]
  | .refreshStart _ => Part.posting ++ Part.ending ++ Part.fetching ++ [.hostSettings]
  | .strokeDataEnd _ => [.registers, .lathes]
  | .accumulatorAdd _ _ _ => Part.posting ++ [.accumulators, .lathes, .groups]
  | .strokeVerdict _ => Part.posting ++ Part.ending ++ Part.fetching ++ [.rails, .hostSettings]
  | .replayStart _ => [.registers, .lathes, .groups]
  | .arbitrationEnd _ => Part.posting ++ Part.ending ++ Part.fetching ++ [.history, .steadyRest, .trims, .calibrations, .rails, .hostSettings]
  | .correctionEnd _ => Part.posting ++ Part.ending ++ Part.fetching ++ [.accumulators, .history, .rails, .hostSettings]
  | .spanMoveStart _ _ => [.lathes, .groups]
  | .spanMoveEnd _ _ => [.registers, .memory, .hostMemory, .lathes, .groups, .poisonUses, .hostSettings]
  | .drain _ _ _ _ => Part.posting ++ Part.ending ++ Part.fetching ++ [.hostSettings]
  | .drainStart _ _ _ => Part.posting ++ Part.ending ++ Part.fetching ++ [.rowState, .hostSettings]
  | .drainEnd _ => [.registers, .lathes, .groups, .engines, .scaleRecords]
  | .scaleRecordUpdate => Part.posting ++ [.memory, .hostMemory, .engines, .hbmStacks, .scaleRecords]
  | .scaleRecordEvaluate => Part.posting ++ [.memory, .hostMemory, .engines, .hbmStacks, .scaleRecords]
  | .invalidGroupFree _ _ => [.lathes, .groups]
  | .accModeWrite _ _ => [.registers]
  | .seedWrite _ _ => [.registers, .lathes]
  | .reduce _ _ _ => Part.posting ++ Part.ending ++ Part.fetching
  | .signal _ _ _ => Part.posting ++ Part.ending ++ Part.fetching
  | .wait _ _ _ => Part.posting ++ Part.ending
  | .waitTimeout _ _ _ _ => Part.posting ++ Part.ending
  | .semValWrite _ _ => [.registers, .engines, .waiters]
  | .semAddWrite _ _ => Part.posting ++ [.engines, .waiters]
  | .swap _ _ _ => Part.posting ++ Part.ending ++ [.swaps]
  | .fence _ _ _ => [.engines]
  | .atStage _ _ _ => [.engines]
  | .descArm _ _ => Part.posting ++ [.descriptors]
  | .descCancel _ _ => [.registers, .descriptors]
  | .transferDone _ _ _ => Part.posting ++ Part.ending ++ Part.fetching ++ [.hostSettings]
  | .programCommit _ _ => Part.posting ++ [.memory, .hostMemory, .engines, .hbmStacks]
  | .strAbort _ _ => Part.posting ++ Part.ending
  | .programAbortRetire _ _ => Part.posting ++ [.memory, .hostMemory, .engines, .hbmStacks]
  | .programTimeoutExpiry _ _ => Part.posting ++ Part.ending
  | .wtbWrite _ _ _ => [.registers, .verifying]
  | .wtbClear _ => [.registers, .verifying]
  | .verifyEnd => Part.posting ++ Part.ending ++ [.swaps, .verifying]
  | .passOpen _ _ => [.registers]
  | .passClose _ _ => [.registers]
  | .swapWriteStart _ => Part.posting ++ Part.ending ++ Part.fetching ++ [.hostSettings]
  | .stagedHeaderReread => Part.posting ++ Part.ending ++ Part.fetching ++ [.hostSettings]
  | .swapWriteEnd => Part.posting ++ [.swaps]
  | .shardTimeout _ => Part.posting ++ Part.ending ++ [.swaps, .verifying]
  | .buildGo _ => [.registers, .building]
  | .buildEnd _ => Part.posting ++ [.memory, .hostMemory, .hbmStacks, .building, .multicast, .hostSettings]
  | .hbmLineRead _ _ _ _ _ _ => Part.posting ++ [.memory, .hostMemory, .hbmStacks, .history, .hostSettings, .answer, .freeDraws]
  | .correctionRate _ => [.hbmStacks, .history]
  | .hbmLineWrite _ _ _ _ _ _ => Part.posting ++ [.memory, .hostMemory, .hbmStacks, .history, .hostSettings, .freeDraws]
  | .infeedLineWrite _ _ _ _ => Part.posting ++ [.memory, .hostMemory, .hostSettings]
  | .scrubRead _ _ _ => Part.posting ++ [.memory, .hostMemory, .hbmStacks, .history, .hostSettings, .freeDraws]
  | .stackTempRead _ _ => Part.posting ++ [.hbmStacks]
  | .retireGo _ _ => Part.posting ++ [.memory, .hbmStacks]
  | .retireEnd _ _ => Part.posting ++ [.memory, .hostMemory, .hbmStacks, .reducers, .history, .hostSettings, .freeDraws]
  | .hbmTrainingEnd _ _ _ => Part.posting ++ [.memory, .hbmStacks, .reducers, .history]
  | .contextPoisonAbort _ _ _ _ _ => Part.posting ++ Part.ending ++ [.poisonUses]
  | .add _ _ => Part.posting ++ [.memory, .hostMemory, .engines, .hbmStacks, .reducers, .poisonUses, .links, .hostSettings]
  | .max _ _ => Part.posting ++ [.memory, .hostMemory, .engines, .hbmStacks, .reducers, .poisonUses, .links, .hostSettings]
  | .min _ _ => Part.posting ++ [.memory, .hostMemory, .engines, .hbmStacks, .reducers, .poisonUses, .links, .hostSettings]
  | .xor _ _ => Part.posting ++ [.memory, .hostMemory, .engines, .hbmStacks, .reducers, .poisonUses, .links, .hostSettings]
  | .maxIdx _ _ => Part.posting ++ [.memory, .hostMemory, .engines, .hbmStacks, .reducers, .poisonUses, .links, .hostSettings]
  | .minIdx _ _ => Part.posting ++ [.memory, .hostMemory, .engines, .hbmStacks, .reducers, .poisonUses, .links, .hostSettings]
  | .reducerWrite _ _ => Part.posting ++ [.memory, .hostMemory, .engines, .hbmStacks, .reducers, .poisonUses, .links, .hostSettings]
  | .poisonMark _ _ => Part.posting ++ [.memory, .hostMemory, .engines, .hbmStacks, .reducers, .poisonUses, .links, .hostSettings]
  | .linkTrained _ _ _ _ _ => Part.posting ++ Part.ending ++ Part.fetching ++ [.verifying, .hostSettings]
  | .lossOfLight _ => Part.posting ++ [.links, .timeUnit, .history]
  | .portRetrain _ => Part.posting ++ [.links, .timeUnit, .history]
  | .portEnWrite _ _ => Part.posting ++ [.links, .timeUnit, .history]
  | .corruptPacket _ _ => [.registers, .links]
  | .retransmitTimeout _ _ => [.registers, .links]
  | .retryLimit _ => Part.posting ++ [.links, .timeUnit, .history]
  | .link _ _ => [.registers, .links]
  | .packetForward _ _ => [.registers, .links]
  | .fabricRead _ _ _ => Part.posting ++ [.links]
  | .fabricWrite _ _ _ => Part.posting ++ [.memory, .hostMemory, .hbmStacks, .links, .hostSettings]
  | .fabricReduce _ _ => Part.posting ++ [.memory, .hbmStacks, .reducers, .links]
  | .fabricSignal _ _ => Part.posting ++ [.engines, .waiters, .links]
  | .cpl _ _ => Part.posting ++ Part.ending ++ Part.fetching ++ [.verifying, .hostSettings]
  | .cplData _ _ => Part.posting ++ Part.ending ++ Part.fetching ++ [.verifying, .hostSettings]
  | .requestTimeout _ => Part.posting ++ Part.ending ++ Part.fetching ++ [.verifying, .hostSettings]
  | .bypassOpen _ => [.registers, .bypass]
  | .bypassClose _ => Part.posting ++ [.links, .bypass, .timeUnit, .history]
  | .bypassSettled _ => Part.posting ++ [.bypass]
  | .mcastEnable _ _ => Part.posting ++ [.engines, .multicast]
  | .mcastSend _ => Part.posting ++ [.engines, .links, .multicast]
  | .mcastHoldExpiry _ => Part.posting ++ [.engines, .links, .multicast]
  | .mcastUnprune _ _ => [.registers]
  | .mcastWrite _ _ => Part.posting ++ [.memory, .hostMemory, .hbmStacks, .links, .hostSettings]
  | .credit _ _ => [.registers, .engines, .links, .multicast]
  | .gap _ _ => Part.posting ++ [.links]
  | .timeExchange => Part.posting ++ [.links, .timeUnit]
  | .time _ _ _ => Part.posting ++ [.fabricTime, .links, .timeUnit, .freeDraws]
  | .parentTimeout => Part.posting ++ [.timeUnit]
  | .uncertLimit => Part.posting ++ [.timeUnit]
  | .referenceLost _ => Part.posting ++ [.timeUnit]
  | .ppsEdge => [.fabricTime, .registers, .timeUnit, .freeDraws]
  | .ftmSet _ => [.fabricTime, .registers]
  | .ftmNowRead => [.registers, .answer]
  | .railBelowWarning _ => [.registers, .lathes, .rails]
  | .railRecovered _ => Part.posting ++ Part.ending ++ [.reducers, .poisonUses, .links, .history, .steadyRest, .trims, .calibrations, .rails, .freeDraws]
  | .suspectReplayEnd _ => Part.posting ++ Part.ending ++ Part.fetching ++ [.history, .rails, .hostSettings]
  | .railWarningTimeout _ => Part.posting ++ Part.ending ++ Part.fetching ++ Part.switchingOff ++ [.fabricTime, .scaleRecords, .calibrationFlash, .power, .firmware, .eventQueues, .msix, .recovery]
  | .railResetLevel _ => Part.posting ++ Part.ending ++ Part.fetching ++ Part.switchingOff ++ [.fabricTime, .scaleRecords, .calibrationFlash, .power, .firmware, .eventQueues, .msix, .recovery]
  | .permanentClassing _ => Part.posting ++ Part.ending ++ [.reducers, .poisonUses, .links, .history, .steadyRest, .trims, .calibrations, .rails, .freeDraws]
  | .historyFlashWriteEnd => [.history, .historyFlash]
  | .histRead => [.registers]
  | .histClear => [.registers, .history]
  | .loopSample _ _ => Part.posting ++ Part.ending ++ [.reducers, .poisonUses, .links, .history, .steadyRest, .trims, .calibrations, .rails, .freeDraws]
  | .breachLimit _ => Part.posting ++ Part.ending ++ [.reducers, .poisonUses, .links, .history, .steadyRest, .trims, .rails, .freeDraws]
  | .coeffBankSwap _ _ => [.registers, .steadyRest]
  | .setWrite _ _ _ _ _ => [.registers]
  | .loopModeWrite _ _ => Part.posting ++ [.lathes, .steadyRest, .trims, .calibrations]
  | .coreCfgWrite _ _ => [.registers]
  | .trimTick => [.registers, .trims]
  | .trmChPush _ _ => Part.posting ++ [.trims]
  | .deglitchEnd _ => [.trims]
  | .shortLimitExpiry _ => Part.posting ++ Part.ending ++ [.reducers, .poisonUses, .links, .history, .steadyRest, .trims, .rails, .freeDraws]
  | .scClear _ => [.registers, .trims]
  | .trimClrAssert _ => Part.posting ++ Part.ending ++ [.reducers, .poisonUses, .links, .history, .steadyRest, .trims, .calibrations, .rails, .freeDraws]
  | .trimClrRelease _ => Part.posting ++ Part.ending ++ [.reducers, .poisonUses, .links, .history, .steadyRest, .trims, .rails, .freeDraws]
  | .conversionEnd _ _ _ => [.registers, .monitors]
  | .monCfgWrite _ _ _ => [.registers, .monitors]
  | .urgentRequest _ _ => Part.posting ++ [.monitors]
  | .monCalGo _ => [.registers, .monitors]
  | .monCalEnd _ _ _ => Part.posting ++ [.monitors, .freeDraws]
  | .housekeepingRound => Part.posting ++ Part.ending ++ [.reducers, .poisonUses, .links, .history, .steadyRest, .trims, .monitors, .calibrations, .rails, .freeDraws]
  | .roundCfgWrite _ => [.registers]
  | .trippedClear => [.registers]
  | .calGo _ => Part.posting ++ [.lathes, .calibrations]
  | .devCalGo _ => Part.posting ++ [.lathes, .calibrations]
  | .calCancel _ => [.registers, .calibrations]
  | .calAtReached _ => Part.posting ++ [.lathes, .calibrations]
  | .calSlotGrant _ => Part.posting ++ [.lathes, .steadyRest, .trims, .calibrations, .calibrationFlash]
  | .calPhaseEnd _ _ => Part.posting ++ [.lathes, .history, .steadyRest, .trims, .calibrations, .freeDraws]
  | .calibrationEnd _ => Part.posting ++ [.lathes, .steadyRest, .trims, .calibrations, .calibrationFlash]
  | .localiseEnd _ _ => Part.posting ++ [.lathes, .history, .steadyRest, .trims, .calibrations]
  | .standbyLocked _ => Part.posting ++ [.lathes, .steadyRest, .trims, .calibrations]
  | .powerInputGood => Part.posting ++ [.bypass, .history, .power, .firmware, .recovery]
  | .powerLoss => Part.posting ++ Part.switchingOff ++ [.fabricTime, .memory, .lathes, .groups, .engines, .descriptors, .waiters, .hbmStacks, .reducers, .scaleRecords, .swaps, .poisonUses, .requests, .links, .multicast, .calibrationFlash, .power, .firmware, .hostReads, .eventQueues, .msix, .recovery, .answer]
  | .powerLevelUpdate _ _ => Part.posting ++ [.lathes, .steadyRest, .trims, .calibrations, .power]
  | .pwrLimitWrite _ => [.registers]
  | .pwrDomOn _ => Part.posting ++ Part.ending ++ Part.fetching ++ Part.switchingOff ++ [.fabricIdFlash]
  | .pwrDomOff _ => Part.posting ++ Part.ending ++ Part.fetching ++ Part.switchingOff
  | .pwrDomReset _ => Part.posting ++ Part.ending ++ Part.fetching ++ Part.switchingOff ++ [.power]
  | .domainReon _ => Part.posting ++ Part.ending ++ Part.fetching ++ Part.switchingOff ++ [.power, .fabricIdFlash]
  | .pwrStateGo _ => [.registers, .power]
  | .pwrRequestAct => Part.posting ++ [.lathes, .power]
  | .quiesceTimeout => Part.posting ++ Part.ending ++ [.power]
  | .pwrTransitionEnd => Part.posting ++ Part.ending ++ Part.fetching ++ Part.switchingOff ++ [.calibrationFlash, .power, .firmware, .fabricIdFlash, .recovery]
  | .pllUnlock _ => Part.posting ++ Part.ending ++ Part.fetching ++ Part.switchingOff ++ [.scaleRecords, .power]
  | .refOscReturn => Part.posting ++ Part.ending ++ Part.fetching ++ Part.switchingOff ++ [.calibrationFlash, .power, .fabricIdFlash]
  | .perstN => Part.posting ++ Part.ending ++ Part.fetching ++ Part.switchingOff ++ [.scaleRecords, .power, .pins]
  | .devResetCmd _ => Part.posting ++ Part.ending ++ Part.fetching ++ Part.switchingOff ++ [.scaleRecords, .power]
  | .deviceResetRelease => Part.posting ++ [.bypass, .monitors, .power, .firmware, .fabricIdFlash, .pins, .recovery]
  | .hotReset => Part.posting ++ Part.ending ++ Part.fetching ++ [.verifying, .hostSettings, .eventQueues, .msix]
  | .functionLevelReset => Part.posting ++ Part.ending ++ [.hostSettings, .eventQueues, .msix]
  | .ventWatchdog => [.registers, .vent]
  | .ventBooted => Part.posting ++ [.bypass, .monitors, .power, .firmware, .fabricIdFlash, .recovery]
  | .startStepEnd _ _ => Part.posting ++ [.bypass, .power]
  | .readyTimeout => Part.posting ++ [.bypass, .power]
  | .selftestEnd _ => Part.posting ++ Part.ending ++ [.accumulators, .rowState, .reducers, .poisonUses, .links, .bypass, .history, .steadyRest, .trims, .calibrations, .rails, .power, .security, .rollbackCounters, .freeDraws]
  | .getStatus _ => [.registers, .security, .answer]
  | .getCerts _ => [.registers, .security, .answer]
  | .quote _ _ _ => [.registers, .security, .answer]
  | .extend _ _ _ => [.registers, .security, .answer]
  | .challenge _ => [.registers, .security, .answer]
  | .login _ _ _ => Part.posting ++ [.security, .answer]
  | .loginLockout _ => [.security]
  | .lockoutEnd _ => [.security]
  | .logout _ => [.registers, .security, .answer]
  | .sessionTimeout _ => [.security]
  | .enroll _ _ _ _ _ => Part.posting ++ [.security, .owners, .answer]
  | .revoke _ _ => Part.posting ++ [.security, .owners, .answer]
  | .zeroise _ => Part.posting ++ [.security, .answer]
  | .zeroiseEraseEnd => [.security, .owners]
  | .grantDebug _ _ => Part.posting ++ [.security, .answer]
  | .selftest _ => [.registers, .security, .answer]
  | .debugWrite _ => [.registers]
  | .fabricIdWrite _ => [.registers, .fabricIdFlash]
  | .jigVerify _ _ => Part.posting
  | .jigApply _ => [.registers, .jig]
  | .jigRollback => [.registers, .lathes, .jig]
  | .jigDiscard => [.registers, .jig]
  | .applyAct => [.lathes, .jig]
  | .applyQuiesced => Part.posting ++ Part.ending ++ Part.fetching ++ Part.switchingOff ++ [.fabricIdFlash]
  | .healthCheckEnd => Part.posting ++ [.lathes, .rollbackCounters]
  | .rollbackApply => Part.posting ++ Part.ending ++ Part.fetching ++ Part.switchingOff ++ [.fabricIdFlash]
  | .fwVerify _ _ _ => Part.posting ++ [.firmware]
  | .fwActivate _ _ _ => Part.posting ++ [.lathes, .links, .bypass, .timeUnit, .history, .calibrations, .firmware]
  | .fwActivateOther _ _ _ => Part.posting ++ [.lathes, .links, .bypass, .timeUnit, .history, .calibrations, .firmware]
  | .fwActivationEnd => Part.posting ++ [.bypass, .steadyRest, .firmware]
  | .fwCommit _ => Part.posting ++ [.rollbackCounters, .firmware]
  | .windowAccess _ _ _ _ _ _ _ => Part.posting ++ Part.ending ++ Part.fetching ++ [.history, .hostSettings]
  | .hostRequestComplete _ _ => Part.posting ++ Part.ending ++ Part.fetching ++ [.verifying, .hostSettings]
  | .hostReadTimeout => Part.posting ++ Part.ending ++ Part.fetching ++ [.verifying, .hostSettings]
  | .pcieLinkDown _ => Part.posting ++ Part.ending ++ Part.fetching ++ [.verifying, .hostSettings]
  | .pcieLinkUp _ _ _ => Part.posting
  | .linkIdleL1 => [.registers]
  | .evtQueueEnable _ _ => Part.posting
  | .eventRecordWriteEnd _ _ => Part.posting ++ [.memory, .hostMemory, .hbmStacks, .hostSettings, .eventQueues, .msix]
  | .coalTimeout _ => [.registers, .eventQueues, .msix]
  | .evtHeadWrite _ _ => Part.posting
  | .ventStatus _ _ => Part.posting ++ Part.ending ++ Part.fetching ++ Part.switchingOff ++ [.scaleRecords, .power]
  | .ventHistory _ _ _ => Part.posting ++ Part.ending ++ Part.fetching ++ Part.switchingOff ++ [.scaleRecords, .power]
  | .ventDomainReset _ _ _ => Part.posting ++ Part.ending ++ Part.fetching ++ Part.switchingOff ++ [.scaleRecords, .power]
  | .ventDeviceReset _ _ => Part.posting ++ Part.ending ++ Part.fetching ++ Part.switchingOff ++ [.scaleRecords, .power]
  | .ventAbortAll _ _ => Part.posting ++ Part.ending ++ Part.fetching ++ Part.switchingOff ++ [.scaleRecords, .power]
  | .abortAllTimeout => Part.posting ++ Part.ending ++ Part.fetching ++ Part.switchingOff ++ [.scaleRecords, .power]
  | .ventPowerDown _ _ _ => Part.posting ++ Part.ending ++ Part.fetching ++ Part.switchingOff ++ [.scaleRecords, .power]
  | .ventBypassClose _ _ _ => Part.posting ++ Part.ending ++ Part.fetching ++ Part.switchingOff ++ [.scaleRecords, .power]
  | .ventThermalTrip _ _ => Part.posting ++ Part.ending ++ Part.fetching ++ Part.switchingOff ++ [.scaleRecords, .power]
  | .ventJigRollback _ _ => Part.posting ++ Part.ending ++ Part.fetching ++ Part.switchingOff ++ [.scaleRecords, .power]
  | .ventQuote _ _ _ _ => Part.posting ++ Part.ending ++ Part.fetching ++ Part.switchingOff ++ [.scaleRecords, .power]
  | .ventTrimClear _ _ _ => Part.posting ++ Part.ending ++ Part.fetching ++ Part.switchingOff ++ [.scaleRecords, .power]
  | .ventWake _ _ => Part.posting ++ Part.ending ++ Part.fetching ++ Part.switchingOff ++ [.scaleRecords, .power]
  | .ventPoisonMark _ _ _ _ => Part.posting ++ Part.ending ++ Part.fetching ++ Part.switchingOff ++ [.scaleRecords, .power]
  | .recoveryImage _ _ _ => Part.posting ++ [.bypass, .monitors, .power, .firmware, .fabricIdFlash, .recovery]
  | .recNRelease => Part.posting ++ [.bypass, .monitors, .power, .firmware, .fabricIdFlash, .pins, .recovery]
  | .lightReceived _ => [.registers, .links]
  | .registerRead _ _ => [.registers, .monitors, .answer]
  | .jigQuiesceTimeout => Part.posting ++ Part.ending
  | .ptpMessage _ => [.fabricTime, .registers, .timeUnit, .freeDraws]
  | .referenceRestored => [.registers, .timeUnit, .freeDraws]

end Sys2Proof.Machine
end

