-- ==== Sys2Proof/Certificates/Slice0/Obligations.lean ====
section
/-! DEFINITION. The statements about the model, for the provers. A clause `exec c s = .next t` says that command `c` completes from `s`
and leaves `t`; `Completes` says so of a state with the property given. -/
open Sys2Proof Sys2Proof.Machine

/-- A command changes no part of the state but those listed for it (17_register_index.md, 05_command_model.md, 95_what_each_step_holds.md).
For every command c and every state s, whatever state exec leaves differs from s in the parts partsOf lists for c at most: every other
part (registers, memory, lathes, groups, engines, links, history, owners, pins and the rest) is as before. The queue and the clock are
listed for no command. -/
def Obligations.EveryCommandKeepsOtherParts : Prop :=
  ∀ (c : Instr) (s t : State), exec c s = .next t → changesOnly (partsOf c) s t

/-- Every step keeps every table of the state in canonical form (02_lathe.md, 08_memory.md, 17_register_index.md). From every state whose
memories, register file and tables have strictly rising keys and no entry equal to what an unlisted key reads as, a step that answers
next leaves a state of the same form, the idle step included. -/
def Obligations.EveryStepKeepsCanonicalForm : Prop :=
  ∀ s t : State, Canon s → step s = .next t → Canon t

/-- The state after reset has the canonical form (14_power_clocks_reset.md, 17_register_index.md). Every table of State.reset is in
canonical form. -/
def Obligations.ResetIsCanonical : Prop :=
  Canon State.reset

/-- A step runs the command at the front of the queue (05_command_model.md, 98_reader.md). For every command c and state s, the step of s
with c at the front of its queue is exec c on s, whose queue is the rest. -/
def Obligations.StepRunsTheFrontCommand : Prop :=
  ∀ (c : Instr) (s : State), step { s with pending := c :: s.pending } = exec c s

/-- With no command waiting a step is one nanosecond (log entry 1) (R369, R372). Model's choice, log entry 1: on an empty queue a step is
the tick, which advances the model's clock by one. While fabric time is neither held nor slewing and its domain is on, the tick advances
the fabric-time counter by one, as its 1 GHz clock does (R369). The tick leaves the queue empty. -/
def Obligations.AnIdleStepIsOneTick : Prop :=
  ∀ s : State, s.pending = [] → step s = .next (tick s) ∧ (tick s).clock = s.clock + 1 ∧ (tick s).pending = [] ∧
    (s.flag FTM_STATUS FTM_STATUS_HELD = false → s.dom 61 = 1 → s.ftm.slew = 0 → (tick s).ft = s.ft + 1)

/-- Every command completes from every state (05_command_model.md, 98_reader.md). For every command with every operand and every state there
is a state t with exec c s = next t: no command is refused and none faults. -/
def Obligations.EveryCommandCompletes : Prop :=
  ∀ (c : Instr) (s : State), ∃ t, exec c s = .next t

/-- Registers read their reset values of the register tables after reset (02_lathe.md, 04_accumulation.md, 10_integrity.md,
12_monitor_adcs.md, 14_power_clocks_reset.md, 17_register_index.md). After reset these registers hold the reset values of their tables:
the bank-age limit, the accumulator, stream, memory and port controls, the rounding seed and the memory hole of every instance, the gain
and scan mask of every converter, and the housekeeping period, power limit, quiesce timeout, time uncertainty, swap rate, semaphore
control, fabric configuration and alert class. -/
def Obligations.RegistersAtReset : Prop :=
  (∀ n : Fin 8, State.reset.rd (LTH_BANK_AGE_MAX n) = 0xFA0 ∧ State.reset.rd (ACC_CTRL n) = 0xC ∧ State.reset.rd (FIN_SR_SEED n) = 0 ∧
    State.reset.rd (STR_CTRL n) = 6 ∧ State.reset.rd (HBM_CTRL n) = 0xE ∧ State.reset.rd (HBM_HOLE n) = 0x300) ∧
  (∀ c : Fin 16, State.reset.rd (MON_CAL_GAIN c) = 0x40000000 ∧ State.reset.rd (MON_SCAN c) = 0xFFFFFFFF ∧ State.reset.rd (IZP_CTRL c) = 9) ∧
  State.reset.rd MON_ROUND_CFG = 0xA ∧ State.reset.rd PWR_LIMIT = 0x30D4 ∧ State.reset.rd PWR_QUIESCE_TMO = 0xA ∧ State.reset.rd FTM_UNCERT = 0xFFFFFFFF ∧
  State.reset.rd DEV_LT_SWAP_RATE = 0x3E8 ∧ State.reset.rd SEM_CTRL = 2 ∧ State.reset.rd IZP_GCFG = 0xFF0000 ∧ State.reset.rd VNT_ALERT_CFG = 2

/-- No command lowers an anti-rollback counter (R551, R550). From every state in canonical form, whatever state a command leaves holds every
anti-rollback counter at its earlier value or a higher one: the first sentence of R551, over all commands. -/
def Obligations.CountersNeverFall : Prop :=
  ∀ (c : Instr) (s t : State), Canon s → exec c s = .next t → countersKept s t

/-- Fabric time never decreases but by a power loss (R369, R372, R377, R510). No command other than POWER_LOSS, and RAIL_RESET_LEVEL of the
48 V input, lowers the fabric-time counter: the last sentence of R369, over all commands. (A correction past the counter's 64 bits stops
at its end, log entry 24.) -/
def Obligations.FabricTimeNeverFalls : Prop :=
  ∀ (c : Instr) (s t : State), c ≠ .powerLoss → (∀ r, c = .railResetLevel r → railKey r ≠ 64) → exec c s = .next t →
    s.ft.toNat ≤ t.ft.toNat

/-- What the flash holds changes by its own commands only (R541, R554, R557, R599, R411, R412). Owner slots change by ENROLL, REVOKE and
ZEROISE_ERASE_END only; the flash copy of the fault history by HISTORY_FLASH_WRITE_END only; the flash copy of DEV_FABRIC_ID by its
write and by the commands that may switch domain 62 on (log entry 202), which are named, only; fault history by no read of it; the queue
and the clock by no command. -/
def Obligations.PersistentStores : Prop :=
  ∀ (c : Instr) (s t : State), exec c s = .next t →
    t.pending = s.pending ∧ t.clock = s.clock ∧
    ((∀ i d o k u, c ≠ .enroll i d o k u) → (∀ i k, c ≠ .revoke i k) → c ≠ .zeroiseEraseEnd → t.sec.owners = s.sec.owners) ∧
    (c ≠ .historyFlashWriteEnd → t.histFlash = s.histFlash) ∧
    ((∀ v, c ≠ .fabricIdWrite v) → (∀ o z v, c ≠ .registerWrite o z v) → (∀ d, c ≠ .pwrDomOn d) → (∀ d, c ≠ .domainReon d) → c ≠ .pwrTransitionEnd → c ≠ .refOscReturn →
      c ≠ .deviceResetRelease → c ≠ .ventBooted → c ≠ .applyQuiesced → c ≠ .rollbackApply → (∀ l a b, c ≠ .recoveryImage l a b) → c ≠ .recNRelease → t.fabricIdFlash = s.fabricIdFlash) ∧
    (c = .histRead → t.hist = s.hist)

/-- Commands on one register leave every other register (R12, R15, R574, R577). For each command that registersOf lists (register writes of
the lathe, accumulator, finisher, steady rest, trim, monitor, power, pass-slot, layer-table, history and multicast blocks, and some link
events), every register outside its list reads as before, from every state in canonical form; and the start of a refresh, where no
displaced bank write resumes with it, leaves every register but the refresh and bank-write counters. Any access to a register may also
wake the link or be counted when the block is off. -/
def Obligations.RegisterFrames : Prop :=
  (∀ (c : Instr) (l : List Nat) (s t : State), Canon s → registersOf c = some l → exec c s = .next t → registersKeptBut l s t) ∧
  (∀ (n : Fin 8) (s t : State), Canon s → s.pollDisplaced n = s → exec (.refreshStart n) s = .next t →
    registersKeptBut ((List.range 8).flatMap fun m => both (LTH_STAT_REFRESH m) ++ both (LTH_STAT_BANK_WRITES m)) s t)

/-- Commands that store a line or a field leave every other byte (R109, R293, R294, R297, R298, R299). A write of an HBM line leaves every
byte outside the line, and, where the read of a partial write meets no error, every byte outside the bytes given; a write of an infeed
line every byte outside the bytes given; a scale-record update every byte outside the counted fields of its record; the read of a line
every byte outside the line, and every byte where it meets no error; the scrub every byte outside the line it reads and the corrected
lines it still had to write back; the correction count every byte. The addresses are the operands' own. -/
def Obligations.MemoryFrames : Prop :=
  (∀ (a : Addr) (data : List Byte) (p : Bool) (d r : LineErr) (req : Requester) (s t : State), Canon s → exec (.hbmLineWrite a data p d r req) s = .next t →
    bytesKeptOutside (a.toNat / 64 * 64) 64 s t ∧ (d = [] → bytesKeptOutside a.toNat data.length s t)) ∧
  (∀ (a : Addr) (data : List Byte) (p : Bool) (req : Requester) (s t : State), Canon s → exec (.infeedLineWrite a data p req) s = .next t →
    bytesKeptOutside a.toNat data.length s t) ∧
  (∀ (u : ScaleUpd) (rest : List ScaleUpd) (s t : State), Canon s → s.scaleUpd = u :: rest → isMem u.addr = true → u.addr % 64 = 0 →
    exec .scaleRecordUpdate s = .next t → bytesKeptOutside (u.addr + 8) 0x20 s t) ∧
  (∀ (a : Addr) (d r : LineErr) (src : ErrSource) (req : Requester) (ctx : Option (BitVec 8)) (s t : State), Canon s → exec (.hbmLineRead a d r src req ctx) s = .next t →
    bytesKeptOutside (a.toNat / 64 * 64) 64 s t ∧ (d = [] → ∀ b, t.byte b = s.byte b)) ∧
  (∀ (c : Fin 256) (d r : LineErr) (s t : State), Canon s → (∀ e ∈ (s.stack (c.val / 32)).wb, isMem e.1 = true ∧ e.1 % 64 = 0 ∧ e.2.1.length = 64) →
    let m := c.val / 32
    let u := s.scrubBack c
    let at_ := (lineAt (u.rf (HBM_HOLE m) HBM_HOLE_START * 8192) (heldSpots (u.stack m).order (c % 32)) (sget 0 (u.stack m).scrub (c % 32))).map (0xC00000000 * m + ·)
    at_.all isMem = true → exec (.scrubRead c d r) s = .next t →
    ∀ b, (∀ e ∈ (s.stack m).wb, b / 64 ≠ e.1 / 64) → at_.all (fun o => b / 64 != o / 64) = true → t.byte b = s.byte b) ∧
  (∀ (c : Fin 256) (s t : State), exec (.correctionRate c) s = .next t → ∀ b, t.byte b = s.byte b)

/-- What a reducer operation leaves in memory (R318, R320, R323, R324, R326, R328, R329, R330, R331). The oldest operation at a channel,
when it is the command's and meets no parity error on its path, completes: its destination line holds the result of Table 8.6 (zeros for
POISON_MARK), marked when an operand it uses is marked or for POISON_MARK; every other byte and mark is as before. Stated where the
operation makes no local use of marked data, which would also abort a context (R316). -/
def Obligations.ReducerResult : Prop :=
  ∀ (c : Fin 256) (i : Instr) (o : RedOp) (rest : List RedOp) (s : State), Canon s → s.rdcOf c = o :: rest →
    (i, o.op) ∈ [(Instr.add c false, 1), (.max c false, 2), (.min c false, 3), (.xor c false, 4), (.maxIdx c false, 5), (.minIdx c false, 6), (.reducerWrite c false, 7),
      (.poisonMark c false, 8)] →
    s.mapped o.dst = true → isMem o.dst = true → s.inJournal o.dst = false → o.dst % 64 = 0 →
    (o.op = 8 ∨ o.remote.isSome = true ∨ (o.poison = false ∧ (o.op = 7 ∨ s.mark o.dst = false))) →
    Completes i s fun t =>
      t.bytes o.dst 64 = (if o.op = 8 then List.replicate 64 0 else (redLine o.op o.fmt (s.bytes o.dst 64) o.src).1) ∧
      t.mark o.dst = (o.op == 8 || o.poison || (o.op != 7 && s.mark o.dst)) ∧
      bytesKeptOutside o.dst 64 s t ∧ ∀ b, b / 64 ≠ o.dst / 64 → t.mark b = s.mark b

/-- A conversion writes the corrected result, rounded half to even and saturated (R458). For the whole number r nearest to (raw − OFS) ×
GAIN / 2^30, the even one where two are equally near, the result register of the input under conversion takes r in its 24 bits, held to
±(2^23 − 1), from every state in canonical form, for a scanning converter and an input that is connected (raw taken as stable). -/
def Obligations.ConverterCorrection : Prop :=
  ∀ (c : Fin 16) (raw r : Int) (s : State), Canon s → (s.conv c).st = .scan → ¬ (c.val % 2 = 1 ∧ ((s.conv c).input = 22 ∨ (s.conv c).input = 23)) → (s.conv c).input < 32 →
    let x := (raw - sext 24 (s.rf (MON_CAL_OFS c) MON_CAL_OFS_OFS)) * (s.rd (MON_CAL_GAIN c)).toNat
    (2 * (r * 2 ^ 30 - x).natAbs < 2 ^ 30 ∨ (2 * (r * 2 ^ 30 - x).natAbs = 2 ^ 30 ∧ r % 2 = 0)) →
    Completes (.conversionEnd c raw false) s fun t =>
      t.rf (monRes c (s.conv c).input) MON_RES_RESULT = trunc 24 (max (-(2 ^ 23 - 1)) (min (2 ^ 23 - 1) r))

/-- Narrowing and addition round, saturate and flag as the rules say (R95, R96, R97, R134, R135, R136). A finite word at a block shift has
the value n / 2^k of codeUnits. In round-half-to-even mode it narrows to the nearest code, ties to even, where that lies inside the
range; at or beyond the end code it narrows to that end; it counts as saturated only from half a step beyond the end. With a zero group
shift an addition into a word is exact while it fits, and is held to ±(2^31 − 1) with the word counted where it does not. -/
def Obligations.Rounding : Prop :=
  (∀ (fmt : Nat) (x : F32) (b z r e : Int) (neg : Bool) (m : Nat), x.dec = .fin neg m e →
    let v := codeUnits x b z
    (fmtMin fmt * 2 ^ v.2 < v.1 → v.1 < fmtMax fmt * 2 ^ v.2 →
      (2 * (r * 2 ^ v.2 - v.1).natAbs < 2 ^ v.2 ∨ (2 * (r * 2 ^ v.2 - v.1).natAbs = 2 ^ v.2 ∧ r % 2 = 0)) → narrow fmt x b z none = r) ∧
    (fmtMax fmt * 2 ^ v.2 ≤ v.1 → narrow fmt x b z none = fmtMax fmt ∧ (saturates fmt x b z = true ↔ (2 * fmtMax fmt + 1) * 2 ^ v.2 ≤ 2 * v.1))) ∧
  (∀ (seed : Word) (st : AddSt) (key gi : Nat) (first : Bool) (a : Int), swf (fun _ => 0) st.mem = true → a.natAbs < 2 ^ 39 - 1 - 2 ^ 31 →
    let w : Int := (if first then 0 else (sget 0 st.mem key).toInt) + a
    let t := addWord seed 0 st key gi first a
    (w.natAbs ≤ 2 ^ 31 - 1 → (sget 0 t.mem key).toInt = w ∧ t.sat = st.sat) ∧
    (2 ^ 31 - 1 < w → (sget 0 t.mem key).toInt = 2 ^ 31 - 1 ∧ t.sat = st.sat + 1) ∧
    (w < -(2 ^ 31 - 1) → (sget 0 t.mem key).toInt = -(2 ^ 31 - 1) ∧ t.sat = st.sat + 1) ∧
    ∀ k, k ≠ key → sget 0 t.mem k = sget 0 st.mem k)

/-- A register access of another size or alignment is ignored and reads ones (R15). A register write whose size is neither 4 nor 8 bytes, or
whose offset is not a multiple of its size, changes nothing (but that any access wakes the link); a read of such a size or alignment
returns bytes of ones. -/
def Obligations.UnalignedRegisterAccess : Prop :=
  ∀ (off : BitVec 24) (size : Nat) (v : DWord) (s : State), ¬ ((size = 4 ∨ size = 8) ∧ off.toNat % size = 0) →
    exec (.registerWrite off size v) s = .next s.wakeLink ∧
    Completes (.registerRead off size) s fun t => t.resp.data = List.replicate size 0xFF ∧ t.regs = s.wakeLink.regs

/-- LTH_BANK_AGE_MAX holds the nearer limit (R55). A write of LTH_BANK_AGE_MAX to a lathe whose domain is on leaves the value written when
it lies from 500 to 4,500, else the nearer limit, and leaves every other register. -/
def Obligations.BankAgeLimits : Prop :=
  ∀ (n : Fin 8) (v : Word) (s : State), Canon s → s.blockOff .lth n = false →
    Completes (.bankAgeMaxWrite n v) s fun t =>
      (t.rd (LTH_BANK_AGE_MAX n)).toNat = clampNat 500 4500 v.toNat ∧ ∀ o, o ≠ LTH_BANK_AGE_MAX n → t.rd o = s.wakeLink.rd o

/-- PWR_LIMIT holds the nearer limit (R506). A write of PWR_LIMIT leaves its 16-bit value, in units of 0.1 W, when it lies from 5,000 to
12,500, else the nearer limit. -/
def Obligations.PowerLimitRange : Prop :=
  ∀ (v : Word) (s : State), Canon s → s.blockOff .pwr 0 = false →
    Completes (.pwrLimitWrite v) s fun t => t.rf PWR_LIMIT PWR_LIMIT_LIMIT = clampNat 5000 12500 (v.toNat % 2 ^ 16)

/-- ACC_CTRL.MODE is taken only while every group is FREE (R139). A write of MODE while all eight groups of the lathe are FREE leaves the
value written in the mode bit; while one of them is not FREE the write is ignored. -/
def Obligations.AccumulatorModeWrites : Prop :=
  (∀ (n : Fin 8) (v : Bool) (s : State), Canon s → s.blockOff .acc n = false → (∀ g, g < 8 → (s.group n g).st = .free) →
      Completes (.accModeWrite n v) s fun t => t.flag (ACC_CTRL n) ACC_CTRL_MODE = v) ∧
  (∀ (n : Fin 8) (v : Bool) (g : Nat) (s : State), s.blockOff .acc n = false → g < 8 → (s.group n g).st ≠ .free →
      exec (.accModeWrite n v) s = .next s.wakeLink)

/-- SEM_VAL replaces, SEM_ADD adds (R216). A write of SEM_VAL replaces the value, a write of SEM_ADD adds to it, and either is one arrival,
after which the waiters are tested in order; an addition past 2^32 − 1 leaves 2^32 − 1 and raises the overflow event, and no program is
aborted for it. -/
def Obligations.SemaphoreWrites : Prop :=
  (∀ (i : Fin 8192) (v : Word) (s : State), s.blockOff .sem 0 = false → exec (.semValWrite i v) s = .next ((s.wakeLink.wr (SEM_VAL i) v).testWaiters i)) ∧
  (∀ (i : Fin 8192) (v : Word) (s : State), s.blockOff .sem 0 = false → (s.wakeLink.rd (SEM_VAL i)).toNat + v.toNat < 2 ^ 32 →
      exec (.semAddWrite i v) s = .next ((s.wakeLink.wr (SEM_VAL i) (s.wakeLink.rd (SEM_VAL i) + v)).testWaiters i)) ∧
  (∀ (i : Fin 8192) (v : Word) (s : State), s.blockOff .sem 0 = false → 2 ^ 32 ≤ (s.wakeLink.rd (SEM_VAL i)).toNat + v.toNat →
      exec (.semAddWrite i v) s = .next (((s.wakeLink.wr (SEM_VAL i) 0xFFFFFFFF).semOverflow i s.wakeLink.devId 0xFFFF).testWaiters i))

/-- Pass slots open, latch and close; a second open is ignored (R266, R267). Opening a free slot, with a context no open slot holds, sets
OPEN and CONTEXT and latches DEV_LT_GEN; closing clears OPEN and holds the CONTEXT written; opening a slot already open, or naming a
context another open slot holds, is ignored. -/
def Obligations.PassSlots : Prop :=
  ((∀ (p q : Fin 16) (ctx : BitVec 8) (s : State), s.blockOff .dev 0 = false →
      (s.wakeLink.flag (DEV_LT_PASS p) DEV_LT_PASS_OPEN = true ∨
        (s.wakeLink.flag (DEV_LT_PASS q) DEV_LT_PASS_OPEN = true ∧ s.wakeLink.rf (DEV_LT_PASS q) DEV_LT_PASS_CONTEXT = ctx.toNat)) →
      exec (.passOpen p ctx) s = .next s.wakeLink)) ∧
  (∀ (p : Fin 16) (ctx : BitVec 8) (s : State), Canon s → s.blockOff .dev 0 = false → s.flag (DEV_LT_PASS p) DEV_LT_PASS_OPEN = false →
      (∀ q, q < 16 → s.flag (DEV_LT_PASS q) DEV_LT_PASS_OPEN = true → s.rf (DEV_LT_PASS q) DEV_LT_PASS_CONTEXT ≠ ctx.toNat) →
      Completes (.passOpen p ctx) s fun t => t.flag (DEV_LT_PASS p) DEV_LT_PASS_OPEN = true ∧ t.rf (DEV_LT_PASS p) DEV_LT_PASS_CONTEXT = ctx.toNat ∧
        t.rd (DEV_LT_LATCH p) = s.rd DEV_LT_GEN) ∧
  (∀ (p : Fin 16) (ctx : BitVec 8) (s : State), Canon s → s.blockOff .dev 0 = false →
      Completes (.passClose p ctx) s fun t => t.flag (DEV_LT_PASS p) DEV_LT_PASS_OPEN = false ∧ t.rf (DEV_LT_PASS p) DEV_LT_PASS_CONTEXT = ctx.toNat)

/-- FTM_SET sets the counter, never lower (R377). In FREE, or as the grandmaster with REF 0, a write of FTM_SET sets the counter to a value
not below the current count and is ignored for a lower one; in every other case it is ignored. -/
def Obligations.FabricTimeSet : Prop :=
  (∀ (v : DWord) (s : State), s.blockOff .ftm 0 = false → s.wakeLink.ftState ≠ ftFREE → ¬ (s.wakeLink.isGm = true ∧ s.wakeLink.rf FTM_CFG FTM_CFG_REF = 0) →
      exec (.ftmSet v) s = .next s.wakeLink) ∧
  (∀ (v : DWord) (s : State), s.blockOff .ftm 0 = false → s.wakeLink.ftState = ftFREE ∨ (s.wakeLink.isGm = true ∧ s.wakeLink.rf FTM_CFG FTM_CFG_REF = 0) →
      (s.ft.toNat ≤ v.toNat → Completes (.ftmSet v) s fun t => t.ft = v) ∧ (v.toNat < s.ft.toNat → exec (.ftmSet v) s = .next s.wakeLink))

/-- CLEAR resets the selected history record, and its substitution stays (R415). A write of CLEAR with a unit selected resets the record's
counts, times, permanent bit and cause; REPLACED and SUBST stay, and so does every entry of every lathe's column and row map. -/
def Obligations.HistoryClear : Prop :=
  (∀ (k : Nat) (n : Fin 8) (i : Fin 520) (j : Fin 512) (s : State), Canon s → s.blockOff .flt 0 = false → histSel (s.wakeLink.rd FLT_HIST_SEL).toNat = some k →
      Completes .histClear s fun t => t.rd (LTH_COLMAP n i) = s.rd (LTH_COLMAP n i) ∧ t.rd (LTH_ROWMAP n j) = s.rd (LTH_ROWMAP n j)) ∧
  (∀ (k : Nat) (s : State), Canon s → s.blockOff .flt 0 = false → histSel (s.wakeLink.rd FLT_HIST_SEL).toNat = some k →
      Completes .histClear s fun t => t.histOf k = { replaced := (s.histOf k).replaced, subst := (s.histOf k).subst })

/-- CANCEL withdraws a waiting request only (R484). A write of CANCEL withdraws a calibration request that still waits (a localisation or
column calibration that runs meanwhile goes on), and has no effect where no request waits: none was made, or it has begun. -/
def Obligations.CalibrationCancel : Prop :=
  (∀ (n : Fin 8) (s : State), s.blockOff .cal n = false → let k := s.calKey n
      (s.cal k).waits = none → exec (.calCancel n) s = .next s.wakeLink) ∧
  (∀ (n : Fin 8) (a : Nat) (s : State), Canon s → s.blockOff .cal n = false → let k := s.calKey n
      (s.cal k).waits = some a → Completes (.calCancel n) s fun t => (t.cal k).waits = none ∧ ((s.cal k).st = .waiting → t.cal k = {}) ∧
        ((s.cal k).st ≠ .waiting → t.cal k = { s.cal k with held := none }))

/-- DEV_RESET_CMD starts a device reset on its key alone (R602). A write of DEV_RESET_CMD with 0xD0A5 is a device reset, as an assertion of
PERST_N is but for the pin; a write of any other value is ignored. -/
def Obligations.DeviceResetCommand : Prop :=
  ∀ (v : BitVec 16) (s : State), s.blockOff .dev 0 = false →
    (v = 0xD0A5 → exec (.devResetCmd v) s = .next s.wakeLink.deviceReset) ∧ (v ≠ 0xD0A5 → exec (.devResetCmd v) s = .next s.wakeLink)

/-- Register reads, writes, counter clears and accesses outside any store complete (R12, R13, R14, R15, R37, R577, R603, R84, R33, R31,
R32). A register write of 4 bytes to a register of the OLL, INF, RDC, CLK or PCI block, on, with its STAT_CLR bit 0, leaves the written
bits in its writable fields and every other bit and register; a register read answers the read's bytes; STAT_CLR clears its block's
counters; an unmapped access posts its event, a read also answering marked zeros; an accumulator-window read in debug mode answers the
stored word. -/
def Obligations.RegisterCommands : Prop :=
  (∀ (off : BitVec 24) (v : DWord) (b : Block) (i r : Nat) (row : RegRow) (k : Nat) (s : State), Canon s →
      off.toNat % 4 = 0 → locate off.toNat = some (b, i, r) → b ∈ [Block.oll, .inf, .rdc, .clk, .pci] →
      (∀ j, j < 32 → statClrBit b r = some j → bit (v.toNat % 2 ^ 32) j = false) → findRow off.toNat = some (row, k) → s.wakeLink.blockOff b i = false →
      let u := s.wakeLink
      Completes (.registerWrite off 4 v) s fun t =>
        t.rd off.toNat = ((u.rd off.toNat &&& ~~~BitVec.ofNat 32 (row.rw / 2 ^ (32 * k))) ||| (v.setWidth 32 &&& BitVec.ofNat 32 (row.rw / 2 ^ (32 * k)))) &&&
          ~~~(v.setWidth 32 &&& BitVec.ofNat 32 (row.w1c / 2 ^ (32 * k))) ∧
        ∀ o, o ≠ off.toNat → t.rd o = u.rd o) ∧
  (∀ (off : BitVec 24) (size : Nat) (s : State), let r := s.wakeLink.regRead off.toNat size
      exec (.registerRead off size) s = .next { r.2 with resp := { data := r.1 } }) ∧
  (∀ (b : StatBlock) (s : State), s.blockOff (statBlock b).1 (statBlock b).2 = false →
      exec (.statClr b) s = .next (s.wakeLink.statClear (statBlock b).1 (statBlock b).2)) ∧
  (∀ (req : Requester) (ctx : Option (BitVec 8)) (a : GAddr) (s : State), s.isLocal a.toNat = true → s.isUnmapped (a.toNat % 2 ^ 40) true = true →
      exec (.unmappedAccess req ctx a true) s =
        .next (s.post 0x10 cFAULT (reqUnit req) ((ctx.map (·.toNat)).getD 0xFFFF) [(0x10, a.toNat % 2 ^ 56), (0x17, 1)])) ∧
  (∀ (req : Requester) (ctx : Option (BitVec 8)) (a : GAddr) (s : State), s.isLocal a.toNat = true → s.isUnmapped (a.toNat % 2 ^ 40) false = true →
      Completes (.unmappedAccess req ctx a false) s fun t =>
        t.resp = { data := List.replicate 64 0, poison := true } ∧ (s.unmappedEvent req ctx a.toNat false).evtFly = t.evtFly) ∧
  (∀ (a : Addr) (n o : Nat) (s : State), region (a.toNat / 4 * 4) = .accWin n o → s.accReadable n = true →
      exec (.accWindowRead a) s = .next { s with resp := { data := leBytes (sget 0 s.accMem (2 ^ 22 * n + o / 4)).toNat 4 } })

/-- Service requests, map writes, laser lock and the end of quiescing complete (R76, R42, R487, R519, R624). SVC_REQ takes a lathe out of
service and back; map entries are written while the lathe is OUT_OF_SERVICE or OFF and ignored otherwise; LASERS_LOCKED ends STARTING;
QUIESCE_END leaves a quiet lathe calibrating or out of service. -/
def Obligations.LatheService : Prop :=
  (∀ (n : Fin 8) (s : State), Canon s → s.blockOff .lth n = false → (s.lathe n).svc = .inService →
      Completes (.svcReqWrite n false) s fun t =>
        t.lathe n = { s.lathe n with svc := .quiescing, oosCause := 1, quiesceCal := false } ∧ t.flag (LTH_CTRL n) LTH_CTRL_SVC_REQ = false) ∧
  (∀ (n : Fin 8) (s : State), Canon s → s.blockOff .lth n = false → (s.lathe n).svc = .outOfService → (s.lathe n).oosCause = 1 →
      (s.lathe n).needCal = false →
      let u := s.wakeLink.wb (LTH_CTRL n) LTH_CTRL_SVC_REQ true
      u.active = true → u.calFree n = true → u.calDue n = false → u.lasersSettled n = true → u.mapFault n = none →
      Completes (.svcReqWrite n true) s fun t => (t.lathe n).svc = .inService ∧ (t.lathe n).oosCause = 0 ∧ (t.lathe n).symAcc = 8 * s.clock) ∧
  (∀ (n : Fin 8) (i : Fin 520) (v : Word) (s : State), s.blockOff .lth n = false →
      ((s.lathe n).svc = .outOfService ∨ (s.lathe n).svc = .off) → i.val < 512 →
      exec (.lthMapWrite n false i v) s = .next ((s.wakeLink.wf (LTH_ROWMAP n i) LTH_ROWMAP_PHYS v.toNat).renameLoops n)) ∧
  (∀ (n : Fin 8) (i : Fin 520) (v : Word) (s : State), s.blockOff .lth n = false →
      ((s.lathe n).svc = .outOfService ∨ (s.lathe n).svc = .off) →
      exec (.lthMapWrite n true i v) s = .next (((s.wakeLink.wf (LTH_COLMAP n i) LTH_COLMAP_PHYS v.toNat).renameLoops n).powerAdcs n)) ∧
  (∀ (n : Fin 8) (col : Bool) (i : Fin 520) (v : Word) (s : State), s.blockOff .lth n = false →
      (s.lathe n).svc ≠ .outOfService → (s.lathe n).svc ≠ .off → exec (.lthMapWrite n col i v) s = .next s.wakeLink) ∧
  (∀ (n : Fin 8) (s : State), Canon s → (s.lathe n).svc = .starting → s.deep n = false →
      Completes (.lasersLocked n) s fun t => t.lathe n = { s.lathe n with svc := .calibrating } ∧
        (∀ i, i < 11 → s.rf (LTH_LASER n i) LTH_LASER_STATE ≠ 4 → t.rf (LTH_LASER n i) LTH_LASER_STATE = 3) ∧
        ((s.cal n).st = .idle ∨ (s.cal n).st = .waiting → (t.cal n).st = .slot)) ∧
  (∀ (n : Fin 8) (s : State), Canon s → (s.lathe n).svc = .quiescing → s.gangIdle n = true → (s.lathe n).quiesceCal = false → (s.lathe n).oosCause ≠ 1 →
      Completes (.quiesceEnd n) s fun t => (t.lathe n).svc = .outOfService ∧ (t.lathe n).oosCause = (s.lathe n).oosCause ∧ (t.lathe n).cur = none) ∧
  (∀ (n : Fin 8) (s : State), (s.lathe n).svc = .quiescing → s.gangIdle n = true → (s.lathe n).quiesceCal = false → (s.lathe n).oosCause = 1 →
      exec (.quiesceEnd n) s = .next
        ((((s.lastGuard n).modLathe n fun l => { l with svc := .outOfService, quiesceCal := false, cur := none }).oosEvent n 1).tryService n))

/-- Queues, acceptance, start, commit, abort and timeout of programs complete (R196, R193, R194, R7, R227, R228, R229, R200, R197, R77,
R234, R198). Enabling a queue is taken or refused by its size and alignment; a doorbell moves the tail or posts QUEUE_ERROR; a program
is accepted, started, committed, aborted, retired after an abort, or ended by its timeout. -/
def Obligations.ProgramQueues : Prop :=
  (∀ (b : Fin 8) (n i : Nat) (s : State), s.gang b = b.val → (s.engine b).progs.length < 1024 → (s.lathe b).svc ≠ .off → s.nextQueue b = some (n, i) →
      exec (.programAccept b) s = .next (s.acceptFrom b n i)) ∧
  (∀ (n i : Fin 8) (v : Word) (s : State), Canon s → s.blockOff .str n = false →
      let u := s.wakeLink.wr (STR_SQ_CFG n i) (v &&& 0x31F)
      let base := u.rf64 (STR_SQ_BASE n i) STR_SQ_BASE_BASE
      let log := u.rf (STR_SQ_CFG n i) STR_SQ_CFG_LOG2_SIZE
      6 ≤ log → log ≤ 16 → base % (8 * 2 ^ log) = 0 → (match region base with | .hbm _ _ | .aperture _ _ => u.mapped base | _ => false) = true →
      exec (.sqEnable n i v) s = .next u) ∧
  (∀ (n i : Fin 8) (v : Word) (s : State), s.blockOff .str n = false →
      let u := s.wakeLink.wr (STR_SQ_CFG n i) (v &&& 0x31F)
      let log := u.rf (STR_SQ_CFG n i) STR_SQ_CFG_LOG2_SIZE
      u.flag (STR_SQ_CFG n i) STR_SQ_CFG_EN = true → (log < 6 ∨ 16 < log ∨ u.rf64 (STR_SQ_BASE n i) STR_SQ_BASE_BASE % (8 * 2 ^ log) ≠ 0) →
      exec (.sqEnable n i v) s = .next ((u.wb (STR_SQ_CFG n i) STR_SQ_CFG_EN false).post 0x508 cFAULT (unitOf 1 n) 0xFFFF [(0x10, n), (0x11, 8 * n + i), (0x12, 1)])) ∧
  (∀ (n i : Fin 8) (v : Word) (s : State), s.blockOff .str n = false → v.toNat < s.wakeLink.sqSize n i →
      exec (.sqDoorbell n i v) s = .next (s.wakeLink.wf (STR_SQ_TAIL n i) ⟨0, 16⟩ v.toNat)) ∧
  (∀ (n i : Fin 8) (v : Word) (s : State), s.blockOff .str n = false → s.wakeLink.sqSize n i ≤ v.toNat →
      exec (.sqDoorbell n i v) s = .next (s.wakeLink.post 0x508 cFAULT (unitOf 1 n) 0xFFFF [(0x10, n), (0x11, 8 * n + i), (0x12, 2)])) ∧
  (∀ (b : Fin 8) (x : Prog) (s : State), Canon s → ((s.engine b).progs.filter fun x => x.st != .accepted).length < 16 →
      ((s.members b).all fun n => (s.lathe n).svc == .inService) = true → (s.engine b).progs.find? (fun x => x.st == .accepted) = some x →
      Completes (.programStart b) s fun t =>
        (t.engine b).progs = (s.engine b).progs.map fun y => if y.no = x.no then { y with st := .started, startClock := s.clock, beganFt := s.ft.toNat } else y) ∧
  (∀ (b : Fin 8) (p : Nat) (x : Prog) (s : State), s.prog b p = some x → x.st = .started → s.committed b x = true →
      exec (.programCommit b p) s = .next (s.retire b x false false true)) ∧
  (∀ (n : Fin 8) (v : Word) (s : State), s.blockOff .str n = false →
      let u := s.wakeLink
      let arg := u.rd (STR_ABORT_ARG n)
      (v.toNat % 4 = 0 → exec (.strAbort n v) s = .next (u.abortWhere n 1 fun x => x.tag == arg)) ∧
      (v.toNat % 4 = 1 → exec (.strAbort n v) s = .next (u.abortWhere n 1 fun x => x.ctx.toNat == arg.toNat % 256)) ∧
      (v.toNat % 4 = 2 → exec (.strAbort n v) s = .next (u.abortWhere n 1 fun _ => true))) ∧
  (∀ (b : Fin 8) (p : Nat) (x : Prog) (s : State), s.prog b p = some x → x.st = .aborting → s.outstanding b p = 0 →
      (∀ n ∈ s.accMembers b, ∀ g, g < 8 → (s.group n g).owner = (b.val, p) → (s.group n g).st ≠ .invalid ∧ (s.group n g).st ≠ .draining) →
      exec (.programAbortRetire b p) s = .next (s.retire b x true false true)) ∧
  (∀ (b : Fin 8) (p : Nat) (x : Prog) (s : State), s.prog b p = some x → x.st = .started → x.timeout ≠ 0 → x.startClock + 1000 * x.timeout ≤ s.clock →
      exec (.programTimeoutExpiry b p) s = .next ((s.post 0x509 cFAULT (unitOf 1 b) x.ctx.toNat [(0x10, b), (0x11, x.current), (0x14, x.tag.toNat)]).abort b p 6))

/-- LOAD, the end of a bank write and a refresh complete (R50, R202, R254, R280, R47, R61, R54, R56, R57, R81, R82, R51). A LOAD that may
start and finds the idle bank free takes its tile; the end of a bank write leaves the bank PENDING; a refresh starts when the live bank
has aged. -/
def Obligations.WeightUnit : Prop :=
  (∀ (b : Fin 8) (p layer src mst : Nat) (live : Bool) (k : Fin 32) (glitch : List (Nat × Nat)) (o : State),
      let s := o.pollDisplaced b
      o.stage b p k = some (.load live layer src mst) → s.mayStart b p k = true →
      ((s.members b).all fun n => ((s.lathe n).svc == .inService || (s.lathe n).svc == .quiescing) && (s.lathe n).idleFree s.clock &&
        (s.lathe n).displaced.isEmpty && (s.lathe n).wait.isNone && (s.lathe n).arbs.isEmpty) = true →
      (layer < 4096 → s.gate layer (s.ctxOf b p) = .go) →
      exec (.load b p k glitch) o = .next ((s.members b).foldl (fun (acc : State) n =>
        if acc.stageSt b p k == .running && ((acc.prog b p).any fun x => x.st == .started) then
          acc.loadPlane n { eng := b, prog := p, stage := k, addr := src + (n - b) * mst, livePlane := live, layer := layer, ctx := BitVec.ofNat 8 (s.ctxOf b p) }
            fun j => glitch.contains (n - b.val, j)
        else acc) (s.setStage b p k .running))) ∧
  (∀ (n : Fin 8) (s : State), Canon s → (s.lathe n).idleBank.st = .writing → (s.lathe n).wait = none → (s.lathe n).cur.isSome = true →
      ((s.lathe n).idleBank.refresh = true ∨ (s.lathe n).idleBank.replay = true ∨ (s.lathe n).idleBank.relive = true) →
      Completes (.bankWriteEnd n) s fun t => (t.lathe n).idleBank = { (s.lathe n).idleBank with st := .pending, wrote := s.clock } ∧
        (t.lathe n).liveBank = (s.lathe n).liveBank) ∧
  (∀ (n : Fin 8) (x : Stroke) (o : State), Canon o →
      let s := o.pollDisplaced n
      (s.lathe n).cur = some x →
      (s.lathe n).liveBank.wrote + (s.rd (LTH_BANK_AGE_MAX n)).toNat * 1000 ≤ x.startClock →
      (∀ m ∈ s.members n, (s.lathe m).cur.isSome = true ∧ (s.lathe m).hasLive = true ∧ (s.lathe m).arbs = [] ∧ (s.lathe m).idleBank.st ≠ .live ∧ (s.lathe m).idleBank.refresh = false ∧
        (s.lathe m).idleBank.replay = false) →
      Completes (.refreshStart n) o fun t => ∀ m ∈ s.members n, (t.lathe m).idleBank.st = .writing ∧ (t.lathe m).idleBank.refresh = true ∧
        (t.lathe m).idleBank.image = (s.lathe m).liveBank.image ∧ (t.lathe m).idleBank.start = max s.clock ((s.lathe m).switched + 2) ∧
        (t.lathe m).liveBank = (s.lathe m).liveBank)

/-- RUN, the end of the data, additions and verdicts complete (R28, R51, R60, R383, R29, R82, R129, R384, R77, R476, R150, R388). A RUN that
may start begins its stroke; the end of its data ends the symbols; one symbol's outputs are added; a verdict passes or fails the stroke. -/
def Obligations.Strokes : Prop :=
  (∀ (b : Fin 8) (p : Nat) (k : Fin 32) (parity : Option (Nat × Nat)) (x : Prog) (r : RunOp) (o : State),
      let s := o.pollDisplaced b
      o.prog b p = some x → (o.stage b p k).bind Stage.runOp = some r → s.mayStart b p k = true →
      ((s.members b).all fun n => ((s.lathe n).svc == .inService || (s.lathe n).svc == .quiescing) && (s.lathe n).cur.isNone && !(s.lathe n).dip &&
        (s.lathe n).arbs.isEmpty) = true →
      (x.paced = true → x.startFt ≤ s.ft.toNat) → ((s.accMembers b).all fun n => (s.group n r.group).held.isNone) = true →
      (r.layer < 4096 → s.gate r.layer x.ctx.toNat = .go) →
      ((s.members b).all fun n => (s.lathe n).bankGo r.newPlane == .ready || (s.lathe n).bankGo r.newPlane == .switch) = true →
      exec (.run b p k parity) o = .next (s.runStart b p k r x parity)) ∧
  (∀ (b : Fin 8) (x : Stroke) (s : State), Canon s → s.members b = [b.val] → s.deep b = false → (s.lathe b).cur = some x →
      s.nextRun b ≠ some true → (s.lathe b).arbs = [] → (s.lathe b).idleBank.refresh = false →
      Completes (.strokeDataEnd b) s fun t => (t.lathe b).cur = none ∧ (t.lathe b).strokes = (s.lathe b).strokes ++ [{ x with endClock := s.clock }] ∧
        (t.lathe b).guardDue = none ∧ (t.lathe b).liveB = (s.lathe b).liveB) ∧
  (∀ (n : Fin 8) (dev spares : List Int) (x : Stroke) (s : State), Canon s →
      (s.lathe n).strokes.find? (fun y => !decide (y.t ≤ y.outs.length)) = some x →
      let codes := s.codesOf n x.bank x.lanes x.outs.length dev
      exec (.accumulatorAdd n dev spares) s =
        let u := (s.overSymbol n x codes).gather n x x.outs.length codes
        let u := if u.groupLive n x then u.addSymbol n x x.outs.length codes else u
        let u := if x.outs.length + 1 = x.t && (u.group n x.group).gen = x.ggen then u.modGroup n x.group fun g => { g with inflight := g.inflight - 1 } else u
        .next (u.modLathe n fun l => { l with strokes := l.strokes.map fun y => if y = x then { x with outs := codes :: x.outs } else y })) ∧
  (∀ (n : Fin 8) (x : Stroke) (rest : List Stroke) (s : State), (s.lathe n).strokes = x :: rest → x.t ≤ x.outs.length →
      s.failingGroups n x.bank x.outs = [] →
      exec (.strokeVerdict n) s = .next ((((s.bump FLT_STAT_TESTS 8).modLathe n fun l => { l with strokes := rest }.journalise x).lessVerdict n x).settleRun x.eng x.prog x.stage)) ∧
  (∀ (n : Fin 8) (x : Stroke) (rest : List Stroke) (s : State), Canon s → (s.lathe n).strokes = x :: rest → x.t ≤ x.outs.length →
      s.failingGroups n x.bank x.outs ≠ [] → x.drained = none → 0 < s.jrnlMib → (s.lathe n).inJournal x = true → (s.lathe n).arbs ≠ [] →
      Completes (.strokeVerdict n) s fun t =>
        ∃ a : Arb, (t.lathe n).arbs = (s.lathe n).arbs ++ [a] ∧ a.stroke = x ∧ a.failing = s.failingGroups n x.bank x.outs ∧ a.started = false ∧
          (t.lathe n).strokes = rest)

/-- Replays, arbitration and corrections complete (R398, R405, R406, R628, R399, R400, R401, R402, R403, R408). The replay of the oldest
arbitration starts when its replay plane is ready and the lathes that replay are free; an arbitration ends in the outcomes of its
groups; a correction is applied; a suspect stroke's replay ends. -/
def Obligations.ReplaysAndCorrections : Prop :=
  (∀ (n : Fin 8) (a : Arb) (rest : List Arb) (s : State), Canon s → (s.lathe n).arbs = a :: rest → a.started = false →
      ((s.lathe n).strokes.all fun x => x.t ≤ x.outs.length) = true →
      ((s.replayMates n).all fun m => (s.lathe m).cur.isNone && !(s.lathe m).dip) = true →
      ((s.replayMates n).all fun m => (s.lathe m).idleBank.st == .pending && (s.lathe m).idleBank.replay) = true ∨
        ((s.lathe n).liveBank.src = a.stroke.bank.src ∧
          ((s.replayMates n).all fun m => (s.lathe m).hasLive && (s.lathe m).liveBank.replay && !(s.lathe m).idleBank.replay) = true) →
      Completes (.replayStart n) s fun t => ∃ ls, (t.lathe n).arbs =
        { a with started := true, lanes := ls,
                 stroke := ((((s.lathe n).journal ++ (s.lathe n).strokes).find? (sameStroke a.stroke)).getD a.stroke) } :: rest) ∧
  (∀ (n : Fin 8) (a : Arb) (rest : List Arb) (s : State), (s.lathe n).arbs = a :: rest → a.started = true → a.isSuspect = false → a.stroke.t ≤ a.outs.length → a.correcting = [] →
      let vs := a.failing.map fun g => (g, s.outcomeOf n a g)
      let v := vs.foldl (fun (acc : State) e =>
        ((acc.bump (FLT_STAT_OUTCOME e.2.outcome) 1).arbEvent n a.stroke a.failing e.1 e.2.outcome ((a.spare e.1).getD 0xFFFF)
          (if e.2.outcome = 5 then s.colMap n e.2.column else 0xFFFF) (((a.peaks.find? fun q => q.1 == e.1).map (·.2)).getD 0) 0).applyOutcome n a e.1 e.2) s
      let u := if vs.any fun e => decide (e.2.outcome ≥ 5) then v.lateDrain n a else v
      let lost := (vs.filter fun e => decide (e.2.outcome ≥ 6)).map (·.1)
      let fix := (vs.filter fun e => e.2.outcome == 5).map fun e => (e.1, !e.2.a1)
      (lost ≠ [] → exec (.arbitrationEnd n) s =
        .next (lost.foldl (fun (acc : State) g => acc.askCal n 2 0 g a.stroke.ctx.toNat) (u.leaveNow n .outOfService 6))) ∧
      (lost = [] → fix ≠ [] → a.stroke.drained = none → u.groupLive n a.stroke = true →
        exec (.arbitrationEnd n) s = .next (u.modLathe n fun l => { l with arbs := { a with correcting := fix } :: rest })) ∧
      (lost = [] → (fix = [] ∨ a.stroke.drained ≠ none ∨ u.groupLive n a.stroke = false) → exec (.arbitrationEnd n) s = .next (u.finishArb n))) ∧
  (∀ (n : Fin 8) (a : Arb) (rest : List Arb) (s : State), (s.lathe n).arbs = a :: rest → a.correcting ≠ [] →
      exec (.correctionEnd n) s = .next ((s.correct n a).finishArb n)) ∧
  (∀ (n : Fin 8) (a : Arb) (rest : List Arb) (s : State), (s.lathe n).arbs = a :: rest → a.started = true → a.isSuspect = true → a.stroke.t ≤ a.outs.length →
      a.correcting = [] →
      let u := s.bump FLT_STAT_TESTS 8
      let failing := u.failingGroups n (laneOfLathe a.lanes n).bank a.outs
      (failing ≠ [] → exec (.suspectReplayEnd n) s = .next (((u.bump FLT_STAT_FAILS 1).suspectPoison n a 4).finishArb n)) ∧
      (failing = [] → (a.stroke.drained ≠ none ∨ u.drainingOf n a.stroke = true) → exec (.suspectReplayEnd n) s = .next ((u.suspectPoison n a 3).finishArb n)) ∧
      (failing = [] → a.stroke.drained = none → u.drainingOf n a.stroke = false → u.groupLive n a.stroke = false → exec (.suspectReplayEnd n) s = .next (u.finishArb n)) ∧
      (failing = [] → a.stroke.drained = none → u.drainingOf n a.stroke = false → u.groupLive n a.stroke = true →
        exec (.suspectReplayEnd n) s = .next (u.modLathe n fun l => { l with arbs := { a with correcting := (List.range 8).map fun g => (g, false) } :: rest })))

/-- Span moves start, end or are dropped, and an INVALID group frees (R156, R162, R157, R158, R159, R160, R145, R152). A span move whose
group has no row in flight starts when the finisher is idle and no other extended group holds its span rows; its end opens the group, or
closes it where a DRAIN waits on it, with its accumulator count at zero and the tile's EXTENDED flag set; a move whose group became
INVALID only ends; an INVALID group with no row in flight and no move frees, and no other group changes. -/
def Obligations.SpanMovesAndInvalidGroups : Prop :=
  (∀ (n g : Fin 8) (s : State), Canon s → (s.group n g).st = .spanMove → (s.group n g).moving = false → (s.group n g).inflight = 0 →
      (s.group n g).verdicts = 0 → (s.lathe n).finOp = 0 → s.spanHeld n g = false →
      Completes (.spanMoveStart n g) s fun t => t.group n g = { s.group n g with moving := true } ∧ t.lathe n = { s.lathe n with finOp := 2, finGroup := g }) ∧
  (∀ (n g : Fin 8) (s : State), Canon s → (s.group n g).moving = true → (s.group n g).st = .spanMove → 0 < (s.group n g).rows → (s.group n g).rowBase < 8192 →
      Completes (.spanMoveEnd n g) s fun t => (t.group n g).st = (if (s.group n g).held = none ∧ (s.group n g).drain ≠ none then .closing else .open) ∧ (t.group n g).moving = false ∧ (t.group n g).extended = true ∧
        (t.group n g).count = 0 ∧ (t.group n g).rowBase = (s.group n g).rowBase ∧ t.flag (ACC_TILE n (tileOf (s.group n g).rowBase)) ACC_TILE_EXTENDED = true) ∧
  (∀ (n g : Fin 8) (s : State), Canon s → (s.group n g).moving = true → (s.group n g).st ≠ .spanMove →
      Completes (.spanMoveEnd n g) s fun t => t.group n g = { s.group n g with moving := false } ∧ (t.lathe n).finOp = 0 ∧ t.mem = s.mem) ∧
  (∀ (n g : Fin 8) (s : State), Canon s → (s.group n g).st = .invalid → (s.group n g).inflight = 0 → (s.group n g).moving = false →
      Completes (.invalidGroupFree n g) s fun t => t.group n g = { gen := (s.group n g).gen } ∧ ∀ m h : Nat, m * 8 + h ≠ n * 8 + g → t.group m h = s.group m h)

/-- Drains, updates, the rounding seed and scale records complete (R108, R164, R109, R99, R33, R110, R145, R165, R166, R184, R112, R148). A
DRAIN waits on its group or starts it, an update runs, a bad record ends the program; a started drain reads its group, after the old
data where they come from another device; its end frees the group, ends an update, or ends the stage once its last line is applied; a
write of FIN_SR_SEED seeds the generators; a scale record takes the counts of a drain once, and is evaluated once. That values are
little-endian and wrap at their width is the record's layout. -/
def Obligations.Finisher : Prop :=
  (∀ (b : Fin 8) (p : Nat) (k : Fin 32) (x : Prog) (o : DrainOp) (parity : Option Nat) (s : State), Canon s → s.prog b p = some x → (s.stage b p k).bind Stage.drainOp = some o →
      s.mayStart b p k = true → o.form ≠ 10 → s.runsBegun b p k x o.group = true → s.badRecord o = none →
      s.accMembers b = [b.val] → (s.group b o.group).st = .open → (s.group b o.group).drain = none → (s.group b o.group).ctx = x.ctx → (s.group b o.group).held = none →
      Completes (.drain b p k parity) s fun t => t.group b o.group = { s.group b o.group with drain := some ⟨b, p, k⟩, owner := (b.val, p), st := .closing }) ∧
  (∀ (b : Fin 8) (p : Nat) (k : Fin 32) (x : Prog) (o : DrainOp) (parity : Option Nat) (s : State), s.prog b p = some x → (s.stage b p k).bind Stage.drainOp = some o →
      s.mayStart b p k = true → o.form = 10 → s.badRecord o = none → ((s.members b).all fun n => (s.lathe n).finOp = 0) = true →
      exec (.drain b p k parity) s = .next ((s.members b).foldl (fun (acc : State) n => acc.runUpdate n (b, p, k) x.ctx o (o.dst + (n - b) * o.mstride) parity)
        (s.setStage b p k .running))) ∧
  (∀ (b : Fin 8) (p : Nat) (k : Fin 32) (x : Prog) (o : DrainOp) (a why : Nat) (parity : Option Nat) (s : State), s.prog b p = some x → (s.stage b p k).bind Stage.drainOp = some o →
      s.mayStart b p k = true → (o.form = 10 ∨ s.runsBegun b p k x o.group = true) → s.badRecord o = some (a, why) →
      exec (.drain b p k parity) s = .next (((s.readBad b x.ctx o a).post 0x303 cFAULT (unitOf 1 b) x.ctx.toNat [(0x10, b), (0x11, why), (0x14, a)]).faultAbort b p k 9)) ∧
  (∀ (n g : Fin 8) (parity : Option (Nat × Bool)) (d : DrainRef) (o : DrainOp) (s : State), Canon s → (s.group n g).drain = some d →
      (s.stage d.eng d.prog d.stage).bind Stage.drainOp = some o →
      (s.group n g).st = .closing → (s.group n g).inflight = 0 → (o.early = true ∨ (s.group n g).verdicts = 0) → (s.lathe n).finOp = 0 → s.firstDrain n g d = true →
      let u := (s.modGroup n g fun x => { x with st := .draining }).modLathe n fun l => { l with finOp := 1, finGroup := g }
      let mark (y : Stroke) : Stroke := if y.group = g.val && y.ggen = (s.group n g).gen then { y with drained := (u.drainRange n g).map fun r => (r.1, r.2.1), early := o.early } else y
      let w := u.modLathe n fun l => { l with
        strokes := l.strokes.map mark, journal := l.journal.map mark, past := l.past.map mark, arbs := l.arbs.map fun a => { a with stroke := mark a.stroke } }
      let dst := o.dst + (n.val - d.eng) * o.mstride
      exec (.drainStart n g parity) s = .next (if w.oldRows n o dst (s.group n g).rows = [] then w.runDrain n d o (s.group n g).ctx parity
        else w.askOld n (d.eng, d.prog, d.stage) (s.group n g).ctx dst (w.oldRows n o dst (s.group n g).rows))) ∧
  (∀ (n g : Fin 8) (parity : Option (Nat × Bool)) (d : DrainRef) (o : DrainOp) (w : OldWait) (s : State), (s.group n g).drain = some d →
      (s.stage d.eng d.prog d.stage).bind Stage.drainOp = some o → (s.group n g).st = .draining → (s.lathe n).finOp = 1 → (s.lathe n).finGroup = g.val →
      (s.lathe n).old = some w → w.left = 0 →
      exec (.drainStart n g parity) s = .next ((s.runDrain n d o (s.group n g).ctx parity).modLathe n fun l => { l with old := none })) ∧
  (∀ (n : Fin 8) (s : State), Canon s → (s.lathe n).finOp = 1 → (s.group n (s.lathe n).finGroup).st = .draining → s.finStall n = 0 →
      (s.group n (s.lathe n).finGroup).drain = none →
      Completes (.drainEnd n) s fun t => t.group n (s.lathe n).finGroup = { gen := (s.group n (s.lathe n).finGroup).gen } ∧ (t.lathe n).finOp = 0 ∧
        (t.lathe n).seen = sdrop (s.lathe n).seen (s.group n (s.lathe n).finGroup).rowBase (s.group n (s.lathe n).finGroup).rows ∧
        t.scaleUpd = s.scaleUpd ++ (s.group n (s.lathe n).finGroup).upd) ∧
  (∀ (n : Fin 8) (who : Nat × Nat × Nat) (upd : List ScaleUpd) (s : State), (s.lathe n).finOp = 3 → (s.lathe n).upd = some (who, upd) →
      exec (.drainEnd n) s = .next (({ s.modLathe n fun l => { l with finOp := 0, upd := none } with scaleUpd := s.scaleUpd ++ upd } : State).settleStage (some who))) ∧
  (∀ (n : Fin 8) (d : DrainRef) (s : State), (s.lathe n).finOp = 1 → (s.group n (s.lathe n).finGroup).st = .draining → s.finStall n = 0 →
      (s.group n (s.lathe n).finGroup).drain = some d →
      let x := s.group n (s.lathe n).finGroup
      exec (.drainEnd n) s = .next ((({ (s.setGroup n (s.lathe n).finGroup { gen := x.gen }).modLathe n
          fun l => { l with finOp := 0, seen := sdrop l.seen x.rowBase x.rows } with scaleUpd := s.scaleUpd ++ x.upd } : State).bump (FIN_STAT_ROWS n) x.rows).settleStage
        (some (d.eng, d.prog, d.stage)))) ∧
  (∀ (n : Fin 8) (v : Word) (s : State), Canon s → s.blockOff .fin n = false →
      Completes (.seedWrite n v) s fun t => t.rd (FIN_SR_SEED n) = v ∧ t.lathe n = { s.lathe n with seed := v, gen := [] }) ∧
  (∀ (u : ScaleUpd) (rest : List ScaleUpd) (s : State), Canon s → s.scaleUpd = u :: rest → s.mapped u.addr = true → isMem u.addr = true → s.inJournal u.addr = false → u.addr % 64 = 0 →
      Completes .scaleRecordUpdate s fun t => t.scaleUpd = rest ∧
        t.num (u.addr + 8) 8 = (s.num (u.addr + 8) 8 + u.elements) % 2 ^ 64 ∧
        t.num (u.addr + 0x10) 8 = (s.num (u.addr + 0x10) 8 + u.saturated) % 2 ^ 64 ∧
        t.num (u.addr + 0x18) 4 = (fmaxMag (BitVec.ofNat 32 (s.num (u.addr + 0x18) 4)) u.maxabs).toNat ∧
        t.num (u.addr + 0x1C) 4 = (fmaxMag (BitVec.ofNat 32 (s.num (u.addr + 0x1C) 4)) u.outMaxabs).toNat ∧
        t.num (u.addr + 0x24) 4 = (s.num (u.addr + 0x24) 4 + u.nans) % 2 ^ 32) ∧
  (∀ (u : ScaleUpd) (rest : List ScaleUpd) (s : State), s.scaleUpd = u :: rest → s.mapped u.addr = false →
      exec .scaleRecordUpdate s = .next ((({ s with scaleUpd := rest } : State).unmappedEvent (weightReq u.lathe) (some u.ctx) (s.glob u.addr) true).settleStage u.who)) ∧
  (∀ (u : ScaleUpd) (rest : List ScaleUpd) (s : State), s.scaleEval = u :: rest →
      exec .scaleRecordEvaluate s = .next ((({ s with scaleEval := rest } : State).judgeScale u).settleStage u.who))

/-- SIGNAL, WAIT, SWAP, FENCE, AT and REDUCE stages complete (R210, R212, R214, R208, R205, R211, R215, R269, R206, R270, R316, R271). A
SIGNAL adds here, sends to another device, or ends its program on misuse; a WAIT queues, and leaves at its timeout; a SWAP, a FENCE and
an AT complete as their conditions hold; a REDUCE sends its lines. -/
def Obligations.OrderingStages : Prop :=
  (∀ (b : Fin 8) (p sem dev count : Nat) (k : Fin 32) (remote : Bool) (x : Prog) (s : State), s.prog b p = some x → s.stage b p k = some (.signal sem dev remote count) →
      s.mayOrder b p k = true → s.writesVisible b p k x = true → (remote = true → dev = s.devId) → s.semMisuse sem x.ctx.toNat = false →
      let u := (s.bump SEM_STAT_SIGNALS 1).addSem sem count s.devId x.ctx.toNat
      exec (.signal b p k) s = .next (if u.1 then u.2.faultAbort b p k 0x0C else u.2.setStage b p k .done)) ∧
  (∀ (b : Fin 8) (p sem dev count : Nat) (k : Fin 32) (x : Prog) (s : State), s.prog b p = some x → s.stage b p k = some (.signal sem dev true count) →
      s.mayOrder b p k = true → s.writesVisible b p k x = true → dev ≠ s.devId →
      exec (.signal b p k) s = .next ((s.setStage b p k .running).issue { unit := .lathe b, ctx := some x.ctx, who := some (b.val, p, k.val) }
        { typ := .signal, rset := s.routeSet b 4, dst := BitVec.ofNat 16 dev, addr := BitVec.ofNat 40 sem, arg := BitVec.ofNat 32 count })) ∧
  (∀ (b : Fin 8) (p sem dev count : Nat) (k : Fin 32) (x : Prog) (s : State), s.prog b p = some x → s.stage b p k = some (.signal sem dev false count) →
      s.mayOrder b p k = true → s.writesVisible b p k x = true → s.semMisuse sem x.ctx.toNat = true →
      exec (.signal b p k) s = .next ((s.semMisuseEvent sem x.ctx.toNat).abort b p 0x0C k)) ∧
  (∀ (b : Fin 8) (p sem count timeout : Nat) (k : Fin 32) (x : Prog) (s : State), s.prog b p = some x → s.stage b p k = some (.wait sem count timeout) →
      s.mayOrder b p k = true → s.semMisuse sem x.ctx.toNat = false →
      exec (.wait b p k) s = .next (((s.setStage b p k .running).setWaiters sem
        (s.waitersOf sem ++ [{ eng := b, prog := p, stage := k, count := count, since := s.clock, timeout := timeout }])).testWaiters sem)) ∧
  (∀ (i : Fin 8192) (b : Fin 8) (p : Nat) (k : Fin 32) (w : Waiter) (s : State),
      (s.waitersOf i).find? (fun w => w.eng == b.val && w.prog == p && w.stage == k.val) = some w → w.timeout ≠ 0 → w.since + 1000 * w.timeout ≤ s.clock →
      let u := (s.setWaiters i ((s.waitersOf i).filter fun w => !(w.eng == b.val && w.prog == p && w.stage == k.val))).bump SEM_STAT_TIMEOUTS 1
      exec (.waitTimeout i b p k) s =
        .next (((u.post 0x505 cFAULT 0 (u.ctxOf b p) [(0x10, i), (0x12, (u.rd (SEM_VAL i)).toNat), (0x16, b)]).testWaiters i).abort b p 0x0C k)) ∧
  (∀ (b : Fin 8) (p layer source atFt : Nat) (k : Fin 32) (x : Prog) (s : State), Canon s → s.prog b p = some x → s.stage b p k = some (.swap layer source atFt) →
      s.mayStart b p k = true → s.wtbValid layer = true → (s.wtbState layer = stOPEN ∨ s.wtbState layer = stFAULT) → atFt ≤ s.ft.toNat →
      Completes (.swap b p k) s fun t => t.swaps = s.swaps ++ [{ entry := layer, source := source, raised := s.clock, ctx := x.ctx }] ∧
        (t.engine b).progs = (s.engine b).progs.map fun y => if y.no = p then { y with prog := y.prog.set k .done, doneFt := (k.val, s.ft.toNat) :: y.doneFt } else y) ∧
  (∀ (b : Fin 8) (p scope : Nat) (k : Fin 32) (x : Prog) (s : State), s.prog b p = some x → s.stage b p k = some (.fence scope) → s.mayOrder b p k = true →
      (x.prog.take k).all (· == .done) = true → s.writesVisible b p k x = true →
      (scope = 0 ∨ ((s.engine b).progs.all fun y => decide (y.no ≥ p) || (y.st == .started && y.prog.all (· == .done) && decide (s.outstanding b y.no = 0))) = true) →
      exec (.fence b p k) s = .next (s.setStage b p k .done)) ∧
  (∀ (b : Fin 8) (p ft : Nat) (k : Fin 32) (s : State), s.stage b p k = some (.at ft) → s.mayOrder b p k = true → ft ≤ s.ft.toNat →
      exec (.atStage b p k) s = .next (s.setStage b p k .done)) ∧
  (∀ (b : Fin 8) (p : Nat) (k : Fin 32) (op fmt src dst len : Nat) (s : State), s.stage b p k = some (.reduce op fmt src dst len) → s.mayStart b p k = true →
      let u := s.setStage b p k .running
      let l := src % 2 ^ 40
      let ctx := BitVec.ofNat 8 (s.ctxOf b p)
      let who := (b.val, p, k.val)
      let ask := (runs l len).map fun e => (e.1, e.2, e.1 - l)
      let there (j : Nat) : Bool := u.readable (l + 64 * j)
      let data := (List.range (len / 64)).flatMap fun j => if there j then u.bytes (l + 64 * j) 64 else List.replicate 64 0
      let v := match (List.range (len / 64)).find? fun j => !there j with
        | some j => u.unmappedEvent (.lathe b) (some ctx) (src + 64 * j) false
        | none => u
      (op = 8 → exec (.reduce b p k) s = .next ((u.reduceDst b 3 who ctx 8 4 dst none (List.replicate len 0) fun _ => false).settleStage (some who))) ∧
      (op ≠ 8 → u.endOf src = .here → exec (.reduce b p k) s =
        .next ((((v.countMarks l len).reduceDst b 3 who ctx op fmt dst (some src) data fun j => !there j || u.mark (l + 64 * j)).countInf l len false).settleStage (some who))) ∧
      (op ≠ 8 → u.endOf src = .away → exec (.reduce b p k) s = .next ((ask.foldl (fun (acc : State) e =>
        acc.issue { lines := e.2.1, unit := .lathe b, ctx := some ctx, who := some who, red := some (op, fmt, dst + e.2.2) }
          { typ := .read, rset := acc.routeSet b 3, dst := BitVec.ofNat 16 (src / 2 ^ 40), addr := BitVec.ofNat 40 e.1, arg := BitVec.ofNat 32 e.2.1 }) u).settleStage (some who))) ∧
      (op ≠ 8 → u.endOf src = .host → exec (.reduce b p k) s = .next ((u.askHost (ask.map fun e =>
        { addr := e.1, len := 64 * e.2.1, who := some who, ctx := ctx.setWidth 16, lathe := b, red := some (op, fmt, dst + e.2.2), since := u.clock })).settleStage (some who))))

/-- FETCH, descriptors and transfers complete (R202, R206, R219, R220, R217, R221, R223, R251, R253, R321). A FETCH claims its descriptor;
ARM commits or is rejected; CANCEL withdraws; a transfer ends or takes its rows. -/
def Obligations.StreamUnit : Prop :=
  (∀ (b : Fin 8) (p d m img : Nat) (k : Fin 32) (s : State), s.stage b p k = some (.fetch d m img) → s.mayStart b p k = true →
      (s.fetchArm b p k (b.val + m) d img).1 = true →
      exec (.fetch b p k) s = .next ((s.fetchArm b p k (b.val + m) d img).2.fetchClaim b p k (b.val + m) d)) ∧
  (∀ (n : Fin 8) (d : Fin 256) (x : Desc) (s : State), Canon s → s.blockOff .str n = false →
      (s.wakeLink.desc n d).armWith (s.wakeLink.regArm n d) = .ok x →
      Completes (.descArm n d) s fun t => t.desc n d = x ∧ ∀ e : Nat, e < 256 → e ≠ d.val → t.desc n e = s.desc n e) ∧
  (∀ (n : Fin 8) (d : Fin 256) (why : Nat) (s : State), s.blockOff .str n = false →
      (s.wakeLink.desc n d).armWith (s.wakeLink.regArm n d) = .error why →
      exec (.descArm n d) s = .next (s.wakeLink.rejectArm n d why 0xFFFF)) ∧
  (∀ (n : Fin 8) (d : Fin 256) (s : State), Canon s → s.blockOff .str n = false →
      (((s.desc n d).st = .armed ∨ (s.desc n d).st = .armedShadow) → Completes (.descCancel n d) s fun t => t.desc n d = { s.desc n d with st := .idle }) ∧
      ((s.desc n d).st = .busyShadow → Completes (.descCancel n d) s fun t => t.desc n d = { s.desc n d with st := .busy })) ∧
  (∀ (n : Fin 8) (d : Fin 256) (parity : Option (Nat × Nat)) (s : State), ((s.desc n d).st = .busy ∨ (s.desc n d).st = .busyShadow) →
      (s.desc n d).left = 0 → (s.desc n d).moved = true → s.copiesOpen (s.desc n d).owner = false →
      exec (.transferDone n d parity) s =
        .next ((s.setDesc n d ((s.desc n d).finish (if (s.desc n d).tries = 4 then 3 else 1))).settleStage (some (s.desc n d).owner))) ∧
  (∀ (n : Fin 8) (d : Fin 256) (parity : Option (Nat × Nat)) (s : State), ((s.desc n d).st = .busy ∨ (s.desc n d).st = .busyShadow) →
      (s.desc n d).left = 0 → (s.desc n d).moved = false → s.rowsAgain n d = [] →
      let u := s.moveRows n d parity
      (u.desc n d).left = 0 →
      exec (.transferDone n d parity) s =
        .next (if u.copiesOpen (u.desc n d).owner then u
          else (u.setDesc n d ((u.desc n d).finish (if (u.desc n d).tries = 4 then 3 else 1))).settleStage (some (u.desc n d).owner)))

/-- Layer-table writes, CLEAR and verification complete (R260, R261, R284). Fields of an entry are taken while it is OPEN or not yet VALID,
and held otherwise; CLEAR starts a verification, which reads the records of the home copy in order: where a record is local a sound one
leads to the next, a bad one ends the verification in its failure, and after the last one the entry is OPEN. -/
def Obligations.LayerTable : Prop :=
  (∀ (i : Fin 4096) (v : Word) (s : State), s.blockOff .wtb 0 = false → s.wakeLink.wtbState i = stOPEN → s.wakeLink.wtbValid i = false → v.toNat % 2 = 1 →
      let u := ((s.wakeLink.wb (WTB_CTL i) WTB_CTL_VALID true).wb (WTB_CTL i) WTB_CTL_MIRROR_EN (bit v.toNat 1))
      exec (.wtbWrite i 0 v) s = .next (u.wr (WTB_GEN i) (u.rd DEV_LT_GEN))) ∧
  (∀ (i : Fin 4096) (w : Fin 16) (v : Word) (s : State), s.blockOff .wtb 0 = false → (w.val = 1 ∨ w.val = 2 ∨ w.val = 4 ∨ w.val = 7 ∨ w.val = 8) → s.wakeLink.wtbValid i = false →
      let u := s.wakeLink.wr (WTB_CTL i + 4 * w) v
      exec (.wtbWrite i w v) s =
        .next (u.wb (WTB_CTL i) WTB_CTL_HOST (match region (u.rf64 (WTB_BLANK i) WTB_BLANK_ADDR) with | .aperture _ _ => true | _ => false))) ∧
  (∀ (i : Fin 4096) (w : Fin 16) (v : Word) (s : State), s.blockOff .wtb 0 = false → 1 ≤ w.val → w.val ≤ 8 → s.wakeLink.wtbValid i = true →
      exec (.wtbWrite i w v) s = .next s.wakeLink) ∧
  (∀ (i : Fin 4096) (s : State), s.blockOff .wtb 0 = false → s.wakeLink.wtbState i = stFAULT →
      exec (.wtbClear i) s = .next { s.wakeLink.wf (WTB_CTL i) WTB_CTL_STATE stVERIFYING with verifying := s.verifying ++ [i.val] }) ∧
  (∀ (i : Nat) (rest : List Nat) (s : State), s.verifying = i :: rest → s.swapWait = none →
      exec .verifyEnd s = .next (s.verifyFrom i s.clock (s.recCount i) 0 none) ∧
      (∀ (u : State) (since r : Nat) (first : Option (Sparse Byte × Bool)), u.verifying = i :: rest → u.verifyFrom i since 0 r first =
        ((({ u with verifying := rest } : State).wf (WTB_CTL i) WTB_CTL_STATE stOPEN).wf (WTB_CTL i) WTB_CTL_FAULT_KIND 0).wf (WTB_CTL i) WTB_CTL_FAULT_CTX 0) ∧
      (∀ (u : State) (since more r : Nat), u.hostRecords [u.homePiece i r] = false →
        let q := u.readOnce 8 none none [u.homePiece i r]
        let why := q.2.recFault q.1.1 q.1.2 i (u.recTile i r) (u.wtbVer i) (some (q.2.isHeader i r))
        (why = 0 → u.verifyFrom i since (more + 1) r none = q.2.verifyFrom i q.2.clock more (r + 1) none) ∧
        (why ≠ 0 → u.verifyFrom i since (more + 1) r none =
          ({ q.2.noteFailedRead i with verifying := q.2.verifying.drop 1 } : State).shardFail 8 0x700 why i (u.recTile i r) (u.wtbVer i)
            (u.rf (WTB_CTL i) WTB_CTL_FAULT_CTX) none)))

/-- Swap writing, staged re-reads, shard timeouts and builds complete (R274, R275, R276, R281, R283, R277, R282, R285, R286). The swap
engine starts writing, re-reads a staged header, finishes; a record's timeout ends it as absent; a build starts and ends. -/
def Obligations.SwapEngine : Prop :=
  (∀ (glitch : List (Nat × Nat)) (x : Swap) (rest : List Swap) (s : State), s.swaps = x :: rest → x.writing = false → s.verifying = [] →
      (∀ p, p < 16 → s.flag (DEV_LT_PASS p) DEV_LT_PASS_OPEN = true → (s.rd (WTB_PGEN x.entry)).toNat ≤ (s.rd (DEV_LT_LATCH p)).toNat) →
      s.oldHomeRead x.entry x.raised = false →
      exec (.swapWriteStart glitch) s = .next (((s.wf (WTB_CTL x.entry) WTB_CTL_STATE stWRITING).modSwap fun y =>
        { y with writing := true, began := s.ft.toNat }).goSwap (fun r j => glitch.contains (r, j)) none none)) ∧
  (∀ (x : Swap) (rest : List Swap) (w : RecWait) (s : State), s.swaps = x :: rest → s.swapWait = some w → w.attempt = 0 → w.first = false →
      let a := (s.recPiece x.entry x.next x.source 0).1
      (s.hostRecords [(a, 64)] = true → exec .stagedHeaderReread s = .next (s.askRecord 8 { w with first := true, header := true } [(a, 64)])) ∧
      (s.hostRecords [(a, 64)] = false → (s.readable a = false ∨ s.num (a + 6) 2 = w.ver.toNat ∨ s.mark a = true) →
        exec .stagedHeaderReread s = .next ((s.setWait 8 none).goSwap (fun _ _ => false) (some w.since) none))) ∧
  (∀ (x : Swap) (rest : List Swap) (s : State), s.swaps = x :: rest → x.writing = true → x.done = true →
      Completes .swapWriteEnd s fun t => t.swaps = rest) ∧
  (∀ (n : Fin 8) (w : RecWait) (s : State), (s.lathe n).wait = some w → w.entry < 4096 → w.verify = false →
      w.since + 1000000 * (if s.rf (WTB_TMO w.entry) WTB_TMO_MS = 0 then 50 else s.rf (WTB_TMO w.entry) WTB_TMO_MS) ≤ s.clock →
      exec (.shardTimeout (some n)) s = .next (((s.setWait n none).dropMirror n).shardFail n 0x701 1 w.entry w.tile w.ver.toNat w.src.ctx.toNat (some (w.eng, w.prog, w.stage)))) ∧
  (∀ (w : RecWait) (s : State), s.swapWait = some w → w.entry < 4096 →
      w.since + 1000000 * (if s.rf (WTB_TMO w.entry) WTB_TMO_MS = 0 then 50 else s.rf (WTB_TMO w.entry) WTB_TMO_MS) ≤ s.clock →
      let u : State := if w.verify then { s with verifying := s.verifying.drop 1 } else s
      exec (.shardTimeout none) s = .next (((u.setWait 8 none).dropMirror 8).shardFail 8 0x701
        (if w.attempt = 0 ∧ (w.first = false ∨ w.header = true) then 3 else 1) w.entry w.tile w.ver.toNat w.src.ctx.toNat none)) ∧
  (∀ (gain : BitVec 4) (s : State), Canon s → s.blockOff .dev 0 = false → s.building = none →
      Completes (.buildGo gain) s fun t => t.flag DEV_LT_BUILD_CMD DEV_LT_BUILD_CMD_BUSY = true ∧
        ∃ x, t.building = some x ∧ x.gain = gain.toNat ∧ x.id = (s.rd DEV_LT_BUILD_ID).toNat ∧ x.first = (s.rd DEV_LT_BUILD_FIRST).toNat ∧ x.count = (s.rd DEV_LT_BUILD_COUNT).toNat) ∧
  (∀ (parity : Option Nat) (x : Build) (s : State), s.building = some x → s.verifying = [] → (s.swaps.any (·.writing)) = false →
      Completes (.buildEnd parity) s fun t => t.building = none)

/-- Reads and writes of HBM and infeed lines complete (R293, R295, R33, R294, R319, R623, R297, R298, R299, R296). A line read answers the
line and its mark; one wrong symbol is corrected and the line written back, two are uncorrectable, and a line uncorrectable on its
re-read too is answered and kept marked; a whole write leaves the data and the requester's mark, a partial one merges both; unmapped
accesses post their event; an infeed write likewise; the scrub reads its next line; the correction count counts an event. -/
def Obligations.MemoryLines : Prop :=
  (∀ (a : Addr) (d r : LineErr) (src : ErrSource) (req : Requester) (ctx : Option (BitVec 8)) (m o : Nat) (s : State),
      let l := a.toNat / 64 * 64
      region l = .hbm m o → s.mapped l = true →
      let x := s.lineRead l d r (srcCode src) (ctxNat ctx)
      exec (.hbmLineRead a d r src req ctx) s = .next { x.2 with resp := { data := x.1.1, poison := x.1.2 } } ∧
      (d = [] → x.1 = (s.bytes l 64, s.mark l) ∧ x.2 = s.bump (HBM_STAT_POISON_RD (l / 0xC00000000)) (b2n (s.mark l)))) ∧
  (∀ (a : Addr) (d r : LineErr) (src : ErrSource) (req : Requester) (ctx : Option (BitVec 8)) (m o : Nat) (s : State),
      region (a.toNat / 64 * 64) = .hbm m o → s.mapped (a.toNat / 64 * 64) = false →
      Completes (.hbmLineRead a d r src req ctx) s fun t => t.resp = { data := List.replicate 64 0, poison := true } ∧ t.mem = s.mem) ∧
  (∀ (a : Nat) (e : LineErr) (s : State),
      (∀ i x, e = [(i, x)] → x ≠ 0 → s.decodeLine a e = ((.corrected, s.codeword a), s)) ∧
      (∀ i x j y, e = [(i, x), (j, y)] → i ≠ j → x ≠ 0 → y ≠ 0 → s.decodeLine a e = ((.uncorrectable, received (s.codeword a) e), s)) ∧
      wordBytes (s.codeword a) = s.bytes a 64 ∧ wordMark (s.codeword a) = s.mark a) ∧
  (∀ (a : Nat) (i j : Fin 36) (x y : BitVec 16) (r : LineErr) (src ctx : Nat) (s : State), src ≠ 1 → i ≠ j → x ≠ 0 → y ≠ 0 →
      (s.lineRead a [(i, x)] r src ctx).1 = (s.bytes a 64, s.mark a) ∧
      (s.lineRead a [(i, x), (j, y)] [] src ctx).1 = (s.bytes a 64, s.mark a) ∧
      (s.lineRead a [(i, x), (j, y)] [(i, x), (j, y)] src ctx).1.2 = true ∧
      (Canon s → isMem a = true → (s.lineRead a [(i, x)] r src ctx).2.mark a = s.mark a ∧
        (s.lineRead a [(i, x), (j, y)] [(i, x), (j, y)] src ctx).2.mark a = true)) ∧
  (∀ (a : Addr) (data : List Byte) (poison : Bool) (d r : LineErr) (req : Requester) (m o : Nat) (s : State), Canon s → region a.toNat = .hbm m o → s.mapped a.toNat = true →
      a.toNat % 64 = 0 → data.length = 64 →
      Completes (.hbmLineWrite a data poison d r req) s fun t =>
        t.bytes a.toNat 64 = data ∧ t.mark a.toNat = poison ∧ ∀ b, b < a.toNat ∨ a.toNat + 64 ≤ b → t.byte b = s.byte b) ∧
  (∀ (a : Addr) (data : List Byte) (poison : Bool) (r : LineErr) (req : Requester) (m o : Nat) (s : State), Canon s → region a.toNat = .hbm m o → s.mapped a.toNat = true →
      0 < data.length → data.length < 64 → a.toNat % 64 + data.length ≤ 64 →
      Completes (.hbmLineWrite a data poison [] r req) s fun t =>
        t.bytes a.toNat data.length = data ∧ t.mark a.toNat = (poison || s.mark a.toNat) ∧
          ∀ b, b < a.toNat ∨ a.toNat + data.length ≤ b → t.byte b = s.byte b) ∧
  (∀ (a : Addr) (data : List Byte) (poison : Bool) (d r : LineErr) (req : Requester) (m o : Nat) (s : State), region a.toNat = .hbm m o → s.mapped a.toNat = true →
      0 < data.length → data.length < 64 → a.toNat % 64 + data.length ≤ 64 →
      let x := (s.bump (HBM_STAT_PARTIAL (a.toNat / 0xC00000000)) 1).lineRead (a.toNat / 64 * 64) d r 3 0xFFFF
      exec (.hbmLineWrite a data poison d r req) s = .next (x.2.putLine (a.toNat / 64 * 64)
        (x.1.1.take (a.toNat % 64) ++ data ++ x.1.1.drop (a.toNat % 64 + data.length)) (poison || x.1.2))) ∧
  (∀ (a : Addr) (data : List Byte) (poison : Bool) (d r : LineErr) (req : Requester) (m o : Nat) (s : State), region a.toNat = .hbm m o → inLine a.toNat data.length = true → s.mapped a.toNat = false →
      exec (.hbmLineWrite a data poison d r req) s = .next (s.unmappedEvent req none (s.glob a.toNat) true)) ∧
  (∀ (a : Addr) (data : List Byte) (poison : Bool) (req : Requester) (n o : Nat) (s : State), Canon s → region a.toNat = .infeed n o → s.mapped a.toNat = true →
      inLine a.toNat data.length = true → s.inJournal a.toNat = false →
      Completes (.infeedLineWrite a data poison req) s fun t =>
        t.bytes a.toNat data.length = data ∧ t.mark a.toNat = (poison || (data.length != 64 && s.mark a.toNat))) ∧
  (∀ (c : Fin 256) (d r : LineErr) (o : Nat) (s : State), Canon s → s.flag (HBM_STATUS (c.val / 32)) HBM_STATUS_UP = true → s.flag (HBM_CTRL (c.val / 32)) HBM_CTRL_SCRUB_EN = true →
      let m := c.val / 32
      let u := s.scrubBack c
      let h := u.rf (HBM_HOLE m) HBM_HOLE_START * 8192
      let i := sget 0 (u.stack m).scrub (c % 32)
      let done := sput 0 (i + 1) (u.stack m).scrub (c % 32)
      let sum := done.foldl (fun k e => k + min e.2 (heldLines (u.stack m).order h e.1)) 0
      lineAt h (heldSpots (u.stack m).order (c % 32)) i = some o →
      let v := (u.lineRead (0xC00000000 * m + o) d r 1 0xFFFF).2
      (sum < 128 * h → exec (.scrubRead c d r) s = .next ((v.setStack m { v.stack m with scrub := done }).wf (HBM_SCRUB_POS m) HBM_SCRUB_POS_PROGRESS (sum * 1000 / (128 * h)))) ∧
      (128 * h ≤ sum → Completes (.scrubRead c d r) s fun t => (t.stack m).scrub = [] ∧ t.rf (HBM_SCRUB_POS m) HBM_SCRUB_POS_PROGRESS = 0 ∧
        t.rf (HBM_SCRUB_POS m) HBM_SCRUB_POS_PASSES = satTo 65535 (s.rf (HBM_SCRUB_POS m) HBM_SCRUB_POS_PASSES + 1))) ∧
  (∀ (c : Fin 256) (s : State), Canon s → 1000 ≤ ((sget [] (s.stack (c / 32)).ce (c % 32)).filter fun t => decide (s.clock < t + msHour)).length →
      exec (.correctionRate c) s = .next ((s.setStack (c / 32) { s.stack (c / 32) with ce := sput [] [] (s.stack (c / 32)).ce (c % 32) }).channelEvent c 2))

/-- Temperature readings, retires, training and context aborts complete (R300, R304, R307, R310, R316, R301, R305, R308, R311, R317, R302,
R306). A temperature reading sets the refresh interval, an invalid one is counted as such; a retire starts or is refused, and ends;
training places the stack or leaves it out; a use of marked data aborts its context. -/
def Obligations.StackService : Prop :=
  (∀ (m : Fin 8) (t : Int) (s : State), Canon s → s.flag (HBM_STATUS m) HBM_STATUS_UP = true → -40 ≤ t → t < 105 → s.rf (HBM_STATUS m) HBM_STATUS_REFRESH < refreshOf t →
      Completes (.stackTempRead m (some t)) s fun u => u.rf (HBM_TEMP m) HBM_TEMP_TEMP = trunc 8 t ∧ u.flag (HBM_TEMP m) HBM_TEMP_VALID = true ∧
        u.rf (HBM_STATUS m) HBM_STATUS_REFRESH = refreshOf t ∧ u.flag (HBM_STATUS m) HBM_STATUS_TEMP_INVALID = false) ∧
  (∀ (m : Fin 8) (s : State), s.flag (HBM_STATUS m) HBM_STATUS_UP = true →
      exec (.stackTempRead m none) s = .next ((((((s.wf (HBM_STATUS m) HBM_STATUS_REFRESH 2).wb (HBM_STATUS m) HBM_STATUS_TEMP_INVALID true).wb (HBM_TEMP m) HBM_TEMP_VALID false)).setStack m
        { s.stack m with cool85 := 0, cool95 := 0 }).postOver m 0x807 cWARN (unitOf 9 (32 * m)) 0xFFFF fun _ => [(0x10, m), (0x11, 2), (0x12, 0)])) ∧
  (∀ (m : Fin 8) (c : Fin 32) (s : State), s.blockOff .hbm m = false →
      let u := s.wakeLink.wf (HBM_RETIRE_CMD m) HBM_RETIRE_CMD_CHANNEL c
      u.rf (HBM_CH_STATE m c) HBM_CH_STATE_STATE < 2 → u.flag (HBM_RETIRE_CMD m) HBM_RETIRE_CMD_BUSY = false → u.retiredCount m < 4 →
      let hole := u.rf (HBM_HOLE m) HBM_HOLE_START - 24
      let a := 0xC00000000 * m.val + 2 ^ 26 * hole
      Completes (.retireGo m c) s fun t => t.mem = sdrop s.mem a (24 * 2 ^ 26) ∧ t.marks = sdrop s.marks (a / 64) (24 * 2 ^ 20) ∧
        (Canon s → t.flag (HBM_RETIRE_CMD m) HBM_RETIRE_CMD_BUSY = true ∧ t.rf (HBM_RETIRE_CMD m) HBM_RETIRE_CMD_RESULT = 0)) ∧
  (∀ (m : Fin 8) (c : Fin 32) (s : State), s.blockOff .hbm m = false →
      let u := s.wakeLink.wf (HBM_RETIRE_CMD m) HBM_RETIRE_CMD_CHANNEL c
      2 ≤ u.rf (HBM_CH_STATE m c) HBM_CH_STATE_STATE →
      exec (.retireGo m c) s = .next ((u.wf (HBM_RETIRE_CMD m) HBM_RETIRE_CMD_RESULT 2).post 0x806 cWARN (unitOf 9 (32 * m + c)) 0xFFFF [(0x10, 1)])) ∧
  (∀ (m : Fin 8) (errs : List (Addr × LineErr × LineErr)) (c : Nat) (s : State), (List.range 32).find? (fun c => s.rf (HBM_CH_STATE m c) HBM_CH_STATE_STATE == 1) = some c →
      let marked := ((srange s.marks (0xC00000000 * m / 64) (0xC00000000 / 64)).filter fun e =>
        let a := 64 * e.1
        e.2 && !(errs.any fun e => e.1.toNat / 64 * 64 == a) && !(s.stack m).fresh.contains a && s.mapped a && s.readerOf a 2 == 32 * m + c).length
      let w := errs.foldl (fun (acc : State) e =>
          let a := e.1.toNat / 64 * 64
          if a / 0xC00000000 == m.val && acc.mapped a && acc.readerOf a 2 == 32 * m.val + c then acc.copyRead a e.2.1 e.2.2 else acc)
        (s.bump (HBM_STAT_POISON_RD m) marked)
      let u := ((w.placeRetired m c 2).wb (HBM_STATUS m) HBM_STATUS_MIGRATING false).wb (HBM_RETIRE_CMD m) HBM_RETIRE_CMD_BUSY false
      exec (.retireEnd m errs) s = .next ((u.wf (HBM_RETIRE_CMD m) HBM_RETIRE_CMD_RESULT 1).post 0x805 cWARN (unitOf 9 (32 * m + c)) 0xFFFF
        [(0x10, u.rf (HBM_HOLE m) HBM_HOLE_START), (0x14, w.rd64 (HBM_STAT_UE m) - s.rd64 (HBM_STAT_UE m))])) ∧
  (∀ (m : Fin 8) (s : State), s.dom (48 + m) = 1 → s.flag (HBM_STATUS m) HBM_STATUS_UP = false → s.recordedRetired m = [] →
      exec (.hbmTrainingEnd m 0 false) s = .next ((((List.range 32).foldl (fun (acc : State) c =>
        acc.wb (HBM_CH_STATE m c) HBM_CH_STATE_PERMANENT (acc.isPermanent 9 (32 * m + c) 0)) s).wf (HBM_HOLE m) HBM_HOLE_START 768).wb (HBM_STATUS m) HBM_STATUS_UP true)) ∧
  (∀ (m : Fin 8) (failed : Word) (s : State), s.dom (48 + m) = 1 → s.flag (HBM_STATUS m) HBM_STATUS_UP = false →
      exec (.hbmTrainingEnd m failed true) s = .next ((s.stackOff m 0).post 0x808 cFATAL (unitOf 9 (32 * m)) 0xFFFF [(0x10, m), (0x14, 0xFFFFFFFF)])) ∧
  (∀ (n : Fin 8) (use ctx : BitVec 8) (a : GAddr) (u : PoisonUse) (s : State),
      s.uses.find? (fun u => u.lathe == some n.val && u.reducer == none && u.use == use.toNat && u.ctx == ctx && u.addr == a) = some u →
      exec (.contextPoisonAbort (.lathe n) none use ctx a) s = .next (s.poisonAbort u))

/-- The eight reducer operations apply the oldest operation of their channel (R329, R330, R331, R326, R320). Each of ADD, MAX, MIN, XOR,
MAX_IDX, MIN_IDX, WRITE and POISON_MARK takes the oldest operation waiting at its channel, when that is its own, and applies it; a
parity error on the reducer's path is reported and marks the line it works on. -/
def Obligations.ReducerCommands : Prop :=
  (∀ (c : Fin 256) (o : RedOp) (rest : List RedOp) (s : State), s.rdcOf c = o :: rest →
      (o.op = 1 → exec (.add c false) s = .next ((s.setRdc c rest).applyRed c o)) ∧
      (o.op = 2 → exec (.max c false) s = .next ((s.setRdc c rest).applyRed c o)) ∧
      (o.op = 3 → exec (.min c false) s = .next ((s.setRdc c rest).applyRed c o)) ∧
      (o.op = 4 → exec (.xor c false) s = .next ((s.setRdc c rest).applyRed c o)) ∧
      (o.op = 5 → exec (.maxIdx c false) s = .next ((s.setRdc c rest).applyRed c o)) ∧
      (o.op = 6 → exec (.minIdx c false) s = .next ((s.setRdc c rest).applyRed c o)) ∧
      (o.op = 7 → exec (.reducerWrite c false) s = .next ((s.setRdc c rest).applyRed c o)) ∧
      (o.op = 8 → exec (.poisonMark c false) s = .next ((s.setRdc c rest).applyRed c o))) ∧
  (∀ (c : Fin 256) (o : RedOp) (rest : List RedOp) (s : State), s.rdcOf c = o :: rest →
      let ctx := match o.remote with | some (_, pk) => ctxNat pk.ctx | none => ctxNat o.ctx
      let u := (((s.setRdc c rest).pathParity (unitOf 0xA c) 0xFF 6 ctx (s.glob o.dst)).applyRed c { o with poison := true, from_ := if o.poison then o.from_ else none })
      (o.op = 1 → exec (.add c true) s = .next u) ∧
      (o.op = 2 → exec (.max c true) s = .next u) ∧
      (o.op = 3 → exec (.min c true) s = .next u) ∧
      (o.op = 4 → exec (.xor c true) s = .next u) ∧
      (o.op = 5 → exec (.maxIdx c true) s = .next u) ∧
      (o.op = 6 → exec (.minIdx c true) s = .next u) ∧
      (o.op = 7 → exec (.reducerWrite c true) s = .next u) ∧
      (o.op = 8 → exec (.poisonMark c true) s = .next u))

/-- Training, loss of light, retraining, enables and bypasses complete (R338, R339, R342, R343, R380, R351, R600, R350, R352). A port trains
to UP, loses its light, retrains, is enabled or disabled, and sees light; a bypass opens, closes and settles. -/
def Obligations.Ports : Prop :=
  (∀ (p : Fin 16) (dev : DevId) (pp : BitVec 4) (s : State), s.link p = lnkTraining →
      exec (.linkTrained p dev pp true true) s = .next (s.linkUp p dev.toNat pp.toNat 8 0) ∧
      exec (.linkTrained p dev pp true false) s = .next (s.linkUp p dev.toNat pp.toNat 4 0) ∧
      exec (.linkTrained p dev pp false true) s = .next (s.linkUp p dev.toNat pp.toNat 4 1) ∧
      exec (.linkTrained p dev pp false false) s = .next (s.wf (IZP_STATUS p) IZP_STATUS_STATE lnkDown)) ∧
  (∀ (p : Fin 16) (s : State), s.link p = lnkUp ∨ s.link p = lnkTraining →
      exec (.lossOfLight p) s = .next ((s.setPort p { s.port p with light := false }).linkDown p 1)) ∧
  (∀ (p : Fin 16) (s : State), s.blockOff .izp p = false →
      (s.wakeLink.link p = lnkUp → exec (.portRetrain p) s = .next (s.wakeLink.linkDown p 3)) ∧
      (s.wakeLink.link p = lnkDown → exec (.portRetrain p) s = .next (s.wakeLink.restLink p))) ∧
  (∀ (p : Fin 16) (s : State), s.blockOff .izp p = false →
      (s.wakeLink.link p = lnkDisabled → exec (.portEnWrite p true) s = .next ((s.wakeLink.wb (IZP_CTRL p) IZP_CTRL_EN true).restLink p)) ∧
      (s.wakeLink.link p = lnkUp → exec (.portEnWrite p false) s = .next ((s.wakeLink.wb (IZP_CTRL p) IZP_CTRL_EN false).linkDown p 3))) ∧
  (∀ (p : Fin 16) (s : State), let u := s.setPort p { s.port p with light := true }
      (u.link p = lnkDown → exec (.lightReceived p) s = .next (u.restLink p)) ∧ (u.link p ≠ lnkDown → exec (.lightReceived p) s = .next u)) ∧
  (∀ (mask : BitVec 8) (s : State), s.blockOff .izpg 0 = false →
      exec (.bypassOpen mask) s = .next ((List.range 8).foldl (fun (acc : State) k => if bit mask.toNat k then acc.openBypass k else acc) s.wakeLink) ∧
      exec (.bypassClose mask) s = .next ((List.range 8).foldl (fun (acc : State) k => if bit mask.toNat k then acc.closeBypass k 4 4 else acc) s.wakeLink)) ∧
  (∀ (k : Fin 8) (s : State), s.bypMoving k = true →
      let u := s.wf IZP_BYP IZP_BYP_MOVING (s.rf IZP_BYP IZP_BYP_MOVING - 2 ^ k.val)
      (bit u.bypOpening k = true → exec (.bypassSettled k) s = .next (([2 * k.val, 2 * k.val + 1].foldl (fun (acc : State) p => acc.restLink p)
        ({ u.wf IZP_BYP IZP_BYP_CLOSED (u.rf IZP_BYP IZP_BYP_CLOSED - 2 ^ k.val) with bypOpening := u.bypOpening - 2 ^ k.val } : State)).post
          0x905 cINFO (unitOf 0xB (2 * k)) 0xFFFF [(0x10, k)])) ∧
      (bit u.bypOpening k = false → u.dom 63 ≠ 0 → exec (.bypassSettled k) s =
        .next (u.post 0x904 cINFO (unitOf 0xB (2 * k)) 0xFFFF [(0x10, k), (0x11, sget 0 u.bypCause k)])))

/-- Link packets, retransmission and forwarding complete (R340, R344, R341, R343, R355, R356, R357, R212, R215). A damaged packet is
reported once, packets are retransmitted by timeout or by NAK, the sixteenth retransmission takes the link down, acknowledgements
release packets; a packet for another device goes on, waits or is dropped. -/
def Obligations.LinkPackets : Prop :=
  (∀ (p : Fin 16) (fec : Bool) (s : State), Canon s → s.link p = lnkUp → (s.port p).discarding = false →
      Completes (.corruptPacket p fec) s fun t => t.port p = { s.port p with discarding := true, ackDue := false } ∧
        ∃ pk, t.sent = (p.val, pk) :: s.sent ∧ pk.typ = .link ∧ pk.nak = true ∧ pk.lack = (s.port p).lastIn ∧ pk.crc = packetCrc pk) ∧
  (∀ (p : Fin 16) (s : State), s.link p = lnkUp → (s.port p).unacked ≠ [] → (s.port p).retries < 16 → (s.port p).since + 2000 ≤ s.clock →
      exec (.retransmitTimeout p none) s = .next ((s.setPort p { s.port p with retries := (s.port p).retries + 1 }).retransmit p)) ∧
  (∀ (p : Fin 16) (q : BitVec 12) (s : State), let u := s.acked p q
      u.link p = lnkUp → (u.port p).unacked ≠ [] → (u.port p).retries < 16 →
      exec (.retransmitTimeout p (some q)) s = .next ((u.setPort p { u.port p with retries := (u.port p).retries + 1 }).retransmit p)) ∧
  (∀ (p : Fin 16) (s : State), s.link p = lnkUp → 16 ≤ (s.port p).retries → exec (.retryLimit p) s = .next (s.linkDown p 2)) ∧
  (∀ (p : Fin 16) (pk : Packet) (s : State), Canon s → s.link p = lnkUp → pk.crc = packetCrc pk → pk.lackValid = true →
      Completes (.link p pk) s fun t => (t.port p).unacked = ackList (s.port p).unacked pk.lack) ∧
  (∀ (p : Fin 16) (pk : Packet) (out : Nat) (s u : State), pk.dst.toNat ≠ s.devId → s.receive p pk = (true, u) →
      u.nextPort pk.rset.toNat pk.dst.toNat pk.addr.toNat (some p.val) = .port out → pk.hops ≠ 0 →
      exec (.packetForward p pk) s = .next (u.transmit out { pk with hops := pk.hops - 1, vc := u.hopVc (some p.val) pk.rset.toNat out pk.vc })) ∧
  (∀ (p : Fin 16) (pk : Packet) (out : Nat) (s u : State), pk.dst.toNat ≠ s.devId → s.receive p pk = (true, u) →
      ((u.nextPort pk.rset.toNat pk.dst.toNat pk.addr.toNat (some p.val) = .noRoute →
        exec (.packetForward p pk) s = .next ((u.bump IZP_STAT_DROPPED 1).complReply pk 5 [] 0)) ∧
       (u.nextPort pk.rset.toNat pk.dst.toNat pk.addr.toNat (some p.val) = .port out → pk.hops = 0 →
        exec (.packetForward p pk) s = .next ((u.bump IZP_STAT_DROPPED 1).complReply pk 6 [] 0)))) ∧
  (∀ (p : Fin 16) (pk : Packet) (s u : State), pk.dst.toNat ≠ s.devId → s.receive p pk = (true, u) →
      u.nextPort pk.rset.toNat pk.dst.toNat pk.addr.toNat (some p.val) = .wait → pk.hops ≠ 0 →
      exec (.packetForward p pk) s = .next { u with fabQueue := u.fabQueue ++ [(p.val, { pk with hops := pk.hops - 1 })] })

/-- Requests from other devices, completions and request timeouts complete (R348, R294, R205, R210, R349, R347, R360, R367, R206, R211,
R362, R316). READ, WRITE, REDUCE and SIGNAL requests are served, answered as unmapped, or refused; completions end their request; a
request without one ends by its timeout; a multicast write and a GAP are taken. -/
def Obligations.FabricTargets : Prop :=
  (∀ (p : Fin 16) (pk : Packet) (parity : Option Nat) (s u : State), pk.typ = .read → pk.dst.toNat = s.devId → s.receive p pk = (true, u) →
      let a := pk.addr.toNat / 64 * 64
      let n := argLines pk
      let v := u.packetParity p pk a n parity
      let marks := maskOf n fun j => parity = some j || match region a with | .accWin _ _ => false | _ => v.mark (a + 64 * j)
      (u.target a n false = 0 → exec (.fabricRead p pk parity) s =
        .next (((v.countMarks a (64 * n)).countInf a (64 * n) false).complReply pk (if marks = 0 then 0 else 1) (v.windowRead a (64 * n)).1 marks)) ∧
      (u.target a n false = 2 → exec (.fabricRead p pk parity) s = .next ((u.portUnmapped p pk false).complReply pk 2 [] 0)) ∧
      (u.target a n false = 3 → exec (.fabricRead p pk parity) s = .next (u.complReply pk 3 [] 0))) ∧
  (∀ (p : Fin 16) (pk : Packet) (parity : Option Nat) (s u : State), pk.typ = .write → pk.dst.toNat = s.devId → s.receive p pk = (true, u) →
      let a := pk.addr.toNat / 64 * 64
      let hit := match parity with | some j => if j < pk.lines then 2 ^ j else 0 | none => 0
      (u.target a pk.lines true = 0 → exec (.fabricWrite p pk parity) s =
        .next (((u.packetParity p pk a pk.lines parity).writeLines a { pk with poison := pk.poison ||| BitVec.ofNat 8 hit }).complReply pk 0 [] 0)) ∧
      (u.target a pk.lines true = 2 → exec (.fabricWrite p pk parity) s = .next ((u.portUnmapped p pk true).complReply pk 2 [] 0)) ∧
      (u.target a pk.lines true = 3 → exec (.fabricWrite p pk parity) s = .next (u.complReply pk 3 [] 0))) ∧
  (∀ (p : Fin 16) (pk : Packet) (m o : Nat) (s u : State), pk.typ = .reduce → pk.dst.toNat = s.devId → s.receive p pk = (true, u) → pk.op ≠ 8 →
      let a := pk.addr.toNat / 64 * 64
      u.target a pk.lines true = 0 → region a = .hbm m o →
      exec (.fabricReduce p pk) s = .next ((List.range pk.lines).foldl (fun (acc : State) j =>
        acc.enqueueRed (8 + p.val)
          { op := pk.op.toNat, fmt := pk.fmt.toNat, dst := a + 64 * j, src := (pk.payload.drop (64 * j)).take 64,
            poison := bit pk.poison.toNat j, ctx := pk.ctx, remote := some (p.val, { pk with status := 0 }) }) u)) ∧
  (∀ (p : Fin 16) (pk : Packet) (s u : State), pk.typ = .signal → pk.dst.toNat = s.devId → s.receive p pk = (true, u) →
      let i := pk.addr.toNat % 8192
      (u.semMisuse i (ctxNat pk.ctx) = true → exec (.fabricSignal p pk) s = .next ((u.semMisuseEvent i (ctxNat pk.ctx)).complReply pk 8 [] 0)) ∧
      (u.semMisuse i (ctxNat pk.ctx) = false → exec (.fabricSignal p pk) s =
        let v := (u.bump SEM_STAT_SIGNALS 1).addSem i pk.arg.toNat pk.src.toNat (ctxNat pk.ctx)
        .next (v.2.complReply pk (if v.1 then 8 else 0) [] 0))) ∧
  (∀ (p : Fin 16) (pk : Packet) (s u : State), pk.dst.toNat = s.devId → s.receive p pk = (true, u) →
      exec (.cpl p pk) s = .next (u.takeReq pk.tag.toNat pk.status.toNat [] 0) ∧
      exec (.cplData p pk) s = .next (u.takeReq pk.tag.toNat pk.status.toNat pk.payload pk.poison.toNat)) ∧
  (∀ (tag : BitVec 17) (r : Req) (s : State), s.req tag.toNat = some r →
      r.since + 1000000 * (if s.rf IZP_GCFG IZP_GCFG_REQ_TMO = 0 then 200 else s.rf IZP_GCFG IZP_GCFG_REQ_TMO) ≤ s.clock →
      exec (.requestTimeout tag) s = .next (s.takeReq tag.toNat 7 [] 0)) ∧
  (∀ (p : Fin 16) (pk : Packet) (s u : State), pk.typ = .mcastWrite → pk.dst.toNat = s.devId → s.receive p pk = (true, u) →
      let a := pk.addr.toNat / 64 * 64
      u.target a pk.lines true = 0 → exec (.mcastWrite p pk) s = .next ((u.writeLines a pk).complReply pk 0 [] 0)) ∧
  (∀ (p : Fin 16) (pk : Packet) (s u : State), pk.dst.toNat = s.devId → s.receive p pk = (true, u) →
      exec (.gap p pk) s = .next (u.post 0x909 cWARN 0 0xFFFF [(0x10, pk.tag.toNat % 4096), (0x14, pk.src.toNat), (0x18, pk.arg.toNat)]))

/-- Multicast groups enable, send, hold, unprune and take credits (R361, R362, R360, R363, R364, R366, R365, R368). A group is enabled or
refused, disabled, sends its message to the members left, prunes at its hold timer, takes pruned members back, and takes credits. -/
def Obligations.Multicast : Prop :=
  (∀ (g : Fin 4096) (v : Word) (s : State), s.blockOff .izpg 0 = false → v.toNat % 2 = 1 → s.wakeLink.flag (IZP_MG_CTL g) IZP_MG_CTL_EN = false →
      let u := (s.wakeLink.wb (IZP_MG_CTL g) IZP_MG_CTL_POLICY (bit v.toNat 1)).wf (IZP_MG_CTL g) IZP_MG_CTL_RSET (bits v.toNat 2 2)
      (u.mcRefusal g ≠ 0 → exec (.mcastEnable g v) s = .next ((u.wb (IZP_MG_CTL g) IZP_MG_CTL_ERR true).post 0x90A cWARN 0 0xFFFF [(0x10, g), (0x12, u.mcRefusal g)])) ∧
      (u.mcRefusal g = 0 → Completes (.mcastEnable g v) s fun t => t.mcOn = s.mcOn ++ [g.val])) ∧
  (∀ (g : Fin 4096) (v : Word) (s : State), s.blockOff .izpg 0 = false → v.toNat % 2 = 0 → s.msgs g = [] →
      Completes (.mcastEnable g v) s fun t => t.mcOn = s.mcOn.filter (· ≠ g.val)) ∧
  (∀ (g : Fin 4096) (k : Nat) (m : McMsg) (s : State), (s.msgs g).findIdx? (fun m => !m.left.isEmpty) = some k → (s.msgs g)[k]? = some m →
      exec (.mcastSend g) s = .next (s.mcGo g k m)) ∧
  (∀ (g : Fin 4096) (k : Nat) (m : McMsg) (s : State), (s.msgs g).findIdx? (fun m => !m.left.isEmpty) = some k → (s.msgs g)[k]? = some m →
      let late := m.left.filter fun i => decide (s.credit g i < m.data.length / 64)
      let us := s.rf (IZP_MG_HOLD g) IZP_MG_HOLD_US
      s.flag (IZP_MG_CTL g) IZP_MG_CTL_HOLDING = true → late ≠ [] → m.since + 1000 * (if us = 0 then 50 else us) ≤ s.clock →
      let u := s.wr (IZP_MG_STALLS g) (BitVec.ofNat 32 (satTo (2 ^ 32 - 1) ((s.rd (IZP_MG_STALLS g)).toNat + 1)))
      u.flag (IZP_MG_CTL g) IZP_MG_CTL_POLICY = true →
      let w := late.foldl (fun (acc : State) i => acc.prune g i m.seq 1 true) u
      let left := m.left.filter fun i => !late.contains i
      exec (.mcastHoldExpiry g) s = .next (((w.wb (IZP_MG_CTL g) IZP_MG_CTL_HOLDING (!left.isEmpty)).setMsgs g ((w.msgs g).set k { m with left := left })).settleMsgs g)) ∧
  (∀ (g : Fin 4096) (mask : DWord) (s : State), Canon s → s.blockOff .izpg 0 = false →
      Completes (.mcastUnprune g mask) s fun t => t.rd64 (IZP_MG_PRUNE g) = s.rd64 (IZP_MG_PRUNE g) - (s.rd64 (IZP_MG_PRUNE g) &&& mask.toNat)) ∧
  (∀ (p : Fin 16) (pk : Packet) (i : Nat) (s u : State), pk.dst.toNat = s.devId → s.receive p pk = (true, u) →
      let g := pk.tag.toNat % 4096
      (List.range (u.rf (IZP_MG_SLOTS g) IZP_MG_SLOTS_MEMBERS)).find? (fun i => u.memberDev g i == pk.src.toNat) = some i →
      let w := u.wf (IZP_MSLOT (u.mslot g i)) IZP_MSLOT_CREDIT (satTo 16383 (u.credit g i + pk.arg.toNat))
      (w.msgs g).findIdx? (fun m => m.unacked.contains i) = none →
      exec (.credit p pk) s = .next (w.settleMsgs g))

/-- Time exchanges, references and fabric-time reads complete (R370, R371, R340, R372, R373, R375, R376, R615, R616, R380). Exchanges are
sent, answered and taken as corrections; a silent parent, the uncertainty limit, the loss and return of a reference, a PPS edge and a
PTP message act; the low word of the counter reads with its high word latched. -/
def Obligations.FabricTime : Prop :=
  (∀ s : State, let u := s.elect
      exec .timeExchange s = .next ((List.range 16).foldl (fun (acc : State) p => if acc.portUp p then acc.sendTime p [acc.ft.toNat] else acc) u)) ∧
  (∀ (p : Fin 16) (pk : Packet) (t1 : DWord) (a : Announce) (s u : State), s.receive p pk = (true, u) →
      let v := (({ u with ftm := { u.ftm with ann := sput {} a u.ftm.ann p } } : State).sendTime p [t1.toNat, u.ft.toNat, u.ft.toNat]).elect
      exec (.time p pk (.request t1 a)) s = .next (if v.follows p then { v with ftm := { v.ftm with lastGood := v.clock } } else v)) ∧
  (∀ (p : Fin 16) (pk : Packet) (t1 t2 t3 : DWord) (a : Announce) (s v : State), s.receive p pk = (true, v) →
      let t4 : Int := v.ft.toNat
      let delay := ((t4 - t1.toNat) - ((t3.toNat : Int) - t2.toNat)) / 2
      let offset := (((t2.toNat : Int) - t1.toNat) - (t4 - t3.toNat)) / 2
      let u := ((({ v with ftm := { v.ftm with ann := sput {} a v.ftm.ann p } } : State).wr (FTM_LINK_DELAY p) (BitVec.ofNat 32 (trunc 24 delay + 2 ^ 31)))).elect
      u.isGm = false → u.rf FTM_STATUS FTM_STATUS_PARENT = p.val → (u.ftState = ftACQUIRING ∨ u.ftState = ftLOCKED) →
      exec (.time p pk (.reply t1 t2 t3 a)) s = .next (u.correctFt offset)) ∧
  (∀ s : State, s.isGm = false → s.ftState = ftLOCKED → s.ftm.lastGood + 5000000 ≤ s.clock →
      let u : State := { s with ftm := { s.ftm with ann := sput {} {} s.ftm.ann (s.rf FTM_STATUS FTM_STATUS_PARENT) } }
      u.bestPort u.gmPorts = none →
      exec .parentTimeout s = .next ((((((u.wr FTM_GM 0).setFtState ftHOLDOVER).bump FTM_STAT_HOLDOVERS 1).growUncert true).unlocked 1).elect)) ∧
  (∀ s : State, s.ftm.growFrom.isSome = true → s.ftm.passed = false → s.rf FTM_CFG FTM_CFG_UNCERT_MAX < s.uncert →
      exec .uncertLimit s = .next (({ s with ftm := { s.ftm with passed := true } } : State).unlocked 2)) ∧
  (∀ (i : RefInput) (s : State), s.isGm = true → (i = .ptp → s.rf FTM_CFG FTM_CFG_REF = 1) → (i ≠ .ptp → s.rf FTM_CFG FTM_CFG_REF = 2) → s.ftm.refLost = false →
      let u : State := { s with ftm := match i with | .pps => { s.ftm with refPps := false } | .mhz10 => { s.ftm with ref10 := false } | .ptp => s.ftm }
      exec (.referenceLost i) s = .next (({ u.growUncert true with ftm := { (u.growUncert true).ftm with refLost := true } } : State).unlocked 3)) ∧
  (∀ s : State,
      let u : State := { s with ftm := { s.ftm with ref10 := true } }
      (s.isGm = true → s.rf FTM_CFG FTM_CFG_REF = 2 → exec .referenceRestored s = .next u.newFreq) ∧
      ((s.isGm = false ∨ s.rf FTM_CFG FTM_CFG_REF ≠ 2) → exec .referenceRestored s = .next u)) ∧
  (∀ s : State, s.isGm = true → s.rf FTM_CFG FTM_CFG_REF = 2 → s.ftm.ref10 = true →
      let u : State := { s with ftm := { s.ftm with refPps := true } }
      exec .ppsEdge s = .next (u.refBack.newFreq.moveFt ((s.ft.toNat + 500000000) / 1000000000 * 1000000000))) ∧
  (∀ s : State, Canon s → s.blockOff .ftm 0 = false →
      Completes .ftmNowRead s fun t => t.resp = { data := leBytes s.ft.toNat 4 } ∧ (t.rd FTM_NOW_HI).toNat = s.ft.toNat / 2 ^ 32) ∧
  (∀ (t : DWord) (s : State), s.isGm = true → s.rf FTM_CFG FTM_CFG_REF = 1 → exec (.ptpMessage t) s = .next (s.refBack.newFreq.moveFt t.toNat))

/-- Rails and the fault history complete (R406, R409, R413, R411, R416, R507, R407, R508, R414, R541, R408, R509). A rail falls, recovers,
times out or reaches its reset level; a unit is classed permanent; the history is written to the flash and read. -/
def Obligations.RailsAndHistory : Prop :=
  (∀ (r : Rail) (s : State), (s.rail (railKey r)).below = false → s.railOn (railKey r) = true → exec (.railBelowWarning r) s = .next (s.railFalls (railKey r))) ∧
  (∀ (r : Rail) (s : State), (s.rail (railKey r)).below = true → (s.rail (railKey r)).done = false →
      Completes (.railRecovered r) s fun t => t.dipNo = s.dipNo + 1) ∧
  (∀ (r : Rail) (s : State), (s.rail (railKey r)).below = true → (s.rail (railKey r)).done = false → (s.rail (railKey r)).since + 20000 < s.clock →
      exec (.railWarningTimeout r) s = .next (s.railFails (railKey r) 2)) ∧
  (∀ (r : Rail) (s : State), s.railOn (railKey r) = true → (s.rail (railKey r)).done = false →
      exec (.railResetLevel r) s = .next ((if (s.rail (railKey r)).below then s else s.railFalls (railKey r)).railFails (railKey r) 3)) ∧
  (∀ (i a : Nat) (s : State), histKept 4 = true → (s.histOf (histKey 4 i a)).permanent = false → 3 ≤ (s.histOf (histKey 4 i a)).recent s.histNow →
      let u := s.classPermanent 4 i a 1
      let place := (List.range 8).find? fun g => u.colMap a (512 + g) = i
      ((place = none ∨ u.spareCols a = []) → exec (.permanentClassing { kind := 4, index := i, lathe := a }) s = .next u) ∧
      (∀ g spare more, place = some g → u.spareCols a = spare :: more →
        exec (.permanentClassing { kind := 4, index := i, lathe := a }) s = .next (u.substCheck a g spare 0xFFFF))) ∧
  (∀ s : State, (s.dom 62 = 1 → exec .historyFlashWriteEnd s = .next { s with histFlash := s.hist, histDirty := [] }) ∧
      (s.dom 62 ≠ 1 → exec .historyFlashWriteEnd s = .next s)) ∧
  (∀ (k : Nat) (s : State), s.blockOff .flt 0 = false → histSel (s.wakeLink.rd FLT_HIST_SEL).toNat = some k →
      exec .histRead s = .next ((((s.wakeLink.histWords k).zipIdx.foldl (fun (acc : State) e => acc.wr (FLT_HIST_DATA e.2) (BitVec.ofNat 32 e.1)) s.wakeLink).wb
        FLT_HIST_STATUS FLT_HIST_STATUS_VALID true).wb FLT_HIST_STATUS FLT_HIST_STATUS_NO_UNIT false)) ∧
  (∀ s : State, Canon s → s.blockOff .flt 0 = false → histSel (s.wakeLink.rd FLT_HIST_SEL).toNat = none →
      Completes .histRead s fun t => t.flag FLT_HIST_STATUS FLT_HIST_STATUS_NO_UNIT = true ∧ t.flag FLT_HIST_STATUS FLT_HIST_STATUS_VALID = false)

/-- Loop samples, breach limits and the registers of the steady rest complete (R420, R28, R430, R429, R431, R421, R71, R29, R438, R422, R77,
R446). A core samples its loops; a loop at its breach limit freezes; a bank swap is set pending; set words are written in the idle bank
and held otherwise; a loop's mode and a core's configuration are written within their limits. -/
def Obligations.SteadyRest : Prop :=
  (∀ (c : Fin 9) (accesses : List Nat) (s : State), Canon s →
      Completes (.loopSample c accesses) s fun t => max (s.clock + 2000) (s.core c).sweepEnd ≤ (t.core c).sweepEnd ∧
        t.rf (STD_CORE_SWEEP c) STD_CORE_SWEEP_LAST ≤ t.rf (STD_CORE_SWEEP c) STD_CORE_SWEEP_MAX) ∧
  (∀ (i : Fin 9216) (s : State), (s.loop i).st = .run →
      (if s.rf (STD_SET_CFG (s.setIx i)) STD_SET_CFG_RES_COUNT = 0 then 8 else s.rf (STD_SET_CFG (s.setIx i)) STD_SET_CFG_RES_COUNT) ≤ (s.loop i).breaches →
      exec (.breachLimit i) s = .next (s.freeze i (if (s.loop i).senseBreach then 2 else 1))) ∧
  (∀ (c : Fin 9) (init : Bool) (s : State), Canon s → s.blockOff .std 0 = false →
      Completes (.coeffBankSwap c init) s fun t => t.core c = { s.core c with swapAt := some s.clock, init := init } ∧
        t.flag (STD_CORE_BANK c) STD_CORE_BANK_PENDING = true) ∧
  (∀ (c : Fin 9) (b : Bool) (k : Fin 64) (w : Fin 20) (v : Word) (s : State), s.blockOff .std 0 = false →
      b2n b ≠ s.wakeLink.rf (STD_CORE_BANK c) STD_CORE_BANK_ACTIVE → (s.core c).swapAt = none →
      exec (.setWrite c b k w v) s = .next (s.wakeLink.wrSoft (STD_SET_CFG ((c.val * 2 + b2n b) * 64 + k) + 4 * w) v)) ∧
  (∀ (c : Fin 9) (b : Bool) (k : Fin 64) (w : Fin 20) (v : Word) (s : State), s.blockOff .std 0 = false →
      b2n b = s.wakeLink.rf (STD_CORE_BANK c) STD_CORE_BANK_ACTIVE → exec (.setWrite c b k w v) s = .next s.wakeLink) ∧
  (∀ (i : Fin 9216) (v : Word) (s : State), s.blockOff .std 0 = false → v.toNat % 4 = 1 → s.wakeLink.rf (STD_LOOP_CFG i) STD_LOOP_CFG_MODE = 0 →
      let u := (s.wakeLink.wrSoft (STD_LOOP_CFG i) (BitVec.ofNat 32 (setBits v.toNat 0 2 0))).wf (STD_LOOP_CFG i) STD_LOOP_CFG_MODE 1
      (u.trimForced = true → exec (.loopModeWrite i v) s = .next u) ∧
      (u.trimForced = false → (u.loop i).st = .off → u.loopNamed (i / nLoops) (i % nLoops) = true →
        exec (.loopModeWrite i v) s = .next (u.enterRun i (u.trim i).target)) ∧
      (u.trimForced = false → (u.loop i).st = .off → u.loopNamed (i / nLoops) (i % nLoops) = false →
        exec (.loopModeWrite i v) s = .next (u.modLoop i fun l => { l with st := .idle }))) ∧
  (∀ (c : Fin 9) (v : Word) (s : State), Canon s → s.blockOff .std 0 = false → c.val < 8 →
      Completes (.coreCfgWrite c v) s fun t => t.rf (STD_CORE_CFG c) STD_CORE_CFG_PERIOD = clampNat 8 40 (v.toNat % 2 ^ 10) ∧
        t.rf (STD_CORE_CFG c) STD_CORE_CFG_SUB = clampNat 10 16 (v.toNat / 2 ^ 16 % 2 ^ 4) % 16)

/-- Trim ticks, pushes, deglitching, shorts and clears complete (R441, R440, R442, R28, R443, R446, R448, R29, R447, R77, R94, R113). At a
tick each queue presents its oldest code, and none while a clear is forced; pushes queue or are dropped; a held code is presented; a
short is latched and cleared; a forced clear starts and is released. -/
def Obligations.TrimChannels : Prop :=
  (∀ s : State, s.trimForced = true → exec .trimTick s = .next s) ∧
  (∀ s : State, s.trimForced = false → exec .trimTick s = .next ((s.trims.map (·.1)).foldl (fun (acc : State) (i : Nat) =>
        match (acc.loop i).st, (acc.trim i).queue with
        | .off, c :: rest => (acc.modTrim i fun t => { t with queue := rest }).present i c
        | _, _ => acc) s)) ∧
  (∀ (i : Fin 9216) (code : BitVec 16) (s : State), Canon s → s.blockOff .trm 0 = false → (s.loop i).st = .off → (s.trim i).queue.length < 16 →
      Completes (.trmChPush i code) s fun t => t.trim i = { s.trim i with queue := (s.trim i).queue ++ [code.toNat] }) ∧
  (∀ (i : Fin 9216) (code : BitVec 16) (s : State), s.blockOff .trm 0 = false → (s.loop i).st ≠ .off →
      exec (.trmChPush i code) s = .next (s.wakeLink.bump TRM_STAT_DROPPED 1)) ∧
  (∀ (i : Fin 9216) (c : Nat) (s : State), Canon s → (s.trim i).pend = some c →
      Completes (.deglitchEnd i) s fun t => t.trim i = { s.trim i with code := c, pend := none } ∧ ∀ j, j ≠ i.val → t.trim j = s.trim j) ∧
  (∀ (i : Fin 9216) (s : State), Canon s → (s.trim i).sc = false → (s.loop i).st ≠ .run →
      Completes (.shortLimitExpiry i) s fun t => t.trim i = { s.trim i with sc := true, code := s.clearCode i, pend := none }) ∧
  (∀ (i : Fin 9216) (s : State), s.blockOff .trm 0 = false → (s.trim i).sc = true →
      exec (.scClear i) s = .next ((s.wakeLink.setTrim i { s.trim i with sc := false }).present i (s.trim i).src)) ∧
  (∀ (vent : Bool) (s : State), s.trimForced = false →
      exec (.trimClrAssert vent) s = .next ((if vent then { s with trimVent := true, trimSince := s.clock } else { s with trimPin := true, trimSince := s.clock }).forceClear (if vent then 2 else 1))) ∧
  (∀ (vent : Bool) (s : State), s.trimPin = !vent → s.trimVent = vent →
      exec (.trimClrRelease vent) s = .next ((if vent then { s with trimVent := false } else { s with trimPin := false }).releaseClear))

/-- Conversions, converter settings, urgent requests and calibrations complete (R456, R452, R453, R455, R459, R461, R462, R464, R466, R465).
A conversion writes the result of a scan or of an urgent request; settings are written within their limits, and start a converter that
was idle; an urgent request is taken by an idle converter and counted as dropped by another; a calibration is started or queued, and
installs its factors or is refused. -/
def Obligations.Converters : Prop :=
  (∀ (c : Fin 16) (raw : Int) (unstable : Bool) (s : State), (s.conv c).st = .scan →
      let r := if c.val % 2 = 1 ∧ ((s.conv c).input = 22 ∨ (s.conv c).input = 23) then (0, false) else s.correctRaw c raw unstable
      let reg := monRes c (s.conv c).input
      let u := ((s.wr reg (BitVec.ofNat 32 (trunc 24 r.1 + 2 ^ 24 * b2n r.2 + 2 ^ 25 * ((s.rf reg MON_RES_SEQ + 1) % 128)))).bump MON_STAT_RESULTS 1).bump MON_STAT_OVR (b2n r.2)
      exec (.conversionEnd c raw unstable) s =
        .next (if u.monRun c then u.setConv c { s.conv c with input := u.nextInput c ((s.conv c).input + 1) } else u.setConv c { s.conv c with st := .idle })) ∧
  (∀ (c : Fin 16) (raw : Int) (unstable : Bool) (s : State), (s.conv c).st = .oneshot →
      let r := if c.val % 2 = 1 ∧ ((s.conv c).input = 22 ∨ (s.conv c).input = 23) then (0, false) else s.correctRaw c raw unstable
      let u := ((s.wr MON_URGENT_RES (BitVec.ofNat 32 (trunc 24 r.1 + 2 ^ 24 * b2n r.2 + 2 ^ 25))).bump MON_STAT_RESULTS 1).bump MON_STAT_OVR (b2n r.2)
      let v := (u.setConv c { s.conv c with st := .idle }).convResume c
      exec (.conversionEnd c raw unstable) s = .next (if (s.conv c).calQueued then v.convCal c else v).showBusy) ∧
  (∀ (c : Fin 16) (v : Word) (s : State), s.blockOff .mon 0 = false →
      let u := (s.wakeLink.wf (MON_CFG c) MON_CFG_RUN v.toNat).wf (MON_CFG c) MON_CFG_OSR (clampNat 64 1024 (bits v.toNat 16 11))
      let w := if v.toNat / 2 % 4 = 3 then u else u.wf (MON_CFG c) MON_CFG_ORDER (v.toNat / 2 % 4)
      exec (.monCfgWrite c false v) s = .next (if ((w.conv c).st == .idle && w.monRun c) = true then w.convResume c else w)) ∧
  (∀ (c : Fin 16) (v : Word) (s : State), Canon s → s.blockOff .mon 0 = false →
      Completes (.monCfgWrite c true v) s fun t => t.rd (MON_SCAN c) = v ||| 0x80000000) ∧
  (∀ (c : Fin 16) (i : Fin 32) (s : State), s.blockOff .mon 0 = false →
      ((s.conv c).st = .idle → exec (.urgentRequest c i) s =
        .next (((s.wakeLink.setConv c { s.conv c with st := .oneshot, input := i }).wb MON_URGENT_RES MON_URGENT_RES_DONE false).showBusy)) ∧
      ((s.conv c).st ≠ .idle → let u := (s.wakeLink.bump MON_STAT_DROPPED 1).wb (MON_CSTAT c) MON_CSTAT_DROPPED true
        exec (.urgentRequest c i) s =
          .next (u.postFirst (u.flag MON_CTRL MON_CTRL_DROP_EVT_EN) ms c i 1 0xC09 cINFO (unitOf 0xD c) 0xFFFF fun f k => [(0x10, f), (0x14, k)]))) ∧
  (∀ (c : Fin 16) (s : State), Canon s → s.blockOff .mon 0 = false → (s.conv c).st ≠ .cal → (s.conv c).st ≠ .oneshot → s.wakeLink.calBlocked c = false →
      Completes (.monCalGo c) s fun t => t.conv c =
        { s.conv c with st := .cal, input := 30, calQueued := false, order := s.rf (MON_CFG c) MON_CFG_ORDER,
                        secondAt := s.clock + 100000 * s.rf (MON_CFG c) MON_CFG_OSR }) ∧
  (∀ (c : Fin 16) (s : State), Canon s → s.blockOff .mon 0 = false → (s.conv c).st = .oneshot →
      Completes (.monCalGo c) s fun t => t.conv c = { s.conv c with calQueued := true }) ∧
  (∀ (c : Fin 16) (sum30 sum29 : Int) (s : State), (s.conv c).st = .cal →
      let n : Int := 1000 - (3 + (s.conv c).order)
      let ofs := ratRne sum30 n
      let den := sum29 - n * ofs
      let gain := ratRne (2 ^ 30 * 5242880 * n) den
      let d : List (Nat × Nat) := [(0x14, trunc 24 ofs), (0x18, trunc 32 gain)]
      let u := s.setConv c { s.conv c with st := .idle }
      let queued (w : State) : State := if (decide (c.val < 2) && (w.conv (1 - c.val)).calQueued) = true then w.convCal (1 - c.val) else w
      den ≠ 0 →
      (ofs.natAbs ≤ 65536 ∧ 0x3CCCCCCD ≤ gain ∧ gain ≤ 0x43333333 → exec (.monCalEnd c sum30 sum29) s = .next (queued (((((u.wb (MON_CSTAT c) MON_CSTAT_CAL_VALID true).wr
        (MON_CAL_OFS c) (BitVec.ofNat 32 (trunc 24 ofs))).wr (MON_CAL_GAIN c) (BitVec.ofNat 32 gain.toNat)).post 0xC07 cINFO (unitOf 0xD c) 0xFFFF d).convResume c))) ∧
      (¬(ofs.natAbs ≤ 65536 ∧ 0x3CCCCCCD ≤ gain ∧ gain ≤ 0x43333333) → exec (.monCalEnd c sum30 sum29) s =
        .next (queued (((u.wb (MON_CSTAT c) MON_CSTAT_CAL_ERR true).post 0xC08 cWARN (unitOf 0xD c) 0xFFFF d).convResume c))))

/-- Housekeeping rounds, their period and TRIPPED complete (R467, R478). A round takes its temperature, or marks its sensor broken, and
counts a throttled round; the round's period is written within its limits; TRIPPED is cleared once the die is below its limit. -/
def Obligations.Housekeeping : Prop :=
  (∀ s : State, s.dom 61 = 1 →
      let u := (s.wf MON_ROUND_CFG MON_ROUND_CFG_COUNT (s.rf MON_ROUND_CFG MON_ROUND_CFG_COUNT + 1)).crossChecks.refChecks
      let diodes := ((List.range 2).filter fun c => !u.calibrating c).map fun c => u.result c 31
      let v := u.validRound (diodes.foldl (fun (a : Int) x => max a x) (-(2 ^ 23)))
      let seqs (w : State) : State := { w with temp := { w.temp with seqs := (List.range 512).foldl (fun (acc : Sparse Nat) j => sput 0 (w.rf (MON_RES j) MON_RES_SEQ) acc j) [] } }
      u.sensorFault.1 = 0 →
      (v.rf MON_TEMP MON_TEMP_LEVEL = 0 → exec .housekeepingRound s = .next (seqs v)) ∧
      (0 < v.rf MON_TEMP MON_TEMP_LEVEL → exec .housekeepingRound s =
        .next (seqs (({ v with temp := { v.temp with rounds := v.temp.rounds + 1 } } : State).bump MON_STAT_THROTTLE_ROUNDS 1)))) ∧
  (∀ s : State, s.dom 61 = 1 →
      let u := (s.wf MON_ROUND_CFG MON_ROUND_CFG_COUNT (s.rf MON_ROUND_CFG MON_ROUND_CFG_COUNT + 1)).crossChecks.refChecks
      let w := (u.wb MON_TEMP MON_TEMP_VALID false).wf MON_TEMP MON_TEMP_FAIL_CAUSE u.sensorFault.1
      let v := (if u.flag MON_TEMP MON_TEMP_VALID then w.post 0xC04 cFAULT (unitOf 0xD u.sensorFault.2) 0xFFFF
        [(0x10, u.sensorFault.1), (0x14, trunc 24 (w.result 0 31)), (0x18, trunc 24 (w.result 1 31))] else w).setLevel 6
      let seqs (w : State) : State := { w with temp := { w.temp with seqs := (List.range 512).foldl (fun (acc : Sparse Nat) j => sput 0 (w.rf (MON_RES j) MON_RES_SEQ) acc j) [] } }
      u.sensorFault.1 ≠ 0 → 0 < v.rf MON_TEMP MON_TEMP_LEVEL → exec .housekeepingRound s =
        .next (seqs (({ v with temp := { v.temp with rounds := v.temp.rounds + 1 } } : State).bump MON_STAT_THROTTLE_ROUNDS 1))) ∧
  (∀ (v : Word) (s : State), Canon s → s.blockOff .mon 0 = false →
      Completes (.roundCfgWrite v) s fun t => t.rf MON_ROUND_CFG MON_ROUND_CFG_PERIOD = clampNat 1 100 (v.toNat % 256)) ∧
  (∀ s : State, Canon s → s.blockOff .mon 0 = false → s.wakeLink.flag MON_TEMP MON_TEMP_VALID = true →
      (hotter s.temp.code (100 * jigWarn s.wakeLink.jigBody) = false → Completes .trippedClear s fun t => t.flag MON_TEMP MON_TEMP_TRIPPED = false) ∧
      (hotter s.temp.code (100 * jigWarn s.wakeLink.jigBody) = true → exec .trippedClear s = .next s.wakeLink))

/-- Calibration requests, slots, phases, ends and localisation complete (R482, R484, R483, R486, R495, R500, R74, R378, R491, R496, R403,
R488). A request waits for its time or begins, a request still waiting is withdrawn by CANCEL, a slot is granted in order, a phase ends,
a calibration is accepted or rejected; localisation names a column or none; a standby laser locks. -/
def Obligations.Calibration : Prop :=
  (∀ (n : Fin 8) (s : State), Canon s → s.blockOff .cal n = false → (∀ m ∈ s.calLathes n, (s.lathe m).svc ≠ .off ∧ (s.lathe m).svc ≠ .starting ∧ (s.lathe m).svc ≠ .faultHold) →
      let k := s.calKey n
      (s.cal k).st = .idle → s.wakeLink.rd64 (CAL_AT n) ≠ 0 →
      Completes (.calGo n) s fun t => t.cal k = { st := .waiting, at_ := s.wakeLink.rd64 (CAL_AT n), lathe := n }) ∧
  (∀ (n : Fin 8) (s : State), s.blockOff .cal n = false → let k := s.calKey n
      ((s.cal k).waits = none → exec (.calCancel n) s = .next s.wakeLink) ∧
      (∀ a, (s.cal k).waits = some a → (s.cal k).st = .waiting → exec (.calCancel n) s = .next (s.wakeLink.setCal k {})) ∧
      (∀ a, (s.cal k).waits = some a → (s.cal k).st ≠ .waiting → exec (.calCancel n) s = .next (s.wakeLink.setCal k { s.cal k with held := none }))) ∧
  (∀ (mask : BitVec 8) (s : State), s.blockOff .dev 0 = false →
      exec (.devCalGo mask) s = .next ((List.range 8).foldl (fun (acc : State) n => if bit mask.toNat n then acc.requestCal n (acc.rd64 DEV_CAL_AT) else acc) s.wakeLink)) ∧
  (∀ (n : Fin 8) (s : State), let k := s.calKey n
      (∀ a, (s.cal k).waits = some a → a ≤ s.ft.toNat → exec (.calAtReached n) s = .next (s.beginCal k)) ∧
      (∀ a, (s.cal k).waits = some a → s.ft.toNat < a → exec (.calAtReached n) s = .next s) ∧
      ((s.cal k).waits = none → exec (.calAtReached n) s = .next s)) ∧
  (∀ (n : Fin 8) (s : State), let k := s.calKey n
      let c := s.cal k
      c.st = .slot → s.slotReady k = true →
      (∀ e ∈ s.cals, e.2.st = .slot → s.slotReady e.1 = true → c.order < e.2.order ∨ (c.order = e.2.order ∧ k ≤ e.1)) → s.runningCals.length < 2 → s.level = 0 →
      let u := s.setCal k { c with st := .running, phase := 1, dips := 0, saved := (s.calLathes k).map s.calWords, codes := (s.calLathes k).flatMap s.trimCodes }
      let v := if c.kind = 0 then (s.calLathes k).foldl (fun (acc : State) m => acc.startingPoint m) u else u
      let w := (s.calLathes k).foldl (fun (acc : State) m => let acc := (acc.modLathe m fun l => { l.freeBanks with adcOn := if acc.deep m && m % 2 = 1 then [] else List.range 536 }).stopLoops m; if c.kind = 0 then acc.phaseOne m else acc) v
      exec (.calSlotGrant n) s = .next (if w.trimForced then w.rejectCal k 6 else w)) ∧
  (∀ (n : Fin 8) (m : CalMeas) (s : State), (s.cal (s.calKey n)).st = .running → exec (.calPhaseEnd n m) s = .next (s.endPhase (s.calKey n) m)) ∧
  (∀ (n : Fin 8) (s : State), let k := s.calKey n
      let c := s.cal k
      c.st = .running → c.kind ≠ 2 → c.phase = (if c.kind = 0 then 6 else if c.kind = 1 then 4 else 2) →
      (c.reason ≠ 0 → exec (.calibrationEnd n) s = .next (s.rejectCal k c.reason)) ∧
      (c.reason = 0 → s.mapsOk k c = false → exec (.calibrationEnd n) s = .next (s.rejectCal k 0)) ∧
      (c.reason = 0 → s.mapsOk k c = true → exec (.calibrationEnd n) s = .next (s.acceptCal k))) ∧
  (∀ (n : Fin 8) (m : CalMeas) (s : State), let k := s.calKey n
      (s.cal k).st = .running → (s.cal k).kind = 2 →
      let c := { s.cal k with extra1 := s.fitPass k ((m.groups[0]?).getD []), extra2 := s.fitPass k ((m.groups[1]?).getD []), newCols := List.range 536 }
      let r := s.localise k c
      let a := (((s.setCal k c).showFits k (fun _ _ => false) fun p => (s.localised k c).contains p).resumeLoops k c).calDone k
      let u := (a.calLathes k).foldl (fun (acc : State) m => (acc.modLathe m Lathe.freeBanks).setCalResult m 1 2 0) a
      let v := u.post 0xD03 cWARN (unitOf 1 k) 0xFFFF [(0x10, k), (0x11, c.column), (0x12, r.1.getD 0xFFFF), (0x14, r.2)]
      r.1 = none → exec (.localiseEnd n m) s = .next ((v.calLathes k).foldl (fun (acc : State) m => acc.wantLanes m) (v.post 0xA02 cFAULT (unitOf 1 k) c.ctx [(0x10, k), (0x11, 4)]))) ∧
  (∀ (n : Fin 8) (m : CalMeas) (p : Nat) (s : State), let k := s.calKey n
      (s.cal k).st = .running → (s.cal k).kind = 2 →
      let c := { s.cal k with extra1 := s.fitPass k ((m.groups[0]?).getD []), extra2 := s.fitPass k ((m.groups[1]?).getD []), newCols := List.range 536 }
      let r := s.localise k c
      let a := (((s.setCal k c).showFits k (fun _ _ => false) fun p => (s.localised k c).contains p).resumeLoops k c).calDone k
      let u := (a.calLathes k).foldl (fun (acc : State) m => (acc.modLathe m Lathe.freeBanks).setCalResult m 1 2 0) a
      let v := (u.post 0xD03 cWARN (unitOf 1 k) 0xFFFF [(0x10, k), (0x11, c.column), (0x12, p), (0x14, r.2)]).histPermanent 4 p k 2
      let spare := (List.range 536).find? fun q => decide (520 ≤ q) && !((List.range 520).map (v.colMap k)).contains q && v.colKept k c q
      let entry := (List.range 520).find? fun i => v.colMap k i == p
      r.1 = some p → exec (.localiseEnd n m) s = .next (match spare, entry with
        | some q, some i =>
          let w := (v.calLathes k).foldl (fun (acc : State) m => (((acc.wf (LTH_COLMAP m i) LTH_COLMAP_PHYS q).replaced 4 p m q).renameLoops m).powerAdcs m) v
          (w.post 0xA01 cINFO (unitOf 4 p) c.ctx [(0x10, k), (0x11, if i < 512 then 2 else 1), (0x12, q)]).askCal k 3 0 i c.ctx
        | _, _ => (v.calLathes k).foldl (fun (acc : State) m => acc.wantLanes m) (v.post 0xA02 cFAULT (unitOf 1 k) c.ctx [(0x10, k), (0x11, 4)]))) ∧
  (∀ (n : Fin 8) (s : State), Canon s → s.standbyPos n ≠ 15 → s.rf (LTH_LASER n 11) LTH_LASER_STATE = 2 → (s.cal (s.calKey n)).st = .idle → (s.lathe n).svc = .inService →
      Completes (.standbyLocked n) s fun t => t.rf (LTH_LASER n 11) LTH_LASER_STATE = 3)

/-- The power input and the power level complete (R503, R412, R599, R612, R510, R504, R505). The device starts from power-off; a power loss
leaves only the flash and the outside; each millisecond PL rises at or above PWR_LIMIT, falls below 95 % of it, and is held otherwise,
with PWR_INPUT showing what was measured. -/
def Obligations.PowerInput : Prop :=
  (∀ s : State, s.power.input = false →
      let u := ((((({ s with power := { s.power with input := true, offTotal := s.power.offTotal + (s.clock - s.power.offAt) }, hist := s.histFlash, histDirty := [], recovery := s.recPin, recReply := none, vent := { s.vent with booting := true, bootCause := 0 } } : State).setDom 63 1).setDom 62 1).wr
          DEV_FABRIC_ID s.fabricIdFlash).beginStart 0 s.clock)
      (s.recPin = true → exec .powerInputGood s = .next u) ∧ (s.recPin = false → exec .powerInputGood s = .next u.bootChain)) ∧
  (∀ s : State, exec .powerLoss s = .next s.powerLoss) ∧
  (∀ (power volt : BitVec 16) (s : State), Canon s → s.power.input = true →
      let v := s.wr PWR_INPUT (BitVec.ofNat 32 (volt.toNat + 65536 * power.toNat))
      let lim := v.rf PWR_LIMIT PWR_LIMIT_LIMIT
      let pl := v.rf PWR_STATUS PWR_STATUS_PLEVEL
      let next := if lim ≤ power.toNat then min (pl + 1) 6 else if 100 * power.toNat < 95 * lim then pl - 1 else pl
      let u := v.wf PWR_STATUS PWR_STATUS_PLEVEL next
      (pl = 0 → next = 0 → exec (.powerLevelUpdate power volt) s = .next u) ∧
      (0 < pl → 0 < next → exec (.powerLevelUpdate power volt) s =
        .next (({ u with power := { u.power with capMs := u.power.capMs + 1 } } : State).bump PWR_STAT_CAP_MS 1)))

/-- Domain commands, power states and their requests complete (R513, R533, R522, R526, R517, R574, R514, R523, R518, R515, R524, R519).
Domain commands place a domain as the power state says, switch it off and reset it; a domain comes back after its reset; a power state
is requested at once or for a time, acts, quiesces or times out, and is reached; an idle link enters L1. -/
def Obligations.PowerDomainsAndStates : Prop :=
  (∀ (d : Fin 64) (s : State), s.blockOff .pwr 0 = false → s.wakeLink.domTaken d = true → groupOf d = none →
      (s.wakeLink.dom d = 0 → exec (.pwrDomOn d) s = .next (s.wakeLink.placeDom s.wakeLink.pwr d)) ∧ (s.wakeLink.dom d ≠ 0 → exec (.pwrDomOn d) s = .next s.wakeLink) ∧
      exec (.pwrDomOff d) s = .next (s.wakeLink.domOff d 0) ∧ exec (.pwrDomReset d) s = .next (s.wakeLink.domainReset d 1)) ∧
  (∀ (d : Fin 64) (s : State), groupOf d = none → d.val ≠ 63 → let k := resetKey d
      sget 0 s.power.resets k ≠ 0 → sget 0 s.power.resets k - 1 + ms ≤ s.clock →
      exec (.domainReon d) s = .next (({ s with power := { s.power with resets := sput 0 0 s.power.resets k } } : State).placeDom s.pwr d)) ∧
  (∀ (v : Word) (s : State), s.blockOff .pwr 0 = false → let u := s.wakeLink.wrSoft PWR_STATE_REQ v
      v.toNat / 256 % 2 = 1 → v.toNat % 8 ≤ 4 → u.power.cold = false → u.ventDown = false →
      (bit v.toNat 4 = true → exec (.pwrStateGo v) s = .next { u with power := { u.power with timed := u.power.timed ++ [(u.rd64 PWR_STATE_AT, v.toNat % 8)] } }) ∧
      (bit v.toNat 4 = false → exec (.pwrStateGo v) s = .next { u with power := { u.power with reqTarget := some (v.toNat % 8), reqVent := false, timed := [] } })) ∧
  (∀ (t : Nat) (s : State), s.power.reqTarget = some t → s.flag PWR_STATUS PWR_STATUS_TRANS = false → s.power.timed = [] → s.power.resetHeld = false →
      s.power.refLost = false → s.power.input = true → s.pwr ≠ t → (s.pwr ≠ 4 ∨ t = 0) → (s.pwr < t → s.downWaits = false) →
      exec .pwrRequestAct s = .next (s.beginTransition t s.power.reqVent)) ∧
  (∀ s : State, s.flag PWR_STATUS PWR_STATUS_TRANS = false → exec .quiesceTimeout s = .next s) ∧
  (∀ s : State, s.flag PWR_STATUS PWR_STATUS_TRANS = true → s.power.waiting = true → let tmo := s.rf PWR_QUIESCE_TMO PWR_QUIESCE_TMO_MS
      tmo ≠ 0 → s.power.transFrom + tmo * ms ≤ s.clock → s.power.tmoDone = false →
      let late := (List.range 8).filter fun n => (s.lathe n).svc == .quiescing
      let engines := (late.map s.gang).eraseDups
      let count := (engines.map fun b => ((s.engine b).progs.filter fun x => x.st == .started).length).foldl (· + ·) 0
      late ≠ [] →
      let u := engines.foldl (fun (acc : State) b => acc.abortWhere b 0x10 fun x => x.st == .started) { s with power := { s.power with tmoDone := true } }
      exec .quiesceTimeout s = .next (u.post 0xE02 cWARN 0 0xFFFF [(0x10, u.rf PWR_STATUS PWR_STATUS_TARGET), (0x11, maskOf 8 fun n => late.contains n), (0x14, count)])) ∧
  (∀ s : State, s.flag PWR_STATUS PWR_STATUS_TRANS = true → s.power.refLost = false →
      (s.power.byVent || !s.power.waiting || (List.range 8).all fun n => (s.lathe n).svc != .quiescing) = true →
      let t := s.rf PWR_STATUS PWR_STATUS_TARGET
      let closed := (List.range 8).all fun k => s.bypassed k && !bit s.bypOpening k
      (3 ≤ t → closed = false → exec .pwrTransitionEnd s = .next ((List.range 8).foldl (fun (acc : State) k => acc.closeBypass k 2 5) s)) ∧
      (3 ≤ t → closed = true → s.rf IZP_BYP IZP_BYP_MOVING ≠ 0 → exec .pwrTransitionEnd s = .next s) ∧
      (t < 3 → s.pwr ≠ 4 →
        let u := (List.range 8).foldl (fun (acc : State) n => acc.modLathe n Lathe.freeBanks) s
        let u := (((u.placeAll t).wf PWR_STATUS PWR_STATUS_STATE t).wb PWR_STATUS PWR_STATUS_TRANS false).bump PWR_STAT_TRANSITIONS 1
        let u : State := { u with power := { u.power with cold := false, waiting := false, byVent := false } }
        let w := if u.flag PWR_CTRL PWR_CTRL_STATE_EVT_EN then
          u.post 0xE00 cINFO 0 0xFFFF [(0x10, s.pwr), (0x11, t), (0x12, if s.power.byVent then 2 else 1), (0x14, (s.clock - s.power.transFrom) / 1000)] else u
        exec .pwrTransitionEnd s = .next (if t = 0 then (List.range 8).foldl (fun (acc : State) n => acc.tryService n) w else w))) ∧
  (∀ s : State, Canon s → s.hostUp = true → s.rf PWR_STATUS PWR_STATUS_STATE = 3 →
      Completes .linkIdleL1 s fun t => t.rf PCI_STATUS PCI_STATUS_LPS = 2)

/-- PLL unlocks, resets, releases and the start-up steps complete (R530, R531, R573, R612, R532, R534, R595, R555, R535, R536, R551, R556).
A PLL loses lock, the reference returns, PERST_N moves, a device reset is released; hot, function-level and Vent resets act; the Vent
boots; start-up steps, the READY limit and the self-tests end. -/
def Obligations.ClocksAndResets : Prop :=
  (∀ (k : Fin 37) (s : State), s.flag (CLK_DOM k) CLK_DOM_LOCKED = true → 24 ≤ k.val → k.val < 32 → s.flag CLK_CTRL CLK_CTRL_UNLOCK_EVT_EN = false →
      let u := ((s.bump CLK_STAT_UNLOCK 1).wb (CLK_DOM k) CLK_DOM_LOCKED false).incF (CLK_DOM k) CLK_DOM_UNLOCKS 1
      u.flag CLK_CTRL CLK_CTRL_UNLOCK_EVT_EN = false →
      exec (.pllUnlock (some k)) s = .next (u.domainReset (48 + (k - 24)) 4)) ∧
  (∀ s : State, s.power.refLost = true →
      let u := (({ s with power := { s.power with refLost := false } } : State).wb CLK_REF CLK_REF_REF_OK true).wb CLK_REF CLK_REF_FALLBACK false
      (u.power.resetHeld = true → exec .refOscReturn s = .next u) ∧
      (u.power.resetHeld = false → (u.vent.booting = true → u.vent.bootCause ≠ 0) → exec .refOscReturn s = .next (u.placeAll u.pwr))) ∧
  (∀ s : State, exec .perstN s = .next (({ s with perst := true } : State).hostLinkDown .perst).deviceReset) ∧
  (∀ s : State, s.power.resetHeld = true → s.power.resetAt + 10 * ms ≤ s.clock → s.power.refLost = false →
      let u : State := { s with perst := false, power := { s.power with resetHeld := false }, recovery := s.recPin, recReply := none }
      (s.recPin = true → exec .deviceResetRelease s = .next (u.setDom 62 1)) ∧ (s.recPin = false → exec .deviceResetRelease s = .next (u.beginStart 150 s.clock).boot150)) ∧
  (∀ s : State, exec .hotReset s = .next (s.hostLinkDown .hotReset).functionReset ∧ exec .functionLevelReset s = .next s.functionReset ∧
      exec .ventWatchdog s = .next (s.ventReset 1)) ∧
  (∀ s : State, Completes .functionLevelReset s fun t => t.msixTable = [] ∧ t.msixPending = [] ∧ t.evtQs = [] ∧ t.ctoNs = 50000000 ∧ t.ctoOff = false) ∧
  (∀ s : State, s.vent.booting = true → s.recovery = false → s.bootStopped = false → s.dom 63 = 1 →
      let u : State := { s with vent := { s.vent with booting := false, abandoned := 0 } }
      (s.vent.bootCause = 0 → s.power.refLost = false → exec .ventBooted s = .next u.boot150) ∧
      (s.vent.bootCause ≠ 0 → exec .ventBooted s = .next (u.postVent 0x1006 cWARN 0 [(0x10, s.vent.bootCause), (0x11, s.vent.abandoned)]))) ∧
  (∀ (k : Fin 6) (ok : Bool) (s : State), (k.val ≠ 0 ∨ s.sec.st ≠ .selftest) → exec (.startStepEnd k ok) s = .next (s.stepDone k ok)) ∧
  (∀ s : State, s.power.starting = true → s.power.startedAt + (4000 - s.power.startMs) * ms ≤ s.clock → exec .readyTimeout s = .next s.ready) ∧
  (∀ (fail : BitVec 4) (s : State), s.sec.st = .selftest → s.dom 62 = 1 → fail ≠ 0 →
      Completes (.selftestEnd fail) s fun t => t.sec.st = .error ∧ t.sec.stFail = fail.toNat) ∧
  (∀ s : State, s.sec.st = .selftest → s.dom 62 = 1 → bit (s.rf PWR_START PWR_START_PEND) 0 = false →
      exec (.selftestEnd 0) s = .next ([1, 2, 3].foldl (fun (acc : State) k => acc.raiseCtr (fwReg k) (acc.fw k).active.2.1)
        ({ s with sec := { s.sec with st := .operational, stFail := 0 } } : State)))

/-- Services and sessions of the security module complete (R556, R559, R545, R552, R555). GET_STATUS, GET_CERTS, QUOTE, EXTEND, CHALLENGE
and SELFTEST answer; LOGIN opens a session, is counted or refused; a lockout ends; LOGOUT and the session timeout close it. -/
def Obligations.SecurityServices : Prop :=
  (∀ (i : SecIface) (s : State), s.dom 62 = 1 →
      exec (.getStatus i) s = .next ((s.touchSession i).secRespond i 1 (if (s.touchSession i).sec.st == .error then 5 else 0)
        (leBytes s.secStatus 4 ++ (List.range 8).flatMap (fun k => leBytes (s.ctr k) 4) ++ (List.range 8).flatMap fun k => leBytes (s.slotWord k) 4))) ∧
  (∀ (i : SecIface) (s : State), s.dom 62 = 1 → s.sec.st = .operational → exec (.getCerts i) s = .next ((s.touchSession i).secRespond i 2 0 Config.certs)) ∧
  (∀ (i : SecIface) (nonce : List Byte) (mask : BitVec 16) (s : State), s.dom 62 = 1 → s.sec.st = .operational → 1 ≤ nonce.length → nonce.length ≤ 64 →
      let u := (s.touchSession i).bump SEC_STAT_QUOTES 1
      exec (.quote i nonce mask) s = .next (u.secRespond i 3 0 ((s.touchSession i).quote nonce mask.toNat))) ∧
  (∀ (i : SecIface) (r : Fin 16) (v : List Byte) (s : State), s.dom 62 = 1 → s.sec.st = .operational → (s.touchSession i).hasUsage i uUSER = true → 9 ≤ r.val → v.length = 64 →
      exec (.extend i r v) s = .next (((s.touchSession i).extend r v).secRespond i 4 0 [])) ∧
  (∀ (i : SecIface) (s : State), s.dom 62 = 1 → s.sec.st = .operational →
      let u : State := { s.touchSession i with sec := { (s.touchSession i).sec with asked := s.sec.asked + 1 } }
      exec (.challenge i) s = .next ((u.setSess (ifaceNo i) { u.sess (ifaceNo i) with challenge := some ((Config.challenge s.sec.asked).setWidth 512, s.clock) }).secRespond
        i 5 0 (leBytes (Config.challenge s.sec.asked).toNat 32))) ∧
  (∀ (i : SecIface) (s : State), s.dom 62 = 1 → s.sec.st = .operational → (s.touchSession i).hasUsage i uUSER = true →
      Completes (.selftest i) s fun t => t.sec.st = .selftest) ∧
  (∀ (i : SecIface) (slot : Fin 8) (s : State), s.dom 62 = 1 → s.sec.st = .operational → (s.owner slot).valid = true →
      let u := s.touchSession i
      let x := u.sess (ifaceNo i)
      x.lockedUntil = none → x.fails < 3 → x.slot = none → x.challenge.isSome = true →
      exec (.login i slot true) s = .next ((u.setSess (ifaceNo i) { x with challenge := none, slot := some slot, fails := 0 }).secRespond i 6 0 []) ∧
      exec (.login i slot false) s = .next (((u.setSess (ifaceNo i) { x with challenge := none, fails := x.fails + 1 }).authFail i slot 6).secRespond i 6 3 [])) ∧
  (∀ (i : SecIface) (s : State), 3 ≤ (s.sess (ifaceNo i)).fails → (s.sess (ifaceNo i)).lockedUntil = none →
      exec (.loginLockout i) s = .next (s.setSess (ifaceNo i) { s.sess (ifaceNo i) with lockedUntil := some (s.clock + 10000 * ms) })) ∧
  (∀ (i : SecIface) (t : Nat) (s : State), (s.sess (ifaceNo i)).lockedUntil = some t → t ≤ s.clock →
      exec (.lockoutEnd i) s = .next (s.setSess (ifaceNo i) { s.sess (ifaceNo i) with lockedUntil := none, fails := 0 })) ∧
  (∀ (i : SecIface) (k : Fin 8) (s : State), s.dom 62 = 1 → s.sec.st = .operational → let u := s.touchSession i
      (u.sess (ifaceNo i)).slot = some k →
      exec (.logout i) s = .next ((u.setSess (ifaceNo i) { u.sess (ifaceNo i) with slot := none }).secRespond i 7 0 [])) ∧
  (∀ (i : SecIface) (k : Fin 8) (s : State), (s.sess (ifaceNo i)).slot = some k → (s.sess (ifaceNo i)).last + 60000 * ms ≤ s.clock →
      exec (.sessionTimeout i) s = .next (s.setSess (ifaceNo i) { s.sess (ifaceNo i) with slot := none }))

/-- Owner slots, zeroisation, debug grants and the fabric ID complete (R554, R552, R557, R558, R601, R599, R541). ENROLL and REVOKE write
owner slots; ZEROISE and its end erase them; GRANT_DEBUG grants, and DEV_DEBUG follows the grant; DEV_FABRIC_ID is taken while every
port is down, and its flash copy with it while domain 62 is on (log entry 202). -/
def Obligations.Ownership : Prop :=
  (∀ (i : SecIface) (slot : Fin 8) (digest : BitVec 512) (usage : BitVec 5) (s : State), s.dom 62 = 1 → s.sec.st = .operational → s.owned = false →
      bit usage.toNat uENROLL = true →
      exec (.enroll i slot digest usage true) s = .next ((((s.touchSession i).setOwner slot { valid := true, usage := usage, digest := digest }).post 0xF02 cINFO (unitOf 0xF 0) 0xFFFF
          [(0x10, slot), (0x11, 1), (0x12, usage.toNat)]).secRespond i 8 0 [])) ∧
  (∀ (i : SecIface) (slot j : Fin 8) (s : State), s.dom 62 = 1 → s.sec.st = .operational → (s.touchSession i).hasUsage i uENROLL = true → (s.owner slot).valid = true →
      j ≠ slot → (s.owner j).valid = true → bit (s.owner j).usage.toNat uENROLL = true →
      Completes (.revoke i slot) s fun t => ∀ k, Canon s → (t.owner k = if k = slot.val then {} else s.owner k)) ∧
  (∀ (i : SecIface) (s : State), s.dom 62 = 1 → s.sec.st = .operational → (s.touchSession i).hasUsage i uZEROISE = true →
      Completes (.zeroise i) s fun t => t.sec.st = .zeroised ∧ t.sec.zeroising = true) ∧
  (∀ s : State, s.sec.zeroising = true → Completes .zeroiseEraseEnd s fun t => t.sec.owners = [] ∧ t.sec.zeroising = false ∧ t.sec.ctrs = s.sec.ctrs) ∧
  (∀ (i : SecIface) (mask : BitVec 8) (s : State), s.dom 62 = 1 → s.sec.st = .operational → (s.touchSession i).hasUsage i uDEBUG = true →
      Completes (.grantDebug i mask) s fun t => t.sec.grant = some ((s.sec.grant.getD 0) ||| mask)) ∧
  (∀ (v : Word) (s : State), Canon s → s.blockOff .dev 0 = false →
      Completes (.debugWrite v) s fun t => t.rf DEV_DEBUG DEV_DEBUG_LATHES = (v.toNat &&& (s.rf DEV_DEBUG DEV_DEBUG_LATHES ||| (s.sec.grant.getD 0).toNat)) % 256) ∧
  (∀ (v : Word) (s : State), s.blockOff .dev 0 = false → (∀ p, p < 16 → s.wakeLink.link p = lnkDown ∨ s.wakeLink.link p = lnkDisabled ∨ s.wakeLink.link p = lnkBypassed) →
      let u := s.wakeLink.wrSoft DEV_FABRIC_ID v
      (u.dom 62 = 1 → exec (.fabricIdWrite v) s = .next { u with fabricIdFlash := u.rd DEV_FABRIC_ID }) ∧ (u.dom 62 ≠ 1 → exec (.fabricIdWrite v) s = .next u))

/-- Verifying, applying, rolling back and discarding a jig complete (R541, R544, R561, R562, R567, R563, R378, R564, R565, R551, R566).
VERIFY accepts an image into the Pending slot or rejects it with its reason, and is refused while domain 62 is off (log entry 202);
APPLY waits for its time and quiesces; the apply and the rollback act once quiet; the health check commits or rolls back; DISCARD
empties the slot; refused commands leave their reason. -/
def Obligations.JigSlots : Prop :=
  (∀ (keyOk sigOk : Bool) (l : List Byte) (s : State), s.blockOff .jig 0 = false → let u := s.wakeLink
      u.jig.st = .idle → u.dom 62 = 1 → u.readImage (u.rd64 JIG_SRC) (u.rd JIG_LEN).toNat = some l →
      (u.imageFault l 0x10 keyOk sigOk ≠ 0 → exec (.jigVerify keyOk sigOk) s =
        .next ((u.jigResult 1 (u.imageFault l 0x10 keyOk sigOk)).imageRejected 0x10 (u.imageFault l 0x10 keyOk sigOk) (imgVersion l))) ∧
      (u.imageFault l 0x10 keyOk sigOk = 0 → bodyFault (imgBody l) ≠ 0 → exec (.jigVerify keyOk sigOk) s =
        .next ((u.jigResult 1 (bodyFault (imgBody l))).imageRejected 0x10 (bodyFault (imgBody l)) (imgVersion l))) ∧
      (u.imageFault l 0x10 keyOk sigOk = 0 → bodyFault (imgBody l) = 0 → Completes (.jigVerify keyOk sigOk) s fun t =>
        t.jig.pend = { valid := true, version := imgVersion l, svn := imgSvn l, body := imgBody l, signer := imgSigner l, key := imgKey l, digest := Sha3.sha3 l })) ∧
  (∀ (keyOk sigOk : Bool) (s : State), s.blockOff .jig 0 = false → let u := s.wakeLink
      (u.jig.st ≠ .idle ∨ u.dom 62 ≠ 1 → exec (.jigVerify keyOk sigOk) s = .next (u.jigResult 1 8)) ∧
      (u.jig.st = .idle → u.dom 62 = 1 → u.readImage (u.rd64 JIG_SRC) (u.rd JIG_LEN).toNat = none →
        exec (.jigVerify keyOk sigOk) s = .next (((u.imageUnmapped (u.rd64 JIG_SRC) (u.rd JIG_LEN).toNat).jigResult 1 10).imageRejected 0x10 10 0))) ∧
  (∀ (atEn : Bool) (s : State), s.blockOff .jig 0 = false → let u := s.wakeLink
      (u.jig.st = .idle → u.jig.pend.valid = true → exec (.jigApply atEn) s =
        .next (({ u with jig := { u.jig with st := .applyWait, applyAt := if atEn then u.rd64 JIG_AT else 0, quiescing := false } } : State).jigResult 2 0)) ∧
      (u.jig.st ≠ .idle ∨ u.jig.pend.valid = false → exec (.jigApply atEn) s = .next (u.jigResult 2 8))) ∧
  (∀ s : State, s.blockOff .jig 0 = false → let u := s.wakeLink
      (u.rollbackRefusal = 0 → exec .jigRollback s = .next ((u.jigResult 3 0).beginRollback 3)) ∧
      (u.rollbackRefusal ≠ 0 → exec .jigRollback s = .next (u.jigResult 3 u.rollbackRefusal))) ∧
  (∀ s : State, s.blockOff .jig 0 = false → let u := s.wakeLink
      (u.jig.st = .idle ∨ u.jig.st = .applyWait → exec .jigDiscard s = .next (({ u with jig := { u.jig with st := .idle, pend := {}, quiescing := false } } : State).jigResult 4 0)) ∧
      (u.jig.st ≠ .idle → u.jig.st ≠ .applyWait → exec .jigDiscard s = .next (u.jigResult 4 8))) ∧
  (∀ s : State, s.jig.st = .applyWait → s.jig.applyAt ≤ s.ft.toNat → s.flag PWR_STATUS PWR_STATUS_TRANS = false → s.runningCals = [] →
      exec .applyAct s = .next ({ s with jig := { s.jig with st := .applying } } : State).quiesceJig) ∧
  (∀ s : State, s.jig.st = .applying → s.jigQuiet = true → exec .applyQuiesced s = .next s.applyJig) ∧
  (∀ s : State, s.jig.st = .health → s.jig.healthFrom + 30000 * ms ≤ s.clock →
      let good := ((List.range 8).all fun n =>
          !jigDomEn s.jigBody (4 * n + 3) || (s.lathe n).svc == .inService || (s.lathe n).svc == .calibrating || ((s.lathe n).svc == .outOfService && (s.lathe n).oosCause = 1)) &&
        (List.range 8).all fun m => !jigDomEn s.jigBody (48 + m) || s.flag (HBM_STATUS m) HBM_STATUS_UP
      let u := ({ s with jig := { s.jig with st := .idle, uncommitted := false, resetSeen := false } } : State).raiseCtr 7 s.jig.cur.svn
      (good = true → exec .healthCheckEnd s = .next (u.post 0xF07 cINFO (unitOf 0xF 0) 0xFFFF [(0x14, u.jig.cur.version), (0x18, u.jig.cur.svn)])) ∧
      (good = false → exec .healthCheckEnd s = .next (s.beginRollback 2))) ∧
  (∀ s : State, s.jig.st = .rollingBack → let u := if s.jig.quiescing then s else s.quiesceJig
      (u.jigQuiet = true → exec .rollbackApply s = .next u.rollBack) ∧ (u.jigQuiet = false → exec .rollbackApply s = .next u)) ∧
  (∀ s : State, s.jig.quiescing = true → let set := s.rf PWR_QUIESCE_TMO PWR_QUIESCE_TMO_MS
      let tmo := if set = 0 ∧ s.jig.st = .rollingBack then 10 else set
      tmo ≠ 0 → s.jig.quiesceFrom + tmo * ms ≤ s.clock →
      let late := (s.affectedBy s.nextBody).filter fun n => (s.lathe n).svc == .quiescing
      exec .jigQuiesceTimeout s = .next ((late.map s.gang).eraseDups.foldl (fun (acc : State) b => acc.abortWhere b 0x12 fun x => x.st == .started) s))

/-- Firmware commands and recovery complete (R541, R544, R569, R351, R428, R551, R613, R614, R612). VERIFY fills the inactive slot or
rejects; ACTIVATE and its counterpart begin and end an activation; COMMIT raises the counter; in recovery an image is taken or refused
and the release of REC_N starts the device. -/
def Obligations.Firmware : Prop :=
  (∀ (kind : BitVec 3) (keyOk sigOk : Bool) (l : List Byte) (s : State), s.blockOff .jig 0 = false → let u := s.wakeLink
      kind ≠ 0 → u.fwActive kind.toNat = false → u.dom 62 = 1 → u.readImage (u.rd64 JIG_FW_SRC) (u.rd JIG_FW_LEN).toNat = some l →
      (u.imageFault l kind.toNat keyOk sigOk ≠ 0 → exec (.fwVerify kind keyOk sigOk) s =
        .next ((u.fwResult (u.imageFault l kind.toNat keyOk sigOk)).imageRejected kind.toNat (u.imageFault l kind.toNat keyOk sigOk) (imgVersion l))) ∧
      (u.imageFault l kind.toNat keyOk sigOk = 0 → exec (.fwVerify kind keyOk sigOk) s =
        .next ((u.setFw kind.toNat (if (u.fw kind.toNat).activeB then { u.fw kind.toNat with verA := imgVersion l, svnA := imgSvn l, digA := Sha3.sha3 l, okA := true, loaded := true }
          else { u.fw kind.toNat with verB := imgVersion l, svnB := imgSvn l, digB := Sha3.sha3 l, okB := true, loaded := true })).fwResult 0))) ∧
  (∀ (kind : BitVec 3) (keyOk sigOk : Bool) (s : State), s.blockOff .jig 0 = false → let u := s.wakeLink
      (kind = 0 → exec (.fwVerify kind keyOk sigOk) s = .next (u.fwResult 3)) ∧
      (kind ≠ 0 → u.fwActive kind.toNat = true ∨ u.dom 62 ≠ 1 → exec (.fwVerify kind keyOk sigOk) s = .next (u.fwResult 8)) ∧
      (kind ≠ 0 → u.fwActive kind.toNat = false → u.dom 62 = 1 → u.readImage (u.rd64 JIG_FW_SRC) (u.rd JIG_FW_LEN).toNat = none →
        exec (.fwVerify kind keyOk sigOk) s = .next (((u.imageUnmapped (u.rd64 JIG_FW_SRC) (u.rd JIG_FW_LEN).toNat).fwResult 10).imageRejected kind.toNat 10 0))) ∧
  (∀ (kind : BitVec 3) (inst : BitVec 8) (bypass : Bool) (s : State), s.blockOff .jig 0 = false → let u := s.wakeLink
      kind ≠ 0 → u.fwActive kind.toNat = false →
      ((u.fw kind.toNat).loaded = true ∨ (u.fw kind.toNat).committed = false → exec (.fwActivate kind inst bypass) s =
        .next ((u.fwResult 0).fwBegin { kind := kind.toNat, inst := inst.toNat, flip := (u.fw kind.toNat).loaded } bypass)) ∧
      ((u.fw kind.toNat).loaded = false → (u.fw kind.toNat).committed = true → exec (.fwActivate kind inst bypass) s = .next (u.fwResult 8)) ∧
      ((u.fw kind.toNat).committed = false → exec (.fwActivateOther kind inst bypass) s =
        .next ((u.fwResult 0).fwBegin { kind := kind.toNat, inst := inst.toNat, back := true } bypass)) ∧
      ((u.fw kind.toNat).committed = true → exec (.fwActivateOther kind inst bypass) s = .next (u.fwResult 8))) ∧
  (∀ (a : FwAct) (s : State), s.fwBusy.find? s.fwReady = some a →
      let u := ({ s with fwBusy := s.fwBusy.erase a } : State).fwDone a
      (a.kind ≠ 4 → a.kind ≠ 7 → exec .fwActivationEnd s = .next u) ∧
      (a.kind = 4 → exec .fwActivationEnd s = .next ((u.loops.map (·.1)).foldl (fun (acc : State) (i : Nat) => acc.reinit i) u)) ∧
      (a.kind = 7 → exec .fwActivationEnd s = .next ((List.range 8).foldl (fun (acc : State) k => if bit a.pairs k then acc.openBypass k else acc) u))) ∧
  (∀ (kind : BitVec 3) (s : State), s.blockOff .jig 0 = false → let u := s.wakeLink
      let f := u.fw kind.toNat
      (4 ≤ kind.toNat → u.dom 62 = 1 → u.fwActive kind.toNat = false → f.committed = false → f.ran &&& fwAll kind.toNat = fwAll kind.toNat → exec (.fwCommit kind) s =
        .next ((((u.setFw kind.toNat { f with committed := true, loaded := false }).raiseCtr (fwReg kind.toNat) f.active.2.1).fwResult 0).post 0xF0A cINFO (unitOf 0xF 0) 0xFFFF
          [(0x10, kind.toNat), (0x14, f.active.2.1)])) ∧
      (kind.toNat < 4 ∨ u.dom 62 ≠ 1 ∨ u.fwActive kind.toNat = true ∨ f.committed = true → exec (.fwCommit kind) s = .next (u.fwResult 8))) ∧
  (∀ (image : List Byte) (keyOk sigOk : Bool) (s : State), s.recovery = true →
      let why := if 2 ^ 20 < image.length then 3 else s.imageFault image 1 keyOk sigOk
      let u : State := { s with recReply := some (BitVec.ofNat 8 why) }
      let w := if why ≠ 0 then u else u.setFw 1 { u.fw 1 with verA := imgVersion image, svnA := imgSvn image, digA := Sha3.sha3 image, okA := true }
      (s.recPin = true → exec (.recoveryImage image keyOk sigOk) s = .next w) ∧
      (s.recPin = false → exec (.recoveryImage image keyOk sigOk) s = .next w.recoveryOver)) ∧
  (∀ s : State, s.recovery = true → s.recReply ≠ none →
      let u : State := { s with recPin := false, recovery := false }
      (s.vent.booting = true → exec .recNRelease s = .next (u.beginStart 0 u.clock).bootChain) ∧
      (s.vent.booting = false → exec .recNRelease s = .next (u.beginStart 150 u.clock).boot150))

/-- Window accesses, host reads, the link and event queues complete (R578, R581, R225, R597, R572, R583, R584, R585, R587, R576, R588). BAR4
accesses read and write here or on another device; host reads are delivered, fail or time out; the link goes down and up; an event queue
is enabled or refused, takes its record, signals, and takes its head. -/
def Obligations.HostPort : Prop :=
  (∀ (off : BitVec 36) (len : Nat) (data : List Byte) (poison : Bool) (errs : List (Addr × LineErr × LineErr)) (parity : Bool) (s : State), s.hostUp = true → let u := s.wakeLink
      let a := 2 ^ 30 * u.rf64 PCI_WIN_BASE PCI_WIN_BASE_BASE + off.toNat
      let hit := parity && inWindow a && u.mapped a
      let v := if hit then u.wayParity (unitOf 0xE 0) 0xFF 0xFFFF (u.glob (a / 64 * 64)) else u
      u.flag PCI_WIN_CFG PCI_WIN_CFG_REMOTE = false → v.flag PCI_WIN_CFG PCI_WIN_CFG_REMOTE = false →
      (data ≠ [] → exec (.windowAccess off false len data poison errs parity) s =
        .next ((lineParts a data.length).foldl (fun (acc : State) e =>
          let err := ((errs.find? fun x => x.1.toNat / 64 == (a + e.1) / 64).map (·.2)).getD ([], [])
          acc.windowWrite (a + e.1) ((data.drop e.1).take e.2) (poison || hit) err.1 err.2) v)) ∧
      (len ≠ 0 → Completes (.windowAccess off true len data poison errs parity) s fun t => t.resp = { data := (v.windowRead a len).1, poison := (v.windowRead a len).2.1 || hit })) ∧
  (∀ (off : BitVec 36) (len : Nat) (data : List Byte) (poison : Bool) (errs : List (Addr × LineErr × LineErr)) (parity : Bool) (s : State), s.hostUp = true → let u := s.wakeLink
      let a := 2 ^ 30 * u.rf64 PCI_WIN_BASE PCI_WIN_BASE_BASE + off.toNat
      let dev := u.rf PCI_WIN_CFG PCI_WIN_CFG_DEV
      u.flag PCI_WIN_CFG PCI_WIN_CFG_REMOTE = true → dev ≠ u.devId → inWindow a = true →
      (data ≠ [] → exec (.windowAccess off false len data poison errs parity) s =
        .next ((lineParts a data.length).foldl (fun (acc : State) e => acc.remoteWrite dev (a + e.1) ((data.drop e.1).take e.2) poison) u)) ∧
      (len ≠ 0 → exec (.windowAccess off true len data poison errs parity) s = .next (u.remoteRead dev a len))) ∧
  (∀ (data : List Byte) (f : HostFail) (r : HostReq) (rest : List HostReq) (s : State), s.hostReqs = r :: rest →
      let u : State := { s with hostReqs := rest }
      exec (.hostRequestComplete none data) s = .next (((u.deliverHost r data false).resumeHost [r]).unstallHost) ∧
      exec (.hostRequestComplete (some f) data) s = .next ((((u.bump PCI_STAT_POISON_RX (if f = .poisoned then r.len / 64 else 0)).failHost r (failCode f)).resumeHost [r]).unstallHost)) ∧
  (∀ (r : HostReq) (s : State), s.ctoOff = false → (s.hostReqs.find? fun r => decide (r.since + s.ctoNs ≤ s.clock)) = some r →
      exec .hostReadTimeout s = .next (((({ s with hostReqs := s.hostReqs.erase r } : State).failHost r 4).resumeHost [r]).unstallHost)) ∧
  (∀ (why : LinkLoss) (width : BitVec 5) (gen : BitVec 4) (flit : Bool) (s : State),
      exec (.pcieLinkDown why) s = .next (s.hostLinkDown why) ∧
      (s.hostUp = false → s.perst = false → s.dom 60 = 1 → ([1, 2, 4, 8, 16] : List Nat).contains width.toNat = true → gen.toNat ≠ 0 → gen.toNat ≤ 6 →
        let u := (((s.wb PCI_STATUS PCI_STATUS_LINK_UP true).wf PCI_STATUS PCI_STATUS_WIDTH width.toNat).wf PCI_STATUS PCI_STATUS_GEN gen.toNat).wb PCI_STATUS PCI_STATUS_FLIT flit
        let d := [(0x10, width.toNat), (0x11, gen.toNat), (0x12, b2n flit)]
        (u.flag PCI_CTRL PCI_CTRL_LINK_EVT_EN = false → exec (.pcieLinkUp width gen flit) s = .next u) ∧
        (u.flag PCI_CTRL PCI_CTRL_LINK_EVT_EN = true → width = 16 ∧ gen = 6 ∧ flit = true → exec (.pcieLinkUp width gen flit) s = .next (u.post 0x1001 cINFO (unitOf 0xE 0) 0xFFFF d)) ∧
        (u.flag PCI_CTRL PCI_CTRL_LINK_EVT_EN = true → ¬(width = 16 ∧ gen = 6 ∧ flit = true) → exec (.pcieLinkUp width gen flit) s =
          .next ((u.post 0x1001 cINFO (unitOf 0xE 0) 0xFFFF d).post 0x1002 cWARN (unitOf 0xE 0) 0xFFFF d)))) ∧
  (∀ (e : Fin 16) (v : Word) (s : State), s.blockOff .evt 0 = false →
      let u := s.wakeLink.wrSoft (EVT_Q_CFG e) v
      let log := u.rf (EVT_Q_CFG e) EVT_Q_CFG_LOG2_SIZE
      u.flag (EVT_Q_CFG e) EVT_Q_CFG_EN = true →
      (6 ≤ log → log ≤ 20 → u.rf64 (EVT_Q_BASE e) EVT_Q_BASE_ADDR % (64 * 2 ^ log) = 0 → exec (.evtQueueEnable e v) s = .next (u.wb (EVT_Q_CFG e) EVT_Q_CFG_ERR false)) ∧
      (log < 6 ∨ 20 < log ∨ u.rf64 (EVT_Q_BASE e) EVT_Q_BASE_ADDR % (64 * 2 ^ log) ≠ 0 →
        exec (.evtQueueEnable e v) s = .next (((u.wb (EVT_Q_CFG e) EVT_Q_CFG_EN false).wb (EVT_Q_CFG e) EVT_Q_CFG_ERR true).evtError e 1))) ∧
  (∀ (e : Fin 16) (fail : Bool) (x : Nat × Event) (s : State), (s.evtFly.find? fun x => x.1 == e.val) = some x →
      exec (.eventRecordWriteEnd e fail) s = .next (({ s with evtFly := s.evtFly.erase x } : State).landRecord e x.2 fail)) ∧
  (∀ (e : Fin 16) (s : State), let q : EvtQ := sget {} s.evtQs e
      let us := s.rf (EVT_Q_CFG e) EVT_Q_CFG_COAL_US
      0 < q.unsig → 0 < us → q.oldest + 1000 * us ≤ s.clock → exec (.coalTimeout e) s = .next (s.signalQueue e)) ∧
  (∀ (e : Fin 16) (v : Word) (s : State), s.blockOff .evt 0 = false → let u := s.wakeLink
      let i := bits v.toNat 0 20
      let size := u.evtSize e
      let head := u.rf (EVT_Q_HEAD e) EVT_Q_HEAD_INDEX
      let tail := u.rf (EVT_Q_TAIL e) EVT_Q_TAIL_INDEX
      let fits := i < size ∧ (i + size - head % size) % size ≤ (tail + size - head % size) % size
      (fits → exec (.evtHeadWrite e v) s = .next (u.wf (EVT_Q_HEAD e) EVT_Q_HEAD_INDEX i)) ∧
      (¬ fits → exec (.evtHeadWrite e v) s = .next (u.evtError e 2)))

/-- The operations of the Vent complete (R446, R510, R513, R528, R531, R559, R589, R590, R592, R593, R594, R595). With the Vent up and idle,
and with a USER session where the management port needs one, each of the thirteen operations is done and answered with its status, or
started when it takes time; without the session it is answered with 2; while another runs it waits behind at most three more, and a
fifth is answered with 4; ABORT_ALL resets what is still held after 10 ms. -/
def Obligations.VentOperations : Prop :=
  (∀ (i : VentIface) (seq : BitVec 16) (s : State), s.ventUp = true → (s.power.cold = true → onMgmt i = true) → s.vent.run = none →
      let r : VentReq := { mgmt := onMgmt i, op := 0x01, seq := seq }
      exec (.ventStatus i seq) s = .next (s.ventReply r 0 s.ventSnapshot)) ∧
  (∀ (i : VentIface) (seq : BitVec 16) (sel : Word) (s : State), s.ventUp = true → (s.power.cold = true → onMgmt i = true) → s.vent.run = none →
      let r : VentReq := { mgmt := onMgmt i, op := 0x02, seq := seq, arg0 := sel.toNat }
      (∀ k, histSel sel.toNat = some k → exec (.ventHistory i seq sel) s = .next (s.ventReply r 0 ((s.histWords k).flatMap fun w => leBytes w 4))) ∧
      (histSel sel.toNat = none → exec (.ventHistory i seq sel) s = .next (s.ventReply r 3 []))) ∧
  (∀ (i : VentIface) (seq : BitVec 16) (d : Word) (s : State), s.ventUp = true → (s.power.cold = true → onMgmt i = true) → s.vent.run = none →
      (onMgmt i = true → s.hasUsage .management uUSER = true) →
      let r : VentReq := { mgmt := onMgmt i, op := 0x03, seq := seq, arg0 := d.toNat }
      let n := bits d.toNat 0 6
      let busy := s.jigDom n = false ∨ s.flag PWR_STATUS PWR_STATUS_TRANS = true ∨ s.power.resetHeld = true ∨ s.power.refLost = true
      (n = 63 → exec (.ventDomainReset i seq d) s = .next (s.ventReply r 3 [])) ∧
      (n ≠ 63 → busy → exec (.ventDomainReset i seq d) s = .next (s.ventReply r 6 [])) ∧
      (n ≠ 63 → ¬ busy → exec (.ventDomainReset i seq d) s = .next ((s.domainReset n 2).ventReply r 0 []))) ∧
  (∀ (i : VentIface) (seq : BitVec 16) (s : State), s.ventUp = true → (s.power.cold = true → onMgmt i = true) → s.vent.run = none →
      (onMgmt i = true → s.hasUsage .management uUSER = true) →
      let r : VentReq := { mgmt := onMgmt i, op := 0x04, seq := seq }
      exec (.ventDeviceReset i seq) s = .next (s.ventReply r 0 []).deviceReset) ∧
  (∀ (i : VentIface) (seq : BitVec 16) (s : State), s.ventUp = true → (s.power.cold = true → onMgmt i = true) → s.vent.run = none →
      (onMgmt i = true → s.hasUsage .management uUSER = true) →
      let r : VentReq := { mgmt := onMgmt i, op := 0x05, seq := seq }
      exec (.ventAbortAll i seq) s = .next { s.abortEvery with vent := { s.abortEvery.vent with run := some r, abortAt := s.clock } }) ∧
  (∀ (i : VentIface) (seq : BitVec 16) (target : Word) (s : State), s.ventUp = true → (s.power.cold = true → onMgmt i = true) → s.vent.run = none →
      (onMgmt i = true → s.hasUsage .management uUSER = true) →
      let r : VentReq := { mgmt := onMgmt i, op := 0x06, seq := seq, arg0 := target.toNat }
      let t := target.toNat
      (t ≠ 3 → t ≠ 4 → exec (.ventPowerDown i seq target) s = .next (s.ventReply r 3 [])) ∧
      (t = 3 ∨ t = 4 → s.power.resetHeld = true ∨ s.power.refLost = true → exec (.ventPowerDown i seq target) s = .next (s.ventReply r 6 [])) ∧
      (t = 3 ∨ t = 4 → s.power.resetHeld = false → s.power.refLost = false → s.power.cold = true ∨ (t ≤ s.pwr ∧ s.flag PWR_STATUS PWR_STATUS_TRANS = false) → exec (.ventPowerDown i seq target) s = .next (s.ventReply r 0 [])) ∧
      (t = 3 ∨ t = 4 → s.power.resetHeld = false → s.power.refLost = false → s.power.cold = false → s.pwr < t ∨ s.flag PWR_STATUS PWR_STATUS_TRANS = true →
        let u := ((List.range 8).foldl (fun (acc : State) n => acc.endCal n 7) s.abortEvery).beginTransition t true
        exec (.ventPowerDown i seq target) s = .next { u with power := { u.power with waiting := false }, vent := { u.vent with run := some r } })) ∧
  (∀ (i : VentIface) (seq : BitVec 16) (mask : Word) (s : State), s.ventUp = true → (s.power.cold = true → onMgmt i = true) → s.vent.run = none →
      (onMgmt i = true → s.hasUsage .management uUSER = true) →
      let r : VentReq := { mgmt := onMgmt i, op := 0x07, seq := seq, arg0 := mask.toNat }
      exec (.ventBypassClose i seq mask) s = .next (((List.range 8).foldl (fun (acc : State) k => if bit mask.toNat k then acc.closeBypass k 3 4 else acc) s).ventReply r 0 [])) ∧
  (∀ (i : VentIface) (seq : BitVec 16) (s : State), s.ventUp = true → (s.power.cold = true → onMgmt i = true) → s.vent.run = none →
      (onMgmt i = true → s.hasUsage .management uUSER = true) →
      let r : VentReq := { mgmt := onMgmt i, op := 0x08, seq := seq }
      exec (.ventThermalTrip i seq) s = .next ((s.trip true).ventReply r 0 [])) ∧
  (∀ (i : VentIface) (seq : BitVec 16) (s : State), s.ventUp = true → (s.power.cold = true → onMgmt i = true) → s.vent.run = none →
      (onMgmt i = true → s.hasUsage .management uUSER = true) →
      let r : VentReq := { mgmt := onMgmt i, op := 0x09, seq := seq }
      (s.rollbackRefusal ≠ 0 → exec (.ventJigRollback i seq) s = .next (s.ventReply r 6 [])) ∧
      (s.rollbackRefusal = 0 → exec (.ventJigRollback i seq) s = .next { s.beginRollback 4 with vent := { (s.beginRollback 4).vent with run := some r } })) ∧
  (∀ (i : VentIface) (seq : BitVec 16) (arg : Word) (nonce : List Byte) (s : State), s.ventUp = true → (s.power.cold = true → onMgmt i = true) → s.vent.run = none →
      let r : VentReq := { mgmt := onMgmt i, op := 0x0A, seq := seq, arg0 := arg.toNat, data := nonce }
      let len := bits arg.toNat 0 8
      (s.secAnswers 3 = false → exec (.ventQuote i seq arg nonce) s = .next (s.ventReply r 5 [])) ∧
      (s.secAnswers 3 = true → len = 0 ∨ 48 < len → exec (.ventQuote i seq arg nonce) s = .next (s.ventReply r 3 [])) ∧
      (s.secAnswers 3 = true → len ≠ 0 → len ≤ 48 →
        exec (.ventQuote i seq arg nonce) s = .next ((s.bump SEC_STAT_QUOTES 1).ventReply r 0 (s.quote ((nonce ++ List.replicate 48 0).take len) (bits arg.toNat 16 16))))) ∧
  (∀ (i : VentIface) (seq : BitVec 16) (arg : Word) (s : State), s.ventUp = true → (s.power.cold = true → onMgmt i = true) → s.vent.run = none →
      (onMgmt i = true → s.hasUsage .management uUSER = true) →
      let r : VentReq := { mgmt := onMgmt i, op := 0x0B, seq := seq, arg0 := arg.toNat }
      (bit arg.toNat 0 = true → s.trimForced = false → exec (.ventTrimClear i seq arg) s = .next ((({ s with trimVent := true, trimSince := s.clock } : State).forceClear 2).ventReply r 0 [])) ∧
      (bit arg.toNat 0 = true → s.trimForced = true → exec (.ventTrimClear i seq arg) s = .next (({ s with trimVent := true } : State).ventReply r 0 [])) ∧
      (bit arg.toNat 0 = false → s.trimForced = true → s.trimPin = false → exec (.ventTrimClear i seq arg) s = .next (({ s with trimVent := false } : State).releaseClear.ventReply r 0 [])) ∧
      (bit arg.toNat 0 = false → s.trimForced = false ∨ s.trimPin = true → exec (.ventTrimClear i seq arg) s = .next (({ s with trimVent := false } : State).ventReply r 0 []))) ∧
  (∀ (i : VentIface) (seq : BitVec 16) (s : State), s.ventUp = true → (s.power.cold = true → onMgmt i = true) → s.vent.run = none →
      (onMgmt i = true → s.hasUsage .management uUSER = true) →
      let r : VentReq := { mgmt := onMgmt i, op := 0x10, seq := seq }
      (s.pwr < 3 → exec (.ventWake i seq) s = .next (s.ventReply r 6 [])) ∧
      (3 ≤ s.pwr → exec (.ventWake i seq) s = .next (({ s with power := { s.power with reqTarget := some 0, reqVent := true, timed := [] } } : State).ventReply r 0 []))) ∧
  (∀ (i : VentIface) (seq : BitVec 16) (lines : Word) (a : GAddr) (s : State), s.ventUp = true → (s.power.cold = true → onMgmt i = true) → s.vent.run = none →
      (onMgmt i = true → s.hasUsage .management uUSER = true) →
      let r : VentReq := { mgmt := onMgmt i, op := 0x11, seq := seq, arg0 := lines.toNat, arg1 := a.toNat }
      let x := a.toNat % 2 ^ 56 / 64 * 64
      let ok := lines.toNat = 0 ∨ (s.mapped (x % 2 ^ 40) = true ∧ s.mapped (x % 2 ^ 40 + 64 * (lines.toNat - 1)) = true)
      (s.isLocal x = true → ¬ ok → exec (.ventPoisonMark i seq lines a) s = .next (s.ventReply r 5 [])) ∧
      (s.isLocal x = false ∨ ok → exec (.ventPoisonMark i seq lines a) s = .next ((s.poisonGlobal 25 x (64 * lines.toNat) (BitVec.ofNat 2 (s.rf IZP_GCFG IZP_GCFG_DEFAULT_RS))).ventReply r 0 []))) ∧
  (∀ (r : VentReq) (s : State), r.mgmt = true → r.op ≠ 1 → r.op ≠ 2 → r.op ≠ 0xA → s.hasUsage .management uUSER = false → s.ventStart r = s.ventReply r 2 []) ∧
  (∀ (i : VentIface) (seq : BitVec 16) (x : VentReq) (s : State), s.ventUp = true → (s.power.cold = true → onMgmt i = true) → s.vent.run = some x → s.ventOver x = false →
      let r : VentReq := { mgmt := onMgmt i, op := 0x01, seq := seq }
      (4 ≤ countOf s.vent.queue (fun q => q.mgmt == onMgmt i) → exec (.ventStatus i seq) s = .next (s.ventReply r 4 [])) ∧
      (countOf s.vent.queue (fun q => q.mgmt == onMgmt i) < 4 → Completes (.ventStatus i seq) s fun t => t.vent.queue = s.vent.queue ++ [r])) ∧
  (∀ (r : VentReq) (s : State), s.vent.run = some r → r.op = 5 → s.vent.abortAt + 10 * ms ≤ s.clock →
      exec .abortAllTimeout s = .next (((List.range 8).filter s.holdsAborting).foldl (fun (acc : State) b => (acc.groupReset b false).resetEvent (4 * b + 3) 2) s).ventSettle)
end

