-- ==== Sys2Proof/Laws/Sparse.lean ====
section
/-! SUPPORT. Laws of sparse tables: reading after writing, and that every operation keeps the canonical form. -/
set_option Elab.async false
namespace Sys2Proof.Machine

variable {α : Type} [DecidableEq α] {dflt : Nat → α}

theorem swfAbove_mono {lo lo' : Nat} (h : lo' ≤ lo) {t : Sparse α} (ht : swfAbove dflt lo t = true) : swfAbove dflt lo' t = true := by
  cases t with
  | nil => rfl
  | cons e t =>
    simp only [swfAbove, Bool.and_eq_true, decide_eq_true_eq] at *
    exact ⟨⟨Nat.le_trans h ht.1.1, ht.1.2⟩, ht.2⟩

/-- Keys below the bound of a canonical table are not listed. -/
theorem sget_below {d : α} {lo i : Nat} {t : Sparse α} (ht : swfAbove dflt lo t = true) (h : i < lo) : sget d t i = d := by
  cases t with
  | nil => rfl
  | cons e t =>
    simp only [swfAbove, Bool.and_eq_true, decide_eq_true_eq] at ht
    have : i < e.1 := Nat.lt_of_lt_of_le h ht.1.1
    simp [sget, Nat.ne_of_gt this, this]

theorem swfAbove_sput {v : α} {i lo : Nat} {t : Sparse α} (h : lo ≤ i) (ht : swfAbove dflt lo t = true) :
    swfAbove dflt lo (sput (dflt i) v t i) = true := by
  induction t generalizing lo with
  | nil => by_cases hv : v = dflt i <;> simp [sput, swfAbove, hv, h]
  | cons e t ih =>
    obtain ⟨k, w⟩ := e
    simp only [swfAbove, Bool.and_eq_true, decide_eq_true_eq] at ht
    obtain ⟨⟨hk, hw⟩, ht⟩ := ht
    unfold sput
    by_cases h1 : i < k
    · by_cases hv : v = dflt i
      · simp [h1, hv, swfAbove, hk, hw, ht]
      · simp [h1, hv, swfAbove, h, hw, ht, Nat.succ_le_of_lt h1]
    · by_cases h2 : i = k
      · subst h2
        by_cases hv : v = dflt i
        · simp [hv, swfAbove_mono (Nat.le_succ_of_le hk) ht]
        · simp [hv, swfAbove, h, ht]
      · have : k + 1 ≤ i := by omega
        simp [h1, h2, swfAbove, hk, hw, ih this ht]

/-- A write keeps the canonical form. -/
theorem swf_sput {v : α} {i : Nat} {t : Sparse α} (ht : swf dflt t = true) : swf dflt (sput (dflt i) v t i) = true :=
  swfAbove_sput (Nat.zero_le _) ht

theorem swfAbove_filter {p : Nat × α → Bool} {lo : Nat} {t : Sparse α} (ht : swfAbove dflt lo t = true) : swfAbove dflt lo (t.filter p) = true := by
  induction t generalizing lo with
  | nil => rfl
  | cons e t ih =>
    simp only [swfAbove, Bool.and_eq_true, decide_eq_true_eq] at ht
    rw [List.filter_cons]
    split
    · simp [swfAbove, ht.1.1, ht.1.2, ih ht.2]
    · exact swfAbove_mono (Nat.le_succ_of_le ht.1.1) (ih ht.2)

/-- Dropping entries keeps the canonical form. -/
theorem swf_filter {p : Nat × α → Bool} {t : Sparse α} (ht : swf dflt t = true) : swf dflt (t.filter p) = true := swfAbove_filter ht

theorem swf_sdrop {t : Sparse α} {lo len : Nat} (ht : swf dflt t = true) : swf dflt (sdrop t lo len) = true := swf_filter ht

theorem swfAbove_map_keys {f : Nat × α → Nat × α} {lo : Nat} {t : Sparse α} (hf : ∀ e, (f e).1 = e.1)
    (ht : swfAbove dflt lo t = true) : swfAbove dflt lo ((t.map f).filter fun e => decide (e.2 ≠ dflt e.1)) = true := by
  induction t generalizing lo with
  | nil => rfl
  | cons e t ih =>
    obtain ⟨k, v⟩ := e
    simp only [swfAbove, Bool.and_eq_true, decide_eq_true_eq] at ht
    obtain ⟨⟨h1, _⟩, h3⟩ := ht
    simp only [List.map_cons, List.filter_cons]
    have hk := hf (k, v)
    split
    · rename_i hv
      simp only [decide_eq_true_eq] at hv
      revert hk hv
      generalize f (k, v) = w
      obtain ⟨k', v'⟩ := w
      intro hk hv
      replace hk : k' = k := hk
      subst hk
      simp only [swfAbove, Bool.and_eq_true, decide_eq_true_eq]
      exact ⟨⟨h1, hv⟩, ih h3⟩
    · exact swfAbove_mono (Nat.le_succ_of_le h1) (ih h3)

theorem swf_smap {d : α} {f : α → α} {t : Sparse α} (ht : swf (fun _ => d) t = true) : swf (fun _ => d) (smap d f t) = true :=
  swfAbove_map_keys (f := fun e => (e.1, f e.2)) (fun _ => rfl) ht

theorem swf_sputs {d : α} {t : Sparse α} {es : List (Nat × α)} (ht : swf (fun _ => d) t = true) : swf (fun _ => d) (sputs d t es) = true := by
  unfold sputs
  induction es generalizing t with
  | nil => exact ht
  | cons e es ih => exact ih (swf_sput (dflt := fun _ => d) ht)

theorem swf_scopy {d : α} {t : Sparse α} {src dst len : Nat} (ht : swf (fun _ => d) t = true) :
    swf (fun _ => d) (scopy d t src dst len) = true := swf_sputs (swf_sdrop ht)

/-- A write is read back. -/
theorem sget_sput_self {v : α} {i : Nat} {t : Sparse α} (ht : swf dflt t = true) : sget (dflt i) (sput (dflt i) v t i) i = v := by
  suffices ∀ lo, swfAbove dflt lo t = true → sget (dflt i) (sput (dflt i) v t i) i = v from this 0 ht
  clear ht
  induction t with
  | nil => intro _ _; by_cases hv : v = dflt i <;> simp [sput, sget, hv]
  | cons e t ih =>
    obtain ⟨k, w⟩ := e
    intro lo ht
    simp only [swfAbove, Bool.and_eq_true, decide_eq_true_eq] at ht
    unfold sput
    by_cases h1 : i < k
    · by_cases hv : v = dflt i
      · simp [h1, hv, sget, Nat.ne_of_gt h1]
      · simp [h1, hv, sget]
    · by_cases h2 : i = k
      · subst h2
        by_cases hv : v = dflt i
        · simp [hv, sget_below ht.2 (Nat.lt_succ_self _)]
        · simp [hv, sget]
      · simp [h1, h2, sget, Ne.symm h2, ih _ ht.2]

/-- A write leaves every other key alone. -/
theorem sget_sput_ne {d d' v : α} {i j : Nat} {t : Sparse α} (ht : swf dflt t = true) (h : j ≠ i) : sget d' (sput d v t i) j = sget d' t j := by
  suffices ∀ lo, swfAbove dflt lo t = true → sget d' (sput d v t i) j = sget d' t j from this 0 ht
  clear ht
  induction t with
  | nil => intro _ _; by_cases hv : v = d <;> simp [sput, sget, hv, Ne.symm h]
  | cons e t ih =>
    obtain ⟨k, w⟩ := e
    intro lo ht
    simp only [swfAbove, Bool.and_eq_true, decide_eq_true_eq] at ht
    unfold sput
    by_cases h1 : i < k
    · by_cases hv : v = d
      · simp [h1, hv]
      · by_cases h3 : j < i
        · simp [h1, hv, sget, Ne.symm h, h3, Nat.ne_of_gt (Nat.lt_trans h3 h1), Nat.lt_trans h3 h1]
        · simp [h1, hv, sget, Ne.symm h, h3]
    · by_cases h2 : i = k
      · subst h2
        by_cases hv : v = d
        · by_cases h3 : j < i
          · simp [hv, sget, Ne.symm h, h3, sget_below ht.2 (Nat.lt_succ_of_lt h3)]
          · simp [hv, sget, Ne.symm h, h3]
        · simp [hv, sget, Ne.symm h]
      · by_cases h4 : k = j
        · subst h4
          simp [h1, h2, sget]
        · simp [h1, h2, sget, h4, ih _ ht.2]

/-- A key of a dropped range reads its default. -/
theorem sget_sdrop_in {d : α} {t : Sparse α} {lo len i : Nat} (ht : swf dflt t = true) (h : lo ≤ i) (h' : i < lo + len) :
    sget d (sdrop t lo len) i = d := by
  suffices ∀ b, swfAbove dflt b t = true → sget d (sdrop t lo len) i = d from this 0 ht
  clear ht
  induction t with
  | nil => intro _ _; rfl
  | cons e t ih =>
    intro b ht
    simp only [swfAbove, Bool.and_eq_true, decide_eq_true_eq] at ht
    unfold sdrop at *
    rw [List.filter_cons]
    split
    · rename_i hk
      by_cases he : e.1 = i
      · simp [he, h, h'] at hk
      · simp only [sget, he, if_false]
        split
        · rfl
        · exact ih _ ht.2
    · exact ih _ ht.2

/-- A key outside a dropped range keeps its value. -/
theorem sget_sdrop_out {d : α} {t : Sparse α} {lo len i : Nat} (ht : swf dflt t = true) (h : i < lo ∨ lo + len ≤ i) :
    sget d (sdrop t lo len) i = sget d t i := by
  suffices ∀ b, swfAbove dflt b t = true → sget d (sdrop t lo len) i = sget d t i from this 0 ht
  clear ht
  induction t with
  | nil => intro _ _; rfl
  | cons e t ih =>
    intro b ht
    simp only [swfAbove, Bool.and_eq_true, decide_eq_true_eq] at ht
    have hs := ih _ ht.2
    unfold sdrop at *
    rw [List.filter_cons]
    split
    · simp only [sget, hs]
    · rename_i hk
      have he : e.1 ≠ i := by
        intro he
        simp [he] at hk
        omega
      rw [hs]
      simp only [sget, he, if_false]
      split
      · exact sget_below ht.2 (by omega)
      · rfl

end Sys2Proof.Machine
end

