-- ==== Sys2Proof/Laws/Kept.lean ====
section
/-! SUPPORT. How the frame of an operation is proved: `Kept m s t` says that `t` differs from `s` in the parts of the mask `m` at most, that
canonical tables stay canonical, and that no anti-rollback counter falls. One such lemma stands for each operation. -/
set_option Elab.async false
namespace Sys2Proof.Machine

/-- The parts in the order of their declaration, from bit 0. -/
def Part.no (p : Part) : Nat := p.ctorIdx

/-- The mask of some parts. -/
def partMask (ps : List Part) : Nat := ps.foldr (fun p acc => 2 ^ p.no ||| acc) 0

/-- `t` differs from `s` in the parts of mask `m` at most; canonical tables stay so, and no anti-rollback counter falls. -/
def Kept (m : Nat) (s t : State) : Prop :=
  (∀ p : Part, m.testBit p.no = false → p.same s t) ∧ (Canon s → Canon t ∧ countersKept s t)

theorem Part.same_refl (p : Part) (s : State) : p.same s s := by cases p <;> rfl

theorem Part.same_trans {p : Part} {s t u : State} (h : p.same s t) (h' : p.same t u) : p.same s u := by
  cases p <;> exact Eq.trans h' h

theorem Kept.refl (m : Nat) (s : State) : Kept m s s := ⟨fun p _ => p.same_refl s, fun h => ⟨h, fun _ => Nat.le_refl _⟩⟩

theorem Kept.trans {m : Nat} {s t u : State} (h : Kept m s t) (h' : Kept m t u) : Kept m s u :=
  ⟨fun p hp => Part.same_trans (h.1 p hp) (h'.1 p hp), fun hs =>
    have a := h.2 hs
    have b := h'.2 a.1
    ⟨b.1, fun k => Nat.le_trans (a.2 k) (b.2 k)⟩⟩

theorem Kept.mono {m M : Nat} {s t : State} (h : Kept m s t) (hm : m ||| M = M) : Kept M s t := by
  refine ⟨fun p hp => h.1 p ?_, h.2⟩
  rw [← hm, Nat.testBit_or] at hp
  exact (Bool.or_eq_false_iff.mp hp).1

/-- An operation that keeps `m` goes on from a state that keeps `M`. -/
theorem Kept.step {m M : Nat} {s x y : State} (h : Kept M s x) (h' : Kept m x y) (hm : m ||| M = M := by decide) : Kept M s y :=
  h.trans (h'.mono hm)

/-- A state with the tables of another is as canonical. -/
theorem Canon.same {y z : State} (h : (z.regs, z.heldLow, z.mem, z.marks, z.hostMem, z.accMem, z.chkMem, z.rowState, z.lathes, z.groups, z.engines, z.descs, z.waiters, z.hbmStacks, z.rdc, z.ports, z.mcMsgs, z.bypCause, z.hist, z.histFlash, z.loops, z.cores, z.trims, z.convs, z.cals, z.calFlash, z.rails, z.fws, z.hostBad, z.evtQs, z.msixTable, z.msixPending, z.sec.owners, z.sec.ctrs) =
    (y.regs, y.heldLow, y.mem, y.marks, y.hostMem, y.accMem, y.chkMem, y.rowState, y.lathes, y.groups, y.engines, y.descs, y.waiters, y.hbmStacks, y.rdc, y.ports, y.mcMsgs, y.bypCause, y.hist, y.histFlash, y.loops, y.cores, y.trims, y.convs, y.cals, y.calFlash, y.rails, y.fws, y.hostBad, y.evtQs, y.msixTable, y.msixPending, y.sec.owners, y.sec.ctrs)) (hy : Canon y) :
    Canon z ∧ countersKept y z := by
  simp only [Prod.mk.injEq] at h
  obtain ⟨h0, h1, h2, h3, h4, h5, h6, h7, h8, h9, h10, h11, h12, h13, h14, h15, h16, h17, h18, h19, h20, h21, h22, h23, h24, h25, h26, h27, h28, h29, h30, h31, h32, h33⟩ := h
  refine ⟨?_, fun k => ?_⟩
  · constructor
    · rw [h0]; exact hy.regs
    · rw [h1]; exact hy.heldLow
    · rw [h2]; exact hy.mem
    · rw [h3]; exact hy.marks
    · rw [h4]; exact hy.hostMem
    · rw [h5]; exact hy.accMem
    · rw [h6]; exact hy.chkMem
    · rw [h7]; exact hy.rowState
    · rw [h8]; exact hy.lathes
    · rw [h9]; exact hy.groups
    · rw [h10]; exact hy.engines
    · rw [h11]; exact hy.descs
    · rw [h12]; exact hy.waiters
    · rw [h13]; exact hy.hbmStacks
    · rw [h14]; exact hy.rdc
    · rw [h15]; exact hy.ports
    · rw [h16]; exact hy.mcMsgs
    · rw [h17]; exact hy.bypCause
    · rw [h18]; exact hy.hist
    · rw [h19]; exact hy.histFlash
    · rw [h20]; exact hy.loops
    · rw [h21]; exact hy.cores
    · rw [h22]; exact hy.trims
    · rw [h23]; exact hy.convs
    · rw [h24]; exact hy.cals
    · rw [h25]; exact hy.calFlash
    · rw [h26]; exact hy.rails
    · rw [h27]; exact hy.fws
    · rw [h28]; exact hy.hostBad
    · rw [h29]; exact hy.evtQs
    · rw [h30]; exact hy.msixTable
    · rw [h31]; exact hy.msixPending
    · rw [h32]; exact hy.owners
    · rw [h33]; exact hy.ctrs
  · exact Nat.le_of_eq (by rw [h33])

/-- `Kept` of a state that is written out field by field, as a record update is. -/
structure KeptMk (m : Nat) (s t : State) : Prop where
  kept : Kept m s t

/-- A record update of the state. -/
theorem Kept.upd {M : Nat} {s y : State} (h : Kept M s y)
    {clock1 : Nat} {ft1 : DWord} {regs1 : Sparse Word} {mem1 : Memory} {marks1 : Sparse Bool} {accMem1 : Sparse Word}
    {chkMem1 : Sparse Word} {rowState1 : Sparse RowState} {lathes1 : Sparse Lathe} {groups1 : Sparse Group} {engines1 : Sparse Engine}
    {descs1 : Sparse Desc} {waiters1 : Sparse (List Waiter)} {stacks1 : Sparse Stack} {rdc1 : Sparse (List RedOp)}
    {scaleUpd1 : List ScaleUpd} {scaleEval1 : List ScaleUpd} {swaps1 : List Swap} {swapWait1 : Option RecWait} {uses1 : List PoisonUse}
    {verifying1 : List Nat} {building1 : Option Build} {reqs1 : Sparse Req} {nextTag1 : Nat} {tagWait1 : List (Req × Packet)}
    {redHeld1 : List RedHeld} {ports1 : Sparse Port}
    {fabQueue1 : List (Nat × Packet)} {sent1 : List (Nat × Packet)} {mcMsgs1 : Sparse (List McMsg)} {mcOn1 : List Nat} {bypOpening1 : Nat}
    {bypCause1 : Sparse Nat} {ftm1 : Ftm} {hist1 : Sparse HistRec} {histFlash1 : Sparse HistRec} {histDirty1 : List Nat}
    {loops1 : Sparse Loop} {cores1 : Sparse CoreSt} {trims1 : Sparse Trim} {trimPin1 : Bool} {trimVent1 : Bool} {trimSince1 : Nat}
    {convs1 : Sparse Conv} {temp1 : Temp} {cals1 : Sparse Cal} {calFlash1 : Sparse CalCopy} {keptCodes1 : List (Nat × Nat)}
    {rails1 : Sparse RailSt} {dips1 : List Dip} {dipNo1 : Nat} {power1 : Power} {sec1 : Sec} {jig1 : Jig} {fws1 : Sparse Fw}
    {fwBusy1 : List FwAct} {fabricIdFlash1 : Word} {hostMem1 : Memory} {hostBad1 : Sparse Nat} {hostReqs1 : List HostReq} {hostWait1 : List HostReq} {ctoNs1 : Nat}
    {ctoOff1 : Bool} {evtFly1 : List (Nat × Event)} {evtQs1 : Sparse EvtQ} {limits1 : List Limit} {msixTable1 : Sparse Word}
    {msixPending1 : Sparse Bool} {msixSent1 : List Nat} {vent1 : Vent} {perst1 : Bool} {recPin1 : Bool} {recovery1 : Bool}
    {recReply1 : Option Byte} {heldLow1 : Sparse Word} {resp1 : Resp} {freeNo1 : Nat}
    (hp : ∀ p : Part, M.testBit p.no = true ∨ p.same y
        ⟨y.pending, clock1, ft1, regs1, mem1, marks1, accMem1, chkMem1, rowState1, lathes1, groups1, engines1, descs1, waiters1, stacks1, rdc1,
        scaleUpd1, scaleEval1, swaps1, swapWait1, uses1, verifying1, building1, reqs1, nextTag1, tagWait1, redHeld1, ports1, fabQueue1, sent1, mcMsgs1, mcOn1,
        bypOpening1, bypCause1, ftm1, hist1, histFlash1, histDirty1, loops1, cores1, trims1, trimPin1, trimVent1, trimSince1, convs1,
        temp1, cals1, calFlash1, keptCodes1, rails1, dips1, dipNo1, power1, sec1, jig1, fws1, fwBusy1, fabricIdFlash1, hostMem1, hostBad1,
        hostReqs1, hostWait1, ctoNs1, ctoOff1, evtFly1, evtQs1, limits1, msixTable1, msixPending1, msixSent1, vent1, perst1, recPin1, recovery1,
        recReply1, heldLow1, resp1, freeNo1⟩ := by
      intro p; cases p <;> first | exact Or.inl rfl | exact Or.inr rfl)
    (hk : Canon y → Canon
        ⟨y.pending, clock1, ft1, regs1, mem1, marks1, accMem1, chkMem1, rowState1, lathes1, groups1, engines1, descs1, waiters1, stacks1, rdc1,
        scaleUpd1, scaleEval1, swaps1, swapWait1, uses1, verifying1, building1, reqs1, nextTag1, tagWait1, redHeld1, ports1, fabQueue1, sent1, mcMsgs1, mcOn1,
        bypOpening1, bypCause1, ftm1, hist1, histFlash1, histDirty1, loops1, cores1, trims1, trimPin1, trimVent1, trimSince1, convs1,
        temp1, cals1, calFlash1, keptCodes1, rails1, dips1, dipNo1, power1, sec1, jig1, fws1, fwBusy1, fabricIdFlash1, hostMem1, hostBad1,
        hostReqs1, hostWait1, ctoNs1, ctoOff1, evtFly1, evtQs1, limits1, msixTable1, msixPending1, msixSent1, vent1, perst1, recPin1, recovery1,
        recReply1, heldLow1, resp1, freeNo1⟩ := by
      intro hh
      constructor
      · first | exact hh.regs | exact swf_sput (dflt := resetWord) hh.regs | (refine swf_sdrop ?_; exact hh.regs)
      · first | exact hh.heldLow | exact swf_sput (dflt := fun _ => 0) hh.heldLow | (refine swf_sdrop ?_; exact hh.heldLow)
      · first | exact hh.mem | exact swf_sput (dflt := fun _ => 0) hh.mem | (refine swf_sdrop ?_; exact hh.mem) | (refine swf_scopy ?_; exact hh.mem)
      · first | exact hh.marks | exact swf_sput (dflt := fun _ => false) hh.marks | (refine swf_sdrop ?_; exact hh.marks) | (refine swf_scopy ?_; exact hh.marks)
      · first | exact hh.hostMem | exact swf_sput (dflt := fun _ => 0) hh.hostMem
      · first | exact hh.accMem | exact swf_sput (dflt := fun _ => 0) hh.accMem | (refine swf_sdrop ?_; exact hh.accMem)
      · first | exact hh.chkMem | exact swf_sput (dflt := fun _ => 0) hh.chkMem | (refine swf_sdrop ?_; exact hh.chkMem)
      · first | exact hh.rowState | (refine swf_sput ?_; exact hh.rowState) | (refine swf_sdrop ?_; exact hh.rowState)
      · first | exact hh.lathes | (refine swf_sput ?_; exact hh.lathes)
      · first | exact hh.groups | (refine swf_sput ?_; exact hh.groups) | (refine swf_sdrop ?_; exact hh.groups)
      · first | exact hh.engines | (refine swf_sput ?_; exact hh.engines)
      · first | exact hh.descs | (refine swf_sput ?_; exact hh.descs) | (dsimp only; exact swf_smap hh.descs) | (refine swf_sdrop ?_; exact hh.descs)
      · first | exact hh.waiters | (refine swf_sput ?_; exact hh.waiters) | (dsimp only; exact swf_smap hh.waiters) | exact rfl
      · first | exact hh.hbmStacks | (refine swf_sput ?_; exact hh.hbmStacks)
      · first | exact hh.rdc | (refine swf_sput ?_; exact hh.rdc) | (dsimp only; exact swf_smap hh.rdc) | exact rfl
      · first | exact hh.ports | (refine swf_sput ?_; exact hh.ports) | (dsimp only; exact swf_smap hh.ports)
      · first | exact hh.mcMsgs | (refine swf_sput ?_; exact hh.mcMsgs) | (dsimp only; exact swf_smap hh.mcMsgs) | exact rfl
      · first | exact hh.bypCause | exact swf_sput (dflt := fun _ => 0) hh.bypCause
      · first | exact hh.hist | (refine swf_sput ?_; exact hh.hist)
      · first | exact hh.histFlash | (refine swf_sput ?_; exact hh.histFlash)
      · first | exact hh.loops | (refine swf_sput ?_; exact hh.loops) | exact rfl
      · first | exact hh.cores | (refine swf_sput ?_; exact hh.cores) | exact rfl
      · first | exact hh.trims | (refine swf_sput ?_; exact hh.trims) | (dsimp only; exact swf_smap hh.trims)
      · first | exact hh.convs | (refine swf_sput ?_; exact hh.convs) | exact rfl
      · first | exact hh.cals | (refine swf_sput ?_; exact hh.cals)
      · first | exact hh.calFlash | (refine swf_sput ?_; exact hh.calFlash)
      · first | exact hh.rails | (refine swf_sput ?_; exact hh.rails)
      · first | exact hh.fws | (refine swf_sput ?_; exact hh.fws) | (dsimp only; exact swf_smap hh.fws)
      · first | exact hh.hostBad | exact swf_sput (dflt := fun _ => 0) hh.hostBad
      · first | exact hh.evtQs | (refine swf_sput ?_; exact hh.evtQs) | exact rfl
      · first | exact hh.msixTable | exact swf_sput (dflt := fun _ => 0) hh.msixTable | exact rfl
      · first | exact hh.msixPending | exact swf_sput (dflt := fun _ => false) hh.msixPending | exact rfl
      · first | exact hh.owners | (refine swf_sput ?_; exact hh.owners) | exact rfl
      · exact hh.ctrs)
    (hc : Canon y → ∀ k, sget 0 y.sec.ctrs k ≤ sget 0 sec1.ctrs k := by exact fun _ _ => Nat.le_refl _) :
    KeptMk M s ⟨y.pending, clock1, ft1, regs1, mem1, marks1, accMem1, chkMem1, rowState1, lathes1, groups1, engines1, descs1, waiters1, stacks1, rdc1,
        scaleUpd1, scaleEval1, swaps1, swapWait1, uses1, verifying1, building1, reqs1, nextTag1, tagWait1, redHeld1, ports1, fabQueue1, sent1, mcMsgs1, mcOn1,
        bypOpening1, bypCause1, ftm1, hist1, histFlash1, histDirty1, loops1, cores1, trims1, trimPin1, trimVent1, trimSince1, convs1,
        temp1, cals1, calFlash1, keptCodes1, rails1, dips1, dipNo1, power1, sec1, jig1, fws1, fwBusy1, fabricIdFlash1, hostMem1, hostBad1,
        hostReqs1, hostWait1, ctoNs1, ctoOff1, evtFly1, evtQs1, limits1, msixTable1, msixPending1, msixSent1, vent1, perst1, recPin1, recovery1,
        recReply1, heldLow1, resp1, freeNo1⟩ :=
  ⟨h.trans ⟨fun p hm => (hp p).resolve_left (by simp [hm]), fun hs => ⟨hk hs, hc hs⟩⟩⟩

theorem Kept.foldl {M : Nat} {s x : State} {α : Type} {f : State → α → State} {l : List α} (h : Kept M s x)
    (hf : ∀ y a, Kept M s y → Kept M s (f y a)) : Kept M s (l.foldl f x) := by
  induction l generalizing x with
  | nil => exact h
  | cons a l ih => exact ih (hf _ _ h)

theorem Kept.foldl2 {M : Nat} {s : State} {α β : Type} {f : β × State → α → β × State} {l : List α} {x : β × State} (h : Kept M s x.2)
    (hf : ∀ y a, Kept M s y.2 → Kept M s (f y a).2) : Kept M s (l.foldl f x).2 := by
  induction l generalizing x with
  | nil => exact h
  | cons a l ih => exact ih (hf _ _ h)

/-- The state of a pair that an operation answers. -/
theorem Kept.snd {M : Nat} {s x : State} {β : Type} {p : β × State} {b : β} (h : p = (b, x)) (hp : Kept M s p.2) : Kept M s x := by
  rw [h] at hp; exact hp

/-- What a command answers: a next state that keeps `m`. -/
def OutKept (m : Nat) (s : State) (o : Out) : Prop := ∃ t, o = .next t ∧ Kept m s t

theorem OutKept.next {m : Nat} {s t : State} (h : Kept m s t) : OutKept m s (.next t) := ⟨t, rfl, h⟩

/-- The mask that a frame lemma names is that of the parts in a list. -/
theorem OutKept.of_parts {m : Nat} {ps : List Part} {s : State} {o : Out} (h : OutKept m s o) (hm : partMask ps = m) : OutKept (partMask ps) s o := by
  rw [hm]; exact h

theorem OutKept.changesOnly {ps : List Part} {s t : State} {o : Out} (h : OutKept (partMask ps) s o) (ho : o = .next t) : changesOnly ps s t := by
  obtain ⟨u, hu, hk⟩ := h
  rw [hu] at ho
  cases ho
  intro p hp
  refine hk.1 p ?_
  clear hk hu
  induction ps with
  | nil => exact Nat.zero_testBit _
  | cons q ps ih =>
    simp only [List.mem_cons, not_or] at hp
    simp only [partMask, List.foldr_cons, Nat.testBit_or]
    rw [Bool.or_eq_false_iff]
    refine ⟨?_, ih hp.2⟩
    rw [Nat.testBit_two_pow]
    simp only [decide_eq_false_iff_not]
    intro e
    exact hp.1 (by revert e; cases p <;> cases q <;> first | exact fun _ => rfl | exact fun h => absurd h (by decide))

/-! ## Choices and folds -/

theorem Kept.ite {M : Nat} {s a b : State} {c : Prop} [Decidable c] (ha : Kept M s a) (hb : Kept M s b) : Kept M s (if c then a else b) := by
  split <;> assumption

theorem Kept.ite2 {M : Nat} {s : State} {β : Type} {a b : β × State} {c : Prop} [Decidable c] (ha : Kept M s a.2) (hb : Kept M s b.2) :
    Kept M s (if c then a else b).2 := by
  split <;> assumption

theorem OutKept.step {m M : Nat} {s x : State} {o : Out} (h : Kept M s x) (h' : OutKept m x o) (hm : m ||| M = M := by decide) : OutKept M s o := by
  obtain ⟨t, ht, hk⟩ := h'
  exact ⟨t, ht, Kept.step h hk hm⟩

theorem OutKept.ite {M : Nat} {s : State} {a b : Out} {c : Prop} [Decidable c] (ha : OutKept M s a) (hb : OutKept M s b) : OutKept M s (if c then a else b) := by
  split <;> assumption

theorem Kept.fold {M : Nat} {s : State} {α σ : Type} (g : σ → State) {f : σ → α → σ} {l : List α} {x : σ} (h : Kept M s (g x))
    (hf : ∀ y a, Kept M s (g y) → Kept M s (g (f y a))) : Kept M s (g (l.foldl f x)) := by
  induction l generalizing x with
  | nil => exact h
  | cons a l ih => exact ih (hf _ _ h)

theorem foldl_keeps {σ α : Type} (p : σ → Prop) {f : σ → α → σ} {l : List α} {x : σ} (h : p x) (hf : ∀ y a, p y → p (f y a)) : p (l.foldl f x) := by
  induction l generalizing x with
  | nil => exact h
  | cons a l ih => exact ih (hf _ _ h)

theorem addWord_swf (seed : Word) (sigma : Nat) (st : AddSt) (key gi : Nat) (first : Bool) (d : Int)
    (h : swf (fun _ => 0) st.mem = true) : swf (fun _ => 0) (addWord seed sigma st key gi first d).mem = true :=
  swf_sput (dflt := fun _ => 0) h

end Sys2Proof.Machine
end

