-- ==== Sys2Proof/Laws/FrameOps.lean ====
section
/-! SUPPORT. What each operation of `Machine/Ops.lean` may change: one lemma each, the parts it may change as a mask of `Part.no` bits. -/
set_option linter.unusedVariables false
set_option Elab.async false
namespace Sys2Proof.Machine

theorem State.setLimit_kept : ∀ s a1, Kept 0x40000000000 s (State.setLimit s a1) := by
  intro s a1
  unfold State.setLimit
  refine (Kept.upd ?_).kept
  exact Kept.refl _ _

theorem State.limit_kept : ∀ s a1 a2 a3 a4 a5 a6, Kept 0x40000000000 s (State.limit s a1 a2 a3 a4 a5 a6).2 := by
  intro s a1 a2 a3 a4 a5 a6
  unfold State.limit
  refine Kept.ite2 ?_ ?_
  · dsimp only
    exact Kept.refl _ _
  · extract_lets +onlyGivenNames -merge -underBinder x1
    extract_lets +onlyGivenNames -merge -underBinder x2
    extract_lets +onlyGivenNames -merge -underBinder x3
    refine Kept.ite2 ?_ ?_
    · dsimp only
      refine Kept.step ?_ (State.setLimit_kept _ _)
      exact Kept.refl _ _
    · dsimp only
      refine Kept.step ?_ (State.setLimit_kept _ _)
      exact Kept.refl _ _

theorem State.healthFail_kept : ∀ s a1, Kept 0x2000000000 s (State.healthFail s a1) := by
  intro s a1
  unfold State.healthFail
  refine Kept.ite ?_ ?_
  · refine (Kept.upd ?_).kept
    exact Kept.refl _ _
  · exact Kept.refl _ _

theorem State.wr_kept : ∀ s a1 a2, Kept 0x8 s (State.wr s a1 a2) := by
  intro s a1 a2
  unfold State.wr
  refine (Kept.upd ?_).kept
  exact Kept.refl _ _

theorem State.wf_kept : ∀ s a1 a2 a3, Kept 0x8 s (State.wf s a1 a2 a3) := by
  intro s a1 a2 a3
  unfold State.wf
  refine Kept.step ?_ (State.wr_kept _ _ _)
  exact Kept.refl _ _

theorem State.wb_kept : ∀ s a1 a2 a3, Kept 0x8 s (State.wb s a1 a2 a3) := by
  intro s a1 a2 a3
  unfold State.wb
  refine Kept.step ?_ (State.wf_kept _ _ _ _)
  exact Kept.refl _ _

theorem State.logEvent_kept : ∀ s a1, Kept 0x200000000008 s (State.logEvent s a1) := by
  intro s a1
  unfold State.logEvent
  extract_lets +onlyGivenNames -merge -underBinder x1
  extract_lets +onlyGivenNames -merge -underBinder x2 x3
  have h3 : Kept 0x200000000008 s x3 := by
    unfold x3
    refine (Kept.upd ?_).kept
    exact Kept.refl _ _
  clear_value x3
  extract_lets +onlyGivenNames -merge -underBinder x4
  have h4 : Kept 0x200000000008 s x4 := by
    unfold x4
    refine Kept.step ?_ (State.wf_kept _ _ _ _)
    exact h3
  clear_value x4
  refine Kept.ite ?_ ?_
  · refine Kept.step ?_ (State.wb_kept _ _ _ _)
    exact h4
  · exact h4

theorem State.wr64_kept : ∀ s a1 a2, Kept 0x8 s (State.wr64 s a1 a2) := by
  intro s a1 a2
  unfold State.wr64
  refine Kept.step ?_ (State.wr_kept _ _ _)
  refine Kept.step ?_ (State.wr_kept _ _ _)
  exact Kept.refl _ _

theorem State.bump_kept : ∀ s a1 a2, Kept 0x8 s (State.bump s a1 a2) := by
  intro s a1 a2
  unfold State.bump
  refine Kept.ite ?_ ?_
  · exact Kept.refl _ _
  · refine Kept.step ?_ (State.wr64_kept _ _ _)
    exact Kept.refl _ _

theorem State.loseRecord_kept : ∀ s a1, Kept 0x8 s (State.loseRecord s a1) := by
  intro s a1
  unfold State.loseRecord
  extract_lets +onlyGivenNames -merge -underBinder x1
  have h1 : Kept 0x8 s x1 := by
    unfold x1
    refine Kept.step ?_ (State.wr_kept _ _ _)
    exact Kept.refl _ _
  clear_value x1
  extract_lets +onlyGivenNames -merge -underBinder x2
  have h2 : Kept 0x8 s x2 := by
    unfold x2
    refine Kept.step ?_ (State.bump_kept _ _ _)
    exact h1
  clear_value x2
  refine Kept.step ?_ (State.wr_kept _ _ _)
  exact h2

theorem State.postEvent_kept : ∀ s a1, Kept 0x242000000008 s (State.postEvent s a1) := by
  intro s a1
  unfold State.postEvent
  extract_lets +onlyGivenNames -merge -underBinder x1
  have h1 : Kept 0x242000000008 s x1 := by
    unfold x1
    refine Kept.step ?_ (State.healthFail_kept _ _)
    refine Kept.step ?_ (State.logEvent_kept _ _)
    refine Kept.step ?_ (State.bump_kept _ _ _)
    exact Kept.refl _ _
  clear_value x1
  extract_lets +onlyGivenNames -merge -underBinder x2
  refine Kept.ite ?_ ?_
  · refine (Kept.upd ?_).kept
    exact h1
  · refine Kept.step ?_ (State.loseRecord_kept _ _)
    exact h1

theorem State.post_kept : ∀ s a1 a2 a3 a4 a5, Kept 0x242000000008 s (State.post s a1 a2 a3 a4 a5) := by
  intro s a1 a2 a3 a4 a5
  unfold State.post
  refine Kept.step ?_ (State.postEvent_kept _ _)
  exact Kept.refl _ _

theorem State.postFirst_kept : ∀ s a1 a2 a3 a4 a5 a6 a7 a8 a9 a10, Kept 0x242000000008 s (State.postFirst s a1 a2 a3 a4 a5 a6 a7 a8 a9 a10) := by
  intro s a1 a2 a3 a4 a5 a6 a7 a8 a9 a10
  unfold State.postFirst
  split
  next y1 q1 =>
    have h1 : Kept 0x242000000008 s y1 := Kept.snd q1 (by
      refine Kept.step ?_ (State.limit_kept _ _ _ _ _ _ _)
      exact Kept.refl _ _)
    refine Kept.step ?_ (State.post_kept _ _ _ _ _ _)
    exact h1
  next y2 q2 =>
    have h2 : Kept 0x242000000008 s y2 := Kept.snd q2 (by
      refine Kept.step ?_ (State.limit_kept _ _ _ _ _ _ _)
      exact Kept.refl _ _)
    exact h2

theorem State.postLim_kept : ∀ s a1 a2 a3 a4 a5 a6 a7 a8 a9, Kept 0x242000000008 s (State.postLim s a1 a2 a3 a4 a5 a6 a7 a8 a9) := by
  intro s a1 a2 a3 a4 a5 a6 a7 a8 a9
  unfold State.postLim
  refine Kept.step ?_ (State.postFirst_kept _ _ _ _ _ _ _ _ _ _ _)
  exact Kept.refl _ _

theorem State.setLathe_kept : ∀ s a1 a2, Kept 0x100 s (State.setLathe s a1 a2) := by
  intro s a1 a2
  unfold State.setLathe
  refine (Kept.upd ?_).kept
  exact Kept.refl _ _

theorem State.modLathe_kept : ∀ s a1 a2, Kept 0x100 s (State.modLathe s a1 a2) := by
  intro s a1 a2
  unfold State.modLathe
  refine Kept.step ?_ (State.setLathe_kept _ _ _)
  exact Kept.refl _ _

theorem State.setGroup_kept : ∀ s a1 a2 a3, Kept 0x200 s (State.setGroup s a1 a2 a3) := by
  intro s a1 a2 a3
  unfold State.setGroup
  refine (Kept.upd ?_).kept
  exact Kept.refl _ _

theorem State.modGroup_kept : ∀ s a1 a2 a3, Kept 0x200 s (State.modGroup s a1 a2 a3) := by
  intro s a1 a2 a3
  unfold State.modGroup
  refine Kept.step ?_ (State.setGroup_kept _ _ _ _)
  exact Kept.refl _ _

theorem State.setEngine_kept : ∀ s a1 a2, Kept 0x400 s (State.setEngine s a1 a2) := by
  intro s a1 a2
  unfold State.setEngine
  refine (Kept.upd ?_).kept
  exact Kept.refl _ _

theorem State.modEngine_kept : ∀ s a1 a2, Kept 0x400 s (State.modEngine s a1 a2) := by
  intro s a1 a2
  unfold State.modEngine
  refine Kept.step ?_ (State.setEngine_kept _ _ _)
  exact Kept.refl _ _

theorem State.setRdc_kept : ∀ s a1 a2, Kept 0x4000 s (State.setRdc s a1 a2) := by
  intro s a1 a2
  unfold State.setRdc
  refine (Kept.upd ?_).kept
  exact Kept.refl _ _

theorem State.arriveRed_kept : ∀ s a1 a2 a3, Kept 0x4000 s (State.arriveRed s a1 a2 a3) := by
  intro s a1 a2 a3
  unfold State.arriveRed
  extract_lets +onlyGivenNames -merge -underBinder x1
  extract_lets +onlyGivenNames -merge -underBinder x2
  extract_lets +onlyGivenNames -merge -underBinder x3
  refine Kept.step ?_ (State.setRdc_kept _ _ _)
  exact Kept.refl _ _

theorem State.setStack_kept : ∀ s a1 a2, Kept 0x2000 s (State.setStack s a1 a2) := by
  intro s a1 a2
  unfold State.setStack
  refine (Kept.upd ?_).kept
  exact Kept.refl _ _

theorem State.writeFresh_kept : ∀ s a1, Kept 0x2008 s (State.writeFresh s a1) := by
  intro s a1
  unfold State.writeFresh
  extract_lets +onlyGivenNames -merge -underBinder x1
  refine Kept.ite ?_ ?_
  · exact Kept.refl _ _
  · refine Kept.step ?_ (State.setStack_kept _ _ _)
    refine Kept.step ?_ (State.bump_kept _ _ _)
    exact Kept.refl _ _

theorem State.cancelScrub_kept : ∀ s a1 a2, Kept 0x2008 s (State.cancelScrub s a1 a2) := by
  intro s a1 a2
  unfold State.cancelScrub
  split
  ·
    extract_lets +onlyGivenNames -merge -underBinder x1
    extract_lets +onlyGivenNames -merge -underBinder x2
    have h2 : Kept 0x2008 s x2 := by
      unfold x2
      refine Kept.ite ?_ ?_
      · exact Kept.refl _ _
      · refine Kept.step ?_ (State.setStack_kept _ _ _)
        exact Kept.refl _ _
    clear_value x2
    refine Kept.ite ?_ ?_
    · refine Kept.foldl ?_ (fun _ _ h3 => ?_)
      · exact h2
      · refine Kept.step ?_ (State.writeFresh_kept _ _)
        exact h3
    · exact h2
  ·
    exact Kept.refl _ _

theorem State.markLine_kept : ∀ s a1, Kept 0x2018 s (State.markLine s a1) := by
  intro s a1
  unfold State.markLine
  extract_lets +onlyGivenNames -merge -underBinder x1
  have h1 : Kept 0x2018 s x1 := by
    unfold x1
    refine Kept.step ?_ (State.cancelScrub_kept _ _ _)
    exact Kept.refl _ _
  clear_value x1
  refine (Kept.upd ?_).kept
  exact h1

theorem State.unmappedEvent_kept : ∀ s a1 a2 a3 a4, Kept 0x242000000008 s (State.unmappedEvent s a1 a2 a3 a4) := by
  intro s a1 a2 a3 a4
  unfold State.unmappedEvent
  refine Kept.step ?_ (State.post_kept _ _ _ _ _ _)
  exact Kept.refl _ _

theorem State.poisonRange_kept : ∀ s a1 a2 a3 a4 a5, Kept 0x242000006018 s (State.poisonRange s a1 a2 a3 a4 a5) := by
  intro s a1 a2 a3 a4 a5
  unfold State.poisonRange
  extract_lets +onlyGivenNames -merge -underBinder x1
  have h1 : Kept 0x242000006018 s x1 := by
    unfold x1
    refine Kept.foldl ?_ (fun _ _ h2 => ?_)
    · exact Kept.refl _ _
    · refine Kept.ite ?_ ?_
      · refine Kept.ite ?_ ?_
        · refine Kept.step ?_ (State.arriveRed_kept _ _ _ _)
          exact h2
        · refine Kept.step ?_ (State.markLine_kept _ _)
          exact h2
      · exact h2
  clear_value x1
  split
  ·
    refine Kept.step ?_ (State.unmappedEvent_kept _ _ _ _ _)
    exact h1
  ·
    exact h1

theorem State.setPort_kept : ∀ s a1 a2, Kept 0x200000 s (State.setPort s a1 a2) := by
  intro s a1 a2
  unfold State.setPort
  refine (Kept.upd ?_).kept
  exact Kept.refl _ _

theorem State.setDesc_kept : ∀ s a1 a2 a3, Kept 0x800 s (State.setDesc s a1 a2 a3) := by
  intro s a1 a2 a3
  unfold State.setDesc
  refine (Kept.upd ?_).kept
  exact Kept.refl _ _

theorem State.takeFree_kept : ∀ s, Kept 0x2000000000000 s (State.takeFree s).2 := by
  intro s
  unfold State.takeFree
  dsimp only
  refine (Kept.upd ?_).kept
  exact Kept.refl _ _

theorem State.countInf_kept : ∀ s a1 a2 a3, Kept 0x8 s (State.countInf s a1 a2 a3) := by
  intro s a1 a2 a3
  unfold State.countInf
  split
  ·
    refine Kept.step ?_ (State.bump_kept _ _ _)
    exact Kept.refl _ _
  ·
    exact Kept.refl _ _

theorem State.setHost_kept : ∀ s a1 a2 a3, Kept 0x20 s (State.setHost s a1 a2 a3) := by
  intro s a1 a2 a3
  unfold State.setHost
  split
  ·
    refine Kept.ite ?_ ?_
    · refine (Kept.upd ?_).kept
      exact Kept.refl _ _
    · exact Kept.refl _ _
  ·
    exact Kept.refl _ _

theorem State.setByte_kept : ∀ s a1 a2, Kept 0x30 s (State.setByte s a1 a2) := by
  intro s a1 a2
  unfold State.setByte
  split
  ·
    refine (Kept.upd ?_).kept
    exact Kept.refl _ _
  ·
    refine (Kept.upd ?_).kept
    exact Kept.refl _ _
  ·
    refine Kept.step ?_ (State.setHost_kept _ _ _ _)
    exact Kept.refl _ _
  ·
    exact Kept.refl _ _

theorem State.setBytes_kept : ∀ s a1 a2, Kept 0x30 s (State.setBytes s a1 a2) := by
  intro s a l
  induction l generalizing s a with
  | nil => exact Kept.refl _ _
  | cons v t ih => exact Kept.step (Kept.step (Kept.refl _ _) (State.setByte_kept _ _ _)) (ih _ _)

theorem State.notePart_kept : ∀ s a1 a2, Kept 0x2008 s (State.notePart s a1 a2) := by
  intro s a1 a2
  unfold State.notePart
  split
  ·
    refine Kept.step ?_ (State.bump_kept _ _ _)
    refine Kept.step ?_ (State.bump_kept _ _ _)
    refine Kept.step ?_ (State.cancelScrub_kept _ _ _)
    exact Kept.refl _ _
  ·
    exact Kept.refl _ _

theorem State.setWaiters_kept : ∀ s a1 a2, Kept 0x1000 s (State.setWaiters s a1 a2) := by
  intro s a1 a2
  unfold State.setWaiters
  refine (Kept.upd ?_).kept
  exact Kept.refl _ _

theorem State.wakeLink_kept : ∀ s, Kept 0x8 s (State.wakeLink s) := by
  intro s
  unfold State.wakeLink
  refine Kept.ite ?_ ?_
  · refine Kept.step ?_ (State.wf_kept _ _ _ _)
    exact Kept.refl _ _
  · exact Kept.refl _ _

theorem State.markHost_kept : ∀ s a1 a2, Kept 0x20000000000 s (State.markHost s a1 a2) := by
  intro s a1 a2
  unfold State.markHost
  split
  ·
    refine Kept.ite ?_ ?_
    · exact Kept.refl _ _
    · split
      ·
        exact Kept.refl _ _
      ·
        refine Kept.ite ?_ ?_
        · refine (Kept.upd ?_).kept
          exact Kept.refl _ _
        · refine Kept.ite ?_ ?_
          · refine (Kept.upd ?_).kept
            exact Kept.refl _ _
          · exact Kept.refl _ _
  ·
    exact Kept.refl _ _

theorem State.setMark_kept : ∀ s a1 a2, Kept 0x20000000010 s (State.setMark s a1 a2) := by
  intro s a1 a2
  unfold State.setMark
  refine Kept.ite ?_ ?_
  · refine (Kept.upd ?_).kept
    exact Kept.refl _ _
  · refine Kept.step ?_ (State.markHost_kept _ _ _)
    exact Kept.refl _ _

theorem State.setHist_kept : ∀ s a1 a2, Kept 0x2000000 s (State.setHist s a1 a2) := by
  intro s a1 a2
  unfold State.setHist
  refine (Kept.upd ?_).kept
  exact Kept.refl _ _

theorem State.setLoop_kept : ∀ s a1 a2, Kept 0x8000000 s (State.setLoop s a1 a2) := by
  intro s a1 a2
  unfold State.setLoop
  refine (Kept.upd ?_).kept
  exact Kept.refl _ _

theorem State.modLoop_kept : ∀ s a1 a2, Kept 0x8000000 s (State.modLoop s a1 a2) := by
  intro s a1 a2
  unfold State.modLoop
  refine Kept.step ?_ (State.setLoop_kept _ _ _)
  exact Kept.refl _ _

theorem State.setTrim_kept : ∀ s a1 a2, Kept 0x10000000 s (State.setTrim s a1 a2) := by
  intro s a1 a2
  unfold State.setTrim
  refine (Kept.upd ?_).kept
  exact Kept.refl _ _

theorem State.modTrim_kept : ∀ s a1 a2, Kept 0x10000000 s (State.modTrim s a1 a2) := by
  intro s a1 a2
  unfold State.modTrim
  refine Kept.step ?_ (State.setTrim_kept _ _ _)
  exact Kept.refl _ _

theorem State.setCal_kept : ∀ s a1 a2, Kept 0x40000000 s (State.setCal s a1 a2) := by
  intro s a1 a2
  unfold State.setCal
  refine (Kept.upd ?_).kept
  exact Kept.refl _ _

theorem State.offAccess_kept : ∀ s, Kept 0x8 s (State.offAccess s) := by
  intro s
  unfold State.offAccess
  refine Kept.ite ?_ ?_
  · refine Kept.step ?_ (State.bump_kept _ _ _)
    exact Kept.refl _ _
  · exact Kept.refl _ _

theorem State.atBlock_kept {M : Nat} (s : State) {b : Block} {i : Nat} {f : State → Out} (hm : 0x8 ||| M = M)
    (hf : ∀ y, Kept M s y → OutKept M s (f y)) : OutKept M s (s.atBlock b i f) := by
  unfold State.atBlock
  split
  · exact OutKept.next (Kept.step (Kept.step (Kept.refl _ _) (State.wakeLink_kept _) hm) (State.offAccess_kept _) hm)
  · exact hf _ (Kept.step (Kept.refl _ _) (State.wakeLink_kept _) hm)

theorem State.modCal_kept : ∀ s a1 a2, Kept 0x40000000 s (State.modCal s a1 a2) := by
  intro s a1 a2
  unfold State.modCal
  refine Kept.step ?_ (State.setCal_kept _ _ _)
  exact Kept.refl _ _

theorem State.clearStats_kept : ∀ s a1 a2, Kept 0x8 s (State.clearStats s a1 a2) := by
  intro s a1 a2
  unfold State.clearStats
  refine Kept.foldl ?_ (fun _ _ h1 => ?_)
  · exact Kept.refl _ _
  · refine Kept.ite ?_ ?_
    · refine (Kept.upd ?_).kept
      exact h1
    · exact h1

theorem State.wrSoft_kept : ∀ s a1 a2, Kept 0x8 s (State.wrSoft s a1 a2) := by
  intro s a1 a2
  unfold State.wrSoft
  split
  ·
    exact Kept.refl _ _
  ·
    extract_lets +onlyGivenNames -merge -underBinder x1
    extract_lets +onlyGivenNames -merge -underBinder x2
    refine Kept.step ?_ (State.wr_kept _ _ _)
    exact Kept.refl _ _

theorem State.resetBlock_kept : ∀ s a1 a2, Kept 0x8 s (State.resetBlock s a1 a2) := by
  intro s a1 a2
  unfold State.resetBlock
  refine (Kept.upd ?_).kept
  exact Kept.refl _ _

theorem State.postVent_kept : ∀ s a1 a2 a3 a4, Kept 0x242000000008 s (State.postVent s a1 a2 a3 a4) := by
  intro s a1 a2 a3 a4
  unfold State.postVent
  refine Kept.step ?_ (State.postEvent_kept _ _)
  exact Kept.refl _ _

theorem State.setCore_kept : ∀ s a1 a2, Kept 0x8000000 s (State.setCore s a1 a2) := by
  intro s a1 a2
  unfold State.setCore
  refine (Kept.upd ?_).kept
  exact Kept.refl _ _

theorem State.setConv_kept : ∀ s a1 a2, Kept 0x20000000 s (State.setConv s a1 a2) := by
  intro s a1 a2
  unfold State.setConv
  refine (Kept.upd ?_).kept
  exact Kept.refl _ _

theorem State.setFw_kept : ∀ s a1 a2, Kept 0x4000000000 s (State.setFw s a1 a2) := by
  intro s a1 a2
  unfold State.setFw
  refine (Kept.upd ?_).kept
  exact Kept.refl _ _

theorem State.incF_kept : ∀ s a1 a2 a3, Kept 0x8 s (State.incF s a1 a2 a3) := by
  intro s a1 a2 a3
  unfold State.incF
  refine Kept.step ?_ (State.wf_kept _ _ _ _)
  exact Kept.refl _ _

theorem State.postOver_kept : ∀ s a1 a2 a3 a4 a5 a6, Kept 0x242000000008 s (State.postOver s a1 a2 a3 a4 a5 a6) := by
  intro s a1 a2 a3 a4 a5 a6
  unfold State.postOver
  extract_lets +onlyGivenNames -merge -underBinder x1
  refine Kept.step ?_ (State.post_kept _ _ _ _ _ _)
  refine Kept.step ?_ (State.setLimit_kept _ _)
  exact Kept.refl _ _

theorem State.putLine_kept : ∀ s a1 a2 a3, Kept 0x20000002038 s (State.putLine s a1 a2 a3) := by
  intro s a1 a2 a3
  unfold State.putLine
  refine Kept.step ?_ (State.setMark_kept _ _ _)
  refine Kept.step ?_ (State.setBytes_kept _ _ _)
  refine Kept.step ?_ (State.cancelScrub_kept _ _ _)
  exact Kept.refl _ _

theorem State.countLine_kept : ∀ s a1 a2, Kept 0x8 s (State.countLine s a1 a2) := by
  intro s a1 a2
  unfold State.countLine
  extract_lets +onlyGivenNames -merge -underBinder x1
  have h1 : Kept 0x8 s x1 := by
    unfold x1
    refine Kept.step ?_ (State.bump_kept _ _ _)
    refine Kept.step ?_ (State.bump_kept _ _ _)
    exact Kept.refl _ _
  clear_value x1
  refine Kept.step ?_ (State.wr_kept _ _ _)
  exact h1

theorem State.setSess_kept : ∀ s a1 a2, Kept 0x400000000 s (State.setSess s a1 a2) := by
  intro s a1 a2
  unfold State.setSess
  refine (Kept.upd ?_).kept
  exact Kept.refl _ _

theorem State.modPort_kept : ∀ s a1 a2, Kept 0x200000 s (State.modPort s a1 a2) := by
  intro s a1 a2
  unfold State.modPort
  refine Kept.step ?_ (State.setPort_kept _ _ _)
  exact Kept.refl _ _

theorem State.copyLines_kept : ∀ s a1 a2 a3, Kept 0x2018 s (State.copyLines s a1 a2 a3) := by
  intro s a1 a2 a3
  unfold State.copyLines
  extract_lets +onlyGivenNames -merge -underBinder x1
  have h1 : Kept 0x2018 s x1 := by
    unfold x1
    refine Kept.step ?_ (State.cancelScrub_kept _ _ _)
    exact Kept.refl _ _
  clear_value x1
  refine (Kept.upd ?_).kept
  exact h1

end Sys2Proof.Machine
end

