-- ==== Sys2Proof/Laws/FramePrograms.lean ====
section
/-! SUPPORT. What each operation of `Machine/Programs.lean` may change: one lemma each, the parts it may change as a mask of `Part.no` bits. -/
set_option linter.unusedVariables false
set_option Elab.async false
namespace Sys2Proof.Machine

theorem State.modProg_kept : ∀ s a1 a2 a3, Kept 0x400 s (State.modProg s a1 a2 a3) := by
  intro s a1 a2 a3
  unfold State.modProg
  refine Kept.step ?_ (State.modEngine_kept _ _ _)
  exact Kept.refl _ _

theorem State.setStage_kept : ∀ s a1 a2 a3 a4, Kept 0x400 s (State.setStage s a1 a2 a3 a4) := by
  intro s a1 a2 a3 a4
  unfold State.setStage
  refine Kept.step ?_ (State.modProg_kept _ _ _ _)
  exact Kept.refl _ _

theorem State.complete_kept : ∀ s a1 a2 a3, Kept 0x400 s (State.complete s a1 a2 a3) := by
  intro s a1 a2 a3
  unfold State.complete
  refine Kept.step ?_ (State.setStage_kept _ _ _ _ _)
  exact Kept.refl _ _

theorem State.usePoison_kept : ∀ s a1 a2 a3 a4 a5, Kept 0x20000 s (State.usePoison s a1 a2 a3 a4 a5) := by
  intro s a1 a2 a3 a4 a5
  unfold State.usePoison
  refine (Kept.upd ?_).kept
  exact Kept.refl _ _

theorem State.writeRecord_kept : ∀ s a1 a2 a3 a4 a5 a6, Kept 0x242000002038 s (State.writeRecord s a1 a2 a3 a4 a5 a6) := by
  intro s a1 a2 a3 a4 a5 a6
  unfold State.writeRecord
  refine Kept.ite ?_ ?_
  · exact Kept.refl _ _
  · refine Kept.ite ?_ ?_
    · refine Kept.step ?_ (State.unmappedEvent_kept _ _ _ _ _)
      exact Kept.refl _ _
    · refine Kept.step ?_ (State.countInf_kept _ _ _ _)
      refine Kept.step ?_ (State.setBytes_kept _ _ _)
      refine Kept.step ?_ (State.notePart_kept _ _ _)
      exact Kept.refl _ _

theorem State.removeProg_kept : ∀ s a1 a2, Kept 0x400 s (State.removeProg s a1 a2) := by
  intro s a1 a2
  unfold State.removeProg
  refine Kept.step ?_ (State.modEngine_kept _ _ _)
  exact Kept.refl _ _

theorem State.retire_kept : ∀ s a1 a2 a3 a4 a5, Kept 0x242000002438 s (State.retire s a1 a2 a3 a4 a5) := by
  intro s a1 a2 a3 a4 a5
  unfold State.retire
  extract_lets +onlyGivenNames -merge -underBinder x1
  extract_lets +onlyGivenNames -merge -underBinder x2
  extract_lets +onlyGivenNames -merge -underBinder x3
  extract_lets +onlyGivenNames -merge -underBinder x4
  have h4 : Kept 0x242000002438 s x4 := by
    unfold x4
    refine Kept.ite ?_ ?_
    · refine Kept.step ?_ (State.writeRecord_kept _ _ _ _ _ _ _)
      exact Kept.refl _ _
    · exact Kept.refl _ _
  clear_value x4
  extract_lets +onlyGivenNames -merge -underBinder x5
  have h5 : Kept 0x242000002438 s x5 := by
    unfold x5
    refine Kept.ite ?_ ?_
    · refine Kept.step ?_ (State.bump_kept _ _ _)
      exact h4
    · refine Kept.step ?_ (State.bump_kept _ _ _)
      exact h4
  clear_value x5
  extract_lets +onlyGivenNames -merge -underBinder x6
  have h6 : Kept 0x242000002438 s x6 := by
    unfold x6
    refine Kept.ite ?_ ?_
    · refine Kept.step ?_ (State.bump_kept _ _ _)
      exact h5
    · exact h5
  clear_value x6
  extract_lets +onlyGivenNames -merge -underBinder x7
  have h7 : Kept 0x242000002438 s x7 := by
    unfold x7
    refine Kept.ite ?_ ?_
    · refine Kept.step ?_ (State.post_kept _ _ _ _ _ _)
      exact h6
    · exact h6
  clear_value x7
  extract_lets +onlyGivenNames -merge -underBinder x8
  have h8 : Kept 0x242000002438 s x8 := by
    unfold x8
    refine Kept.ite ?_ ?_
    · refine Kept.step ?_ (State.post_kept _ _ _ _ _ _)
      exact h7
    · exact h7
  clear_value x8
  refine Kept.step ?_ (State.removeProg_kept _ _ _)
  exact h8

theorem State.invalidate_kept : ∀ s a1 a2 a3, Kept 0x242000000208 s (State.invalidate s a1 a2 a3) := by
  intro s a1 a2 a3
  unfold State.invalidate
  extract_lets +onlyGivenNames -merge -underBinder x1
  extract_lets +onlyGivenNames -merge -underBinder x2
  refine Kept.ite ?_ ?_
  · exact Kept.refl _ _
  · extract_lets +onlyGivenNames -merge -underBinder x3
    have h3 : Kept 0x242000000208 s x3 := by
      unfold x3
      refine Kept.foldl ?_ (fun _ _ h4 => ?_)
      · exact Kept.refl _ _
      · refine Kept.ite ?_ ?_
        · refine Kept.step ?_ (State.modGroup_kept _ _ _ _)
          exact h4
        · exact h4
    clear_value x3
    extract_lets +onlyGivenNames -merge -underBinder x5
    have h5 : Kept 0x242000000208 s x5 := by
      unfold x5
      refine Kept.foldl ?_ (fun _ _ h6 => ?_)
      · exact h3
      · refine Kept.ite ?_ ?_
        · refine Kept.step ?_ (State.bump_kept _ _ _)
          exact h6
        · exact h6
    clear_value x5
    refine Kept.step ?_ (State.post_kept _ _ _ _ _ _)
    exact h5

theorem State.testWaitersN_kept : ∀ s a1 a2, Kept 0x1408 s (State.testWaitersN s a1 a2) := by
  intro s i n
  induction n generalizing s with
  | zero => exact Kept.refl _ _
  | succ n ih =>
    unfold State.testWaitersN
    split
    · exact Kept.refl _ _
    · refine Kept.ite ?_ (Kept.refl _ _)
      refine Kept.step ?_ (ih _)
      refine Kept.step ?_ (State.setStage_kept _ _ _ _ _)
      refine Kept.step ?_ (State.bump_kept _ _ _)
      refine Kept.step ?_ (State.setWaiters_kept _ _ _)
      refine Kept.step ?_ (State.wr_kept _ _ _)
      exact Kept.refl _ _

theorem State.testWaiters_kept : ∀ s a1, Kept 0x1408 s (State.testWaiters s a1) := by
  intro s a1
  unfold State.testWaiters
  refine Kept.step ?_ (State.testWaitersN_kept _ _ _)
  exact Kept.refl _ _

theorem State.dropWaits_kept : ∀ s a1 a2, Kept 0x1408 s (State.dropWaits s a1 a2) := by
  intro s a1 a2
  unfold State.dropWaits
  extract_lets +onlyGivenNames -merge -underBinder x1
  refine Kept.foldl ?_ (fun _ _ h2 => ?_)
  · refine (Kept.upd ?_).kept
    exact Kept.refl _ _
  · refine Kept.step ?_ (State.testWaiters_kept _ _)
    exact h2

theorem State.dropRequests_kept : ∀ s a1 a2, Kept 0x10000500000 s (State.dropRequests s a1 a2) := by
  intro s a1 a2
  unfold State.dropRequests
  extract_lets +onlyGivenNames -merge -underBinder x1
  extract_lets +onlyGivenNames -merge -underBinder x2
  extract_lets +onlyGivenNames -merge -underBinder x3
  extract_lets +onlyGivenNames -merge -underBinder x4
  extract_lets +onlyGivenNames -merge -underBinder x5
  refine (Kept.upd ?_).kept
  exact Kept.refl _ _

theorem State.stopTransfers_kept : ∀ s a1 a2, Kept 0x800 s (State.stopTransfers s a1 a2) := by
  intro s a1 a2
  unfold State.stopTransfers
  extract_lets +onlyGivenNames -merge -underBinder x1
  refine (Kept.upd ?_).kept
  exact Kept.refl _ _

theorem State.abort_kept : ∀ s a1 a2 a3 a4, Kept 0x252000503f38 s (State.abort s a1 a2 a3 a4) := by
  intro s a1 a2 a3 a4
  unfold State.abort
  split
  ·
    exact Kept.refl _ _
  ·
    split
    ·
      exact Kept.refl _ _
    ·
      refine Kept.step ?_ (State.retire_kept _ _ _ _ _ _)
      exact Kept.refl _ _
    ·
      refine Kept.ite ?_ ?_
      · refine Kept.step ?_ (State.retire_kept _ _ _ _ _ _)
        exact Kept.refl _ _
      · extract_lets +onlyGivenNames -merge -underBinder x1
        have h1 : Kept 0x252000503f38 s x1 := by
          unfold x1
          refine Kept.step ?_ (State.modProg_kept _ _ _ _)
          exact Kept.refl _ _
        clear_value x1
        extract_lets +onlyGivenNames -merge -underBinder x2
        have h2 : Kept 0x252000503f38 s x2 := by
          unfold x2
          refine Kept.foldl ?_ (fun _ _ h3 => ?_)
          · exact h1
          · refine Kept.step ?_ (State.invalidate_kept _ _ _ _)
            exact h3
        clear_value x2
        extract_lets +onlyGivenNames -merge -underBinder x4
        have h4 : Kept 0x252000503f38 s x4 := by
          unfold x4
          refine Kept.foldl ?_ (fun _ _ h5 => ?_)
          · exact h2
          · refine Kept.foldl ?_ (fun _ _ h6 => ?_)
            · exact h5
            · refine Kept.step ?_ (State.modGroup_kept _ _ _ _)
              exact h6
        clear_value x4
        extract_lets +onlyGivenNames -merge -underBinder x7
        have h7 : Kept 0x252000503f38 s x7 := by
          unfold x7
          refine Kept.foldl ?_ (fun _ _ h8 => ?_)
          · exact h4
          · refine Kept.step ?_ (State.modLathe_kept _ _ _)
            exact h8
        clear_value x7
        refine Kept.step ?_ (State.dropWaits_kept _ _ _)
        refine Kept.step ?_ (State.dropRequests_kept _ _ _)
        refine Kept.step ?_ (State.stopTransfers_kept _ _ _)
        exact h7

theorem State.faultAbort_kept : ∀ s a1 a2 a3 a4, Kept 0x252000503f38 s (State.faultAbort s a1 a2 a3 a4) := by
  intro s a1 a2 a3 a4
  unfold State.faultAbort
  refine Kept.step ?_ (State.abort_kept _ _ _ _ _)
  exact Kept.refl _ _

theorem State.abortWhere_kept : ∀ s a1 a2 a3, Kept 0x252000503f38 s (State.abortWhere s a1 a2 a3) := by
  intro s a1 a2 a3
  unfold State.abortWhere
  refine Kept.foldl ?_ (fun _ _ h1 => ?_)
  · exact Kept.refl _ _
  · refine Kept.step ?_ (State.abort_kept _ _ _ _ _)
    exact h1

theorem State.poisonAbort_kept : ∀ s a1, Kept 0x252000523f38 s (State.poisonAbort s a1) := by
  intro s a1
  unfold State.poisonAbort
  extract_lets +onlyGivenNames -merge -underBinder x1
  extract_lets +onlyGivenNames -merge -underBinder x2
  extract_lets +onlyGivenNames -merge -underBinder x3
  have h3 : Kept 0x252000523f38 s x3 := by
    unfold x3
    refine Kept.step ?_ (State.post_kept _ _ _ _ _ _)
    exact Kept.refl _ _
  clear_value x3
  extract_lets +onlyGivenNames -merge -underBinder x4
  have h4 : Kept 0x252000523f38 s x4 := by
    unfold x4
    refine Kept.foldl ?_ (fun _ _ h5 => ?_)
    · exact h3
    · refine Kept.step ?_ (State.abortWhere_kept _ _ _ _)
      exact h5
  clear_value x4
  refine (Kept.upd ?_).kept
  exact h4

end Sys2Proof.Machine
end

