-- ==== Sys2Proof/Laws/FrameRequests.lean ====
section
/-! SUPPORT. What each operation of `Machine/Requests.lean` may change: one lemma each, the parts it may change as a mask of `Part.no` bits. -/
set_option linter.unusedVariables false
set_option Elab.async false
namespace Sys2Proof.Machine

theorem State.settleStage_kept : ∀ s a1, Kept 0x400 s (State.settleStage s a1) := by
  intro s a1
  unfold State.settleStage
  split
  ·
    exact Kept.refl _ _
  ·
    split
    ·
      extract_lets +onlyGivenNames -merge -underBinder x1
      refine Kept.ite ?_ ?_
      · refine Kept.step ?_ (State.complete_kept _ _ _ _)
        exact Kept.refl _ _
      · exact Kept.refl _ _
    ·
      refine Kept.ite ?_ ?_
      · refine Kept.step ?_ (State.complete_kept _ _ _ _)
        exact Kept.refl _ _
      · exact Kept.refl _ _
    ·
      refine Kept.ite ?_ ?_
      · refine Kept.step ?_ (State.complete_kept _ _ _ _)
        exact Kept.refl _ _
      · exact Kept.refl _ _
    ·
      refine Kept.ite ?_ ?_
      · refine Kept.step ?_ (State.complete_kept _ _ _ _)
        exact Kept.refl _ _
      · exact Kept.refl _ _
    ·
      refine Kept.ite ?_ ?_
      · refine Kept.step ?_ (State.complete_kept _ _ _ _)
        exact Kept.refl _ _
      · exact Kept.refl _ _
    ·
      exact Kept.refl _ _

theorem State.takeTag_kept : ∀ s, Kept 0x100000 s (State.takeTag s).2 := by
  intro s
  unfold State.takeTag
  extract_lets +onlyGivenNames -merge -underBinder x1
  dsimp only
  refine (Kept.upd ?_).kept
  exact Kept.refl _ _

theorem State.notePeak_kept : ∀ s, Kept 0x8 s (State.notePeak s) := by
  intro s
  unfold State.notePeak
  extract_lets +onlyGivenNames -merge -underBinder x1
  have h1 : Kept 0x8 s x1 := by
    unfold x1
    refine Kept.ite ?_ ?_
    · refine Kept.step ?_ (State.wf_kept _ _ _ _)
      exact Kept.refl _ _
    · exact Kept.refl _ _
  clear_value x1
  extract_lets +onlyGivenNames -merge -underBinder x2
  have h2 : Kept 0x8 s x2 := by
    unfold x2
    refine Kept.ite ?_ ?_
    · refine Kept.step ?_ (State.wf_kept _ _ _ _)
      exact h1
    · exact h1
  clear_value x2
  refine Kept.foldl ?_ (fun _ _ h3 => ?_)
  · exact h2
  · refine Kept.ite ?_ ?_
    · refine Kept.step ?_ (State.wf_kept _ _ _ _)
      exact h3
    · exact h3

theorem State.transmit_kept : ∀ s a1 a2, Kept 0x200008 s (State.transmit s a1 a2) := by
  intro s a1 a2
  unfold State.transmit
  extract_lets +onlyGivenNames -merge -underBinder x1
  extract_lets +onlyGivenNames -merge -underBinder x2
  extract_lets +onlyGivenNames -merge -underBinder x3
  have h3 : Kept 0x200008 s x3 := by
    unfold x3
    refine Kept.step ?_ (State.setPort_kept _ _ _)
    exact Kept.refl _ _
  clear_value x3
  extract_lets +onlyGivenNames -merge -underBinder x4
  have h4 : Kept 0x200008 s x4 := by
    unfold x4
    refine Kept.step ?_ (State.bump_kept _ _ _)
    exact h3
  clear_value x4
  refine (Kept.upd ?_).kept
  exact h4

theorem State.sendPacket_kept : ∀ s a1, Kept 0x200008 s (State.sendPacket s a1).2 := by
  intro s a1
  unfold State.sendPacket
  extract_lets +onlyGivenNames -merge -underBinder x1
  split
  ·
    dsimp only
    exact Kept.refl _ _
  ·
    dsimp only
    exact Kept.refl _ _
  ·
    refine Kept.ite2 ?_ ?_
    · dsimp only
      exact Kept.refl _ _
    · dsimp only
      refine (Kept.upd ?_).kept
      exact Kept.refl _ _
  ·
    refine Kept.ite2 ?_ ?_
    · dsimp only
      exact Kept.refl _ _
    · dsimp only
      refine Kept.step ?_ (State.transmit_kept _ _ _)
      exact Kept.refl _ _

theorem State.launch_kept : ∀ s a1 a2, Kept 0x300008 s (State.launch s a1 a2).2 := by
  intro s a1 a2
  unfold State.launch
  split
  next y1 q1 =>
    have h1 : Kept 0x300008 s y1 := Kept.snd q1 (by
      refine Kept.step ?_ (State.takeTag_kept _)
      exact Kept.refl _ _)
    extract_lets +onlyGivenNames -merge -underBinder x2
    have h2 : Kept 0x300008 s x2 := by
      unfold x2
      refine Kept.step ?_ (State.notePeak_kept _)
      refine (Kept.upd ?_).kept
      exact h1
    clear_value x2
    extract_lets +onlyGivenNames -merge -underBinder x3
    refine Kept.ite2 ?_ ?_
    · dsimp only
      exact h2
    · split
      next y4 q4 =>
        have h4 : Kept 0x300008 s y4 := Kept.snd q4 (by
          refine Kept.step ?_ (State.sendPacket_kept _ _)
          exact h2)
        dsimp only
        exact h4
      next y5 q5 =>
        have h5 : Kept 0x300008 s y5 := Kept.snd q5 (by
          refine Kept.step ?_ (State.sendPacket_kept _ _)
          exact h2)
        dsimp only
        exact h5

theorem State.answerDesc_kept : ∀ s a1 a2 a3 a4, Kept 0x800 s (State.answerDesc s a1 a2 a3 a4) := by
  intro s a1 a2 a3 a4
  unfold State.answerDesc
  split
  ·
    extract_lets +onlyGivenNames -merge -underBinder x1
    refine Kept.step ?_ (State.setDesc_kept _ _ _ _)
    exact Kept.refl _ _
  ·
    exact Kept.refl _ _

theorem State.reqFail_kept : ∀ s a1 a2, Kept 0x242000000008 s (State.reqFail s a1 a2) := by
  intro s a1 a2
  unfold State.reqFail
  extract_lets +onlyGivenNames -merge -underBinder x1
  have h1 : Kept 0x242000000008 s x1 := by
    unfold x1
    refine Kept.step ?_ (State.bump_kept _ _ _)
    exact Kept.refl _ _
  clear_value x1
  refine Kept.step ?_ (State.postLim_kept _ _ _ _ _ _ _ _ _ _)
  exact h1

theorem State.reducePoison_kept : ∀ s a1 a2, Kept 0x2000000020000 s (State.reducePoison s a1 a2) := by
  intro s a1 a2
  unfold State.reducePoison
  split
  next y1 q1 =>
    have h1 : Kept 0x2000000020000 s y1 := Kept.snd q1 (by
      refine Kept.ite2 ?_ ?_
      · dsimp only
        exact Kept.refl _ _
      · refine Kept.step ?_ (State.takeFree_kept _)
        exact Kept.refl _ _)
    refine Kept.step ?_ (State.usePoison_kept _ _ _ _ _ _)
    exact h1

theorem State.finishAck_kept : ∀ s a1 a2, Kept 0x2252000523f38 s (State.finishAck s a1 a2) := by
  intro s a1 a2
  unfold State.finishAck
  split
  ·
    refine Kept.step ?_ (State.bump_kept _ _ _)
    exact Kept.refl _ _
  ·
    extract_lets +onlyGivenNames -merge -underBinder x1
    have h1 : Kept 0x2252000523f38 s x1 := by
      unfold x1
      refine (Kept.upd ?_).kept
      exact Kept.refl _ _
    clear_value x1
    extract_lets +onlyGivenNames -merge -underBinder x2
    have h2 : Kept 0x2252000523f38 s x2 := by
      unfold x2
      refine Kept.step ?_ (State.answerDesc_kept _ _ _ _ _)
      refine Kept.ite ?_ ?_
      · refine Kept.step ?_ (State.reqFail_kept _ _ _)
        exact h1
      · exact h1
    clear_value x2
    extract_lets +onlyGivenNames -merge -underBinder x3
    have h3 : Kept 0x2252000523f38 s x3 := by
      unfold x3
      split
      ·
        exact h2
      ·
        refine Kept.ite ?_ ?_
        · exact h2
        · refine Kept.ite ?_ ?_
          · refine Kept.ite ?_ ?_
            · refine Kept.step ?_ (State.reducePoison_kept _ _ _)
              exact h2
            · exact h2
          · refine Kept.ite ?_ ?_
            · refine Kept.step ?_ (State.faultAbort_kept _ _ _ _ _)
              exact h2
            · refine Kept.ite ?_ ?_
              · refine Kept.step ?_ (State.faultAbort_kept _ _ _ _ _)
                exact h2
              · exact h2
    clear_value x3
    refine Kept.step ?_ (State.settleStage_kept _ _)
    exact h3

theorem State.issueAck_kept : ∀ s a1 a2, Kept 0x2252000723f38 s (State.issueAck s a1 a2) := by
  intro s a1 a2
  unfold State.issueAck
  refine Kept.ite ?_ ?_
  · refine (Kept.upd ?_).kept
    exact Kept.refl _ _
  · split
    next y1 q1 =>
      have h1 : Kept 0x2252000723f38 s y1 := Kept.snd q1 (by
        refine Kept.step ?_ (State.launch_kept _ _ _)
        exact Kept.refl _ _)
      exact h1
    next y2 q2 =>
      have h2 : Kept 0x2252000723f38 s y2 := Kept.snd q2 (by
        refine Kept.step ?_ (State.launch_kept _ _ _)
        exact Kept.refl _ _)
      refine Kept.step ?_ (State.finishAck_kept _ _ _)
      exact h2

theorem State.poisonGlobal_kept : ∀ s a1 a2 a3 a4 a5 a6, Kept 0x2252000727f38 s (State.poisonGlobal s a1 a2 a3 a4 a5 a6) := by
  intro s a1 a2 a3 a4 a5 a6
  unfold State.poisonGlobal
  refine Kept.ite ?_ ?_
  · refine Kept.step ?_ (State.poisonRange_kept _ _ _ _ _ _)
    exact Kept.refl _ _
  · refine Kept.foldl ?_ (fun _ _ h1 => ?_)
    · exact Kept.refl _ _
    · refine Kept.step ?_ (State.issueAck_kept _ _ _)
      exact h1

theorem State.countMarks_kept : ∀ s a1 a2, Kept 0x8 s (State.countMarks s a1 a2) := by
  intro s a1 a2
  unfold State.countMarks
  split
  ·
    refine Kept.step ?_ (State.bump_kept _ _ _)
    exact Kept.refl _ _
  ·
    exact Kept.refl _ _

theorem State.hostFail_kept : ∀ s a1 a2 a3 a4 a5, Kept 0x242000000008 s (State.hostFail s a1 a2 a3 a4 a5) := by
  intro s a1 a2 a3 a4 a5
  unfold State.hostFail
  refine Kept.step ?_ (State.postLim_kept _ _ _ _ _ _ _ _ _ _)
  refine Kept.step ?_ (State.bump_kept _ _ _)
  exact Kept.refl _ _

theorem State.linkCheck_kept : ∀ s a1 a2 a3 a4, Kept 0x242000000008 s (State.linkCheck s a1 a2 a3 a4) := by
  intro s a1 a2 a3 a4
  unfold State.linkCheck
  refine Kept.ite ?_ ?_
  · exact Kept.refl _ _
  · refine Kept.ite ?_ ?_
    · refine Kept.step ?_ (State.hostFail_kept _ _ _ _ _ _)
      exact Kept.refl _ _
    · refine Kept.step ?_ (State.wakeLink_kept _)
      exact Kept.refl _ _

theorem State.hostRead_kept : ∀ s a1 a2 a3 a4, Kept 0x242000000008 s (State.hostRead s a1 a2 a3 a4) := by
  intro s a1 a2 a3 a4
  unfold State.hostRead
  refine Kept.ite ?_ ?_
  · exact Kept.refl _ _
  · refine Kept.ite ?_ ?_
    · refine Kept.step ?_ (State.linkCheck_kept _ _ _ _ _)
      exact Kept.refl _ _
    · refine Kept.foldl ?_ (fun _ _ h1 => ?_)
      · refine Kept.step ?_ (State.wakeLink_kept _)
        exact Kept.refl _ _
      · split
        ·
          refine Kept.step ?_ (State.hostFail_kept _ _ _ _ _ _)
          exact h1
        ·
          exact h1

theorem State.readFor_kept : ∀ s a1 a2 a3 a4, Kept 0x242000000008 s (State.readFor s a1 a2 a3 a4).2 := by
  intro s a1 a2 a3 a4
  unfold State.readFor
  refine Kept.ite2 ?_ ?_
  · dsimp only
    refine Kept.step ?_ (State.countMarks_kept _ _ _)
    refine Kept.step ?_ (State.hostRead_kept _ _ _ _ _)
    exact Kept.refl _ _
  · dsimp only
    refine Kept.step ?_ (State.unmappedEvent_kept _ _ _ _ _)
    exact Kept.refl _ _

theorem State.pathParity_kept : ∀ s a1 a2 a3 a4 a5, Kept 0x242000000008 s (State.pathParity s a1 a2 a3 a4 a5) := by
  intro s a1 a2 a3 a4 a5
  unfold State.pathParity
  extract_lets +onlyGivenNames -merge -underBinder x1
  have h1 : Kept 0x242000000008 s x1 := by
    unfold x1
    refine Kept.ite ?_ ?_
    · refine Kept.step ?_ (State.bump_kept _ _ _)
      exact Kept.refl _ _
    · exact Kept.refl _ _
  clear_value x1
  refine Kept.step ?_ (State.post_kept _ _ _ _ _ _)
  exact h1

theorem State.wayParity_kept : ∀ s a1 a2 a3 a4, Kept 0x242000000008 s (State.wayParity s a1 a2 a3 a4) := by
  intro s a1 a2 a3 a4
  unfold State.wayParity
  split
  ·
    refine Kept.ite ?_ ?_
    · refine Kept.step ?_ (State.pathParity_kept _ _ _ _ _ _)
      exact Kept.refl _ _
    · refine Kept.step ?_ (State.pathParity_kept _ _ _ _ _ _)
      exact Kept.refl _ _
  ·
    refine Kept.step ?_ (State.pathParity_kept _ _ _ _ _ _)
    exact Kept.refl _ _

theorem State.answerMirror_kept : ∀ s a1 a2 a3, Kept 0x10100 s (State.answerMirror s a1 a2 a3) := by
  intro s a1 a2 a3
  unfold State.answerMirror
  extract_lets +onlyGivenNames -merge -underBinder x1
  refine Kept.ite ?_ ?_
  · refine Kept.step ?_ (State.modLathe_kept _ _ _)
    exact Kept.refl _ _
  · refine (Kept.upd ?_).kept
    exact Kept.refl _ _

theorem State.answerOld_kept : ∀ s a1 a2 a3 a4, Kept 0x100 s (State.answerOld s a1 a2 a3 a4) := by
  intro s a1 a2 a3 a4
  unfold State.answerOld
  refine Kept.step ?_ (State.modLathe_kept _ _ _)
  exact Kept.refl _ _

theorem State.enqueueRed_kept : ∀ s a1 a2, Kept 0x4000 s (State.enqueueRed s a1 a2) := by
  intro s a1 a2
  unfold State.enqueueRed
  refine Kept.step ?_ (State.arriveRed_kept _ _ _ _)
  exact Kept.refl _ _

theorem State.reduceDst_kept : ∀ s a1 a2 a3 a4 a5 a6 a7 a8 a9 a10, Kept 0x2252000727f38 s (State.reduceDst s a1 a2 a3 a4 a5 a6 a7 a8 a9 a10) := by
  intro s a1 a2 a3 a4 a5 a6 a7 a8 a9 a10
  unfold State.reduceDst
  refine Kept.ite ?_ ?_
  · refine Kept.foldl ?_ (fun _ _ h1 => ?_)
    · exact Kept.refl _ _
    · refine Kept.ite ?_ ?_
      · refine Kept.step ?_ (State.unmappedEvent_kept _ _ _ _ _)
        exact h1
      · refine Kept.step ?_ (State.enqueueRed_kept _ _ _)
        exact h1
  · refine Kept.foldl ?_ (fun _ _ h2 => ?_)
    · exact Kept.refl _ _
    · extract_lets +onlyGivenNames -merge -underBinder x3
      extract_lets +onlyGivenNames -merge -underBinder x4
      refine Kept.step ?_ (State.issueAck_kept _ _ _)
      exact h2

theorem State.landReduce_kept : ∀ s a1, Kept 0x2252000727f38 s (State.landReduce s a1) := by
  intro s a1
  unfold State.landReduce
  extract_lets +onlyGivenNames -merge -underBinder x1
  extract_lets +onlyGivenNames -merge -underBinder x2
  extract_lets +onlyGivenNames -merge -underBinder x3
  refine Kept.foldl ?_ (fun _ _ h4 => ?_)
  · refine (Kept.upd ?_).kept
    exact Kept.refl _ _
  · refine Kept.step ?_ (State.reduceDst_kept _ _ _ _ _ _ _ _ _ _ _)
    exact h4

theorem State.finishReq_kept : ∀ s a1 a2 a3 a4, Kept 0x3252000737f38 s (State.finishReq s a1 a2 a3 a4) := by
  intro s a1 a2 a3 a4
  unfold State.finishReq
  split
  ·
    refine Kept.step ?_ (State.bump_kept _ _ _)
    exact Kept.refl _ _
  ·
    refine Kept.ite ?_ ?_
    · refine Kept.step ?_ (State.finishAck_kept _ _ _)
      exact Kept.refl _ _
    · extract_lets +onlyGivenNames -merge -underBinder x1
      have h1 : Kept 0x3252000737f38 s x1 := by
        unfold x1
        refine (Kept.upd ?_).kept
        exact Kept.refl _ _
      clear_value x1
      extract_lets +onlyGivenNames -merge -underBinder x2
      have h2 : Kept 0x3252000737f38 s x2 := by
        unfold x2
        refine Kept.ite ?_ ?_
        · refine Kept.step ?_ (State.reqFail_kept _ _ _)
          exact h1
        · exact h1
      clear_value x2
      extract_lets +onlyGivenNames -merge -underBinder x3
      extract_lets +onlyGivenNames -merge -underBinder x4
      extract_lets +onlyGivenNames -merge -underBinder x5
      extract_lets +onlyGivenNames -merge -underBinder x6
      have h6 : Kept 0x3252000737f38 s x6 := by
        unfold x6
        refine Kept.ite ?_ ?_
        · exact h2
        · split
          ·
            refine Kept.step ?_ (State.answerMirror_kept _ _ _ _)
            exact h2
          ·
            refine Kept.step ?_ (State.answerOld_kept _ _ _ _ _)
            exact h2
          ·
            refine Kept.step ?_ (State.answerDesc_kept _ _ _ _ _)
            exact h2
          ·
            refine Kept.step ?_ (State.landReduce_kept _ _)
            exact h2
          ·
            extract_lets +onlyGivenNames -merge -underBinder x7
            have h7 : Kept 0x3252000737f38 s x7 := by
              unfold x7
              refine Kept.step ?_ (State.bump_kept _ _ _)
              exact h2
            clear_value x7
            refine (Kept.upd ?_).kept
            exact h7
      clear_value x6
      refine Kept.step ?_ (State.settleStage_kept _ _)
      exact h6

theorem State.issue_kept : ∀ s a1 a2, Kept 0x3252000737f38 s (State.issue s a1 a2) := by
  intro s a1 a2
  unfold State.issue
  refine Kept.ite ?_ ?_
  · refine (Kept.upd ?_).kept
    exact Kept.refl _ _
  · split
    next y1 q1 =>
      have h1 : Kept 0x3252000737f38 s y1 := Kept.snd q1 (by
        refine Kept.step ?_ (State.launch_kept _ _ _)
        exact Kept.refl _ _)
      exact h1
    next y2 q2 =>
      have h2 : Kept 0x3252000737f38 s y2 := Kept.snd q2 (by
        refine Kept.step ?_ (State.launch_kept _ _ _)
        exact Kept.refl _ _)
      refine Kept.step ?_ (State.finishReq_kept _ _ _ _ _)
      exact h2

theorem State.putBytes_kept : ∀ s a1 a2 a3, Kept 0x20000002038 s (State.putBytes s a1 a2 a3) := by
  intro s a1 a2 a3
  unfold State.putBytes
  refine Kept.foldl ?_ (fun _ _ h1 => ?_)
  · refine Kept.step ?_ (State.setBytes_kept _ _ _)
    refine Kept.step ?_ (State.cancelScrub_kept _ _ _)
    exact Kept.refl _ _
  · refine Kept.ite ?_ ?_
    · refine Kept.step ?_ (State.setMark_kept _ _ _)
      exact h1
    · exact h1

theorem State.mcastCopy_kept : ∀ s a1 a2 a3 a4, Kept 0x400008 s (State.mcastCopy s a1 a2 a3 a4) := by
  intro s a1 a2 a3 a4
  unfold State.mcastCopy
  refine Kept.ite ?_ ?_
  · exact Kept.refl _ _
  · refine Kept.foldl ?_ (fun _ _ h1 => ?_)
    · exact Kept.refl _ _
    · refine Kept.foldl ?_ (fun _ _ h2 => ?_)
      · exact h1
      · extract_lets +onlyGivenNames -merge -underBinder x3
        extract_lets +onlyGivenNames -merge -underBinder x4
        extract_lets +onlyGivenNames -merge -underBinder x5
        refine Kept.ite ?_ ?_
        · extract_lets +onlyGivenNames -merge -underBinder x6
          extract_lets +onlyGivenNames -merge -underBinder x7
          refine Kept.step ?_ (State.wr_kept _ _ _)
          refine (Kept.upd ?_).kept
          exact h2
        · exact h2

theorem State.writeFor_kept : ∀ s a1 a2 a3 a4 a5 a6, Kept 0x262000402038 s (State.writeFor s a1 a2 a3 a4 a5 a6) := by
  intro s a1 a2 a3 a4 a5 a6
  unfold State.writeFor
  refine Kept.ite ?_ ?_
  · refine Kept.step ?_ (State.mcastCopy_kept _ _ _ _ _)
    refine Kept.step ?_ (State.putBytes_kept _ _ _ _)
    refine Kept.step ?_ (State.linkCheck_kept _ _ _ _ _)
    exact Kept.refl _ _
  · refine Kept.ite ?_ ?_
    · exact Kept.refl _ _
    · refine Kept.step ?_ (State.unmappedEvent_kept _ _ _ _ _)
      exact Kept.refl _ _

theorem State.unstall_kept : ∀ s, Kept 0x3252000737f38 s (State.unstall s) := by
  intro s
  unfold State.unstall
  refine Kept.foldl ?_ (fun _ _ h1 => ?_)
  · refine (Kept.upd ?_).kept
    exact Kept.refl _ _
  · refine Kept.step ?_ (State.issue_kept _ _ _)
    exact h1

theorem State.sendLink_kept : ∀ s a1 a2, Kept 0x200000 s (State.sendLink s a1 a2) := by
  intro s a1 a2
  unfold State.sendLink
  extract_lets +onlyGivenNames -merge -underBinder x1
  extract_lets +onlyGivenNames -merge -underBinder x2
  extract_lets +onlyGivenNames -merge -underBinder x3
  have h3 : Kept 0x200000 s x3 := by
    unfold x3
    refine Kept.step ?_ (State.setPort_kept _ _ _)
    exact Kept.refl _ _
  clear_value x3
  refine (Kept.upd ?_).kept
  exact h3

end Sys2Proof.Machine
end

