-- ==== Sys2Proof/Laws/FrameLatheOps.lean ====
section
/-! SUPPORT. What each operation of `Machine/LatheOps.lean` may change: one lemma each, the parts it may change as a mask of `Part.no` bits. -/
set_option linter.unusedVariables false
set_option Elab.async false
namespace Sys2Proof.Machine

theorem State.addSym_kept : ∀ s a1 a2 a3 a4, Kept 0x108 s (State.addSym s a1 a2 a3 a4) := by
  intro s a1 a2 a3 a4
  unfold State.addSym
  refine Kept.ite ?_ ?_
  · exact Kept.refl _ _
  · extract_lets +onlyGivenNames -merge -underBinder x1
    have h1 : Kept 0x108 s x1 := by
      unfold x1
      refine Kept.step ?_ (State.bump_kept _ _ _)
      refine Kept.step ?_ (State.bump_kept _ _ _)
      refine Kept.step ?_ (State.bump_kept _ _ _)
      exact Kept.refl _ _
    clear_value x1
    refine Kept.step ?_ (State.modLathe_kept _ _ _)
    exact h1

theorem State.countShown_kept : ∀ s a1 a2 a3, Kept 0x8 s (State.countShown s a1 a2 a3) := by
  intro s a1 a2 a3
  unfold State.countShown
  extract_lets +onlyGivenNames -merge -underBinder x1
  refine Kept.ite ?_ ?_
  · exact Kept.refl _ _
  · refine Kept.step ?_ (State.bump_kept _ _ _)
    refine Kept.step ?_ (State.bump_kept _ _ _)
    exact Kept.refl _ _

theorem State.countIdle_kept : ∀ s a1, Kept 0x108 s (State.countIdle s a1) := by
  intro s a1
  unfold State.countIdle
  extract_lets +onlyGivenNames -merge -underBinder x1
  refine Kept.ite ?_ ?_
  · exact Kept.refl _ _
  · refine Kept.step ?_ (State.modLathe_kept _ _ _)
    refine Kept.step ?_ (State.bump_kept _ _ _)
    exact Kept.refl _ _

theorem State.powerAdcs_kept : ∀ s a1, Kept 0x100 s (State.powerAdcs s a1) := by
  intro s a1
  unfold State.powerAdcs
  refine Kept.ite ?_ ?_
  · exact Kept.refl _ _
  · refine Kept.step ?_ (State.modLathe_kept _ _ _)
    exact Kept.refl _ _

theorem State.modDip_kept : ∀ s a1 a2, Kept 0x100000000 s (State.modDip s a1 a2) := by
  intro s a1 a2
  unfold State.modDip
  refine (Kept.upd ?_).kept
  exact Kept.refl _ _

theorem State.touchHist_kept : ∀ s a1 a2, Kept 0x2000000 s (State.touchHist s a1 a2) := by
  intro s a1 a2
  unfold State.touchHist
  extract_lets +onlyGivenNames -merge -underBinder x1
  have h1 : Kept 0x2000000 s x1 := by
    unfold x1
    refine Kept.step ?_ (State.setHist_kept _ _ _)
    exact Kept.refl _ _
  clear_value x1
  refine Kept.ite ?_ ?_
  · exact h1
  · refine (Kept.upd ?_).kept
    exact h1

theorem State.histEvent_kept : ∀ s a1 a2 a3, Kept 0x2000000 s (State.histEvent s a1 a2 a3) := by
  intro s a1 a2 a3
  unfold State.histEvent
  extract_lets +onlyGivenNames -merge -underBinder x1
  extract_lets +onlyGivenNames -merge -underBinder x2
  refine Kept.step ?_ (State.touchHist_kept _ _ _)
  exact Kept.refl _ _

theorem State.classPermanent_kept : ∀ s a1 a2 a3 a4, Kept 0x242002000008 s (State.classPermanent s a1 a2 a3 a4) := by
  intro s a1 a2 a3 a4
  unfold State.classPermanent
  extract_lets +onlyGivenNames -merge -underBinder x1
  extract_lets +onlyGivenNames -merge -underBinder x2
  refine Kept.ite ?_ ?_
  · exact Kept.refl _ _
  · refine Kept.step ?_ (State.post_kept _ _ _ _ _ _)
    refine Kept.step ?_ (State.touchHist_kept _ _ _)
    exact Kept.refl _ _

theorem State.histPermanent_kept : ∀ s a1 a2 a3 a4, Kept 0x242002000008 s (State.histPermanent s a1 a2 a3 a4) := by
  intro s a1 a2 a3 a4
  unfold State.histPermanent
  refine Kept.step ?_ (State.classPermanent_kept _ _ _ _ _)
  refine Kept.step ?_ (State.histEvent_kept _ _ _ _)
  exact Kept.refl _ _

theorem State.quiesce_kept : ∀ s a1 a2 a3, Kept 0x100 s (State.quiesce s a1 a2 a3) := by
  intro s a1 a2 a3
  unfold State.quiesce
  refine Kept.ite ?_ ?_
  · refine Kept.step ?_ (State.modLathe_kept _ _ _)
    exact Kept.refl _ _
  · exact Kept.refl _ _

theorem State.supplyDip_kept : ∀ s a1 a2 a3 a4 a5, Kept 0x242002000008 s (State.supplyDip s a1 a2 a3 a4 a5) := by
  intro s a1 a2 a3 a4 a5
  unfold State.supplyDip
  extract_lets +onlyGivenNames -merge -underBinder x1
  refine Kept.step ?_ (State.histEvent_kept _ _ _ _)
  refine Kept.step ?_ (State.post_kept _ _ _ _ _ _)
  exact Kept.refl _ _

theorem State.settleDips_kept : ∀ s, Kept 0x242102000008 s (State.settleDips s) := by
  intro s
  unfold State.settleDips
  extract_lets +onlyGivenNames -merge -underBinder x1
  refine Kept.foldl ?_ (fun _ _ h2 => ?_)
  · refine (Kept.upd ?_).kept
    exact Kept.refl _ _
  · refine Kept.step ?_ (State.supplyDip_kept _ _ _ _ _ _)
    exact h2

theorem State.dropStrokes_kept : ∀ s a1, Kept 0x242102000308 s (State.dropStrokes s a1) := by
  intro s a1
  unfold State.dropStrokes
  extract_lets +onlyGivenNames -merge -underBinder x1
  have h1 : Kept 0x242102000308 s x1 := by
    unfold x1
    refine Kept.foldl ?_ (fun _ _ h2 => ?_)
    · exact Kept.refl _ _
    · refine Kept.step ?_ (State.modGroup_kept _ _ _ _)
      exact h2
  clear_value x1
  refine Kept.step ?_ (State.settleDips_kept _)
  refine Kept.step ?_ (State.modLathe_kept _ _ _)
  exact h1

theorem State.invalidateRest_kept : ∀ s a1, Kept 0x242000000208 s (State.invalidateRest s a1) := by
  intro s a1
  unfold State.invalidateRest
  extract_lets +onlyGivenNames -merge -underBinder x1
  refine Kept.foldl ?_ (fun _ _ h2 => ?_)
  · exact Kept.refl _ _
  · refine Kept.step ?_ (State.invalidate_kept _ _ _ _)
    exact h2

theorem State.r78_kept : ∀ s a1, Kept 0x252102503f38 s (State.r78 s a1) := by
  intro s a1
  unfold State.r78
  extract_lets +onlyGivenNames -merge -underBinder x1
  have h1 : Kept 0x252102503f38 s x1 := by
    unfold x1
    refine Kept.step ?_ (State.abortWhere_kept _ _ _ _)
    exact Kept.refl _ _
  clear_value x1
  refine Kept.step ?_ (State.dropStrokes_kept _ _)
  refine Kept.foldl ?_ (fun _ _ h2 => ?_)
  · exact h1
  · refine Kept.step ?_ (State.invalidateRest_kept _ _)
    exact h2

theorem State.cutLanes_kept : ∀ s a1, Kept 0x100 s (State.cutLanes s a1) := by
  intro s a1
  unfold State.cutLanes
  refine Kept.ite ?_ ?_
  · extract_lets +onlyGivenNames -merge -underBinder x1
    refine Kept.step ?_ (State.modLathe_kept _ _ _)
    exact Kept.refl _ _
  · exact Kept.refl _ _

theorem State.countCut_kept : ∀ s a1, Kept 0x108 s (State.countCut s a1) := by
  intro s a1
  unfold State.countCut
  extract_lets +onlyGivenNames -merge -underBinder x1
  extract_lets +onlyGivenNames -merge -underBinder x2
  split
  ·
    refine Kept.step ?_ (State.addSym_kept _ _ _ _ _)
    refine Kept.step ?_ (State.countShown_kept _ _ _ _)
    exact Kept.refl _ _
  ·
    extract_lets +onlyGivenNames -merge -underBinder x3
    refine Kept.step ?_ (State.addSym_kept _ _ _ _ _)
    refine Kept.step ?_ (State.countShown_kept _ _ _ _)
    exact Kept.refl _ _
  ·
    exact Kept.refl _ _

theorem State.withdraw_kept : ∀ s a1 a2, Kept 0x104000 s (State.withdraw s a1 a2) := by
  intro s a1 a2
  unfold State.withdraw
  extract_lets +onlyGivenNames -merge -underBinder x1
  refine (Kept.upd ?_).kept
  exact Kept.refl _ _

theorem State.cutDrain_kept : ∀ s a1 a2, Kept 0x2252000727f38 s (State.cutDrain s a1 a2) := by
  intro s a1 a2
  unfold State.cutDrain
  extract_lets +onlyGivenNames -merge -underBinder x1
  refine Kept.ite ?_ ?_
  · extract_lets +onlyGivenNames -merge -underBinder x2
    have h2 : Kept 0x2252000727f38 s x2 := by
      unfold x2
      split
      ·
        refine Kept.step ?_ (State.withdraw_kept _ _ _)
        exact Kept.refl _ _
      ·
        exact Kept.refl _ _
    clear_value x2
    extract_lets +onlyGivenNames -merge -underBinder x3
    have h3 : Kept 0x2252000727f38 s x3 := by
      unfold x3
      split
      ·
        refine Kept.step ?_ (State.poisonGlobal_kept _ _ _ _ _ _ _)
        exact h2
      ·
        exact h2
    clear_value x3
    refine Kept.step ?_ (State.modLathe_kept _ _ _)
    refine Kept.step ?_ (State.modGroup_kept _ _ _ _)
    exact h3
  · exact Kept.refl _ _

theorem State.cutDrains_kept : ∀ s a1, Kept 0x2252000727f38 s (State.cutDrains s a1) := by
  intro s a1
  unfold State.cutDrains
  refine Kept.foldl ?_ (fun _ _ h1 => ?_)
  · exact Kept.refl _ _
  · refine Kept.step ?_ (State.cutDrain_kept _ _ _)
    exact h1

theorem State.oosEvent_kept : ∀ s a1 a2, Kept 0x242000000008 s (State.oosEvent s a1 a2) := by
  intro s a1 a2
  unfold State.oosEvent
  refine Kept.step ?_ (State.post_kept _ _ _ _ _ _)
  exact Kept.refl _ _

theorem State.leaveNow_kept : ∀ s a1 a2 a3, Kept 0x2252102727f38 s (State.leaveNow s a1 a2 a3) := by
  intro s a1 a2 a3
  unfold State.leaveNow
  extract_lets +onlyGivenNames -merge -underBinder x1
  extract_lets +onlyGivenNames -merge -underBinder x2
  have h2 : Kept 0x2252102727f38 s x2 := by
    unfold x2
    refine Kept.step ?_ (State.countIdle_kept _ _)
    exact Kept.refl _ _
  clear_value x2
  extract_lets +onlyGivenNames -merge -underBinder x3
  have h3 : Kept 0x2252102727f38 s x3 := by
    unfold x3
    refine Kept.ite ?_ ?_
    · refine Kept.step ?_ (State.r78_kept _ _)
      refine Kept.step ?_ (State.cutLanes_kept _ _)
      refine Kept.step ?_ (State.countCut_kept _ _)
      exact h2
    · exact h2
  clear_value x3
  extract_lets +onlyGivenNames -merge -underBinder x4
  have h4 : Kept 0x2252102727f38 s x4 := by
    unfold x4
    refine Kept.ite ?_ ?_
    · refine Kept.step ?_ (State.cutDrains_kept _ _)
      exact h3
    · exact h3
  clear_value x4
  extract_lets +onlyGivenNames -merge -underBinder x5
  have h5 : Kept 0x2252102727f38 s x5 := by
    unfold x5
    refine Kept.step ?_ (State.modLathe_kept _ _ _)
    exact h4
  clear_value x5
  refine Kept.ite ?_ ?_
  · refine Kept.step ?_ (State.oosEvent_kept _ _ _)
    exact h5
  · exact h5

theorem State.checkMaps_kept : ∀ s a1, Kept 0x242000000108 s (State.checkMaps s a1).2 := by
  intro s a1
  unfold State.checkMaps
  split
  ·
    dsimp only
    refine Kept.step ?_ (State.powerAdcs_kept _ _)
    refine Kept.step ?_ (State.modLathe_kept _ _ _)
    exact Kept.refl _ _
  ·
    dsimp only
    refine Kept.step ?_ (State.post_kept _ _ _ _ _ _)
    refine Kept.step ?_ (State.modLathe_kept _ _ _)
    exact Kept.refl _ _

theorem State.enterService_kept : ∀ s a1, Kept 0x242000000108 s (State.enterService s a1) := by
  intro s a1
  unfold State.enterService
  refine Kept.step ?_ (State.post_kept _ _ _ _ _ _)
  refine Kept.step ?_ (State.modLathe_kept _ _ _)
  exact Kept.refl _ _

theorem State.suspect_kept : ∀ s a1 a2, Kept 0x108 s (State.suspect s a1 a2) := by
  intro s a1 a2
  unfold State.suspect
  extract_lets +onlyGivenNames -merge -underBinder x1
  refine Kept.step ?_ (State.modLathe_kept _ _ _)
  refine Kept.step ?_ (State.bump_kept _ _ _)
  exact Kept.refl _ _

theorem State.forgetSymbols_kept : ∀ s a1 a2, Kept 0x100 s (State.forgetSymbols s a1 a2) := by
  intro s a1 a2
  unfold State.forgetSymbols
  refine Kept.step ?_ (State.modLathe_kept _ _ _)
  exact Kept.refl _ _

end Sys2Proof.Machine
end

