-- ==== Sys2Proof/Laws/FrameFlags.lean ====
section
/-! SUPPORT. What each operation of `Machine/Flags.lean` may change: one lemma each, the parts it may change as a mask of `Part.no` bits. -/
set_option linter.unusedVariables false
set_option Elab.async false
namespace Sys2Proof.Machine

theorem State.noteNan_kept : ∀ s a1 a2 a3 a4, Kept 0x242000000008 s (State.noteNan s a1 a2 a3 a4) := by
  intro s a1 a2 a3 a4
  unfold State.noteNan
  refine Kept.step ?_ (State.postLim_kept _ _ _ _ _ _ _ _ _ _)
  exact Kept.refl _ _

theorem State.tileFlag_kept : ∀ s a1 a2 a3, Kept 0x8 s (State.tileFlag s a1 a2 a3) := by
  intro s a1 a2 a3
  unfold State.tileFlag
  refine Kept.step ?_ (State.wb_kept _ _ _ _)
  exact Kept.refl _ _

theorem State.groupFlag_kept : ∀ s a1 a2 a3, Kept 0x8 s (State.groupFlag s a1 a2 a3) := by
  intro s a1 a2 a3
  unfold State.groupFlag
  refine Kept.step ?_ (State.tileFlag_kept _ _ _ _)
  exact Kept.refl _ _

theorem State.noteBeta_kept : ∀ s a1 a2 a3, Kept 0x242000000208 s (State.noteBeta s a1 a2 a3) := by
  intro s a1 a2 a3
  unfold State.noteBeta
  refine Kept.ite ?_ ?_
  · exact Kept.refl _ _
  · extract_lets +onlyGivenNames -merge -underBinder x1
    extract_lets +onlyGivenNames -merge -underBinder x2
    have h2 : Kept 0x242000000208 s x2 := by
      unfold x2
      refine Kept.step ?_ (State.modGroup_kept _ _ _ _)
      refine Kept.step ?_ (State.bump_kept _ _ _)
      exact Kept.refl _ _
    clear_value x2
    extract_lets +onlyGivenNames -merge -underBinder x3
    have h3 : Kept 0x242000000208 s x3 := by
      unfold x3
      refine Kept.step ?_ (State.groupFlag_kept _ _ _ _)
      exact h2
    clear_value x3
    refine Kept.step ?_ (State.postLim_kept _ _ _ _ _ _ _ _ _ _)
    exact h3

theorem State.noteSat_kept : ∀ s a1 a2 a3, Kept 0x242000000208 s (State.noteSat s a1 a2 a3) := by
  intro s a1 a2 a3
  unfold State.noteSat
  refine Kept.ite ?_ ?_
  · exact Kept.refl _ _
  · extract_lets +onlyGivenNames -merge -underBinder x1
    extract_lets +onlyGivenNames -merge -underBinder x2
    have h2 : Kept 0x242000000208 s x2 := by
      unfold x2
      refine Kept.step ?_ (State.modGroup_kept _ _ _ _)
      refine Kept.step ?_ (State.bump_kept _ _ _)
      exact Kept.refl _ _
    clear_value x2
    extract_lets +onlyGivenNames -merge -underBinder x3
    have h3 : Kept 0x242000000208 s x3 := by
      unfold x3
      refine Kept.step ?_ (State.groupFlag_kept _ _ _ _)
      exact h2
    clear_value x3
    refine Kept.step ?_ (State.postLim_kept _ _ _ _ _ _ _ _ _ _)
    exact h3

theorem State.noteOver_kept : ∀ s a1 a2 a3 a4 a5, Kept 0x242000000008 s (State.noteOver s a1 a2 a3 a4 a5) := by
  intro s a1 a2 a3 a4 a5
  unfold State.noteOver
  refine Kept.ite ?_ ?_
  · exact Kept.refl _ _
  · refine Kept.step ?_ (State.postLim_kept _ _ _ _ _ _ _ _ _ _)
    refine Kept.step ?_ (State.bump_kept _ _ _)
    exact Kept.refl _ _

theorem State.poisonGroup_kept : ∀ s a1 a2, Kept 0x208 s (State.poisonGroup s a1 a2) := by
  intro s a1 a2
  unfold State.poisonGroup
  refine Kept.step ?_ (State.groupFlag_kept _ _ _ _)
  refine Kept.step ?_ (State.modGroup_kept _ _ _ _)
  exact Kept.refl _ _

end Sys2Proof.Machine
end

