-- ==== Sys2Proof/Laws/FrameWeightOps.lean ====
section
/-! SUPPORT. What each operation of `Machine/WeightOps.lean` may change: one lemma each, the parts it may change as a mask of `Part.no` bits. -/
set_option linter.unusedVariables false
set_option Elab.async false
namespace Sys2Proof.Machine

theorem State.switchBank_kept : ∀ s a1, Kept 0x100 s (State.switchBank s a1) := by
  intro s a1
  unfold State.switchBank
  refine Kept.step ?_ (State.modLathe_kept _ _ _)
  exact Kept.refl _ _

theorem State.claimBank_kept : ∀ s a1 a2, Kept 0x108 s (State.claimBank s a1 a2) := by
  intro s a1 a2
  unfold State.claimBank
  refine Kept.step ?_ (State.modLathe_kept _ _ _)
  refine Kept.step ?_ (State.bump_kept _ _ _)
  exact Kept.refl _ _

theorem State.setWait_kept : ∀ s a1 a2, Kept 0x10100 s (State.setWait s a1 a2) := by
  intro s a1 a2
  unfold State.setWait
  refine Kept.ite ?_ ?_
  · refine Kept.step ?_ (State.modLathe_kept _ _ _)
    exact Kept.refl _ _
  · refine (Kept.upd ?_).kept
    exact Kept.refl _ _

theorem State.askRecord_kept : ∀ s a1 a2 a3, Kept 0x10000010108 s (State.askRecord s a1 a2 a3) := by
  intro s a1 a2 a3
  unfold State.askRecord
  extract_lets +onlyGivenNames -merge -underBinder x1
  extract_lets +onlyGivenNames -merge -underBinder x2
  have h2 : Kept 0x10000010108 s x2 := by
    unfold x2
    refine Kept.step ?_ (State.setWait_kept _ _ _)
    exact Kept.refl _ _
  clear_value x2
  extract_lets +onlyGivenNames -merge -underBinder x3
  refine Kept.step ?_ (State.notePeak_kept _)
  extract_lets +onlyGivenNames -merge -underBinder x4
  have h4 : Kept 0x10000010108 s x4 := by
    unfold x4
    refine Kept.step ?_ (State.wakeLink_kept _)
    exact h2
  clear_value x4
  refine (Kept.upd ?_).kept
  exact h4

theorem State.askTry_kept : ∀ s a1 a2 a3, Kept 0x10000010108 s (State.askTry s a1 a2 a3) := by
  intro s a1 a2 a3
  unfold State.askTry
  refine Kept.step ?_ (State.askRecord_kept _ _ _ _)
  exact Kept.refl _ _

theorem State.readPieces_kept : ∀ s a1 a2 a3, Kept 0x242000000008 s (State.readPieces s a1 a2 a3).2 := by
  intro s n ctx ps
  unfold State.readPieces
  refine Kept.fold (fun (x : Sparse Byte × Bool × State × Nat) => x.2.2.1) (Kept.refl _ _) ?_
  intro y a h
  refine Kept.step ?_ (State.countInf_kept _ _ _ _)
  exact Kept.step h (State.readFor_kept _ _ _ _ _)

theorem State.readOnce_kept : ∀ s a1 a2 a3 a4, Kept 0x242000000008 s (State.readOnce s a1 a2 a3 a4).2 := by
  intro s a1 a2 a3 a4
  unfold State.readOnce
  split
  ·
    dsimp only
    exact Kept.refl _ _
  ·
    refine Kept.step ?_ (State.readPieces_kept _ _ _ _)
    exact Kept.refl _ _

theorem State.recordParity_kept : ∀ s a1 a2 a3, Kept 0x242000000008 s (State.recordParity s a1 a2 a3) := by
  intro s a1 a2 a3
  unfold State.recordParity
  refine Kept.step ?_ (State.wayParity_kept _ _ _ _ _)
  exact Kept.refl _ _

theorem State.dropLoad_kept : ∀ s a1 a2, Kept 0x100 s (State.dropLoad s a1 a2) := by
  intro s a1 a2
  unfold State.dropLoad
  refine Kept.ite ?_ ?_
  · refine Kept.step ?_ (State.modLathe_kept _ _ _)
    exact Kept.refl _ _
  · exact Kept.refl _ _

theorem State.loadFailed_kept : ∀ s a1 a2, Kept 0x100 s (State.loadFailed s a1 a2) := by
  intro s a1 a2
  unfold State.loadFailed
  extract_lets +onlyGivenNames -merge -underBinder x1
  have h1 : Kept 0x100 s x1 := by
    unfold x1
    refine Kept.step ?_ (State.dropLoad_kept _ _ _)
    exact Kept.refl _ _
  clear_value x1
  refine Kept.ite ?_ ?_
  · refine Kept.step ?_ (State.modLathe_kept _ _ _)
    exact h1
  · exact h1

theorem State.dropMirror_kept : ∀ s a1, Kept 0x10000100000 s (State.dropMirror s a1) := by
  intro s a1
  unfold State.dropMirror
  refine (Kept.upd ?_).kept
  exact Kept.refl _ _

theorem State.wtbFault_kept : ∀ s a1 a2 a3, Kept 0x252000513f38 s (State.wtbFault s a1 a2 a3) := by
  intro s a1 a2 a3
  unfold State.wtbFault
  extract_lets +onlyGivenNames -merge -underBinder x1
  extract_lets +onlyGivenNames -merge -underBinder x2
  have h2 : Kept 0x252000513f38 s x2 := by
    unfold x2
    refine Kept.step ?_ (State.wf_kept _ _ _ _)
    refine Kept.step ?_ (State.wf_kept _ _ _ _)
    refine Kept.step ?_ (State.wf_kept _ _ _ _)
    exact Kept.refl _ _
  clear_value x2
  extract_lets +onlyGivenNames -merge -underBinder x3
  have h3 : Kept 0x252000513f38 s x3 := by
    unfold x3
    refine (Kept.upd ?_).kept
    exact h2
  clear_value x3
  extract_lets +onlyGivenNames -merge -underBinder x4
  have h4 : Kept 0x252000513f38 s x4 := by
    unfold x4
    refine Kept.ite ?_ ?_
    · refine Kept.step ?_ (State.dropMirror_kept _ _)
      refine (Kept.upd ?_).kept
      exact h3
    · exact h3
  clear_value x4
  refine Kept.foldl ?_ (fun _ _ h5 => ?_)
  · exact h4
  · refine Kept.step ?_ (State.faultAbort_kept _ _ _ _ _)
    exact h5

theorem State.shardEvent_kept : ∀ s a1 a2 a3 a4 a5 a6 a7, Kept 0x242000000008 s (State.shardEvent s a1 a2 a3 a4 a5 a6 a7) := by
  intro s a1 a2 a3 a4 a5 a6 a7
  unfold State.shardEvent
  split
  ·
    extract_lets +onlyGivenNames -merge -underBinder x1
    refine Kept.step ?_ (State.post_kept _ _ _ _ _ _)
    exact Kept.refl _ _

theorem State.shardFail_kept : ∀ s a1 a2 a3 a4 a5 a6 a7 a8, Kept 0x252000513f38 s (State.shardFail s a1 a2 a3 a4 a5 a6 a7 a8) := by
  intro s a1 a2 a3 a4 a5 a6 a7 a8
  unfold State.shardFail
  extract_lets +onlyGivenNames -merge -underBinder x1
  have h1 : Kept 0x252000513f38 s x1 := by
    unfold x1
    refine Kept.ite ?_ ?_
    · refine Kept.step ?_ (State.wtbFault_kept _ _ _ _)
      exact Kept.refl _ _
    · exact Kept.refl _ _
  clear_value x1
  extract_lets +onlyGivenNames -merge -underBinder x2
  have h2 : Kept 0x252000513f38 s x2 := by
    unfold x2
    refine Kept.step ?_ (State.shardEvent_kept _ _ _ _ _ _ _ _)
    exact h1
  clear_value x2
  split
  ·
    refine Kept.step ?_ (State.faultAbort_kept _ _ _ _ _)
    exact h2
  ·
    exact h2

theorem State.planeGain_kept : ∀ s a1 a2 a3, Kept 0x2000000000000 s (State.planeGain s a1 a2 a3).2 := by
  intro s a1 a2 a3
  unfold State.planeGain
  refine Kept.ite2 ?_ ?_
  · dsimp only
    exact Kept.refl _ _
  · refine Kept.ite2 ?_ ?_
    · split
      next y1 q1 =>
        have h1 : Kept 0x2000000000000 s y1 := Kept.snd q1 (by
          refine Kept.step ?_ (State.takeFree_kept _)
          exact Kept.refl _ _)
        dsimp only
        exact h1
    · dsimp only
      exact Kept.refl _ _

theorem State.claimLoad_kept : ∀ s a1 a2, Kept 0x108 s (State.claimLoad s a1 a2) := by
  intro s a1 a2
  unfold State.claimLoad
  refine Kept.ite ?_ ?_
  · exact Kept.refl _ _
  · refine Kept.step ?_ (State.claimBank_kept _ _ _)
    exact Kept.refl _ _

theorem State.fillBank_kept : ∀ s a1 a2 a3 a4 a5 a6 a7, Kept 0x108 s (State.fillBank s a1 a2 a3 a4 a5 a6 a7) := by
  intro s a1 a2 a3 a4 a5 a6 a7
  unfold State.fillBank
  split
  ·
    refine Kept.step ?_ (State.modLathe_kept _ _ _)
    refine Kept.step ?_ (State.bump_kept _ _ _)
    refine Kept.step ?_ (State.claimLoad_kept _ _ _)
    exact Kept.refl _ _

theorem State.beginPlane_kept : ∀ s a1 a2 a3 a4 a5, Kept 0x2000000010108 s (State.beginPlane s a1 a2 a3 a4 a5) := by
  intro s a1 a2 a3 a4 a5
  unfold State.beginPlane
  split
  next y1 q1 =>
    have h1 : Kept 0x2000000010108 s y1 := Kept.snd q1 (by
      refine Kept.step ?_ (State.planeGain_kept _ _ _ _)
      exact Kept.refl _ _)
    extract_lets +onlyGivenNames -merge -underBinder x2
    refine Kept.step ?_ (State.fillBank_kept _ _ _ _ _ _ _ _)
    refine Kept.step ?_ (State.setWait_kept _ _ _)
    exact h1

theorem State.abandonWrite_kept : ∀ s a1 a2 a3, Kept 0x108 s (State.abandonWrite s a1 a2 a3) := by
  intro s a1 a2 a3
  unfold State.abandonWrite
  refine Kept.step ?_ (State.dropLoad_kept _ _ _)
  refine Kept.step ?_ (State.bump_kept _ _ _)
  exact Kept.refl _ _

theorem State.noteFailedRead_kept : ∀ s a1, Kept 0x8 s (State.noteFailedRead s a1) := by
  intro s a1
  unfold State.noteFailedRead
  refine Kept.ite ?_ ?_
  · refine Kept.step ?_ (State.wr_kept _ _ _)
    exact Kept.refl _ _
  · exact Kept.refl _ _

theorem State.noteReread_kept : ∀ s a1 a2 a3, Kept 0x242000000008 s (State.noteReread s a1 a2 a3) := by
  intro s a1 a2 a3
  unfold State.noteReread
  extract_lets +onlyGivenNames -merge -underBinder x1
  have h1 : Kept 0x242000000008 s x1 := by
    unfold x1
    refine Kept.step ?_ (State.bump_kept _ _ _)
    exact Kept.refl _ _
  clear_value x1
  split
  ·
    refine Kept.step ?_ (State.postLim_kept _ _ _ _ _ _ _ _ _ _)
    exact h1

theorem State.tryCopies_kept : ∀ s a1 a2 a3 a4 a5 a6 a7 a8 a9 a10 a11 a12, Kept 0x242000000108 s (State.tryCopies s a1 a2 a3 a4 a5 a6 a7 a8 a9 a10 a11 a12).2 := by
  intro s n entry ctx load chk bad so l
  induction l generalizing s with
  | nil => intro j f r first; exact Kept.refl _ _
  | cons ps rest ih =>
    intro j f r first
    unfold State.tryCopies
    extract_lets +onlyGivenNames -merge -underBinder s0
    have h0 : Kept 0x242000000108 s s0 := by
      unfold s0
      cases load with
      | none => exact Kept.refl _ _
      | some src => exact Kept.step (Kept.refl _ _) (State.claimLoad_kept _ _ _)
    clear_value s0
    refine Kept.ite2 h0 ?_
    have h := State.readOnce_kept s0 n (some (BitVec.ofNat 8 ctx)) first ps
    revert h
    generalize s0.readOnce n (some (BitVec.ofNat 8 ctx)) first ps = q
    obtain ⟨⟨im, poison⟩, t⟩ := q
    intro h
    replace h : Kept 0x242000000108 s t := Kept.step h0 h
    dsimp -zeta only
    extract_lets +onlyGivenNames -merge -underBinder sp r1 s2
    have hp : Kept 0x242000000108 s sp := Kept.ite (Kept.step h (State.recordParity_kept _ _ _ _)) h
    clear_value sp
    have h2 : Kept 0x242000000108 s s2 := by
      unfold s2
      cases load with
      | none => exact hp
      | some src => exact Kept.ite (Kept.step hp (State.abandonWrite_kept _ _ _ _)) hp
    clear_value s2 r1
    refine Kept.ite2 (Kept.ite ?_ hp) (Kept.ite2 ?_ ?_)
    · exact Kept.step hp (State.noteReread_kept _ _ _ _)
    · exact Kept.step (Kept.step hp (State.bump_kept _ _ _)) (ih _ _ _ _ _)
    · exact Kept.step (Kept.step h2 (State.noteFailedRead_kept _ _)) (ih _ _ _ _ _)

theorem State.noteMirror_kept : ∀ s a1 a2, Kept 0x242000000008 s (State.noteMirror s a1 a2) := by
  intro s a1 a2
  unfold State.noteMirror
  split
  ·
    refine Kept.step ?_ (State.post_kept _ _ _ _ _ _)
    refine Kept.step ?_ (State.bump_kept _ _ _)
    exact Kept.refl _ _

theorem State.readMirror_kept : ∀ s a1 a2, Kept 0x3252000737f38 s (State.readMirror s a1 a2) := by
  intro s a1 a2
  unfold State.readMirror
  extract_lets +onlyGivenNames -merge -underBinder x1
  have h1 : Kept 0x3252000737f38 s x1 := by
    unfold x1
    refine Kept.ite ?_ ?_
    · refine Kept.step ?_ (State.claimLoad_kept _ _ _)
      exact Kept.refl _ _
    · exact Kept.refl _ _
  clear_value x1
  extract_lets +onlyGivenNames -merge -underBinder x2
  extract_lets +onlyGivenNames -merge -underBinder x3
  extract_lets +onlyGivenNames -merge -underBinder x4
  extract_lets +onlyGivenNames -merge -underBinder x5
  extract_lets +onlyGivenNames -merge -underBinder x6
  extract_lets +onlyGivenNames -merge -underBinder x7
  extract_lets +onlyGivenNames -merge -underBinder x8
  extract_lets +onlyGivenNames -merge -underBinder x9
  refine Kept.ite ?_ ?_
  · refine Kept.ite ?_ ?_
    · refine Kept.step ?_ (State.askRecord_kept _ _ _ _)
      exact h1
    · split
      next y10 q10 =>
        have h10 : Kept 0x3252000737f38 s y10 := Kept.snd q10 (by
          refine Kept.step ?_ (State.readPieces_kept _ _ _ _)
          exact h1)
        unfold x8
        refine Kept.step ?_ (State.setWait_kept _ _ _)
        exact h10
  · extract_lets +onlyGivenNames -merge -underBinder x11
    extract_lets +onlyGivenNames -merge -underBinder x12
    have h12 : Kept 0x3252000737f38 s x12 := by
      unfold x12
      unfold x8
      refine Kept.step ?_ (State.setWait_kept _ _ _)
      exact h1
    clear_value x12
    refine Kept.foldl ?_ (fun _ _ h13 => ?_)
    · exact h12
    · refine Kept.step ?_ (State.issue_kept _ _ _)
      exact h13

theorem State.judgeMirror_kept : ∀ s a1 a2, Kept 0x3252000737f38 s (State.judgeMirror s a1 a2).2 := by
  intro s m n
  induction n generalizing s with
  | zero => exact Kept.refl _ _
  | succ n ih =>
    unfold State.judgeMirror
    split
    · exact Kept.refl _ _
    next w e =>
      refine Kept.ite2 (Kept.refl _ _) ?_
      extract_lets +onlyGivenNames -merge -underBinder r s1
      have h1 : Kept 0x3252000737f38 s s1 := Kept.step (Kept.ite (Kept.step (Kept.refl _ _) (State.abandonWrite_kept _ _ _ _)) (Kept.refl _ _)) (State.noteFailedRead_kept _ _)
      clear_value s1 r
      refine Kept.ite2 (Kept.step (Kept.refl _ _) (State.noteMirror_kept _ _ _)) ?_
      refine Kept.ite2 h1 ?_
      exact Kept.step (Kept.step h1 (State.readMirror_kept _ _ _)) (ih _)

theorem State.repairPieces_kept : ∀ s a1 a2, Kept 0x262000002038 s (State.repairPieces s a1 a2) := by
  intro s im ps
  unfold State.repairPieces
  refine Kept.fold (fun (x : State × Nat) => x.1) (Kept.refl _ _) ?_
  intro y a h
  refine Kept.ite ?_ ?_
  · exact Kept.step h (State.putBytes_kept _ _ _ _)
  · exact Kept.step h (State.unmappedEvent_kept _ _ _ _ _)

theorem State.resumeInlay_kept : ∀ s a1 a2, Kept 0x3272000737f38 s (State.resumeInlay s a1 a2) := by
  intro s n w
  unfold State.resumeInlay
  have h := State.judgeMirror_kept s n 4
  revert h
  generalize s.judgeMirror n 4 = v
  obtain ⟨o, t⟩ := v
  intro h
  replace h : Kept 0x3272000737f38 s t := Kept.mono h (by decide)
  cases o with
  | none => exact h
  | some z =>
    cases z with
    | ask y => exact h
    | ok im => exact Kept.step (Kept.step (Kept.step h (State.repairPieces_kept _ _ _)) (State.setWait_kept _ _ _)) (State.beginPlane_kept _ _ _ _ _ _)
    | fail r => exact Kept.step (Kept.step (Kept.step h (State.setWait_kept _ _ _)) (State.shardFail_kept _ _ _ _ _ _ _ _ _)) (State.loadFailed_kept _ _ _)

theorem State.orMirror_kept : ∀ s a1 a2 a3, Kept 0x3252000737f38 s (State.orMirror s a1 a2 a3) := by
  intro s a1 a2 a3
  unfold State.orMirror
  refine Kept.ite ?_ ?_
  · refine Kept.step ?_ (State.readMirror_kept _ _ _)
    exact Kept.refl _ _
  · extract_lets +onlyGivenNames -merge -underBinder x1
    have h1 : Kept 0x3252000737f38 s x1 := by
      unfold x1
      refine Kept.step ?_ (State.shardFail_kept _ _ _ _ _ _ _ _ _)
      refine Kept.step ?_ (State.setWait_kept _ _ _)
      exact Kept.refl _ _
    clear_value x1
    refine Kept.ite ?_ ?_
    · refine Kept.step ?_ (State.loadFailed_kept _ _ _)
      exact h1
    · exact h1

theorem State.inlayFrom_kept : ∀ s a1 a2 a3 a4 a5 a6 a7 a8, Kept 0x3272000737f38 s (State.inlayFrom s a1 a2 a3 a4 a5 a6 a7 a8) := by
  intro s a1 a2 a3 a4 a5 a6 a7 a8
  unfold State.inlayFrom
  extract_lets +onlyGivenNames -merge -underBinder x1
  split
  next y2 q2 =>
    have h2 : Kept 0x3272000737f38 s y2 := Kept.snd q2 (by
      refine Kept.step ?_ (State.tryCopies_kept _ _ _ _ _ _ _ _ _ _ _ _ _)
      exact Kept.refl _ _)
    extract_lets +onlyGivenNames -merge -underBinder x3 x4
    split
    ·
      refine Kept.step ?_ (State.beginPlane_kept _ _ _ _ _ _)
      exact h2
    ·
      refine Kept.step ?_ (State.resumeInlay_kept _ _ _)
      refine Kept.step ?_ (State.orMirror_kept _ _ _ _)
      exact h2
    ·
      refine Kept.step ?_ (State.askTry_kept _ _ _ _)
      exact h2

theorem State.loadInlay_kept : ∀ s a1 a2 a3 a4 a5, Kept 0x3272000737f38 s (State.loadInlay s a1 a2 a3 a4 a5) := by
  intro s a1 a2 a3 a4 a5
  unfold State.loadInlay
  refine Kept.ite ?_ ?_
  · refine Kept.step ?_ (State.beginPlane_kept _ _ _ _ _ _)
    exact Kept.refl _ _
  · extract_lets +onlyGivenNames -merge -underBinder x1
    refine Kept.step ?_ (State.inlayFrom_kept _ _ _ _ _ _ _ _ _)
    exact Kept.refl _ _

theorem State.resumeTile_kept : ∀ s a1 a2, Kept 0x3272000737f38 s (State.resumeTile s a1 a2) := by
  intro s n w
  unfold State.resumeTile
  have h := State.judgeMirror_kept s n 4
  revert h
  generalize s.judgeMirror n 4 = v
  obtain ⟨o, t⟩ := v
  intro h
  replace h : Kept 0x3272000737f38 s t := Kept.mono h (by decide)
  cases o with
  | none => exact h
  | some z =>
    cases z with
    | ask y => exact h
    | ok im => exact Kept.step (Kept.step (Kept.step h (State.repairPieces_kept _ _ _)) (State.setWait_kept _ _ _)) (State.loadInlay_kept _ _ _ _ _ _)
    | fail r => exact Kept.step (Kept.step (Kept.step h (State.setWait_kept _ _ _)) (State.shardFail_kept _ _ _ _ _ _ _ _ _)) (State.loadFailed_kept _ _ _)

theorem State.loadFrom_kept : ∀ s a1 a2 a3 a4 a5, Kept 0x3272000737f38 s (State.loadFrom s a1 a2 a3 a4 a5) := by
  intro s a1 a2 a3 a4 a5
  unfold State.loadFrom
  extract_lets +onlyGivenNames -merge -underBinder x1
  extract_lets +onlyGivenNames -merge -underBinder x2
  extract_lets +onlyGivenNames -merge -underBinder x3
  extract_lets +onlyGivenNames -merge -underBinder x4
  refine Kept.ite ?_ ?_
  · refine Kept.step ?_ (State.askTry_kept _ _ _ _)
    exact Kept.refl _ _
  · refine Kept.ite ?_ ?_
    · split
      next y5 q5 =>
        have h5 : Kept 0x3272000737f38 s y5 := Kept.snd q5 (by
          refine Kept.step ?_ (State.readOnce_kept _ _ _ _ _)
          exact Kept.refl _ _)
        extract_lets +onlyGivenNames -merge -underBinder x6
        have h6 : Kept 0x3272000737f38 s x6 := by
          unfold x6
          refine Kept.ite ?_ ?_
          · refine Kept.step ?_ (State.recordParity_kept _ _ _ _)
            exact h5
          · exact h5
        clear_value x6
        refine Kept.ite ?_ ?_
        · refine Kept.step ?_ (State.loadFailed_kept _ _ _)
          refine Kept.step ?_ (State.shardFail_kept _ _ _ _ _ _ _ _ _)
          exact h6
        · refine Kept.step ?_ (State.beginPlane_kept _ _ _ _ _ _)
          exact h6
    · refine Kept.ite ?_ ?_
      · split
        next y7 q7 =>
          have h7 : Kept 0x3272000737f38 s y7 := Kept.snd q7 (by
            refine Kept.step ?_ (State.readOnce_kept _ _ _ _ _)
            exact Kept.refl _ _)
          extract_lets +onlyGivenNames -merge -underBinder x8
          have h8 : Kept 0x3272000737f38 s x8 := by
            unfold x8
            refine Kept.ite ?_ ?_
            · refine Kept.step ?_ (State.recordParity_kept _ _ _ _)
              exact h7
            · exact h7
          clear_value x8
          extract_lets +onlyGivenNames -merge -underBinder x9
          refine Kept.ite ?_ ?_
          · refine Kept.step ?_ (State.beginPlane_kept _ _ _ _ _ _)
            exact h8
          · extract_lets +onlyGivenNames -merge -underBinder x10
            have h10 : Kept 0x3272000737f38 s x10 := by
              unfold x10
              refine Kept.ite ?_ ?_
              · refine Kept.step ?_ (State.abandonWrite_kept _ _ _ _)
                exact h8
              · exact h8
            clear_value x10
            refine Kept.step ?_ (State.loadFailed_kept _ _ _)
            refine Kept.step ?_ (State.shardFail_kept _ _ _ _ _ _ _ _ _)
            exact h10
      · extract_lets +onlyGivenNames -merge -underBinder x11
        extract_lets +onlyGivenNames -merge -underBinder x12
        extract_lets +onlyGivenNames -merge -underBinder x13
        extract_lets +onlyGivenNames -merge -underBinder x14
        extract_lets +onlyGivenNames -merge -underBinder x15
        extract_lets +onlyGivenNames -merge -underBinder x16
        extract_lets +onlyGivenNames -merge -underBinder x17
        extract_lets +onlyGivenNames -merge -underBinder x18
        split
        next y19 q19 =>
          have h19 : Kept 0x3272000737f38 s y19 := Kept.snd q19 (by
            refine Kept.step ?_ (State.tryCopies_kept _ _ _ _ _ _ _ _ _ _ _ _ _)
            exact Kept.refl _ _)
          extract_lets +onlyGivenNames -merge -underBinder x20
          split
          ·
            refine Kept.step ?_ (State.loadInlay_kept _ _ _ _ _ _)
            exact h19
          ·
            refine Kept.step ?_ (State.resumeTile_kept _ _ _)
            refine Kept.step ?_ (State.orMirror_kept _ _ _ _)
            exact h19
          ·
            refine Kept.step ?_ (State.askTry_kept _ _ _ _)
            exact h19

theorem State.loadPlane_kept : ∀ s a1 a2 a3, Kept 0x3272000737f38 s (State.loadPlane s a1 a2 a3) := by
  intro s a1 a2 a3
  unfold State.loadPlane
  refine Kept.step ?_ (State.loadFrom_kept _ _ _ _ _ _)
  refine Kept.step ?_ (State.claimLoad_kept _ _ _)
  exact Kept.refl _ _

theorem State.restoreDisplaced_kept : ∀ s a1, Kept 0x3272000737f38 s (State.restoreDisplaced s a1) := by
  intro s a1
  unfold State.restoreDisplaced
  extract_lets +onlyGivenNames -merge -underBinder x1
  split
  ·
    exact Kept.refl _ _
  ·
    refine Kept.ite ?_ ?_
    · extract_lets +onlyGivenNames -merge -underBinder x2
      extract_lets +onlyGivenNames -merge -underBinder x3 x4
      refine Kept.ite ?_ ?_
      · refine Kept.step ?_ (State.claimBank_kept _ _ _)
        unfold x2
        refine Kept.step ?_ (State.modLathe_kept _ _ _)
        exact Kept.refl _ _
      · split
        ·
          refine Kept.step ?_ (State.loadPlane_kept _ _ _ _)
          unfold x2
          refine Kept.step ?_ (State.modLathe_kept _ _ _)
          exact Kept.refl _ _
        ·
          exact Kept.refl _ _
        ·
          refine Kept.step ?_ (State.faultAbort_kept _ _ _ _ _)
          unfold x2
          refine Kept.step ?_ (State.modLathe_kept _ _ _)
          exact Kept.refl _ _
        ·
          refine Kept.step ?_ (State.faultAbort_kept _ _ _ _ _)
          refine Kept.step ?_ (State.shardEvent_kept _ _ _ _ _ _ _ _)
          unfold x2
          refine Kept.step ?_ (State.modLathe_kept _ _ _)
          exact Kept.refl _ _
    · exact Kept.refl _ _

theorem State.settleBank_kept : ∀ s a1, Kept 0x3272000737f38 s (State.settleBank s a1) := by
  intro s a1
  unfold State.settleBank
  extract_lets +onlyGivenNames -merge -underBinder x1
  extract_lets +onlyGivenNames -merge -underBinder x2
  have h2 : Kept 0x3272000737f38 s x2 := by
    unfold x2
    refine Kept.ite ?_ ?_
    · refine Kept.step ?_ (State.powerAdcs_kept _ _)
      refine Kept.step ?_ (State.modLathe_kept _ _ _)
      exact Kept.refl _ _
    · exact Kept.refl _ _
  clear_value x2
  refine Kept.step ?_ (State.restoreDisplaced_kept _ _)
  exact h2

theorem State.resumeLoad_kept : ∀ s a1, Kept 0x3272000737f38 s (State.resumeLoad s a1) := by
  intro s a1
  unfold State.resumeLoad
  split
  ·
    exact Kept.refl _ _
  ·
    refine Kept.ite ?_ ?_
    · refine Kept.ite ?_ ?_
      · exact Kept.refl _ _
      · refine Kept.ite ?_ ?_
        · refine Kept.step ?_ (State.inlayFrom_kept _ _ _ _ _ _ _ _ _)
          refine Kept.step ?_ (State.setWait_kept _ _ _)
          exact Kept.refl _ _
        · refine Kept.step ?_ (State.loadFrom_kept _ _ _ _ _ _)
          refine Kept.step ?_ (State.setWait_kept _ _ _)
          exact Kept.refl _ _
    · refine Kept.ite ?_ ?_
      · refine Kept.step ?_ (State.resumeInlay_kept _ _ _)
        exact Kept.refl _ _
      · refine Kept.step ?_ (State.resumeTile_kept _ _ _)
        exact Kept.refl _ _

theorem State.writePieces_kept : ∀ s a1 a2, Kept 0x262000402038 s (State.writePieces s a1 a2) := by
  intro s im ps
  unfold State.writePieces
  refine Kept.fold (fun (x : State × Nat) => x.1) (Kept.refl _ _) ?_
  intro y a h
  exact Kept.step h (State.writeFor_kept _ _ _ _ _ _ _)

theorem State.refreshBank_kept : ∀ s a1, Kept 0x10000100108 s (State.refreshBank s a1) := by
  intro s a1
  unfold State.refreshBank
  extract_lets +onlyGivenNames -merge -underBinder x1
  extract_lets +onlyGivenNames -merge -underBinder x2
  extract_lets +onlyGivenNames -merge -underBinder x3
  have h3 : Kept 0x10000100108 s x3 := by
    unfold x3
    refine Kept.step ?_ (State.dropMirror_kept _ _)
    refine Kept.step ?_ (State.modLathe_kept _ _ _)
    exact Kept.refl _ _
  clear_value x3
  refine Kept.step ?_ (State.bump_kept _ _ _)
  refine Kept.step ?_ (State.claimBank_kept _ _ _)
  exact h3

end Sys2Proof.Machine
end

