-- ==== Sys2Proof/Laws/FrameHistory.lean ====
section
/-! SUPPORT. What each operation of `Machine/History.lean` may change: one lemma each, the parts it may change as a mask of `Part.no` bits. -/
set_option linter.unusedVariables false
set_option Elab.async false
namespace Sys2Proof.Machine

theorem State.replaced_kept : ∀ s a1 a2 a3 a4, Kept 0x2000000 s (State.replaced s a1 a2 a3 a4) := by
  intro s a1 a2 a3 a4
  unfold State.replaced
  extract_lets +onlyGivenNames -merge -underBinder x1
  refine Kept.step ?_ (State.touchHist_kept _ _ _)
  exact Kept.refl _ _

theorem State.askCal_kept : ∀ s a1 a2 a3 a4 a5, Kept 0x40000100 s (State.askCal s a1 a2 a3 a4 a5) := by
  intro s a1 a2 a3 a4 a5
  unfold State.askCal
  extract_lets +onlyGivenNames -merge -underBinder x1
  extract_lets +onlyGivenNames -merge -underBinder x2
  refine Kept.ite ?_ ?_
  · refine Kept.ite ?_ ?_
    · exact Kept.refl _ _
    · refine Kept.step ?_ (State.setCal_kept _ _ _)
      exact Kept.refl _ _
  · refine Kept.step ?_ (State.setCal_kept _ _ _)
    refine Kept.foldl ?_ (fun _ _ h3 => ?_)
    · exact Kept.refl _ _
    · refine Kept.step ?_ (State.quiesce_kept _ _ _ _)
      exact h3

end Sys2Proof.Machine
end

