-- ==== Sys2Proof/Laws/FrameStrokeOps.lean ====
section
/-! SUPPORT. What each operation of `Machine/StrokeOps.lean` may change: one lemma each, the parts it may change as a mask of `Part.no` bits. -/
set_option linter.unusedVariables false
set_option Elab.async false
namespace Sys2Proof.Machine

theorem State.guardSyms_kept : ∀ s a1, Kept 0x108 s (State.guardSyms s a1) := by
  intro s a1
  unfold State.guardSyms
  split
  ·
    extract_lets +onlyGivenNames -merge -underBinder x1
    have h1 : Kept 0x108 s x1 := by
      unfold x1
      refine Kept.step ?_ (State.countIdle_kept _ _)
      refine Kept.step ?_ (State.modLathe_kept _ _ _)
      exact Kept.refl _ _
    clear_value x1
    refine Kept.step ?_ (State.addSym_kept _ _ _ _ _)
    exact h1
  ·
    refine Kept.step ?_ (State.addSym_kept _ _ _ _ _)
    refine Kept.step ?_ (State.countIdle_kept _ _)
    exact Kept.refl _ _

theorem State.switchGuard_kept : ∀ s a1, Kept 0x108 s (State.switchGuard s a1) := by
  intro s a1
  unfold State.switchGuard
  refine Kept.step ?_ (State.guardSyms_kept _ _)
  refine Kept.step ?_ (State.switchBank_kept _ _)
  refine Kept.step ?_ (State.countIdle_kept _ _)
  exact Kept.refl _ _

theorem State.switchNew_kept : ∀ s a1, Kept 0x108 s (State.switchNew s a1) := by
  intro s a1
  unfold State.switchNew
  refine Kept.step ?_ (State.modLathe_kept _ _ _)
  refine Kept.step ?_ (State.switchGuard_kept _ _)
  exact Kept.refl _ _

theorem State.settleRun_kept : ∀ s a1 a2 a3, Kept 0x400 s (State.settleRun s a1 a2 a3) := by
  intro s a1 a2 a3
  unfold State.settleRun
  refine Kept.step ?_ (State.settleStage_kept _ _)
  exact Kept.refl _ _

theorem State.lessVerdict_kept : ∀ s a1 a2, Kept 0x200 s (State.lessVerdict s a1 a2) := by
  intro s a1 a2
  unfold State.lessVerdict
  refine Kept.ite ?_ ?_
  · refine Kept.step ?_ (State.modGroup_kept _ _ _ _)
    exact Kept.refl _ _
  · exact Kept.refl _ _

theorem State.earlyPoison_kept : ∀ s a1 a2 a3, Kept 0x2252000727f38 s (State.earlyPoison s a1 a2 a3) := by
  intro s a1 a2 a3
  unfold State.earlyPoison
  extract_lets +onlyGivenNames -merge -underBinder x1
  have h1 : Kept 0x2252000727f38 s x1 := by
    unfold x1
    refine Kept.step ?_ (State.bump_kept _ _ _)
    refine Kept.step ?_ (State.poisonGlobal_kept _ _ _ _ _ _ _)
    exact Kept.refl _ _
  clear_value x1
  extract_lets +onlyGivenNames -merge -underBinder x2
  have h2 : Kept 0x2252000727f38 s x2 := by
    unfold x2
    refine Kept.ite ?_ ?_
    · refine Kept.step ?_ (State.poisonGroup_kept _ _ _)
      exact h1
    · exact h1
  clear_value x2
  refine Kept.step ?_ (State.post_kept _ _ _ _ _ _)
  exact h2

theorem State.settleRelive_kept : ∀ s a1, Kept 0x108 s (State.settleRelive s a1) := by
  intro s a1
  unfold State.settleRelive
  extract_lets +onlyGivenNames -merge -underBinder x1
  refine Kept.ite ?_ ?_
  · refine Kept.foldl ?_ (fun _ _ h2 => ?_)
    · exact Kept.refl _ _
    · refine Kept.step ?_ (State.switchGuard_kept _ _)
      exact h2
  · exact Kept.refl _ _

theorem State.writeReplayPlane_kept : ∀ s a1 a2 a3, Kept 0x252000100108 s (State.writeReplayPlane s a1 a2 a3).2 := by
  intro s a1 a2 a3
  unfold State.writeReplayPlane
  extract_lets +onlyGivenNames -merge -underBinder x1
  split
  next y2 q2 =>
    have h2 : Kept 0x252000100108 s y2 := Kept.snd q2 (by
      refine Kept.step ?_ (State.readPieces_kept _ _ _ _)
      exact Kept.refl _ _)
    extract_lets +onlyGivenNames -merge -underBinder x3
    refine Kept.ite2 ?_ ?_
    · dsimp only
      exact h2
    · extract_lets +onlyGivenNames -merge -underBinder x4
      extract_lets +onlyGivenNames -merge -underBinder x5
      extract_lets +onlyGivenNames -merge -underBinder x6
      have h6 : Kept 0x252000100108 s x6 := by
        unfold x6
        refine Kept.step ?_ (State.dropMirror_kept _ _)
        refine Kept.step ?_ (State.modLathe_kept _ _ _)
        exact h2
      clear_value x6
      extract_lets +onlyGivenNames -merge -underBinder x7
      extract_lets +onlyGivenNames -merge -underBinder x8
      have h8 : Kept 0x252000100108 s x8 := by
        unfold x8
        refine Kept.step ?_ (State.modLathe_kept _ _ _)
        exact h6
      clear_value x8
      dsimp only
      refine Kept.step ?_ (State.bump_kept _ _ _)
      refine Kept.step ?_ (State.claimBank_kept _ _ _)
      exact h8

theorem State.switchReplay_kept : ∀ s a1, Kept 0x108 s (State.switchReplay s a1) := by
  intro s a1
  unfold State.switchReplay
  extract_lets +onlyGivenNames -merge -underBinder x1
  extract_lets +onlyGivenNames -merge -underBinder x2
  extract_lets +onlyGivenNames -merge -underBinder x3 x4 x5
  refine Kept.step ?_ (State.modLathe_kept _ _ _)
  refine Kept.step ?_ (State.switchGuard_kept _ _)
  exact Kept.refl _ _

theorem State.matesSwitch_kept : ∀ s a1, Kept 0x108 s (State.matesSwitch s a1) := by
  intro s a1
  unfold State.matesSwitch
  extract_lets +onlyGivenNames -merge -underBinder x1
  refine Kept.ite ?_ ?_
  · refine Kept.foldl ?_ (fun _ _ h2 => ?_)
    · exact Kept.refl _ _
    · refine Kept.step ?_ (State.switchNew_kept _ _)
      exact h2
  · refine Kept.foldl ?_ (fun _ _ h3 => ?_)
    · exact Kept.refl _ _
    · refine Kept.ite ?_ ?_
      · refine Kept.step ?_ (State.guardSyms_kept _ _)
        exact h3
      · exact h3

theorem State.runGuards_kept : ∀ s a1, Kept 0x108 s (State.runGuards s a1) := by
  intro s a1
  unfold State.runGuards
  extract_lets +onlyGivenNames -merge -underBinder x1
  split
  ·
    exact Kept.refl _ _
  ·
    refine Kept.foldl ?_ (fun _ _ h2 => ?_)
    · exact Kept.refl _ _
    · refine Kept.ite ?_ ?_
      · refine Kept.step ?_ (State.guardSyms_kept _ _)
        exact h2
      · exact h2
  ·
    refine Kept.step ?_ (State.matesSwitch_kept _ _)
    refine Kept.foldl ?_ (fun _ _ h3 => ?_)
    · exact Kept.refl _ _
    · refine Kept.step ?_ (State.switchReplay_kept _ _)
      exact h3
  ·
    refine Kept.foldl ?_ (fun _ _ h4 => ?_)
    · exact Kept.refl _ _
    · refine Kept.step ?_ (State.switchGuard_kept _ _)
      exact h4
  ·
    refine Kept.foldl ?_ (fun _ _ h5 => ?_)
    · exact Kept.refl _ _
    · refine Kept.step ?_ (State.switchNew_kept _ _)
      exact h5

theorem State.groupMisuse_kept : ∀ s a1 a2 a3 a4 a5 a6, Kept 0x252000503f38 s (State.groupMisuse s a1 a2 a3 a4 a5 a6) := by
  intro s a1 a2 a3 a4 a5 a6
  unfold State.groupMisuse
  refine Kept.step ?_ (State.faultAbort_kept _ _ _ _ _)
  refine Kept.step ?_ (State.post_kept _ _ _ _ _ _)
  exact Kept.refl _ _

theorem State.admitGroup_kept : ∀ s a1 a2 a3 a4 a5, Kept 0x308 s (State.admitGroup s a1 a2 a3 a4 a5) := by
  intro s a1 a2 a3 a4 a5
  unfold State.admitGroup
  extract_lets +onlyGivenNames -merge -underBinder x1
  extract_lets +onlyGivenNames -merge -underBinder x2 x3
  have h3 : Kept 0x308 s x3 := by
    unfold x3
    refine Kept.ite ?_ ?_
    · refine Kept.step ?_ (State.modLathe_kept _ _ _)
      refine Kept.step ?_ (State.setGroup_kept _ _ _ _)
      unfold x2
      refine Kept.foldl ?_ (fun _ _ h4 => ?_)
      · exact Kept.refl _ _
      · refine Kept.ite ?_ ?_
        · refine Kept.step ?_ (State.wr_kept _ _ _)
          exact h4
        · exact h4
    · refine Kept.step ?_ (State.setGroup_kept _ _ _ _)
      exact Kept.refl _ _
  clear_value x3
  refine Kept.step ?_ (State.modGroup_kept _ _ _ _)
  exact h3

theorem State.moreVerdict_kept : ∀ s a1 a2, Kept 0x200 s (State.moreVerdict s a1 a2) := by
  intro s a1 a2
  unfold State.moreVerdict
  refine Kept.ite ?_ ?_
  · refine Kept.step ?_ (State.modGroup_kept _ _ _ _)
    exact Kept.refl _ _
  · exact Kept.refl _ _

end Sys2Proof.Machine
end

