-- ==== Sys2Proof/Laws/FrameServiceOps.lean ====
section
/-! SUPPORT. What each operation of `Machine/ServiceOps.lean` may change: one lemma each, the parts it may change as a mask of `Part.no` bits. -/
set_option linter.unusedVariables false
set_option Elab.async false
namespace Sys2Proof.Machine

theorem State.joinSlots_kept : ∀ s a1, Kept 0x40000000 s (State.joinSlots s a1) := by
  intro s a1
  unfold State.joinSlots
  refine Kept.step ?_ (State.modCal_kept _ _ _)
  exact Kept.refl _ _

theorem State.lastGuard_kept : ∀ s a1, Kept 0x108 s (State.lastGuard s a1) := by
  intro s a1
  unfold State.lastGuard
  refine Kept.ite ?_ ?_
  · refine Kept.step ?_ (State.guardSyms_kept _ _)
    exact Kept.refl _ _
  · refine Kept.step ?_ (State.countIdle_kept _ _)
    exact Kept.refl _ _

theorem State.toCal_kept : ∀ s a1, Kept 0x242000000108 s (State.toCal s a1) := by
  intro s a1
  unfold State.toCal
  extract_lets +onlyGivenNames -merge -underBinder x1
  split
  ·
    refine Kept.step ?_ (State.oosEvent_kept _ _ _)
    refine Kept.step ?_ (State.modLathe_kept _ _ _)
    refine Kept.step ?_ (State.lastGuard_kept _ _)
    exact Kept.refl _ _
  ·
    refine Kept.step ?_ (State.modLathe_kept _ _ _)
    exact Kept.refl _ _
  ·
    refine Kept.step ?_ (State.modLathe_kept _ _ _)
    exact Kept.refl _ _

theorem State.enterCal_kept : ∀ s a1, Kept 0x242040000108 s (State.enterCal s a1) := by
  intro s a1
  unfold State.enterCal
  extract_lets +onlyGivenNames -merge -underBinder x1
  refine Kept.ite ?_ ?_
  · refine Kept.step ?_ (State.joinSlots_kept _ _)
    refine Kept.foldl ?_ (fun _ _ h2 => ?_)
    · exact Kept.refl _ _
    · refine Kept.step ?_ (State.toCal_kept _ _)
      exact h2
  · refine Kept.ite ?_ ?_
    · refine Kept.foldl ?_ (fun _ _ h3 => ?_)
      · exact Kept.refl _ _
      · refine Kept.ite ?_ ?_
        · refine Kept.step ?_ (State.modLathe_kept _ _ _)
          exact h3
        · refine Kept.step ?_ (State.quiesce_kept _ _ _ _)
          exact h3
    · exact Kept.refl _ _

theorem State.tryService_kept : ∀ s a1, Kept 0x242040000108 s (State.tryService s a1) := by
  intro s a1
  unfold State.tryService
  refine Kept.ite ?_ ?_
  · split
    next y1 q1 =>
      have h1 : Kept 0x242040000108 s y1 := Kept.snd q1 (by
        refine Kept.step ?_ (State.checkMaps_kept _ _)
        exact Kept.refl _ _)
      refine Kept.step ?_ (State.modLathe_kept _ _ _)
      exact h1
    next y2 q2 =>
      have h2 : Kept 0x242040000108 s y2 := Kept.snd q2 (by
        refine Kept.step ?_ (State.checkMaps_kept _ _)
        exact Kept.refl _ _)
      refine Kept.ite ?_ ?_
      · refine Kept.step ?_ (State.enterCal_kept _ _)
        exact h2
      · refine Kept.step ?_ (State.enterService_kept _ _)
        exact h2
  · exact Kept.refl _ _

theorem State.tryServices_kept : ∀ s a1, Kept 0x242040000108 s (State.tryServices s a1) := by
  intro s a1
  unfold State.tryServices
  refine Kept.foldl ?_ (fun _ _ h1 => ?_)
  · exact Kept.refl _ _
  · refine Kept.step ?_ (State.tryService_kept _ _)
    exact h1

end Sys2Proof.Machine
end

