-- ==== Sys2Proof/Laws/FrameLoopOps.lean ====
section
/-! SUPPORT. What each operation of `Machine/LoopOps.lean` may change: one lemma each, the parts it may change as a mask of `Part.no` bits. -/
set_option linter.unusedVariables false
set_option Elab.async false
namespace Sys2Proof.Machine

theorem State.enterRun_kept : ∀ s a1 a2, Kept 0x18000008 s (State.enterRun s a1 a2) := by
  intro s a1 a2
  unfold State.enterRun
  refine Kept.ite ?_ ?_
  · exact Kept.refl _ _
  · extract_lets +onlyGivenNames -merge -underBinder x1 x2
    extract_lets +onlyGivenNames -merge -underBinder x3
    have h3 : Kept 0x18000008 s x3 := by
      unfold x3
      refine Kept.step ?_ (State.bump_kept _ _ _)
      refine Kept.step ?_ (State.setLoop_kept _ _ _)
      exact Kept.refl _ _
    clear_value x3
    refine Kept.step ?_ (State.modTrim_kept _ _ _)
    exact h3

theorem State.renameLoops_kept : ∀ s a1, Kept 0x18000008 s (State.renameLoops s a1) := by
  intro s a1
  unfold State.renameLoops
  refine Kept.ite ?_ ?_
  · exact Kept.refl _ _
  · refine Kept.foldl ?_ (fun _ _ h1 => ?_)
    · exact Kept.refl _ _
    · extract_lets +onlyGivenNames -merge -underBinder x2
      split
      ·
        refine Kept.ite ?_ ?_
        · exact h1
        · refine Kept.step ?_ (State.modLoop_kept _ _ _)
          exact h1
      ·
        refine Kept.ite ?_ ?_
        · refine Kept.step ?_ (State.enterRun_kept _ _ _)
          exact h1
        · exact h1
      ·
        exact h1

theorem State.present_kept : ∀ s a1 a2, Kept 0x10000008 s (State.present s a1 a2) := by
  intro s a1 a2
  unfold State.present
  extract_lets +onlyGivenNames -merge -underBinder x1 x2
  refine Kept.ite ?_ ?_
  · refine Kept.step ?_ (State.setTrim_kept _ _ _)
    exact Kept.refl _ _
  · refine Kept.ite ?_ ?_
    · refine Kept.step ?_ (State.setTrim_kept _ _ _)
      exact Kept.refl _ _
    · refine Kept.ite ?_ ?_
      · refine Kept.step ?_ (State.bump_kept _ _ _)
        refine Kept.step ?_ (State.setTrim_kept _ _ _)
        exact Kept.refl _ _
      · refine Kept.step ?_ (State.setTrim_kept _ _ _)
        exact Kept.refl _ _

theorem State.setCode_kept : ∀ s a1 a2, Kept 0x10000008 s (State.setCode s a1 a2) := by
  intro s a1 a2
  unfold State.setCode
  refine Kept.step ?_ (State.present_kept _ _ _)
  refine Kept.step ?_ (State.modTrim_kept _ _ _)
  refine Kept.step ?_ (State.bump_kept _ _ _)
  exact Kept.refl _ _

theorem State.thawed_kept : ∀ s a1, Kept 0x242040000108 s (State.thawed s a1) := by
  intro s a1
  unfold State.thawed
  extract_lets +onlyGivenNames -merge -underBinder x1
  refine Kept.ite ?_ ?_
  · refine Kept.step ?_ (State.tryService_kept _ _)
    refine Kept.step ?_ (State.modLathe_kept _ _ _)
    exact Kept.refl _ _
  · exact Kept.refl _ _

theorem State.switchStandby_kept : ∀ s a1 a2, Kept 0x2000008 s (State.switchStandby s a1 a2) := by
  intro s a1 a2
  unfold State.switchStandby
  extract_lets +onlyGivenNames -merge -underBinder x1
  have h1 : Kept 0x2000008 s x1 := by
    unfold x1
    refine Kept.step ?_ (State.wf_kept _ _ _ _)
    refine Kept.step ?_ (State.wf_kept _ _ _ _)
    exact Kept.refl _ _
  clear_value x1
  refine Kept.step ?_ (State.replaced_kept _ _ _ _ _)
  exact h1

theorem State.suspectLaser_kept : ∀ s a1 a2, Kept 0x2252000727f38 s (State.suspectLaser s a1 a2) := by
  intro s a1 a2
  unfold State.suspectLaser
  extract_lets +onlyGivenNames -merge -underBinder x1
  extract_lets +onlyGivenNames -merge -underBinder x2
  extract_lets +onlyGivenNames -merge -underBinder x3
  refine Kept.foldl ?_ (fun _ _ h4 => ?_)
  · exact Kept.refl _ _
  · extract_lets +onlyGivenNames -merge -underBinder x5
    have h5 : Kept 0x2252000727f38 s x5 := by
      unfold x5
      refine Kept.step ?_ (State.suspect_kept _ _ _)
      exact h4
    clear_value x5
    split
    ·
      extract_lets +onlyGivenNames -merge -underBinder x6
      have h6 : Kept 0x2252000727f38 s x6 := by
        unfold x6
        refine Kept.step ?_ (State.bump_kept _ _ _)
        refine Kept.step ?_ (State.earlyPoison_kept _ _ _ _)
        exact h5
      clear_value x6
      refine Kept.step ?_ (State.post_kept _ _ _ _ _ _)
      exact h6
    ·
      exact h5

theorem State.reinit_kept : ∀ s a1, Kept 0x8000000 s (State.reinit s a1) := by
  intro s a1
  unfold State.reinit
  refine Kept.ite ?_ ?_
  · refine Kept.step ?_ (State.modLoop_kept _ _ _)
    exact Kept.refl _ _
  · exact Kept.refl _ _

theorem State.pushCode_kept : ∀ s a1 a2, Kept 0x242010000008 s (State.pushCode s a1 a2) := by
  intro s a1 a2
  unfold State.pushCode
  extract_lets +onlyGivenNames -merge -underBinder x1
  extract_lets +onlyGivenNames -merge -underBinder x2
  refine Kept.ite ?_ ?_
  · refine Kept.step ?_ (State.bump_kept _ _ _)
    exact Kept.refl _ _
  · refine Kept.ite ?_ ?_
    · refine Kept.step ?_ (State.setTrim_kept _ _ _)
      exact Kept.refl _ _
    · extract_lets +onlyGivenNames -merge -underBinder x3
      have h3 : Kept 0x242010000008 s x3 := by
        unfold x3
        refine Kept.step ?_ (State.bump_kept _ _ _)
        refine Kept.step ?_ (State.bump_kept _ _ _)
        refine Kept.step ?_ (State.setTrim_kept _ _ _)
        exact Kept.refl _ _
      clear_value x3
      split
      next y4 q4 =>
        have h4 : Kept 0x242010000008 s y4 := Kept.snd q4 (by
          refine Kept.step ?_ (State.limit_kept _ _ _ _ _ _ _)
          exact h3)
        refine Kept.step ?_ (State.post_kept _ _ _ _ _ _)
        exact h4
      next y5 q5 =>
        have h5 : Kept 0x242010000008 s y5 := Kept.snd q5 (by
          refine Kept.step ?_ (State.limit_kept _ _ _ _ _ _ _)
          exact h3)
        exact h5

theorem State.clearChannel_kept : ∀ s a1, Kept 0x10000000 s (State.clearChannel s a1) := by
  intro s a1
  unfold State.clearChannel
  refine Kept.step ?_ (State.modTrim_kept _ _ _)
  exact Kept.refl _ _

theorem State.freeze_kept : ∀ s a1 a2, Kept 0x225211a727f38 s (State.freeze s a1 a2) := by
  intro s a1 a2
  unfold State.freeze
  extract_lets +onlyGivenNames -merge -underBinder x1
  extract_lets +onlyGivenNames -merge -underBinder x2
  extract_lets +onlyGivenNames -merge -underBinder x3
  split
  ·
    extract_lets +onlyGivenNames -merge -underBinder x4
    have h4 : Kept 0x225211a727f38 s x4 := by
      unfold x4
      refine Kept.step ?_ (State.bump_kept _ _ _)
      refine Kept.step ?_ (State.setLoop_kept _ _ _)
      exact Kept.refl _ _
    clear_value x4
    extract_lets +onlyGivenNames -merge -underBinder x5
    have h5 : Kept 0x225211a727f38 s x5 := by
      unfold x5
      refine Kept.step ?_ (State.histEvent_kept _ _ _ _)
      refine Kept.step ?_ (State.present_kept _ _ _)
      exact h4
    clear_value x5
    extract_lets +onlyGivenNames -merge -underBinder x6
    have h6 : Kept 0x225211a727f38 s x6 := by
      unfold x6
      refine Kept.step ?_ (State.post_kept _ _ _ _ _ _)
      exact h5
    clear_value x6
    split
    ·
      refine Kept.step ?_ (State.leaveNow_kept _ _ _ _)
      exact h6
    ·
      refine Kept.step ?_ (State.modLathe_kept _ _ _)
      exact h6
    ·
      exact h6

theorem State.settleLoop_kept : ∀ s a1, Kept 0x225211a727f38 s (State.settleLoop s a1) := by
  intro s a1
  unfold State.settleLoop
  extract_lets +onlyGivenNames -merge -underBinder x1
  extract_lets +onlyGivenNames -merge -underBinder x2
  refine Kept.ite ?_ ?_
  · refine Kept.ite ?_ ?_
    · exact Kept.refl _ _
    · refine Kept.step ?_ (State.modLoop_kept _ _ _)
      exact Kept.refl _ _
  · split
    ·
      refine Kept.ite ?_ ?_
      · refine Kept.step ?_ (State.enterRun_kept _ _ _)
        exact Kept.refl _ _
      · refine Kept.step ?_ (State.modLoop_kept _ _ _)
        exact Kept.refl _ _
    ·
      refine Kept.ite ?_ ?_
      · refine Kept.step ?_ (State.enterRun_kept _ _ _)
        exact Kept.refl _ _
      · refine Kept.step ?_ (State.modLoop_kept _ _ _)
        exact Kept.refl _ _
    ·
      refine Kept.ite ?_ ?_
      · refine Kept.step ?_ (State.freeze_kept _ _ _)
        exact Kept.refl _ _
      · refine Kept.ite ?_ ?_
        · exact Kept.refl _ _
        · refine Kept.step ?_ (State.modLoop_kept _ _ _)
          exact Kept.refl _ _
    ·
      exact Kept.refl _ _

end Sys2Proof.Machine
end

