-- ==== Sys2Proof/Laws/FrameChecker.lean ====
section
/-! SUPPORT. What each operation of `Machine/Checker.lean` may change: one lemma each, the parts it may change as a mask of `Part.no` bits. -/
set_option linter.unusedVariables false
set_option Elab.async false
namespace Sys2Proof.Machine

theorem State.guardReplay_kept : ∀ s a1, Kept 0x108 s (State.guardReplay s a1) := by
  intro s a1
  unfold State.guardReplay
  extract_lets +onlyGivenNames -merge -underBinder x1
  extract_lets +onlyGivenNames -merge -underBinder x2
  extract_lets +onlyGivenNames -merge -underBinder x3
  refine Kept.ite ?_ ?_
  · refine Kept.foldl ?_ (fun _ _ h4 => ?_)
    · exact Kept.refl _ _
    · refine Kept.ite ?_ ?_
      · refine Kept.step ?_ (State.switchNew_kept _ _)
        exact h4
      · refine Kept.ite ?_ ?_
        · refine Kept.step ?_ (State.guardSyms_kept _ _)
          exact h4
        · exact h4
  · refine Kept.foldl ?_ (fun _ _ h5 => ?_)
    · exact Kept.refl _ _
    · refine Kept.ite ?_ ?_
      · refine Kept.step ?_ (State.switchGuard_kept _ _)
        exact h5
      · refine Kept.ite ?_ ?_
        · refine Kept.step ?_ (State.guardSyms_kept _ _)
          exact h5
        · exact h5

theorem State.endReplay_kept : ∀ s a1, Kept 0x108 s (State.endReplay s a1) := by
  intro s a1
  unfold State.endReplay
  split
  ·
    exact Kept.refl _ _
  ·
    extract_lets +onlyGivenNames -merge -underBinder x1
    have h1 : Kept 0x108 s x1 := by
      unfold x1
      refine Kept.foldl ?_ (fun _ _ h2 => ?_)
      · exact Kept.refl _ _
      · extract_lets +onlyGivenNames -merge -underBinder x3
        have h3 : Kept 0x108 s x3 := by
          unfold x3
          refine Kept.step ?_ (State.addSym_kept _ _ _ _ _)
          refine Kept.step ?_ (State.countShown_kept _ _ _ _)
          exact h2
        clear_value x3
        refine Kept.step ?_ (State.modLathe_kept _ _ _)
        exact h3
    clear_value x1
    extract_lets +onlyGivenNames -merge -underBinder x4
    have h4 : Kept 0x108 s x4 := by
      unfold x4
      refine Kept.step ?_ (State.modLathe_kept _ _ _)
      exact h1
    clear_value x4
    refine Kept.ite ?_ ?_
    · exact h4
    · refine Kept.step ?_ (State.guardReplay_kept _ _)
      exact h4

theorem State.arbEvent_kept : ∀ s a1 a2 a3 a4 a5 a6 a7 a8 a9, Kept 0x242000000008 s (State.arbEvent s a1 a2 a3 a4 a5 a6 a7 a8 a9) := by
  intro s a1 a2 a3 a4 a5 a6 a7 a8 a9
  unfold State.arbEvent
  extract_lets +onlyGivenNames -merge -underBinder x1
  extract_lets +onlyGivenNames -merge -underBinder x2
  extract_lets +onlyGivenNames -merge -underBinder x3
  refine Kept.ite ?_ ?_
  · refine Kept.step ?_ (State.postLim_kept _ _ _ _ _ _ _ _ _ _)
    exact Kept.refl _ _
  · refine Kept.step ?_ (State.post_kept _ _ _ _ _ _)
    exact Kept.refl _ _

theorem State.unarbitrated_kept : ∀ s a1 a2 a3 a4, Kept 0x242000000608 s (State.unarbitrated s a1 a2 a3 a4) := by
  intro s a1 a2 a3 a4
  unfold State.unarbitrated
  extract_lets +onlyGivenNames -merge -underBinder x1
  have h1 : Kept 0x242000000608 s x1 := by
    unfold x1
    refine Kept.ite ?_ ?_
    · refine Kept.step ?_ (State.poisonGroup_kept _ _ _)
      exact Kept.refl _ _
    · exact Kept.refl _ _
  clear_value x1
  extract_lets +onlyGivenNames -merge -underBinder x2
  have h2 : Kept 0x242000000608 s x2 := by
    unfold x2
    refine Kept.foldl ?_ (fun _ _ h3 => ?_)
    · exact h1
    · refine Kept.step ?_ (State.arbEvent_kept _ _ _ _ _ _ _ _ _ _)
      refine Kept.step ?_ (State.bump_kept _ _ _)
      exact h3
  clear_value x2
  refine Kept.step ?_ (State.settleRun_kept _ _ _ _)
  refine Kept.step ?_ (State.lessVerdict_kept _ _ _)
  exact h2

theorem State.arbsOver_kept : ∀ s a1, Kept 0x3272000737f38 s (State.arbsOver s a1) := by
  intro s a1
  unfold State.arbsOver
  refine Kept.ite ?_ ?_
  · refine Kept.step ?_ (State.settleRelive_kept _ _)
    refine Kept.foldl ?_ (fun _ _ h1 => ?_)
    · exact Kept.refl _ _
    · refine Kept.step ?_ (State.settleBank_kept _ _)
      refine Kept.step ?_ (State.powerAdcs_kept _ _)
      exact h1
  · exact Kept.refl _ _

theorem State.dropReplay_kept : ∀ s a1, Kept 0x100 s (State.dropReplay s a1) := by
  intro s a1
  unfold State.dropReplay
  refine Kept.foldl ?_ (fun _ _ h1 => ?_)
  · exact Kept.refl _ _
  · refine Kept.ite ?_ ?_
    · refine Kept.step ?_ (State.modLathe_kept _ _ _)
      exact h1
    · exact h1

theorem State.writeReplayPlanes_kept : ∀ s a1 a2 a3, Kept 0x252000100108 s (State.writeReplayPlanes s a1 a2 a3).2 := by
  intro s a1 a2 a3
  unfold State.writeReplayPlanes
  split
  next y1 q1 =>
    have h1 : Kept 0x252000100108 s y1 := Kept.snd q1 (by
      refine Kept.step ?_ (State.writeReplayPlane_kept _ _ _ _)
      exact Kept.refl _ _)
    refine Kept.ite2 ?_ ?_
    · dsimp only
      exact h1
    · refine Kept.ite2 ?_ ?_
      · split
        ·
          refine Kept.step ?_ (State.writeReplayPlane_kept _ _ _ _)
          exact h1
        ·
          dsimp only
          exact h1
      · dsimp only
        exact h1

theorem State.suspectPoison_kept : ∀ s a1 a2 a3, Kept 0x2252100727f38 s (State.suspectPoison s a1 a2 a3) := by
  intro s a1 a2 a3
  unfold State.suspectPoison
  extract_lets +onlyGivenNames -merge -underBinder x1
  extract_lets +onlyGivenNames -merge -underBinder x2
  have h2 : Kept 0x2252100727f38 s x2 := by
    unfold x2
    refine Kept.ite ?_ ?_
    · refine Kept.step ?_ (State.poisonGroup_kept _ _ _)
      exact Kept.refl _ _
    · exact Kept.refl _ _
  clear_value x2
  extract_lets +onlyGivenNames -merge -underBinder x3
  have h3 : Kept 0x2252100727f38 s x3 := by
    unfold x3
    refine Kept.ite ?_ ?_
    · split
      ·
        refine Kept.step ?_ (State.earlyPoison_kept _ _ _ _)
        exact h2
      ·
        exact h2
    · exact h2
  clear_value x3
  refine Kept.step ?_ (State.post_kept _ _ _ _ _ _)
  refine Kept.step ?_ (State.modDip_kept _ _ _)
  refine Kept.step ?_ (State.bump_kept _ _ _)
  exact h3

theorem State.beginArbs_kept : ∀ s a1 a2, Kept 0x2252100727f38 s (State.beginArbs s a1 a2) := by
  intro s n k
  induction k generalizing s with
  | zero => exact Kept.refl _ _
  | succ k ih =>
    unfold State.beginArbs
    split
    · exact Kept.refl _ _
    next a rest e =>
      extract_lets +onlyGivenNames -merge -underBinder a1 s1
      have h0 : Kept 0x2252100727f38 s s1 := Kept.step (Kept.refl _ _) (State.modLathe_kept _ _ _)
      clear_value s1
      have h := Kept.step h0 (State.writeReplayPlanes_kept s1 n a1.stroke a1.spares)
      revert h
      generalize s1.writeReplayPlanes n a1.stroke a1.spares = u
      obtain ⟨b, t⟩ := u
      intro h
      replace h : Kept 0x2252100727f38 s t := h
      cases b
      · refine Kept.step ?_ (ih _)
        have h1 : Kept 0x2252100727f38 s ((t.dropReplay n).modLathe n fun l => { l with arbs := rest }) :=
          Kept.step (Kept.step h (State.dropReplay_kept _ _)) (State.modLathe_kept _ _ _)
        refine Kept.ite ?_ ?_
        · exact Kept.step (Kept.step h1 (State.suspectPoison_kept _ _ _ _)) (State.lessVerdict_kept _ _ _)
        · exact Kept.step h1 (State.unarbitrated_kept _ _ _ _ _)
      · exact h.mono (by decide)

theorem State.substCheck_kept : ∀ s a1 a2 a3 a4, Kept 0x24201a000108 s (State.substCheck s a1 a2 a3 a4) := by
  intro s a1 a2 a3 a4
  unfold State.substCheck
  extract_lets +onlyGivenNames -merge -underBinder x1
  extract_lets +onlyGivenNames -merge -underBinder x2
  have h2 : Kept 0x24201a000108 s x2 := by
    unfold x2
    refine Kept.foldl ?_ (fun _ _ h3 => ?_)
    · exact Kept.refl _ _
    · refine Kept.step ?_ (State.renameLoops_kept _ _)
      refine Kept.step ?_ (State.wf_kept _ _ _ _)
      exact h3
  clear_value x2
  refine Kept.step ?_ (State.post_kept _ _ _ _ _ _)
  refine Kept.step ?_ (State.replaced_kept _ _ _ _ _)
  refine Kept.step ?_ (State.powerAdcs_kept _ _)
  exact h2

theorem State.applyOutcome_kept : ∀ s a1 a2 a3 a4, Kept 0x24201a000108 s (State.applyOutcome s a1 a2 a3 a4) := by
  intro s a1 a2 a3 a4
  unfold State.applyOutcome
  extract_lets +onlyGivenNames -merge -underBinder x1
  extract_lets +onlyGivenNames -merge -underBinder x2
  split
  ·
    refine Kept.step ?_ (State.histEvent_kept _ _ _ _)
    exact Kept.refl _ _
  ·
    refine Kept.step ?_ (State.substCheck_kept _ _ _ _ _)
    refine Kept.step ?_ (State.histPermanent_kept _ _ _ _ _)
    exact Kept.refl _ _
  ·
    refine Kept.step ?_ (State.histPermanent_kept _ _ _ _ _)
    exact Kept.refl _ _
  ·
    extract_lets +onlyGivenNames -merge -underBinder x3
    have h3 : Kept 0x24201a000108 s x3 := by
      unfold x3
      refine Kept.step ?_ (State.histEvent_kept _ _ _ _)
      exact Kept.refl _ _
    clear_value x3
    refine Kept.ite ?_ ?_
    · refine Kept.step ?_ (State.substCheck_kept _ _ _ _ _)
      refine Kept.step ?_ (State.histPermanent_kept _ _ _ _ _)
      exact h3
    · refine Kept.ite ?_ ?_
      · refine Kept.step ?_ (State.histPermanent_kept _ _ _ _ _)
        exact h3
      · exact h3
  ·
    exact Kept.refl _ _

theorem State.finishArb_kept : ∀ s a1, Kept 0x3272102737f38 s (State.finishArb s a1) := by
  intro s a1
  unfold State.finishArb
  split
  ·
    exact Kept.refl _ _
  ·
    extract_lets +onlyGivenNames -merge -underBinder x1
    extract_lets +onlyGivenNames -merge -underBinder x2
    have h2 : Kept 0x3272102737f38 s x2 := by
      unfold x2
      refine Kept.step ?_ (State.modLathe_kept _ _ _)
      exact Kept.refl _ _
    clear_value x2
    extract_lets +onlyGivenNames -merge -underBinder x3
    have h3 : Kept 0x3272102737f38 s x3 := by
      unfold x3
      refine Kept.ite ?_ ?_
      · refine Kept.step ?_ (State.modGroup_kept _ _ _ _)
        exact h2
      · exact h2
    clear_value x3
    extract_lets +onlyGivenNames -merge -underBinder x4
    have h4 : Kept 0x3272102737f38 s x4 := by
      unfold x4
      refine Kept.step ?_ (State.lessVerdict_kept _ _ _)
      exact h3
    clear_value x4
    extract_lets +onlyGivenNames -merge -underBinder x5
    have h5 : Kept 0x3272102737f38 s x5 := by
      unfold x5
      refine Kept.ite ?_ ?_
      · exact h4
      · refine Kept.step ?_ (State.settleRun_kept _ _ _ _)
        exact h4
    clear_value x5
    refine Kept.step ?_ (State.arbsOver_kept _ _)
    refine Kept.step ?_ (State.settleDips_kept _)
    refine Kept.step ?_ (State.beginArbs_kept _ _ _)
    exact h5

theorem State.corSum_wf (s : State) (n : Nat) (a : Arb) (h1 : swf (fun _ => 0) s.accMem = true)
    (h2 : swf (fun _ => 0) s.chkMem = true) :
    swf (fun _ => 0) (s.corSum n a).1.mem = true ∧ swf (fun _ => 0) (s.corSum n a).2.1.mem = true := by
  unfold State.corSum
  extract_lets
  refine foldl_keeps (fun (u : AddSt × AddSt × Nat) => swf (fun _ => 0) u.1.mem = true ∧ swf (fun _ => 0) u.2.1.mem = true) ⟨h1, h2⟩ ?_
  intro y e hy
  refine foldl_keeps (fun (u : AddSt × AddSt × Nat) => swf (fun _ => 0) u.1.mem = true ∧ swf (fun _ => 0) u.2.1.mem = true) hy ?_
  intro z cg hz
  refine ⟨?_, addWord_swf _ _ _ _ _ _ _ hz.2⟩
  refine foldl_keeps (fun (u : AddSt × Nat) => swf (fun _ => 0) u.1.mem = true) hz.1 ?_
  intro w j hw
  exact addWord_swf _ _ _ _ _ _ _ hw
theorem State.correct_kept : ∀ s a1 a2, Kept 0x242000000348 s (State.correct s a1 a2) := by
  intro s n a
  unfold State.correct
  refine Kept.ite (Kept.refl _ _) ?_
  have hw := State.corSum_wf s n a
  revert hw
  generalize s.corSum n a = u
  intro hw
  have h : Kept 0x242000000348 s ({ s with accMem := u.1.mem, chkMem := u.2.1.mem } : State) := by
    refine (Kept.upd (Kept.refl _ _) (hk := fun hh => ?_)).kept
    constructor
    case accMem => exact (hw hh.accMem hh.chkMem).1
    case chkMem => exact (hw hh.accMem hh.chkMem).2
    all_goals first | exact hh.regs | exact hh.heldLow | exact hh.mem | exact hh.marks | exact hh.hostMem | exact hh.accMem | exact hh.chkMem | exact hh.rowState | exact hh.lathes | exact hh.groups | exact hh.engines | exact hh.descs | exact hh.waiters | exact hh.hbmStacks | exact hh.rdc | exact hh.ports | exact hh.mcMsgs | exact hh.bypCause | exact hh.hist | exact hh.histFlash | exact hh.loops | exact hh.cores | exact hh.trims | exact hh.convs | exact hh.cals | exact hh.calFlash | exact hh.rails | exact hh.fws | exact hh.hostBad | exact hh.evtQs | exact hh.msixTable | exact hh.msixPending | exact hh.owners | exact hh.ctrs
  clear hw
  revert h
  dsimp only
  generalize ({ s with accMem := u.1.mem, chkMem := u.2.1.mem } : State) = t
  intro h
  refine Kept.step ?_ (State.noteBeta_kept _ _ _ _)
  refine Kept.step ?_ (State.noteSat_kept _ _ _ _)
  refine Kept.step ?_ (State.bump_kept _ _ _)
  exact Kept.step h (State.modLathe_kept _ _ _)

end Sys2Proof.Machine
end

