-- ==== Sys2Proof/Laws/FrameStrokes.lean ====
section
/-! SUPPORT. What each operation of `Machine/Strokes.lean` may change: one lemma each, the parts it may change as a mask of `Part.no` bits. -/
set_option linter.unusedVariables false
set_option Elab.async false
namespace Sys2Proof.Machine

theorem State.countInput_kept : ∀ s a1 a2, Kept 0x8 s (State.countInput s a1 a2) := by
  intro s a1 a2
  unfold State.countInput
  refine Kept.foldl ?_ (fun _ _ h1 => ?_)
  · refine Kept.step ?_ (State.countInf_kept _ _ _ _)
    exact Kept.refl _ _
  · refine Kept.step ?_ (State.countInf_kept _ _ _ _)
    refine Kept.step ?_ (State.countMarks_kept _ _ _)
    exact h1

theorem State.pollDisplaced_kept : ∀ s a1, Kept 0x3272000737f38 s (State.pollDisplaced s a1) := by
  intro s a1
  unfold State.pollDisplaced
  refine Kept.foldl ?_ (fun _ _ h1 => ?_)
  · exact Kept.refl _ _
  · refine Kept.step ?_ (State.settleBank_kept _ _)
    exact h1

theorem execLoad_kept : ∀ a0 a1 a2 a3 s, OutKept 0x3272000737f38 s (execLoad a0 a1 a2 a3 s) := by
  intro a0 a1 a2 a3 s
  unfold execLoad
  refine OutKept.next ?_
  split
  ·
    extract_lets +onlyGivenNames -merge -underBinder x1
    have h1 : Kept 0x3272000737f38 s x1 := by
      unfold x1
      refine Kept.step ?_ (State.pollDisplaced_kept _ _)
      exact Kept.refl _ _
    clear_value x1
    extract_lets +onlyGivenNames -merge -underBinder x2
    extract_lets +onlyGivenNames -merge -underBinder x3
    refine Kept.ite ?_ ?_
    · exact h1
    · extract_lets +onlyGivenNames -merge -underBinder x4
      extract_lets +onlyGivenNames -merge -underBinder x5
      refine Kept.ite ?_ ?_
      · split
        ·
          refine Kept.step ?_ (State.faultAbort_kept _ _ _ _ _)
          refine Kept.step ?_ (State.shardEvent_kept _ _ _ _ _ _ _ _)
          exact h1
        ·
          refine Kept.step ?_ (State.faultAbort_kept _ _ _ _ _)
          exact h1
        ·
          exact h1
        ·
          unfold x5
          extract_lets +onlyGivenNames -merge -underBinder x6
          have h6 : Kept 0x3272000737f38 s x6 := by
            unfold x6
            refine Kept.step ?_ (State.setStage_kept _ _ _ _ _)
            exact h1
          clear_value x6
          refine Kept.foldl ?_ (fun _ _ h7 => ?_)
          · exact h6
          · refine Kept.ite ?_ ?_
            · refine Kept.step ?_ (State.loadPlane_kept _ _ _ _)
              exact h7
            · exact h7
      · unfold x5
        extract_lets +onlyGivenNames -merge -underBinder x8
        have h8 : Kept 0x3272000737f38 s x8 := by
          unfold x8
          refine Kept.step ?_ (State.setStage_kept _ _ _ _ _)
          exact h1
        clear_value x8
        refine Kept.foldl ?_ (fun _ _ h9 => ?_)
        · exact h8
        · refine Kept.ite ?_ ?_
          · refine Kept.step ?_ (State.loadPlane_kept _ _ _ _)
            exact h9
          · exact h9
  ·
    exact Kept.refl _ _

theorem State.settleLoad_kept : ∀ s a1, Kept 0x400 s (State.settleLoad s a1) := by
  intro s a1
  unfold State.settleLoad
  split
  ·
    extract_lets +onlyGivenNames -merge -underBinder x1
    extract_lets +onlyGivenNames -merge -underBinder x2
    refine Kept.ite ?_ ?_
    · refine Kept.step ?_ (State.complete_kept _ _ _ _)
      exact Kept.refl _ _
    · exact Kept.refl _ _
  ·
    exact Kept.refl _ _

theorem execBankWriteEnd_kept : ∀ a0 s, OutKept 0x508 s (execBankWriteEnd a0 s) := by
  intro a0 s
  unfold execBankWriteEnd
  extract_lets +onlyGivenNames -merge -underBinder x1
  extract_lets +onlyGivenNames -merge -underBinder x2
  refine OutKept.next ?_
  refine Kept.ite ?_ ?_
  · extract_lets +onlyGivenNames -merge -underBinder x3
    have h3 : Kept 0x508 s x3 := by
      unfold x3
      refine Kept.step ?_ (State.modLathe_kept _ _ _)
      exact Kept.refl _ _
    clear_value x3
    extract_lets +onlyGivenNames -merge -underBinder x4
    have h4 : Kept 0x508 s x4 := by
      unfold x4
      refine Kept.ite ?_ ?_
      · exact h3
      · refine Kept.step ?_ (State.settleLoad_kept _ _)
        exact h3
    clear_value x4
    refine Kept.ite ?_ ?_
    · refine Kept.step ?_ (State.runGuards_kept _ _)
      exact h4
    · refine Kept.step ?_ (State.settleRelive_kept _ _)
      exact h4
  · exact Kept.refl _ _

theorem State.runSwitch_kept : ∀ s a1 a2, Kept 0x108 s (State.runSwitch s a1 a2) := by
  intro s a1 a2
  unfold State.runSwitch
  extract_lets +onlyGivenNames -merge -underBinder x1
  refine Kept.ite ?_ ?_
  · refine Kept.foldl ?_ (fun _ _ h2 => ?_)
    · exact Kept.refl _ _
    · refine Kept.step ?_ (State.switchGuard_kept _ _)
      exact h2
  · exact Kept.refl _ _

theorem State.readyBanks_kept : ∀ s a1 a2, Kept 0x108 s (State.readyBanks s a1 a2) := by
  intro s a1 a2
  unfold State.readyBanks
  extract_lets +onlyGivenNames -merge -underBinder x1
  extract_lets +onlyGivenNames -merge -underBinder x2
  have h2 : Kept 0x108 s x2 := by
    unfold x2
    refine Kept.foldl ?_ (fun _ _ h3 => ?_)
    · exact Kept.refl _ _
    · refine Kept.ite ?_ ?_
      · refine Kept.step ?_ (State.modLathe_kept _ _ _)
        refine Kept.step ?_ (State.switchGuard_kept _ _)
        exact h3
      · refine Kept.ite ?_ ?_
        · refine Kept.step ?_ (State.guardSyms_kept _ _)
          exact h3
        · refine Kept.step ?_ (State.countIdle_kept _ _)
          exact h3
  clear_value x2
  extract_lets +onlyGivenNames -merge -underBinder x4
  refine Kept.foldl ?_ (fun _ _ h5 => ?_)
  · exact h2
  · refine Kept.step ?_ (State.addSym_kept _ _ _ _ _)
    exact h5

theorem State.noteLane_kept : ∀ s a1 a2 a3 a4 a5, Kept 0x242000000008 s (State.noteLane s a1 a2 a3 a4 a5) := by
  intro s a1 a2 a3 a4 a5
  unfold State.noteLane
  extract_lets +onlyGivenNames -merge -underBinder x1
  have h1 : Kept 0x242000000008 s x1 := by
    unfold x1
    refine Kept.step ?_ (State.wr_kept _ _ _)
    exact Kept.refl _ _
  clear_value x1
  extract_lets +onlyGivenNames -merge -underBinder x2
  have h2 : Kept 0x242000000008 s x2 := by
    unfold x2
    refine Kept.foldl ?_ (fun _ _ h3 => ?_)
    · exact h1
    · refine Kept.step ?_ (State.wr_kept _ _ _)
      exact h3
  clear_value x2
  extract_lets +onlyGivenNames -merge -underBinder x4
  have h4 : Kept 0x242000000008 s x4 := by
    unfold x4
    refine Kept.ite ?_ ?_
    · refine Kept.step ?_ (State.bump_kept _ _ _)
      exact h2
    · exact h2
  clear_value x4
  refine Kept.ite ?_ ?_
  · refine Kept.step ?_ (State.postFirst_kept _ _ _ _ _ _ _ _ _ _ _)
    refine Kept.step ?_ (State.bump_kept _ _ _)
    refine Kept.step ?_ (State.bump_kept _ _ _)
    exact h4
  · exact h4

theorem State.startStroke_kept : ∀ s a1 a2 a3 a4 a5 a6, Kept 0x242000000308 s (State.startStroke s a1 a2 a3 a4 a5 a6) := by
  intro s a1 a2 a3 a4 a5 a6
  unfold State.startStroke
  extract_lets +onlyGivenNames -merge -underBinder x1
  extract_lets +onlyGivenNames -merge -underBinder x2
  have h2 : Kept 0x242000000308 s x2 := by
    unfold x2
    refine Kept.foldl ?_ (fun _ _ h3 => ?_)
    · exact Kept.refl _ _
    · refine Kept.step ?_ (State.admitGroup_kept _ _ _ _ _ _)
      exact h3
  clear_value x2
  extract_lets +onlyGivenNames -merge -underBinder x4
  have h4 : Kept 0x242000000308 s x4 := by
    unfold x4
    refine Kept.ite ?_ ?_
    · refine Kept.foldl ?_ (fun _ _ h5 => ?_)
      · exact h2
      · refine Kept.step ?_ (State.poisonGroup_kept _ _ _)
        exact h5
    · exact h2
  clear_value x4
  extract_lets +onlyGivenNames -merge -underBinder x6
  have h6 : Kept 0x242000000308 s x6 := by exact h4
  clear_value x6
  extract_lets +onlyGivenNames -merge -underBinder x7
  extract_lets +onlyGivenNames -merge -underBinder x8
  extract_lets +onlyGivenNames -merge -underBinder x9
  extract_lets +onlyGivenNames -merge -underBinder x10
  extract_lets +onlyGivenNames -merge -underBinder x11
  extract_lets +onlyGivenNames -merge -underBinder x12
  extract_lets +onlyGivenNames -merge -underBinder x13
  refine Kept.foldl ?_ (fun _ _ h14 => ?_)
  · exact h4
  · extract_lets +onlyGivenNames -merge -underBinder x15
    extract_lets +onlyGivenNames -merge -underBinder x16
    extract_lets +onlyGivenNames -merge -underBinder x17
    have h17 : Kept 0x242000000308 s x17 := by
      unfold x17
      refine Kept.step ?_ (State.noteLane_kept _ _ _ _ _ _)
      exact h14
    clear_value x17
    extract_lets +onlyGivenNames -merge -underBinder x18
    have h18 : Kept 0x242000000308 s x18 := by
      unfold x18
      refine Kept.step ?_ (State.bump_kept _ _ _)
      exact h17
    clear_value x18
    extract_lets +onlyGivenNames -merge -underBinder x19
    have h19 : Kept 0x242000000308 s x19 := by
      unfold x19
      refine Kept.ite ?_ ?_
      · refine Kept.step ?_ (State.countInput_kept _ _ _)
        exact h18
      · exact h18
    clear_value x19
    refine Kept.step ?_ (State.modLathe_kept _ _ _)
    exact h19

theorem State.inputUnmapped_kept : ∀ s a1 a2 a3 a4, Kept 0x242000000008 s (State.inputUnmapped s a1 a2 a3 a4) := by
  intro s a1 a2 a3 a4
  unfold State.inputUnmapped
  refine Kept.ite ?_ ?_
  · refine Kept.step ?_ (State.unmappedEvent_kept _ _ _ _ _)
    exact Kept.refl _ _
  · split
    ·
      refine Kept.step ?_ (State.unmappedEvent_kept _ _ _ _ _)
      exact Kept.refl _ _
    ·
      exact Kept.refl _ _

theorem State.runGroup_kept : ∀ s a1 a2 a3 a4 a5 a6, Kept 0x252000523f38 s (State.runGroup s a1 a2 a3 a4 a5 a6) := by
  intro s a1 a2 a3 a4 a5 a6
  unfold State.runGroup
  extract_lets +onlyGivenNames -merge -underBinder x1
  extract_lets +onlyGivenNames -merge -underBinder x2
  split
  ·
    refine Kept.step ?_ (State.groupMisuse_kept _ _ _ _ _ _ _)
    exact Kept.refl _ _
  ·
    refine Kept.ite ?_ ?_
    · refine Kept.step ?_ (State.faultAbort_kept _ _ _ _ _)
      refine Kept.foldl ?_ (fun _ _ h3 => ?_)
      · exact Kept.refl _ _
      · refine Kept.step ?_ (State.post_kept _ _ _ _ _ _)
        exact h3
    · refine Kept.ite ?_ ?_
      · exact Kept.refl _ _
      · refine Kept.ite ?_ ?_
        · refine Kept.foldl ?_ (fun _ _ h4 => ?_)
          · exact Kept.refl _ _
          · refine Kept.step ?_ (State.modGroup_kept _ _ _ _)
            exact h4
        · extract_lets +onlyGivenNames -merge -underBinder x5
          extract_lets +onlyGivenNames -merge -underBinder x6
          have h6 : Kept 0x252000523f38 s x6 := by
            unfold x6
            refine Kept.step ?_ (State.readyBanks_kept _ _ _)
            refine Kept.step ?_ (State.setStage_kept _ _ _ _ _)
            exact Kept.refl _ _
          clear_value x6
          extract_lets +onlyGivenNames -merge -underBinder x7
          extract_lets +onlyGivenNames -merge -underBinder x8 x9 x10
          have h10 : Kept 0x252000523f38 s x10 := by
            unfold x10
            refine Kept.ite ?_ ?_
            · refine Kept.ite ?_ ?_
              · refine Kept.step ?_ (State.post_kept _ _ _ _ _ _)
                unfold x9
                refine Kept.step ?_ (State.bump_kept _ _ _)
                refine Kept.step ?_ (State.modProg_kept _ _ _ _)
                exact h6
              · unfold x9
                refine Kept.step ?_ (State.bump_kept _ _ _)
                refine Kept.step ?_ (State.modProg_kept _ _ _ _)
                exact h6
            · exact h6
          clear_value x10
          extract_lets +onlyGivenNames -merge -underBinder x11
          have h11 : Kept 0x252000523f38 s x11 := by
            unfold x11
            refine Kept.step ?_ (State.startStroke_kept _ _ _ _ _ _ _)
            exact h10
          clear_value x11
          split
          ·
            refine Kept.step ?_ (State.usePoison_kept _ _ _ _ _ _)
            refine Kept.step ?_ (State.inputUnmapped_kept _ _ _ _ _)
            exact h11
          ·
            exact h11

theorem State.runFault_kept : ∀ s b p k r t, s.runFault b p k r = some t → Kept 0x272000523f38 s t := by
  intro s b p k r t
  unfold State.runFault
  extract_lets ms ctx bank tagBad srcs
  split
  · intro h; cases h
    exact Kept.step (Kept.step (Kept.refl _ _) (State.shardEvent_kept _ _ _ _ _ _ _ _)) (State.faultAbort_kept _ _ _ _ _)
  · split
    · intro h; cases h
      exact Kept.step (Kept.step (Kept.refl _ _) (State.post_kept _ _ _ _ _ _)) (State.faultAbort_kept _ _ _ _ _)
    · split
      · intro h; cases h
        exact Kept.step (Kept.step (Kept.refl _ _) (State.post_kept _ _ _ _ _ _)) (State.faultAbort_kept _ _ _ _ _)
      · intro h; cases h
theorem State.runStart_kept : ∀ s a1 a2 a3 a4 a5 a6, Kept 0x272000523f38 s (State.runStart s a1 a2 a3 a4 a5 a6) := by
  intro s b p k r x parity
  unfold State.runStart
  extract_lets +onlyGivenNames -merge -underBinder y
  have h : Kept 0x272000523f38 s y := by
    unfold y
    cases parity with
    | none => exact Kept.refl _ _
    | some z => exact Kept.step (Kept.step (Kept.step (Kept.refl _ _) (State.setMark_kept _ _ _)) (State.bump_kept _ _ _)) (State.post_kept _ _ _ _ _ _)
  clear_value y
  have hf := State.runFault_kept y b p k r
  revert hf
  generalize y.runFault b p k r = o
  cases o with
  | some t => intro hf; exact Kept.step h (hf t rfl)
  | none => intro hf; exact Kept.step h (State.runGroup_kept _ _ _ _ _ _ _)

theorem execRun_kept : ∀ a0 a1 a2 a3 s, OutKept 0x3272000737f38 s (execRun a0 a1 a2 a3 s) := by
  intro a0 a1 a2 a3 s
  unfold execRun
  refine OutKept.next ?_
  split
  ·
    extract_lets +onlyGivenNames -merge -underBinder x1
    have h1 : Kept 0x3272000737f38 s x1 := by
      unfold x1
      refine Kept.step ?_ (State.pollDisplaced_kept _ _)
      exact Kept.refl _ _
    clear_value x1
    extract_lets +onlyGivenNames -merge -underBinder x2
    extract_lets +onlyGivenNames -merge -underBinder x3
    extract_lets +onlyGivenNames -merge -underBinder x4
    extract_lets +onlyGivenNames -merge -underBinder x5
    extract_lets +onlyGivenNames -merge -underBinder x6
    refine Kept.ite ?_ ?_
    · exact h1
    · split
      ·
        refine Kept.step ?_ (State.faultAbort_kept _ _ _ _ _)
        refine Kept.step ?_ (State.shardEvent_kept _ _ _ _ _ _ _ _)
        exact h1
      ·
        refine Kept.step ?_ (State.faultAbort_kept _ _ _ _ _)
        exact h1
      ·
        exact h1
      ·
        extract_lets +onlyGivenNames -merge -underBinder x7
        refine Kept.ite ?_ ?_
        · refine Kept.step ?_ (State.faultAbort_kept _ _ _ _ _)
          exact h1
        · refine Kept.ite ?_ ?_
          · refine Kept.step ?_ (State.runSwitch_kept _ _ _)
            exact h1
          · refine Kept.step ?_ (State.runStart_kept _ _ _ _ _ _ _)
            exact h1
  ·
    exact Kept.refl _ _

theorem execRefreshStart_kept : ∀ a0 s, OutKept 0x3272000737f38 s (execRefreshStart a0 s) := by
  intro a0 s
  unfold execRefreshStart
  extract_lets +onlyGivenNames -merge -underBinder x1
  have h1 : Kept 0x3272000737f38 s x1 := by
    unfold x1
    refine Kept.step ?_ (State.pollDisplaced_kept _ _)
    exact Kept.refl _ _
  clear_value x1
  extract_lets +onlyGivenNames -merge -underBinder x2
  extract_lets +onlyGivenNames -merge -underBinder x3
  extract_lets +onlyGivenNames -merge -underBinder x4
  refine OutKept.next ?_
  refine Kept.ite ?_ ?_
  · refine Kept.foldl ?_ (fun _ _ h5 => ?_)
    · exact h1
    · refine Kept.step ?_ (State.refreshBank_kept _ _)
      exact h5
  · exact h1

theorem execStrokeDataEnd_kept : ∀ a0 s, OutKept 0x108 s (execStrokeDataEnd a0 s) := by
  intro a0 s
  unfold execStrokeDataEnd
  extract_lets +onlyGivenNames -merge -underBinder x1
  refine OutKept.next ?_
  refine Kept.ite ?_ ?_
  · extract_lets +onlyGivenNames -merge -underBinder x2
    extract_lets +onlyGivenNames -merge -underBinder x3
    have h3 : Kept 0x108 s x3 := by
      unfold x3
      refine Kept.foldl ?_ (fun _ _ h4 => ?_)
      · exact Kept.refl _ _
      · split
        ·
          exact h4
        ·
          extract_lets +onlyGivenNames -merge -underBinder x5
          extract_lets +onlyGivenNames -merge -underBinder x6
          have h6 : Kept 0x108 s x6 := by
            unfold x6
            refine Kept.step ?_ (State.bump_kept _ _ _)
            refine Kept.step ?_ (State.addSym_kept _ _ _ _ _)
            refine Kept.step ?_ (State.countShown_kept _ _ _ _)
            exact h4
          clear_value x6
          refine Kept.step ?_ (State.modLathe_kept _ _ _)
          exact h6
    clear_value x3
    refine Kept.step ?_ (State.runGuards_kept _ _)
    exact h3
  · exact Kept.refl _ _

end Sys2Proof.Machine
end

