-- ==== Sys2Proof/Laws/FrameAccumulator.lean ====
section
/-! SUPPORT. What each operation of `Machine/Accumulator.lean` may change: one lemma each, the parts it may change as a mask of `Part.no` bits. -/
set_option linter.unusedVariables false
set_option Elab.async false
namespace Sys2Proof.Machine

theorem State.noteSums_kept : ∀ s a1 a2 a3 a4, Kept 0x242000000008 s (State.noteSums s a1 a2 a3 a4) := by
  intro s a1 a2 a3 a4
  unfold State.noteSums
  refine Kept.step ?_ (State.noteNan_kept _ _ _ _ _)
  refine Kept.step ?_ (State.bump_kept _ _ _)
  refine Kept.step ?_ (State.bump_kept _ _ _)
  exact Kept.refl _ _

def SymAdd.wf (a : SymAdd) : Prop := swf (fun _ => 0) a.acc.mem = true ∧ swf (fun _ => 0) a.chk.mem = true
theorem State.symSum_wf (s : State) (n : Nat) (x : Stroke) (i : Nat) (codes : List Int) (h1 : swf (fun _ => 0) s.accMem = true)
    (h2 : swf (fun _ => 0) s.chkMem = true) : (s.symSum n x i codes).wf := by
  unfold State.symSum
  extract_lets
  refine foldl_keeps SymAdd.wf (foldl_keeps SymAdd.wf ⟨h1, h2⟩ ?_) ?_
  · intro y c h
    refine foldl_keeps SymAdd.wf ⟨addWord_swf _ _ _ _ _ _ _ h.1, h.2⟩ ?_
    intro z e hz
    exact ⟨addWord_swf _ _ _ _ _ _ _ hz.1, hz.2⟩
  · intro y g h
    exact ⟨h.1, addWord_swf _ _ _ _ _ _ _ h.2⟩
theorem State.addSymbol_kept : ∀ s a1 a2 a3 a4, Kept 0x242000000348 s (State.addSymbol s a1 a2 a3 a4) := by
  intro s n x i codes
  unfold State.addSymbol
  have hw := State.symSum_wf s n x i codes
  revert hw
  generalize s.symSum n x i codes = a
  intro hw
  have h : Kept 0x242000000348 s ({ s with accMem := a.acc.mem, chkMem := a.chk.mem } : State) := by
    refine (Kept.upd (Kept.refl _ _) (hk := fun hh => ?_)).kept
    constructor
    case accMem => exact (hw hh.accMem hh.chkMem).1
    case chkMem => exact (hw hh.accMem hh.chkMem).2
    all_goals first | exact hh.regs | exact hh.heldLow | exact hh.mem | exact hh.marks | exact hh.hostMem | exact hh.accMem | exact hh.chkMem | exact hh.rowState | exact hh.lathes | exact hh.groups | exact hh.engines | exact hh.descs | exact hh.waiters | exact hh.hbmStacks | exact hh.rdc | exact hh.ports | exact hh.mcMsgs | exact hh.bypCause | exact hh.hist | exact hh.histFlash | exact hh.loops | exact hh.cores | exact hh.trims | exact hh.convs | exact hh.cals | exact hh.calFlash | exact hh.rails | exact hh.fws | exact hh.hostBad | exact hh.evtQs | exact hh.msixTable | exact hh.msixPending | exact hh.owners | exact hh.ctrs
  clear hw
  revert h
  dsimp only
  generalize ({ s with accMem := a.acc.mem, chkMem := a.chk.mem } : State) = t
  intro h
  refine Kept.ite (Kept.step (Kept.step ?_ (State.modGroup_kept _ _ _ _)) (State.groupFlag_kept _ _ _ _)) ?_ <;>
  · refine Kept.step (Kept.step ?_ (State.noteSat_kept _ _ _ _)) (State.noteBeta_kept _ _ _ _)
    refine Kept.foldl ?_ (fun _ _ hy => Kept.step hy (State.noteSums_kept _ _ _ _ _))
    exact Kept.step (Kept.step h (State.modLathe_kept _ _ _)) (State.bump_kept _ _ _)

theorem State.overSymbol_kept : ∀ s a1 a2 a3, Kept 0x242000000008 s (State.overSymbol s a1 a2 a3) := by
  intro s a1 a2 a3
  unfold State.overSymbol
  split
  ·
    refine Kept.step ?_ (State.noteOver_kept _ _ _ _ _ _)
    exact Kept.refl _ _
  ·
    exact Kept.refl _ _

theorem State.gather_kept : ∀ s a1 a2 a3 a4, Kept 0x100 s (State.gather s a1 a2 a3 a4) := by
  intro s a1 a2 a3 a4
  unfold State.gather
  refine Kept.ite ?_ ?_
  · exact Kept.refl _ _
  · extract_lets +onlyGivenNames -merge -underBinder x1
    extract_lets +onlyGivenNames -merge -underBinder x2
    extract_lets +onlyGivenNames -merge -underBinder x3
    have h3 : Kept 0x100 s x3 := by
      unfold x3
      refine Kept.step ?_ (State.modLathe_kept _ _ _)
      exact Kept.refl _ _
    clear_value x3
    refine Kept.foldl ?_ (fun _ _ h4 => ?_)
    · exact h3
    · extract_lets +onlyGivenNames -merge -underBinder x5
      extract_lets +onlyGivenNames -merge -underBinder x6
      extract_lets +onlyGivenNames -merge -underBinder x7
      refine Kept.step ?_ (State.setLathe_kept _ _ _)
      exact h4

theorem execAccumulatorAdd_kept : ∀ a0 a1 a2 s, OutKept 0x242000000348 s (execAccumulatorAdd a0 a1 a2 s) := by
  intro a0 a1 a2 s
  unfold execAccumulatorAdd
  extract_lets +onlyGivenNames -merge -underBinder x1
  extract_lets +onlyGivenNames -merge -underBinder x2
  extract_lets +onlyGivenNames -merge -underBinder x3
  extract_lets +onlyGivenNames -merge -underBinder x4
  extract_lets +onlyGivenNames -merge -underBinder x5
  refine OutKept.next ?_
  split
  ·
    refine Kept.step ?_ (State.modLathe_kept _ _ _)
    unfold x4
    extract_lets +onlyGivenNames -merge -underBinder x6
    have h6 : Kept 0x242000000348 s x6 := by
      unfold x6
      refine Kept.step ?_ (State.gather_kept _ _ _ _ _)
      refine Kept.step ?_ (State.overSymbol_kept _ _ _ _)
      exact Kept.refl _ _
    clear_value x6
    extract_lets +onlyGivenNames -merge -underBinder x7
    have h7 : Kept 0x242000000348 s x7 := by
      unfold x7
      refine Kept.ite ?_ ?_
      · refine Kept.step ?_ (State.addSymbol_kept _ _ _ _ _)
        exact h6
      · exact h6
    clear_value x7
    refine Kept.ite ?_ ?_
    · refine Kept.step ?_ (State.modGroup_kept _ _ _ _)
      exact h7
    · exact h7
  ·
    split
    ·
      refine Kept.ite ?_ ?_
      · exact Kept.refl _ _
      · refine Kept.step ?_ (State.modLathe_kept _ _ _)
        unfold x4
        extract_lets +onlyGivenNames -merge -underBinder x8
        have h8 : Kept 0x242000000348 s x8 := by
          unfold x8
          refine Kept.step ?_ (State.gather_kept _ _ _ _ _)
          refine Kept.step ?_ (State.overSymbol_kept _ _ _ _)
          exact Kept.refl _ _
        clear_value x8
        extract_lets +onlyGivenNames -merge -underBinder x9
        have h9 : Kept 0x242000000348 s x9 := by
          unfold x9
          refine Kept.ite ?_ ?_
          · refine Kept.step ?_ (State.addSymbol_kept _ _ _ _ _)
            exact h8
          · exact h8
        clear_value x9
        refine Kept.ite ?_ ?_
        · refine Kept.step ?_ (State.modGroup_kept _ _ _ _)
          exact h9
        · exact h9
    ·
      split
      ·
        refine Kept.ite ?_ ?_
        · extract_lets +onlyGivenNames -merge -underBinder x10
          extract_lets +onlyGivenNames -merge -underBinder x11
          extract_lets +onlyGivenNames -merge -underBinder x12
          extract_lets +onlyGivenNames -merge -underBinder x13
          have h13 : Kept 0x242000000348 s x13 := by
            unfold x13
            refine Kept.step ?_ (State.modLathe_kept _ _ _)
            refine Kept.step ?_ (State.overSymbol_kept _ _ _ _)
            exact Kept.refl _ _
          clear_value x13
          refine Kept.ite ?_ ?_
          · refine Kept.step ?_ (State.endReplay_kept _ _)
            exact h13
          · exact h13
        · exact Kept.refl _ _
      ·
        exact Kept.refl _ _

theorem execStrokeVerdict_kept : ∀ a0 s, OutKept 0x3272100737f38 s (execStrokeVerdict a0 s) := by
  intro a0 s
  unfold execStrokeVerdict
  extract_lets +onlyGivenNames -merge -underBinder x1
  refine OutKept.next ?_
  split
  ·
    refine Kept.ite ?_ ?_
    · exact Kept.refl _ _
    · extract_lets +onlyGivenNames -merge -underBinder x2
      extract_lets +onlyGivenNames -merge -underBinder x3
      extract_lets +onlyGivenNames -merge -underBinder x4
      have h4 : Kept 0x3272100737f38 s x4 := by
        unfold x4
        refine Kept.step ?_ (State.modLathe_kept _ _ _)
        refine Kept.step ?_ (State.bump_kept _ _ _)
        exact Kept.refl _ _
      clear_value x4
      refine Kept.ite ?_ ?_
      · refine Kept.step ?_ (State.settleRun_kept _ _ _ _)
        refine Kept.step ?_ (State.lessVerdict_kept _ _ _)
        exact h4
      · extract_lets +onlyGivenNames -merge -underBinder x5
        have h5 : Kept 0x3272100737f38 s x5 := by
          unfold x5
          refine Kept.step ?_ (State.bump_kept _ _ _)
          exact h4
        clear_value x5
        extract_lets +onlyGivenNames -merge -underBinder x6
        have h6 : Kept 0x3272100737f38 s x6 := by
          unfold x6
          split
          ·
            refine Kept.step ?_ (State.earlyPoison_kept _ _ _ _)
            exact h5
          ·
            exact h5
        clear_value x6
        extract_lets +onlyGivenNames -merge -underBinder x7
        refine Kept.ite ?_ ?_
        · refine Kept.step ?_ (State.unarbitrated_kept _ _ _ _ _)
          exact h6
        · extract_lets +onlyGivenNames -merge -underBinder x8
          extract_lets +onlyGivenNames -merge -underBinder x9
          extract_lets +onlyGivenNames -merge -underBinder x10
          have h10 : Kept 0x3272100737f38 s x10 := by
            unfold x10
            refine Kept.step ?_ (State.modLathe_kept _ _ _)
            exact h6
          clear_value x10
          refine Kept.ite ?_ ?_
          · refine Kept.step ?_ (State.arbsOver_kept _ _)
            refine Kept.step ?_ (State.beginArbs_kept _ _ _)
            exact h10
          · exact h10
  ·
    exact Kept.refl _ _

theorem execReplayStart_kept : ∀ a0 s, OutKept 0x308 s (execReplayStart a0 s) := by
  intro a0 s
  unfold execReplayStart
  extract_lets +onlyGivenNames -merge -underBinder x1
  extract_lets +onlyGivenNames -merge -underBinder x2
  refine OutKept.next ?_
  split
  ·
    extract_lets +onlyGivenNames -merge -underBinder x3
    extract_lets +onlyGivenNames -merge -underBinder x4
    refine Kept.ite ?_ ?_
    · extract_lets +onlyGivenNames -merge -underBinder x5
      have h5 : Kept 0x308 s x5 := by
        unfold x5
        refine Kept.foldl ?_ (fun _ _ h6 => ?_)
        · exact Kept.refl _ _
        · refine Kept.ite ?_ ?_
          · refine Kept.step ?_ (State.switchReplay_kept _ _)
            exact h6
          · refine Kept.step ?_ (State.countIdle_kept _ _)
            exact h6
      clear_value x5
      extract_lets +onlyGivenNames -merge -underBinder x7
      have h7 : Kept 0x308 s x7 := by
        unfold x7
        refine Kept.ite ?_ ?_
        · refine Kept.step ?_ (State.matesSwitch_kept _ _)
          exact h5
        · exact h5
      clear_value x7
      extract_lets +onlyGivenNames -merge -underBinder x8
      extract_lets +onlyGivenNames -merge -underBinder x9
      extract_lets +onlyGivenNames -merge -underBinder x10
      have h10 : Kept 0x308 s x10 := by
        unfold x10
        refine Kept.step ?_ (State.modLathe_kept _ _ _)
        exact h7
      clear_value x10
      extract_lets +onlyGivenNames -merge -underBinder x11
      have h11 : Kept 0x308 s x11 := by
        unfold x11
        refine Kept.foldl ?_ (fun _ _ h12 => ?_)
        · exact h10
        · refine Kept.step ?_ (State.countInput_kept _ _ _)
          exact h12
      clear_value x11
      extract_lets +onlyGivenNames -merge -underBinder x13
      have h13 : Kept 0x308 s x13 := by
        unfold x13
        refine Kept.ite ?_ ?_
        · refine Kept.step ?_ (State.modGroup_kept _ _ _ _)
          exact h11
        · exact h11
      clear_value x13
      refine Kept.step ?_ (State.bump_kept _ _ _)
      exact h13
    · exact Kept.refl _ _
  ·
    exact Kept.refl _ _

theorem State.lateDrain_kept : ∀ s a1 a2, Kept 0x2252000727f38 s (State.lateDrain s a1 a2) := by
  intro s a1 a2
  unfold State.lateDrain
  split
  ·
    refine Kept.step ?_ (State.earlyPoison_kept _ _ _ _)
    exact Kept.refl _ _
  ·
    exact Kept.refl _ _

theorem execArbitrationEnd_kept : ∀ a0 s, OutKept 0x327215a737f38 s (execArbitrationEnd a0 s) := by
  intro a0 s
  unfold execArbitrationEnd
  refine OutKept.next ?_
  split
  ·
    extract_lets +onlyGivenNames -merge -underBinder x1
    refine Kept.ite ?_ ?_
    · exact Kept.refl _ _
    · extract_lets +onlyGivenNames -merge -underBinder x2
      extract_lets +onlyGivenNames -merge -underBinder x3
      have h3 : Kept 0x327215a737f38 s x3 := by
        unfold x3
        refine Kept.foldl ?_ (fun _ _ h4 => ?_)
        · exact Kept.refl _ _
        · extract_lets +onlyGivenNames -merge -underBinder x5
          extract_lets +onlyGivenNames -merge -underBinder x6
          have h6 : Kept 0x327215a737f38 s x6 := by
            unfold x6
            refine Kept.step ?_ (State.arbEvent_kept _ _ _ _ _ _ _ _ _ _)
            refine Kept.step ?_ (State.bump_kept _ _ _)
            exact h4
          clear_value x6
          refine Kept.step ?_ (State.applyOutcome_kept _ _ _ _ _)
          exact h6
      clear_value x3
      extract_lets +onlyGivenNames -merge -underBinder x7
      have h7 : Kept 0x327215a737f38 s x7 := by
        unfold x7
        refine Kept.ite ?_ ?_
        · refine Kept.step ?_ (State.lateDrain_kept _ _ _)
          exact h3
        · exact h3
      clear_value x7
      extract_lets +onlyGivenNames -merge -underBinder x8
      refine Kept.ite ?_ ?_
      · refine Kept.foldl ?_ (fun _ _ h9 => ?_)
        · refine Kept.step ?_ (State.leaveNow_kept _ _ _ _)
          exact h7
        · refine Kept.step ?_ (State.askCal_kept _ _ _ _ _ _)
          exact h9
      · extract_lets +onlyGivenNames -merge -underBinder x10
        refine Kept.ite ?_ ?_
        · refine Kept.step ?_ (State.finishArb_kept _ _)
          exact h7
        · refine Kept.step ?_ (State.modLathe_kept _ _ _)
          exact h7
  ·
    exact Kept.refl _ _

theorem execCorrectionEnd_kept : ∀ a0 s, OutKept 0x3272102737f78 s (execCorrectionEnd a0 s) := by
  intro a0 s
  unfold execCorrectionEnd
  refine OutKept.next ?_
  split
  ·
    refine Kept.ite ?_ ?_
    · exact Kept.refl _ _
    · refine Kept.step ?_ (State.finishArb_kept _ _)
      refine Kept.step ?_ (State.correct_kept _ _ _)
      exact Kept.refl _ _
  ·
    exact Kept.refl _ _

theorem execSuspectReplayEnd_kept : ∀ a0 s, OutKept 0x3272102737f38 s (execSuspectReplayEnd a0 s) := by
  intro a0 s
  unfold execSuspectReplayEnd
  refine OutKept.next ?_
  split
  ·
    extract_lets +onlyGivenNames -merge -underBinder x1
    refine Kept.ite ?_ ?_
    · exact Kept.refl _ _
    · extract_lets +onlyGivenNames -merge -underBinder x2
      have h2 : Kept 0x3272102737f38 s x2 := by
        unfold x2
        refine Kept.step ?_ (State.bump_kept _ _ _)
        exact Kept.refl _ _
      clear_value x2
      refine Kept.ite ?_ ?_
      · refine Kept.step ?_ (State.finishArb_kept _ _)
        refine Kept.step ?_ (State.suspectPoison_kept _ _ _ _)
        refine Kept.step ?_ (State.bump_kept _ _ _)
        exact h2
      · refine Kept.ite ?_ ?_
        · refine Kept.step ?_ (State.finishArb_kept _ _)
          refine Kept.step ?_ (State.suspectPoison_kept _ _ _ _)
          exact h2
        · refine Kept.ite ?_ ?_
          · refine Kept.step ?_ (State.finishArb_kept _ _)
            exact h2
          · refine Kept.step ?_ (State.modLathe_kept _ _ _)
            exact h2
  ·
    exact Kept.refl _ _

theorem execSpanMoveStart_kept : ∀ a0 a1 s, OutKept 0x300 s (execSpanMoveStart a0 a1 s) := by
  intro a0 a1 s
  unfold execSpanMoveStart
  extract_lets +onlyGivenNames -merge -underBinder x1
  refine OutKept.next ?_
  refine Kept.ite ?_ ?_
  · refine Kept.step ?_ (State.modLathe_kept _ _ _)
    refine Kept.step ?_ (State.modGroup_kept _ _ _ _)
    exact Kept.refl _ _
  · exact Kept.refl _ _

theorem State.moveRow_kept : ∀ s a1 a2 a3, Kept 0x20000020238 s (State.moveRow s a1 a2 a3) := by
  intro s a1 a2 a3
  unfold State.moveRow
  extract_lets +onlyGivenNames -merge -underBinder x1
  extract_lets +onlyGivenNames -merge -underBinder x2
  extract_lets +onlyGivenNames -merge -underBinder x3
  split
  ·
    extract_lets +onlyGivenNames -merge -underBinder x4
    extract_lets +onlyGivenNames -merge -underBinder x5
    have h5 : Kept 0x20000020238 s x5 := by
      unfold x5
      refine Kept.ite ?_ ?_
      · refine Kept.step ?_ (State.usePoison_kept _ _ _ _ _ _)
        refine Kept.step ?_ (State.poisonGroup_kept _ _ _)
        exact Kept.refl _ _
      · exact Kept.refl _ _
    clear_value x5
    extract_lets +onlyGivenNames -merge -underBinder x6
    have h6 : Kept 0x20000020238 s x6 := by
      unfold x6
      refine Kept.foldl ?_ (fun _ _ h7 => ?_)
      · refine Kept.step ?_ (State.setBytes_kept _ _ _)
        exact h5
      · refine Kept.step ?_ (State.setMark_kept _ _ _)
        exact h7
    clear_value x6
    refine Kept.step ?_ (State.bump_kept _ _ _)
    refine Kept.step ?_ (State.countInf_kept _ _ _ _)
    exact h6

theorem execSpanMoveEnd_kept : ∀ a0 a1 s, OutKept 0x20000020338 s (execSpanMoveEnd a0 a1 s) := by
  intro a0 a1 s
  unfold execSpanMoveEnd
  extract_lets +onlyGivenNames -merge -underBinder x1
  refine OutKept.next ?_
  refine Kept.ite ?_ ?_
  · exact Kept.refl _ _
  · extract_lets +onlyGivenNames -merge -underBinder x2
    have h2 : Kept 0x20000020338 s x2 := by
      unfold x2
      refine Kept.step ?_ (State.modLathe_kept _ _ _)
      exact Kept.refl _ _
    clear_value x2
    refine Kept.ite ?_ ?_
    · refine Kept.step ?_ (State.modGroup_kept _ _ _ _)
      exact h2
    · extract_lets +onlyGivenNames -merge -underBinder x3
      have h3 : Kept 0x20000020338 s x3 := by
        unfold x3
        refine Kept.foldl ?_ (fun _ _ h4 => ?_)
        · exact h2
        · refine Kept.step ?_ (State.moveRow_kept _ _ _ _)
          exact h4
      clear_value x3
      extract_lets +onlyGivenNames -merge -underBinder x5
      have h5 : Kept 0x20000020338 s x5 := by
        unfold x5
        refine Kept.step ?_ (State.modLathe_kept _ _ _)
        exact h3
      clear_value x5
      extract_lets +onlyGivenNames -merge -underBinder x6
      have h6 : Kept 0x20000020338 s x6 := by
        unfold x6
        refine Kept.step ?_ (State.modGroup_kept _ _ _ _)
        exact h5
      clear_value x6
      refine Kept.step ?_ (State.bump_kept _ _ _)
      refine Kept.step ?_ (State.groupFlag_kept _ _ _ _)
      exact h6

theorem execInvalidGroupFree_kept : ∀ a0 a1 s, OutKept 0x300 s (execInvalidGroupFree a0 a1 s) := by
  intro a0 a1 s
  unfold execInvalidGroupFree
  extract_lets +onlyGivenNames -merge -underBinder x1
  refine OutKept.next ?_
  refine Kept.ite ?_ ?_
  · refine Kept.step ?_ (State.modLathe_kept _ _ _)
    refine Kept.step ?_ (State.setGroup_kept _ _ _ _)
    exact Kept.refl _ _
  · exact Kept.refl _ _

theorem execAccModeWrite_kept : ∀ a0 a1 s, OutKept 0x8 s (execAccModeWrite a0 a1 s) := by
  intro a0 a1 s
  unfold execAccModeWrite
  refine State.atBlock_kept _ (by decide) (fun s0 h0 => ?_)
  refine OutKept.next ?_
  refine Kept.ite ?_ ?_
  · refine Kept.step ?_ (State.wb_kept _ _ _ _)
    exact h0
  · exact h0

theorem execSeedWrite_kept : ∀ a0 a1 s, OutKept 0x108 s (execSeedWrite a0 a1 s) := by
  intro a0 a1 s
  unfold execSeedWrite
  refine State.atBlock_kept _ (by decide) (fun s0 h0 => ?_)
  refine OutKept.next ?_
  refine Kept.step ?_ (State.modLathe_kept _ _ _)
  refine Kept.step ?_ (State.wr_kept _ _ _)
  exact h0

end Sys2Proof.Machine
end

