-- ==== Sys2Proof/Laws/FrameCalOps.lean ====
section
/-! SUPPORT. What each operation of `Machine/CalOps.lean` may change: one lemma each, the parts it may change as a mask of `Part.no` bits. -/
set_option linter.unusedVariables false
set_option Elab.async false
namespace Sys2Proof.Machine

theorem State.putCalWords_kept : ∀ s a1 a2, Kept 0x8 s (State.putCalWords s a1 a2) := by
  intro s n saved
  unfold State.putCalWords
  refine Kept.foldl ?_ (fun _ _ h2 => Kept.step h2 (State.wr_kept _ _ _))
  refine (Kept.upd (Kept.refl _ _) (hk := fun hh => ?_)).kept
  constructor
  case regs => exact foldl_keeps (fun (t : Sparse Word) => swf resetWord t = true) hh.regs (fun y a h => swf_sdrop h)
  all_goals first | exact hh.regs | exact hh.heldLow | exact hh.mem | exact hh.marks | exact hh.hostMem | exact hh.accMem | exact hh.chkMem | exact hh.rowState | exact hh.lathes | exact hh.groups | exact hh.engines | exact hh.descs | exact hh.waiters | exact hh.hbmStacks | exact hh.rdc | exact hh.ports | exact hh.mcMsgs | exact hh.bypCause | exact hh.hist | exact hh.histFlash | exact hh.loops | exact hh.cores | exact hh.trims | exact hh.convs | exact hh.cals | exact hh.calFlash | exact hh.rails | exact hh.fws | exact hh.hostBad | exact hh.evtQs | exact hh.msixTable | exact hh.msixPending | exact hh.owners | exact hh.ctrs

theorem State.noteSense_kept : ∀ s a1 a2, Kept 0x8000000 s (State.noteSense s a1 a2) := by
  intro s a1 a2
  unfold State.noteSense
  refine Kept.foldl ?_ (fun _ _ h1 => ?_)
  · exact Kept.refl _ _
  · refine Kept.ite ?_ ?_
    · exact h1
    · refine Kept.step ?_ (State.modLoop_kept _ _ _)
      exact h1

theorem State.stopLoops_kept : ∀ s a1, Kept 0x8000008 s (State.stopLoops s a1) := by
  intro s a1
  unfold State.stopLoops
  refine Kept.foldl ?_ (fun _ _ h1 => ?_)
  · exact Kept.refl _ _
  · extract_lets +onlyGivenNames -merge -underBinder x2
    have h2 : Kept 0x8000008 s x2 := by
      unfold x2
      refine Kept.step ?_ (State.wf_kept _ _ _ _)
      exact h1
    clear_value x2
    refine Kept.ite ?_ ?_
    · exact h2
    · refine Kept.step ?_ (State.modLoop_kept _ _ _)
      exact h2

theorem State.startLoops_kept : ∀ s a1, Kept 0x18000008 s (State.startLoops s a1) := by
  intro s a1
  unfold State.startLoops
  refine Kept.ite ?_ ?_
  · exact Kept.refl _ _
  · refine Kept.foldl ?_ (fun _ _ h1 => ?_)
    · exact Kept.refl _ _
    · refine Kept.ite ?_ ?_
      · refine Kept.ite ?_ ?_
        · refine Kept.step ?_ (State.enterRun_kept _ _ _)
          exact h1
        · refine Kept.step ?_ (State.modLoop_kept _ _ _)
          exact h1
      · exact h1

theorem State.setCalResult_kept : ∀ s a1 a2 a3 a4, Kept 0x8 s (State.setCalResult s a1 a2 a3 a4) := by
  intro s a1 a2 a3 a4
  unfold State.setCalResult
  refine Kept.step ?_ (State.wr_kept _ _ _)
  exact Kept.refl _ _

theorem State.leaveCal_kept : ∀ s a1, Kept 0x242040000108 s (State.leaveCal s a1) := by
  intro s a1
  unfold State.leaveCal
  extract_lets +onlyGivenNames -merge -underBinder x1
  have h1 : Kept 0x242040000108 s x1 := by
    unfold x1
    refine Kept.step ?_ (State.modLathe_kept _ _ _)
    exact Kept.refl _ _
  clear_value x1
  extract_lets +onlyGivenNames -merge -underBinder x2
  split
  ·
    split
    next y3 q3 =>
      have h3 : Kept 0x242040000108 s y3 := Kept.snd q3 (by
        refine Kept.step ?_ (State.checkMaps_kept _ _)
        exact h1)
      unfold x2
      refine Kept.step ?_ (State.oosEvent_kept _ _ _)
      refine Kept.step ?_ (State.modLathe_kept _ _ _)
      exact h3
    next y4 q4 =>
      have h4 : Kept 0x242040000108 s y4 := Kept.snd q4 (by
        refine Kept.step ?_ (State.checkMaps_kept _ _)
        exact h1)
      refine Kept.ite ?_ ?_
      · refine Kept.step ?_ (State.enterService_kept _ _)
        exact h4
      · unfold x2
        refine Kept.step ?_ (State.oosEvent_kept _ _ _)
        refine Kept.step ?_ (State.modLathe_kept _ _ _)
        exact h4
  ·
    refine Kept.step ?_ (State.tryService_kept _ _)
    refine Kept.step ?_ (State.modLathe_kept _ _ _)
    exact h1
  ·
    exact h1

theorem State.calOut_kept : ∀ s a1 a2, Kept 0x242000000108 s (State.calOut s a1 a2) := by
  intro s a1 a2
  unfold State.calOut
  extract_lets +onlyGivenNames -merge -underBinder x1
  extract_lets +onlyGivenNames -merge -underBinder x2
  have h2 : Kept 0x242000000108 s x2 := by
    unfold x2
    refine Kept.step ?_ (State.modLathe_kept _ _ _)
    exact Kept.refl _ _
  clear_value x2
  refine Kept.ite ?_ ?_
  · refine Kept.step ?_ (State.oosEvent_kept _ _ _)
    exact h2
  · exact h2

theorem State.calEnd_kept : ∀ s a1 a2, Kept 0x40000100 s (State.calEnd s a1 a2) := by
  intro s a1 a2
  unfold State.calEnd
  refine Kept.foldl ?_ (fun _ _ h1 => ?_)
  · refine Kept.step ?_ (State.setCal_kept _ _ _)
    exact Kept.refl _ _
  · refine Kept.step ?_ (State.powerAdcs_kept _ _)
    exact h1

theorem State.calDone_kept : ∀ s a1, Kept 0x40000100 s (State.calDone s a1) := by
  intro s a1
  unfold State.calDone
  extract_lets +onlyGivenNames -merge -underBinder x1
  refine Kept.step ?_ (State.calEnd_kept _ _ _)
  exact Kept.refl _ _

theorem State.wantLanes_kept : ∀ s a1, Kept 0x40000100 s (State.wantLanes s a1) := by
  intro s a1
  unfold State.wantLanes
  extract_lets +onlyGivenNames -merge -underBinder x1
  extract_lets +onlyGivenNames -merge -underBinder x2
  refine Kept.ite ?_ ?_
  · refine Kept.step ?_ (State.askCal_kept _ _ _ _ _ _)
    exact Kept.refl _ _
  · exact Kept.refl _ _

theorem State.calRefused_kept : ∀ s a1 a2 a3 a4, Kept 0x242040000108 s (State.calRefused s a1 a2 a3 a4) := by
  intro s a1 a2 a3 a4
  unfold State.calRefused
  extract_lets +onlyGivenNames -merge -underBinder x1
  extract_lets +onlyGivenNames -merge -underBinder x2
  refine Kept.ite ?_ ?_
  · refine Kept.step ?_ (State.calOut_kept _ _ _)
    exact Kept.refl _ _
  · refine Kept.ite ?_ ?_
    · refine Kept.step ?_ (State.modLathe_kept _ _ _)
      refine Kept.step ?_ (State.calOut_kept _ _ _)
      exact Kept.refl _ _
    · refine Kept.ite ?_ ?_
      · refine Kept.step ?_ (State.wantLanes_kept _ _)
        refine Kept.step ?_ (State.modLathe_kept _ _ _)
        exact Kept.refl _ _
      · refine Kept.ite ?_ ?_
        · refine Kept.step ?_ (State.modLathe_kept _ _ _)
          refine Kept.step ?_ (State.calOut_kept _ _ _)
          exact Kept.refl _ _
        · refine Kept.ite ?_ ?_
          · refine Kept.step ?_ (State.leaveCal_kept _ _)
            exact Kept.refl _ _
          · refine Kept.step ?_ (State.wantLanes_kept _ _)
            refine Kept.step ?_ (State.calOut_kept _ _ _)
            exact Kept.refl _ _

theorem State.rejectCal_kept : ∀ s a1 a2, Kept 0x242058000108 s (State.rejectCal s a1 a2) := by
  intro s a1 a2
  unfold State.rejectCal
  extract_lets +onlyGivenNames -merge -underBinder x1
  extract_lets +onlyGivenNames -merge -underBinder x2
  extract_lets +onlyGivenNames -merge -underBinder x3
  have h3 : Kept 0x242058000108 s x3 := by
    unfold x3
    refine Kept.foldl ?_ (fun _ _ h4 => ?_)
    · exact Kept.refl _ _
    · refine Kept.step ?_ (State.powerAdcs_kept _ _)
      refine Kept.step ?_ (State.noteSense_kept _ _ _)
      refine Kept.step ?_ (State.putCalWords_kept _ _ _)
      exact h4
  clear_value x3
  extract_lets +onlyGivenNames -merge -underBinder x5
  have h5 : Kept 0x242058000108 s x5 := by
    unfold x5
    refine Kept.foldl ?_ (fun _ _ h6 => ?_)
    · exact h3
    · refine Kept.step ?_ (State.setCode_kept _ _ _)
      exact h6
  clear_value x5
  extract_lets +onlyGivenNames -merge -underBinder x7
  have h7 : Kept 0x242058000108 s x7 := by
    unfold x7
    refine Kept.foldl ?_ (fun _ _ h8 => ?_)
    · exact h5
    · refine Kept.step ?_ (State.startLoops_kept _ _)
      exact h8
  clear_value x7
  extract_lets +onlyGivenNames -merge -underBinder x9
  have h9 : Kept 0x242058000108 s x9 := by
    unfold x9
    refine Kept.step ?_ (State.calDone_kept _ _)
    exact h7
  clear_value x9
  extract_lets +onlyGivenNames -merge -underBinder x10
  have h10 : Kept 0x242058000108 s x10 := by
    unfold x10
    refine Kept.foldl ?_ (fun _ _ h11 => ?_)
    · exact h9
    · refine Kept.step ?_ (State.post_kept _ _ _ _ _ _)
      refine Kept.step ?_ (State.bump_kept _ _ _)
      refine Kept.step ?_ (State.setCalResult_kept _ _ _ _ _)
      exact h11
  clear_value x10
  extract_lets +onlyGivenNames -merge -underBinder x12
  have h12 : Kept 0x242058000108 s x12 := by
    unfold x12
    refine Kept.ite ?_ ?_
    · refine Kept.step ?_ (State.post_kept _ _ _ _ _ _)
      exact h10
    · exact h10
  clear_value x12
  extract_lets +onlyGivenNames -merge -underBinder x13
  have h13 : Kept 0x242058000108 s x13 := by
    unfold x13
    refine Kept.foldl ?_ (fun _ _ h14 => ?_)
    · exact h12
    · refine Kept.step ?_ (State.calRefused_kept _ _ _ _ _)
      exact h14
  clear_value x13
  refine Kept.foldl ?_ (fun _ _ h15 => ?_)
  · exact h13
  · refine Kept.step ?_ (State.thawed_kept _ _)
    exact h15

theorem State.endCal_kept : ∀ s a1 a2, Kept 0x242040000108 s (State.endCal s a1 a2) := by
  intro s a1 a2
  unfold State.endCal
  extract_lets +onlyGivenNames -merge -underBinder x1
  extract_lets +onlyGivenNames -merge -underBinder x2
  split
  ·
    exact Kept.refl _ _
  ·
    extract_lets +onlyGivenNames -merge -underBinder x3
    have h3 : Kept 0x242040000108 s x3 := by
      unfold x3
      refine Kept.foldl ?_ (fun _ _ h4 => ?_)
      · exact Kept.refl _ _
      · extract_lets +onlyGivenNames -merge -underBinder x5
        have h5 : Kept 0x242040000108 s x5 := by
          unfold x5
          refine Kept.step ?_ (State.setCalResult_kept _ _ _ _ _)
          exact h4
        clear_value x5
        refine Kept.ite ?_ ?_
        · refine Kept.step ?_ (State.post_kept _ _ _ _ _ _)
          exact h5
        · exact h5
    clear_value x3
    refine Kept.step ?_ (State.calEnd_kept _ _ _)
    exact h3
  ·
    refine Kept.step ?_ (State.calEnd_kept _ _ _)
    exact Kept.refl _ _

theorem State.dropLathe_kept : ∀ s a1 a2 a3, Kept 0x2252142727f38 s (State.dropLathe s a1 a2 a3) := by
  intro s a1 a2 a3
  unfold State.dropLathe
  extract_lets +onlyGivenNames -merge -underBinder x1
  extract_lets +onlyGivenNames -merge -underBinder x2
  have h2 : Kept 0x2252142727f38 s x2 := by
    unfold x2
    refine Kept.step ?_ (State.endCal_kept _ _ _)
    exact Kept.refl _ _
  clear_value x2
  extract_lets +onlyGivenNames -merge -underBinder x3
  have h3 : Kept 0x2252142727f38 s x3 := by
    unfold x3
    refine Kept.ite ?_ ?_
    · refine Kept.foldl ?_ (fun _ _ h4 => ?_)
      · exact h2
      · refine Kept.ite ?_ ?_
        · refine Kept.step ?_ (State.calOut_kept _ _ _)
          exact h4
        · exact h4
    · exact h2
  clear_value x3
  refine Kept.step ?_ (State.leaveNow_kept _ _ _ _)
  exact h3

theorem State.dipCal_kept : ∀ s a1, Kept 0x242058000108 s (State.dipCal s a1) := by
  intro s a1
  unfold State.dipCal
  extract_lets +onlyGivenNames -merge -underBinder x1
  extract_lets +onlyGivenNames -merge -underBinder x2
  refine Kept.ite ?_ ?_
  · exact Kept.refl _ _
  · refine Kept.ite ?_ ?_
    · refine Kept.step ?_ (State.setCal_kept _ _ _)
      exact Kept.refl _ _
    · refine Kept.step ?_ (State.rejectCal_kept _ _ _)
      exact Kept.refl _ _

theorem State.throttleCals_kept : ∀ s, Kept 0x242058000108 s (State.throttleCals s) := by
  intro s
  unfold State.throttleCals
  refine Kept.foldl ?_ (fun _ _ h1 => ?_)
  · exact Kept.refl _ _
  · refine Kept.step ?_ (State.rejectCal_kept _ _ _)
    exact h1

theorem State.laserGone_kept : ∀ s a1 a2 a3, Kept 0x225215a727f38 s (State.laserGone s a1 a2 a3) := by
  intro s a1 a2 a3
  unfold State.laserGone
  extract_lets +onlyGivenNames -merge -underBinder x1
  extract_lets +onlyGivenNames -merge -underBinder x2
  extract_lets +onlyGivenNames -merge -underBinder x3
  extract_lets +onlyGivenNames -merge -underBinder x4
  extract_lets +onlyGivenNames -merge -underBinder x5
  extract_lets +onlyGivenNames -merge -underBinder x6
  refine Kept.ite ?_ ?_
  · refine Kept.ite ?_ ?_
    · refine Kept.step ?_ (State.modCal_kept _ _ _)
      refine Kept.step ?_ (State.switchStandby_kept _ _ _)
      unfold x6
      refine Kept.ite ?_ ?_
      · refine Kept.step ?_ (State.modLathe_kept _ _ _)
        exact Kept.refl _ _
      · exact Kept.refl _ _
    · refine Kept.step ?_ (State.rejectCal_kept _ _ _)
      unfold x6
      refine Kept.ite ?_ ?_
      · refine Kept.step ?_ (State.modLathe_kept _ _ _)
        exact Kept.refl _ _
      · exact Kept.refl _ _
  · refine Kept.ite ?_ ?_
    · unfold x5
      refine Kept.ite ?_ ?_
      · refine Kept.step ?_ (State.switchStandby_kept _ _ _)
        refine Kept.step ?_ (State.leaveNow_kept _ _ _ _)
        refine Kept.step ?_ (State.suspectLaser_kept _ _ _)
        exact Kept.refl _ _
      · refine Kept.ite ?_ ?_
        · refine Kept.step ?_ (State.modLathe_kept _ _ _)
          refine Kept.step ?_ (State.leaveNow_kept _ _ _ _)
          refine Kept.step ?_ (State.suspectLaser_kept _ _ _)
          exact Kept.refl _ _
        · refine Kept.step ?_ (State.leaveNow_kept _ _ _ _)
          refine Kept.step ?_ (State.suspectLaser_kept _ _ _)
          exact Kept.refl _ _
    · refine Kept.ite ?_ ?_
      · unfold x5
        refine Kept.ite ?_ ?_
        · refine Kept.step ?_ (State.switchStandby_kept _ _ _)
          unfold x6
          refine Kept.ite ?_ ?_
          · refine Kept.step ?_ (State.modLathe_kept _ _ _)
            exact Kept.refl _ _
          · exact Kept.refl _ _
        · refine Kept.ite ?_ ?_
          · refine Kept.step ?_ (State.modLathe_kept _ _ _)
            unfold x6
            refine Kept.ite ?_ ?_
            · refine Kept.step ?_ (State.modLathe_kept _ _ _)
              exact Kept.refl _ _
            · exact Kept.refl _ _
          · unfold x6
            refine Kept.ite ?_ ?_
            · refine Kept.step ?_ (State.modLathe_kept _ _ _)
              exact Kept.refl _ _
            · exact Kept.refl _ _
      · exact Kept.refl _ _

theorem State.laserFail_kept : ∀ s a1 a2 a3, Kept 0x225215a727f38 s (State.laserFail s a1 a2 a3) := by
  intro s a1 a2 a3
  unfold State.laserFail
  extract_lets +onlyGivenNames -merge -underBinder x1
  extract_lets +onlyGivenNames -merge -underBinder x2
  have h2 : Kept 0x225215a727f38 s x2 := by
    unfold x2
    refine Kept.step ?_ (State.histEvent_kept _ _ _ _)
    refine Kept.step ?_ (State.wf_kept _ _ _ _)
    exact Kept.refl _ _
  clear_value x2
  refine Kept.step ?_ (State.laserGone_kept _ _ _ _)
  refine Kept.step ?_ (State.post_kept _ _ _ _ _ _)
  exact h2

end Sys2Proof.Machine
end

