-- ==== Sys2Proof/Laws/FramePilots.lean ====
section
/-! SUPPORT. What each operation of `Machine/Pilots.lean` may change: one lemma each, the parts it may change as a mask of `Part.no` bits. -/
set_option linter.unusedVariables false
set_option Elab.async false
namespace Sys2Proof.Machine

theorem State.vertex_kept : ∀ s a1 a2 a3 a4 a5, Kept 0x2000000000000 s (State.vertex s a1 a2 a3 a4 a5).2 := by
  intro s a1 a2 a3 a4 a5
  unfold State.vertex
  extract_lets +onlyGivenNames -merge -underBinder x1
  extract_lets +onlyGivenNames -merge -underBinder x2
  refine Kept.ite2 ?_ ?_
  · split
    next y3 q3 =>
      have h3 : Kept 0x2000000000000 s y3 := Kept.snd q3 (by
        refine Kept.step ?_ (State.takeFree_kept _)
        exact Kept.refl _ _)
      dsimp only
      exact h3
  · dsimp only
    exact Kept.refl _ _

theorem State.phaseRow_kept : ∀ s a1 a2 a3 a4, Kept 0x2242010000008 s (State.phaseRow s a1 a2 a3 a4) := by
  intro s a1 a2 a3 a4
  unfold State.phaseRow
  extract_lets +onlyGivenNames -merge -underBinder x1
  split
  next y2 q2 =>
    have h2 : Kept 0x2242010000008 s y2 := Kept.snd q2 (by
      refine Kept.foldl2 ?_ (fun _ _ h3 => ?_)
      · dsimp only
        exact Kept.refl _ _
      · refine Kept.step ?_ (State.vertex_kept _ _ _ _ _ _)
        exact h3)
    refine Kept.step ?_ (State.pushCode_kept _ _ _)
    exact h2

theorem State.rowPhase_kept : ∀ s a1 a2 a3 a4, Kept 0x2242010000008 s (State.rowPhase s a1 a2 a3 a4) := by
  intro s a1 a2 a3 a4
  unfold State.rowPhase
  refine Kept.foldl ?_ (fun _ _ h1 => ?_)
  · exact Kept.refl _ _
  · extract_lets +onlyGivenNames -merge -underBinder x2
    refine Kept.foldl ?_ (fun _ _ h3 => ?_)
    · exact h1
    · refine Kept.ite ?_ ?_
      · refine Kept.step ?_ (State.phaseRow_kept _ _ _ _ _)
        exact h3
      · exact h3

end Sys2Proof.Machine
end

