-- ==== Sys2Proof/Laws/FrameCalibration.lean ====
section
/-! SUPPORT. What each operation of `Machine/Calibration.lean` may change: one lemma each, the parts it may change as a mask of `Part.no` bits. -/
set_option linter.unusedVariables false
set_option Elab.async false
namespace Sys2Proof.Machine

theorem State.beginCal_kept : ∀ s a1, Kept 0x242040000108 s (State.beginCal s a1) := by
  intro s a1
  unfold State.beginCal
  extract_lets +onlyGivenNames -merge -underBinder x1
  extract_lets +onlyGivenNames -merge -underBinder x2
  have h2 : Kept 0x242040000108 s x2 := by
    unfold x2
    refine Kept.step ?_ (State.modCal_kept _ _ _)
    exact Kept.refl _ _
  clear_value x2
  extract_lets +onlyGivenNames -merge -underBinder x3
  have h3 : Kept 0x242040000108 s x3 := by
    unfold x3
    refine Kept.foldl ?_ (fun _ _ h4 => ?_)
    · exact h2
    · split
      ·
        refine Kept.step ?_ (State.quiesce_kept _ _ _ _)
        exact h4
      ·
        refine Kept.step ?_ (State.modLathe_kept _ _ _)
        exact h4
      ·
        refine Kept.step ?_ (State.modLathe_kept _ _ _)
        exact h4
      ·
        exact h4
  clear_value x3
  refine Kept.ite ?_ ?_
  · refine Kept.step ?_ (State.joinSlots_kept _ _)
    exact h3
  · refine Kept.step ?_ (State.tryServices_kept _ _)
    exact h3

theorem State.requestCal_kept : ∀ s a1 a2, Kept 0x242040000108 s (State.requestCal s a1 a2) := by
  intro s a1 a2
  unfold State.requestCal
  extract_lets +onlyGivenNames -merge -underBinder x1
  extract_lets +onlyGivenNames -merge -underBinder x2
  refine Kept.ite ?_ ?_
  · exact Kept.refl _ _
  · extract_lets +onlyGivenNames -merge -underBinder x3
    have h3 : Kept 0x242040000108 s x3 := by
      unfold x3
      refine Kept.step ?_ (State.setCal_kept _ _ _)
      exact Kept.refl _ _
    clear_value x3
    refine Kept.ite ?_ ?_
    · refine Kept.step ?_ (State.beginCal_kept _ _)
      exact h3
    · exact h3

theorem execCalGo_kept : ∀ a0 s, OutKept 0x242040000108 s (execCalGo a0 s) := by
  intro a0 s
  unfold execCalGo
  refine State.atBlock_kept _ (by decide) (fun s0 h0 => ?_)
  refine OutKept.next ?_
  refine Kept.step ?_ (State.requestCal_kept _ _ _)
  exact h0

theorem execDevCalGo_kept : ∀ a0 s, OutKept 0x242040000108 s (execDevCalGo a0 s) := by
  intro a0 s
  unfold execDevCalGo
  refine State.atBlock_kept _ (by decide) (fun s0 h0 => ?_)
  refine OutKept.next ?_
  refine Kept.foldl ?_ (fun _ _ h1 => ?_)
  · exact h0
  · refine Kept.ite ?_ ?_
    · refine Kept.step ?_ (State.requestCal_kept _ _ _)
      exact h1
    · exact h1

theorem execCalCancel_kept : ∀ a0 s, OutKept 0x40000008 s (execCalCancel a0 s) := by
  intro a0 s
  unfold execCalCancel
  refine State.atBlock_kept _ (by decide) (fun s0 h0 => ?_)
  extract_lets +onlyGivenNames -merge -underBinder x1
  refine OutKept.next ?_
  refine Kept.ite ?_ ?_
  · exact h0
  · refine Kept.ite ?_ ?_
    · refine Kept.step ?_ (State.setCal_kept _ _ _)
      exact h0
    · refine Kept.step ?_ (State.setCal_kept _ _ _)
      exact h0

theorem execCalAtReached_kept : ∀ a0 s, OutKept 0x242040000108 s (execCalAtReached a0 s) := by
  intro a0 s
  unfold execCalAtReached
  refine OutKept.next ?_
  split
  ·
    refine Kept.ite ?_ ?_
    · refine Kept.step ?_ (State.beginCal_kept _ _)
      exact Kept.refl _ _
    · exact Kept.refl _ _
  ·
    exact Kept.refl _ _

theorem State.phaseOne_kept : ∀ s a1, Kept 0x18000008 s (State.phaseOne s a1) := by
  intro s a1
  unfold State.phaseOne
  extract_lets +onlyGivenNames -merge -underBinder x1
  have h1 : Kept 0x18000008 s x1 := by
    unfold x1
    refine Kept.foldl ?_ (fun _ _ h2 => ?_)
    · exact Kept.refl _ _
    · refine Kept.ite ?_ ?_
      · refine Kept.step ?_ (State.enterRun_kept _ _ _)
        exact h2
      · exact h2
  clear_value x1
  refine Kept.foldl ?_ (fun _ _ h3 => ?_)
  · exact h1
  · refine Kept.ite ?_ ?_
    · refine Kept.step ?_ (State.wf_kept _ _ _ _)
      exact h3
    · exact h3

theorem State.startingPoint_kept : ∀ s a1, Kept 0x90000008 s (State.startingPoint s a1) := by
  intro s a1
  unfold State.startingPoint
  extract_lets +onlyGivenNames -merge -underBinder x1
  refine Kept.ite ?_ ?_
  · exact Kept.refl _ _
  · extract_lets +onlyGivenNames -merge -underBinder x2
    have h2 : Kept 0x90000008 s x2 := by
      unfold x2
      refine Kept.ite ?_ ?_
      · refine Kept.foldl ?_ (fun _ _ h3 => ?_)
        · exact Kept.refl _ _
        · refine Kept.ite ?_ ?_
          · refine Kept.step ?_ (State.wr_kept _ _ _)
            exact h3
          · exact h3
      · exact Kept.refl _ _
    clear_value x2
    extract_lets +onlyGivenNames -merge -underBinder x4
    extract_lets +onlyGivenNames -merge -underBinder x5
    extract_lets +onlyGivenNames -merge -underBinder x6
    have h6 : Kept 0x90000008 s x6 := by
      unfold x6
      refine Kept.foldl ?_ (fun _ _ h7 => ?_)
      · exact h2
      · refine Kept.step ?_ (State.setCode_kept _ _ _)
        exact h7
    clear_value x6
    refine (Kept.upd ?_).kept
    exact h6

theorem execCalSlotGrant_kept : ∀ a0 s, OutKept 0x2420d8000108 s (execCalSlotGrant a0 s) := by
  intro a0 s
  unfold execCalSlotGrant
  extract_lets +onlyGivenNames -merge -underBinder x1
  extract_lets +onlyGivenNames -merge -underBinder x2
  extract_lets +onlyGivenNames -merge -underBinder x3
  extract_lets +onlyGivenNames -merge -underBinder x4
  refine OutKept.next ?_
  refine Kept.ite ?_ ?_
  · exact Kept.refl _ _
  · extract_lets +onlyGivenNames -merge -underBinder x5
    have h5 : Kept 0x2420d8000108 s x5 := by
      unfold x5
      refine Kept.step ?_ (State.setCal_kept _ _ _)
      exact Kept.refl _ _
    clear_value x5
    extract_lets +onlyGivenNames -merge -underBinder x6
    have h6 : Kept 0x2420d8000108 s x6 := by
      unfold x6
      refine Kept.ite ?_ ?_
      · refine Kept.foldl ?_ (fun _ _ h7 => ?_)
        · exact h5
        · refine Kept.step ?_ (State.startingPoint_kept _ _)
          exact h7
      · exact h5
    clear_value x6
    extract_lets +onlyGivenNames -merge -underBinder x8
    have h8 : Kept 0x2420d8000108 s x8 := by
      unfold x8
      refine Kept.foldl ?_ (fun _ _ h9 => ?_)
      · exact h6
      · extract_lets +onlyGivenNames -merge -underBinder x10
        have h10 : Kept 0x2420d8000108 s x10 := by
          unfold x10
          refine Kept.step ?_ (State.stopLoops_kept _ _)
          refine Kept.step ?_ (State.modLathe_kept _ _ _)
          exact h9
        clear_value x10
        refine Kept.ite ?_ ?_
        · refine Kept.step ?_ (State.phaseOne_kept _ _)
          exact h10
        · exact h10
    clear_value x8
    refine Kept.ite ?_ ?_
    · refine Kept.step ?_ (State.rejectCal_kept _ _ _)
      exact h8
    · exact h8

theorem State.spareChosen_kept : ∀ s a1 a2 a3 a4, Kept 0x242002000008 s (State.spareChosen s a1 a2 a3 a4) := by
  intro s a1 a2 a3 a4
  unfold State.spareChosen
  refine Kept.step ?_ (State.post_kept _ _ _ _ _ _)
  refine Kept.step ?_ (State.replaced_kept _ _ _ _ _)
  exact Kept.refl _ _

theorem State.chooseRows_kept : ∀ s a1 a2 a3, Kept 0x242042000008 s (State.chooseRows s a1 a2 a3) := by
  intro s a1 a2 a3
  unfold State.chooseRows
  extract_lets +onlyGivenNames -merge -underBinder x1
  extract_lets +onlyGivenNames -merge -underBinder x2
  extract_lets +onlyGivenNames -merge -underBinder x3
  extract_lets +onlyGivenNames -merge -underBinder x4
  extract_lets +onlyGivenNames -merge -underBinder x5
  extract_lets +onlyGivenNames -merge -underBinder x6
  have h6 : Kept 0x242042000008 s x6 := by
    unfold x6
    refine Kept.foldl ?_ (fun _ _ h7 => ?_)
    · exact Kept.refl _ _
    · refine Kept.step ?_ (State.histEvent_kept _ _ _ _)
      exact h7
  clear_value x6
  extract_lets +onlyGivenNames -merge -underBinder x8
  have h8 : Kept 0x242042000008 s x8 := by
    unfold x8
    refine Kept.foldl ?_ (fun _ _ h9 => ?_)
    · exact h6
    · refine Kept.step ?_ (State.spareChosen_kept _ _ _ _ _)
      exact h9
  clear_value x8
  refine Kept.step ?_ (State.setCal_kept _ _ _)
  exact h8

theorem State.colEvent_kept : ∀ s a1 a2, Kept 0x2000000 s (State.colEvent s a1 a2) := by
  intro s a1 a2
  unfold State.colEvent
  refine Kept.foldl ?_ (fun _ _ h1 => ?_)
  · exact Kept.refl _ _
  · refine Kept.step ?_ (State.histEvent_kept _ _ _ _)
    exact h1

theorem State.chooseCols_kept : ∀ s a1, Kept 0x242042000008 s (State.chooseCols s a1) := by
  intro s a1
  unfold State.chooseCols
  extract_lets +onlyGivenNames -merge -underBinder x1
  extract_lets +onlyGivenNames -merge -underBinder x2
  extract_lets +onlyGivenNames -merge -underBinder x3
  extract_lets +onlyGivenNames -merge -underBinder x4
  extract_lets +onlyGivenNames -merge -underBinder x5
  have h5 : Kept 0x242042000008 s x5 := by
    unfold x5
    refine Kept.foldl ?_ (fun _ _ h6 => ?_)
    · exact Kept.refl _ _
    · refine Kept.step ?_ (State.colEvent_kept _ _ _)
      exact h6
  clear_value x5
  extract_lets +onlyGivenNames -merge -underBinder x7
  have h7 : Kept 0x242042000008 s x7 := by
    unfold x7
    refine Kept.foldl ?_ (fun _ _ h8 => ?_)
    · exact h5
    · refine Kept.foldl ?_ (fun _ _ h9 => ?_)
      · exact h8
      · refine Kept.step ?_ (State.spareChosen_kept _ _ _ _ _)
        exact h9
  clear_value x7
  extract_lets +onlyGivenNames -merge -underBinder x10
  refine Kept.step ?_ (State.setCal_kept _ _ _)
  exact h7

theorem State.showFits_kept : ∀ s a1 a2 a3, Kept 0x8 s (State.showFits s a1 a2 a3) := by
  intro s a1 a2 a3
  unfold State.showFits
  extract_lets +onlyGivenNames -merge -underBinder x1
  extract_lets +onlyGivenNames -merge -underBinder x2
  have h2 : Kept 0x8 s x2 := by
    unfold x2
    refine Kept.foldl ?_ (fun _ _ h3 => ?_)
    · exact Kept.refl _ _
    · refine Kept.foldl ?_ (fun _ _ h4 => ?_)
      · exact h3
      · refine Kept.ite ?_ ?_
        · refine Kept.step ?_ (State.wr_kept _ _ _)
          exact h4
        · exact h4
  clear_value x2
  refine Kept.ite ?_ ?_
  · exact h2
  · refine Kept.foldl ?_ (fun _ _ h5 => ?_)
    · exact h2
    · refine Kept.ite ?_ ?_
      · refine Kept.step ?_ (State.wr_kept _ _ _)
        exact h5
      · exact h5

theorem State.setSense_kept : ∀ s a1 a2, Kept 0x8000008 s (State.setSense s a1 a2) := by
  intro s a1 a2
  unfold State.setSense
  refine Kept.foldl ?_ (fun _ _ h1 => ?_)
  · exact Kept.refl _ _
  · extract_lets +onlyGivenNames -merge -underBinder x2
    extract_lets +onlyGivenNames -merge -underBinder x3
    extract_lets +onlyGivenNames -merge -underBinder x4
    refine Kept.ite ?_ ?_
    · exact h1
    · refine Kept.step ?_ (State.modLoop_kept _ _ _)
      refine Kept.step ?_ (State.wf_kept _ _ _ _)
      refine Kept.step ?_ (State.wf_kept _ _ _ _)
      exact h1

theorem State.endPosition_kept : ∀ s a1 a2 a3 a4, Kept 0x24200a000008 s (State.endPosition s a1 a2 a3 a4).2 := by
  intro s a1 a2 a3 a4
  unfold State.endPosition
  extract_lets +onlyGivenNames -merge -underBinder x1
  extract_lets +onlyGivenNames -merge -underBinder x2
  extract_lets +onlyGivenNames -merge -underBinder x3
  extract_lets +onlyGivenNames -merge -underBinder x4
  extract_lets +onlyGivenNames -merge -underBinder x5
  refine Kept.ite2 ?_ ?_
  · dsimp only
    unfold x3
    refine Kept.step ?_ (State.wr_kept _ _ _)
    refine Kept.step ?_ (State.wr_kept _ _ _)
    refine Kept.step ?_ (State.wr_kept _ _ _)
    refine Kept.step ?_ (State.setSense_kept _ _ _)
    refine Kept.step ?_ (State.wf_kept _ _ _ _)
    exact Kept.refl _ _
  · extract_lets +onlyGivenNames -merge -underBinder x6
    have h6 : Kept 0x24200a000008 s x6 := by
      unfold x6
      refine Kept.step ?_ (State.histEvent_kept _ _ _ _)
      refine Kept.step ?_ (State.wf_kept _ _ _ _)
      exact Kept.refl _ _
    clear_value x6
    refine Kept.ite2 ?_ ?_
    · dsimp only
      refine Kept.step ?_ (State.post_kept _ _ _ _ _ _)
      refine Kept.step ?_ (State.switchStandby_kept _ _ _)
      exact h6
    · dsimp only
      exact h6

theorem State.retryLaser_kept : ∀ s a1 a2 a3, Kept 0xa000008 s (State.retryLaser s a1 a2 a3) := by
  intro s a1 a2 a3
  unfold State.retryLaser
  extract_lets +onlyGivenNames -merge -underBinder x1
  refine Kept.ite ?_ ?_
  · exact Kept.refl _ _
  · refine Kept.ite ?_ ?_
    · extract_lets +onlyGivenNames -merge -underBinder x2
      have h2 : Kept 0xa000008 s x2 := by
        unfold x2
        refine Kept.step ?_ (State.wf_kept _ _ _ _)
        refine Kept.step ?_ (State.wf_kept _ _ _ _)
        refine Kept.step ?_ (State.wf_kept _ _ _ _)
        exact Kept.refl _ _
      clear_value x2
      extract_lets +onlyGivenNames -merge -underBinder x3
      have h3 : Kept 0xa000008 s x3 := by
        unfold x3
        refine Kept.foldl ?_ (fun _ _ h4 => ?_)
        · exact h2
        · refine Kept.step ?_ (State.reinit_kept _ _)
          exact h4
      clear_value x3
      refine Kept.step ?_ (State.touchHist_kept _ _ _)
      exact h3
    · refine Kept.step ?_ (State.wf_kept _ _ _ _)
      exact Kept.refl _ _

theorem State.endSources_kept : ∀ s a1 a2 a3 a4, Kept 0x24200a000008 s (State.endSources s a1 a2 a3 a4).2 := by
  intro s a1 a2 a3 a4
  unfold State.endSources
  refine Kept.foldl2 ?_ (fun _ _ h1 => ?_)
  · dsimp only
    exact Kept.refl _ _
  · extract_lets +onlyGivenNames -merge -underBinder x2
    have h2 : Kept 0x24200a000008 s x2.2 := by
      unfold x2
      refine Kept.step ?_ (State.endPosition_kept _ _ _ _ _)
      exact h1
    clear_value x2
    dsimp only
    exact h2

theorem State.judgeNew_kept : ∀ s a1 a2 a3, Kept 0x42000008 s (State.judgeNew s a1 a2 a3) := by
  intro s a1 a2 a3
  unfold State.judgeNew
  extract_lets +onlyGivenNames -merge -underBinder x1
  have h1 : Kept 0x42000008 s x1 := by
    unfold x1
    refine Kept.step ?_ (State.modCal_kept _ _ _)
    exact Kept.refl _ _
  clear_value x1
  extract_lets +onlyGivenNames -merge -underBinder x2
  extract_lets +onlyGivenNames -merge -underBinder x3
  extract_lets +onlyGivenNames -merge -underBinder x4
  extract_lets +onlyGivenNames -merge -underBinder x5
  have h5 : Kept 0x42000008 s x5 := by
    unfold x5
    refine Kept.foldl ?_ (fun _ _ h6 => ?_)
    · exact h1
    · refine Kept.step ?_ (State.colEvent_kept _ _ _)
      exact h6
  clear_value x5
  extract_lets +onlyGivenNames -merge -underBinder x7
  have h7 : Kept 0x42000008 s x7 := by
    unfold x7
    refine Kept.foldl ?_ (fun _ _ h8 => ?_)
    · exact h5
    · refine Kept.step ?_ (State.histEvent_kept _ _ _ _)
      exact h8
  clear_value x7
  extract_lets +onlyGivenNames -merge -underBinder x9
  have h9 : Kept 0x42000008 s x9 := by
    unfold x9
    refine Kept.step ?_ (State.showFits_kept _ _ _ _)
    exact h7
  clear_value x9
  refine Kept.step ?_ (State.modCal_kept _ _ _)
  exact h9

theorem State.endPhase_kept : ∀ s a1 a2, Kept 0x224205a000108 s (State.endPhase s a1 a2) := by
  intro s a1 a2
  unfold State.endPhase
  extract_lets +onlyGivenNames -merge -underBinder x1
  extract_lets +onlyGivenNames -merge -underBinder x2
  extract_lets +onlyGivenNames -merge -underBinder x3
  extract_lets +onlyGivenNames -merge -underBinder x4
  split
  ·
    extract_lets +onlyGivenNames -merge -underBinder x5
    have h5 : Kept 0x224205a000108 s x5.2 := by
      unfold x5
      refine Kept.foldl2 ?_ (fun _ _ h6 => ?_)
      · dsimp only
        exact Kept.refl _ _
      · extract_lets +onlyGivenNames -merge -underBinder x7
        have h7 : Kept 0x224205a000108 s x7.2 := by
          unfold x7
          refine Kept.step ?_ (State.endSources_kept _ _ _ _ _)
          refine Kept.step ?_ (State.retryLaser_kept _ _ _ _)
          exact h6
        clear_value x7
        dsimp only
        exact h7
    clear_value x5
    refine Kept.ite ?_ ?_
    · refine Kept.step ?_ (State.rejectCal_kept _ _ _)
      exact h5
    · refine Kept.ite ?_ ?_
      · refine Kept.step ?_ (State.modCal_kept _ _ _)
        exact h5
      · unfold x4
        refine Kept.step ?_ (State.modCal_kept _ _ _)
        exact h5
  ·
    unfold x4
    refine Kept.step ?_ (State.modCal_kept _ _ _)
    refine Kept.step ?_ (State.rowPhase_kept _ _ _ _ _)
    refine Kept.step ?_ (State.setCal_kept _ _ _)
    exact Kept.refl _ _
  ·
    unfold x4
    refine Kept.step ?_ (State.modCal_kept _ _ _)
    refine Kept.step ?_ (State.setCal_kept _ _ _)
    exact Kept.refl _ _
  ·
    extract_lets +onlyGivenNames -merge -underBinder x8
    have h8 : Kept 0x224205a000108 s x8 := by
      unfold x8
      refine Kept.step ?_ (State.setCal_kept _ _ _)
      exact Kept.refl _ _
    clear_value x8
    extract_lets +onlyGivenNames -merge -underBinder x9
    have h9 : Kept 0x224205a000108 s x9 := by
      unfold x9
      refine Kept.foldl ?_ (fun _ _ h10 => ?_)
      · exact h8
      · refine Kept.step ?_ (State.chooseRows_kept _ _ _ _)
        exact h10
    clear_value x9
    unfold x4
    refine Kept.step ?_ (State.modCal_kept _ _ _)
    refine Kept.step ?_ (State.chooseCols_kept _ _)
    refine Kept.step ?_ (State.showFits_kept _ _ _ _)
    exact h9
  ·
    unfold x4
    refine Kept.step ?_ (State.modCal_kept _ _ _)
    refine Kept.step ?_ (State.judgeNew_kept _ _ _ _)
    exact Kept.refl _ _
  ·
    extract_lets +onlyGivenNames -merge -underBinder x11
    extract_lets +onlyGivenNames -merge -underBinder x12
    have h12 : Kept 0x224205a000108 s x12.2 := by
      unfold x12
      refine Kept.step ?_ (State.endSources_kept _ _ _ _ _)
      exact Kept.refl _ _
    clear_value x12
    refine Kept.ite ?_ ?_
    · unfold x4
      refine Kept.step ?_ (State.modCal_kept _ _ _)
      exact h12
    · refine Kept.step ?_ (State.rejectCal_kept _ _ _)
      exact h12
  ·
    unfold x4
    refine Kept.step ?_ (State.modCal_kept _ _ _)
    refine Kept.step ?_ (State.rowPhase_kept _ _ _ _ _)
    refine Kept.step ?_ (State.setCal_kept _ _ _)
    exact Kept.refl _ _
  ·
    extract_lets +onlyGivenNames -merge -underBinder x13
    extract_lets +onlyGivenNames -merge -underBinder x14
    extract_lets +onlyGivenNames -merge -underBinder x15
    extract_lets +onlyGivenNames -merge -underBinder x16
    have h16 : Kept 0x224205a000108 s x16 := by
      unfold x16
      refine Kept.step ?_ (State.setCal_kept _ _ _)
      exact Kept.refl _ _
    clear_value x16
    extract_lets +onlyGivenNames -merge -underBinder x17
    have h17 : Kept 0x224205a000108 s x17 := by
      unfold x17
      refine Kept.foldl ?_ (fun _ _ h18 => ?_)
      · exact h16
      · refine Kept.step ?_ (State.chooseRows_kept _ _ _ _)
        exact h18
    clear_value x17
    unfold x4
    refine Kept.step ?_ (State.modCal_kept _ _ _)
    refine Kept.step ?_ (State.showFits_kept _ _ _ _)
    exact h17
  ·
    extract_lets +onlyGivenNames -merge -underBinder x19
    extract_lets +onlyGivenNames -merge -underBinder x20
    extract_lets +onlyGivenNames -merge -underBinder x21
    extract_lets +onlyGivenNames -merge -underBinder x22
    have h22 : Kept 0x224205a000108 s x22 := by
      unfold x22
      refine Kept.ite ?_ ?_
      · exact Kept.refl _ _
      · refine Kept.step ?_ (State.colEvent_kept _ _ _)
        exact Kept.refl _ _
    clear_value x22
    extract_lets +onlyGivenNames -merge -underBinder x23
    have h23 : Kept 0x224205a000108 s x23 := by
      unfold x23
      refine Kept.step ?_ (State.setCal_kept _ _ _)
      exact h22
    clear_value x23
    unfold x4
    refine Kept.step ?_ (State.modCal_kept _ _ _)
    refine Kept.step ?_ (State.showFits_kept _ _ _ _)
    exact h23
  ·
    exact Kept.refl _ _

theorem execCalPhaseEnd_kept : ∀ a0 a1 s, OutKept 0x224205a000108 s (execCalPhaseEnd a0 a1 s) := by
  intro a0 a1 s
  unfold execCalPhaseEnd
  extract_lets +onlyGivenNames -merge -underBinder x1
  refine OutKept.next ?_
  refine Kept.ite ?_ ?_
  · refine Kept.step ?_ (State.endPhase_kept _ _ _)
    exact Kept.refl _ _
  · exact Kept.refl _ _

theorem State.setLoopClass_kept : ∀ s a1 a2 a3, Kept 0x8 s (State.setLoopClass s a1 a2 a3) := by
  intro s a1 a2 a3
  unfold State.setLoopClass
  extract_lets +onlyGivenNames -merge -underBinder x1
  split
  ·
    extract_lets +onlyGivenNames -merge -underBinder x2
    have h2 : Kept 0x8 s x2 := by
      unfold x2
      refine Kept.step ?_ (State.wr_kept _ _ _)
      exact Kept.refl _ _
    clear_value x2
    extract_lets +onlyGivenNames -merge -underBinder x3
    have h3 : Kept 0x8 s x3 := by
      unfold x3
      split
      ·
        refine Kept.step ?_ (State.wf_kept _ _ _ _)
        exact h2
      ·
        exact h2
    clear_value x3
    refine Kept.step ?_ (State.wf_kept _ _ _ _)
    exact h3

theorem State.installCol_kept : ∀ s a1 a2 a3, Kept 0x8 s (State.installCol s a1 a2 a3) := by
  intro s a1 a2 a3
  unfold State.installCol
  extract_lets +onlyGivenNames -merge -underBinder x1
  extract_lets +onlyGivenNames -merge -underBinder x2
  extract_lets +onlyGivenNames -merge -underBinder x3
  refine Kept.ite ?_ ?_
  · refine Kept.step ?_ (State.wr_kept _ _ _)
    refine Kept.step ?_ (State.wr_kept _ _ _)
    exact Kept.refl _ _
  · refine Kept.step ?_ (State.wr_kept _ _ _)
    refine Kept.step ?_ (State.wr_kept _ _ _)
    exact Kept.refl _ _

theorem State.installMaps_kept : ∀ s a1 a2, Kept 0x108 s (State.installMaps s a1 a2) := by
  intro s a1 a2
  unfold State.installMaps
  refine Kept.foldl ?_ (fun _ _ h1 => ?_)
  · exact Kept.refl _ _
  · extract_lets +onlyGivenNames -merge -underBinder x2
    have h2 : Kept 0x108 s x2 := by
      unfold x2
      refine Kept.foldl ?_ (fun _ _ h3 => ?_)
      · exact h1
      · refine Kept.step ?_ (State.wf_kept _ _ _ _)
        exact h3
    clear_value x2
    refine Kept.step ?_ (State.powerAdcs_kept _ _)
    refine Kept.foldl ?_ (fun _ _ h4 => ?_)
    · exact h2
    · refine Kept.step ?_ (State.wf_kept _ _ _ _)
      exact h4

theorem State.installCal_kept : ∀ s a1 a2, Kept 0x108 s (State.installCal s a1 a2) := by
  intro s a1 a2
  unfold State.installCal
  extract_lets +onlyGivenNames -merge -underBinder x1
  extract_lets +onlyGivenNames -merge -underBinder x2
  have h2 : Kept 0x108 s x2 := by
    unfold x2
    refine Kept.step ?_ (State.installMaps_kept _ _ _)
    exact Kept.refl _ _
  clear_value x2
  extract_lets +onlyGivenNames -merge -underBinder x3
  extract_lets +onlyGivenNames -merge -underBinder x4
  have h4 : Kept 0x108 s x4 := by
    unfold x4
    refine Kept.foldl ?_ (fun _ _ h5 => ?_)
    · exact h2
    · refine Kept.step ?_ (State.wr_kept _ _ _)
      exact h5
  clear_value x4
  extract_lets +onlyGivenNames -merge -underBinder x6
  have h6 : Kept 0x108 s x6 := by
    unfold x6
    refine Kept.step ?_ (State.modLathe_kept _ _ _)
    exact h4
  clear_value x6
  extract_lets +onlyGivenNames -merge -underBinder x7
  have h7 : Kept 0x108 s x7 := by
    unfold x7
    split
    ·
      refine Kept.foldl ?_ (fun _ _ h8 => ?_)
      · exact h6
      · refine Kept.step ?_ (State.installCol_kept _ _ _ _)
        exact h8
    ·
      refine Kept.step ?_ (State.installCol_kept _ _ _ _)
      exact h6
    ·
      exact h6
  clear_value x7
  refine Kept.foldl ?_ (fun _ _ h9 => ?_)
  · exact h7
  · refine Kept.foldl ?_ (fun _ _ h10 => ?_)
    · exact h9
    · refine Kept.step ?_ (State.setLoopClass_kept _ _ _ _)
      exact h10

theorem State.resumeLoops_kept : ∀ s a1 a2, Kept 0x18000008 s (State.resumeLoops s a1 a2) := by
  intro s a1 a2
  unfold State.resumeLoops
  extract_lets +onlyGivenNames -merge -underBinder x1
  have h1 : Kept 0x18000008 s x1 := by
    unfold x1
    refine Kept.foldl ?_ (fun _ _ h2 => ?_)
    · exact Kept.refl _ _
    · refine Kept.foldl ?_ (fun _ _ h3 => ?_)
      · exact h2
      · refine Kept.ite ?_ ?_
        · refine Kept.step ?_ (State.wr_kept _ _ _)
          exact h3
        · exact h3
  clear_value x1
  refine Kept.foldl ?_ (fun _ _ h4 => ?_)
  · exact h1
  · refine Kept.step ?_ (State.startLoops_kept _ _)
    exact h4

theorem State.acceptCal_kept : ∀ s a1, Kept 0x2420d8000108 s (State.acceptCal s a1) := by
  intro s a1
  unfold State.acceptCal
  extract_lets +onlyGivenNames -merge -underBinder x1
  extract_lets +onlyGivenNames -merge -underBinder x2
  extract_lets +onlyGivenNames -merge -underBinder x3
  have h3 : Kept 0x2420d8000108 s x3 := by
    unfold x3
    refine Kept.step ?_ (State.calDone_kept _ _)
    refine Kept.foldl ?_ (fun _ _ h4 => ?_)
    · refine Kept.step ?_ (State.installCal_kept _ _ _)
      exact Kept.refl _ _
    · refine Kept.step ?_ (State.startLoops_kept _ _)
      exact h4
  clear_value x3
  extract_lets +onlyGivenNames -merge -underBinder x5
  have h5 : Kept 0x2420d8000108 s x5 := by
    unfold x5
    refine Kept.foldl ?_ (fun _ _ h6 => ?_)
    · exact h3
    · extract_lets +onlyGivenNames -merge -underBinder x7
      have h7 : Kept 0x2420d8000108 s x7 := by
        unfold x7
        refine Kept.step ?_ (State.wr_kept _ _ _)
        exact h6
      clear_value x7
      extract_lets +onlyGivenNames -merge -underBinder x8
      have h8 : Kept 0x2420d8000108 s x8 := by
        unfold x8
        refine Kept.step ?_ (State.bump_kept _ _ _)
        refine Kept.step ?_ (State.setCalResult_kept _ _ _ _ _)
        refine Kept.step ?_ (State.wr64_kept _ _ _)
        exact h7
      clear_value x8
      extract_lets +onlyGivenNames -merge -underBinder x9
      have h9 : Kept 0x2420d8000108 s x9 := by
        unfold x9
        refine (Kept.upd ?_).kept
        exact h8
      clear_value x9
      extract_lets +onlyGivenNames -merge -underBinder x10
      have h10 : Kept 0x2420d8000108 s x10 := by
        unfold x10
        refine Kept.step ?_ (State.modLathe_kept _ _ _)
        exact h9
      clear_value x10
      refine Kept.step ?_ (State.post_kept _ _ _ _ _ _)
      exact h10
  clear_value x5
  extract_lets +onlyGivenNames -merge -underBinder x11
  have h11 : Kept 0x2420d8000108 s x11 := by
    unfold x11
    refine Kept.foldl ?_ (fun _ _ h12 => ?_)
    · exact h5
    · extract_lets +onlyGivenNames -merge -underBinder x13
      refine Kept.ite ?_ ?_
      · refine Kept.step ?_ (State.modLathe_kept _ _ _)
        refine Kept.step ?_ (State.calOut_kept _ _ _)
        exact h12
      · refine Kept.ite ?_ ?_
        · refine Kept.step ?_ (State.wantLanes_kept _ _)
          refine Kept.step ?_ (State.calOut_kept _ _ _)
          exact h12
        · refine Kept.ite ?_ ?_
          · refine Kept.step ?_ (State.modLathe_kept _ _ _)
            exact h12
          · refine Kept.step ?_ (State.leaveCal_kept _ _)
            exact h12
  clear_value x11
  refine Kept.foldl ?_ (fun _ _ h14 => ?_)
  · exact h11
  · refine Kept.step ?_ (State.thawed_kept _ _)
    exact h14

theorem execCalibrationEnd_kept : ∀ a0 s, OutKept 0x2420d8000108 s (execCalibrationEnd a0 s) := by
  intro a0 s
  unfold execCalibrationEnd
  extract_lets +onlyGivenNames -merge -underBinder x1
  extract_lets +onlyGivenNames -merge -underBinder x2
  extract_lets +onlyGivenNames -merge -underBinder x3
  refine OutKept.next ?_
  refine Kept.ite ?_ ?_
  · exact Kept.refl _ _
  · refine Kept.ite ?_ ?_
    · refine Kept.step ?_ (State.rejectCal_kept _ _ _)
      exact Kept.refl _ _
    · refine Kept.ite ?_ ?_
      · refine Kept.step ?_ (State.rejectCal_kept _ _ _)
        exact Kept.refl _ _
      · refine Kept.step ?_ (State.acceptCal_kept _ _)
        exact Kept.refl _ _

theorem execLocaliseEnd_kept : ∀ a0 a1 s, OutKept 0x24205a000108 s (execLocaliseEnd a0 a1 s) := by
  intro a0 a1 s
  unfold execLocaliseEnd
  extract_lets +onlyGivenNames -merge -underBinder x1
  extract_lets +onlyGivenNames -merge -underBinder x2
  refine OutKept.next ?_
  refine Kept.ite ?_ ?_
  · exact Kept.refl _ _
  · extract_lets +onlyGivenNames -merge -underBinder x3
    split
    ·
      extract_lets +onlyGivenNames -merge -underBinder x4
      have h4 : Kept 0x24205a000108 s x4 := by
        unfold x4
        refine Kept.step ?_ (State.showFits_kept _ _ _ _)
        refine Kept.step ?_ (State.setCal_kept _ _ _)
        exact Kept.refl _ _
      clear_value x4
      extract_lets +onlyGivenNames -merge -underBinder x5
      have h5 : Kept 0x24205a000108 s x5 := by
        unfold x5
        refine Kept.step ?_ (State.calDone_kept _ _)
        refine Kept.step ?_ (State.resumeLoops_kept _ _ _)
        exact h4
      clear_value x5
      extract_lets +onlyGivenNames -merge -underBinder x6
      have h6 : Kept 0x24205a000108 s x6 := by
        unfold x6
        refine Kept.foldl ?_ (fun _ _ h7 => ?_)
        · exact h5
        · refine Kept.step ?_ (State.setCalResult_kept _ _ _ _ _)
          refine Kept.step ?_ (State.modLathe_kept _ _ _)
          exact h7
      clear_value x6
      extract_lets +onlyGivenNames -merge -underBinder x8
      have h8 : Kept 0x24205a000108 s x8 := by
        unfold x8
        refine Kept.step ?_ (State.post_kept _ _ _ _ _ _)
        exact h6
      clear_value x8
      extract_lets +onlyGivenNames -merge -underBinder x9
      split
      ·
        unfold x9
        refine Kept.foldl ?_ (fun _ _ h10 => ?_)
        · refine Kept.step ?_ (State.post_kept _ _ _ _ _ _)
          exact h8
        · refine Kept.step ?_ (State.wantLanes_kept _ _)
          exact h10
      ·
        extract_lets +onlyGivenNames -merge -underBinder x11
        have h11 : Kept 0x24205a000108 s x11 := by
          unfold x11
          refine Kept.step ?_ (State.histPermanent_kept _ _ _ _ _)
          exact h8
        clear_value x11
        extract_lets +onlyGivenNames -merge -underBinder x12
        split
        ·
          extract_lets +onlyGivenNames -merge -underBinder x13
          have h13 : Kept 0x24205a000108 s x13 := by
            unfold x13
            refine Kept.foldl ?_ (fun _ _ h14 => ?_)
            · exact h11
            · refine Kept.step ?_ (State.powerAdcs_kept _ _)
              refine Kept.step ?_ (State.renameLoops_kept _ _)
              refine Kept.step ?_ (State.replaced_kept _ _ _ _ _)
              refine Kept.step ?_ (State.wf_kept _ _ _ _)
              exact h14
          clear_value x13
          refine Kept.step ?_ (State.askCal_kept _ _ _ _ _ _)
          refine Kept.step ?_ (State.post_kept _ _ _ _ _ _)
          exact h13
        ·
          unfold x9
          refine Kept.foldl ?_ (fun _ _ h15 => ?_)
          · refine Kept.step ?_ (State.post_kept _ _ _ _ _ _)
            exact h11
          · refine Kept.step ?_ (State.wantLanes_kept _ _)
            exact h15

theorem execStandbyLocked_kept : ∀ a0 s, OutKept 0x242058000108 s (execStandbyLocked a0 s) := by
  intro a0 s
  unfold execStandbyLocked
  extract_lets +onlyGivenNames -merge -underBinder x1
  refine OutKept.next ?_
  refine Kept.ite ?_ ?_
  · exact Kept.refl _ _
  · extract_lets +onlyGivenNames -merge -underBinder x2
    have h2 : Kept 0x242058000108 s x2 := by
      unfold x2
      refine Kept.step ?_ (State.wf_kept _ _ _ _)
      exact Kept.refl _ _
    clear_value x2
    extract_lets +onlyGivenNames -merge -underBinder x3
    have h3 : Kept 0x242058000108 s x3 := by
      unfold x3
      refine Kept.foldl ?_ (fun _ _ h4 => ?_)
      · exact h2
      · refine Kept.step ?_ (State.reinit_kept _ _)
        exact h4
    clear_value x3
    extract_lets +onlyGivenNames -merge -underBinder x5
    have h5 : Kept 0x242058000108 s x5 := by
      unfold x5
      refine Kept.step ?_ (State.post_kept _ _ _ _ _ _)
      exact h3
    clear_value x5
    extract_lets +onlyGivenNames -merge -underBinder x6
    refine Kept.ite ?_ ?_
    · extract_lets +onlyGivenNames -merge -underBinder x7
      have h7 : Kept 0x242058000108 s x7 := by
        unfold x7
        refine Kept.step ?_ (State.modCal_kept _ _ _)
        exact h5
      clear_value x7
      refine Kept.ite ?_ ?_
      · refine Kept.foldl ?_ (fun _ _ h8 => ?_)
        · exact h7
        · refine Kept.step ?_ (State.phaseOne_kept _ _)
          exact h8
      · refine Kept.step ?_ (State.wantLanes_kept _ _)
        exact h7
    · refine Kept.step ?_ (State.wantLanes_kept _ _)
      exact h5

end Sys2Proof.Machine
end

