-- ==== Sys2Proof/Laws/FrameFinisher.lean ====
section
/-! SUPPORT. What each operation of `Machine/Finisher.lean` may change: one lemma each, the parts it may change as a mask of `Part.no` bits. -/
set_option linter.unusedVariables false
set_option Elab.async false
namespace Sys2Proof.Machine

theorem State.writeDst_kept : ∀ s a1 a2 a3 a4 a5 a6, Kept 0x3272000737f38 s (State.writeDst s a1 a2 a3 a4 a5 a6) := by
  intro s a1 a2 a3 a4 a5 a6
  unfold State.writeDst
  refine Kept.ite ?_ ?_
  · refine Kept.step ?_ (State.countInf_kept _ _ _ _)
    refine Kept.step ?_ (State.writeFor_kept _ _ _ _ _ _ _)
    exact Kept.refl _ _
  · refine Kept.foldl ?_ (fun _ _ h1 => ?_)
    · exact Kept.refl _ _
    · refine Kept.step ?_ (State.issue_kept _ _ _)
      exact h1

end Sys2Proof.Machine
end

