-- ==== Sys2Proof/Laws/FrameDrains.lean ====
section
/-! SUPPORT. What each operation of `Machine/Drains.lean` may change: one lemma each, the parts it may change as a mask of `Part.no` bits. -/
set_option linter.unusedVariables false
set_option Elab.async false
namespace Sys2Proof.Machine

theorem State.readBad_kept : ∀ s a1 a2 a3 a4, Kept 0x242000000008 s (State.readBad s a1 a2 a3 a4) := by
  intro s n ctx o a
  unfold State.readBad
  extract_lets get
  have hg : ∀ t x, Kept 0x242000000008 s t → Kept 0x242000000008 s (get t x) := fun t x ht =>
    Kept.step (Kept.step ht (State.readFor_kept _ _ _ _ _)) (State.countInf_kept _ _ _ _)
  exact hg _ _ (Kept.ite (hg _ _ (Kept.refl _ _)) (Kept.refl _ _))

theorem State.readAll_kept : ∀ s a1 a2 a3, Kept 0x242000000008 s (State.readAll s a1 a2 a3).2 := by
  intro s a1 a2 a3
  unfold State.readAll
  refine Kept.foldl2 ?_ (fun _ _ h1 => ?_)
  · dsimp only
    exact Kept.refl _ _
  · extract_lets +onlyGivenNames -merge -underBinder x2
    have h2 : Kept 0x242000000008 s x2.2 := by
      unfold x2
      refine Kept.step ?_ (State.readFor_kept _ _ _ _ _)
      exact h1
    clear_value x2
    dsimp only
    refine Kept.step ?_ (State.countInf_kept _ _ _ _)
    exact h2

theorem State.putFin_kept : ∀ s a1 a2 a3 a4 a5 a6, Kept 0x262000402038 s (State.putFin s a1 a2 a3 a4 a5 a6) := by
  intro s a1 a2 a3 a4 a5 a6
  unfold State.putFin
  refine Kept.step ?_ (State.countInf_kept _ _ _ _)
  refine Kept.step ?_ (State.writeFor_kept _ _ _ _ _ _ _)
  exact Kept.refl _ _

theorem State.putNarrowW_kept : ∀ s a1 a2 a3 a4 a5 a6 a7 a8, Kept 0x3272000737f38 s (State.putNarrowW s a1 a2 a3 a4 a5 a6 a7 a8) := by
  intro s a1 a2 a3 a4 a5 a6 a7 a8
  unfold State.putNarrowW
  extract_lets +onlyGivenNames -merge -underBinder x1
  refine Kept.ite ?_ ?_
  · refine Kept.step ?_ (State.writeDst_kept _ _ _ _ _ _ _)
    exact Kept.refl _ _
  · refine Kept.foldl ?_ (fun _ _ h2 => ?_)
    · refine Kept.step ?_ (State.writeDst_kept _ _ _ _ _ _ _)
      exact Kept.refl _ _
    · refine Kept.step ?_ (State.writeDst_kept _ _ _ _ _ _ _)
      exact h2

theorem updBlock_kept (n who ctx u dst rM rV rW count word parity a blk) :
    Kept 0x3272000737f38 a.s (updBlock n who ctx u dst rM rV rW count word parity a blk).s := by
  unfold updBlock
  extract_lets lo cnt r0 flagged r hit poison w b s1 s2 s3 s4
  have h00 : Kept 0x3272000737f38 a.s r0.2 := Kept.step (Kept.refl _ _) (State.readAll_kept _ _ _ _)
  have h0 : Kept 0x3272000737f38 a.s r.2 := Kept.ite2 (Kept.step h00 (State.pathParity_kept _ _ _ _ _ _)) h00
  have h1 : Kept 0x3272000737f38 a.s s1 := Kept.step h0 (State.putFin_kept _ _ _ _ _ _ _)
  clear_value s1
  have h2 : Kept 0x3272000737f38 a.s s2 := Kept.step h1 (State.putFin_kept _ _ _ _ _ _ _)
  clear_value s2
  have h3 : Kept 0x3272000737f38 a.s s3 := Kept.step h2 (State.putFin_kept _ _ _ _ _ _ _)
  clear_value s3
  exact Kept.ite h3 (Kept.step h3 (State.putNarrowW_kept _ _ _ _ _ _ _ _ _))
theorem State.runUpdate_kept : ∀ s a1 a2 a3 a4 a5 a6, Kept 0x3272000737f38 s (State.runUpdate s a1 a2 a3 a4 a5 a6) := by
  intro s n who ctx o dst parity
  unfold State.runUpdate
  extract_lets u word rM rV rW r0 s1 a upd s2 s3 s4 s5
  have h1 : Kept 0x3272000737f38 s s1 := Kept.step (Kept.step (Kept.refl _ _) (State.readFor_kept _ _ _ _ _)) (State.countInf_kept _ _ _ _)
  have ha : Kept 0x3272000737f38 s a.s :=
    Kept.fold UpdAcc.s h1 (fun y blk hy => Kept.step hy (updBlock_kept _ _ _ _ _ _ _ _ _ _ _ _ _))
  clear_value a
  have h2 : Kept 0x3272000737f38 s s2 := Kept.step ha (State.modLathe_kept _ _ _)
  clear_value s2
  have h3 : Kept 0x3272000737f38 s s3 :=
    Kept.step (Kept.step (Kept.step (Kept.step h2 (State.bump_kept _ _ _)) (State.bump_kept _ _ _)) (State.bump_kept _ _ _)) (State.bump_kept _ _ _)
  clear_value s3
  have h4 : Kept 0x3272000737f38 s s4 := Kept.step h3 (State.postLim_kept _ _ _ _ _ _ _ _ _ _)
  clear_value s4
  have h5 : Kept 0x3272000737f38 s s5 := Kept.step h4 (State.noteNan_kept _ _ _ _ _)
  clear_value s5
  generalize a.poison = q
  cases q with
  | none => exact h5
  | some x => exact Kept.step h5 (State.usePoison_kept _ _ _ _ _ _)

theorem execDrain_kept : ∀ a0 a1 a2 a3 s, OutKept 0x3272000737f38 s (execDrain a0 a1 a2 a3 s) := by
  intro a0 a1 a2 a3 s
  unfold execDrain
  refine OutKept.next ?_
  split
  ·
    extract_lets +onlyGivenNames -merge -underBinder x1
    refine Kept.ite ?_ ?_
    · exact Kept.refl _ _
    · refine Kept.ite ?_ ?_
      · exact Kept.refl _ _
      · split
        ·
          refine Kept.step ?_ (State.faultAbort_kept _ _ _ _ _)
          refine Kept.step ?_ (State.post_kept _ _ _ _ _ _)
          refine Kept.step ?_ (State.readBad_kept _ _ _ _ _)
          exact Kept.refl _ _
        ·
          refine Kept.ite ?_ ?_
          · refine Kept.ite ?_ ?_
            · refine Kept.foldl ?_ (fun _ _ h2 => ?_)
              · refine Kept.step ?_ (State.setStage_kept _ _ _ _ _)
                exact Kept.refl _ _
              · refine Kept.step ?_ (State.runUpdate_kept _ _ _ _ _ _ _)
                exact h2
            · exact Kept.refl _ _
          · extract_lets +onlyGivenNames -merge -underBinder x3
            split
            ·
              refine Kept.step ?_ (State.groupMisuse_kept _ _ _ _ _ _ _)
              exact Kept.refl _ _
            ·
              refine Kept.foldl ?_ (fun _ _ h4 => ?_)
              · refine Kept.step ?_ (State.setStage_kept _ _ _ _ _)
                exact Kept.refl _ _
              · refine Kept.step ?_ (State.modGroup_kept _ _ _ _)
                exact h4
  ·
    exact Kept.refl _ _

theorem State.readFin_kept : ∀ s a1 a2 a3 a4, Kept 0x242000000008 s (State.readFin s a1 a2 a3 a4).2 := by
  intro s a1 a2 a3 a4
  unfold State.readFin
  extract_lets +onlyGivenNames -merge -underBinder x1
  have h1 : Kept 0x242000000008 s x1.2 := by
    unfold x1
    refine Kept.step ?_ (State.readFor_kept _ _ _ _ _)
    exact Kept.refl _ _
  clear_value x1
  dsimp only
  refine Kept.step ?_ (State.countInf_kept _ _ _ _)
  exact h1

theorem State.drainParity_kept : ∀ s a1 a2 a3 a4 a5 a6, Kept 0x242000000008 s (State.drainParity s a1 a2 a3 a4 a5 a6) := by
  intro s a1 a2 a3 a4 a5 a6
  unfold State.drainParity
  split
  ·
    refine Kept.ite ?_ ?_
    · refine Kept.step ?_ (State.pathParity_kept _ _ _ _ _ _)
      exact Kept.refl _ _
    · exact Kept.refl _ _
  ·
    exact Kept.refl _ _

theorem State.readOld_kept : ∀ s a1 a2 a3 a4, Kept 0x242000000008 s (State.readOld s a1 a2 a3 a4).2 := by
  intro s a1 a2 a3 a4
  unfold State.readOld
  refine Kept.ite2 ?_ ?_
  · extract_lets +onlyGivenNames -merge -underBinder x1
    have h1 : Kept 0x242000000008 s x1.2 := by
      unfold x1
      refine Kept.step ?_ (State.readFin_kept _ _ _ _ _)
      exact Kept.refl _ _
    clear_value x1
    dsimp only
    exact h1
  · extract_lets +onlyGivenNames -merge -underBinder x2
    extract_lets +onlyGivenNames -merge -underBinder x3
    dsimp only
    exact Kept.refl _ _

theorem State.rowIn_kept : ∀ s a1 a2 a3 a4 a5 a6 a7 a8, Kept 0x242000000008 s (State.rowIn s a1 a2 a3 a4 a5 a6 a7 a8).2 := by
  intro s a1 a2 a3 a4 a5 a6 a7 a8
  unfold State.rowIn
  extract_lets +onlyGivenNames -merge -underBinder x1
  extract_lets +onlyGivenNames -merge -underBinder x2
  have h2 : Kept 0x242000000008 s x2.2 := by
    unfold x2
    refine Kept.ite2 ?_ ?_
    · refine Kept.step ?_ (State.readFin_kept _ _ _ _ _)
      exact Kept.refl _ _
    · dsimp only
      exact Kept.refl _ _
  clear_value x2
  extract_lets +onlyGivenNames -merge -underBinder x3
  extract_lets +onlyGivenNames -merge -underBinder x4
  extract_lets +onlyGivenNames -merge -underBinder x5
  have h5 : Kept 0x242000000008 s x5.2 := by
    unfold x5
    refine Kept.ite2 ?_ ?_
    · refine Kept.step ?_ (State.readFin_kept _ _ _ _ _)
      exact h2
    · dsimp only
      exact h2
  clear_value x5
  extract_lets +onlyGivenNames -merge -underBinder x6
  extract_lets +onlyGivenNames -merge -underBinder x7
  have h7 : Kept 0x242000000008 s x7.2 := by
    unfold x7
    refine Kept.ite2 ?_ ?_
    · refine Kept.step ?_ (State.readOld_kept _ _ _ _ _)
      exact h5
    · dsimp only
      exact h5
  clear_value x7
  dsimp only
  exact h7

theorem drainRow_kept (n who ctx o dst aux sv bv base i x a) :
    Kept 0x3272000737fb8 a.s (drainRow n who ctx o dst aux sv bv base i x a).2.s := by
  unfold drainRow
  extract_lets row seen ws key rs r s1 poison e s2 s3
  have h0 : Kept 0x3272000737fb8 a.s r.2 := Kept.step (Kept.refl _ _) (State.rowIn_kept _ _ _ _ _ _ _ _ _)
  have h1 : Kept 0x3272000737fb8 a.s s1 := by
    unfold s1
    generalize r.1.bad = q
    cases q with
    | none => exact h0
    | some z => exact Kept.step h0 (State.usePoison_kept _ _ _ _ _ _)
  clear_value s1
  have h2 : Kept 0x3272000737fb8 a.s s2 := (Kept.upd h1).kept
  clear_value s2
  exact Kept.ite (Kept.step h2 (State.writeDst_kept _ _ _ _ _ _ _)) h2
theorem drainRows_kept (n who ctx o dst aux sv bv base i0 rows a) :
    Kept 0x3272000737fb8 a.s (drainRows n who ctx o dst aux sv bv base i0 rows a).2.s := by
  unfold drainRows
  refine Kept.fold (fun (y : List (List F32) × DrainAcc) => y.2.s) (Kept.refl _ _) ?_
  intro y j hy
  exact Kept.step hy (drainRow_kept _ _ _ _ _ _ _ _ _ _ _ _)
theorem drainBlock_kept (n who ctx o r map dst aux sv bv base compBase a blk) :
    Kept 0x3272000737fb8 a.s (drainBlock n who ctx o r map dst aux sv bv base compBase a blk).s := by
  unfold drainBlock
  extract_lets r0 rows b s1 seed u st len poison comp s2 v s3 half
  have h0 : Kept 0x3272000737fb8 a.s b.s := drainRows_kept _ _ _ _ _ _ _ _ _ _ _ _
  clear_value b
  split
  · have h2 : Kept 0x3272000737fb8 a.s s2 := Kept.step h0 (State.writeDst_kept _ _ _ _ _ _ _)
    clear_value s2
    exact Kept.ite h2 (Kept.step (Kept.step h2 (State.writeFor_kept _ _ _ _ _ _ _)) (State.countInf_kept _ _ _ _))
  · split
    · exact h0
    · refine Kept.fold DrainAcc.s h0 (fun y e hy => ?_)
      exact Kept.ite (Kept.step hy (State.writeDst_kept _ _ _ _ _ _ _)) (Kept.step hy (State.reduceDst_kept _ _ _ _ _ _ _ _ _ _ _))
theorem State.runDrain_kept : ∀ s a1 a2 a3 a4 a5, Kept 0x3272000737fb8 s (State.runDrain s a1 a2 a3 a4 a5) := by
  intro s n d o ctx parity
  unfold State.runDrain
  extract_lets x b who dst vec aux member blocks r words map at_ r0 s1 r00 s1b r01 s1d s1c s2 a s3 s4 s5 upd
  have h0 : Kept 0x3272000737fb8 s r0.2 := Kept.ite2 (Kept.step (Kept.refl _ _) (State.readFin_kept _ _ _ _ _)) (Kept.refl _ _)
  have h1 : Kept 0x3272000737fb8 s s1 := by
    unfold s1
    generalize r0.1 = q
    cases q with
    | none => exact h0
    | some z => exact Kept.step h0 (State.usePoison_kept _ _ _ _ _ _)
  clear_value s1
  have h00 : Kept 0x3272000737fb8 s r00.2 := Kept.ite2 (Kept.step h1 (State.readFin_kept _ _ _ _ _)) h1
  have h1b : Kept 0x3272000737fb8 s s1b := by
    unfold s1b
    generalize r00.1 = q
    cases q with
    | none => exact h00
    | some z => exact Kept.step h00 (State.usePoison_kept _ _ _ _ _ _)
  clear_value s1b
  have h01 : Kept 0x3272000737fb8 s r01.2 := Kept.ite2 (Kept.step h1b (State.readFin_kept _ _ _ _ _)) h1b
  have h1d : Kept 0x3272000737fb8 s s1d := by
    unfold s1d
    generalize r01.1 = q
    cases q with
    | none => exact h01
    | some z => exact Kept.step h01 (State.usePoison_kept _ _ _ _ _ _)
  clear_value s1d
  have h1c : Kept 0x3272000737fb8 s s1c := Kept.step h1d (State.drainParity_kept _ _ _ _ _ _ _)
  clear_value s1c
  have h2 : Kept 0x3272000737fb8 s s2 := Kept.ite (Kept.foldl h1c (fun y i hy => (Kept.upd hy).kept)) h1c
  clear_value s2
  have ha : Kept 0x3272000737fb8 s a.s := Kept.fold DrainAcc.s h2 (fun y blk hy => Kept.step hy (drainBlock_kept _ _ _ _ _ _ _ _ _ _ _ _ _ _))
  clear_value a
  have h3 : Kept 0x3272000737fb8 s s3 := Kept.step ha (State.modLathe_kept _ _ _)
  clear_value s3
  have h4 : Kept 0x3272000737fb8 s s4 := Kept.step (Kept.step h3 (State.bump_kept _ _ _)) (State.noteNan_kept _ _ _ _ _)
  clear_value s4
  have h5 : Kept 0x3272000737fb8 s s5 := Kept.ite (Kept.step h4 (State.poisonGroup_kept _ _ _)) h4
  clear_value s5
  exact Kept.step h5 (State.modGroup_kept _ _ _ _)

theorem State.askOld_kept : ∀ s a1 a2 a3 a4 a5, Kept 0x3252000737f38 s (State.askOld s a1 a2 a3 a4 a5) := by
  intro s a1 a2 a3 a4 a5
  unfold State.askOld
  extract_lets +onlyGivenNames -merge -underBinder x1
  refine Kept.foldl ?_ (fun _ _ h2 => ?_)
  · refine Kept.step ?_ (State.modLathe_kept _ _ _)
    exact Kept.refl _ _
  · refine Kept.step ?_ (State.issue_kept _ _ _)
    exact h2

theorem execDrainStart_kept : ∀ a0 a1 a2 s, OutKept 0x3272000737fb8 s (execDrainStart a0 a1 a2 s) := by
  intro a0 a1 a2 s
  unfold execDrainStart
  extract_lets +onlyGivenNames -merge -underBinder x1
  refine OutKept.next ?_
  split
  ·
    split
    ·
      refine Kept.ite ?_ ?_
      · extract_lets +onlyGivenNames -merge -underBinder x2
        extract_lets +onlyGivenNames -merge -underBinder x3
        extract_lets +onlyGivenNames -merge -underBinder x4
        have h4 : Kept 0x3272000737fb8 s x4 := by
          unfold x4
          refine Kept.step ?_ (State.modLathe_kept _ _ _)
          refine Kept.step ?_ (State.modGroup_kept _ _ _ _)
          exact Kept.refl _ _
        clear_value x4
        extract_lets +onlyGivenNames -merge -underBinder x5
        extract_lets +onlyGivenNames -merge -underBinder x6
        extract_lets +onlyGivenNames -merge -underBinder x7
        have h7 : Kept 0x3272000737fb8 s x7 := by
          unfold x7
          refine Kept.step ?_ (State.modLathe_kept _ _ _)
          exact h4
        clear_value x7
        split
        ·
          refine Kept.step ?_ (State.runDrain_kept _ _ _ _ _ _)
          exact h7
        ·
          refine Kept.step ?_ (State.askOld_kept _ _ _ _ _ _)
          exact h7
      · refine Kept.ite ?_ ?_
        · refine Kept.step ?_ (State.modLathe_kept _ _ _)
          refine Kept.step ?_ (State.runDrain_kept _ _ _ _ _ _)
          exact Kept.refl _ _
        · exact Kept.refl _ _
    ·
      exact Kept.refl _ _
  ·
    exact Kept.refl _ _

theorem execDrainEnd_kept : ∀ a0 s, OutKept 0x8708 s (execDrainEnd a0 s) := by
  intro a0 s
  unfold execDrainEnd
  extract_lets +onlyGivenNames -merge -underBinder x1
  extract_lets +onlyGivenNames -merge -underBinder x2
  extract_lets +onlyGivenNames -merge -underBinder x3
  refine OutKept.next ?_
  refine Kept.ite ?_ ?_
  · extract_lets +onlyGivenNames -merge -underBinder x4
    have h4 : Kept 0x8708 s x4 := by
      unfold x4
      refine Kept.step ?_ (State.modLathe_kept _ _ _)
      refine Kept.step ?_ (State.setGroup_kept _ _ _ _)
      exact Kept.refl _ _
    clear_value x4
    extract_lets +onlyGivenNames -merge -underBinder x5
    have h5 : Kept 0x8708 s x5 := by
      unfold x5
      refine Kept.step ?_ (State.bump_kept _ _ _)
      refine (Kept.upd ?_).kept
      exact h4
    clear_value x5
    split
    ·
      refine Kept.step ?_ (State.settleStage_kept _ _)
      exact h5
    ·
      exact h5
  · refine Kept.ite ?_ ?_
    · extract_lets +onlyGivenNames -merge -underBinder x6
      have h6 : Kept 0x8708 s x6 := by
        unfold x6
        refine Kept.step ?_ (State.modLathe_kept _ _ _)
        exact Kept.refl _ _
      clear_value x6
      split
      ·
        refine Kept.step ?_ (State.settleStage_kept _ _)
        refine (Kept.upd ?_).kept
        exact h6
      ·
        exact h6
    · exact Kept.refl _ _

theorem State.putNum_kept : ∀ s a1 a2 a3, Kept 0x30 s (State.putNum s a1 a2 a3) := by
  intro s a1 a2 a3
  unfold State.putNum
  refine Kept.step ?_ (State.setBytes_kept _ _ _)
  exact Kept.refl _ _

theorem State.addScale_kept : ∀ s a1, Kept 0xa038 s (State.addScale s a1) := by
  intro s a1
  unfold State.addScale
  extract_lets +onlyGivenNames -merge -underBinder x1
  extract_lets +onlyGivenNames -merge -underBinder x2
  extract_lets +onlyGivenNames -merge -underBinder x3
  extract_lets +onlyGivenNames -merge -underBinder x4
  extract_lets +onlyGivenNames -merge -underBinder x5
  extract_lets +onlyGivenNames -merge -underBinder x6
  extract_lets +onlyGivenNames -merge -underBinder x7
  extract_lets +onlyGivenNames -merge -underBinder x8
  extract_lets +onlyGivenNames -merge -underBinder x9
  have h9 : Kept 0xa038 s x9 := by
    unfold x9
    refine Kept.step ?_ (State.countInf_kept _ _ _ _)
    refine Kept.step ?_ (State.countInf_kept _ _ _ _)
    refine Kept.step ?_ (State.cancelScrub_kept _ _ _)
    refine Kept.step ?_ (State.countMarks_kept _ _ _)
    exact Kept.refl _ _
  clear_value x9
  extract_lets +onlyGivenNames -merge -underBinder x10
  have h10 : Kept 0xa038 s x10 := by
    unfold x10
    refine Kept.step ?_ (State.putNum_kept _ _ _ _)
    refine Kept.step ?_ (State.putNum_kept _ _ _ _)
    refine Kept.step ?_ (State.putNum_kept _ _ _ _)
    refine Kept.step ?_ (State.putNum_kept _ _ _ _)
    refine Kept.step ?_ (State.putNum_kept _ _ _ _)
    exact h9
  clear_value x10
  refine Kept.ite ?_ ?_
  · refine (Kept.upd ?_).kept
    exact h10
  · exact h10

theorem execScaleRecordUpdate_kept : ∀ s, OutKept 0x24200000a438 s (execScaleRecordUpdate s) := by
  intro s
  unfold execScaleRecordUpdate
  refine OutKept.next ?_
  split
  ·
    extract_lets +onlyGivenNames -merge -underBinder x1
    have h1 : Kept 0x24200000a438 s x1 := by
      unfold x1
      refine (Kept.upd ?_).kept
      exact Kept.refl _ _
    clear_value x1
    refine Kept.step ?_ (State.settleStage_kept _ _)
    refine Kept.ite ?_ ?_
    · refine Kept.step ?_ (State.addScale_kept _ _)
      exact h1
    · refine Kept.step ?_ (State.unmappedEvent_kept _ _ _ _ _)
      exact h1
  ·
    exact Kept.refl _ _

theorem State.judgeScale_kept : ∀ s a1, Kept 0x242000002038 s (State.judgeScale s a1) := by
  intro s a1
  unfold State.judgeScale
  extract_lets +onlyGivenNames -merge -underBinder x1
  extract_lets +onlyGivenNames -merge -underBinder x2
  extract_lets +onlyGivenNames -merge -underBinder x3
  extract_lets +onlyGivenNames -merge -underBinder x4
  extract_lets +onlyGivenNames -merge -underBinder x5
  extract_lets +onlyGivenNames -merge -underBinder x6
  extract_lets +onlyGivenNames -merge -underBinder x7
  extract_lets +onlyGivenNames -merge -underBinder x8
  have h8 : Kept 0x242000002038 s x8 := by
    unfold x8
    refine Kept.step ?_ (State.countInf_kept _ _ _ _)
    refine Kept.step ?_ (State.putNum_kept _ _ _ _)
    refine Kept.step ?_ (State.cancelScrub_kept _ _ _)
    exact Kept.refl _ _
  clear_value x8
  extract_lets +onlyGivenNames -merge -underBinder x9
  have h9 : Kept 0x242000002038 s x9 := by
    unfold x9
    refine Kept.ite ?_ ?_
    · refine Kept.step ?_ (State.post_kept _ _ _ _ _ _)
      exact h8
    · exact h8
  clear_value x9
  refine Kept.ite ?_ ?_
  · refine Kept.step ?_ (State.post_kept _ _ _ _ _ _)
    exact h9
  · exact h9

theorem execScaleRecordEvaluate_kept : ∀ s, OutKept 0x24200000a438 s (execScaleRecordEvaluate s) := by
  intro s
  unfold execScaleRecordEvaluate
  refine OutKept.next ?_
  split
  ·
    refine Kept.step ?_ (State.settleStage_kept _ _)
    refine Kept.step ?_ (State.judgeScale_kept _ _)
    refine (Kept.upd ?_).kept
    exact Kept.refl _ _
  ·
    exact Kept.refl _ _

end Sys2Proof.Machine
end

