-- ==== Sys2Proof/Laws/FrameEngineOps.lean ====
section
/-! SUPPORT. What each operation of `Machine/EngineOps.lean` may change: one lemma each, the parts it may change as a mask of `Part.no` bits. -/
set_option linter.unusedVariables false
set_option Elab.async false
namespace Sys2Proof.Machine

theorem State.deliverHost_kept : ∀ s a1 a2 a3, Kept 0x2252000737f38 s (State.deliverHost s a1 a2 a3) := by
  intro s a1 a2 a3
  unfold State.deliverHost
  extract_lets +onlyGivenNames -merge -underBinder x1
  extract_lets +onlyGivenNames -merge -underBinder x2
  have h2 : Kept 0x2252000737f38 s x2 := by
    unfold x2
    refine Kept.ite ?_ ?_
    · exact Kept.refl _ _
    · split
      ·
        refine Kept.step ?_ (State.answerMirror_kept _ _ _ _)
        exact Kept.refl _ _
      ·
        refine Kept.step ?_ (State.answerDesc_kept _ _ _ _ _)
        exact Kept.refl _ _
      ·
        refine Kept.step ?_ (State.landReduce_kept _ _)
        exact Kept.refl _ _
      ·
        exact Kept.refl _ _
  clear_value x2
  refine Kept.step ?_ (State.settleStage_kept _ _)
  exact h2

theorem State.failHost_kept : ∀ s a1 a2, Kept 0x2252000737f38 s (State.failHost s a1 a2) := by
  intro s a1 a2
  unfold State.failHost
  refine Kept.step ?_ (State.deliverHost_kept _ _ _ _)
  refine Kept.step ?_ (State.hostFail_kept _ _ _ _ _ _)
  exact Kept.refl _ _

theorem State.rejectArm_kept : ∀ s a1 a2 a3 a4, Kept 0x242000000008 s (State.rejectArm s a1 a2 a3 a4) := by
  intro s a1 a2 a3 a4
  unfold State.rejectArm
  extract_lets +onlyGivenNames -merge -underBinder x1
  have h1 : Kept 0x242000000008 s x1 := by
    unfold x1
    refine Kept.step ?_ (State.bump_kept _ _ _)
    exact Kept.refl _ _
  clear_value x1
  refine Kept.step ?_ (State.postLim_kept _ _ _ _ _ _ _ _ _ _)
  exact h1

theorem State.semOverflow_kept : ∀ s a1 a2 a3, Kept 0x242000000008 s (State.semOverflow s a1 a2 a3) := by
  intro s a1 a2 a3
  unfold State.semOverflow
  refine Kept.ite ?_ ?_
  · refine Kept.step ?_ (State.post_kept _ _ _ _ _ _)
    exact Kept.refl _ _
  · exact Kept.refl _ _

theorem State.addSem_kept : ∀ s a1 a2 a3 a4, Kept 0x242000001408 s (State.addSem s a1 a2 a3 a4).2 := by
  intro s a1 a2 a3 a4
  unfold State.addSem
  extract_lets +onlyGivenNames -merge -underBinder x1
  extract_lets +onlyGivenNames -merge -underBinder x2
  extract_lets +onlyGivenNames -merge -underBinder x3
  have h3 : Kept 0x242000001408 s x3 := by
    unfold x3
    refine Kept.step ?_ (State.wr_kept _ _ _)
    exact Kept.refl _ _
  clear_value x3
  extract_lets +onlyGivenNames -merge -underBinder x4
  have h4 : Kept 0x242000001408 s x4 := by
    unfold x4
    refine Kept.ite ?_ ?_
    · refine Kept.step ?_ (State.semOverflow_kept _ _ _ _)
      exact h3
    · exact h3
  clear_value x4
  dsimp only
  refine Kept.step ?_ (State.testWaiters_kept _ _)
  exact h4

theorem State.askHost_kept : ∀ s a1, Kept 0x2252000737f38 s (State.askHost s a1) := by
  intro s a1
  unfold State.askHost
  refine Kept.foldl ?_ (fun _ _ h1 => ?_)
  · exact Kept.refl _ _
  · refine Kept.ite ?_ ?_
    · refine Kept.step ?_ (State.deliverHost_kept _ _ _ _)
      refine Kept.step ?_ (State.unmappedEvent_kept _ _ _ _ _)
      exact h1
    · refine Kept.ite ?_ ?_
      · refine Kept.step ?_ (State.failHost_kept _ _ _)
        exact h1
      · refine Kept.ite ?_ ?_
        · refine Kept.step ?_ (State.notePeak_kept _)
          extract_lets +onlyGivenNames -merge -underBinder x2
          have h2 : Kept 0x2252000737f38 s x2 := by
            unfold x2
            refine Kept.step ?_ (State.wakeLink_kept _)
            exact h1
          clear_value x2
          refine (Kept.upd ?_).kept
          exact h2
        · refine Kept.step ?_ (State.notePeak_kept _)
          extract_lets +onlyGivenNames -merge -underBinder x3
          have h3 : Kept 0x2252000737f38 s x3 := by
            unfold x3
            refine Kept.step ?_ (State.wakeLink_kept _)
            exact h1
          clear_value x3
          refine (Kept.upd ?_).kept
          exact h3

theorem State.askRow_kept : ∀ s a1 a2 a3 a4 a5 a6, Kept 0x3252000737f38 s (State.askRow s a1 a2 a3 a4 a5 a6) := by
  intro s a1 a2 a3 a4 a5 a6
  unfold State.askRow
  extract_lets +onlyGivenNames -merge -underBinder x1
  extract_lets +onlyGivenNames -merge -underBinder x2
  extract_lets +onlyGivenNames -merge -underBinder x3
  extract_lets +onlyGivenNames -merge -underBinder x4
  have h4 : Kept 0x3252000737f38 s x4 := by
    unfold x4
    refine Kept.step ?_ (State.setDesc_kept _ _ _ _)
    exact Kept.refl _ _
  clear_value x4
  split
  ·
    refine Kept.foldl ?_ (fun _ _ h5 => ?_)
    · exact h4
    · refine Kept.step ?_ (State.issue_kept _ _ _)
      exact h5
  ·
    extract_lets +onlyGivenNames -merge -underBinder x6
    refine Kept.step ?_ (State.askHost_kept _ _)
    exact h4

theorem State.beginTransfer_kept : ∀ s a1 a2, Kept 0x3252000737f38 s (State.beginTransfer s a1 a2) := by
  intro s a1 a2
  unfold State.beginTransfer
  extract_lets +onlyGivenNames -merge -underBinder x1
  extract_lets +onlyGivenNames -merge -underBinder x2
  have h2 : Kept 0x3252000737f38 s x2 := by
    unfold x2
    refine Kept.step ?_ (State.setDesc_kept _ _ _ _)
    exact Kept.refl _ _
  clear_value x2
  refine Kept.ite ?_ ?_
  · exact h2
  · refine Kept.foldl ?_ (fun _ _ h3 => ?_)
    · exact h2
    · refine Kept.step ?_ (State.askRow_kept _ _ _ _ _ _ _)
      exact h3

theorem State.semMisuseEvent_kept : ∀ s a1 a2, Kept 0x242000000008 s (State.semMisuseEvent s a1 a2) := by
  intro s a1 a2
  unfold State.semMisuseEvent
  refine Kept.step ?_ (State.post_kept _ _ _ _ _ _)
  exact Kept.refl _ _

theorem State.askAgain_kept : ∀ s a1 a2 a3, Kept 0x3252000737f38 s (State.askAgain s a1 a2 a3) := by
  intro s a1 a2 a3
  unfold State.askAgain
  extract_lets +onlyGivenNames -merge -underBinder x1
  extract_lets +onlyGivenNames -merge -underBinder x2
  extract_lets +onlyGivenNames -merge -underBinder x3
  have h3 : Kept 0x3252000737f38 s x3 := by
    unfold x3
    refine Kept.step ?_ (State.setDesc_kept _ _ _ _)
    exact Kept.refl _ _
  clear_value x3
  refine Kept.foldl ?_ (fun _ _ h4 => ?_)
  · exact h3
  · refine Kept.step ?_ (State.askRow_kept _ _ _ _ _ _ _)
    exact h4

theorem State.putRow_kept : ∀ s a1 a2 a3 a4 a5 a6, Kept 0x3272000737f38 s (State.putRow s a1 a2 a3 a4 a5 a6) := by
  intro s a1 a2 a3 a4 a5 a6
  unfold State.putRow
  extract_lets +onlyGivenNames -merge -underBinder x1
  extract_lets +onlyGivenNames -merge -underBinder x2
  refine Kept.ite ?_ ?_
  · extract_lets +onlyGivenNames -merge -underBinder x3
    have h3 : Kept 0x3272000737f38 s x3 := by
      unfold x3
      refine Kept.foldl ?_ (fun _ _ h4 => ?_)
      · exact Kept.refl _ _
      · refine Kept.step ?_ (State.writeFor_kept _ _ _ _ _ _ _)
        exact h4
    clear_value x3
    refine Kept.step ?_ (State.countInf_kept _ _ _ _)
    exact h3
  · refine Kept.foldl ?_ (fun _ _ h5 => ?_)
    · exact Kept.refl _ _
    · extract_lets +onlyGivenNames -merge -underBinder x6
      extract_lets +onlyGivenNames -merge -underBinder x7
      refine Kept.step ?_ (State.issue_kept _ _ _)
      refine Kept.step ?_ (State.setDesc_kept _ _ _ _)
      exact h5

theorem State.moveRows_kept : ∀ s a1 a2 a3, Kept 0x3272000737f38 s (State.moveRows s a1 a2 a3) := by
  intro s n d parity
  unfold State.moveRows
  extract_lets +onlyGivenNames -merge -underBinder x1 x2 x3 x4
  have h4 : Kept 0x3272000737f38 s x4 := by
    unfold x4
    refine Kept.step ?_ (State.setDesc_kept _ _ _ _)
    exact Kept.refl _ _
  clear_value x4
  refine Kept.foldl h4 (fun y r h5 => ?_)
  generalize y.rowOf x1 r = q
  obtain ⟨data, bad⟩ := q
  dsimp -zeta only
  extract_lets +onlyGivenNames -merge -underBinder x6 x7 x8 x9 x10
  have h8 : Kept 0x3272000737f38 s x8 := by
    unfold x8
    refine Kept.ite ?_ h5
    refine Kept.step ?_ (State.countInf_kept _ _ _ _)
    unfold x7
    exact Kept.ite (Kept.step h5 (State.countMarks_kept _ _ _)) (Kept.step h5 (State.unmappedEvent_kept _ _ _ _ _))
  clear_value x8
  have h10 : Kept 0x3272000737f38 s x10 := by
    unfold x10
    clear_value x9
    cases x9 with
    | none => exact h8
    | some z => exact Kept.step h8 (State.pathParity_kept _ _ _ _ _ _)
  clear_value x10
  refine Kept.ite ?_ ?_
  · exact Kept.step h10 (State.putRow_kept _ _ _ _ _ _ _)
  · generalize rowFails x2 data bad = w
    cases w with
    | none =>
      refine Kept.step ?_ (State.putRow_kept _ _ _ _ _ _ _)
      exact Kept.ite (Kept.step h10 (State.noteReread_kept _ _ _ _)) h10
    | some i =>
      refine Kept.step ?_ (State.putRow_kept _ _ _ _ _ _ _)
      refine Kept.step ?_ (State.setDesc_kept _ _ _ _)
      exact Kept.step h10 (State.post_kept _ _ _ _ _ _)

theorem State.unstallHost_kept : ∀ s, Kept 0x10000000000 s (State.unstallHost s) := by
  intro s
  unfold State.unstallHost
  extract_lets +onlyGivenNames -merge -underBinder x1
  refine (Kept.upd ?_).kept
  exact Kept.refl _ _

end Sys2Proof.Machine
end

