-- ==== Sys2Proof/Laws/FrameEngine.lean ====
section
/-! SUPPORT. What each operation of `Machine/Engine.lean` may change: one lemma each, the parts it may change as a mask of `Part.no` bits. -/
set_option linter.unusedVariables false
set_option Elab.async false
namespace Sys2Proof.Machine

theorem execStrAbort_kept : ∀ a0 a1 s, OutKept 0x252000503f38 s (execStrAbort a0 a1 s) := by
  intro a0 a1 s
  unfold execStrAbort
  refine State.atBlock_kept _ (by decide) (fun s0 h0 => ?_)
  extract_lets +onlyGivenNames -merge -underBinder x1
  refine OutKept.next ?_
  split
  ·
    refine Kept.step ?_ (State.abortWhere_kept _ _ _ _)
    exact h0
  ·
    refine Kept.step ?_ (State.abortWhere_kept _ _ _ _)
    exact h0
  ·
    refine Kept.step ?_ (State.abortWhere_kept _ _ _ _)
    exact h0
  ·
    exact h0

theorem State.queueError_kept : ∀ s a1 a2 a3, Kept 0x242000000008 s (State.queueError s a1 a2 a3) := by
  intro s a1 a2 a3
  unfold State.queueError
  refine Kept.step ?_ (State.post_kept _ _ _ _ _ _)
  exact Kept.refl _ _

theorem execSqEnable_kept : ∀ a0 a1 a2 s, OutKept 0x242000000008 s (execSqEnable a0 a1 a2 s) := by
  intro a0 a1 a2 s
  unfold execSqEnable
  refine State.atBlock_kept _ (by decide) (fun s0 h0 => ?_)
  extract_lets +onlyGivenNames -merge -underBinder x1
  have h1 : Kept 0x242000000008 s x1 := by
    unfold x1
    refine Kept.step ?_ (State.wr_kept _ _ _)
    exact h0
  clear_value x1
  extract_lets +onlyGivenNames -merge -underBinder x2
  extract_lets +onlyGivenNames -merge -underBinder x3
  extract_lets +onlyGivenNames -merge -underBinder x4
  extract_lets +onlyGivenNames -merge -underBinder x5
  refine OutKept.next ?_
  refine Kept.ite ?_ ?_
  · refine Kept.step ?_ (State.queueError_kept _ _ _ _)
    refine Kept.step ?_ (State.wb_kept _ _ _ _)
    exact h1
  · exact h1

theorem execSqDoorbell_kept : ∀ a0 a1 a2 s, OutKept 0x242000000008 s (execSqDoorbell a0 a1 a2 s) := by
  intro a0 a1 a2 s
  unfold execSqDoorbell
  refine State.atBlock_kept _ (by decide) (fun s0 h0 => ?_)
  refine OutKept.next ?_
  refine Kept.ite ?_ ?_
  · refine Kept.step ?_ (State.wf_kept _ _ _ _)
    exact h0
  · refine Kept.step ?_ (State.queueError_kept _ _ _ _)
    exact h0

theorem execDescArm_kept : ∀ a0 a1 s, OutKept 0x242000000808 s (execDescArm a0 a1 s) := by
  intro a0 a1 s
  unfold execDescArm
  refine State.atBlock_kept _ (by decide) (fun s0 h0 => ?_)
  refine OutKept.next ?_
  split
  ·
    refine Kept.step ?_ (State.setDesc_kept _ _ _ _)
    exact h0
  ·
    refine Kept.step ?_ (State.rejectArm_kept _ _ _ _ _)
    exact h0

theorem execDescCancel_kept : ∀ a0 a1 s, OutKept 0x808 s (execDescCancel a0 a1 s) := by
  intro a0 a1 s
  unfold execDescCancel
  refine State.atBlock_kept _ (by decide) (fun s0 h0 => ?_)
  extract_lets +onlyGivenNames -merge -underBinder x1
  refine OutKept.next ?_
  split
  ·
    refine Kept.step ?_ (State.setDesc_kept _ _ _ _)
    exact h0
  ·
    refine Kept.step ?_ (State.setDesc_kept _ _ _ _)
    exact h0
  ·
    refine Kept.step ?_ (State.setDesc_kept _ _ _ _)
    exact h0
  ·
    exact h0

theorem execSemValWrite_kept : ∀ a0 a1 s, OutKept 0x1408 s (execSemValWrite a0 a1 s) := by
  intro a0 a1 s
  unfold execSemValWrite
  refine State.atBlock_kept _ (by decide) (fun s0 h0 => ?_)
  refine OutKept.next ?_
  refine Kept.step ?_ (State.testWaiters_kept _ _)
  refine Kept.step ?_ (State.wr_kept _ _ _)
  exact h0

theorem execSemAddWrite_kept : ∀ a0 a1 s, OutKept 0x242000001408 s (execSemAddWrite a0 a1 s) := by
  intro a0 a1 s
  unfold execSemAddWrite
  refine State.atBlock_kept _ (by decide) (fun s0 h0 => ?_)
  refine OutKept.next ?_
  refine Kept.step ?_ (State.addSem_kept _ _ _ _ _)
  exact h0

theorem State.storeProg_kept : ∀ s a1 a2 a3, Kept 0x242000002438 s (State.storeProg s a1 a2 a3) := by
  intro s a1 a2 a3
  unfold State.storeProg
  extract_lets +onlyGivenNames -merge -underBinder x1
  extract_lets +onlyGivenNames -merge -underBinder x2
  have h2 : Kept 0x242000002438 s x2 := by
    unfold x2
    refine Kept.step ?_ (State.modEngine_kept _ _ _)
    exact Kept.refl _ _
  clear_value x2
  split
  ·
    refine Kept.step ?_ (State.bump_kept _ _ _)
    refine Kept.step ?_ (State.modEngine_kept _ _ _)
    exact h2
  ·
    extract_lets +onlyGivenNames -merge -underBinder x3
    extract_lets +onlyGivenNames -merge -underBinder x4
    refine Kept.step ?_ (State.retire_kept _ _ _ _ _ _)
    refine Kept.step ?_ (State.post_kept _ _ _ _ _ _)
    exact h2

theorem State.takeEntry_kept : ∀ s a1 a2 a3 a4 a5 a6, Kept 0x242000002438 s (State.takeEntry s a1 a2 a3 a4 a5 a6) := by
  intro s a1 a2 a3 a4 a5 a6
  unfold State.takeEntry
  split
  next y1 q1 =>
    have h1 : Kept 0x242000002438 s y1 := Kept.snd q1 (by
      refine Kept.ite2 ?_ ?_
      · dsimp only
        exact Kept.refl _ _
      · extract_lets +onlyGivenNames -merge -underBinder x2
        have h2 : Kept 0x242000002438 s x2.2 := by
          unfold x2
          refine Kept.step ?_ (State.readFor_kept _ _ _ _ _)
          exact Kept.refl _ _
        clear_value x2
        dsimp only
        refine Kept.step ?_ (State.countInf_kept _ _ _ _)
        exact h2)
    refine Kept.ite ?_ ?_
    · refine Kept.step ?_ (State.queueError_kept _ _ _ _)
      refine Kept.step ?_ (State.wb_kept _ _ _ _)
      exact h1
    · extract_lets +onlyGivenNames -merge -underBinder x3
      refine Kept.step ?_ (State.storeProg_kept _ _ _ _)
      refine Kept.step ?_ (State.wr_kept _ _ _)
      exact h1

theorem State.acceptFrom_kept : ∀ s a1 a2 a3, Kept 0x242000002438 s (State.acceptFrom s a1 a2 a3) := by
  intro s a1 a2 a3
  unfold State.acceptFrom
  extract_lets +onlyGivenNames -merge -underBinder x1
  extract_lets +onlyGivenNames -merge -underBinder x2
  extract_lets +onlyGivenNames -merge -underBinder x3
  extract_lets +onlyGivenNames -merge -underBinder x4
  extract_lets +onlyGivenNames -merge -underBinder x5
  extract_lets +onlyGivenNames -merge -underBinder x6
  extract_lets +onlyGivenNames -merge -underBinder x7
  have h7 : Kept 0x242000002438 s x7 := by
    unfold x7
    refine Kept.step ?_ (State.modEngine_kept _ _ _)
    exact Kept.refl _ _
  clear_value x7
  split
  next y8 q8 =>
    have h8 : Kept 0x242000002438 s y8 := Kept.snd q8 (by
      refine Kept.step ?_ (State.readFor_kept _ _ _ _ _)
      exact h7)
    refine Kept.step ?_ (State.takeEntry_kept _ _ _ _ _ _ _)
    refine Kept.step ?_ (State.countInf_kept _ _ _ _)
    exact h8

theorem execProgramAccept_kept : ∀ a0 s, OutKept 0x242000002438 s (execProgramAccept a0 s) := by
  intro a0 s
  unfold execProgramAccept
  refine OutKept.next ?_
  refine Kept.ite ?_ ?_
  · exact Kept.refl _ _
  · split
    ·
      exact Kept.refl _ _
    ·
      refine Kept.step ?_ (State.acceptFrom_kept _ _ _ _)
      exact Kept.refl _ _

theorem execProgramStart_kept : ∀ a0 s, OutKept 0x400 s (execProgramStart a0 s) := by
  intro a0 s
  unfold execProgramStart
  extract_lets +onlyGivenNames -merge -underBinder x1
  refine OutKept.next ?_
  refine Kept.ite ?_ ?_
  · split
    ·
      refine Kept.step ?_ (State.modProg_kept _ _ _ _)
      exact Kept.refl _ _
    ·
      exact Kept.refl _ _
  · exact Kept.refl _ _

theorem State.fetchArm_kept : ∀ s a1 a2 a3 a4 a5 a6, Kept 0x252000503f38 s (State.fetchArm s a1 a2 a3 a4 a5 a6).2 := by
  intro s a1 a2 a3 a4 a5 a6
  unfold State.fetchArm
  refine Kept.ite2 ?_ ?_
  · dsimp only
    exact Kept.refl _ _
  · extract_lets +onlyGivenNames -merge -underBinder x1
    split
    next y2 q2 =>
      have h2 : Kept 0x252000503f38 s y2 := Kept.snd q2 (by
        refine Kept.step ?_ (State.readFor_kept _ _ _ _ _)
        exact Kept.refl _ _)
      extract_lets +onlyGivenNames -merge -underBinder x3
      have h3 : Kept 0x252000503f38 s x3 := by
        unfold x3
        refine Kept.step ?_ (State.countInf_kept _ _ _ _)
        exact h2
      clear_value x3
      extract_lets +onlyGivenNames -merge -underBinder x4 x5
      split
      ·
        dsimp only
        refine Kept.step ?_ (State.modProg_kept _ _ _ _)
        refine Kept.step ?_ (State.setDesc_kept _ _ _ _)
        exact h3
      ·
        dsimp only
        refine Kept.step ?_ (State.faultAbort_kept _ _ _ _ _)
        refine Kept.step ?_ (State.rejectArm_kept _ _ _ _ _)
        exact h3

theorem State.fetchClaim_kept : ∀ s a1 a2 a3 a4 a5, Kept 0x3252000737f38 s (State.fetchClaim s a1 a2 a3 a4 a5) := by
  intro s a1 a2 a3 a4 a5
  unfold State.fetchClaim
  extract_lets +onlyGivenNames -merge -underBinder x1
  extract_lets +onlyGivenNames -merge -underBinder x2
  refine Kept.ite ?_ ?_
  · exact Kept.refl _ _
  · split
    ·
      unfold x2
      refine Kept.step ?_ (State.beginTransfer_kept _ _ _)
      refine Kept.step ?_ (State.setStage_kept _ _ _ _ _)
      refine Kept.step ?_ (State.setDesc_kept _ _ _ _)
      exact Kept.refl _ _
    ·
      unfold x2
      refine Kept.step ?_ (State.beginTransfer_kept _ _ _)
      refine Kept.step ?_ (State.setStage_kept _ _ _ _ _)
      refine Kept.step ?_ (State.setDesc_kept _ _ _ _)
      exact Kept.refl _ _
    ·
      exact Kept.refl _ _

theorem execFetch_kept : ∀ a0 a1 a2 s, OutKept 0x3252000737f38 s (execFetch a0 a1 a2 s) := by
  intro a0 a1 a2 s
  unfold execFetch
  refine OutKept.next ?_
  split
  ·
    refine Kept.ite ?_ ?_
    · exact Kept.refl _ _
    · extract_lets +onlyGivenNames -merge -underBinder x1
      have h1 : Kept 0x3252000737f38 s x1.2 := by
        unfold x1
        refine Kept.step ?_ (State.fetchArm_kept _ _ _ _ _ _ _)
        exact Kept.refl _ _
      clear_value x1
      refine Kept.ite ?_ ?_
      · refine Kept.step ?_ (State.fetchClaim_kept _ _ _ _ _ _)
        exact h1
      · exact h1
  ·
    exact Kept.refl _ _

theorem execReduce_kept : ∀ a0 a1 a2 s, OutKept 0x3252000737f38 s (execReduce a0 a1 a2 s) := by
  intro a0 a1 a2 s
  unfold execReduce
  refine OutKept.next ?_
  split
  ·
    refine Kept.ite ?_ ?_
    · exact Kept.refl _ _
    · extract_lets +onlyGivenNames -merge -underBinder x1
      extract_lets +onlyGivenNames -merge -underBinder x2
      extract_lets +onlyGivenNames -merge -underBinder x3
      have h3 : Kept 0x3252000737f38 s x3 := by
        unfold x3
        refine Kept.step ?_ (State.setStage_kept _ _ _ _ _)
        exact Kept.refl _ _
      clear_value x3
      extract_lets +onlyGivenNames -merge -underBinder x4
      extract_lets +onlyGivenNames -merge -underBinder x5
      have h5 : Kept 0x3252000737f38 s x5 := by
        unfold x5
        refine Kept.ite ?_ ?_
        · refine Kept.step ?_ (State.reduceDst_kept _ _ _ _ _ _ _ _ _ _ _)
          exact h3
        · split
          ·
            extract_lets +onlyGivenNames -merge -underBinder x6
            extract_lets +onlyGivenNames -merge -underBinder x7
            extract_lets +onlyGivenNames -merge -underBinder x8
            extract_lets +onlyGivenNames -merge -underBinder x9
            have h9 : Kept 0x3252000737f38 s x9 := by
              unfold x9
              split
              ·
                refine Kept.step ?_ (State.unmappedEvent_kept _ _ _ _ _)
                exact h3
              ·
                exact h3
            clear_value x9
            refine Kept.step ?_ (State.countInf_kept _ _ _ _)
            refine Kept.step ?_ (State.reduceDst_kept _ _ _ _ _ _ _ _ _ _ _)
            refine Kept.step ?_ (State.countMarks_kept _ _ _)
            exact h9
          ·
            refine Kept.foldl ?_ (fun _ _ h10 => ?_)
            · exact h3
            · refine Kept.step ?_ (State.issue_kept _ _ _)
              exact h10
          ·
            extract_lets +onlyGivenNames -merge -underBinder x11
            refine Kept.step ?_ (State.askHost_kept _ _)
            exact h3
      clear_value x5
      refine Kept.step ?_ (State.settleStage_kept _ _)
      exact h5
  ·
    exact Kept.refl _ _

theorem execSignal_kept : ∀ a0 a1 a2 s, OutKept 0x3252000737f38 s (execSignal a0 a1 a2 s) := by
  intro a0 a1 a2 s
  unfold execSignal
  refine OutKept.next ?_
  split
  ·
    refine Kept.ite ?_ ?_
    · exact Kept.refl _ _
    · refine Kept.ite ?_ ?_
      · refine Kept.step ?_ (State.issue_kept _ _ _)
        refine Kept.step ?_ (State.setStage_kept _ _ _ _ _)
        exact Kept.refl _ _
      · refine Kept.ite ?_ ?_
        · refine Kept.step ?_ (State.faultAbort_kept _ _ _ _ _)
          refine Kept.step ?_ (State.semMisuseEvent_kept _ _ _)
          exact Kept.refl _ _
        · split
          next y1 q1 =>
            have h1 : Kept 0x3252000737f38 s y1 := Kept.snd q1 (by
              refine Kept.step ?_ (State.addSem_kept _ _ _ _ _)
              refine Kept.step ?_ (State.bump_kept _ _ _)
              exact Kept.refl _ _)
            refine Kept.ite ?_ ?_
            · refine Kept.step ?_ (State.faultAbort_kept _ _ _ _ _)
              exact h1
            · refine Kept.step ?_ (State.complete_kept _ _ _ _)
              exact h1
  ·
    exact Kept.refl _ _

theorem execWait_kept : ∀ a0 a1 a2 s, OutKept 0x252000503f38 s (execWait a0 a1 a2 s) := by
  intro a0 a1 a2 s
  unfold execWait
  refine OutKept.next ?_
  split
  ·
    refine Kept.ite ?_ ?_
    · exact Kept.refl _ _
    · refine Kept.ite ?_ ?_
      · refine Kept.step ?_ (State.faultAbort_kept _ _ _ _ _)
        refine Kept.step ?_ (State.semMisuseEvent_kept _ _ _)
        exact Kept.refl _ _
      · extract_lets +onlyGivenNames -merge -underBinder x1
        refine Kept.step ?_ (State.testWaiters_kept _ _)
        refine Kept.step ?_ (State.setWaiters_kept _ _ _)
        refine Kept.step ?_ (State.setStage_kept _ _ _ _ _)
        exact Kept.refl _ _
  ·
    exact Kept.refl _ _

theorem execWaitTimeout_kept : ∀ a0 a1 a2 a3 s, OutKept 0x252000503f38 s (execWaitTimeout a0 a1 a2 a3 s) := by
  intro a0 a1 a2 a3 s
  unfold execWaitTimeout
  extract_lets +onlyGivenNames -merge -underBinder x1
  refine OutKept.next ?_
  split
  ·
    refine Kept.ite ?_ ?_
    · exact Kept.refl _ _
    · extract_lets +onlyGivenNames -merge -underBinder x2
      have h2 : Kept 0x252000503f38 s x2 := by
        unfold x2
        refine Kept.step ?_ (State.bump_kept _ _ _)
        refine Kept.step ?_ (State.setWaiters_kept _ _ _)
        exact Kept.refl _ _
      clear_value x2
      extract_lets +onlyGivenNames -merge -underBinder x3
      have h3 : Kept 0x252000503f38 s x3 := by
        unfold x3
        refine Kept.step ?_ (State.post_kept _ _ _ _ _ _)
        exact h2
      clear_value x3
      refine Kept.step ?_ (State.faultAbort_kept _ _ _ _ _)
      refine Kept.step ?_ (State.testWaiters_kept _ _)
      exact h3
  ·
    exact Kept.refl _ _

theorem execFence_kept : ∀ a0 a1 a2 s, OutKept 0x400 s (execFence a0 a1 a2 s) := by
  intro a0 a1 a2 s
  unfold execFence
  refine OutKept.next ?_
  split
  ·
    extract_lets +onlyGivenNames -merge -underBinder x1
    extract_lets +onlyGivenNames -merge -underBinder x2
    refine Kept.ite ?_ ?_
    · refine Kept.step ?_ (State.complete_kept _ _ _ _)
      exact Kept.refl _ _
    · exact Kept.refl _ _
  ·
    exact Kept.refl _ _

theorem execAtStage_kept : ∀ a0 a1 a2 s, OutKept 0x400 s (execAtStage a0 a1 a2 s) := by
  intro a0 a1 a2 s
  unfold execAtStage
  refine OutKept.next ?_
  split
  ·
    refine Kept.ite ?_ ?_
    · refine Kept.step ?_ (State.complete_kept _ _ _ _)
      exact Kept.refl _ _
    · exact Kept.refl _ _
  ·
    exact Kept.refl _ _

theorem execTransferDone_kept : ∀ a0 a1 a2 s, OutKept 0x3272000737f38 s (execTransferDone a0 a1 a2 s) := by
  intro a0 a1 a2 s
  unfold execTransferDone
  extract_lets +onlyGivenNames -merge -underBinder x1
  refine OutKept.next ?_
  refine Kept.ite ?_ ?_
  · exact Kept.refl _ _
  · extract_lets +onlyGivenNames -merge -underBinder x2
    refine Kept.ite ?_ ?_
    · refine Kept.step ?_ (State.askAgain_kept _ _ _ _)
      exact Kept.refl _ _
    · extract_lets +onlyGivenNames -merge -underBinder x3
      have h3 : Kept 0x3272000737f38 s x3 := by
        unfold x3
        refine Kept.ite ?_ ?_
        · exact Kept.refl _ _
        · refine Kept.step ?_ (State.moveRows_kept _ _ _ _)
          exact Kept.refl _ _
      clear_value x3
      extract_lets +onlyGivenNames -merge -underBinder x4
      refine Kept.ite ?_ ?_
      · exact h3
      · extract_lets +onlyGivenNames -merge -underBinder x5
        have h5 : Kept 0x3272000737f38 s x5 := by
          unfold x5
          refine Kept.step ?_ (State.setDesc_kept _ _ _ _)
          exact h3
        clear_value x5
        refine Kept.step ?_ (State.settleStage_kept _ _)
        exact h5

theorem execProgramCommit_kept : ∀ a0 a1 s, OutKept 0x242000002438 s (execProgramCommit a0 a1 s) := by
  intro a0 a1 s
  unfold execProgramCommit
  refine OutKept.next ?_
  split
  ·
    refine Kept.ite ?_ ?_
    · refine Kept.step ?_ (State.retire_kept _ _ _ _ _ _)
      exact Kept.refl _ _
    · exact Kept.refl _ _
  ·
    exact Kept.refl _ _

theorem execProgramAbortRetire_kept : ∀ a0 a1 s, OutKept 0x242000002438 s (execProgramAbortRetire a0 a1 s) := by
  intro a0 a1 s
  unfold execProgramAbortRetire
  refine OutKept.next ?_
  split
  ·
    extract_lets +onlyGivenNames -merge -underBinder x1
    refine Kept.ite ?_ ?_
    · refine Kept.step ?_ (State.retire_kept _ _ _ _ _ _)
      exact Kept.refl _ _
    · exact Kept.refl _ _
  ·
    exact Kept.refl _ _

theorem execProgramTimeoutExpiry_kept : ∀ a0 a1 s, OutKept 0x252000503f38 s (execProgramTimeoutExpiry a0 a1 s) := by
  intro a0 a1 s
  unfold execProgramTimeoutExpiry
  refine OutKept.next ?_
  split
  ·
    refine Kept.ite ?_ ?_
    · refine Kept.step ?_ (State.abort_kept _ _ _ _ _)
      refine Kept.step ?_ (State.post_kept _ _ _ _ _ _)
      exact Kept.refl _ _
    · exact Kept.refl _ _
  ·
    exact Kept.refl _ _

theorem execContextPoisonAbort_kept : ∀ a0 a1 a2 a3 a4 s, OutKept 0x252000523f38 s (execContextPoisonAbort a0 a1 a2 a3 a4 s) := by
  intro a0 a1 a2 a3 a4 s
  unfold execContextPoisonAbort
  extract_lets +onlyGivenNames -merge -underBinder x1
  extract_lets +onlyGivenNames -merge -underBinder x2
  refine OutKept.next ?_
  split
  ·
    refine Kept.step ?_ (State.poisonAbort_kept _ _)
    exact Kept.refl _ _
  ·
    exact Kept.refl _ _

end Sys2Proof.Machine
end

