-- ==== Sys2Proof/Laws/FrameWeights.lean ====
section
/-! SUPPORT. What each operation of `Machine/Weights.lean` may change: one lemma each, the parts it may change as a mask of `Part.no` bits. -/
set_option linter.unusedVariables false
set_option Elab.async false
namespace Sys2Proof.Machine

theorem State.verifyFrom_kept : ∀ s a1 a2 a3 a4 a5, Kept 0x252000553f38 s (State.verifyFrom s a1 a2 a3 a4 a5) := by
  intro s i since n
  induction n generalizing s since with
  | zero =>
    intro r first
    unfold State.verifyFrom
    extract_lets s1
    have h1 : Kept 0x252000553f38 s s1 := (Kept.upd (Kept.refl _ _)).kept
    clear_value s1
    exact Kept.step (Kept.step (Kept.step h1 (State.wf_kept _ _ _ _)) (State.wf_kept _ _ _ _)) (State.wf_kept _ _ _ _)
  | succ n ih =>
    intro r first
    unfold State.verifyFrom
    extract_lets +onlyGivenNames -merge -underBinder ps tile ver ctx
    refine Kept.ite (Kept.step (Kept.refl _ _) (State.askTry_kept _ _ _ _)) ?_
    have h := State.readOnce_kept s 8 none first ps
    revert h
    generalize s.readOnce 8 none first ps = q
    obtain ⟨⟨im, poison⟩, t⟩ := q
    intro h
    replace h : Kept 0x252000553f38 s t := Kept.mono h (by decide)
    dsimp -zeta only
    extract_lets +onlyGivenNames -merge -underBinder why s1 s2
    refine Kept.ite ?_ ?_
    · exact Kept.step h (ih _ _ _ _)
    · have h1 : Kept 0x252000553f38 s s1 := Kept.step h (State.noteFailedRead_kept _ _)
      clear_value s1
      have h2 : Kept 0x252000553f38 s s2 := (Kept.upd h1).kept
      clear_value s2
      exact Kept.step h2 (State.shardFail_kept _ _ _ _ _ _ _ _ _)

theorem State.verifyRun_kept : ∀ s a1 a2 a3, Kept 0x252000553f38 s (State.verifyRun s a1 a2 a3) := by
  intro s a1 a2 a3
  unfold State.verifyRun
  split
  ·
    exact Kept.refl _ _
  ·
    refine Kept.step ?_ (State.verifyFrom_kept _ _ _ _ _ _)
    exact Kept.refl _ _

theorem State.modSwap_kept : ∀ s a1, Kept 0x10000 s (State.modSwap s a1) := by
  intro s a1
  unfold State.modSwap
  split
  ·
    exact Kept.refl _ _
  ·
    refine (Kept.upd ?_).kept
    exact Kept.refl _ _

theorem State.runSwap_kept : ∀ s a1 a2 a3 a4, Kept 0x3272000737f38 s (State.runSwap s a1 a2 a3 a4) := by
  intro s bad since first k
  induction k generalizing s since first with
  | zero => exact Kept.refl _ _
  | succ k ih =>
    unfold State.runSwap
    split
    · exact Kept.refl _ _
    next x rest e =>
      dsimp only
      refine Kept.ite (Kept.refl _ _) (Kept.ite ?_ (Kept.ite ?_ ?_))
      · exact Kept.step (Kept.refl _ _) (State.modSwap_kept _ _)
      · exact (Kept.upd (Kept.refl _ _)).kept
      · generalize hq : State.tryCopies _ _ _ _ _ _ _ _ _ _ _ _ _ = q
        have h : Kept 0x3272000737f38 s q.2 := by
          rw [← hq]
          exact Kept.step (Kept.refl _ _) (State.tryCopies_kept _ _ _ _ _ _ _ _ _ _ _ _ _)
        clear hq
        obtain ⟨r, t⟩ := q
        replace h : Kept _ s t := h
        cases r with
        | ask y => exact Kept.step h (State.askTry_kept _ _ _ _)
        | ok im =>
          refine Kept.step ?_ (ih _ _ _)
          exact Kept.step (Kept.step h (State.writePieces_kept _ _ _)) (State.modSwap_kept _ _)
        | fail reason =>
          dsimp only
          generalize hv : State.judgeMirror _ _ _ = v
          have h1 : Kept 0x3272000737f38 s v.2 := by
            rw [← hv]
            exact Kept.step (Kept.step h (State.orMirror_kept _ _ _ _)) (State.judgeMirror_kept _ _ _)
          clear hv
          obtain ⟨o, u⟩ := v
          replace h1 : Kept _ s u := h1
          cases o with
          | none => exact h1
          | some z =>
            cases z with
            | ask y => exact h1
            | ok im =>
              refine Kept.step ?_ (ih _ _ _)
              exact Kept.step (Kept.step (Kept.step h1 (State.writePieces_kept _ _ _)) (State.setWait_kept _ _ _)) (State.modSwap_kept _ _)
            | fail k =>
              exact Kept.step (Kept.step h1 (State.setWait_kept _ _ _)) (State.shardFail_kept _ _ _ _ _ _ _ _ _)

theorem State.goSwap_kept : ∀ s a1 a2 a3, Kept 0x3272000737f38 s (State.goSwap s a1 a2 a3) := by
  intro s a1 a2 a3
  unfold State.goSwap
  split
  ·
    exact Kept.refl _ _
  ·
    refine Kept.step ?_ (State.runSwap_kept _ _ _ _ _)
    exact Kept.refl _ _

theorem State.resumeSwap_kept : ∀ s, Kept 0x3272000777f38 s (State.resumeSwap s) := by
  intro s
  unfold State.resumeSwap
  split
  · exact Kept.refl _ _
  next w e =>
    have hw : ∀ z, Kept 0x3272000777f38 s (s.setWait 8 z) := fun z => Kept.step (Kept.refl _ _) (State.setWait_kept _ _ _)
    refine Kept.ite (Kept.ite (Kept.refl _ _) (Kept.ite ?_ (Kept.ite (Kept.ite ?_ ?_) ?_))) ?_
    · exact Kept.step (hw _) (State.verifyRun_kept _ _ _ _)
    · exact hw _
    · exact Kept.step (hw _) (State.goSwap_kept _ _ _ _)
    · exact Kept.step (hw _) (State.goSwap_kept _ _ _ _)
    have h := State.judgeMirror_kept s 8 4
    revert h
    generalize s.judgeMirror 8 4 = v
    obtain ⟨o, t⟩ := v
    intro h
    replace h : Kept 0x3272000777f38 s t := Kept.mono h (by decide)
    cases o with
    | none => exact h
    | some z =>
      cases z with
      | ask y => exact h
      | ok im =>
        exact Kept.step (Kept.step (Kept.step (Kept.step h (State.writePieces_kept _ _ _)) (State.setWait_kept _ _ _)) (State.modSwap_kept _ _)) (State.goSwap_kept _ _ _ _)
      | fail r => exact Kept.step (Kept.step h (State.setWait_kept _ _ _)) (State.shardFail_kept _ _ _ _ _ _ _ _ _)

theorem State.resumeRecord_kept : ∀ s a1, Kept 0x3272000777f38 s (State.resumeRecord s a1) := by
  intro s a1
  unfold State.resumeRecord
  refine Kept.ite ?_ ?_
  · refine Kept.step ?_ (State.resumeLoad_kept _ _)
    exact Kept.refl _ _
  · refine Kept.step ?_ (State.resumeSwap_kept _)
    exact Kept.refl _ _

theorem State.resumeHost_kept : ∀ s a1, Kept 0x3272000777f38 s (State.resumeHost s a1) := by
  intro s a1
  unfold State.resumeHost
  refine Kept.foldl ?_ (fun _ _ h1 => ?_)
  · exact Kept.refl _ _
  · split
    ·
      refine Kept.ite ?_ ?_
      · exact h1
      · refine Kept.step ?_ (State.resumeRecord_kept _ _)
        exact h1
    ·
      exact h1

theorem execPassOpen_kept : ∀ a0 a1 s, OutKept 0x8 s (execPassOpen a0 a1 s) := by
  intro a0 a1 s
  unfold execPassOpen
  refine State.atBlock_kept _ (by decide) (fun s0 h0 => ?_)
  extract_lets +onlyGivenNames -merge -underBinder x1
  refine OutKept.next ?_
  refine Kept.ite ?_ ?_
  · exact h0
  · extract_lets +onlyGivenNames -merge -underBinder x2
    have h2 : Kept 0x8 s x2 := by
      unfold x2
      refine Kept.step ?_ (State.wb_kept _ _ _ _)
      refine Kept.step ?_ (State.wf_kept _ _ _ _)
      exact h0
    clear_value x2
    refine Kept.step ?_ (State.wr_kept _ _ _)
    exact h2

theorem execPassClose_kept : ∀ a0 a1 s, OutKept 0x8 s (execPassClose a0 a1 s) := by
  intro a0 a1 s
  unfold execPassClose
  refine State.atBlock_kept _ (by decide) (fun s0 h0 => ?_)
  refine OutKept.next ?_
  refine Kept.step ?_ (State.wb_kept _ _ _ _)
  refine Kept.step ?_ (State.wf_kept _ _ _ _)
  exact h0

theorem execBuildGo_kept : ∀ a0 s, OutKept 0x80008 s (execBuildGo a0 s) := by
  intro a0 s
  unfold execBuildGo
  refine State.atBlock_kept _ (by decide) (fun s0 h0 => ?_)
  refine OutKept.next ?_
  refine Kept.ite ?_ ?_
  · refine Kept.step ?_ (State.wf_kept _ _ _ _)
    exact h0
  · extract_lets +onlyGivenNames -merge -underBinder x1
    have h1 : Kept 0x80008 s x1 := by
      unfold x1
      refine Kept.step ?_ (State.wf_kept _ _ _ _)
      refine Kept.step ?_ (State.wb_kept _ _ _ _)
      refine Kept.step ?_ (State.wf_kept _ _ _ _)
      exact h0
    clear_value x1
    refine (Kept.upd ?_).kept
    exact h1

theorem State.clearEntry_kept : ∀ s a1, Kept 0x40008 s (State.clearEntry s a1) := by
  intro s a1
  unfold State.clearEntry
  refine Kept.ite ?_ ?_
  · extract_lets +onlyGivenNames -merge -underBinder x1
    have h1 : Kept 0x40008 s x1 := by
      unfold x1
      refine Kept.step ?_ (State.wf_kept _ _ _ _)
      exact Kept.refl _ _
    clear_value x1
    refine (Kept.upd ?_).kept
    exact h1
  · exact Kept.refl _ _

theorem execWtbWrite_kept : ∀ a0 a1 a2 s, OutKept 0x40008 s (execWtbWrite a0 a1 a2 s) := by
  intro a0 a1 a2 s
  unfold execWtbWrite
  refine State.atBlock_kept _ (by decide) (fun s0 h0 => ?_)
  extract_lets +onlyGivenNames -merge -underBinder x1
  extract_lets +onlyGivenNames -merge -underBinder x2
  extract_lets +onlyGivenNames -merge -underBinder x3
  refine OutKept.next ?_
  refine Kept.ite ?_ ?_
  · refine Kept.ite ?_ ?_
    · extract_lets +onlyGivenNames -merge -underBinder x4
      extract_lets +onlyGivenNames -merge -underBinder x5
      have h5 : Kept 0x40008 s x5 := by
        unfold x5
        refine Kept.step ?_ (State.wb_kept _ _ _ _)
        refine Kept.step ?_ (State.wb_kept _ _ _ _)
        exact h0
      clear_value x5
      refine Kept.ite ?_ ?_
      · refine Kept.step ?_ (State.wr_kept _ _ _)
        exact h5
      · exact h5
    · refine Kept.ite ?_ ?_
      · refine Kept.step ?_ (State.clearEntry_kept _ _)
        exact h0
      · exact h0
  · refine Kept.ite ?_ ?_
    · refine Kept.ite ?_ ?_
      · exact h0
      · extract_lets +onlyGivenNames -merge -underBinder x6
        extract_lets +onlyGivenNames -merge -underBinder x7
        have h7 : Kept 0x40008 s x7 := by
          unfold x7
          refine Kept.step ?_ (State.wr_kept _ _ _)
          exact h0
        clear_value x7
        refine Kept.step ?_ (State.wb_kept _ _ _ _)
        exact h7
    · refine Kept.ite ?_ ?_
      · refine Kept.ite ?_ ?_
        · refine Kept.step ?_ (State.wr_kept _ _ _)
          exact h0
        · exact h0
      · exact h0

theorem execSwap_kept : ∀ a0 a1 a2 s, OutKept 0x252000513f38 s (execSwap a0 a1 a2 s) := by
  intro a0 a1 a2 s
  unfold execSwap
  refine OutKept.next ?_
  split
  ·
    extract_lets +onlyGivenNames -merge -underBinder x1
    refine Kept.ite ?_ ?_
    · exact Kept.refl _ _
    · refine Kept.ite ?_ ?_
      · refine Kept.step ?_ (State.faultAbort_kept _ _ _ _ _)
        refine Kept.step ?_ (State.shardEvent_kept _ _ _ _ _ _ _ _)
        exact Kept.refl _ _
      · refine Kept.ite ?_ ?_
        · exact Kept.refl _ _
        · extract_lets +onlyGivenNames -merge -underBinder x2
          extract_lets +onlyGivenNames -merge -underBinder x3
          have h3 : Kept 0x252000513f38 s x3 := by
            unfold x3
            refine Kept.step ?_ (State.wf_kept _ _ _ _)
            refine Kept.step ?_ (State.wr_kept _ _ _)
            refine Kept.step ?_ (State.wr_kept _ _ _)
            exact Kept.refl _ _
          clear_value x3
          extract_lets +onlyGivenNames -merge -underBinder x4
          have h4 : Kept 0x252000513f38 s x4 := by
            unfold x4
            refine (Kept.upd ?_).kept
            exact h3
          clear_value x4
          extract_lets +onlyGivenNames -merge -underBinder x5
          have h5 : Kept 0x252000513f38 s x5 := by
            unfold x5
            refine Kept.step ?_ (State.post_kept _ _ _ _ _ _)
            exact h4
          clear_value x5
          extract_lets +onlyGivenNames -merge -underBinder x6
          have h6 : Kept 0x252000513f38 s x6 := by
            unfold x6
            refine Kept.ite ?_ ?_
            · refine Kept.step ?_ (State.post_kept _ _ _ _ _ _)
              exact h5
            · exact h5
          clear_value x6
          refine Kept.step ?_ (State.complete_kept _ _ _ _)
          exact h6
  ·
    exact Kept.refl _ _

theorem execWtbClear_kept : ∀ a0 s, OutKept 0x40008 s (execWtbClear a0 s) := by
  intro a0 s
  unfold execWtbClear
  refine State.atBlock_kept _ (by decide) (fun s0 h0 => ?_)
  refine OutKept.next ?_
  refine Kept.step ?_ (State.clearEntry_kept _ _)
  exact h0

theorem execVerifyEnd_kept : ∀ s, OutKept 0x252000553f38 s (execVerifyEnd s) := by
  intro s
  unfold execVerifyEnd
  refine OutKept.next ?_
  split
  ·
    exact Kept.refl _ _
  ·
    refine Kept.ite ?_ ?_
    · exact Kept.refl _ _
    · refine Kept.step ?_ (State.verifyRun_kept _ _ _ _)
      exact Kept.refl _ _

theorem execSwapWriteStart_kept : ∀ a0 s, OutKept 0x3272000737f38 s (execSwapWriteStart a0 s) := by
  intro a0 s
  unfold execSwapWriteStart
  refine OutKept.next ?_
  split
  ·
    exact Kept.refl _ _
  ·
    extract_lets +onlyGivenNames -merge -underBinder x1
    extract_lets +onlyGivenNames -merge -underBinder x2
    refine Kept.ite ?_ ?_
    · exact Kept.refl _ _
    · extract_lets +onlyGivenNames -merge -underBinder x3
      have h3 : Kept 0x3272000737f38 s x3 := by
        unfold x3
        refine Kept.step ?_ (State.wf_kept _ _ _ _)
        exact Kept.refl _ _
      clear_value x3
      refine Kept.step ?_ (State.goSwap_kept _ _ _ _)
      refine Kept.step ?_ (State.modSwap_kept _ _)
      exact h3

theorem execStagedHeaderReread_kept : ∀ s, OutKept 0x3272000737f38 s (execStagedHeaderReread s) := by
  intro s
  unfold execStagedHeaderReread
  refine OutKept.next ?_
  split
  ·
    extract_lets +onlyGivenNames -merge -underBinder x1
    refine Kept.ite ?_ ?_
    · exact Kept.refl _ _
    · refine Kept.ite ?_ ?_
      · refine Kept.step ?_ (State.askRecord_kept _ _ _ _)
        exact Kept.refl _ _
      · refine Kept.ite ?_ ?_
        · exact Kept.refl _ _
        · refine Kept.step ?_ (State.goSwap_kept _ _ _ _)
          refine Kept.step ?_ (State.setWait_kept _ _ _)
          exact Kept.refl _ _
  ·
    exact Kept.refl _ _

theorem execSwapWriteEnd_kept : ∀ s, OutKept 0x242000010008 s (execSwapWriteEnd s) := by
  intro s
  unfold execSwapWriteEnd
  refine OutKept.next ?_
  split
  ·
    exact Kept.refl _ _
  ·
    refine Kept.ite ?_ ?_
    · exact Kept.refl _ _
    · extract_lets +onlyGivenNames -merge -underBinder x1
      extract_lets +onlyGivenNames -merge -underBinder x2
      extract_lets +onlyGivenNames -merge -underBinder x3
      have h3 : Kept 0x242000010008 s x3 := by
        unfold x3
        refine Kept.step ?_ (State.wr_kept _ _ _)
        refine Kept.step ?_ (State.wf_kept _ _ _ _)
        exact Kept.refl _ _
      clear_value x3
      extract_lets +onlyGivenNames -merge -underBinder x4
      have h4 : Kept 0x242000010008 s x4 := by
        unfold x4
        refine Kept.step ?_ (State.wf_kept _ _ _ _)
        refine Kept.step ?_ (State.wf_kept _ _ _ _)
        refine Kept.step ?_ (State.wf_kept _ _ _ _)
        exact h3
      clear_value x4
      extract_lets +onlyGivenNames -merge -underBinder x5
      have h5 : Kept 0x242000010008 s x5 := by
        unfold x5
        refine Kept.step ?_ (State.post_kept _ _ _ _ _ _)
        refine Kept.step ?_ (State.bump_kept _ _ _)
        exact h4
      clear_value x5
      refine (Kept.upd ?_).kept
      exact h5

theorem execShardTimeout_kept : ∀ a0 s, OutKept 0x252000553f38 s (execShardTimeout a0 s) := by
  intro a0 s
  unfold execShardTimeout
  extract_lets +onlyGivenNames -merge -underBinder x1
  refine OutKept.next ?_
  split
  ·
    exact Kept.refl _ _
  ·
    extract_lets +onlyGivenNames -merge -underBinder x2
    refine Kept.ite ?_ ?_
    · exact Kept.refl _ _
    · extract_lets +onlyGivenNames -merge -underBinder x3
      extract_lets +onlyGivenNames -merge -underBinder x4
      have h4 : Kept 0x252000553f38 s x4 := by
        unfold x4
        refine Kept.ite ?_ ?_
        · refine (Kept.upd ?_).kept
          exact Kept.refl _ _
        · exact Kept.refl _ _
      clear_value x4
      refine Kept.step ?_ (State.shardFail_kept _ _ _ _ _ _ _ _ _)
      refine Kept.step ?_ (State.dropMirror_kept _ _)
      refine Kept.step ?_ (State.setWait_kept _ _ _)
      exact h4

theorem State.buildBad_kept : ∀ s a1 a2, Kept 0x242000000008 s (State.buildBad s a1 a2).2 := by
  intro s a1 a2
  unfold State.buildBad
  refine Kept.foldl2 ?_ (fun _ _ h1 => ?_)
  · refine Kept.ite2 ?_ ?_
    · dsimp only
      exact Kept.refl _ _
    · refine Kept.step ?_ (State.readFor_kept _ _ _ _ _)
      exact Kept.refl _ _
  · refine Kept.ite2 ?_ ?_
    · exact h1
    · split
      ·
        split
        next y2 q2 =>
          have h2 : Kept 0x242000000008 s y2 := Kept.snd q2 (by
            refine Kept.step ?_ (State.readFor_kept _ _ _ _ _)
            exact h1)
          dsimp only
          exact h2

theorem State.buildTile_kept : ∀ s a1 a2, Kept 0x262000402038 s (State.buildTile s a1 a2).2 := by
  intro s x q
  unfold State.buildTile
  have h := State.buildBad_kept s x (x.first + q)
  revert h
  generalize s.buildBad x (x.first + q) = u
  obtain ⟨b, t⟩ := u
  intro h
  replace h : Kept 0x262000402038 s t := h.mono (by decide)
  cases b
  · exact Kept.step h (State.writeFor_kept _ _ _ _ _ _ _)
  · exact h

theorem State.buildTiles_kept : ∀ s a1 a2 a3 a4, Kept 0x262000402038 s (State.buildTiles s a1 a2 a3 a4).2 := by
  intro s x parity n
  induction n generalizing s with
  | zero => intro q; exact Kept.refl _ _
  | succ n ih =>
    intro q
    unfold State.buildTiles
    refine Kept.ite2 (Kept.step (Kept.refl _ _) (State.wayParity_kept _ _ _ _ _)) ?_
    have h := State.buildTile_kept s x q
    revert h
    generalize s.buildTile x q = u
    obtain ⟨b, t⟩ := u
    intro h
    replace h : Kept 0x262000402038 s t := Kept.mono h (by decide)
    cases b
    · exact Kept.step h (ih _ _)
    · exact h

theorem execBuildEnd_kept : ∀ a0 s, OutKept 0x262000482038 s (execBuildEnd a0 s) := by
  intro a0 s
  unfold execBuildEnd
  refine OutKept.next ?_
  split
  · exact Kept.refl _ _
  next x e =>
    refine Kept.ite (Kept.refl _ _) ?_
    have h := State.buildTiles_kept s x a0 x.count 0
    revert h
    generalize s.buildTiles x a0 x.count 0 = u
    obtain ⟨⟨q, stopped⟩, t⟩ := u
    intro h
    replace h : Kept 0x262000482038 s t := Kept.mono h (by decide)
    dsimp -zeta only
    extract_lets +onlyGivenNames -merge -underBinder result s1
    have h1 : Kept 0x262000482038 s s1 := Kept.step (Kept.step h (State.wb_kept _ _ _ _)) (State.wf_kept _ _ _ _)
    clear_value s1
    exact Kept.step (Kept.upd h1).kept (State.post_kept _ _ _ _ _ _)

end Sys2Proof.Machine
end

