-- ==== Sys2Proof/Laws/FrameFabricOps.lean ====
section
/-! SUPPORT. What each operation of `Machine/FabricOps.lean` may change: one lemma each, the parts it may change as a mask of `Part.no` bits. -/
set_option linter.unusedVariables false
set_option Elab.async false
namespace Sys2Proof.Machine

theorem State.restLink_kept : ∀ s a1, Kept 0x8 s (State.restLink s a1) := by
  intro s a1
  unfold State.restLink
  extract_lets +onlyGivenNames -merge -underBinder x1
  refine Kept.step ?_ (State.wf_kept _ _ _ _)
  exact Kept.refl _ _

theorem State.linkDown_kept : ∀ s a1 a2, Kept 0x242003200008 s (State.linkDown s a1 a2) := by
  intro s a1 a2
  unfold State.linkDown
  extract_lets +onlyGivenNames -merge -underBinder x1
  extract_lets +onlyGivenNames -merge -underBinder x2
  have h2 : Kept 0x242003200008 s x2 := by
    unfold x2
    refine Kept.step ?_ (State.wf_kept _ _ _ _)
    refine Kept.step ?_ (State.wf_kept _ _ _ _)
    exact Kept.refl _ _
  clear_value x2
  extract_lets +onlyGivenNames -merge -underBinder x3
  have h3 : Kept 0x242003200008 s x3 := by
    unfold x3
    refine Kept.ite ?_ ?_
    · refine Kept.step ?_ (State.wf_kept _ _ _ _)
      exact h2
    · exact h2
  clear_value x3
  extract_lets +onlyGivenNames -merge -underBinder x4
  have h4 : Kept 0x242003200008 s x4 := by
    unfold x4
    refine Kept.step ?_ (State.wr_kept _ _ _)
    exact h3
  clear_value x4
  extract_lets +onlyGivenNames -merge -underBinder x5 x6
  have h6 : Kept 0x242003200008 s x6 := by
    unfold x6
    refine (Kept.upd ?_).kept
    exact h4
  clear_value x6
  extract_lets +onlyGivenNames -merge -underBinder x7
  extract_lets +onlyGivenNames -merge -underBinder x8
  have h8 : Kept 0x242003200008 s x8 := by
    unfold x8
    refine Kept.step ?_ (State.setPort_kept _ _ _)
    exact h6
  clear_value x8
  extract_lets +onlyGivenNames -merge -underBinder x9
  have h9 : Kept 0x242003200008 s x9 := by
    unfold x9
    refine Kept.ite ?_ ?_
    · refine Kept.step ?_ (State.histEvent_kept _ _ _ _)
      exact h8
    · exact h8
  clear_value x9
  extract_lets +onlyGivenNames -merge -underBinder x10
  have h10 : Kept 0x242003200008 s x10 := by
    unfold x10
    refine Kept.ite ?_ ?_
    · refine Kept.step ?_ (State.post_kept _ _ _ _ _ _)
      exact h9
    · exact h9
  clear_value x10
  refine Kept.step ?_ (State.restLink_kept _ _)
  refine Kept.step ?_ (State.wf_kept _ _ _ _)
  exact h10

theorem State.closeBypass_kept : ∀ s a1 a2 a3, Kept 0x242003a00008 s (State.closeBypass s a1 a2 a3) := by
  intro s a1 a2 a3
  unfold State.closeBypass
  extract_lets +onlyGivenNames -merge -underBinder x1
  refine Kept.ite ?_ ?_
  · exact Kept.refl _ _
  · extract_lets +onlyGivenNames -merge -underBinder x2
    have h2 : Kept 0x242003a00008 s x2 := by
      unfold x2
      refine Kept.foldl ?_ (fun _ _ h3 => ?_)
      · exact Kept.refl _ _
      · refine Kept.ite ?_ ?_
        · exact h3
        · refine Kept.step ?_ (State.linkDown_kept _ _ _)
          exact h3
    clear_value x2
    extract_lets +onlyGivenNames -merge -underBinder x4
    have h4 : Kept 0x242003a00008 s x4 := by
      unfold x4
      refine Kept.step ?_ (State.wf_kept _ _ _ _)
      refine Kept.step ?_ (State.wf_kept _ _ _ _)
      exact h2
    clear_value x4
    extract_lets +onlyGivenNames -merge -underBinder x5
    have h5 : Kept 0x242003a00008 s x5 := by
      unfold x5
      refine (Kept.upd ?_).kept
      exact h4
    clear_value x5
    refine Kept.foldl ?_ (fun _ _ h6 => ?_)
    · exact h5
    · refine Kept.step ?_ (State.restLink_kept _ _)
      exact h6

theorem State.setMsgs_kept : ∀ s a1 a2, Kept 0x400000 s (State.setMsgs s a1 a2) := by
  intro s a1 a2
  unfold State.setMsgs
  refine (Kept.upd ?_).kept
  exact Kept.refl _ _

theorem State.openBypass_kept : ∀ s a1, Kept 0x800008 s (State.openBypass s a1) := by
  intro s a1
  unfold State.openBypass
  refine Kept.ite ?_ ?_
  · extract_lets +onlyGivenNames -merge -underBinder x1
    have h1 : Kept 0x800008 s x1 := by
      unfold x1
      refine Kept.step ?_ (State.wf_kept _ _ _ _)
      exact Kept.refl _ _
    clear_value x1
    refine (Kept.upd ?_).kept
    exact h1
  · exact Kept.refl _ _

theorem State.reply_kept : ∀ s a1 a2, Kept 0x200008 s (State.reply s a1 a2) := by
  intro s a1 a2
  unfold State.reply
  extract_lets +onlyGivenNames -merge -underBinder x1
  split
  next y2 q2 =>
    have h2 : Kept 0x200008 s y2 := Kept.snd q2 (by
      refine Kept.step ?_ (State.sendPacket_kept _ _)
      exact Kept.refl _ _)
    exact h2
  next y3 q3 =>
    have h3 : Kept 0x200008 s y3 := Kept.snd q3 (by
      refine Kept.step ?_ (State.sendPacket_kept _ _)
      exact Kept.refl _ _)
    refine Kept.step ?_ (State.bump_kept _ _ _)
    exact h3

theorem State.complReply_kept : ∀ s a1 a2 a3 a4, Kept 0x200008 s (State.complReply s a1 a2 a3 a4) := by
  intro s a1 a2 a3 a4
  unfold State.complReply
  split
  ·
    extract_lets +onlyGivenNames -merge -underBinder x1
    refine Kept.ite ?_ ?_
    · refine Kept.step ?_ (State.reply_kept _ _ _)
      exact Kept.refl _ _
    · refine Kept.step ?_ (State.reply_kept _ _ _)
      exact Kept.refl _ _
  ·
    refine Kept.step ?_ (State.reply_kept _ _ _)
    exact Kept.refl _ _
  ·
    refine Kept.step ?_ (State.reply_kept _ _ _)
    exact Kept.refl _ _
  ·
    refine Kept.step ?_ (State.reply_kept _ _ _)
    exact Kept.refl _ _
  ·
    refine Kept.step ?_ (State.reply_kept _ _ _)
    exact Kept.refl _ _
  ·
    exact Kept.refl _ _

theorem State.retransmit_kept : ∀ s a1, Kept 0x200008 s (State.retransmit s a1) := by
  intro s a1
  unfold State.retransmit
  extract_lets +onlyGivenNames -merge -underBinder x1
  extract_lets +onlyGivenNames -merge -underBinder x2
  extract_lets +onlyGivenNames -merge -underBinder x3
  have h3 : Kept 0x200008 s x3 := by
    unfold x3
    refine Kept.step ?_ (State.setPort_kept _ _ _)
    refine Kept.step ?_ (State.bump_kept _ _ _)
    exact Kept.refl _ _
  clear_value x3
  refine (Kept.upd ?_).kept
  exact h3

theorem State.takeReq_kept : ∀ s a1 a2 a3 a4, Kept 0x3272000777f38 s (State.takeReq s a1 a2 a3 a4) := by
  intro s a1 a2 a3 a4
  unfold State.takeReq
  extract_lets +onlyGivenNames -merge -underBinder x1
  extract_lets +onlyGivenNames -merge -underBinder x2
  have h2 : Kept 0x3272000777f38 s x2 := by
    unfold x2
    refine Kept.step ?_ (State.finishReq_kept _ _ _ _ _)
    exact Kept.refl _ _
  clear_value x2
  extract_lets +onlyGivenNames -merge -underBinder x3
  have h3 : Kept 0x3272000777f38 s x3 := by
    unfold x3
    split
    ·
      refine Kept.ite ?_ ?_
      · exact h2
      · extract_lets +onlyGivenNames -merge -underBinder x4
        refine Kept.step ?_ (State.issue_kept _ _ _)
        exact h2
    ·
      exact h2
  clear_value x3
  extract_lets +onlyGivenNames -merge -underBinder x5
  have h5 : Kept 0x3272000777f38 s x5 := by
    unfold x5
    split
    ·
      refine Kept.ite ?_ ?_
      · refine Kept.step ?_ (State.resumeLoad_kept _ _)
        exact h3
      · refine Kept.step ?_ (State.resumeSwap_kept _)
        exact h3
    ·
      exact h3
  clear_value x5
  refine Kept.step ?_ (State.unstall_kept _)
  exact h5

theorem State.settleMsgs_kept : ∀ s a1, Kept 0x400400 s (State.settleMsgs s a1) := by
  intro s a1
  unfold State.settleMsgs
  extract_lets +onlyGivenNames -merge -underBinder x1
  extract_lets +onlyGivenNames -merge -underBinder x2
  extract_lets +onlyGivenNames -merge -underBinder x3
  have h3 : Kept 0x400400 s x3 := by
    unfold x3
    refine Kept.step ?_ (State.setMsgs_kept _ _ _)
    exact Kept.refl _ _
  clear_value x3
  refine Kept.foldl ?_ (fun _ _ h4 => ?_)
  · exact h3
  · refine Kept.step ?_ (State.settleStage_kept _ _)
    exact h4

theorem State.creditBack_kept : ∀ s a1 a2 a3, Kept 0x400408 s (State.creditBack s a1 a2 a3) := by
  intro s a1 a2 a3
  unfold State.creditBack
  extract_lets +onlyGivenNames -merge -underBinder x1
  have h1 : Kept 0x400408 s x1 := by
    unfold x1
    refine Kept.step ?_ (State.wf_kept _ _ _ _)
    exact Kept.refl _ _
  clear_value x1
  extract_lets +onlyGivenNames -merge -underBinder x2
  extract_lets +onlyGivenNames -merge -underBinder x3
  have h3 : Kept 0x400408 s x3 := by
    unfold x3
    split
    ·
      refine Kept.step ?_ (State.setMsgs_kept _ _ _)
      exact h1
    ·
      exact h1
  clear_value x3
  refine Kept.step ?_ (State.settleMsgs_kept _ _)
  exact h3

theorem State.creditOf_kept : ∀ s a1 a2 a3, Kept 0x400408 s (State.creditOf s a1 a2 a3) := by
  intro s a1 a2 a3
  unfold State.creditOf
  split
  ·
    exact Kept.refl _ _
  ·
    refine Kept.step ?_ (State.creditBack_kept _ _ _ _)
    exact Kept.refl _ _

theorem State.sendWaiting_kept : ∀ s, Kept 0x3272000777f38 s (State.sendWaiting s) := by
  intro s
  unfold State.sendWaiting
  refine Kept.foldl ?_ (fun _ _ h1 => ?_)
  · refine (Kept.upd ?_).kept
    exact Kept.refl _ _
  · split
    ·
      extract_lets +onlyGivenNames -merge -underBinder x2
      split
      ·
        refine Kept.step ?_ (State.transmit_kept _ _ _)
        exact h1
      ·
        refine (Kept.upd ?_).kept
        exact h1
      ·
        split
        ·
          refine Kept.step ?_ (State.complReply_kept _ _ _ _ _)
          refine Kept.step ?_ (State.bump_kept _ _ _)
          exact h1
        ·
          refine Kept.step ?_ (State.takeReq_kept _ _ _ _ _)
          exact h1
        ·
          refine Kept.step ?_ (State.takeReq_kept _ _ _ _ _)
          exact h1
        ·
          refine Kept.step ?_ (State.takeReq_kept _ _ _ _ _)
          exact h1
        ·
          refine Kept.step ?_ (State.takeReq_kept _ _ _ _ _)
          exact h1
        ·
          refine Kept.step ?_ (State.creditOf_kept _ _ _ _)
          refine Kept.step ?_ (State.bump_kept _ _ _)
          exact h1
        ·
          refine Kept.step ?_ (State.bump_kept _ _ _)
          exact h1
      ·
        split
        ·
          refine Kept.step ?_ (State.complReply_kept _ _ _ _ _)
          refine Kept.step ?_ (State.bump_kept _ _ _)
          exact h1
        ·
          refine Kept.step ?_ (State.takeReq_kept _ _ _ _ _)
          exact h1
        ·
          refine Kept.step ?_ (State.takeReq_kept _ _ _ _ _)
          exact h1
        ·
          refine Kept.step ?_ (State.takeReq_kept _ _ _ _ _)
          exact h1
        ·
          refine Kept.step ?_ (State.takeReq_kept _ _ _ _ _)
          exact h1
        ·
          refine Kept.step ?_ (State.creditOf_kept _ _ _ _)
          refine Kept.step ?_ (State.bump_kept _ _ _)
          exact h1
        ·
          refine Kept.step ?_ (State.bump_kept _ _ _)
          exact h1

theorem State.linkUp_kept : ∀ s a1 a2 a3 a4 a5, Kept 0x3272000777f38 s (State.linkUp s a1 a2 a3 a4 a5) := by
  intro s a1 a2 a3 a4 a5
  unfold State.linkUp
  extract_lets +onlyGivenNames -merge -underBinder x1
  extract_lets +onlyGivenNames -merge -underBinder x2
  extract_lets +onlyGivenNames -merge -underBinder x3
  extract_lets +onlyGivenNames -merge -underBinder x4
  have h4 : Kept 0x3272000777f38 s x4 := by
    unfold x4
    refine Kept.ite ?_ ?_
    · refine Kept.step ?_ (State.bump_kept _ _ _)
      exact Kept.refl _ _
    · exact Kept.refl _ _
  clear_value x4
  extract_lets +onlyGivenNames -merge -underBinder x5
  have h5 : Kept 0x3272000777f38 s x5 := by
    unfold x5
    refine Kept.step ?_ (State.wr_kept _ _ _)
    exact h4
  clear_value x5
  extract_lets +onlyGivenNames -merge -underBinder x6
  have h6 : Kept 0x3272000777f38 s x6 := by
    unfold x6
    refine Kept.step ?_ (State.wf_kept _ _ _ _)
    refine Kept.step ?_ (State.wf_kept _ _ _ _)
    refine Kept.step ?_ (State.wf_kept _ _ _ _)
    exact h5
  clear_value x6
  extract_lets +onlyGivenNames -merge -underBinder x7
  extract_lets +onlyGivenNames -merge -underBinder x8
  have h8 : Kept 0x3272000777f38 s x8 := by
    unfold x8
    refine Kept.ite ?_ ?_
    · refine Kept.step ?_ (State.post_kept _ _ _ _ _ _)
      exact h6
    · exact h6
  clear_value x8
  extract_lets +onlyGivenNames -merge -underBinder x9
  have h9 : Kept 0x3272000777f38 s x9 := by
    unfold x9
    refine Kept.ite ?_ ?_
    · refine Kept.step ?_ (State.post_kept _ _ _ _ _ _)
      exact h8
    · exact h8
  clear_value x9
  extract_lets +onlyGivenNames -merge -underBinder x10
  have h10 : Kept 0x3272000777f38 s x10 := by
    unfold x10
    refine Kept.ite ?_ ?_
    · refine Kept.step ?_ (State.post_kept _ _ _ _ _ _)
      exact h9
    · exact h9
  clear_value x10
  extract_lets +onlyGivenNames -merge -underBinder x11 x12
  have h12 : Kept 0x3272000777f38 s x12 := by
    unfold x12
    refine Kept.ite ?_ ?_
    · refine Kept.step ?_ (State.retransmit_kept _ _)
      exact h10
    · refine Kept.step ?_ (State.setPort_kept _ _ _)
      exact h10
  clear_value x12
  refine Kept.step ?_ (State.sendWaiting_kept _)
  exact h12

theorem State.badPacket_kept : ∀ s a1 a2, Kept 0x200008 s (State.badPacket s a1 a2) := by
  intro s a1 a2
  unfold State.badPacket
  refine Kept.ite ?_ ?_
  · exact Kept.refl _ _
  · extract_lets +onlyGivenNames -merge -underBinder x1
    have h1 : Kept 0x200008 s x1 := by
      unfold x1
      refine Kept.ite ?_ ?_
      · refine Kept.step ?_ (State.bump_kept _ _ _)
        exact Kept.refl _ _
      · refine Kept.step ?_ (State.bump_kept _ _ _)
        exact Kept.refl _ _
    clear_value x1
    extract_lets +onlyGivenNames -merge -underBinder x2
    refine Kept.ite ?_ ?_
    · exact h1
    · refine Kept.step ?_ (State.sendLink_kept _ _ _)
      refine Kept.step ?_ (State.setPort_kept _ _ _)
      exact h1

theorem State.acked_kept : ∀ s a1 a2, Kept 0x200000 s (State.acked s a1 a2) := by
  intro s a1 a2
  unfold State.acked
  extract_lets +onlyGivenNames -merge -underBinder x1
  extract_lets +onlyGivenNames -merge -underBinder x2
  refine Kept.ite ?_ ?_
  · exact Kept.refl _ _
  · refine Kept.step ?_ (State.setPort_kept _ _ _)
    exact Kept.refl _ _

theorem State.receive_kept : ∀ s a1 a2, Kept 0x200008 s (State.receive s a1 a2).2 := by
  intro s a1 a2
  unfold State.receive
  refine Kept.ite2 ?_ ?_
  · dsimp only
    exact Kept.refl _ _
  · extract_lets +onlyGivenNames -merge -underBinder x1
    have h1 : Kept 0x200008 s x1 := by
      unfold x1
      refine Kept.step ?_ (State.bump_kept _ _ _)
      exact Kept.refl _ _
    clear_value x1
    refine Kept.ite2 ?_ ?_
    · dsimp only
      refine Kept.step ?_ (State.badPacket_kept _ _ _)
      exact h1
    · extract_lets +onlyGivenNames -merge -underBinder x2
      have h2 : Kept 0x200008 s x2 := by
        unfold x2
        refine Kept.ite ?_ ?_
        · refine Kept.step ?_ (State.acked_kept _ _ _)
          exact h1
        · exact h1
      clear_value x2
      extract_lets +onlyGivenNames -merge -underBinder x3
      refine Kept.ite2 ?_ ?_
      · dsimp only
        exact h2
      · extract_lets +onlyGivenNames -merge -underBinder x4
        have h4 : Kept 0x200008 s x4 := by
          unfold x4
          refine Kept.step ?_ (State.setPort_kept _ _ _)
          exact h2
        clear_value x4
        extract_lets +onlyGivenNames -merge -underBinder x5
        dsimp only
        refine Kept.step ?_ (State.bump_kept _ _ _)
        refine Kept.step ?_ (State.bump_kept _ _ _)
        exact h4

theorem State.prune_kept : ∀ s a1 a2 a3 a4 a5, Kept 0x242000200008 s (State.prune s a1 a2 a3 a4 a5) := by
  intro s a1 a2 a3 a4 a5
  unfold State.prune
  extract_lets +onlyGivenNames -merge -underBinder x1
  have h1 : Kept 0x242000200008 s x1 := by
    unfold x1
    refine Kept.step ?_ (State.wr64_kept _ _ _)
    exact Kept.refl _ _
  clear_value x1
  extract_lets +onlyGivenNames -merge -underBinder x2
  have h2 : Kept 0x242000200008 s x2 := by
    unfold x2
    refine Kept.ite ?_ ?_
    · refine Kept.step ?_ (State.sendPacket_kept _ _)
      exact h1
    · exact h1
  clear_value x2
  refine Kept.step ?_ (State.post_kept _ _ _ _ _ _)
  exact h2

end Sys2Proof.Machine
end

