-- ==== Sys2Proof/Laws/FrameFabric.lean ====
section
/-! SUPPORT. What each operation of `Machine/Fabric.lean` may change: one lemma each, the parts it may change as a mask of `Part.no` bits. -/
set_option linter.unusedVariables false
set_option Elab.async false
namespace Sys2Proof.Machine

theorem execPortEnWrite_kept : ∀ a0 a1 s, OutKept 0x242003200008 s (execPortEnWrite a0 a1 s) := by
  intro a0 a1 s
  unfold execPortEnWrite
  refine State.atBlock_kept _ (by decide) (fun s0 h0 => ?_)
  extract_lets +onlyGivenNames -merge -underBinder x1
  have h1 : Kept 0x242003200008 s x1 := by
    unfold x1
    refine Kept.step ?_ (State.wb_kept _ _ _ _)
    exact h0
  clear_value x1
  refine OutKept.next ?_
  refine Kept.ite ?_ ?_
  · refine Kept.ite ?_ ?_
    · refine Kept.step ?_ (State.restLink_kept _ _)
      exact h1
    · exact h1
  · refine Kept.ite ?_ ?_
    · refine Kept.step ?_ (State.linkDown_kept _ _ _)
      exact h1
    · refine Kept.step ?_ (State.restLink_kept _ _)
      exact h1

theorem execPortRetrain_kept : ∀ a0 s, OutKept 0x242003200008 s (execPortRetrain a0 s) := by
  intro a0 s
  unfold execPortRetrain
  refine State.atBlock_kept _ (by decide) (fun s0 h0 => ?_)
  refine OutKept.next ?_
  refine Kept.ite ?_ ?_
  · refine Kept.step ?_ (State.linkDown_kept _ _ _)
    exact h0
  · refine Kept.ite ?_ ?_
    · refine Kept.step ?_ (State.restLink_kept _ _)
      exact h0
    · exact h0

theorem execMcastEnable_kept : ∀ a0 a1 s, OutKept 0x242000400408 s (execMcastEnable a0 a1 s) := by
  intro a0 a1 s
  unfold execMcastEnable
  refine State.atBlock_kept _ (by decide) (fun s0 h0 => ?_)
  extract_lets +onlyGivenNames -merge -underBinder x1
  extract_lets +onlyGivenNames -merge -underBinder x2
  have h2 : Kept 0x242000400408 s x2 := by
    unfold x2
    refine Kept.step ?_ (State.wf_kept _ _ _ _)
    refine Kept.step ?_ (State.wb_kept _ _ _ _)
    exact h0
  clear_value x2
  refine OutKept.next ?_
  refine Kept.ite ?_ ?_
  · extract_lets +onlyGivenNames -merge -underBinder x3
    have h3 : Kept 0x242000400408 s x3 := by
      unfold x3
      refine Kept.step ?_ (State.wb_kept _ _ _ _)
      refine Kept.step ?_ (State.wb_kept _ _ _ _)
      exact h2
    clear_value x3
    extract_lets +onlyGivenNames -merge -underBinder x4
    extract_lets +onlyGivenNames -merge -underBinder x5 x6
    have h6 : Kept 0x242000400408 s x6 := by
      unfold x6
      refine (Kept.upd ?_).kept
      unfold x5
      refine Kept.step ?_ (State.setMsgs_kept _ _ _)
      exact h3
    clear_value x6
    refine Kept.foldl ?_ (fun _ _ h7 => ?_)
    · exact h6
    · refine Kept.step ?_ (State.settleStage_kept _ _)
      exact h7
  · refine Kept.ite ?_ ?_
    · exact h2
    · extract_lets +onlyGivenNames -merge -underBinder x8
      refine Kept.ite ?_ ?_
      · refine Kept.step ?_ (State.post_kept _ _ _ _ _ _)
        refine Kept.step ?_ (State.wb_kept _ _ _ _)
        exact h2
      · extract_lets +onlyGivenNames -merge -underBinder x9
        have h9 : Kept 0x242000400408 s x9 := by
          unfold x9
          refine Kept.step ?_ (State.wb_kept _ _ _ _)
          refine Kept.step ?_ (State.wb_kept _ _ _ _)
          exact h2
        clear_value x9
        extract_lets +onlyGivenNames -merge -underBinder x10
        have h10 : Kept 0x242000400408 s x10 := by
          unfold x10
          refine Kept.foldl ?_ (fun _ _ h11 => ?_)
          · exact h9
          · refine Kept.step ?_ (State.wf_kept _ _ _ _)
            exact h11
        clear_value x10
        refine (Kept.upd ?_).kept
        exact h10

theorem execMcastUnprune_kept : ∀ a0 a1 s, OutKept 0x8 s (execMcastUnprune a0 a1 s) := by
  intro a0 a1 s
  unfold execMcastUnprune
  refine State.atBlock_kept _ (by decide) (fun s0 h0 => ?_)
  extract_lets +onlyGivenNames -merge -underBinder x1
  refine OutKept.next ?_
  refine Kept.step ?_ (State.wr64_kept _ _ _)
  exact h0

theorem execBypassOpen_kept : ∀ a0 s, OutKept 0x800008 s (execBypassOpen a0 s) := by
  intro a0 s
  unfold execBypassOpen
  refine State.atBlock_kept _ (by decide) (fun s0 h0 => ?_)
  refine OutKept.next ?_
  refine Kept.foldl ?_ (fun _ _ h1 => ?_)
  · exact h0
  · refine Kept.ite ?_ ?_
    · refine Kept.step ?_ (State.openBypass_kept _ _)
      exact h1
    · exact h1

theorem execBypassClose_kept : ∀ a0 s, OutKept 0x242003a00008 s (execBypassClose a0 s) := by
  intro a0 s
  unfold execBypassClose
  refine State.atBlock_kept _ (by decide) (fun s0 h0 => ?_)
  refine OutKept.next ?_
  refine Kept.foldl ?_ (fun _ _ h1 => ?_)
  · exact h0
  · refine Kept.ite ?_ ?_
    · refine Kept.step ?_ (State.closeBypass_kept _ _ _ _)
      exact h1
    · exact h1

theorem execLinkTrained_kept : ∀ a0 a1 a2 a3 a4 s, OutKept 0x3272000777f38 s (execLinkTrained a0 a1 a2 a3 a4 s) := by
  intro a0 a1 a2 a3 a4 s
  unfold execLinkTrained
  refine OutKept.next ?_
  refine Kept.ite ?_ ?_
  · exact Kept.refl _ _
  · refine Kept.ite ?_ ?_
    · refine Kept.step ?_ (State.linkUp_kept _ _ _ _ _ _)
      exact Kept.refl _ _
    · refine Kept.ite ?_ ?_
      · refine Kept.step ?_ (State.linkUp_kept _ _ _ _ _ _)
        exact Kept.refl _ _
      · refine Kept.ite ?_ ?_
        · refine Kept.step ?_ (State.linkUp_kept _ _ _ _ _ _)
          exact Kept.refl _ _
        · refine Kept.step ?_ (State.wf_kept _ _ _ _)
          exact Kept.refl _ _

theorem execLossOfLight_kept : ∀ a0 s, OutKept 0x242003200008 s (execLossOfLight a0 s) := by
  intro a0 s
  unfold execLossOfLight
  extract_lets +onlyGivenNames -merge -underBinder x1 x2
  have h2 : Kept 0x242003200008 s x2 := by
    unfold x2
    refine Kept.step ?_ (State.setPort_kept _ _ _)
    exact Kept.refl _ _
  clear_value x2
  refine OutKept.next ?_
  refine Kept.ite ?_ ?_
  · refine Kept.step ?_ (State.linkDown_kept _ _ _)
    exact h2
  · exact h2

theorem execCorruptPacket_kept : ∀ a0 a1 s, OutKept 0x200008 s (execCorruptPacket a0 a1 s) := by
  intro a0 a1 s
  unfold execCorruptPacket
  refine OutKept.next ?_
  refine Kept.step ?_ (State.badPacket_kept _ _ _)
  exact Kept.refl _ _

theorem execRetransmitTimeout_kept : ∀ a0 a1 s, OutKept 0x200008 s (execRetransmitTimeout a0 a1 s) := by
  intro a0 a1 s
  unfold execRetransmitTimeout
  extract_lets +onlyGivenNames -merge -underBinder x1
  have h1 : Kept 0x200008 s x1 := by
    unfold x1
    split
    ·
      refine Kept.step ?_ (State.acked_kept _ _ _)
      exact Kept.refl _ _
    ·
      exact Kept.refl _ _
  clear_value x1
  extract_lets +onlyGivenNames -merge -underBinder x2
  refine OutKept.next ?_
  refine Kept.ite ?_ ?_
  · exact h1
  · refine Kept.step ?_ (State.retransmit_kept _ _)
    refine Kept.step ?_ (State.setPort_kept _ _ _)
    exact h1

theorem execRetryLimit_kept : ∀ a0 s, OutKept 0x242003200008 s (execRetryLimit a0 s) := by
  intro a0 s
  unfold execRetryLimit
  refine OutKept.next ?_
  refine Kept.ite ?_ ?_
  · refine Kept.step ?_ (State.linkDown_kept _ _ _)
    exact Kept.refl _ _
  · exact Kept.refl _ _

theorem execLink_kept : ∀ a0 a1 s, OutKept 0x200008 s (execLink a0 a1 s) := by
  intro a0 a1 s
  unfold execLink
  refine OutKept.next ?_
  refine Kept.ite ?_ ?_
  · exact Kept.refl _ _
  · refine Kept.ite ?_ ?_
    · refine Kept.step ?_ (State.badPacket_kept _ _ _)
      exact Kept.refl _ _
    · refine Kept.ite ?_ ?_
      · refine Kept.step ?_ (State.acked_kept _ _ _)
        exact Kept.refl _ _
      · exact Kept.refl _ _

theorem execPacketForward_kept : ∀ a0 a1 s, OutKept 0x200008 s (execPacketForward a0 a1 s) := by
  intro a0 a1 s
  unfold execPacketForward
  extract_lets +onlyGivenNames -merge -underBinder x1
  refine OutKept.next ?_
  refine Kept.ite ?_ ?_
  · exact Kept.refl _ _
  · split
    next y2 q2 =>
      have h2 : Kept 0x200008 s y2 := Kept.snd q2 (by
        refine Kept.step ?_ (State.receive_kept _ _ _)
        exact Kept.refl _ _)
      exact h2
    next y3 q3 =>
      have h3 : Kept 0x200008 s y3 := Kept.snd q3 (by
        refine Kept.step ?_ (State.receive_kept _ _ _)
        exact Kept.refl _ _)
      split
      ·
        unfold x1
        refine Kept.step ?_ (State.complReply_kept _ _ _ _ _)
        refine Kept.step ?_ (State.bump_kept _ _ _)
        exact h3
      ·
        unfold x1
        refine Kept.step ?_ (State.complReply_kept _ _ _ _ _)
        refine Kept.step ?_ (State.bump_kept _ _ _)
        exact h3
      ·
        refine Kept.ite ?_ ?_
        · unfold x1
          refine Kept.step ?_ (State.complReply_kept _ _ _ _ _)
          refine Kept.step ?_ (State.bump_kept _ _ _)
          exact h3
        · refine (Kept.upd ?_).kept
          exact h3
      ·
        refine Kept.ite ?_ ?_
        · unfold x1
          refine Kept.step ?_ (State.complReply_kept _ _ _ _ _)
          refine Kept.step ?_ (State.bump_kept _ _ _)
          exact h3
        · refine Kept.step ?_ (State.transmit_kept _ _ _)
          exact h3

theorem execCpl_kept : ∀ a0 a1 s, OutKept 0x3272000777f38 s (execCpl a0 a1 s) := by
  intro a0 a1 s
  unfold execCpl
  refine OutKept.next ?_
  refine Kept.ite ?_ ?_
  · exact Kept.refl _ _
  · split
    next y1 q1 =>
      have h1 : Kept 0x3272000777f38 s y1 := Kept.snd q1 (by
        refine Kept.step ?_ (State.receive_kept _ _ _)
        exact Kept.refl _ _)
      exact h1
    next y2 q2 =>
      have h2 : Kept 0x3272000777f38 s y2 := Kept.snd q2 (by
        refine Kept.step ?_ (State.receive_kept _ _ _)
        exact Kept.refl _ _)
      refine Kept.step ?_ (State.takeReq_kept _ _ _ _ _)
      exact h2

theorem execCplData_kept : ∀ a0 a1 s, OutKept 0x3272000777f38 s (execCplData a0 a1 s) := by
  intro a0 a1 s
  unfold execCplData
  refine OutKept.next ?_
  refine Kept.ite ?_ ?_
  · exact Kept.refl _ _
  · split
    next y1 q1 =>
      have h1 : Kept 0x3272000777f38 s y1 := Kept.snd q1 (by
        refine Kept.step ?_ (State.receive_kept _ _ _)
        exact Kept.refl _ _)
      exact h1
    next y2 q2 =>
      have h2 : Kept 0x3272000777f38 s y2 := Kept.snd q2 (by
        refine Kept.step ?_ (State.receive_kept _ _ _)
        exact Kept.refl _ _)
      refine Kept.step ?_ (State.takeReq_kept _ _ _ _ _)
      exact h2

theorem execRequestTimeout_kept : ∀ a0 s, OutKept 0x3272000777f38 s (execRequestTimeout a0 s) := by
  intro a0 s
  unfold execRequestTimeout
  extract_lets +onlyGivenNames -merge -underBinder x1
  refine OutKept.next ?_
  split
  ·
    refine Kept.ite ?_ ?_
    · exact Kept.refl _ _
    · refine Kept.step ?_ (State.takeReq_kept _ _ _ _ _)
      exact Kept.refl _ _
  ·
    exact Kept.refl _ _

theorem execBypassSettled_kept : ∀ a0 s, OutKept 0x242000800008 s (execBypassSettled a0 s) := by
  intro a0 s
  unfold execBypassSettled
  refine OutKept.next ?_
  refine Kept.ite ?_ ?_
  · exact Kept.refl _ _
  · extract_lets +onlyGivenNames -merge -underBinder x1
    have h1 : Kept 0x242000800008 s x1 := by
      unfold x1
      refine Kept.step ?_ (State.wf_kept _ _ _ _)
      exact Kept.refl _ _
    clear_value x1
    refine Kept.ite ?_ ?_
    · extract_lets +onlyGivenNames -merge -underBinder x2 x3
      have h3 : Kept 0x242000800008 s x3 := by
        unfold x3
        refine (Kept.upd ?_).kept
        unfold x2
        refine Kept.step ?_ (State.wf_kept _ _ _ _)
        exact h1
      clear_value x3
      extract_lets +onlyGivenNames -merge -underBinder x4
      have h4 : Kept 0x242000800008 s x4 := by
        unfold x4
        refine Kept.foldl ?_ (fun _ _ h5 => ?_)
        · exact h3
        · refine Kept.step ?_ (State.restLink_kept _ _)
          exact h5
      clear_value x4
      refine Kept.step ?_ (State.post_kept _ _ _ _ _ _)
      exact h4
    · refine Kept.ite ?_ ?_
      · exact h1
      · refine Kept.step ?_ (State.post_kept _ _ _ _ _ _)
        exact h1

theorem State.mcOne_kept : ∀ s a1 a2 a3, Kept 0x242000200008 s (State.mcOne s a1 a2 a3).2 := by
  intro s a1 a2 a3
  unfold State.mcOne
  extract_lets +onlyGivenNames -merge -underBinder x1
  extract_lets +onlyGivenNames -merge -underBinder x2
  refine Kept.ite2 ?_ ?_
  · dsimp only
    exact Kept.refl _ _
  · refine Kept.ite2 ?_ ?_
    · dsimp only
      refine Kept.step ?_ (State.prune_kept _ _ _ _ _ _)
      exact Kept.refl _ _
    · refine Kept.ite2 ?_ ?_
      · dsimp only
        exact Kept.refl _ _
      · extract_lets +onlyGivenNames -merge -underBinder x3
        have h3 : Kept 0x242000200008 s x3 := by
          unfold x3
          refine Kept.step ?_ (State.bump_kept _ _ _)
          refine Kept.step ?_ (State.wf_kept _ _ _ _)
          exact Kept.refl _ _
        clear_value x3
        extract_lets +onlyGivenNames -merge -underBinder x4
        split
        next y5 q5 =>
          have h5 : Kept 0x242000200008 s y5 := Kept.snd q5 (by
            refine Kept.step ?_ (State.sendPacket_kept _ _)
            exact h3)
          dsimp only
          exact h5
        next y6 q6 =>
          have h6 : Kept 0x242000200008 s y6 := Kept.snd q6 (by
            refine Kept.step ?_ (State.sendPacket_kept _ _)
            exact h3)
          dsimp only
          refine Kept.step ?_ (State.wf_kept _ _ _ _)
          refine Kept.step ?_ (State.bump_kept _ _ _)
          exact h6

theorem State.mcGo_kept : ∀ s a1 a2 a3, Kept 0x242000600408 s (State.mcGo s a1 a2 a3) := by
  intro s g at_ m
  unfold State.mcGo
  generalize hf : List.foldl _ _ _ = v
  have h : Kept 0x242000600408 s v.2.2 := by
    rw [← hf]
    refine Kept.fold (fun (x : List Nat × List Nat × State) => x.2.2) (Kept.refl _ _) ?_
    intro y a h
    have h1 := Kept.step (M := 0x242000600408) h (State.mcOne_kept y.2.2 g m a)
    revert h1
    obtain ⟨left, sent, t⟩ := y
    dsimp only
    generalize State.mcOne t g m a = q
    obtain ⟨⟨waits, went⟩, u⟩ := q
    exact id
  clear hf
  obtain ⟨left, sent, t⟩ := v
  replace h : Kept _ s t := h
  refine Kept.step ?_ (State.settleMsgs_kept _ _)
  refine Kept.step ?_ (State.setMsgs_kept _ _ _)
  exact Kept.step h (State.wb_kept _ _ _ _)

theorem execMcastSend_kept : ∀ a0 s, OutKept 0x242000600408 s (execMcastSend a0 s) := by
  intro a0 s
  unfold execMcastSend
  refine OutKept.next ?_
  split
  ·
    exact Kept.refl _ _
  ·
    split
    ·
      exact Kept.refl _ _
    ·
      refine Kept.step ?_ (State.mcGo_kept _ _ _ _)
      exact Kept.refl _ _

theorem execMcastHoldExpiry_kept : ∀ a0 s, OutKept 0x242000600408 s (execMcastHoldExpiry a0 s) := by
  intro a0 s
  unfold execMcastHoldExpiry
  extract_lets +onlyGivenNames -merge -underBinder x1
  refine OutKept.next ?_
  split
  ·
    exact Kept.refl _ _
  ·
    split
    ·
      exact Kept.refl _ _
    ·
      extract_lets +onlyGivenNames -merge -underBinder x2
      refine Kept.ite ?_ ?_
      · exact Kept.refl _ _
      · extract_lets +onlyGivenNames -merge -underBinder x3
        have h3 : Kept 0x242000600408 s x3 := by
          unfold x3
          refine Kept.step ?_ (State.wr_kept _ _ _)
          exact Kept.refl _ _
        clear_value x3
        refine Kept.ite ?_ ?_
        · extract_lets +onlyGivenNames -merge -underBinder x4
          have h4 : Kept 0x242000600408 s x4 := by
            unfold x4
            refine Kept.foldl ?_ (fun _ _ h5 => ?_)
            · exact h3
            · refine Kept.step ?_ (State.prune_kept _ _ _ _ _ _)
              exact h5
          clear_value x4
          extract_lets +onlyGivenNames -merge -underBinder x6
          refine Kept.step ?_ (State.settleMsgs_kept _ _)
          refine Kept.step ?_ (State.setMsgs_kept _ _ _)
          refine Kept.step ?_ (State.wb_kept _ _ _ _)
          exact h4
        · extract_lets +onlyGivenNames -merge -underBinder x7
          extract_lets +onlyGivenNames -merge -underBinder x8
          have h8 : Kept 0x242000600408 s x8 := by
            unfold x8
            refine Kept.step ?_ (State.postLim_kept _ _ _ _ _ _ _ _ _ _)
            exact h3
          clear_value x8
          refine Kept.step ?_ (State.setMsgs_kept _ _ _)
          exact h8

theorem execCredit_kept : ∀ a0 a1 s, OutKept 0x600408 s (execCredit a0 a1 s) := by
  intro a0 a1 s
  unfold execCredit
  extract_lets +onlyGivenNames -merge -underBinder x1
  refine OutKept.next ?_
  refine Kept.ite ?_ ?_
  · exact Kept.refl _ _
  · split
    next y2 q2 =>
      have h2 : Kept 0x600408 s y2 := Kept.snd q2 (by
        refine Kept.step ?_ (State.receive_kept _ _ _)
        exact Kept.refl _ _)
      exact h2
    next y3 q3 =>
      have h3 : Kept 0x600408 s y3 := Kept.snd q3 (by
        refine Kept.step ?_ (State.receive_kept _ _ _)
        exact Kept.refl _ _)
      refine Kept.step ?_ (State.creditOf_kept _ _ _ _)
      exact h3

theorem execGap_kept : ∀ a0 a1 s, OutKept 0x242000200008 s (execGap a0 a1 s) := by
  intro a0 a1 s
  unfold execGap
  refine OutKept.next ?_
  refine Kept.ite ?_ ?_
  · exact Kept.refl _ _
  · split
    next y1 q1 =>
      have h1 : Kept 0x242000200008 s y1 := Kept.snd q1 (by
        refine Kept.step ?_ (State.receive_kept _ _ _)
        exact Kept.refl _ _)
      exact h1
    next y2 q2 =>
      have h2 : Kept 0x242000200008 s y2 := Kept.snd q2 (by
        refine Kept.step ?_ (State.receive_kept _ _ _)
        exact Kept.refl _ _)
      refine Kept.step ?_ (State.post_kept _ _ _ _ _ _)
      exact h2

theorem execLightReceived_kept : ∀ a0 s, OutKept 0x200008 s (execLightReceived a0 s) := by
  intro a0 s
  unfold execLightReceived
  extract_lets +onlyGivenNames -merge -underBinder x1 x2
  have h2 : Kept 0x200008 s x2 := by
    unfold x2
    refine Kept.step ?_ (State.setPort_kept _ _ _)
    exact Kept.refl _ _
  clear_value x2
  refine OutKept.next ?_
  refine Kept.ite ?_ ?_
  · refine Kept.step ?_ (State.restLink_kept _ _)
    exact h2
  · exact h2

end Sys2Proof.Machine
end

