-- ==== Sys2Proof/Laws/FrameLines.lean ====
section
/-! SUPPORT. What each operation of `Machine/Lines.lean` may change: one lemma each, the parts it may change as a mask of `Part.no` bits. -/
set_option linter.unusedVariables false
set_option Elab.async false
namespace Sys2Proof.Machine

theorem State.decodeLine_kept : ∀ s a1 a2, Kept 0x2000000000000 s (State.decodeLine s a1 a2).2 := by
  intro s a1 a2
  unfold State.decodeLine
  extract_lets +onlyGivenNames -merge -underBinder x1
  extract_lets +onlyGivenNames -merge -underBinder x2
  extract_lets +onlyGivenNames -merge -underBinder x3
  refine Kept.ite2 ?_ ?_
  · dsimp only
    exact Kept.refl _ _
  · refine Kept.ite2 ?_ ?_
    · dsimp only
      exact Kept.refl _ _
    · refine Kept.ite2 ?_ ?_
      · dsimp only
        exact Kept.refl _ _
      · split
        next y4 q4 =>
          have h4 : Kept 0x2000000000000 s y4 := Kept.snd q4 (by
            refine Kept.step ?_ (State.takeFree_kept _)
            exact Kept.refl _ _)
          refine Kept.ite2 ?_ ?_
          · dsimp only
            exact h4
          · refine Kept.ite2 ?_ ?_
            · dsimp only
              exact h4
            · dsimp only
              exact h4

theorem State.corrected_kept : ∀ s a1 a2 a3, Kept 0x242000002008 s (State.corrected s a1 a2 a3) := by
  intro s a1 a2 a3
  unfold State.corrected
  extract_lets +onlyGivenNames -merge -underBinder x1
  extract_lets +onlyGivenNames -merge -underBinder x2
  have h2 : Kept 0x242000002008 s x2 := by
    unfold x2
    refine Kept.step ?_ (State.incF_kept _ _ _ _)
    exact Kept.refl _ _
  clear_value x2
  extract_lets +onlyGivenNames -merge -underBinder x3
  extract_lets +onlyGivenNames -merge -underBinder x4
  extract_lets +onlyGivenNames -merge -underBinder x5
  have h5 : Kept 0x242000002008 s x5 := by
    unfold x5
    refine Kept.step ?_ (State.setStack_kept _ _ _)
    exact h2
  clear_value x5
  split
  next y6 q6 =>
    have h6 : Kept 0x242000002008 s y6 := Kept.snd q6 (by
      refine Kept.step ?_ (State.limit_kept _ _ _ _ _ _ _)
      exact h5)
    refine Kept.step ?_ (State.post_kept _ _ _ _ _ _)
    exact h6
  next y7 q7 =>
    have h7 : Kept 0x242000002008 s y7 := Kept.snd q7 (by
      refine Kept.step ?_ (State.limit_kept _ _ _ _ _ _ _)
      exact h5)
    exact h7

theorem State.writeBack_kept : ∀ s a1 a2 a3, Kept 0x20000002038 s (State.writeBack s a1 a2 a3) := by
  intro s a1 a2 a3
  unfold State.writeBack
  refine Kept.ite ?_ ?_
  · extract_lets +onlyGivenNames -merge -underBinder x1
    refine Kept.step ?_ (State.setStack_kept _ _ _)
    exact Kept.refl _ _
  · refine Kept.step ?_ (State.putLine_kept _ _ _ _)
    exact Kept.refl _ _

theorem State.channelEvent_kept : ∀ s a1 a2, Kept 0x2000000 s (State.channelEvent s a1 a2) := by
  intro s a1 a2
  unfold State.channelEvent
  extract_lets +onlyGivenNames -merge -underBinder x1
  have h1 : Kept 0x2000000 s x1 := by
    unfold x1
    refine Kept.step ?_ (State.histEvent_kept _ _ _ _)
    exact Kept.refl _ _
  clear_value x1
  refine Kept.step ?_ (State.setHist_kept _ _ _)
  exact h1

theorem State.uncorrectable_kept : ∀ s a1 a2 a3 a4 a5, Kept 0x262002002038 s (State.uncorrectable s a1 a2 a3 a4 a5) := by
  intro s a1 a2 a3 a4 a5
  unfold State.uncorrectable
  extract_lets +onlyGivenNames -merge -underBinder x1
  extract_lets +onlyGivenNames -merge -underBinder x2
  extract_lets +onlyGivenNames -merge -underBinder x3
  have h3 : Kept 0x262002002038 s x3 := by
    unfold x3
    refine Kept.step ?_ (State.incF_kept _ _ _ _)
    refine Kept.step ?_ (State.bump_kept _ _ _)
    refine Kept.step ?_ (State.putLine_kept _ _ _ _)
    exact Kept.refl _ _
  clear_value x3
  extract_lets +onlyGivenNames -merge -underBinder x4
  have h4 : Kept 0x262002002038 s x4 := by
    unfold x4
    refine Kept.ite ?_ ?_
    · exact h3
    · refine Kept.step ?_ (State.wr64_kept _ _ _)
      refine Kept.step ?_ (State.wr_kept _ _ _)
      exact h3
  clear_value x4
  refine Kept.ite ?_ ?_
  · refine Kept.step ?_ (State.post_kept _ _ _ _ _ _)
    exact h4
  · refine Kept.step ?_ (State.post_kept _ _ _ _ _ _)
    refine Kept.step ?_ (State.channelEvent_kept _ _ _)
    exact h4

theorem State.lineRead_kept : ∀ s a1 a2 a3 a4 a5, Kept 0x2262002002038 s (State.lineRead s a1 a2 a3 a4 a5).2 := by
  intro s a1 a2 a3 a4 a5
  unfold State.lineRead
  extract_lets +onlyGivenNames -merge -underBinder x1
  extract_lets +onlyGivenNames -merge -underBinder x2
  extract_lets +onlyGivenNames -merge -underBinder x3
  split
  next y4 q4 =>
    have h4 : Kept 0x2262002002038 s y4 := Kept.snd q4 (by
      refine Kept.step ?_ (State.decodeLine_kept _ _ _)
      exact Kept.refl _ _)
    unfold x3
    dsimp only
    refine Kept.step ?_ (State.bump_kept _ _ _)
    exact h4
  next y5 q5 =>
    have h5 : Kept 0x2262002002038 s y5 := Kept.snd q5 (by
      refine Kept.step ?_ (State.decodeLine_kept _ _ _)
      exact Kept.refl _ _)
    unfold x3
    dsimp only
    refine Kept.step ?_ (State.bump_kept _ _ _)
    refine Kept.step ?_ (State.corrected_kept _ _ _ _)
    refine Kept.step ?_ (State.bump_kept _ _ _)
    refine Kept.step ?_ (State.writeBack_kept _ _ _ _)
    exact h5
  next y6 q6 =>
    have h6 : Kept 0x2262002002038 s y6 := Kept.snd q6 (by
      refine Kept.step ?_ (State.decodeLine_kept _ _ _)
      exact Kept.refl _ _)
    split
    next y7 q7 =>
      have h7 : Kept 0x2262002002038 s y7 := Kept.snd q7 (by
        refine Kept.step ?_ (State.decodeLine_kept _ _ _)
        exact h6)
      dsimp only
      refine Kept.step ?_ (State.uncorrectable_kept _ _ _ _ _ _)
      exact h7
    next y8 q8 =>
      have h8 : Kept 0x2262002002038 s y8 := Kept.snd q8 (by
        refine Kept.step ?_ (State.decodeLine_kept _ _ _)
        exact h6)
      unfold x3
      dsimp only
      refine Kept.step ?_ (State.bump_kept _ _ _)
      refine Kept.step ?_ (State.corrected_kept _ _ _ _)
      refine Kept.step ?_ (State.bump_kept _ _ _)
      refine Kept.step ?_ (State.writeBack_kept _ _ _ _)
      exact h8
    next y9 q9 =>
      have h9 : Kept 0x2262002002038 s y9 := Kept.snd q9 (by
        refine Kept.step ?_ (State.decodeLine_kept _ _ _)
        exact h6)
      unfold x3
      dsimp only
      refine Kept.step ?_ (State.bump_kept _ _ _)
      refine Kept.step ?_ (State.corrected_kept _ _ _ _)
      refine Kept.step ?_ (State.bump_kept _ _ _)
      exact h9

theorem State.hbmWrite_kept : ∀ s a1 a2 a3 a4 a5, Kept 0x2262002002038 s (State.hbmWrite s a1 a2 a3 a4 a5) := by
  intro s a1 a2 a3 a4 a5
  unfold State.hbmWrite
  refine Kept.ite ?_ ?_
  · refine Kept.step ?_ (State.putLine_kept _ _ _ _)
    exact Kept.refl _ _
  · split
    next y1 q1 =>
      have h1 : Kept 0x2262002002038 s y1 := Kept.snd q1 (by
        refine Kept.step ?_ (State.lineRead_kept _ _ _ _ _ _)
        refine Kept.step ?_ (State.bump_kept _ _ _)
        exact Kept.refl _ _)
      refine Kept.step ?_ (State.putLine_kept _ _ _ _)
      exact h1

theorem State.infeedWrite_kept : ∀ s a1 a2 a3 a4, Kept 0x20000000038 s (State.infeedWrite s a1 a2 a3 a4) := by
  intro s a1 a2 a3 a4
  unfold State.infeedWrite
  extract_lets +onlyGivenNames -merge -underBinder x1
  refine Kept.step ?_ (State.bump_kept _ _ _)
  refine Kept.step ?_ (State.setMark_kept _ _ _)
  refine Kept.step ?_ (State.setBytes_kept _ _ _)
  exact Kept.refl _ _

end Sys2Proof.Machine
end

