-- ==== Sys2Proof/Laws/FrameHostOps.lean ====
section
/-! SUPPORT. What each operation of `Machine/HostOps.lean` may change: one lemma each, the parts it may change as a mask of `Part.no` bits. -/
set_option linter.unusedVariables false
set_option Elab.async false
namespace Sys2Proof.Machine

theorem State.hostLinkDown_kept : ∀ s a1, Kept 0x3272000777f38 s (State.hostLinkDown s a1) := by
  intro s a1
  unfold State.hostLinkDown
  refine Kept.ite ?_ ?_
  · exact Kept.refl _ _
  · extract_lets +onlyGivenNames -merge -underBinder x1
    have h1 : Kept 0x3272000777f38 s x1 := by
      unfold x1
      refine Kept.step ?_ (State.bump_kept _ _ _)
      refine Kept.step ?_ (State.wr_kept _ _ _)
      exact Kept.refl _ _
    clear_value x1
    extract_lets +onlyGivenNames -merge -underBinder x2
    extract_lets +onlyGivenNames -merge -underBinder x3
    have h3 : Kept 0x3272000777f38 s x3 := by
      unfold x3
      refine Kept.step ?_ (State.resumeHost_kept _ _)
      refine Kept.foldl ?_ (fun _ _ h4 => ?_)
      · refine (Kept.upd ?_).kept
        exact h1
      · refine Kept.step ?_ (State.failHost_kept _ _ _)
        exact h4
    clear_value x3
    refine Kept.ite ?_ ?_
    · refine Kept.step ?_ (State.postVent_kept _ _ _ _ _)
      exact h3
    · exact h3

theorem State.evtError_kept : ∀ s a1 a2, Kept 0x242000000008 s (State.evtError s a1 a2) := by
  intro s a1 a2
  unfold State.evtError
  refine Kept.step ?_ (State.postOver_kept _ _ _ _ _ _ _)
  exact Kept.refl _ _

theorem State.remoteRead_kept : ∀ s a1 a2 a3, Kept 0x3252000737f38 s (State.remoteRead s a1 a2 a3) := by
  intro s a1 a2 a3
  unfold State.remoteRead
  refine Kept.foldl ?_ (fun _ _ h1 => ?_)
  · exact Kept.refl _ _
  · refine Kept.step ?_ (State.issue_kept _ _ _)
    exact h1

theorem State.remoteWrite_kept : ∀ s a1 a2 a3 a4, Kept 0x3252000737f38 s (State.remoteWrite s a1 a2 a3 a4) := by
  intro s a1 a2 a3 a4
  unfold State.remoteWrite
  extract_lets +onlyGivenNames -merge -underBinder x1
  refine Kept.ite ?_ ?_
  · refine Kept.step ?_ (State.issue_kept _ _ _)
    exact Kept.refl _ _
  · refine Kept.step ?_ (State.issue_kept _ _ _)
    exact Kept.refl _ _

theorem State.windowWrite_kept : ∀ s a1 a2 a3 a4 a5, Kept 0x2262002002038 s (State.windowWrite s a1 a2 a3 a4 a5) := by
  intro s a1 a2 a3 a4 a5
  unfold State.windowWrite
  split
  ·
    exact Kept.refl _ _
  ·
    refine Kept.ite ?_ ?_
    · refine Kept.step ?_ (State.unmappedEvent_kept _ _ _ _ _)
      exact Kept.refl _ _
    · refine Kept.step ?_ (State.hbmWrite_kept _ _ _ _ _ _)
      exact Kept.refl _ _
  ·
    refine Kept.ite ?_ ?_
    · refine Kept.step ?_ (State.unmappedEvent_kept _ _ _ _ _)
      exact Kept.refl _ _
    · refine Kept.step ?_ (State.infeedWrite_kept _ _ _ _ _)
      exact Kept.refl _ _
  ·
    refine Kept.step ?_ (State.unmappedEvent_kept _ _ _ _ _)
    exact Kept.refl _ _

theorem State.signalQueue_kept : ∀ s a1, Kept 0x180000000008 s (State.signalQueue s a1) := by
  intro s a1
  unfold State.signalQueue
  extract_lets +onlyGivenNames -merge -underBinder x1
  extract_lets +onlyGivenNames -merge -underBinder x2
  have h2 : Kept 0x180000000008 s x2 := by
    unfold x2
    refine (Kept.upd ?_).kept
    exact Kept.refl _ _
  clear_value x2
  refine Kept.ite ?_ ?_
  · refine (Kept.upd ?_).kept
    exact h2
  · refine Kept.ite ?_ ?_
    · extract_lets +onlyGivenNames -merge -underBinder x3
      have h3 : Kept 0x180000000008 s x3 := by
        unfold x3
        refine Kept.step ?_ (State.wakeLink_kept _)
        exact h2
      clear_value x3
      refine (Kept.upd ?_).kept
      exact h3
    · exact h2

end Sys2Proof.Machine
end

