-- ==== Sys2Proof/Laws/FrameHost.lean ====
section
/-! SUPPORT. What each operation of `Machine/Host.lean` may change: one lemma each, the parts it may change as a mask of `Part.no` bits. -/
set_option linter.unusedVariables false
set_option Elab.async false
namespace Sys2Proof.Machine

theorem execEvtQueueEnable_kept : ∀ a0 a1 s, OutKept 0x242000000008 s (execEvtQueueEnable a0 a1 s) := by
  intro a0 a1 s
  unfold execEvtQueueEnable
  refine State.atBlock_kept _ (by decide) (fun s0 h0 => ?_)
  extract_lets +onlyGivenNames -merge -underBinder x1
  have h1 : Kept 0x242000000008 s x1 := by
    unfold x1
    refine Kept.step ?_ (State.wrSoft_kept _ _ _)
    exact h0
  clear_value x1
  extract_lets +onlyGivenNames -merge -underBinder x2
  extract_lets +onlyGivenNames -merge -underBinder x3
  refine OutKept.next ?_
  refine Kept.ite ?_ ?_
  · exact h1
  · refine Kept.ite ?_ ?_
    · refine Kept.step ?_ (State.wb_kept _ _ _ _)
      exact h1
    · refine Kept.step ?_ (State.evtError_kept _ _ _)
      refine Kept.step ?_ (State.wb_kept _ _ _ _)
      refine Kept.step ?_ (State.wb_kept _ _ _ _)
      exact h1

theorem execEvtHeadWrite_kept : ∀ a0 a1 s, OutKept 0x242000000008 s (execEvtHeadWrite a0 a1 s) := by
  intro a0 a1 s
  unfold execEvtHeadWrite
  refine State.atBlock_kept _ (by decide) (fun s0 h0 => ?_)
  extract_lets +onlyGivenNames -merge -underBinder x1
  extract_lets +onlyGivenNames -merge -underBinder x2
  extract_lets +onlyGivenNames -merge -underBinder x3
  extract_lets +onlyGivenNames -merge -underBinder x4
  refine OutKept.next ?_
  refine Kept.ite ?_ ?_
  · refine Kept.step ?_ (State.wf_kept _ _ _ _)
    exact h0
  · refine Kept.step ?_ (State.evtError_kept _ _ _)
    exact h0

theorem execWindowAccess_kept : ∀ a0 a1 a2 a3 a4 a5 a6 s, OutKept 0x3272002737f38 s (execWindowAccess a0 a1 a2 a3 a4 a5 a6 s) := by
  intro a0 a1 a2 a3 a4 a5 a6 s
  unfold execWindowAccess
  extract_lets +onlyGivenNames -merge -underBinder x1
  refine OutKept.next ?_
  refine Kept.ite ?_ ?_
  · exact Kept.refl _ _
  · extract_lets +onlyGivenNames -merge -underBinder x2
    have h2 : Kept 0x3272002737f38 s x2 := by
      unfold x2
      refine Kept.step ?_ (State.wakeLink_kept _)
      exact Kept.refl _ _
    clear_value x2
    extract_lets +onlyGivenNames -merge -underBinder x3
    extract_lets +onlyGivenNames -merge -underBinder x4
    extract_lets +onlyGivenNames -merge -underBinder x5
    extract_lets +onlyGivenNames -merge -underBinder x6
    extract_lets +onlyGivenNames -merge -underBinder x7
    have h7 : Kept 0x3272002737f38 s x7 := by
      unfold x7
      refine Kept.ite ?_ ?_
      · refine Kept.step ?_ (State.wayParity_kept _ _ _ _ _)
        exact h2
      · exact h2
    clear_value x7
    refine Kept.ite ?_ ?_
    · refine Kept.ite ?_ ?_
      · refine Kept.step ?_ (State.remoteRead_kept _ _ _ _)
        exact h7
      · refine Kept.foldl ?_ (fun _ _ h8 => ?_)
        · exact h7
        · refine Kept.step ?_ (State.remoteWrite_kept _ _ _ _ _)
          exact h8
    · refine Kept.ite ?_ ?_
      · split
        ·
          extract_lets +onlyGivenNames -merge -underBinder x9
          have h9 : Kept 0x3272002737f38 s x9 := by
            unfold x9
            refine Kept.ite ?_ ?_
            · refine Kept.step ?_ (State.unmappedEvent_kept _ _ _ _ _)
              exact h7
            · refine Kept.step ?_ (State.countInf_kept _ _ _ _)
              refine Kept.step ?_ (State.countMarks_kept _ _ _)
              exact h7
          clear_value x9
          extract_lets +onlyGivenNames -merge -underBinder x10
          have h10 : Kept 0x3272002737f38 s x10 := by
            unfold x10
            refine Kept.step ?_ (State.bump_kept _ _ _)
            exact h9
          clear_value x10
          refine (Kept.upd ?_).kept
          exact h10
      · refine Kept.foldl ?_ (fun _ _ h11 => ?_)
        · exact h7
        · extract_lets +onlyGivenNames -merge -underBinder x12
          refine Kept.step ?_ (State.windowWrite_kept _ _ _ _ _ _)
          exact h11

theorem execHostRequestComplete_kept : ∀ a0 a1 s, OutKept 0x3272000777f38 s (execHostRequestComplete a0 a1 s) := by
  intro a0 a1 s
  unfold execHostRequestComplete
  refine OutKept.next ?_
  split
  ·
    exact Kept.refl _ _
  ·
    extract_lets +onlyGivenNames -merge -underBinder x1
    have h1 : Kept 0x3272000777f38 s x1 := by
      unfold x1
      refine (Kept.upd ?_).kept
      exact Kept.refl _ _
    clear_value x1
    refine Kept.step ?_ (State.unstallHost_kept _)
    refine Kept.step ?_ (State.resumeHost_kept _ _)
    split
    ·
      refine Kept.step ?_ (State.deliverHost_kept _ _ _ _)
      exact h1
    ·
      refine Kept.step ?_ (State.failHost_kept _ _ _)
      refine Kept.step ?_ (State.bump_kept _ _ _)
      exact h1

theorem execHostReadTimeout_kept : ∀ s, OutKept 0x3272000777f38 s (execHostReadTimeout s) := by
  intro s
  unfold execHostReadTimeout
  refine OutKept.next ?_
  refine Kept.ite ?_ ?_
  · exact Kept.refl _ _
  · split
    ·
      exact Kept.refl _ _
    ·
      refine Kept.step ?_ (State.unstallHost_kept _)
      refine Kept.step ?_ (State.resumeHost_kept _ _)
      refine Kept.step ?_ (State.failHost_kept _ _ _)
      refine (Kept.upd ?_).kept
      exact Kept.refl _ _

theorem execPcieLinkDown_kept : ∀ a0 s, OutKept 0x3272000777f38 s (execPcieLinkDown a0 s) := by
  intro a0 s
  unfold execPcieLinkDown
  refine OutKept.next ?_
  refine Kept.step ?_ (State.hostLinkDown_kept _ _)
  exact Kept.refl _ _

theorem execPcieLinkUp_kept : ∀ a0 a1 a2 s, OutKept 0x242000000008 s (execPcieLinkUp a0 a1 a2 s) := by
  intro a0 a1 a2 s
  unfold execPcieLinkUp
  refine OutKept.next ?_
  refine Kept.ite ?_ ?_
  · exact Kept.refl _ _
  · extract_lets +onlyGivenNames -merge -underBinder x1
    have h1 : Kept 0x242000000008 s x1 := by
      unfold x1
      refine Kept.step ?_ (State.wb_kept _ _ _ _)
      refine Kept.step ?_ (State.wf_kept _ _ _ _)
      refine Kept.step ?_ (State.wf_kept _ _ _ _)
      refine Kept.step ?_ (State.wb_kept _ _ _ _)
      exact Kept.refl _ _
    clear_value x1
    extract_lets +onlyGivenNames -merge -underBinder x2
    refine Kept.ite ?_ ?_
    · extract_lets +onlyGivenNames -merge -underBinder x3
      have h3 : Kept 0x242000000008 s x3 := by
        unfold x3
        refine Kept.step ?_ (State.post_kept _ _ _ _ _ _)
        exact h1
      clear_value x3
      refine Kept.ite ?_ ?_
      · exact h3
      · refine Kept.step ?_ (State.post_kept _ _ _ _ _ _)
        exact h3
    · exact h1

theorem execLinkIdleL1_kept : ∀ s, OutKept 0x8 s (execLinkIdleL1 s) := by
  intro s
  unfold execLinkIdleL1
  refine OutKept.next ?_
  refine Kept.ite ?_ ?_
  · refine Kept.step ?_ (State.wf_kept _ _ _ _)
    exact Kept.refl _ _
  · exact Kept.refl _ _

theorem State.placeRecord_kept : ∀ s a1 a2 a3 a4, Kept 0x3e2000002038 s (State.placeRecord s a1 a2 a3 a4) := by
  intro s a1 a2 a3 a4
  unfold State.placeRecord
  extract_lets +onlyGivenNames -merge -underBinder x1
  extract_lets +onlyGivenNames -merge -underBinder x2
  extract_lets +onlyGivenNames -merge -underBinder x3
  have h3 : Kept 0x3e2000002038 s x3 := by
    unfold x3
    refine Kept.step ?_ (State.wf_kept _ _ _ _)
    exact Kept.refl _ _
  clear_value x3
  extract_lets +onlyGivenNames -merge -underBinder x4
  have h4 : Kept 0x3e2000002038 s x4 := by
    unfold x4
    refine Kept.step ?_ (State.wf_kept _ _ _ _)
    refine Kept.step ?_ (State.putLine_kept _ _ _ _)
    refine Kept.step ?_ (State.linkCheck_kept _ _ _ _ _)
    exact h3
  clear_value x4
  extract_lets +onlyGivenNames -merge -underBinder x5
  extract_lets +onlyGivenNames -merge -underBinder x6
  have h6 : Kept 0x3e2000002038 s x6 := by
    unfold x6
    refine (Kept.upd ?_).kept
    exact h4
  clear_value x6
  refine Kept.ite ?_ ?_
  · refine Kept.step ?_ (State.signalQueue_kept _ _)
    exact h6
  · exact h6

theorem State.landRecord_kept : ∀ s a1 a2 a3, Kept 0x3e2000002038 s (State.landRecord s a1 a2 a3) := by
  intro s a1 a2 a3
  unfold State.landRecord
  extract_lets +onlyGivenNames -merge -underBinder x1
  extract_lets +onlyGivenNames -merge -underBinder x2
  refine Kept.ite ?_ ?_
  · refine Kept.step ?_ (State.loseRecord_kept _ _)
    exact Kept.refl _ _
  · extract_lets +onlyGivenNames -merge -underBinder x3
    refine Kept.ite ?_ ?_
    · extract_lets +onlyGivenNames -merge -underBinder x4
      have h4 : Kept 0x3e2000002038 s x4 := by
        unfold x4
        refine Kept.ite ?_ ?_
        · refine Kept.step ?_ (State.linkCheck_kept _ _ _ _ _)
          exact Kept.refl _ _
        · exact Kept.refl _ _
      clear_value x4
      refine Kept.step ?_ (State.postLim_kept _ _ _ _ _ _ _ _ _ _)
      refine Kept.step ?_ (State.loseRecord_kept _ _)
      exact h4
    · refine Kept.step ?_ (State.placeRecord_kept _ _ _ _ _)
      exact Kept.refl _ _

theorem execEventRecordWriteEnd_kept : ∀ a0 a1 s, OutKept 0x3e2000002038 s (execEventRecordWriteEnd a0 a1 s) := by
  intro a0 a1 s
  unfold execEventRecordWriteEnd
  refine OutKept.next ?_
  split
  ·
    exact Kept.refl _ _
  ·
    refine Kept.step ?_ (State.landRecord_kept _ _ _ _)
    refine (Kept.upd ?_).kept
    exact Kept.refl _ _

theorem execCoalTimeout_kept : ∀ a0 s, OutKept 0x180000000008 s (execCoalTimeout a0 s) := by
  intro a0 s
  unfold execCoalTimeout
  extract_lets +onlyGivenNames -merge -underBinder x1
  extract_lets +onlyGivenNames -merge -underBinder x2
  refine OutKept.next ?_
  refine Kept.ite ?_ ?_
  · refine Kept.step ?_ (State.signalQueue_kept _ _)
    exact Kept.refl _ _
  · exact Kept.refl _ _

end Sys2Proof.Machine
end

