-- ==== Sys2Proof/Laws/FrameSteadyRest.lean ====
section
/-! SUPPORT. What each operation of `Machine/SteadyRest.lean` may change: one lemma each, the parts it may change as a mask of `Part.no` bits. -/
set_option linter.unusedVariables false
set_option Elab.async false
namespace Sys2Proof.Machine

theorem execCoreCfgWrite_kept : ∀ a0 a1 s, OutKept 0x8 s (execCoreCfgWrite a0 a1 s) := by
  intro a0 a1 s
  unfold execCoreCfgWrite
  refine State.atBlock_kept _ (by decide) (fun s0 h0 => ?_)
  extract_lets +onlyGivenNames -merge -underBinder x1
  extract_lets +onlyGivenNames -merge -underBinder x2
  have h2 : Kept 0x8 s x2 := by
    unfold x2
    refine Kept.step ?_ (State.wf_kept _ _ _ _)
    exact h0
  clear_value x2
  refine OutKept.next ?_
  refine Kept.step ?_ (State.wf_kept _ _ _ _)
  exact h2

theorem execCoeffBankSwap_kept : ∀ a0 a1 s, OutKept 0x8000008 s (execCoeffBankSwap a0 a1 s) := by
  intro a0 a1 s
  unfold execCoeffBankSwap
  refine State.atBlock_kept _ (by decide) (fun s0 h0 => ?_)
  refine OutKept.next ?_
  refine Kept.step ?_ (State.wb_kept _ _ _ _)
  refine Kept.step ?_ (State.setCore_kept _ _ _)
  exact h0

theorem execSetWrite_kept : ∀ a0 a1 a2 a3 a4 s, OutKept 0x8 s (execSetWrite a0 a1 a2 a3 a4 s) := by
  intro a0 a1 a2 a3 a4 s
  unfold execSetWrite
  refine State.atBlock_kept _ (by decide) (fun s0 h0 => ?_)
  refine OutKept.next ?_
  refine Kept.ite ?_ ?_
  · exact h0
  · refine Kept.step ?_ (State.wrSoft_kept _ _ _)
    exact h0

theorem execLoopModeWrite_kept : ∀ a0 a1 s, OutKept 0x242058000108 s (execLoopModeWrite a0 a1 s) := by
  intro a0 a1 s
  unfold execLoopModeWrite
  refine State.atBlock_kept _ (by decide) (fun s0 h0 => ?_)
  extract_lets +onlyGivenNames -merge -underBinder x1
  extract_lets +onlyGivenNames -merge -underBinder x2
  extract_lets +onlyGivenNames -merge -underBinder x3
  have h3 : Kept 0x242058000108 s x3 := by
    unfold x3
    refine Kept.ite ?_ ?_
    · refine Kept.step ?_ (State.wrSoft_kept _ _ _)
      exact h0
    · exact h0
  clear_value x3
  extract_lets +onlyGivenNames -merge -underBinder x4
  have h4 : Kept 0x242058000108 s x4 := by
    unfold x4
    refine Kept.ite ?_ ?_
    · refine Kept.step ?_ (State.wf_kept _ _ _ _)
      exact h3
    · exact h3
  clear_value x4
  refine OutKept.next ?_
  refine Kept.ite ?_ ?_
  · exact h4
  · split
    ·
      refine Kept.ite ?_ ?_
      · refine Kept.step ?_ (State.enterRun_kept _ _ _)
        exact h4
      · refine Kept.step ?_ (State.modLoop_kept _ _ _)
        exact h4
    ·
      refine Kept.step ?_ (State.thawed_kept _ _)
      refine Kept.step ?_ (State.present_kept _ _ _)
      refine Kept.step ?_ (State.enterRun_kept _ _ _)
      exact h4
    ·
      refine Kept.step ?_ (State.modLoop_kept _ _ _)
      exact h4
    ·
      refine Kept.step ?_ (State.modLoop_kept _ _ _)
      exact h4
    ·
      refine Kept.step ?_ (State.thawed_kept _ _)
      refine Kept.step ?_ (State.modLoop_kept _ _ _)
      exact h4
    ·
      exact h4

theorem State.takeSwap_kept : ∀ s a1, Kept 0x8000008 s (State.takeSwap s a1) := by
  intro s a1
  unfold State.takeSwap
  split
  ·
    refine Kept.ite ?_ ?_
    · exact Kept.refl _ _
    · extract_lets +onlyGivenNames -merge -underBinder x1
      extract_lets +onlyGivenNames -merge -underBinder x2
      have h2 : Kept 0x8000008 s x2 := by
        unfold x2
        refine Kept.step ?_ (State.wb_kept _ _ _ _)
        refine Kept.step ?_ (State.wf_kept _ _ _ _)
        exact Kept.refl _ _
      clear_value x2
      extract_lets +onlyGivenNames -merge -underBinder x3 x4
      have h4 : Kept 0x8000008 s x4 := by
        unfold x4
        refine Kept.step ?_ (State.setCore_kept _ _ _)
        exact h2
      clear_value x4
      refine Kept.ite ?_ ?_
      · refine Kept.foldl ?_ (fun _ _ h5 => ?_)
        · exact h4
        · refine Kept.step ?_ (State.reinit_kept _ _)
          exact h5
      · exact h4
  ·
    exact Kept.refl _ _

theorem State.supervise_kept : ∀ s a1 a2 a3, Kept 0x8000008 s (State.supervise s a1 a2 a3) := by
  intro s a1 a2 a3
  unfold State.supervise
  extract_lets +onlyGivenNames -merge -underBinder x1
  split
  ·
    extract_lets +onlyGivenNames -merge -underBinder x2
    extract_lets +onlyGivenNames -merge -underBinder x3
    extract_lets +onlyGivenNames -merge -underBinder x4
    refine Kept.ite ?_ ?_
    · refine Kept.step ?_ (State.bump_kept _ _ _)
      refine Kept.step ?_ (State.setLoop_kept _ _ _)
      exact Kept.refl _ _
    · refine Kept.step ?_ (State.setLoop_kept _ _ _)
      exact Kept.refl _ _
  ·
    exact Kept.refl _ _

theorem State.noteLate_kept : ∀ s a1 a2 a3, Kept 0x242000000008 s (State.noteLate s a1 a2 a3) := by
  intro s a1 a2 a3
  unfold State.noteLate
  extract_lets +onlyGivenNames -merge -underBinder x1
  have h1 : Kept 0x242000000008 s x1 := by
    unfold x1
    refine Kept.step ?_ (State.bump_kept _ _ _)
    exact Kept.refl _ _
  clear_value x1
  extract_lets +onlyGivenNames -merge -underBinder x2
  extract_lets +onlyGivenNames -merge -underBinder x3
  split
  next y4 q4 =>
    have h4 : Kept 0x242000000008 s y4 := Kept.snd q4 (by
      refine Kept.step ?_ (State.limit_kept _ _ _ _ _ _ _)
      refine Kept.step ?_ (State.setLimit_kept _ _)
      exact h1)
    refine Kept.step ?_ (State.post_kept _ _ _ _ _ _)
    refine Kept.step ?_ (State.setLimit_kept _ _)
    exact h4
  next y5 q5 =>
    have h5 : Kept 0x242000000008 s y5 := Kept.snd q5 (by
      refine Kept.step ?_ (State.limit_kept _ _ _ _ _ _ _)
      refine Kept.step ?_ (State.setLimit_kept _ _)
      exact h1)
    exact h5

theorem State.sweepLoop_kept : ∀ s a1 a2 a3 a4, Kept 0x242018000008 s (State.sweepLoop s a1 a2 a3 a4).1 := by
  intro s c lead acc i
  unfold State.sweepLoop
  extract_lets +onlyGivenNames -merge -underBinder l0 acc1
  generalize s.measure i = q
  obtain ⟨m, l⟩ := q
  dsimp only
  split
  · exact Kept.refl _ _
  · generalize (if l.skip || s.fwBusy.any (fun a => a.kind == 4) then Meas.hold else m) = m'
    have hold : ∀ stat, Kept 0x242018000008 s ((s.setLoop i l.holdSample).bump stat 1) := fun stat =>
      Kept.step (Kept.step (Kept.refl _ _) (State.setLoop_kept _ _ _)) (State.bump_kept _ _ _)
    cases m' with
    | stale => exact hold _
    | hold =>
      dsimp only
      split
      · exact Kept.step (Kept.step (Kept.refl _ _) (State.setLoop_kept _ _ _)) (State.bump_kept _ _ _)
      · exact hold _
    | passed => exact Kept.step (Kept.step (Kept.step (Kept.refl _ _) (State.setLoop_kept _ _ _)) (State.bump_kept _ _ _)) (State.bump_kept _ _ _)
    | val y =>
      dsimp only
      refine Kept.ite (Kept.step ?_ (State.noteLate_kept _ _ _ _)) ?_ <;>
      refine Kept.step ?_ (State.present_kept _ _ _) <;>
      refine Kept.step ?_ (State.modLoop_kept _ _ _) <;>
      refine Kept.step ?_ (State.supervise_kept _ _ _ _) <;>
      refine Kept.step ?_ (State.bump_kept _ _ _) <;>
      refine Kept.step ?_ (State.bump_kept _ _ _) <;>
      exact Kept.step (Kept.refl _ _) (State.setLoop_kept _ _ _)

theorem State.watchLaser_kept : ∀ s a1, Kept 0x225215a727f38 s (State.watchLaser s a1) := by
  intro s a1
  unfold State.watchLaser
  extract_lets +onlyGivenNames -merge -underBinder x1
  extract_lets +onlyGivenNames -merge -underBinder x2
  extract_lets +onlyGivenNames -merge -underBinder x3
  extract_lets +onlyGivenNames -merge -underBinder x4
  extract_lets +onlyGivenNames -merge -underBinder x5
  extract_lets +onlyGivenNames -merge -underBinder x6
  refine Kept.ite ?_ ?_
  · exact Kept.refl _ _
  · extract_lets +onlyGivenNames -merge -underBinder x7
    extract_lets +onlyGivenNames -merge -underBinder x8
    have h8 : Kept 0x225215a727f38 s x8 := by
      unfold x8
      refine Kept.step ?_ (State.modLoop_kept _ _ _)
      exact Kept.refl _ _
    clear_value x8
    extract_lets +onlyGivenNames -merge -underBinder x9
    have h9 : Kept 0x225215a727f38 s x9 := by
      unfold x9
      refine Kept.step ?_ (State.wf_kept _ _ _ _)
      exact h8
    clear_value x9
    refine Kept.ite ?_ ?_
    · refine Kept.ite ?_ ?_
      · refine Kept.step ?_ (State.modLoop_kept _ _ _)
        exact h9
      · refine Kept.step ?_ (State.laserFail_kept _ _ _ _)
        exact h9
    · refine Kept.step ?_ (State.modLoop_kept _ _ _)
      exact h9

theorem execLoopSample_kept : ∀ a0 a1 s, OutKept 0x225215a727f38 s (execLoopSample a0 a1 s) := by
  intro c accesses s
  unfold execLoopSample
  extract_lets start lead s1 r s2 w s2b c0 s3 last s4 s5
  have h1 : Kept 0x225215a727f38 s s1 := Kept.step (Kept.refl _ _) (State.takeSwap_kept _ _)
  have hr : Kept 0x225215a727f38 s r.1 := by
    refine Kept.fold (fun (y : State × Sweep) => y.1) h1 ?_
    intro y i hy
    have h := Kept.step (M := 0x225215a727f38) hy (State.sweepLoop_kept y.1 c lead y.2 i)
    revert h
    dsimp only
    generalize State.sweepLoop y.1 c lead y.2 i = q
    obtain ⟨t, w'⟩ := q
    intro h
    exact Kept.ite (Kept.step h (State.watchLaser_kept _ _)) h
  have h2 : Kept 0x225215a727f38 s s2 := hr
  clear_value s2 r
  have h2b : Kept 0x225215a727f38 s s2b := Kept.ite (Kept.step h2 (State.modLathe_kept _ _ _)) h2
  clear_value s2b
  have h3 : Kept 0x225215a727f38 s s3 := Kept.step h2b (State.setCore_kept _ _ _)
  clear_value s3
  have h4 : Kept 0x225215a727f38 s s4 := Kept.step h3 (State.wf_kept _ _ _ _)
  clear_value s4
  have h5 : Kept 0x225215a727f38 s s5 := Kept.step h4 (State.wf_kept _ _ _ _)
  clear_value s5
  exact OutKept.next h5

theorem execBreachLimit_kept : ∀ a0 s, OutKept 0x225211a727f38 s (execBreachLimit a0 s) := by
  intro a0 s
  unfold execBreachLimit
  extract_lets +onlyGivenNames -merge -underBinder x1
  extract_lets +onlyGivenNames -merge -underBinder x2
  refine OutKept.next ?_
  refine Kept.ite ?_ ?_
  · refine Kept.step ?_ (State.freeze_kept _ _ _)
    exact Kept.refl _ _
  · exact Kept.refl _ _

end Sys2Proof.Machine
end

