-- ==== Sys2Proof/Laws/FrameMonitors.lean ====
section
/-! SUPPORT. What each operation of `Machine/Monitors.lean` may change: one lemma each, the parts it may change as a mask of `Part.no` bits. -/
set_option linter.unusedVariables false
set_option Elab.async false
namespace Sys2Proof.Machine

theorem execRoundCfgWrite_kept : ∀ a0 s, OutKept 0x8 s (execRoundCfgWrite a0 s) := by
  intro a0 s
  unfold execRoundCfgWrite
  refine State.atBlock_kept _ (by decide) (fun s0 h0 => ?_)
  refine OutKept.next ?_
  refine Kept.step ?_ (State.wf_kept _ _ _ _)
  exact h0

theorem execTrippedClear_kept : ∀ s, OutKept 0x8 s (execTrippedClear s) := by
  intro s
  unfold execTrippedClear
  refine State.atBlock_kept _ (by decide) (fun s0 h0 => ?_)
  refine OutKept.next ?_
  refine Kept.ite ?_ ?_
  · refine Kept.step ?_ (State.wb_kept _ _ _ _)
    exact h0
  · exact h0

theorem State.showBusy_kept : ∀ s, Kept 0x8 s (State.showBusy s) := by
  intro s
  unfold State.showBusy
  refine Kept.step ?_ (State.wb_kept _ _ _ _)
  exact Kept.refl _ _

theorem execUrgentRequest_kept : ∀ a0 a1 s, OutKept 0x242020000008 s (execUrgentRequest a0 a1 s) := by
  intro a0 a1 s
  unfold execUrgentRequest
  refine State.atBlock_kept _ (by decide) (fun s0 h0 => ?_)
  refine OutKept.next ?_
  refine Kept.ite ?_ ?_
  · refine Kept.step ?_ (State.showBusy_kept _)
    refine Kept.step ?_ (State.wb_kept _ _ _ _)
    refine Kept.step ?_ (State.setConv_kept _ _ _)
    exact h0
  · extract_lets +onlyGivenNames -merge -underBinder x1
    have h1 : Kept 0x242020000008 s x1 := by
      unfold x1
      refine Kept.step ?_ (State.wb_kept _ _ _ _)
      refine Kept.step ?_ (State.bump_kept _ _ _)
      exact h0
    clear_value x1
    refine Kept.step ?_ (State.postFirst_kept _ _ _ _ _ _ _ _ _ _ _)
    exact h1

theorem State.convResume_kept : ∀ s a1, Kept 0x20000000 s (State.convResume s a1) := by
  intro s a1
  unfold State.convResume
  refine Kept.ite ?_ ?_
  · refine Kept.step ?_ (State.setConv_kept _ _ _)
    exact Kept.refl _ _
  · refine Kept.step ?_ (State.setConv_kept _ _ _)
    exact Kept.refl _ _

theorem execMonCfgWrite_kept : ∀ a0 a1 a2 s, OutKept 0x20000008 s (execMonCfgWrite a0 a1 a2 s) := by
  intro a0 a1 a2 s
  unfold execMonCfgWrite
  refine State.atBlock_kept _ (by decide) (fun s0 h0 => ?_)
  refine OutKept.next ?_
  refine Kept.ite ?_ ?_
  · refine Kept.step ?_ (State.wr_kept _ _ _)
    exact h0
  · extract_lets +onlyGivenNames -merge -underBinder x1
    extract_lets +onlyGivenNames -merge -underBinder x2
    have h2 : Kept 0x20000008 s x2 := by
      unfold x2
      refine Kept.step ?_ (State.wf_kept _ _ _ _)
      refine Kept.step ?_ (State.wf_kept _ _ _ _)
      exact h0
    clear_value x2
    extract_lets +onlyGivenNames -merge -underBinder x3
    have h3 : Kept 0x20000008 s x3 := by
      unfold x3
      refine Kept.ite ?_ ?_
      · exact h2
      · refine Kept.step ?_ (State.wf_kept _ _ _ _)
        exact h2
    clear_value x3
    refine Kept.ite ?_ ?_
    · refine Kept.step ?_ (State.convResume_kept _ _)
      exact h3
    · exact h3

theorem State.convCal_kept : ∀ s a1, Kept 0x20000000 s (State.convCal s a1) := by
  intro s a1
  unfold State.convCal
  extract_lets +onlyGivenNames -merge -underBinder x1
  refine Kept.ite ?_ ?_
  · exact Kept.refl _ _
  · refine Kept.ite ?_ ?_
    · refine Kept.step ?_ (State.setConv_kept _ _ _)
      exact Kept.refl _ _
    · refine Kept.step ?_ (State.setConv_kept _ _ _)
      exact Kept.refl _ _

theorem execMonCalGo_kept : ∀ a0 s, OutKept 0x20000008 s (execMonCalGo a0 s) := by
  intro a0 s
  unfold execMonCalGo
  refine State.atBlock_kept _ (by decide) (fun s0 h0 => ?_)
  refine OutKept.next ?_
  refine Kept.step ?_ (State.convCal_kept _ _)
  exact h0

theorem State.trip_kept : ∀ s a1, Kept 0x2252142727f38 s (State.trip s a1) := by
  intro s a1
  unfold State.trip
  refine Kept.ite ?_ ?_
  · exact Kept.refl _ _
  · extract_lets +onlyGivenNames -merge -underBinder x1
    extract_lets +onlyGivenNames -merge -underBinder x2
    have h2 : Kept 0x2252142727f38 s x2 := by
      unfold x2
      refine Kept.step ?_ (State.wb_kept _ _ _ _)
      exact Kept.refl _ _
    clear_value x2
    extract_lets +onlyGivenNames -merge -underBinder x3
    extract_lets +onlyGivenNames -merge -underBinder x4
    have h4 : Kept 0x2252142727f38 s x4 := by
      unfold x4
      refine Kept.ite ?_ ?_
      · refine Kept.step ?_ (State.postVent_kept _ _ _ _ _)
        exact h2
      · refine Kept.step ?_ (State.post_kept _ _ _ _ _ _)
        exact h2
    clear_value x4
    extract_lets +onlyGivenNames -merge -underBinder x5
    have h5 : Kept 0x2252142727f38 s x5 := by
      unfold x5
      refine Kept.foldl ?_ (fun _ _ h6 => ?_)
      · exact h4
      · refine Kept.step ?_ (State.dropLathe_kept _ _ _ _)
        exact h6
    clear_value x5
    refine Kept.foldl ?_ (fun _ _ h7 => ?_)
    · exact h5
    · refine Kept.foldl ?_ (fun _ _ h8 => ?_)
      · exact h7
      · refine Kept.step ?_ (State.wf_kept _ _ _ _)
        exact h8

theorem execConversionEnd_kept : ∀ a0 a1 a2 s, OutKept 0x20000008 s (execConversionEnd a0 a1 a2 s) := by
  intro a0 a1 a2 s
  unfold execConversionEnd
  extract_lets +onlyGivenNames -merge -underBinder x1
  extract_lets +onlyGivenNames -merge -underBinder x2
  split
  ·
    extract_lets +onlyGivenNames -merge -underBinder x3
    refine OutKept.next ?_
    split
    ·
      extract_lets +onlyGivenNames -merge -underBinder x4
      extract_lets +onlyGivenNames -merge -underBinder x5
      have h5 : Kept 0x20000008 s x5 := by
        unfold x5
        refine Kept.step ?_ (State.wr_kept _ _ _)
        exact Kept.refl _ _
      clear_value x5
      extract_lets +onlyGivenNames -merge -underBinder x6
      have h6 : Kept 0x20000008 s x6 := by
        unfold x6
        refine Kept.step ?_ (State.bump_kept _ _ _)
        refine Kept.step ?_ (State.bump_kept _ _ _)
        exact h5
      clear_value x6
      refine Kept.ite ?_ ?_
      · refine Kept.step ?_ (State.setConv_kept _ _ _)
        exact h6
      · refine Kept.step ?_ (State.setConv_kept _ _ _)
        exact h6
    ·
      extract_lets +onlyGivenNames -merge -underBinder x7
      have h7 : Kept 0x20000008 s x7 := by
        unfold x7
        refine Kept.step ?_ (State.wr_kept _ _ _)
        exact Kept.refl _ _
      clear_value x7
      extract_lets +onlyGivenNames -merge -underBinder x8
      have h8 : Kept 0x20000008 s x8 := by
        unfold x8
        refine Kept.step ?_ (State.bump_kept _ _ _)
        refine Kept.step ?_ (State.bump_kept _ _ _)
        exact h7
      clear_value x8
      extract_lets +onlyGivenNames -merge -underBinder x9
      have h9 : Kept 0x20000008 s x9 := by
        unfold x9
        refine Kept.step ?_ (State.convResume_kept _ _)
        refine Kept.step ?_ (State.setConv_kept _ _ _)
        exact h8
      clear_value x9
      refine Kept.step ?_ (State.showBusy_kept _)
      refine Kept.ite ?_ ?_
      · refine Kept.step ?_ (State.convCal_kept _ _)
        exact h9
      · exact h9
    ·
      exact Kept.refl _ _

theorem execMonCalEnd_kept : ∀ a0 a1 a2 s, OutKept 0x2242020000008 s (execMonCalEnd a0 a1 a2 s) := by
  intro a0 a1 a2 s
  unfold execMonCalEnd
  extract_lets +onlyGivenNames -merge -underBinder x1
  extract_lets +onlyGivenNames -merge -underBinder x2
  extract_lets +onlyGivenNames -merge -underBinder x3
  extract_lets +onlyGivenNames -merge -underBinder x4
  split
  next y5 q5 =>
    have h5 : Kept 0x2242020000008 s y5 := Kept.snd q5 (by
      refine Kept.ite2 ?_ ?_
      · dsimp only
        refine Kept.step ?_ (State.takeFree_kept _)
        exact Kept.refl _ _
      · dsimp only
        exact Kept.refl _ _)
    extract_lets +onlyGivenNames -merge -underBinder x6
    refine OutKept.next ?_
    refine Kept.ite ?_ ?_
    · exact h5
    · extract_lets +onlyGivenNames -merge -underBinder x7
      have h7 : Kept 0x2242020000008 s x7 := by
        unfold x7
        refine Kept.step ?_ (State.setConv_kept _ _ _)
        exact h5
      clear_value x7
      extract_lets +onlyGivenNames -merge -underBinder x8
      have h8 : Kept 0x2242020000008 s x8 := by
        unfold x8
        refine Kept.ite ?_ ?_
        · refine Kept.step ?_ (State.post_kept _ _ _ _ _ _)
          refine Kept.step ?_ (State.wr_kept _ _ _)
          refine Kept.step ?_ (State.wr_kept _ _ _)
          refine Kept.step ?_ (State.wb_kept _ _ _ _)
          exact h7
        · refine Kept.step ?_ (State.post_kept _ _ _ _ _ _)
          refine Kept.step ?_ (State.wb_kept _ _ _ _)
          exact h7
      clear_value x8
      extract_lets +onlyGivenNames -merge -underBinder x9
      have h9 : Kept 0x2242020000008 s x9 := by
        unfold x9
        refine Kept.step ?_ (State.convResume_kept _ _)
        exact h8
      clear_value x9
      refine Kept.ite ?_ ?_
      · refine Kept.step ?_ (State.convCal_kept _ _)
        exact h9
      · exact h9

theorem State.refChecks_kept : ∀ s, Kept 0x242000000008 s (State.refChecks s) := by
  intro s
  unfold State.refChecks
  refine Kept.foldl (Kept.refl _ _) ?_
  intro y c h
  have hc : ∀ z i bad, Kept 0x242000000008 s z → Kept 0x242000000008 s
      (if z.fresh c i && bad then
        ((z.wb (MON_CSTAT c) MON_CSTAT_REF_ERR true).bump MON_STAT_REF_FAIL 1).post 0xC06 cWARN (unitOf 0xD c) 0xFFFF
          [(0x10, i), (0x14, trunc 24 (z.result c i))]
      else z) := by
    intro z i bad hz
    refine Kept.ite ?_ hz
    exact Kept.step (Kept.step (Kept.step hz (State.wb_kept _ _ _ _)) (State.bump_kept _ _ _)) (State.post_kept _ _ _ _ _ _)
  exact hc _ _ _ (hc _ _ _ h)

theorem State.crossChecks_kept : ∀ s, Kept 0x242000000008 s (State.crossChecks s) := by
  intro s
  unfold State.crossChecks
  refine Kept.foldl ?_ (fun _ _ h1 => ?_)
  · exact Kept.refl _ _
  · refine Kept.ite ?_ ?_
    · refine Kept.step ?_ (State.post_kept _ _ _ _ _ _)
      refine Kept.step ?_ (State.bump_kept _ _ _)
      refine Kept.step ?_ (State.wb_kept _ _ _ _)
      refine Kept.step ?_ (State.wb_kept _ _ _ _)
      exact h1
    · exact h1

theorem State.setLevel_kept : ∀ s a1, Kept 0x242078000108 s (State.setLevel s a1) := by
  intro s a1
  unfold State.setLevel
  extract_lets +onlyGivenNames -merge -underBinder x1
  extract_lets +onlyGivenNames -merge -underBinder x2
  extract_lets +onlyGivenNames -merge -underBinder x3
  have h3 : Kept 0x242078000108 s x3 := by
    unfold x3
    refine Kept.step ?_ (State.wf_kept _ _ _ _)
    exact Kept.refl _ _
  clear_value x3
  extract_lets +onlyGivenNames -merge -underBinder x4
  extract_lets +onlyGivenNames -merge -underBinder x5 x6
  have h6 : Kept 0x242078000108 s x6 := by
    unfold x6
    refine Kept.ite ?_ ?_
    · refine Kept.step ?_ (State.post_kept _ _ _ _ _ _)
      refine (Kept.upd ?_).kept
      exact h3
    · refine Kept.ite ?_ ?_
      · refine Kept.step ?_ (State.post_kept _ _ _ _ _ _)
        exact h3
      · exact h3
  clear_value x6
  refine Kept.ite ?_ ?_
  · refine Kept.step ?_ (State.throttleCals_kept _)
    exact h6
  · exact h6

theorem State.validRound_kept : ∀ s a1, Kept 0x225217a727f38 s (State.validRound s a1) := by
  intro s a1
  unfold State.validRound
  extract_lets +onlyGivenNames -merge -underBinder x1
  extract_lets +onlyGivenNames -merge -underBinder x2
  have h2 : Kept 0x225217a727f38 s x2 := by
    unfold x2
    refine Kept.step ?_ (State.wf_kept _ _ _ _)
    refine Kept.step ?_ (State.wf_kept _ _ _ _)
    refine Kept.step ?_ (State.wb_kept _ _ _ _)
    exact Kept.refl _ _
  clear_value x2
  extract_lets +onlyGivenNames -merge -underBinder x3 x4
  have h4 : Kept 0x225217a727f38 s x4 := by
    unfold x4
    refine (Kept.upd ?_).kept
    exact h2
  clear_value x4
  extract_lets +onlyGivenNames -merge -underBinder x5
  extract_lets +onlyGivenNames -merge -underBinder x6 x7
  have h7 : Kept 0x225217a727f38 s x7 := by
    unfold x7
    refine Kept.ite ?_ ?_
    · refine Kept.ite ?_ ?_
      · refine Kept.step ?_ (State.post_kept _ _ _ _ _ _)
        unfold x6
        refine Kept.step ?_ (State.wb_kept _ _ _ _)
        exact h4
      · unfold x6
        refine Kept.step ?_ (State.wb_kept _ _ _ _)
        exact h4
    · refine Kept.ite ?_ ?_
      · refine Kept.step ?_ (State.wb_kept _ _ _ _)
        exact h4
      · exact h4
  clear_value x7
  extract_lets +onlyGivenNames -merge -underBinder x8
  extract_lets +onlyGivenNames -merge -underBinder x9
  extract_lets +onlyGivenNames -merge -underBinder x10
  have h10 : Kept 0x225217a727f38 s x10 := by
    unfold x10
    refine Kept.step ?_ (State.setLevel_kept _ _)
    exact h7
  clear_value x10
  refine Kept.ite ?_ ?_
  · refine Kept.step ?_ (State.trip_kept _ _)
    exact h10
  · exact h10

theorem execHousekeepingRound_kept : ∀ s, OutKept 0x225217a727f38 s (execHousekeepingRound s) := by
  intro s
  unfold execHousekeepingRound
  refine OutKept.next ?_
  refine Kept.ite ?_ ?_
  · exact Kept.refl _ _
  · extract_lets +onlyGivenNames -merge -underBinder x1
    have h1 : Kept 0x225217a727f38 s x1 := by
      unfold x1
      refine Kept.step ?_ (State.refChecks_kept _)
      refine Kept.step ?_ (State.crossChecks_kept _)
      refine Kept.step ?_ (State.wf_kept _ _ _ _)
      exact Kept.refl _ _
    clear_value x1
    split
    ·
      extract_lets +onlyGivenNames -merge -underBinder x2
      extract_lets +onlyGivenNames -merge -underBinder x3 x4 x5 x6
      have h6 : Kept 0x225217a727f38 s x6 := by
        unfold x6
        refine Kept.ite ?_ ?_
        · refine Kept.step ?_ (State.validRound_kept _ _)
          exact h1
        · refine Kept.step ?_ (State.setLevel_kept _ _)
          unfold x5
          refine Kept.ite ?_ ?_
          · refine Kept.step ?_ (State.post_kept _ _ _ _ _ _)
            unfold x4
            refine Kept.step ?_ (State.wf_kept _ _ _ _)
            refine Kept.step ?_ (State.wb_kept _ _ _ _)
            exact h1
          · unfold x4
            refine Kept.step ?_ (State.wf_kept _ _ _ _)
            refine Kept.step ?_ (State.wb_kept _ _ _ _)
            exact h1
      clear_value x6
      extract_lets +onlyGivenNames -merge -underBinder x7 x8
      have h8 : Kept 0x225217a727f38 s x8 := by
        unfold x8
        refine Kept.ite ?_ ?_
        · refine Kept.step ?_ (State.bump_kept _ _ _)
          refine (Kept.upd ?_).kept
          exact h6
        · exact h6
      clear_value x8
      refine (Kept.upd ?_).kept
      exact h8

end Sys2Proof.Machine
end

