-- ==== Sys2Proof/Laws/FrameSecOps.lean ====
section
/-! SUPPORT. What each operation of `Machine/SecOps.lean` may change: one lemma each, the parts it may change as a mask of `Part.no` bits. -/
set_option linter.unusedVariables false
set_option Elab.async false
namespace Sys2Proof.Machine

theorem State.secReset_kept : ∀ s, Kept 0x400000008 s (State.secReset s) := by
  intro s
  unfold State.secReset
  extract_lets +onlyGivenNames -merge -underBinder x1
  have h1 : Kept 0x400000008 s x1 := by
    unfold x1
    refine Kept.step ?_ (State.resetBlock_kept _ _ _)
    exact Kept.refl _ _
  clear_value x1
  refine (Kept.upd ?_).kept
  exact h1

theorem State.imageRejected_kept : ∀ s a1 a2 a3, Kept 0x242000000008 s (State.imageRejected s a1 a2 a3) := by
  intro s a1 a2 a3
  unfold State.imageRejected
  refine Kept.step ?_ (State.post_kept _ _ _ _ _ _)
  refine Kept.step ?_ (State.bump_kept _ _ _)
  exact Kept.refl _ _

theorem State.setMeas_kept : ∀ s a1 a2, Kept 0x8 s (State.setMeas s a1 a2) := by
  intro s a1 a2
  unfold State.setMeas
  refine Kept.foldl ?_ (fun _ _ h1 => ?_)
  · exact Kept.refl _ _
  · refine Kept.step ?_ (State.wr_kept _ _ _)
    exact h1

theorem State.extend_kept : ∀ s a1 a2, Kept 0x8 s (State.extend s a1 a2) := by
  intro s a1 a2
  unfold State.extend
  refine Kept.step ?_ (State.setMeas_kept _ _ _)
  exact Kept.refl _ _

theorem State.raiseCtr_kept : ∀ s a1 a2, Kept 0x1000000000 s (State.raiseCtr s a1 a2) := by
  intro s k svn
  unfold State.raiseCtr
  have step : ∀ a7 : swf (fun _ => 0) s.sec.ctrs = true, ∀ j, sget 0 s.sec.ctrs j ≤ sget 0 (sput 0 (max (s.ctr k) svn) s.sec.ctrs k) j := by
    intro a7 j
    by_cases hj : j = k
    · subst hj
      rw [sget_sput_self (dflt := fun _ => 0) a7]
      exact Nat.le_max_left _ _
    · exact Nat.le_of_eq (sget_sput_ne (dflt := fun _ => 0) a7 hj).symm
  refine (Kept.upd (Kept.refl _ _) (hk := fun hh => ?_) (hc := fun hh => step hh.ctrs)).kept
  constructor
  case ctrs => exact swf_sput (dflt := fun _ => 0) hh.ctrs
  all_goals first | exact hh.regs | exact hh.heldLow | exact hh.mem | exact hh.marks | exact hh.hostMem | exact hh.accMem | exact hh.chkMem | exact hh.rowState | exact hh.lathes | exact hh.groups | exact hh.engines | exact hh.descs | exact hh.waiters | exact hh.hbmStacks | exact hh.rdc | exact hh.ports | exact hh.mcMsgs | exact hh.bypCause | exact hh.hist | exact hh.histFlash | exact hh.loops | exact hh.cores | exact hh.trims | exact hh.convs | exact hh.cals | exact hh.calFlash | exact hh.rails | exact hh.fws | exact hh.hostBad | exact hh.evtQs | exact hh.msixTable | exact hh.msixPending | exact hh.owners | exact hh.ctrs

theorem State.setOwner_kept : ∀ s a1 a2, Kept 0x800000000 s (State.setOwner s a1 a2) := by
  intro s a1 a2
  unfold State.setOwner
  refine (Kept.upd ?_).kept
  exact Kept.refl _ _

theorem State.endSessions_kept : ∀ s, Kept 0x400000000 s (State.endSessions s) := by
  intro s
  unfold State.endSessions
  refine (Kept.upd ?_).kept
  exact Kept.refl _ _

end Sys2Proof.Machine
end

