-- ==== Sys2Proof/Laws/FramePowerOps.lean ====
section
/-! SUPPORT. What each operation of `Machine/PowerOps.lean` may change: one lemma each, the parts it may change as a mask of `Part.no` bits. -/
set_option linter.unusedVariables false
set_option Elab.async false
namespace Sys2Proof.Machine

theorem State.endSilently_kept : ∀ s a1, Kept 0x242000002438 s (State.endSilently s a1) := by
  intro s a1
  unfold State.endSilently
  refine Kept.foldl ?_ (fun _ _ h1 => ?_)
  · exact Kept.refl _ _
  · refine Kept.ite ?_ ?_
    · exact h1
    · refine Kept.step ?_ (State.retire_kept _ _ _ _ _ _)
      exact h1

theorem State.resetBlocks_kept : ∀ s a1, Kept 0x8 s (State.resetBlocks s a1) := by
  intro s a1
  unfold State.resetBlocks
  refine Kept.foldl ?_ (fun _ _ h1 => ?_)
  · exact Kept.refl _ _
  · refine Kept.step ?_ (State.resetBlock_kept _ _ _)
    exact h1

theorem State.clearLathe_kept : ∀ s a1, Kept 0x10000101ed8 s (State.clearLathe s a1) := by
  intro s a1
  unfold State.clearLathe
  extract_lets +onlyGivenNames -merge -underBinder x1
  extract_lets +onlyGivenNames -merge -underBinder x2
  have h2 : Kept 0x10000101ed8 s x2 := by
    unfold x2
    refine (Kept.upd ?_).kept
    exact Kept.refl _ _
  clear_value x2
  extract_lets +onlyGivenNames -merge -underBinder x3
  have h3 : Kept 0x10000101ed8 s x3 := by
    unfold x3
    refine (Kept.upd ?_).kept
    exact h2
  clear_value x3
  refine Kept.step ?_ (State.resetBlocks_kept _ _)
  exact h3

theorem State.settleHold_kept : ∀ s, Kept 0x8 s (State.settleHold s) := by
  intro s
  unfold State.settleHold
  refine Kept.ite ?_ ?_
  · exact Kept.refl _ _
  · refine Kept.step ?_ (State.wb_kept _ _ _ _)
    exact Kept.refl _ _

theorem State.setClk_kept : ∀ s a1 a2, Kept 0x8 s (State.setClk s a1 a2) := by
  intro s a1 a2
  unfold State.setClk
  extract_lets +onlyGivenNames -merge -underBinder x1
  refine Kept.step ?_ (State.wb_kept _ _ _ _)
  refine Kept.step ?_ (State.wb_kept _ _ _ _)
  refine Kept.step ?_ (State.wb_kept _ _ _ _)
  exact Kept.refl _ _

theorem State.setDom_kept : ∀ s a1 a2, Kept 0x8 s (State.setDom s a1 a2) := by
  intro s a1 a2
  unfold State.setDom
  extract_lets +onlyGivenNames -merge -underBinder x1
  have h1 : Kept 0x8 s x1 := by
    unfold x1
    refine Kept.step ?_ (State.wf_kept _ _ _ _)
    exact Kept.refl _ _
  clear_value x1
  refine Kept.foldl ?_ (fun _ _ h2 => ?_)
  · exact h1
  · refine Kept.step ?_ (State.setClk_kept _ _ _)
    exact h2

theorem State.latheOff_kept : ∀ s a1 a2 a3, Kept 0x2252142727ff8 s (State.latheOff s a1 a2 a3) := by
  intro s a1 a2 a3
  unfold State.latheOff
  extract_lets +onlyGivenNames -merge -underBinder x1
  extract_lets +onlyGivenNames -merge -underBinder x2
  extract_lets +onlyGivenNames -merge -underBinder x3
  have h3 : Kept 0x2252142727ff8 s x3 := by
    unfold x3
    refine Kept.ite ?_ ?_
    · exact Kept.refl _ _
    · refine Kept.step ?_ (State.endSilently_kept _ _)
      exact Kept.refl _ _
  clear_value x3
  extract_lets +onlyGivenNames -merge -underBinder x4
  have h4 : Kept 0x2252142727ff8 s x4 := by
    unfold x4
    refine Kept.ite ?_ ?_
    · exact h3
    · refine Kept.step ?_ (State.dropLathe_kept _ _ _ _)
      exact h3
  clear_value x4
  extract_lets +onlyGivenNames -merge -underBinder x5
  have h5 : Kept 0x2252142727ff8 s x5 := by
    unfold x5
    refine Kept.foldl ?_ (fun _ _ h6 => ?_)
    · exact h4
    · refine Kept.ite ?_ ?_
      · exact h6
      · refine Kept.step ?_ (State.retire_kept _ _ _ _ _ _)
        exact h6
  clear_value x5
  extract_lets +onlyGivenNames -merge -underBinder x7
  extract_lets +onlyGivenNames -merge -underBinder x8
  have h8 : Kept 0x2252142727ff8 s x8 := by
    unfold x8
    refine Kept.step ?_ (State.setLathe_kept _ _ _)
    refine Kept.step ?_ (State.clearLathe_kept _ _)
    exact h5
  clear_value x8
  refine Kept.step ?_ (State.settleHold_kept _)
  refine Kept.foldl ?_ (fun _ _ h9 => ?_)
  · exact h8
  · refine Kept.step ?_ (State.setDom_kept _ _ _)
    exact h9

theorem State.stackOff_kept : ∀ s a1 a2, Kept 0x2018 s (State.stackOff s a1 a2) := by
  intro s a1 a2
  unfold State.stackOff
  extract_lets +onlyGivenNames -merge -underBinder x1
  extract_lets +onlyGivenNames -merge -underBinder x2
  have h2 : Kept 0x2018 s x2 := by
    unfold x2
    refine (Kept.upd ?_).kept
    exact Kept.refl _ _
  clear_value x2
  refine Kept.step ?_ (State.setDom_kept _ _ _)
  refine Kept.step ?_ (State.resetBlocks_kept _ _)
  refine Kept.step ?_ (State.setStack_kept _ _ _)
  exact h2

theorem State.portsOff_kept : ∀ s a1 a2, Kept 0x242003a00008 s (State.portsOff s a1 a2) := by
  intro s a1 a2
  unfold State.portsOff
  extract_lets +onlyGivenNames -merge -underBinder x1
  have h1 : Kept 0x242003a00008 s x1 := by
    unfold x1
    refine Kept.foldl ?_ (fun _ _ h2 => ?_)
    · exact Kept.refl _ _
    · refine Kept.step ?_ (State.closeBypass_kept _ _ _ _)
      exact h2
  clear_value x1
  extract_lets +onlyGivenNames -merge -underBinder x3
  have h3 : Kept 0x242003a00008 s x3 := by
    unfold x3
    refine Kept.foldl ?_ (fun _ _ h4 => ?_)
    · exact h1
    · extract_lets +onlyGivenNames -merge -underBinder x5
      extract_lets +onlyGivenNames -merge -underBinder x6
      extract_lets +onlyGivenNames -merge -underBinder x7
      refine Kept.step ?_ (State.setPort_kept _ _ _)
      refine Kept.step ?_ (State.wr_kept _ _ _)
      refine Kept.step ?_ (State.resetBlock_kept _ _ _)
      exact h4
  clear_value x3
  extract_lets +onlyGivenNames -merge -underBinder x8
  refine Kept.step ?_ (State.setDom_kept _ _ _)
  refine (Kept.upd ?_).kept
  exact h3

theorem State.hostOff_kept : ∀ s a1, Kept 0x3272000777f38 s (State.hostOff s a1) := by
  intro s a1
  unfold State.hostOff
  extract_lets +onlyGivenNames -merge -underBinder x1
  have h1 : Kept 0x3272000777f38 s x1 := by
    unfold x1
    refine Kept.step ?_ (State.hostLinkDown_kept _ _)
    exact Kept.refl _ _
  clear_value x1
  refine Kept.step ?_ (State.setDom_kept _ _ _)
  refine Kept.step ?_ (State.resetBlocks_kept _ _)
  refine (Kept.upd ?_).kept
  exact h1

theorem State.homeOff_kept : ∀ s a1, Kept 0x100395d0008 s (State.homeOff s a1) := by
  intro s a1
  unfold State.homeOff
  extract_lets +onlyGivenNames -merge -underBinder x1
  extract_lets +onlyGivenNames -merge -underBinder x2
  extract_lets +onlyGivenNames -merge -underBinder x3
  have h3 : Kept 0x100395d0008 s x3 := by
    unfold x3
    refine Kept.step ?_ (State.wr_kept _ _ _)
    refine Kept.step ?_ (State.resetBlocks_kept _ _)
    exact Kept.refl _ _
  clear_value x3
  extract_lets +onlyGivenNames -merge -underBinder x4
  have h4 : Kept 0x100395d0008 s x4 := by
    unfold x4
    refine (Kept.upd ?_).kept
    exact h3
  clear_value x4
  refine Kept.step ?_ (State.setDom_kept _ _ _)
  refine Kept.step ?_ (State.wb_kept _ _ _ _)
  refine Kept.step ?_ (State.dropMirror_kept _ _)
  exact h4

theorem State.domOff_kept : ∀ s a1 a2, Kept 0x327243bff7f38 s (State.domOff s a1 a2) := by
  intro s a1 a2
  unfold State.domOff
  refine Kept.ite ?_ ?_
  · exact Kept.refl _ _
  · refine Kept.ite ?_ ?_
    · refine Kept.step ?_ (State.stackOff_kept _ _ _)
      exact Kept.refl _ _
    · refine Kept.ite ?_ ?_
      · refine Kept.step ?_ (State.portsOff_kept _ _ _)
        exact Kept.refl _ _
      · refine Kept.ite ?_ ?_
        · refine Kept.step ?_ (State.hostOff_kept _ _)
          exact Kept.refl _ _
        · refine Kept.ite ?_ ?_
          · refine Kept.step ?_ (State.homeOff_kept _ _)
            exact Kept.refl _ _
          · refine Kept.step ?_ (State.setDom_kept _ _ _)
            refine Kept.step ?_ (State.secReset_kept _)
            exact Kept.refl _ _

theorem State.holdAll_kept : ∀ s a1, Kept 0x327277bfffff8 s (State.holdAll s a1) := by
  intro s a1
  unfold State.holdAll
  extract_lets +onlyGivenNames -merge -underBinder x1
  have h1 : Kept 0x327277bfffff8 s x1 := by
    unfold x1
    refine Kept.foldl ?_ (fun _ _ h2 => ?_)
    · exact Kept.refl _ _
    · refine Kept.step ?_ (State.latheOff_kept _ _ _ _)
      exact h2
  clear_value x1
  extract_lets +onlyGivenNames -merge -underBinder x3
  have h3 : Kept 0x327277bfffff8 s x3 := by
    unfold x3
    refine Kept.foldl ?_ (fun _ _ h4 => ?_)
    · exact h1
    · refine Kept.step ?_ (State.domOff_kept _ _ _)
      exact h4
  clear_value x3
  refine (Kept.upd ?_).kept
  exact h3

theorem State.resetEvent_kept : ∀ s a1 a2, Kept 0x242000000008 s (State.resetEvent s a1 a2) := by
  intro s a1 a2
  unfold State.resetEvent
  refine Kept.step ?_ (State.post_kept _ _ _ _ _ _)
  exact Kept.refl _ _

theorem State.groupReset_kept : ∀ s a1 a2, Kept 0x2252342727ff8 s (State.groupReset s a1 a2) := by
  intro s a1 a2
  unfold State.groupReset
  refine Kept.foldl ?_ (fun _ _ h1 => ?_)
  · exact Kept.refl _ _
  · extract_lets +onlyGivenNames -merge -underBinder x2
    have h2 : Kept 0x2252342727ff8 s x2 := by
      unfold x2
      refine Kept.step ?_ (State.latheOff_kept _ _ _ _)
      exact h1
    clear_value x2
    refine (Kept.upd ?_).kept
    exact h2

theorem State.domainReset_kept : ∀ s a1 a2, Kept 0x327277bff7ff8 s (State.domainReset s a1 a2) := by
  intro s a1 a2
  unfold State.domainReset
  split
  ·
    refine Kept.step ?_ (State.resetEvent_kept _ _ _)
    refine Kept.step ?_ (State.groupReset_kept _ _ _)
    exact Kept.refl _ _
  ·
    extract_lets +onlyGivenNames -merge -underBinder x1
    have h1 : Kept 0x327277bff7ff8 s x1 := by
      unfold x1
      refine Kept.step ?_ (State.domOff_kept _ _ _)
      exact Kept.refl _ _
    clear_value x1
    refine Kept.step ?_ (State.resetEvent_kept _ _ _)
    refine (Kept.upd ?_).kept
    exact h1

theorem State.clearTrims_kept : ∀ s a1, Kept 0x18000000 s (State.clearTrims s a1) := by
  intro s a1
  unfold State.clearTrims
  refine Kept.foldl ?_ (fun _ _ h1 => ?_)
  · exact Kept.refl _ _
  · refine Kept.step ?_ (State.reinit_kept _ _)
    refine Kept.step ?_ (State.clearChannel_kept _ _)
    exact h1

theorem State.startUpLathe_kept : ∀ s a1, Kept 0x18000108 s (State.startUpLathe s a1) := by
  intro s a1
  unfold State.startUpLathe
  extract_lets +onlyGivenNames -merge -underBinder x1
  have h1 : Kept 0x18000108 s x1 := by
    unfold x1
    refine Kept.step ?_ (State.powerAdcs_kept _ _)
    refine Kept.step ?_ (State.setLathe_kept _ _ _)
    exact Kept.refl _ _
  clear_value x1
  extract_lets +onlyGivenNames -merge -underBinder x2
  have h2 : Kept 0x18000108 s x2 := by
    unfold x2
    refine Kept.foldl ?_ (fun _ _ h3 => ?_)
    · exact h1
    · refine Kept.step ?_ (State.wf_kept _ _ _ _)
      exact h3
  clear_value x2
  extract_lets +onlyGivenNames -merge -underBinder x4
  refine Kept.foldl ?_ (fun _ _ h5 => ?_)
  · exact h2
  · extract_lets +onlyGivenNames -merge -underBinder x6
    have h6 : Kept 0x18000108 s x6 := by
      unfold x6
      refine Kept.step ?_ (State.setSense_kept _ _ _)
      exact h5
    clear_value x6
    extract_lets +onlyGivenNames -merge -underBinder x7
    extract_lets +onlyGivenNames -merge -underBinder x8
    have h8 : Kept 0x18000108 s x8 := by
      unfold x8
      refine Kept.step ?_ (State.wr_kept _ _ _)
      exact h6
    clear_value x8
    refine Kept.foldl ?_ (fun _ _ h9 => ?_)
    · exact h8
    · extract_lets +onlyGivenNames -merge -underBinder x10
      refine Kept.step ?_ (State.enterRun_kept _ _ _)
      refine Kept.step ?_ (State.wf_kept _ _ _ _)
      exact h9

theorem State.latheOn_kept : ∀ s a1, Kept 0x18000108 s (State.latheOn s a1) := by
  intro s a1
  unfold State.latheOn
  refine Kept.ite ?_ ?_
  · refine Kept.foldl ?_ (fun _ _ h1 => ?_)
    · exact Kept.refl _ _
    · refine Kept.step ?_ (State.setDom_kept _ _ _)
      exact h1
  · extract_lets +onlyGivenNames -merge -underBinder x2
    extract_lets +onlyGivenNames -merge -underBinder x3
    have h3 : Kept 0x18000108 s x3 := by
      unfold x3
      refine Kept.foldl ?_ (fun _ _ h4 => ?_)
      · exact Kept.refl _ _
      · refine Kept.step ?_ (State.setDom_kept _ _ _)
        exact h4
    clear_value x3
    extract_lets +onlyGivenNames -merge -underBinder x5
    have h5 : Kept 0x18000108 s x5 := by
      unfold x5
      refine Kept.ite ?_ ?_
      · refine Kept.step ?_ (State.clearTrims_kept _ _)
        exact h3
      · exact h3
    clear_value x5
    refine Kept.ite ?_ ?_
    · refine Kept.step ?_ (State.startUpLathe_kept _ _)
      exact h5
    · exact h5

theorem State.placeLathe_kept : ∀ s a1 a2, Kept 0x225215a727ff8 s (State.placeLathe s a1 a2) := by
  intro s a1 a2
  unfold State.placeLathe
  refine Kept.ite ?_ ?_
  · refine Kept.step ?_ (State.latheOff_kept _ _ _ _)
    exact Kept.refl _ _
  · extract_lets +onlyGivenNames -merge -underBinder x1
    have h1 : Kept 0x225215a727ff8 s x1 := by
      unfold x1
      refine Kept.ite ?_ ?_
      · refine Kept.step ?_ (State.latheOn_kept _ _)
        exact Kept.refl _ _
      · exact Kept.refl _ _
    clear_value x1
    refine Kept.ite ?_ ?_
    · exact h1
    · extract_lets +onlyGivenNames -merge -underBinder x2
      extract_lets +onlyGivenNames -merge -underBinder x3
      have h3 : Kept 0x225215a727ff8 s x3 := by
        unfold x3
        refine Kept.foldl ?_ (fun _ _ h4 => ?_)
        · exact h1
        · refine Kept.step ?_ (State.setDom_kept _ _ _)
          exact h4
      clear_value x3
      extract_lets +onlyGivenNames -merge -underBinder x5
      extract_lets +onlyGivenNames -merge -underBinder x6
      extract_lets +onlyGivenNames -merge -underBinder x7
      refine Kept.ite ?_ ?_
      · extract_lets +onlyGivenNames -merge -underBinder x8
        have h8 : Kept 0x225215a727ff8 s x8 := by
          unfold x8
          unfold x7
          refine Kept.foldl ?_ (fun _ _ h9 => ?_)
          · exact h3
          · refine Kept.ite ?_ ?_
            · refine Kept.step ?_ (State.wf_kept _ _ _ _)
              exact h9
            · exact h9
        clear_value x8
        refine (Kept.upd ?_).kept
        exact h8
      · refine Kept.ite ?_ ?_
        · unfold x7
          refine Kept.foldl ?_ (fun _ _ h10 => ?_)
          · exact h3
          · refine Kept.ite ?_ ?_
            · refine Kept.step ?_ (State.wf_kept _ _ _ _)
              exact h10
            · exact h10
        · exact h3

theorem State.homeOn_kept : ∀ s, Kept 0x20000008 s (State.homeOn s) := by
  intro s
  unfold State.homeOn
  extract_lets +onlyGivenNames -merge -underBinder x1
  have h1 : Kept 0x20000008 s x1 := by
    unfold x1
    refine Kept.step ?_ (State.setDom_kept _ _ _)
    exact Kept.refl _ _
  clear_value x1
  refine Kept.foldl ?_ (fun _ _ h2 => ?_)
  · exact h1
  · refine Kept.step ?_ (State.convResume_kept _ _)
    exact h2

theorem State.domOn_kept : ∀ s a1, Kept 0x8020000008 s (State.domOn s a1) := by
  intro s a1
  unfold State.domOn
  refine Kept.ite ?_ ?_
  · exact Kept.refl _ _
  · refine Kept.ite ?_ ?_
    · refine Kept.step ?_ (State.setDom_kept _ _ _)
      exact Kept.refl _ _
    · refine Kept.ite ?_ ?_
      · exact Kept.refl _ _
      · refine Kept.ite ?_ ?_
        · refine Kept.step ?_ (State.homeOn_kept _)
          exact Kept.refl _ _
        · refine Kept.ite ?_ ?_
          · refine Kept.foldl ?_ (fun _ _ h1 => ?_)
            · refine Kept.step ?_ (State.setDom_kept _ _ _)
              exact Kept.refl _ _
            · refine Kept.step ?_ (State.restLink_kept _ _)
              exact h1
          · refine Kept.ite ?_ ?_
            · extract_lets +onlyGivenNames -merge -underBinder x2
              have h2 : Kept 0x8020000008 s x2 := by
                unfold x2
                refine Kept.step ?_ (State.setDom_kept _ _ _)
                exact Kept.refl _ _
              clear_value x2
              refine (Kept.upd ?_).kept
              exact h2
            · refine Kept.step ?_ (State.setDom_kept _ _ _)
              exact Kept.refl _ _

theorem State.placeDom_kept : ∀ s a1 a2, Kept 0x327a43bff7f38 s (State.placeDom s a1 a2) := by
  intro s a1 a2
  unfold State.placeDom
  extract_lets +onlyGivenNames -merge -underBinder x1
  refine Kept.ite ?_ ?_
  · refine Kept.ite ?_ ?_
    · exact Kept.refl _ _
    · refine Kept.step ?_ (State.domOff_kept _ _ _)
      exact Kept.refl _ _
  · refine Kept.ite ?_ ?_
    · refine Kept.ite ?_ ?_
      · refine Kept.step ?_ (State.setDom_kept _ _ _)
        refine Kept.step ?_ (State.wb_kept _ _ _ _)
        exact Kept.refl _ _
      · exact Kept.refl _ _
    · refine Kept.step ?_ (State.domOn_kept _ _)
      exact Kept.refl _ _

theorem State.powerLoss_kept : ∀ s, Kept 0x1bf67fbffffdc s (State.powerLoss s) := by
  intro s
  unfold State.powerLoss
  extract_lets open_ moving t
  refine Kept.step ?_ (State.wf_kept _ _ _ _)
  refine ⟨?_, ?_⟩
  · intro p hp
    cases p <;> first | rfl | exact absurd hp (by decide)
  · intro hs
    refine ⟨?_, fun k => Nat.le_refl _⟩
    constructor
    case ports => show swf (fun _ => {}) (smap {} (fun (x : Port) => ({ light := x.light } : Port)) s.ports) = true; exact swf_smap hs.ports
    case bypCause =>
      exact foldl_keeps (fun (t : Sparse Nat) => swf (fun _ => 0) t = true) hs.bypCause
        (fun y a h => by split <;> first | exact swf_sput (dflt := fun _ => 0) h | exact h)
    case hist => exact hs.histFlash
    case histFlash => exact hs.histFlash
    case calFlash => exact hs.calFlash
    case rails => exact hs.rails
    case owners => exact hs.owners
    case ctrs => exact hs.ctrs
    case fws => exact hs.fws
    case hostMem => exact hs.hostMem
    case hostBad => exact hs.hostBad
    all_goals exact rfl

theorem State.deviceHold_kept : ∀ s, Kept 0x2252142727f38 s (State.deviceHold s) := by
  intro s
  unfold State.deviceHold
  extract_lets +onlyGivenNames -merge -underBinder x1
  have h1 : Kept 0x2252142727f38 s x1 := by
    unfold x1
    refine Kept.foldl ?_ (fun _ _ h2 => ?_)
    · exact Kept.refl _ _
    · refine Kept.ite ?_ ?_
      · exact h2
      · refine Kept.step ?_ (State.dropLathe_kept _ _ _ _)
        exact h2
  clear_value x1
  extract_lets +onlyGivenNames -merge -underBinder x3
  have h3 : Kept 0x2252142727f38 s x3 := by
    unfold x3
    refine Kept.foldl ?_ (fun _ _ h4 => ?_)
    · exact h1
    · refine Kept.foldl ?_ (fun _ _ h5 => ?_)
      · exact h4
      · refine Kept.step ?_ (State.wf_kept _ _ _ _)
        exact h5
  clear_value x3
  refine Kept.step ?_ (State.settleHold_kept _)
  refine Kept.step ?_ (State.wb_kept _ _ _ _)
  exact h3

theorem State.beginStart_kept : ∀ s a1 a2, Kept 0x200000008 s (State.beginStart s a1 a2) := by
  intro s a1 a2
  unfold State.beginStart
  extract_lets +onlyGivenNames -merge -underBinder x1 x2
  have h2 : Kept 0x200000008 s x2 := by
    unfold x2
    refine (Kept.upd ?_).kept
    exact Kept.refl _ _
  clear_value x2
  refine Kept.step ?_ (State.wf_kept _ _ _ _)
  refine Kept.step ?_ (State.wr_kept _ _ _)
  refine Kept.step ?_ (State.wb_kept _ _ _ _)
  exact h2

theorem State.ready_kept : ∀ s, Kept 0x242200800008 s (State.ready s) := by
  intro s
  unfold State.ready
  extract_lets +onlyGivenNames -merge -underBinder x1
  extract_lets +onlyGivenNames -merge -underBinder x2 x3
  have h3 : Kept 0x242200800008 s x3 := by
    unfold x3
    refine Kept.step ?_ (State.wb_kept _ _ _ _)
    refine (Kept.upd ?_).kept
    exact Kept.refl _ _
  clear_value x3
  extract_lets +onlyGivenNames -merge -underBinder x4
  have h4 : Kept 0x242200800008 s x4 := by
    unfold x4
    refine Kept.step ?_ (State.wf_kept _ _ _ _)
    exact h3
  clear_value x4
  extract_lets +onlyGivenNames -merge -underBinder x5
  have h5 : Kept 0x242200800008 s x5 := by
    unfold x5
    refine Kept.step ?_ (State.post_kept _ _ _ _ _ _)
    exact h4
  clear_value x5
  refine Kept.foldl ?_ (fun _ _ h6 => ?_)
  · exact h5
  · refine Kept.ite ?_ ?_
    · refine Kept.step ?_ (State.openBypass_kept _ _)
      exact h6
    · exact h6

theorem State.stepDone_kept : ∀ s a1 a2, Kept 0x242200800008 s (State.stepDone s a1 a2) := by
  intro s a1 a2
  unfold State.stepDone
  refine Kept.ite ?_ ?_
  · exact Kept.refl _ _
  · extract_lets +onlyGivenNames -merge -underBinder x1
    have h1 : Kept 0x242200800008 s x1 := by
      unfold x1
      refine Kept.step ?_ (State.wf_kept _ _ _ _)
      exact Kept.refl _ _
    clear_value x1
    extract_lets +onlyGivenNames -merge -underBinder x2
    have h2 : Kept 0x242200800008 s x2 := by
      unfold x2
      refine Kept.ite ?_ ?_
      · exact h1
      · refine Kept.step ?_ (State.post_kept _ _ _ _ _ _)
        exact h1
    clear_value x2
    refine Kept.ite ?_ ?_
    · refine Kept.step ?_ (State.ready_kept _)
      exact h2
    · exact h2

theorem State.bootFw_kept : ∀ s a1, Kept 0xa46200800008 s (State.bootFw s a1) := by
  intro s a1
  unfold State.bootFw
  extract_lets +onlyGivenNames -merge -underBinder x1
  extract_lets +onlyGivenNames -merge -underBinder x2
  extract_lets +onlyGivenNames -merge -underBinder x3 x4
  have h4 : Kept 0xa46200800008 s x4 := by
    unfold x4
    refine (Kept.upd ?_).kept
    exact Kept.refl _ _
  clear_value x4
  extract_lets +onlyGivenNames -merge -underBinder x5
  refine Kept.ite ?_ ?_
  · exact h4
  · refine Kept.ite ?_ ?_
    · refine Kept.step ?_ (State.setFw_kept _ _ _)
      exact h4
    · extract_lets +onlyGivenNames -merge -underBinder x6 x7
      have h7 : Kept 0xa46200800008 s x7 := by
        unfold x7
        refine (Kept.upd ?_).kept
        exact h4
      clear_value x7
      refine Kept.ite ?_ ?_
      · refine (Kept.upd ?_).kept
        exact h7
      · refine Kept.step ?_ (State.stepDone_kept _ _ _)
        refine Kept.step ?_ (State.imageRejected_kept _ _ _ _)
        exact h7

theorem State.fwAtReset_kept : ∀ s, Kept 0x4000000000 s (State.fwAtReset s) := by
  intro s
  unfold State.fwAtReset
  refine (Kept.upd ?_).kept
  exact Kept.refl _ _

theorem State.bootChain_kept : ∀ s, Kept 0xa46200800008 s (State.bootChain s) := by
  intro s
  unfold State.bootChain
  extract_lets +onlyGivenNames -merge -underBinder x1
  have h1 : Kept 0xa46200800008 s x1 := by
    unfold x1
    refine Kept.step ?_ (State.bootFw_kept _ _)
    refine Kept.step ?_ (State.bootFw_kept _ _)
    refine Kept.step ?_ (State.bootFw_kept _ _)
    refine Kept.step ?_ (State.fwAtReset_kept _)
    exact Kept.refl _ _
  clear_value x1
  refine Kept.ite ?_ ?_
  · refine (Kept.upd ?_).kept
    exact h1
  · exact h1

theorem State.bootJig_kept : ∀ s, Kept 0x242000000008 s (State.bootJig s) := by
  intro s
  unfold State.bootJig
  extract_lets +onlyGivenNames -merge -underBinder x1
  extract_lets +onlyGivenNames -merge -underBinder x2
  have h2 : Kept 0x242000000008 s x2 := by
    unfold x2
    refine (Kept.upd ?_).kept
    exact Kept.refl _ _
  clear_value x2
  extract_lets +onlyGivenNames -merge -underBinder x3
  extract_lets +onlyGivenNames -merge -underBinder x4 x5 x6
  have h6 : Kept 0x242000000008 s x6 := by
    unfold x6
    refine Kept.ite ?_ ?_
    · refine (Kept.upd ?_).kept
      exact h2
    · refine Kept.ite ?_ ?_
      · refine (Kept.upd ?_).kept
        exact h2
      · exact h2
  clear_value x6
  extract_lets +onlyGivenNames -merge -underBinder x7
  extract_lets +onlyGivenNames -merge -underBinder x8
  have h8 : Kept 0x242000000008 s x8 := by
    unfold x8
    split
    next y9 q9 =>
      have h9 : Kept 0x242000000008 s y9 := Kept.snd q9 (by
        unfold x7
        refine Kept.ite2 ?_ ?_
        · dsimp only
          exact h6
        · split
          ·
            dsimp only
            refine (Kept.upd ?_).kept
            exact h6
          ·
            dsimp only
            refine Kept.step ?_ (State.imageRejected_kept _ _ _ _)
            exact h6)
      exact h9
    next y10 q10 =>
      have h10 : Kept 0x242000000008 s y10 := Kept.snd q10 (by
        unfold x7
        refine Kept.ite2 ?_ ?_
        · dsimp only
          exact h6
        · split
          ·
            dsimp only
            refine (Kept.upd ?_).kept
            exact h6
          ·
            dsimp only
            refine Kept.step ?_ (State.imageRejected_kept _ _ _ _)
            exact h6)
      split
      next y11 q11 =>
        have h11 : Kept 0x242000000008 s y11 := Kept.snd q11 (by
          unfold x7
          refine Kept.ite2 ?_ ?_
          · dsimp only
            exact h10
          · split
            ·
              dsimp only
              refine (Kept.upd ?_).kept
              exact h10
            ·
              dsimp only
              refine Kept.step ?_ (State.imageRejected_kept _ _ _ _)
              exact h10)
        exact h11
      next y12 q12 =>
        have h12 : Kept 0x242000000008 s y12 := Kept.snd q12 (by
          unfold x7
          refine Kept.ite2 ?_ ?_
          · dsimp only
            exact h10
          · split
            ·
              dsimp only
              refine (Kept.upd ?_).kept
              exact h10
            ·
              dsimp only
              refine Kept.step ?_ (State.imageRejected_kept _ _ _ _)
              exact h10)
        refine (Kept.upd ?_).kept
        exact h12
  clear_value x8
  extract_lets +onlyGivenNames -merge -underBinder x13
  have h13 : Kept 0x242000000008 s x13 := by
    unfold x13
    refine Kept.step ?_ (State.extend_kept _ _ _)
    exact h8
  clear_value x13
  extract_lets +onlyGivenNames -merge -underBinder x14
  have h14 : Kept 0x242000000008 s x14 := by
    unfold x14
    refine Kept.step ?_ (State.wf_kept _ _ _ _)
    refine Kept.step ?_ (State.wf_kept _ _ _ _)
    exact h13
  clear_value x14
  refine Kept.ite ?_ ?_
  · refine Kept.step ?_ (State.post_kept _ _ _ _ _ _)
    refine Kept.step ?_ (State.bump_kept _ _ _)
    exact h14
  · exact h14

theorem State.measureBoot_kept : ∀ s, Kept 0x8 s (State.measureBoot s) := by
  intro s
  unfold State.measureBoot
  refine Kept.foldl ?_ (fun _ _ h1 => ?_)
  · exact Kept.refl _ _
  · refine Kept.ite ?_ ?_
    · exact h1
    · refine Kept.step ?_ (State.extend_kept _ _ _)
      exact h1

theorem State.boot150_kept : ∀ s, Kept 0xa4e220800008 s (State.boot150 s) := by
  intro s
  unfold State.boot150
  extract_lets +onlyGivenNames -merge -underBinder x1
  have h1 : Kept 0xa4e220800008 s x1 := by
    unfold x1
    refine Kept.step ?_ (State.bootFw_kept _ _)
    refine Kept.step ?_ (State.bootFw_kept _ _)
    refine Kept.step ?_ (State.fwAtReset_kept _)
    refine Kept.step ?_ (State.domOn_kept _ _)
    exact Kept.refl _ _
  clear_value x1
  refine Kept.ite ?_ ?_
  · refine (Kept.upd ?_).kept
    exact h1
  · extract_lets +onlyGivenNames -merge -underBinder x2
    have h2 : Kept 0xa4e220800008 s x2 := by
      unfold x2
      refine Kept.foldl ?_ (fun _ _ h3 => ?_)
      · exact h1
      · refine Kept.step ?_ (State.bootFw_kept _ _)
        exact h3
    clear_value x2
    extract_lets +onlyGivenNames -merge -underBinder x4
    have h4 : Kept 0xa4e220800008 s x4 := by
      unfold x4
      refine Kept.step ?_ (State.bootJig_kept _)
      refine Kept.step ?_ (State.measureBoot_kept _)
      exact h2
    clear_value x4
    extract_lets +onlyGivenNames -merge -underBinder x5
    have h5 : Kept 0xa4e220800008 s x5 := by
      unfold x5
      refine Kept.foldl ?_ (fun _ _ h6 => ?_)
      · exact h4
      · refine Kept.step ?_ (State.domOn_kept _ _)
        exact h6
    clear_value x5
    extract_lets +onlyGivenNames -merge -underBinder x7
    have h7 : Kept 0xa4e220800008 s x7 := by
      unfold x7
      refine Kept.foldl ?_ (fun _ _ h8 => ?_)
      · exact h5
      · refine Kept.step ?_ (State.convCal_kept _ _)
        exact h8
    clear_value x7
    refine Kept.foldl ?_ (fun _ _ h9 => ?_)
    · exact h7
    · refine Kept.step ?_ (State.domOn_kept _ _)
      exact h9

theorem State.placeAll_kept : ∀ s a1, Kept 0x327a5fbff7ff8 s (State.placeAll s a1) := by
  intro s a1
  unfold State.placeAll
  extract_lets +onlyGivenNames -merge -underBinder x1
  have h1 : Kept 0x327a5fbff7ff8 s x1 := by
    unfold x1
    refine Kept.ite ?_ ?_
    · refine (Kept.upd ?_).kept
      exact Kept.refl _ _
    · refine Kept.ite ?_ ?_
      · refine (Kept.upd ?_).kept
        exact Kept.refl _ _
      · exact Kept.refl _ _
  clear_value x1
  extract_lets +onlyGivenNames -merge -underBinder x2
  have h2 : Kept 0x327a5fbff7ff8 s x2 := by
    unfold x2
    refine Kept.foldl ?_ (fun _ _ h3 => ?_)
    · exact h1
    · refine Kept.ite ?_ ?_
      · exact h3
      · refine Kept.step ?_ (State.placeDom_kept _ _ _)
        exact h3
  clear_value x2
  refine Kept.foldl ?_ (fun _ _ h4 => ?_)
  · exact h2
  · refine Kept.ite ?_ ?_
    · exact h4
    · refine Kept.step ?_ (State.placeLathe_kept _ _ _)
      exact h4

end Sys2Proof.Machine
end

