-- ==== Sys2Proof/Laws/FramePower.lean ====
section
/-! SUPPORT. What each operation of `Machine/Power.lean` may change: one lemma each, the parts it may change as a mask of `Part.no` bits. -/
set_option linter.unusedVariables false
set_option Elab.async false
namespace Sys2Proof.Machine

theorem State.deviceReset_kept : ∀ s, Kept 0x327277bfffff8 s (State.deviceReset s) := by
  intro s
  unfold State.deviceReset
  refine Kept.ite ?_ ?_
  · exact Kept.refl _ _
  · extract_lets +onlyGivenNames -merge -underBinder x1
    have h1 : Kept 0x327277bfffff8 s x1 := by
      unfold x1
      refine Kept.step ?_ (State.holdAll_kept _ _)
      exact Kept.refl _ _
    clear_value x1
    extract_lets +onlyGivenNames -merge -underBinder x2
    have h2 : Kept 0x327277bfffff8 s x2 := by
      unfold x2
      refine Kept.step ?_ (State.wr_kept _ _ _)
      refine Kept.step ?_ (State.wr_kept _ _ _)
      exact h1
    clear_value x2
    extract_lets +onlyGivenNames -merge -underBinder x3
    extract_lets +onlyGivenNames -merge -underBinder x4
    extract_lets +onlyGivenNames -merge -underBinder x5
    have h5 : Kept 0x327277bfffff8 s x5 := by
      unfold x5
      refine Kept.step ?_ (State.wr_kept _ _ _)
      exact h2
    clear_value x5
    refine (Kept.upd ?_).kept
    exact h5

theorem execDevResetCmd_kept : ∀ a0 s, OutKept 0x327277bfffff8 s (execDevResetCmd a0 s) := by
  intro a0 s
  unfold execDevResetCmd
  refine State.atBlock_kept _ (by decide) (fun s0 h0 => ?_)
  refine OutKept.next ?_
  refine Kept.ite ?_ ?_
  · refine Kept.step ?_ (State.deviceReset_kept _)
    exact h0
  · exact h0

theorem execPwrStateGo_kept : ∀ a0 s, OutKept 0x200000008 s (execPwrStateGo a0 s) := by
  intro a0 s
  unfold execPwrStateGo
  refine State.atBlock_kept _ (by decide) (fun s0 h0 => ?_)
  extract_lets +onlyGivenNames -merge -underBinder x1
  have h1 : Kept 0x200000008 s x1 := by
    unfold x1
    refine Kept.step ?_ (State.wrSoft_kept _ _ _)
    exact h0
  clear_value x1
  extract_lets +onlyGivenNames -merge -underBinder x2
  refine OutKept.next ?_
  refine Kept.ite ?_ ?_
  · exact h1
  · refine Kept.ite ?_ ?_
    · refine (Kept.upd ?_).kept
      exact h1
    · refine (Kept.upd ?_).kept
      exact h1

theorem execPwrLimitWrite_kept : ∀ a0 s, OutKept 0x8 s (execPwrLimitWrite a0 s) := by
  intro a0 s
  unfold execPwrLimitWrite
  refine State.atBlock_kept _ (by decide) (fun s0 h0 => ?_)
  refine OutKept.next ?_
  refine Kept.step ?_ (State.wf_kept _ _ _ _)
  exact h0

theorem execPwrDomReset_kept : ∀ a0 s, OutKept 0x327277bff7ff8 s (execPwrDomReset a0 s) := by
  intro a0 s
  unfold execPwrDomReset
  refine State.atBlock_kept _ (by decide) (fun s0 h0 => ?_)
  refine OutKept.next ?_
  refine Kept.ite ?_ ?_
  · refine Kept.step ?_ (State.domainReset_kept _ _ _)
    exact h0
  · exact h0

theorem execPwrDomOff_kept : ∀ a0 s, OutKept 0x327257bff7ff8 s (execPwrDomOff a0 s) := by
  intro a0 s
  unfold execPwrDomOff
  refine State.atBlock_kept _ (by decide) (fun s0 h0 => ?_)
  refine OutKept.next ?_
  refine Kept.ite ?_ ?_
  · exact h0
  · split
    ·
      refine Kept.foldl ?_ (fun _ _ h1 => ?_)
      · exact h0
      · refine Kept.step ?_ (State.latheOff_kept _ _ _ _)
        exact h1
    ·
      refine Kept.step ?_ (State.domOff_kept _ _ _)
      exact h0

theorem execPwrDomOn_kept : ∀ a0 s, OutKept 0x327a57bff7ff8 s (execPwrDomOn a0 s) := by
  intro a0 s
  unfold execPwrDomOn
  refine State.atBlock_kept _ (by decide) (fun s0 h0 => ?_)
  refine OutKept.next ?_
  refine Kept.ite ?_ ?_
  · exact h0
  · split
    ·
      refine Kept.foldl ?_ (fun _ _ h1 => ?_)
      · exact h0
      · refine Kept.ite ?_ ?_
        · refine Kept.step ?_ (State.placeLathe_kept _ _ _)
          exact h1
        · exact h1
    ·
      refine Kept.ite ?_ ?_
      · refine Kept.step ?_ (State.placeDom_kept _ _ _)
        exact h0
      · exact h0

theorem State.ventReset_kept : ∀ s a1, Kept 0x200000000008 s (State.ventReset s a1) := by
  intro s a1
  unfold State.ventReset
  refine Kept.ite ?_ ?_
  · exact Kept.refl _ _
  · extract_lets +onlyGivenNames -merge -underBinder x1
    have h1 : Kept 0x200000000008 s x1 := by
      unfold x1
      refine Kept.step ?_ (State.incF_kept _ _ _ _)
      exact Kept.refl _ _
    clear_value x1
    extract_lets +onlyGivenNames -merge -underBinder x2
    have h2 : Kept 0x200000000008 s x2 := by
      unfold x2
      refine Kept.step ?_ (State.wb_kept _ _ _ _)
      refine Kept.step ?_ (State.wb_kept _ _ _ _)
      exact h1
    clear_value x2
    refine (Kept.upd ?_).kept
    exact h2

theorem State.beginTransition_kept : ∀ s a1 a2, Kept 0x200000108 s (State.beginTransition s a1 a2) := by
  intro s a1 a2
  unfold State.beginTransition
  extract_lets +onlyGivenNames -merge -underBinder x1
  extract_lets +onlyGivenNames -merge -underBinder x2
  have h2 : Kept 0x200000108 s x2 := by
    unfold x2
    refine Kept.step ?_ (State.wf_kept _ _ _ _)
    refine Kept.step ?_ (State.wb_kept _ _ _ _)
    exact Kept.refl _ _
  clear_value x2
  extract_lets +onlyGivenNames -merge -underBinder x3 x4
  have h4 : Kept 0x200000108 s x4 := by
    unfold x4
    refine (Kept.upd ?_).kept
    exact h2
  clear_value x4
  refine Kept.ite ?_ ?_
  · refine Kept.foldl ?_ (fun _ _ h5 => ?_)
    · exact h4
    · refine Kept.step ?_ (State.quiesce_kept _ _ _ _)
      exact h5
  · exact h4

theorem State.ventDomainReset_kept : ∀ s, Kept 0x242200000008 s (State.ventDomainReset s) := by
  intro s
  unfold State.ventDomainReset
  extract_lets +onlyGivenNames -merge -underBinder x1
  have h1 : Kept 0x242200000008 s x1 := by
    unfold x1
    refine Kept.step ?_ (State.setDom_kept _ _ _)
    refine Kept.step ?_ (State.ventReset_kept _ _)
    exact Kept.refl _ _
  clear_value x1
  refine Kept.step ?_ (State.resetEvent_kept _ _ _)
  refine (Kept.upd ?_).kept
  exact h1

theorem execPowerInputGood_kept : ∀ s, OutKept 0xa46202800008 s (execPowerInputGood s) := by
  intro s
  unfold execPowerInputGood
  refine OutKept.next (Kept.ite (Kept.refl _ _) ?_)
  extract_lets p v t u
  have ht : Kept 0xa46202800008 s t := by
    refine (Kept.upd (Kept.refl _ _) (hk := fun hh => ?_)).kept
    constructor
    case hist => exact hh.histFlash
    case histFlash => exact hh.histFlash
    all_goals first | exact hh.regs | exact hh.heldLow | exact hh.mem | exact hh.marks | exact hh.hostMem | exact hh.accMem | exact hh.chkMem | exact hh.rowState | exact hh.lathes | exact hh.groups | exact hh.engines | exact hh.descs | exact hh.waiters | exact hh.hbmStacks | exact hh.rdc | exact hh.ports | exact hh.mcMsgs | exact hh.bypCause | exact hh.loops | exact hh.cores | exact hh.trims | exact hh.convs | exact hh.cals | exact hh.calFlash | exact hh.rails | exact hh.fws | exact hh.hostBad | exact hh.evtQs | exact hh.msixTable | exact hh.msixPending | exact hh.owners | exact hh.ctrs
  clear_value t
  have hu : Kept 0xa46202800008 s u :=
    Kept.step (Kept.step (Kept.step (Kept.step ht (State.setDom_kept _ _ _)) (State.setDom_kept _ _ _)) (State.wr_kept _ _ _)) (State.beginStart_kept _ _ _)
  clear_value u
  exact Kept.ite hu (Kept.step hu (State.bootChain_kept _))

theorem execPowerLoss_kept : ∀ s, OutKept 0x1bf67fbffffdc s (execPowerLoss s) := by
  intro s
  unfold execPowerLoss
  refine OutKept.next ?_
  refine Kept.step ?_ (State.powerLoss_kept _)
  exact Kept.refl _ _

theorem execPowerLevelUpdate_kept : ∀ a0 a1 s, OutKept 0x242258000108 s (execPowerLevelUpdate a0 a1 s) := by
  intro a0 a1 s
  unfold execPowerLevelUpdate
  refine OutKept.next ?_
  refine Kept.ite ?_ ?_
  · exact Kept.refl _ _
  · extract_lets +onlyGivenNames -merge -underBinder x1
    have h1 : Kept 0x242258000108 s x1 := by
      unfold x1
      refine Kept.step ?_ (State.wr_kept _ _ _)
      exact Kept.refl _ _
    clear_value x1
    extract_lets +onlyGivenNames -merge -underBinder x2
    extract_lets +onlyGivenNames -merge -underBinder x3
    extract_lets +onlyGivenNames -merge -underBinder x4
    extract_lets +onlyGivenNames -merge -underBinder x5
    extract_lets +onlyGivenNames -merge -underBinder x6
    have h6 : Kept 0x242258000108 s x6 := by
      unfold x6
      refine Kept.step ?_ (State.wf_kept _ _ _ _)
      exact h1
    clear_value x6
    extract_lets +onlyGivenNames -merge -underBinder x7
    extract_lets +onlyGivenNames -merge -underBinder x8 x9 x10
    have h10 : Kept 0x242258000108 s x10 := by
      unfold x10
      refine Kept.ite ?_ ?_
      · refine Kept.ite ?_ ?_
        · refine Kept.step ?_ (State.post_kept _ _ _ _ _ _)
          unfold x9
          refine (Kept.upd ?_).kept
          exact h6
        · unfold x9
          refine (Kept.upd ?_).kept
          exact h6
      · refine Kept.ite ?_ ?_
        · refine Kept.step ?_ (State.post_kept _ _ _ _ _ _)
          exact h6
        · exact h6
    clear_value x10
    extract_lets +onlyGivenNames -merge -underBinder x11 x12
    have h12 : Kept 0x242258000108 s x12 := by
      unfold x12
      refine Kept.ite ?_ ?_
      · refine Kept.step ?_ (State.bump_kept _ _ _)
        refine (Kept.upd ?_).kept
        exact h10
      · exact h10
    clear_value x12
    refine Kept.ite ?_ ?_
    · refine Kept.step ?_ (State.throttleCals_kept _)
      exact h12
    · exact h12

theorem execDomainReon_kept : ∀ a0 s, OutKept 0x327a77bff7ff8 s (execDomainReon a0 s) := by
  intro a0 s
  unfold execDomainReon
  extract_lets +onlyGivenNames -merge -underBinder x1
  extract_lets +onlyGivenNames -merge -underBinder x2
  refine OutKept.next ?_
  refine Kept.ite ?_ ?_
  · exact Kept.refl _ _
  · extract_lets +onlyGivenNames -merge -underBinder x3 x4
    have h4 : Kept 0x327a77bff7ff8 s x4 := by
      unfold x4
      refine (Kept.upd ?_).kept
      exact Kept.refl _ _
    clear_value x4
    split
    ·
      refine Kept.step ?_ (State.placeLathe_kept _ _ _)
      exact h4
    ·
      refine Kept.ite ?_ ?_
      · refine Kept.step ?_ (State.setDom_kept _ _ _)
        exact h4
      · refine Kept.step ?_ (State.placeDom_kept _ _ _)
        exact h4

theorem State.timedActs_kept : ∀ s, Kept 0x242200000008 s (State.timedActs s) := by
  intro s
  unfold State.timedActs
  extract_lets +onlyGivenNames -merge -underBinder x1
  extract_lets +onlyGivenNames -merge -underBinder x2
  split
  ·
    exact Kept.refl _ _
  ·
    extract_lets +onlyGivenNames -merge -underBinder x3
    extract_lets +onlyGivenNames -merge -underBinder x4 x5
    have h5 : Kept 0x242200000008 s x5 := by
      unfold x5
      refine (Kept.upd ?_).kept
      exact Kept.refl _ _
    clear_value x5
    refine Kept.ite ?_ ?_
    · exact h5
    · extract_lets +onlyGivenNames -merge -underBinder x6
      have h6 : Kept 0x242200000008 s x6 := by
        unfold x6
        refine Kept.ite ?_ ?_
        · refine Kept.step ?_ (State.post_kept _ _ _ _ _ _)
          exact h5
        · exact h5
      clear_value x6
      refine (Kept.upd ?_).kept
      exact h6

theorem execPwrRequestAct_kept : ∀ s, OutKept 0x242200000108 s (execPwrRequestAct s) := by
  intro s
  unfold execPwrRequestAct
  refine OutKept.next ?_
  refine Kept.ite ?_ ?_
  · exact Kept.refl _ _
  · extract_lets +onlyGivenNames -merge -underBinder x1
    have h1 : Kept 0x242200000108 s x1 := by
      unfold x1
      refine Kept.ite ?_ ?_
      · exact Kept.refl _ _
      · refine Kept.step ?_ (State.timedActs_kept _)
        exact Kept.refl _ _
    clear_value x1
    split
    ·
      exact h1
    ·
      refine Kept.ite ?_ ?_
      · exact h1
      · refine Kept.ite ?_ ?_
        · refine (Kept.upd ?_).kept
          exact h1
        · refine Kept.ite ?_ ?_
          · exact h1
          · refine Kept.step ?_ (State.beginTransition_kept _ _ _)
            exact h1

theorem execQuiesceTimeout_kept : ∀ s, OutKept 0x252200503f38 s (execQuiesceTimeout s) := by
  intro s
  unfold execQuiesceTimeout
  extract_lets +onlyGivenNames -merge -underBinder x1
  extract_lets +onlyGivenNames -merge -underBinder x2
  extract_lets +onlyGivenNames -merge -underBinder x3
  extract_lets +onlyGivenNames -merge -underBinder x4
  extract_lets +onlyGivenNames -merge -underBinder x5
  refine OutKept.next ?_
  refine Kept.ite ?_ ?_
  · exact Kept.refl _ _
  · extract_lets +onlyGivenNames -merge -underBinder x6 x7
    have h7 : Kept 0x252200503f38 s x7 := by
      unfold x7
      refine Kept.foldl ?_ (fun _ _ h8 => ?_)
      · refine (Kept.upd ?_).kept
        exact Kept.refl _ _
      · refine Kept.step ?_ (State.abortWhere_kept _ _ _ _)
        exact h8
    clear_value x7
    refine Kept.step ?_ (State.post_kept _ _ _ _ _ _)
    exact h7

theorem State.wakeCold_kept : ∀ s, Kept 0xa4e220800008 s (State.wakeCold s) := by
  intro s
  unfold State.wakeCold
  extract_lets +onlyGivenNames -merge -underBinder x1 x2
  have h2 : Kept 0xa4e220800008 s x2 := by
    unfold x2
    refine (Kept.upd ?_).kept
    exact Kept.refl _ _
  clear_value x2
  refine Kept.step ?_ (State.boot150_kept _)
  refine Kept.step ?_ (State.beginStart_kept _ _ _)
  exact h2

theorem execPwrTransitionEnd_kept : ∀ s, OutKept 0x3a7e7fbff7ff8 s (execPwrTransitionEnd s) := by
  intro s
  unfold execPwrTransitionEnd
  extract_lets +onlyGivenNames -merge -underBinder x1
  extract_lets +onlyGivenNames -merge -underBinder x2
  extract_lets +onlyGivenNames -merge -underBinder x3
  extract_lets +onlyGivenNames -merge -underBinder x4
  refine OutKept.next ?_
  refine Kept.ite ?_ ?_
  · exact Kept.refl _ _
  · refine Kept.ite ?_ ?_
    · refine Kept.foldl ?_ (fun _ _ h5 => ?_)
      · exact Kept.refl _ _
      · refine Kept.step ?_ (State.closeBypass_kept _ _ _ _)
        exact h5
    · refine Kept.ite ?_ ?_
      · exact Kept.refl _ _
      · extract_lets +onlyGivenNames -merge -underBinder x6
        have h6 : Kept 0x3a7e7fbff7ff8 s x6 := by
          unfold x6
          refine Kept.foldl ?_ (fun _ _ h7 => ?_)
          · exact Kept.refl _ _
          · refine Kept.step ?_ (State.modLathe_kept _ _ _)
            exact h7
        clear_value x6
        extract_lets +onlyGivenNames -merge -underBinder x8
        extract_lets +onlyGivenNames -merge -underBinder x9
        extract_lets +onlyGivenNames -merge -underBinder x10
        have h10 : Kept 0x3a7e7fbff7ff8 s x10 := by
          unfold x10
          refine Kept.ite ?_ ?_
          · refine Kept.step ?_ (State.wakeCold_kept _)
            exact h6
          · refine Kept.step ?_ (State.placeAll_kept _ _)
            exact h6
        clear_value x10
        extract_lets +onlyGivenNames -merge -underBinder x11
        have h11 : Kept 0x3a7e7fbff7ff8 s x11 := by
          unfold x11
          refine Kept.step ?_ (State.bump_kept _ _ _)
          refine Kept.step ?_ (State.wb_kept _ _ _ _)
          refine Kept.step ?_ (State.wf_kept _ _ _ _)
          exact h10
        clear_value x11
        extract_lets +onlyGivenNames -merge -underBinder x12 x13
        have h13 : Kept 0x3a7e7fbff7ff8 s x13 := by
          unfold x13
          refine (Kept.upd ?_).kept
          exact h11
        clear_value x13
        extract_lets +onlyGivenNames -merge -underBinder x14
        have h14 : Kept 0x3a7e7fbff7ff8 s x14 := by
          unfold x14
          refine Kept.ite ?_ ?_
          · refine Kept.step ?_ (State.wb_kept _ _ _ _)
            exact h13
          · exact h13
        clear_value x14
        extract_lets +onlyGivenNames -merge -underBinder x15
        have h15 : Kept 0x3a7e7fbff7ff8 s x15 := by
          unfold x15
          refine Kept.ite ?_ ?_
          · refine Kept.step ?_ (State.post_kept _ _ _ _ _ _)
            exact h14
          · exact h14
        clear_value x15
        refine Kept.ite ?_ ?_
        · refine Kept.foldl ?_ (fun _ _ h16 => ?_)
          · exact h15
          · refine Kept.step ?_ (State.tryService_kept _ _)
            exact h16
        · exact h15

theorem execPllUnlock_kept : ∀ a0 s, OutKept 0x327277bfffff8 s (execPllUnlock a0 s) := by
  intro a0 s
  unfold execPllUnlock
  extract_lets +onlyGivenNames -merge -underBinder x1
  refine OutKept.next ?_
  split
  ·
    refine Kept.ite ?_ ?_
    · exact Kept.refl _ _
    · extract_lets +onlyGivenNames -merge -underBinder x2
      have h2 : Kept 0x327277bfffff8 s x2 := by
        unfold x2
        unfold x1
        refine Kept.ite ?_ ?_
        · refine Kept.step ?_ (State.post_kept _ _ _ _ _ _)
          refine Kept.step ?_ (State.wb_kept _ _ _ _)
          refine Kept.step ?_ (State.wb_kept _ _ _ _)
          refine Kept.step ?_ (State.bump_kept _ _ _)
          exact Kept.refl _ _
        · refine Kept.step ?_ (State.wb_kept _ _ _ _)
          refine Kept.step ?_ (State.wb_kept _ _ _ _)
          refine Kept.step ?_ (State.bump_kept _ _ _)
          exact Kept.refl _ _
      clear_value x2
      extract_lets +onlyGivenNames -merge -underBinder x3
      have h3 : Kept 0x327277bfffff8 s x3 := by
        unfold x3
        refine Kept.step ?_ (State.holdAll_kept _ _)
        exact h2
      clear_value x3
      refine (Kept.upd ?_).kept
      exact h3
  ·
    refine Kept.ite ?_ ?_
    · exact Kept.refl _ _
    · extract_lets +onlyGivenNames -merge -underBinder x4
      have h4 : Kept 0x327277bfffff8 s x4 := by
        unfold x4
        unfold x1
        refine Kept.ite ?_ ?_
        · refine Kept.step ?_ (State.post_kept _ _ _ _ _ _)
          refine Kept.step ?_ (State.incF_kept _ _ _ _)
          refine Kept.step ?_ (State.wb_kept _ _ _ _)
          refine Kept.step ?_ (State.bump_kept _ _ _)
          exact Kept.refl _ _
        · refine Kept.step ?_ (State.incF_kept _ _ _ _)
          refine Kept.step ?_ (State.wb_kept _ _ _ _)
          refine Kept.step ?_ (State.bump_kept _ _ _)
          exact Kept.refl _ _
      clear_value x4
      refine Kept.ite ?_ ?_
      · refine Kept.ite ?_ ?_
        · exact h4
        · refine Kept.step ?_ (State.dropLathe_kept _ _ _ _)
          exact h4
      · refine Kept.ite ?_ ?_
        · refine Kept.step ?_ (State.domainReset_kept _ _ _)
          exact h4
        · refine Kept.ite ?_ ?_
          · refine Kept.foldl ?_ (fun _ _ h5 => ?_)
            · exact h4
            · refine Kept.ite ?_ ?_
              · refine Kept.step ?_ (State.domainReset_kept _ _ _)
                exact h5
              · exact h5
          · refine Kept.ite ?_ ?_
            · refine Kept.step ?_ (State.domainReset_kept _ _ _)
              exact h4
            · refine Kept.ite ?_ ?_
              · refine Kept.step ?_ (State.domainReset_kept _ _ _)
                refine Kept.step ?_ (State.deviceHold_kept _)
                exact h4
              · refine Kept.ite ?_ ?_
                · refine Kept.step ?_ (State.ventReset_kept _ _)
                  refine Kept.step ?_ (State.wb_kept _ _ _ _)
                  exact h4
                · refine Kept.step ?_ (State.deviceReset_kept _)
                  exact h4

theorem execRefOscReturn_kept : ∀ s, OutKept 0x327a7fbff7ff8 s (execRefOscReturn s) := by
  intro s
  unfold execRefOscReturn
  refine OutKept.next ?_
  refine Kept.ite ?_ ?_
  · exact Kept.refl _ _
  · extract_lets +onlyGivenNames -merge -underBinder x1 x2
    have h2 : Kept 0x327a7fbff7ff8 s x2 := by
      unfold x2
      refine (Kept.upd ?_).kept
      exact Kept.refl _ _
    clear_value x2
    extract_lets +onlyGivenNames -merge -underBinder x3
    have h3 : Kept 0x327a7fbff7ff8 s x3 := by
      unfold x3
      refine Kept.step ?_ (State.wb_kept _ _ _ _)
      refine Kept.step ?_ (State.wb_kept _ _ _ _)
      exact h2
    clear_value x3
    refine Kept.ite ?_ ?_
    · exact h3
    · refine Kept.ite ?_ ?_
      · refine Kept.step ?_ (State.domOn_kept _ _)
        exact h3
      · refine Kept.step ?_ (State.placeAll_kept _ _)
        exact h3

theorem execPerstN_kept : ∀ s, OutKept 0x367277bfffff8 s (execPerstN s) := by
  intro s
  unfold execPerstN
  refine OutKept.next ?_
  refine Kept.step ?_ (State.deviceReset_kept _)
  refine Kept.step ?_ (State.hostLinkDown_kept _ _)
  refine (Kept.upd ?_).kept
  exact Kept.refl _ _

theorem execDeviceResetRelease_kept : ∀ s, OutKept 0xe4e220800008 s (execDeviceResetRelease s) := by
  intro s
  unfold execDeviceResetRelease
  refine OutKept.next ?_
  refine Kept.ite ?_ ?_
  · exact Kept.refl _ _
  · extract_lets +onlyGivenNames -merge -underBinder x1 x2
    have h2 : Kept 0xe4e220800008 s x2 := by
      unfold x2
      refine (Kept.upd ?_).kept
      exact Kept.refl _ _
    clear_value x2
    refine Kept.ite ?_ ?_
    · refine Kept.step ?_ (State.setDom_kept _ _ _)
      exact h2
    · refine Kept.step ?_ (State.boot150_kept _)
      refine Kept.step ?_ (State.beginStart_kept _ _ _)
      exact h2

theorem State.functionReset_kept : ∀ s, Kept 0x3f2000503f38 s (State.functionReset s) := by
  intro s
  unfold State.functionReset
  extract_lets +onlyGivenNames -merge -underBinder x1
  have h1 : Kept 0x3f2000503f38 s x1 := by
    unfold x1
    refine Kept.foldl ?_ (fun _ _ h2 => ?_)
    · exact Kept.refl _ _
    · refine Kept.step ?_ (State.abortWhere_kept _ _ _ _)
      exact h2
  clear_value x1
  extract_lets +onlyGivenNames -merge -underBinder x3
  have h3 : Kept 0x3f2000503f38 s x3 := by
    unfold x3
    refine Kept.foldl ?_ (fun _ _ h4 => ?_)
    · exact h1
    · refine Kept.step ?_ (State.wb_kept _ _ _ _)
      exact h4
  clear_value x3
  refine (Kept.upd ?_).kept
  exact h3

theorem execHotReset_kept : ∀ s, OutKept 0x33f2000777f38 s (execHotReset s) := by
  intro s
  unfold execHotReset
  refine OutKept.next ?_
  refine Kept.step ?_ (State.functionReset_kept _)
  refine Kept.step ?_ (State.hostLinkDown_kept _ _)
  exact Kept.refl _ _

theorem execFunctionLevelReset_kept : ∀ s, OutKept 0x3f2000503f38 s (execFunctionLevelReset s) := by
  intro s
  unfold execFunctionLevelReset
  refine OutKept.next ?_
  refine Kept.step ?_ (State.functionReset_kept _)
  exact Kept.refl _ _

theorem execVentWatchdog_kept : ∀ s, OutKept 0x200000000008 s (execVentWatchdog s) := by
  intro s
  unfold execVentWatchdog
  refine OutKept.next ?_
  refine Kept.step ?_ (State.ventReset_kept _ _)
  exact Kept.refl _ _

theorem execVentBooted_kept : ∀ s, OutKept 0xa4e220800008 s (execVentBooted s) := by
  intro s
  unfold execVentBooted
  refine OutKept.next ?_
  refine Kept.ite ?_ ?_
  · exact Kept.refl _ _
  · extract_lets +onlyGivenNames -merge -underBinder x1
    extract_lets +onlyGivenNames -merge -underBinder x2
    have h2 : Kept 0xa4e220800008 s x2 := by
      unfold x2
      refine (Kept.upd ?_).kept
      exact Kept.refl _ _
    clear_value x2
    refine Kept.ite ?_ ?_
    · refine Kept.step ?_ (State.boot150_kept _)
      exact h2
    · refine Kept.step ?_ (State.postVent_kept _ _ _ _ _)
      exact h2

theorem execStartStepEnd_kept : ∀ a0 a1 s, OutKept 0x242200800008 s (execStartStepEnd a0 a1 s) := by
  intro a0 a1 s
  unfold execStartStepEnd
  refine OutKept.next ?_
  refine Kept.ite ?_ ?_
  · exact Kept.refl _ _
  · refine Kept.step ?_ (State.stepDone_kept _ _ _)
    exact Kept.refl _ _

theorem execReadyTimeout_kept : ∀ s, OutKept 0x242200800008 s (execReadyTimeout s) := by
  intro s
  unfold execReadyTimeout
  refine OutKept.next ?_
  refine Kept.ite ?_ ?_
  · refine Kept.step ?_ (State.ready_kept _)
    exact Kept.refl _ _
  · exact Kept.refl _ _

end Sys2Proof.Machine
end

