-- ==== Sys2Proof/Laws/FrameJigOps.lean ====
section
/-! SUPPORT. What each operation of `Machine/JigOps.lean` may change: one lemma each, the parts it may change as a mask of `Part.no` bits. -/
set_option linter.unusedVariables false
set_option Elab.async false
namespace Sys2Proof.Machine

theorem State.jigResult_kept : ∀ s a1 a2, Kept 0x8 s (State.jigResult s a1 a2) := by
  intro s a1 a2
  unfold State.jigResult
  refine Kept.step ?_ (State.wr_kept _ _ _)
  exact Kept.refl _ _

theorem State.imageUnmapped_kept : ∀ s a1 a2, Kept 0x242000000008 s (State.imageUnmapped s a1 a2) := by
  intro s a1 a2
  unfold State.imageUnmapped
  split
  ·
    refine Kept.step ?_ (State.unmappedEvent_kept _ _ _ _ _)
    exact Kept.refl _ _
  ·
    exact Kept.refl _ _

theorem State.quiesceJig_kept : ∀ s, Kept 0x2000000100 s (State.quiesceJig s) := by
  intro s
  unfold State.quiesceJig
  refine Kept.ite ?_ ?_
  · exact Kept.refl _ _
  · extract_lets +onlyGivenNames -merge -underBinder x1
    extract_lets +onlyGivenNames -merge -underBinder x2
    have h2 : Kept 0x2000000100 s x2 := by
      unfold x2
      refine Kept.foldl ?_ (fun _ _ h3 => ?_)
      · exact Kept.refl _ _
      · refine Kept.step ?_ (State.quiesce_kept _ _ _ _)
        exact h3
    clear_value x2
    refine (Kept.upd ?_).kept
    exact h2

theorem State.beginRollback_kept : ∀ s a1, Kept 0x2000000100 s (State.beginRollback s a1) := by
  intro s a1
  unfold State.beginRollback
  refine Kept.step ?_ (State.quiesceJig_kept _)
  refine (Kept.upd ?_).kept
  exact Kept.refl _ _

theorem State.fwResult_kept : ∀ s a1, Kept 0x8 s (State.fwResult s a1) := by
  intro s a1
  unfold State.fwResult
  refine Kept.step ?_ (State.wf_kept _ _ _ _)
  exact Kept.refl _ _

theorem State.fwBegin_kept : ∀ s a1 a2, Kept 0x246043a00108 s (State.fwBegin s a1 a2) := by
  intro s a1 a2
  unfold State.fwBegin
  split
  ·
    extract_lets +onlyGivenNames -merge -underBinder x1
    extract_lets +onlyGivenNames -merge -underBinder x2
    have h2 : Kept 0x246043a00108 s x2 := by
      unfold x2
      refine Kept.step ?_ (State.setFw_kept _ _ _)
      exact Kept.refl _ _
    clear_value x2
    refine Kept.step ?_ (State.post_kept _ _ _ _ _ _)
    refine Kept.step ?_ (State.extend_kept _ _ _)
    exact h2
  ·
    extract_lets +onlyGivenNames -merge -underBinder x3
    extract_lets +onlyGivenNames -merge -underBinder x4
    have h4 : Kept 0x246043a00108 s x4 := by
      unfold x4
      refine Kept.step ?_ (State.setFw_kept _ _ _)
      exact Kept.refl _ _
    clear_value x4
    refine Kept.step ?_ (State.post_kept _ _ _ _ _ _)
    refine Kept.step ?_ (State.extend_kept _ _ _)
    exact h4
  ·
    extract_lets +onlyGivenNames -merge -underBinder x5
    have h5 : Kept 0x246043a00108 s x5 := by
      unfold x5
      refine Kept.step ?_ (State.ventReset_kept _ _)
      exact Kept.refl _ _
    clear_value x5
    refine (Kept.upd ?_).kept
    exact h5
  ·
    extract_lets +onlyGivenNames -merge -underBinder x6
    have h6 : Kept 0x246043a00108 s x6 := by
      unfold x6
      refine Kept.foldl ?_ (fun _ _ h7 => ?_)
      · exact Kept.refl _ _
      · refine Kept.ite ?_ ?_
        · exact h7
        · split
          ·
            refine Kept.step ?_ (State.quiesce_kept _ _ _ _)
            refine Kept.step ?_ (State.setCal_kept _ _ _)
            exact h7
          ·
            refine Kept.step ?_ (State.modLathe_kept _ _ _)
            exact h7
          ·
            exact h7
    clear_value x6
    refine (Kept.upd ?_).kept
    exact h6
  ·
    extract_lets +onlyGivenNames -merge -underBinder x8
    refine Kept.ite ?_ ?_
    · extract_lets +onlyGivenNames -merge -underBinder x9
      extract_lets +onlyGivenNames -merge -underBinder x10
      extract_lets +onlyGivenNames -merge -underBinder x11
      have h11 : Kept 0x246043a00108 s x11 := by
        unfold x11
        refine Kept.foldl ?_ (fun _ _ h12 => ?_)
        · exact Kept.refl _ _
        · refine Kept.step ?_ (State.closeBypass_kept _ _ _ _)
          exact h12
      clear_value x11
      refine (Kept.upd ?_).kept
      exact h11
    · extract_lets +onlyGivenNames -merge -underBinder x13
      have h13 : Kept 0x246043a00108 s x13 := by
        unfold x13
        refine Kept.foldl ?_ (fun _ _ h14 => ?_)
        · exact Kept.refl _ _
        · refine Kept.ite ?_ ?_
          · refine Kept.step ?_ (State.linkDown_kept _ _ _)
            exact h14
          · exact h14
      clear_value x13
      refine (Kept.upd ?_).kept
      exact h13
  ·
    refine (Kept.upd ?_).kept
    exact Kept.refl _ _

theorem State.installJig_kept : ∀ s a1, Kept 0x327a57bff7ff8 s (State.installJig s a1) := by
  intro s a1
  unfold State.installJig
  extract_lets +onlyGivenNames -merge -underBinder x1
  extract_lets +onlyGivenNames -merge -underBinder x2
  extract_lets +onlyGivenNames -merge -underBinder x3
  extract_lets +onlyGivenNames -merge -underBinder x4
  have h4 : Kept 0x327a57bff7ff8 s x4 := by
    unfold x4
    refine Kept.foldl ?_ (fun _ _ h5 => ?_)
    · exact Kept.refl _ _
    · refine Kept.step ?_ (State.invalidate_kept _ _ _ _)
      refine Kept.step ?_ (State.cutDrains_kept _ _)
      exact h5
  clear_value x4
  extract_lets +onlyGivenNames -merge -underBinder x6
  have h6 : Kept 0x327a57bff7ff8 s x6 := by
    unfold x6
    refine Kept.foldl ?_ (fun _ _ h7 => ?_)
    · exact h4
    · refine Kept.step ?_ (State.abortWhere_kept _ _ _ _)
      exact h7
  clear_value x6
  extract_lets +onlyGivenNames -merge -underBinder x8
  extract_lets +onlyGivenNames -merge -underBinder x9
  extract_lets +onlyGivenNames -merge -underBinder x10
  have h10 : Kept 0x327a57bff7ff8 s x10 := by
    unfold x10
    refine Kept.foldl ?_ (fun _ _ h11 => ?_)
    · exact h6
    · refine Kept.ite ?_ ?_
      · refine Kept.step ?_ (State.domOff_kept _ _ _)
        exact h11
      · refine Kept.ite ?_ ?_
        · refine Kept.step ?_ (State.latheOff_kept _ _ _ _)
          exact h11
        · refine Kept.ite ?_ ?_
          · refine Kept.step ?_ (State.setDom_kept _ _ _)
            exact h11
          · exact h11
  clear_value x10
  extract_lets +onlyGivenNames -merge -underBinder x12
  have h12 : Kept 0x327a57bff7ff8 s x12 := by
    unfold x12
    refine (Kept.upd ?_).kept
    exact h10
  clear_value x12
  extract_lets +onlyGivenNames -merge -underBinder x13
  have h13 : Kept 0x327a57bff7ff8 s x13 := by
    unfold x13
    refine Kept.foldl ?_ (fun _ _ h14 => ?_)
    · exact h12
    · refine Kept.ite ?_ ?_
      · refine Kept.step ?_ (State.placeDom_kept _ _ _)
        exact h14
      · refine Kept.ite ?_ ?_
        · refine Kept.step ?_ (State.placeLathe_kept _ _ _)
          exact h14
        · refine Kept.ite ?_ ?_
          · refine Kept.step ?_ (State.setDom_kept _ _ _)
            exact h14
          · exact h14
  clear_value x13
  extract_lets +onlyGivenNames -merge -underBinder x15
  have h15 : Kept 0x327a57bff7ff8 s x15 := by
    unfold x15
    refine Kept.step ?_ (State.wf_kept _ _ _ _)
    refine Kept.step ?_ (State.wf_kept _ _ _ _)
    exact h13
  clear_value x15
  extract_lets +onlyGivenNames -merge -underBinder x16
  have h16 : Kept 0x327a57bff7ff8 s x16 := by
    unfold x16
    refine Kept.step ?_ (State.extend_kept _ _ _)
    exact h15
  clear_value x16
  extract_lets +onlyGivenNames -merge -underBinder x17
  have h17 : Kept 0x327a57bff7ff8 s x17 := by
    unfold x17
    refine Kept.foldl ?_ (fun _ _ h18 => ?_)
    · exact h16
    · refine Kept.ite ?_ ?_
      · refine Kept.step ?_ (State.renameLoops_kept _ _)
        refine Kept.step ?_ (State.modLathe_kept _ _ _)
        exact h18
      · exact h18
  clear_value x17
  refine Kept.foldl ?_ (fun _ _ h19 => ?_)
  · exact h17
  · refine Kept.step ?_ (State.tryService_kept _ _)
    refine Kept.step ?_ (State.modLathe_kept _ _ _)
    exact h19

theorem State.applyJig_kept : ∀ s, Kept 0x327a57bff7ff8 s (State.applyJig s) := by
  intro s
  unfold State.applyJig
  extract_lets +onlyGivenNames -merge -underBinder x1
  extract_lets +onlyGivenNames -merge -underBinder x2
  have h2 : Kept 0x327a57bff7ff8 s x2 := by
    unfold x2
    refine Kept.step ?_ (State.bump_kept _ _ _)
    refine Kept.step ?_ (State.installJig_kept _ _)
    exact Kept.refl _ _
  clear_value x2
  refine Kept.step ?_ (State.post_kept _ _ _ _ _ _)
  exact h2

theorem State.rollBack_kept : ∀ s, Kept 0x327a57bff7ff8 s (State.rollBack s) := by
  intro s
  unfold State.rollBack
  extract_lets +onlyGivenNames -merge -underBinder x1
  extract_lets +onlyGivenNames -merge -underBinder x2
  have h2 : Kept 0x327a57bff7ff8 s x2 := by
    unfold x2
    refine Kept.step ?_ (State.bump_kept _ _ _)
    refine Kept.step ?_ (State.installJig_kept _ _)
    exact Kept.refl _ _
  clear_value x2
  extract_lets +onlyGivenNames -merge -underBinder x3
  have h3 : Kept 0x327a57bff7ff8 s x3 := by
    unfold x3
    refine Kept.step ?_ (State.wf_kept _ _ _ _)
    exact h2
  clear_value x3
  refine Kept.step ?_ (State.post_kept _ _ _ _ _ _)
  exact h3

theorem State.fwDone_kept : ∀ s a1, Kept 0x246000000008 s (State.fwDone s a1) := by
  intro s a1
  unfold State.fwDone
  extract_lets +onlyGivenNames -merge -underBinder x1
  extract_lets +onlyGivenNames -merge -underBinder x2
  extract_lets +onlyGivenNames -merge -underBinder x3
  extract_lets +onlyGivenNames -merge -underBinder x4
  have h4 : Kept 0x246000000008 s x4 := by
    unfold x4
    refine Kept.step ?_ (State.extend_kept _ _ _)
    refine Kept.step ?_ (State.setFw_kept _ _ _)
    exact Kept.refl _ _
  clear_value x4
  refine Kept.step ?_ (State.post_kept _ _ _ _ _ _)
  exact h4

end Sys2Proof.Machine
end

