-- ==== Sys2Proof/Laws/FrameJigCmds.lean ====
section
/-! SUPPORT. What each operation of `Machine/JigCmds.lean` may change: one lemma each, the parts it may change as a mask of `Part.no` bits. -/
set_option linter.unusedVariables false
set_option Elab.async false
namespace Sys2Proof.Machine

theorem execJigVerify_kept : ∀ a0 a1 s, OutKept 0x242000000008 s (execJigVerify a0 a1 s) := by
  intro a0 a1 s
  unfold execJigVerify
  refine State.atBlock_kept _ (by decide) (fun s0 h0 => ?_)
  refine OutKept.next ?_
  refine Kept.ite ?_ ?_
  · refine Kept.step ?_ (State.jigResult_kept _ _ _)
    exact h0
  · split
    ·
      refine Kept.step ?_ (State.imageRejected_kept _ _ _ _)
      refine Kept.step ?_ (State.jigResult_kept _ _ _)
      refine Kept.step ?_ (State.imageUnmapped_kept _ _ _)
      exact h0
    ·
      extract_lets +onlyGivenNames -merge -underBinder x1 x2
      refine Kept.ite ?_ ?_
      · refine Kept.step ?_ (State.imageRejected_kept _ _ _ _)
        refine Kept.step ?_ (State.jigResult_kept _ _ _)
        exact h0
      · extract_lets +onlyGivenNames -merge -underBinder x3
        refine Kept.step ?_ (State.jigResult_kept _ _ _)
        refine (Kept.upd ?_).kept
        exact h0

theorem execJigApply_kept : ∀ a0 s, OutKept 0x2000000008 s (execJigApply a0 s) := by
  intro a0 s
  unfold execJigApply
  refine State.atBlock_kept _ (by decide) (fun s0 h0 => ?_)
  refine OutKept.next ?_
  refine Kept.ite ?_ ?_
  · refine Kept.step ?_ (State.jigResult_kept _ _ _)
    exact h0
  · refine Kept.step ?_ (State.jigResult_kept _ _ _)
    refine (Kept.upd ?_).kept
    exact h0

theorem execJigRollback_kept : ∀ s, OutKept 0x2000000108 s (execJigRollback s) := by
  intro s
  unfold execJigRollback
  refine State.atBlock_kept _ (by decide) (fun s0 h0 => ?_)
  refine OutKept.next ?_
  extract_lets +onlyGivenNames -merge -underBinder x1
  refine Kept.ite ?_ ?_
  · refine Kept.step ?_ (State.jigResult_kept _ _ _)
    exact h0
  · refine Kept.step ?_ (State.beginRollback_kept _ _)
    refine Kept.step ?_ (State.jigResult_kept _ _ _)
    exact h0

theorem execJigDiscard_kept : ∀ s, OutKept 0x2000000008 s (execJigDiscard s) := by
  intro s
  unfold execJigDiscard
  refine State.atBlock_kept _ (by decide) (fun s0 h0 => ?_)
  refine OutKept.next ?_
  refine Kept.ite ?_ ?_
  · refine Kept.step ?_ (State.jigResult_kept _ _ _)
    exact h0
  · refine Kept.step ?_ (State.jigResult_kept _ _ _)
    refine (Kept.upd ?_).kept
    exact h0

theorem execFwVerify_kept : ∀ a0 a1 a2 s, OutKept 0x246000000008 s (execFwVerify a0 a1 a2 s) := by
  intro a0 a1 a2 s
  unfold execFwVerify
  refine State.atBlock_kept _ (by decide) (fun s0 h0 => ?_)
  extract_lets +onlyGivenNames -merge -underBinder x1
  refine OutKept.next ?_
  refine Kept.ite ?_ ?_
  · refine Kept.step ?_ (State.fwResult_kept _ _)
    exact h0
  · refine Kept.ite ?_ ?_
    · refine Kept.step ?_ (State.fwResult_kept _ _)
      exact h0
    · split
      ·
        refine Kept.step ?_ (State.imageRejected_kept _ _ _ _)
        refine Kept.step ?_ (State.fwResult_kept _ _)
        refine Kept.step ?_ (State.imageUnmapped_kept _ _ _)
        exact h0
      ·
        extract_lets +onlyGivenNames -merge -underBinder x2
        refine Kept.ite ?_ ?_
        · refine Kept.step ?_ (State.imageRejected_kept _ _ _ _)
          refine Kept.step ?_ (State.fwResult_kept _ _)
          exact h0
        · extract_lets +onlyGivenNames -merge -underBinder x3
          extract_lets +onlyGivenNames -merge -underBinder x4
          refine Kept.step ?_ (State.fwResult_kept _ _)
          refine Kept.step ?_ (State.setFw_kept _ _ _)
          exact h0

theorem execFwActivate_kept : ∀ a0 a1 a2 s, OutKept 0x246043a00108 s (execFwActivate a0 a1 a2 s) := by
  intro a0 a1 a2 s
  unfold execFwActivate
  refine State.atBlock_kept _ (by decide) (fun s0 h0 => ?_)
  extract_lets +onlyGivenNames -merge -underBinder x1
  extract_lets +onlyGivenNames -merge -underBinder x2
  refine OutKept.next ?_
  refine Kept.ite ?_ ?_
  · refine Kept.step ?_ (State.fwResult_kept _ _)
    exact h0
  · refine Kept.step ?_ (State.fwBegin_kept _ _ _)
    refine Kept.step ?_ (State.fwResult_kept _ _)
    exact h0

theorem execFwCommit_kept : ∀ a0 s, OutKept 0x247000000008 s (execFwCommit a0 s) := by
  intro a0 s
  unfold execFwCommit
  refine State.atBlock_kept _ (by decide) (fun s0 h0 => ?_)
  extract_lets +onlyGivenNames -merge -underBinder x1
  extract_lets +onlyGivenNames -merge -underBinder x2
  refine OutKept.next ?_
  refine Kept.ite ?_ ?_
  · refine Kept.step ?_ (State.fwResult_kept _ _)
    exact h0
  · extract_lets +onlyGivenNames -merge -underBinder x3
    have h3 : Kept 0x247000000008 s x3 := by
      unfold x3
      refine Kept.step ?_ (State.fwResult_kept _ _)
      refine Kept.step ?_ (State.raiseCtr_kept _ _ _)
      refine Kept.step ?_ (State.setFw_kept _ _ _)
      exact h0
    clear_value x3
    refine Kept.step ?_ (State.post_kept _ _ _ _ _ _)
    exact h3

theorem execFwActivateOther_kept : ∀ a0 a1 a2 s, OutKept 0x246043a00108 s (execFwActivateOther a0 a1 a2 s) := by
  intro a0 a1 a2 s
  unfold execFwActivateOther
  refine State.atBlock_kept _ (by decide) (fun s0 h0 => ?_)
  extract_lets +onlyGivenNames -merge -underBinder x1
  refine OutKept.next ?_
  refine Kept.ite ?_ ?_
  · refine Kept.step ?_ (State.fwResult_kept _ _)
    exact h0
  · refine Kept.step ?_ (State.fwBegin_kept _ _ _)
    refine Kept.step ?_ (State.fwResult_kept _ _)
    exact h0

theorem execApplyAct_kept : ∀ s, OutKept 0x2000000100 s (execApplyAct s) := by
  intro s
  unfold execApplyAct
  refine OutKept.next ?_
  refine Kept.ite ?_ ?_
  · exact Kept.refl _ _
  · refine Kept.step ?_ (State.quiesceJig_kept _)
    refine (Kept.upd ?_).kept
    exact Kept.refl _ _

theorem execApplyQuiesced_kept : ∀ s, OutKept 0x327a57bff7ff8 s (execApplyQuiesced s) := by
  intro s
  unfold execApplyQuiesced
  refine OutKept.next ?_
  refine Kept.ite ?_ ?_
  · refine Kept.step ?_ (State.applyJig_kept _)
    exact Kept.refl _ _
  · exact Kept.refl _ _

theorem execHealthCheckEnd_kept : ∀ s, OutKept 0x243000000108 s (execHealthCheckEnd s) := by
  intro s
  unfold execHealthCheckEnd
  refine OutKept.next ?_
  refine Kept.ite ?_ ?_
  · exact Kept.refl _ _
  · extract_lets +onlyGivenNames -merge -underBinder x1
    extract_lets +onlyGivenNames -merge -underBinder x2
    refine Kept.ite ?_ ?_
    · extract_lets +onlyGivenNames -merge -underBinder x3 x4
      have h4 : Kept 0x243000000108 s x4 := by
        unfold x4
        refine Kept.step ?_ (State.raiseCtr_kept _ _ _)
        refine (Kept.upd ?_).kept
        exact Kept.refl _ _
      clear_value x4
      refine Kept.step ?_ (State.post_kept _ _ _ _ _ _)
      exact h4
    · refine Kept.step ?_ (State.beginRollback_kept _ _)
      exact Kept.refl _ _

theorem execRollbackApply_kept : ∀ s, OutKept 0x327a57bff7ff8 s (execRollbackApply s) := by
  intro s
  unfold execRollbackApply
  refine OutKept.next ?_
  refine Kept.ite ?_ ?_
  · exact Kept.refl _ _
  · extract_lets +onlyGivenNames -merge -underBinder x1
    have h1 : Kept 0x327a57bff7ff8 s x1 := by
      unfold x1
      refine Kept.ite ?_ ?_
      · exact Kept.refl _ _
      · refine Kept.step ?_ (State.quiesceJig_kept _)
        exact Kept.refl _ _
    clear_value x1
    refine Kept.ite ?_ ?_
    · refine Kept.step ?_ (State.rollBack_kept _)
      exact h1
    · exact h1

theorem execFwActivationEnd_kept : ∀ s, OutKept 0x246008800008 s (execFwActivationEnd s) := by
  intro s
  unfold execFwActivationEnd
  refine OutKept.next ?_
  split
  ·
    exact Kept.refl _ _
  ·
    extract_lets +onlyGivenNames -merge -underBinder x1
    have h1 : Kept 0x246008800008 s x1 := by
      unfold x1
      refine (Kept.upd ?_).kept
      exact Kept.refl _ _
    clear_value x1
    extract_lets +onlyGivenNames -merge -underBinder x2
    have h2 : Kept 0x246008800008 s x2 := by
      unfold x2
      refine Kept.step ?_ (State.fwDone_kept _ _)
      exact h1
    clear_value x2
    refine Kept.ite ?_ ?_
    · refine Kept.foldl ?_ (fun _ _ h3 => ?_)
      · exact h2
      · refine Kept.step ?_ (State.reinit_kept _ _)
        exact h3
    · refine Kept.ite ?_ ?_
      · refine Kept.foldl ?_ (fun _ _ h4 => ?_)
        · exact h2
        · refine Kept.ite ?_ ?_
          · refine Kept.step ?_ (State.openBypass_kept _ _)
            exact h4
          · exact h4
      · exact h2

theorem execJigQuiesceTimeout_kept : ∀ s, OutKept 0x252000503f38 s (execJigQuiesceTimeout s) := by
  intro s
  unfold execJigQuiesceTimeout
  extract_lets +onlyGivenNames -merge -underBinder x1
  extract_lets +onlyGivenNames -merge -underBinder x2
  refine OutKept.next ?_
  refine Kept.ite ?_ ?_
  · exact Kept.refl _ _
  · extract_lets +onlyGivenNames -merge -underBinder x3
    refine Kept.foldl ?_ (fun _ _ h4 => ?_)
    · exact Kept.refl _ _
    · refine Kept.step ?_ (State.abortWhere_kept _ _ _ _)
      exact h4

end Sys2Proof.Machine
end

