-- ==== Sys2Proof/Laws/FrameLathe.lean ====
section
/-! SUPPORT. What each operation of `Machine/Lathe.lean` may change: one lemma each, the parts it may change as a mask of `Part.no` bits. -/
set_option linter.unusedVariables false
set_option Elab.async false
namespace Sys2Proof.Machine

theorem execSvcReqWrite_kept : ∀ a0 a1 s, OutKept 0x242040000108 s (execSvcReqWrite a0 a1 s) := by
  intro a0 a1 s
  unfold execSvcReqWrite
  refine State.atBlock_kept _ (by decide) (fun s0 h0 => ?_)
  extract_lets +onlyGivenNames -merge -underBinder x1
  have h1 : Kept 0x242040000108 s x1 := by
    unfold x1
    refine Kept.step ?_ (State.wb_kept _ _ _ _)
    exact h0
  clear_value x1
  refine OutKept.next ?_
  refine Kept.ite ?_ ?_
  · refine Kept.step ?_ (State.tryService_kept _ _)
    exact h1
  · refine Kept.step ?_ (State.quiesce_kept _ _ _ _)
    exact h1

theorem execBankAgeMaxWrite_kept : ∀ a0 a1 s, OutKept 0x8 s (execBankAgeMaxWrite a0 a1 s) := by
  intro a0 a1 s
  unfold execBankAgeMaxWrite
  refine State.atBlock_kept _ (by decide) (fun s0 h0 => ?_)
  refine OutKept.next ?_
  refine Kept.step ?_ (State.wr_kept _ _ _)
  exact h0

theorem execLthMapWrite_kept : ∀ a0 a1 a2 a3 s, OutKept 0x18000108 s (execLthMapWrite a0 a1 a2 a3 s) := by
  intro a0 a1 a2 a3 s
  unfold execLthMapWrite
  refine State.atBlock_kept _ (by decide) (fun s0 h0 => ?_)
  extract_lets +onlyGivenNames -merge -underBinder x1
  refine OutKept.ite ?_ ?_
  · refine OutKept.ite ?_ ?_
    · refine OutKept.next ?_
      refine Kept.step ?_ (State.powerAdcs_kept _ _)
      refine Kept.step ?_ (State.renameLoops_kept _ _)
      refine Kept.step ?_ (State.wf_kept _ _ _ _)
      exact h0
    · refine OutKept.ite ?_ ?_
      · refine OutKept.next ?_
        refine Kept.step ?_ (State.renameLoops_kept _ _)
        refine Kept.step ?_ (State.wf_kept _ _ _ _)
        exact h0
      · refine OutKept.next ?_
        exact h0
  · refine OutKept.next ?_
    exact h0

theorem execLasersLocked_kept : ∀ a0 s, OutKept 0x242040000108 s (execLasersLocked a0 s) := by
  intro a0 s
  unfold execLasersLocked
  extract_lets +onlyGivenNames -merge -underBinder x1
  extract_lets +onlyGivenNames -merge -underBinder x2
  extract_lets +onlyGivenNames -merge -underBinder x3
  refine OutKept.next ?_
  refine Kept.ite ?_ ?_
  · refine Kept.step ?_ (State.enterCal_kept _ _)
    refine Kept.foldl ?_ (fun _ _ h4 => ?_)
    · exact Kept.refl _ _
    · unfold x2
      refine Kept.ite ?_ ?_
      · exact h4
      · refine Kept.step ?_ (State.wf_kept _ _ _ _)
        exact h4
  · refine Kept.ite ?_ ?_
    · refine Kept.step ?_ (State.tryService_kept _ _)
      refine Kept.foldl ?_ (fun _ _ h5 => ?_)
      · exact Kept.refl _ _
      · unfold x2
        refine Kept.ite ?_ ?_
        · exact h5
        · refine Kept.step ?_ (State.wf_kept _ _ _ _)
          exact h5
    · exact Kept.refl _ _

theorem execQuiesceEnd_kept : ∀ a0 s, OutKept 0x242040000108 s (execQuiesceEnd a0 s) := by
  intro a0 s
  unfold execQuiesceEnd
  extract_lets +onlyGivenNames -merge -underBinder x1
  refine OutKept.ite ?_ ?_
  · refine OutKept.ite ?_ ?_
    · refine OutKept.next ?_
      refine Kept.step ?_ (State.enterCal_kept _ _)
      exact Kept.refl _ _
    · extract_lets +onlyGivenNames -merge -underBinder x2
      have h2 : Kept 0x242040000108 s x2 := by
        unfold x2
        refine Kept.step ?_ (State.oosEvent_kept _ _ _)
        refine Kept.step ?_ (State.modLathe_kept _ _ _)
        refine Kept.step ?_ (State.lastGuard_kept _ _)
        exact Kept.refl _ _
      clear_value x2
      refine OutKept.next ?_
      refine Kept.ite ?_ ?_
      · refine Kept.step ?_ (State.tryService_kept _ _)
        exact h2
      · exact h2
  · refine OutKept.next ?_
    exact Kept.refl _ _

end Sys2Proof.Machine
end

