-- ==== Sys2Proof/Laws/FrameMemory.lean ====
section
/-! SUPPORT. What each operation of `Machine/Memory.lean` may change: one lemma each, the parts it may change as a mask of `Part.no` bits. -/
set_option linter.unusedVariables false
set_option Elab.async false
namespace Sys2Proof.Machine

theorem execRetireGo_kept : ∀ a0 a1 s, OutKept 0x242000002018 s (execRetireGo a0 a1 s) := by
  intro a0 a1 s
  unfold execRetireGo
  refine State.atBlock_kept _ (by decide) (fun s0 h0 => ?_)
  extract_lets +onlyGivenNames -merge -underBinder x1
  have h1 : Kept 0x242000002018 s x1 := by
    unfold x1
    refine Kept.step ?_ (State.wf_kept _ _ _ _)
    exact h0
  clear_value x1
  extract_lets +onlyGivenNames -merge -underBinder x2
  refine OutKept.next ?_
  refine Kept.ite ?_ ?_
  · unfold x2
    refine Kept.step ?_ (State.post_kept _ _ _ _ _ _)
    refine Kept.step ?_ (State.wf_kept _ _ _ _)
    exact h1
  · refine Kept.ite ?_ ?_
    · unfold x2
      refine Kept.step ?_ (State.post_kept _ _ _ _ _ _)
      refine Kept.step ?_ (State.wf_kept _ _ _ _)
      exact h1
    · refine Kept.ite ?_ ?_
      · unfold x2
        refine Kept.step ?_ (State.post_kept _ _ _ _ _ _)
        refine Kept.step ?_ (State.wf_kept _ _ _ _)
        exact h1
      · extract_lets +onlyGivenNames -merge -underBinder x3
        extract_lets +onlyGivenNames -merge -underBinder x4
        extract_lets +onlyGivenNames -merge -underBinder x5
        have h5 : Kept 0x242000002018 s x5 := by
          unfold x5
          refine (Kept.upd ?_).kept
          exact h1
        clear_value x5
        extract_lets +onlyGivenNames -merge -underBinder x6 x7
        have h7 : Kept 0x242000002018 s x7 := by
          unfold x7
          refine Kept.step ?_ (State.setStack_kept _ _ _)
          exact h5
        clear_value x7
        extract_lets +onlyGivenNames -merge -underBinder x8
        have h8 : Kept 0x242000002018 s x8 := by
          unfold x8
          refine Kept.step ?_ (State.wb_kept _ _ _ _)
          refine Kept.step ?_ (State.wf_kept _ _ _ _)
          refine Kept.step ?_ (State.wf_kept _ _ _ _)
          exact h7
        clear_value x8
        refine Kept.step ?_ (State.wf_kept _ _ _ _)
        refine Kept.step ?_ (State.wb_kept _ _ _ _)
        exact h8

theorem execHbmLineRead_kept : ∀ a0 a1 a2 a3 a4 a5 s, OutKept 0x3262002002038 s (execHbmLineRead a0 a1 a2 a3 a4 a5 s) := by
  intro a0 a1 a2 a3 a4 a5 s
  unfold execHbmLineRead
  extract_lets +onlyGivenNames -merge -underBinder x1
  refine OutKept.next ?_
  split
  ·
    refine Kept.ite ?_ ?_
    · split
      next y2 q2 =>
        have h2 : Kept 0x3262002002038 s y2 := Kept.snd q2 (by
          refine Kept.step ?_ (State.lineRead_kept _ _ _ _ _ _)
          exact Kept.refl _ _)
        refine (Kept.upd ?_).kept
        exact h2
    · extract_lets +onlyGivenNames -merge -underBinder x3
      have h3 : Kept 0x3262002002038 s x3 := by
        unfold x3
        refine Kept.step ?_ (State.unmappedEvent_kept _ _ _ _ _)
        exact Kept.refl _ _
      clear_value x3
      refine (Kept.upd ?_).kept
      exact h3
  ·
    exact Kept.refl _ _

theorem execCorrectionRate_kept : ∀ a0 s, OutKept 0x2002000 s (execCorrectionRate a0 s) := by
  intro a0 s
  unfold execCorrectionRate
  extract_lets +onlyGivenNames -merge -underBinder x1
  extract_lets +onlyGivenNames -merge -underBinder x2
  refine OutKept.next ?_
  refine Kept.ite ?_ ?_
  · exact Kept.refl _ _
  · refine Kept.step ?_ (State.channelEvent_kept _ _ _)
    refine Kept.step ?_ (State.setStack_kept _ _ _)
    exact Kept.refl _ _

theorem execHbmLineWrite_kept : ∀ a0 a1 a2 a3 a4 a5 s, OutKept 0x2262002002038 s (execHbmLineWrite a0 a1 a2 a3 a4 a5 s) := by
  intro a0 a1 a2 a3 a4 a5 s
  unfold execHbmLineWrite
  extract_lets +onlyGivenNames -merge -underBinder x1
  refine OutKept.next ?_
  split
  ·
    refine Kept.ite ?_ ?_
    · exact Kept.refl _ _
    · refine Kept.ite ?_ ?_
      · refine Kept.step ?_ (State.unmappedEvent_kept _ _ _ _ _)
        exact Kept.refl _ _
      · refine Kept.step ?_ (State.hbmWrite_kept _ _ _ _ _ _)
        exact Kept.refl _ _
  ·
    exact Kept.refl _ _

theorem execInfeedLineWrite_kept : ∀ a0 a1 a2 a3 s, OutKept 0x262000000038 s (execInfeedLineWrite a0 a1 a2 a3 s) := by
  intro a0 a1 a2 a3 s
  unfold execInfeedLineWrite
  extract_lets +onlyGivenNames -merge -underBinder x1
  refine OutKept.next ?_
  split
  ·
    refine Kept.ite ?_ ?_
    · exact Kept.refl _ _
    · refine Kept.ite ?_ ?_
      · refine Kept.step ?_ (State.unmappedEvent_kept _ _ _ _ _)
        exact Kept.refl _ _
      · refine Kept.step ?_ (State.infeedWrite_kept _ _ _ _ _)
        exact Kept.refl _ _
  ·
    exact Kept.refl _ _

theorem State.scrubBack_kept : ∀ s a1, Kept 0x20000002038 s (State.scrubBack s a1) := by
  intro s a1
  unfold State.scrubBack
  extract_lets +onlyGivenNames -merge -underBinder x1
  extract_lets +onlyGivenNames -merge -underBinder x2
  extract_lets +onlyGivenNames -merge -underBinder x3
  extract_lets +onlyGivenNames -merge -underBinder x4
  have h4 : Kept 0x20000002038 s x4 := by
    unfold x4
    refine Kept.step ?_ (State.setStack_kept _ _ _)
    exact Kept.refl _ _
  clear_value x4
  refine Kept.foldl ?_ (fun _ _ h5 => ?_)
  · exact h4
  · refine Kept.ite ?_ ?_
    · refine Kept.step ?_ (State.bump_kept _ _ _)
      refine Kept.step ?_ (State.putLine_kept _ _ _ _)
      exact h5
    · exact h5

theorem execScrubRead_kept : ∀ a0 a1 a2 s, OutKept 0x2262002002038 s (execScrubRead a0 a1 a2 s) := by
  intro a0 a1 a2 s
  unfold execScrubRead
  extract_lets +onlyGivenNames -merge -underBinder x1
  refine OutKept.next ?_
  refine Kept.ite ?_ ?_
  · exact Kept.refl _ _
  · extract_lets +onlyGivenNames -merge -underBinder x2
    have h2 : Kept 0x2262002002038 s x2 := by
      unfold x2
      refine Kept.step ?_ (State.scrubBack_kept _ _)
      exact Kept.refl _ _
    clear_value x2
    extract_lets +onlyGivenNames -merge -underBinder x3
    extract_lets +onlyGivenNames -merge -underBinder x4
    extract_lets +onlyGivenNames -merge -underBinder x5
    extract_lets +onlyGivenNames -merge -underBinder x6
    have h6 : Kept 0x2262002002038 s x6 := by
      unfold x6
      split
      ·
        extract_lets +onlyGivenNames -merge -underBinder x7
        have h7 : Kept 0x2262002002038 s x7 := by
          unfold x7
          refine Kept.step ?_ (State.lineRead_kept _ _ _ _ _ _)
          exact h2
        clear_value x7
        refine Kept.step ?_ (State.setStack_kept _ _ _)
        exact h7
      ·
        exact h2
    clear_value x6
    extract_lets +onlyGivenNames -merge -underBinder x8
    extract_lets +onlyGivenNames -merge -underBinder x9
    refine Kept.ite ?_ ?_
    · refine Kept.step ?_ (State.incF_kept _ _ _ _)
      refine Kept.step ?_ (State.wf_kept _ _ _ _)
      refine Kept.step ?_ (State.setStack_kept _ _ _)
      exact h6
    · refine Kept.step ?_ (State.wf_kept _ _ _ _)
      exact h6

theorem execStackTempRead_kept : ∀ a0 a1 s, OutKept 0x242000002008 s (execStackTempRead a0 a1 s) := by
  intro a0 a1 s
  unfold execStackTempRead
  extract_lets +onlyGivenNames -merge -underBinder x1
  extract_lets +onlyGivenNames -merge -underBinder x2
  extract_lets +onlyGivenNames -merge -underBinder x3
  extract_lets +onlyGivenNames -merge -underBinder x4
  refine OutKept.next ?_
  refine Kept.ite ?_ ?_
  · exact Kept.refl _ _
  · split
    ·
      unfold x4
      extract_lets +onlyGivenNames -merge -underBinder x5
      have h5 : Kept 0x242000002008 s x5 := by
        unfold x5
        refine Kept.step ?_ (State.wb_kept _ _ _ _)
        refine Kept.step ?_ (State.wb_kept _ _ _ _)
        refine Kept.step ?_ (State.wf_kept _ _ _ _)
        exact Kept.refl _ _
      clear_value x5
      refine Kept.step ?_ (State.postOver_kept _ _ _ _ _ _ _)
      refine Kept.step ?_ (State.setStack_kept _ _ _)
      exact h5
    ·
      extract_lets +onlyGivenNames -merge -underBinder x6
      have h6 : Kept 0x242000002008 s x6 := by
        unfold x6
        refine Kept.step ?_ (State.wf_kept _ _ _ _)
        exact Kept.refl _ _
      clear_value x6
      refine Kept.ite ?_ ?_
      · unfold x4
        extract_lets +onlyGivenNames -merge -underBinder x7
        have h7 : Kept 0x242000002008 s x7 := by
          unfold x7
          refine Kept.step ?_ (State.wb_kept _ _ _ _)
          refine Kept.step ?_ (State.wb_kept _ _ _ _)
          refine Kept.step ?_ (State.wf_kept _ _ _ _)
          exact h6
        clear_value x7
        refine Kept.step ?_ (State.postOver_kept _ _ _ _ _ _ _)
        refine Kept.step ?_ (State.setStack_kept _ _ _)
        exact h7
      · extract_lets +onlyGivenNames -merge -underBinder x8
        extract_lets +onlyGivenNames -merge -underBinder x9
        extract_lets +onlyGivenNames -merge -underBinder x10
        extract_lets +onlyGivenNames -merge -underBinder x11
        have h11 : Kept 0x242000002008 s x11 := by
          unfold x11
          refine Kept.step ?_ (State.wb_kept _ _ _ _)
          refine Kept.step ?_ (State.wb_kept _ _ _ _)
          refine Kept.step ?_ (State.wf_kept _ _ _ _)
          exact h6
        clear_value x11
        extract_lets +onlyGivenNames -merge -underBinder x12
        have h12 : Kept 0x242000002008 s x12 := by
          unfold x12
          refine Kept.step ?_ (State.setStack_kept _ _ _)
          exact h11
        clear_value x12
        refine Kept.ite ?_ ?_
        · refine Kept.step ?_ (State.postLim_kept _ _ _ _ _ _ _ _ _ _)
          exact h12
        · exact h12

theorem State.copyRead_kept : ∀ s a1 a2 a3, Kept 0x2262002002038 s (State.copyRead s a1 a2 a3) := by
  intro s a d r
  unfold State.copyRead
  extract_lets +onlyGivenNames -merge -underBinder t
  have h : Kept 0x2262002002038 s t := Kept.step (Kept.refl _ _) (State.lineRead_kept _ _ _ _ _ _)
  clear_value t
  refine Kept.ite ⟨fun p hp => ?_, fun hs => ?_⟩ h
  · have := h.1 p hp
    revert this
    cases p <;> first | exact id | exact fun _ => rfl
  · have ht := h.2 hs
    refine ⟨?_, ht.2⟩
    constructor
    case mem => exact hs.mem
    case marks => exact hs.marks
    all_goals first | exact ht.1.regs | exact ht.1.heldLow | exact ht.1.hostMem | exact ht.1.accMem | exact ht.1.chkMem | exact ht.1.rowState | exact ht.1.lathes | exact ht.1.groups | exact ht.1.engines | exact ht.1.descs | exact ht.1.waiters | exact ht.1.hbmStacks | exact ht.1.rdc | exact ht.1.ports | exact ht.1.mcMsgs | exact ht.1.bypCause | exact ht.1.hist | exact ht.1.histFlash | exact ht.1.loops | exact ht.1.cores | exact ht.1.trims | exact ht.1.convs | exact ht.1.cals | exact ht.1.calFlash | exact ht.1.rails | exact ht.1.fws | exact ht.1.hostBad | exact ht.1.evtQs | exact ht.1.msixTable | exact ht.1.msixPending | exact ht.1.owners | exact ht.1.ctrs

theorem State.placeRetired_kept : ∀ s a1 a2 a3, Kept 0x2006008 s (State.placeRetired s a1 a2 a3) := by
  intro s a1 a2 a3
  unfold State.placeRetired
  extract_lets +onlyGivenNames -merge -underBinder x1 x2
  have h2 : Kept 0x2006008 s x2 := by
    unfold x2
    refine Kept.step ?_ (State.setStack_kept _ _ _)
    refine Kept.step ?_ (State.wf_kept _ _ _ _)
    exact Kept.refl _ _
  clear_value x2
  extract_lets +onlyGivenNames -merge -underBinder x3
  have h3 : Kept 0x2006008 s x3 := by
    unfold x3
    refine Kept.step ?_ (State.wr_kept _ _ _)
    exact h2
  clear_value x3
  extract_lets +onlyGivenNames -merge -underBinder x4
  have h4 : Kept 0x2006008 s x4 := by
    unfold x4
    refine Kept.step ?_ (State.replaced_kept _ _ _ _ _)
    refine Kept.step ?_ (State.wf_kept _ _ _ _)
    exact h3
  clear_value x4
  extract_lets +onlyGivenNames -merge -underBinder x5
  refine Kept.foldl ?_ (fun _ _ h6 => ?_)
  · refine Kept.step ?_ (State.setRdc_kept _ _ _)
    exact h4
  · refine Kept.step ?_ (State.enqueueRed_kept _ _ _)
    exact h6

theorem execRetireEnd_kept : ∀ a0 a1 s, OutKept 0x2262002006038 s (execRetireEnd a0 a1 s) := by
  intro a0 a1 s
  unfold execRetireEnd
  refine OutKept.next ?_
  split
  ·
    exact Kept.refl _ _
  ·
    extract_lets +onlyGivenNames -merge -underBinder x1
    extract_lets +onlyGivenNames -merge -underBinder x2
    extract_lets +onlyGivenNames -merge -underBinder x3
    extract_lets +onlyGivenNames -merge -underBinder x4
    have h4 : Kept 0x2262002006038 s x4 := by
      unfold x4
      refine Kept.foldl ?_ (fun _ _ h5 => ?_)
      · refine Kept.step ?_ (State.bump_kept _ _ _)
        exact Kept.refl _ _
      · extract_lets +onlyGivenNames -merge -underBinder x6
        refine Kept.ite ?_ ?_
        · refine Kept.step ?_ (State.copyRead_kept _ _ _ _)
          exact h5
        · exact h5
    clear_value x4
    extract_lets +onlyGivenNames -merge -underBinder x7
    extract_lets +onlyGivenNames -merge -underBinder x8
    have h8 : Kept 0x2262002006038 s x8 := by
      unfold x8
      refine Kept.step ?_ (State.wb_kept _ _ _ _)
      refine Kept.step ?_ (State.wb_kept _ _ _ _)
      refine Kept.step ?_ (State.placeRetired_kept _ _ _ _)
      exact h4
    clear_value x8
    refine Kept.step ?_ (State.post_kept _ _ _ _ _ _)
    refine Kept.step ?_ (State.wf_kept _ _ _ _)
    exact h8

end Sys2Proof.Machine
end

