-- ==== Sys2Proof/Laws/FramePackets.lean ====
section
/-! SUPPORT. What each operation of `Machine/Packets.lean` may change: one lemma each, the parts it may change as a mask of `Part.no` bits. -/
set_option linter.unusedVariables false
set_option Elab.async false
namespace Sys2Proof.Machine

theorem State.atTarget_kept {M : Nat} {s y : State} {p : Fin 16} {pk : Packet} {typ : PacketType} {f : State → State} (h : Kept M s y)
    (hm : 0x200008 ||| M = M) (hf : ∀ z, Kept M s z → Kept M s (f z)) : Kept M s (y.atTarget p pk typ f) := by
  unfold State.atTarget
  split
  · exact h
  · split
    next z q => exact Kept.snd q (Kept.step h (State.receive_kept _ _ _) hm)
    next z q => exact hf _ (Kept.snd q (Kept.step h (State.receive_kept _ _ _) hm))

theorem State.packetParity_kept : ∀ s a1 a2 a3 a4 a5, Kept 0x242000000008 s (State.packetParity s a1 a2 a3 a4 a5) := by
  intro s a1 a2 a3 a4 a5
  unfold State.packetParity
  split
  ·
    refine Kept.ite ?_ ?_
    · refine Kept.step ?_ (State.wayParity_kept _ _ _ _ _)
      exact Kept.refl _ _
    · exact Kept.refl _ _
  ·
    exact Kept.refl _ _

theorem State.portUnmapped_kept : ∀ s a1 a2 a3, Kept 0x242000000008 s (State.portUnmapped s a1 a2 a3) := by
  intro s a1 a2 a3
  unfold State.portUnmapped
  refine Kept.step ?_ (State.unmappedEvent_kept _ _ _ _ _)
  exact Kept.refl _ _

theorem execFabricRead_kept : ∀ a0 a1 a2 s, OutKept 0x242000200008 s (execFabricRead a0 a1 a2 s) := by
  intro a0 a1 a2 s
  unfold execFabricRead
  extract_lets +onlyGivenNames -merge -underBinder x1
  extract_lets +onlyGivenNames -merge -underBinder x2
  refine OutKept.next ?_
  refine State.atTarget_kept ?_ (by decide) (fun _ h3 => ?_)
  · exact Kept.refl _ _
  · split
    ·
      extract_lets +onlyGivenNames -merge -underBinder x4
      have h4 : Kept 0x242000200008 s x4 := by
        unfold x4
        refine Kept.step ?_ (State.packetParity_kept _ _ _ _ _ _)
        exact h3
      clear_value x4
      extract_lets +onlyGivenNames -merge -underBinder x5
      extract_lets +onlyGivenNames -merge -underBinder x6
      refine Kept.step ?_ (State.complReply_kept _ _ _ _ _)
      refine Kept.step ?_ (State.countInf_kept _ _ _ _)
      refine Kept.step ?_ (State.countMarks_kept _ _ _)
      exact h4
    ·
      refine Kept.step ?_ (State.complReply_kept _ _ _ _ _)
      refine Kept.step ?_ (State.portUnmapped_kept _ _ _ _)
      exact h3
    ·
      refine Kept.step ?_ (State.complReply_kept _ _ _ _ _)
      exact h3
    ·
      refine Kept.step ?_ (State.complReply_kept _ _ _ _ _)
      exact h3

theorem State.writeLines_kept : ∀ s a1 a2, Kept 0x20000002038 s (State.writeLines s a1 a2) := by
  intro s a1 a2
  unfold State.writeLines
  refine Kept.step ?_ (State.countInf_kept _ _ _ _)
  refine Kept.foldl ?_ (fun _ _ h1 => ?_)
  · exact Kept.refl _ _
  · refine Kept.step ?_ (State.putLine_kept _ _ _ _)
    exact h1

theorem execFabricWrite_kept : ∀ a0 a1 a2 s, OutKept 0x262000202038 s (execFabricWrite a0 a1 a2 s) := by
  intro a0 a1 a2 s
  unfold execFabricWrite
  extract_lets +onlyGivenNames -merge -underBinder x1
  refine OutKept.next ?_
  refine State.atTarget_kept ?_ (by decide) (fun _ h2 => ?_)
  · exact Kept.refl _ _
  · split
    ·
      extract_lets +onlyGivenNames -merge -underBinder x3
      refine Kept.step ?_ (State.complReply_kept _ _ _ _ _)
      refine Kept.step ?_ (State.writeLines_kept _ _ _)
      refine Kept.step ?_ (State.packetParity_kept _ _ _ _ _ _)
      exact h2
    ·
      refine Kept.step ?_ (State.complReply_kept _ _ _ _ _)
      refine Kept.step ?_ (State.portUnmapped_kept _ _ _ _)
      exact h2
    ·
      refine Kept.step ?_ (State.complReply_kept _ _ _ _ _)
      exact h2
    ·
      refine Kept.step ?_ (State.complReply_kept _ _ _ _ _)
      exact h2

theorem execFabricReduce_kept : ∀ a0 a1 s, OutKept 0x242000206018 s (execFabricReduce a0 a1 s) := by
  intro a0 a1 s
  unfold execFabricReduce
  extract_lets +onlyGivenNames -merge -underBinder x1
  extract_lets +onlyGivenNames -merge -underBinder x2
  extract_lets +onlyGivenNames -merge -underBinder x3
  refine OutKept.next ?_
  refine State.atTarget_kept ?_ (by decide) (fun _ h4 => ?_)
  · exact Kept.refl _ _
  · split
    ·
      refine Kept.foldl ?_ (fun _ _ h5 => ?_)
      · exact h4
      · refine Kept.step ?_ (State.enqueueRed_kept _ _ _)
        exact h5
    ·
      refine Kept.ite ?_ ?_
      · refine Kept.step ?_ (State.complReply_kept _ _ _ _ _)
        refine Kept.step ?_ (State.poisonRange_kept _ _ _ _ _ _)
        exact h4
      · refine Kept.step ?_ (State.complReply_kept _ _ _ _ _)
        refine Kept.step ?_ (State.portUnmapped_kept _ _ _ _)
        exact h4
    ·
      refine Kept.step ?_ (State.complReply_kept _ _ _ _ _)
      exact h4
    ·
      refine Kept.step ?_ (State.complReply_kept _ _ _ _ _)
      exact h4
    ·
      refine Kept.step ?_ (State.complReply_kept _ _ _ _ _)
      refine Kept.step ?_ (State.portUnmapped_kept _ _ _ _)
      exact h4

theorem execFabricSignal_kept : ∀ a0 a1 s, OutKept 0x242000201408 s (execFabricSignal a0 a1 s) := by
  intro a0 a1 s
  unfold execFabricSignal
  extract_lets +onlyGivenNames -merge -underBinder x1
  extract_lets +onlyGivenNames -merge -underBinder x2
  refine OutKept.next ?_
  refine State.atTarget_kept ?_ (by decide) (fun _ h3 => ?_)
  · exact Kept.refl _ _
  · refine Kept.ite ?_ ?_
    · refine Kept.step ?_ (State.complReply_kept _ _ _ _ _)
      refine Kept.step ?_ (State.semMisuseEvent_kept _ _ _)
      exact h3
    · split
      next y4 q4 =>
        have h4 : Kept 0x242000201408 s y4 := Kept.snd q4 (by
          refine Kept.step ?_ (State.addSem_kept _ _ _ _ _)
          refine Kept.step ?_ (State.bump_kept _ _ _)
          exact h3)
        refine Kept.step ?_ (State.complReply_kept _ _ _ _ _)
        exact h4

theorem execMcastWrite_kept : ∀ a0 a1 s, OutKept 0x262000202038 s (execMcastWrite a0 a1 s) := by
  intro a0 a1 s
  unfold execMcastWrite
  extract_lets +onlyGivenNames -merge -underBinder x1
  refine OutKept.next ?_
  refine State.atTarget_kept ?_ (by decide) (fun _ h2 => ?_)
  · exact Kept.refl _ _
  · split
    ·
      refine Kept.step ?_ (State.complReply_kept _ _ _ _ _)
      refine Kept.step ?_ (State.writeLines_kept _ _ _)
      exact h2
    ·
      refine Kept.step ?_ (State.complReply_kept _ _ _ _ _)
      refine Kept.step ?_ (State.portUnmapped_kept _ _ _ _)
      exact h2
    ·
      refine Kept.step ?_ (State.complReply_kept _ _ _ _ _)
      exact h2

end Sys2Proof.Machine
end

