-- ==== Sys2Proof/Laws/FrameRails.lean ====
section
/-! SUPPORT. What each operation of `Machine/Rails.lean` may change: one lemma each, the parts it may change as a mask of `Part.no` bits. -/
set_option linter.unusedVariables false
set_option Elab.async false
namespace Sys2Proof.Machine

theorem execHistRead_kept : ∀ s, OutKept 0x8 s (execHistRead s) := by
  intro s
  unfold execHistRead
  refine State.atBlock_kept _ (by decide) (fun s0 h0 => ?_)
  refine OutKept.next ?_
  split
  ·
    refine Kept.step ?_ (State.wb_kept _ _ _ _)
    refine Kept.step ?_ (State.wb_kept _ _ _ _)
    exact h0
  ·
    extract_lets +onlyGivenNames -merge -underBinder x1
    have h1 : Kept 0x8 s x1 := by
      unfold x1
      refine Kept.foldl ?_ (fun _ _ h2 => ?_)
      · exact h0
      · refine Kept.step ?_ (State.wr_kept _ _ _)
        exact h2
    clear_value x1
    refine Kept.step ?_ (State.wb_kept _ _ _ _)
    refine Kept.step ?_ (State.wb_kept _ _ _ _)
    exact h1

theorem execHistClear_kept : ∀ s, OutKept 0x2000008 s (execHistClear s) := by
  intro s
  unfold execHistClear
  refine State.atBlock_kept _ (by decide) (fun s0 h0 => ?_)
  refine OutKept.next ?_
  split
  ·
    refine Kept.step ?_ (State.wb_kept _ _ _ _)
    refine Kept.step ?_ (State.wb_kept _ _ _ _)
    exact h0
  ·
    extract_lets +onlyGivenNames -merge -underBinder x1
    extract_lets +onlyGivenNames -merge -underBinder x2
    have h2 : Kept 0x2000008 s x2 := by
      unfold x2
      refine Kept.step ?_ (State.touchHist_kept _ _ _)
      exact h0
    clear_value x2
    extract_lets +onlyGivenNames -merge -underBinder x3
    extract_lets +onlyGivenNames -merge -underBinder x4
    have h4 : Kept 0x2000008 s x4 := by
      unfold x4
      refine Kept.ite ?_ ?_
      · refine Kept.step ?_ (State.wb_kept _ _ _ _)
        exact h2
      · exact h2
    clear_value x4
    refine Kept.step ?_ (State.wb_kept _ _ _ _)
    refine Kept.step ?_ (State.wb_kept _ _ _ _)
    exact h4

theorem State.setRail_kept : ∀ s a1 a2, Kept 0x100000000 s (State.setRail s a1 a2) := by
  intro s a1 a2
  unfold State.setRail
  refine (Kept.upd ?_).kept
  exact Kept.refl _ _

theorem State.forgetSuspects_kept : ∀ s a1 a2, Kept 0x100 s (State.forgetSuspects s a1 a2) := by
  intro s a1 a2
  unfold State.forgetSuspects
  extract_lets +onlyGivenNames -merge -underBinder x1
  refine Kept.foldl ?_ (fun _ _ h2 => ?_)
  · exact Kept.refl _ _
  · refine Kept.step ?_ (State.forgetSymbols_kept _ _ _)
    exact h2

theorem State.railFalls_kept : ∀ s a1, Kept 0x100000108 s (State.railFalls s a1) := by
  intro s a1
  unfold State.railFalls
  extract_lets +onlyGivenNames -merge -underBinder x1
  have h1 : Kept 0x100000108 s x1 := by
    unfold x1
    refine Kept.step ?_ (State.bump_kept _ _ _)
    refine Kept.step ?_ (State.setRail_kept _ _ _)
    exact Kept.refl _ _
  clear_value x1
  extract_lets +onlyGivenNames -merge -underBinder x2
  have h2 : Kept 0x100000108 s x2 := by
    unfold x2
    refine Kept.foldl ?_ (fun _ _ h3 => ?_)
    · exact h1
    · refine Kept.step ?_ (State.incF_kept _ _ _ _)
      refine Kept.ite ?_ ?_
      · exact h3
      · refine Kept.step ?_ (State.wb_kept _ _ _ _)
        exact h3
  clear_value x2
  extract_lets +onlyGivenNames -merge -underBinder x4
  have h4 : Kept 0x100000108 s x4 := by
    unfold x4
    refine Kept.ite ?_ ?_
    · refine Kept.step ?_ (State.bump_kept _ _ _)
      refine Kept.step ?_ (State.wb_kept _ _ _ _)
      exact h2
    · exact h2
  clear_value x4
  refine Kept.foldl ?_ (fun _ _ h5 => ?_)
  · exact h4
  · extract_lets +onlyGivenNames -merge -underBinder x6
    have h6 : Kept 0x100000108 s x6 := by
      unfold x6
      refine Kept.step ?_ (State.forgetSuspects_kept _ _ _)
      exact h5
    clear_value x6
    refine Kept.ite ?_ ?_
    · refine Kept.step ?_ (State.modLathe_kept _ _ _)
      exact h6
    · exact h6

theorem execRailBelowWarning_kept : ∀ a0 s, OutKept 0x100000108 s (execRailBelowWarning a0 s) := by
  intro a0 s
  unfold execRailBelowWarning
  refine OutKept.next ?_
  refine Kept.ite ?_ ?_
  · exact Kept.refl _ _
  · refine Kept.step ?_ (State.railFalls_kept _ _)
    exact Kept.refl _ _

theorem State.suspectDip_kept : ∀ s a1 a2 a3, Kept 0x2252100727f38 s (State.suspectDip s a1 a2 a3) := by
  intro s a1 a2 a3
  unfold State.suspectDip
  extract_lets +onlyGivenNames -merge -underBinder x1
  split
  ·
    extract_lets +onlyGivenNames -merge -underBinder x2
    extract_lets +onlyGivenNames -merge -underBinder x3
    extract_lets +onlyGivenNames -merge -underBinder x4
    have h4 : Kept 0x2252100727f38 s x4 := by
      unfold x4
      refine Kept.foldl ?_ (fun _ _ h5 => ?_)
      · exact Kept.refl _ _
      · extract_lets +onlyGivenNames -merge -underBinder x6
        have h6 : Kept 0x2252100727f38 s x6 := by
          unfold x6
          refine Kept.step ?_ (State.modDip_kept _ _ _)
          refine Kept.step ?_ (State.suspect_kept _ _ _)
          exact h5
        clear_value x6
        extract_lets +onlyGivenNames -merge -underBinder x7
        refine Kept.ite ?_ ?_
        · refine Kept.step ?_ (State.suspectPoison_kept _ _ _ _)
          exact h6
        · refine Kept.step ?_ (State.modLathe_kept _ _ _)
          refine Kept.step ?_ (State.moreVerdict_kept _ _ _)
          exact h6
    clear_value x4
    refine Kept.ite ?_ ?_
    · refine Kept.step ?_ (State.beginArbs_kept _ _ _)
      exact h4
    · exact h4

theorem execRailRecovered_kept : ∀ a0 s, OutKept 0x225215a727f38 s (execRailRecovered a0 s) := by
  intro a0 s
  unfold execRailRecovered
  extract_lets +onlyGivenNames -merge -underBinder x1
  extract_lets +onlyGivenNames -merge -underBinder x2
  refine OutKept.next ?_
  refine Kept.ite ?_ ?_
  · exact Kept.refl _ _
  · extract_lets +onlyGivenNames -merge -underBinder x3
    have h3 : Kept 0x225215a727f38 s x3 := by
      unfold x3
      refine Kept.step ?_ (State.setRail_kept _ _ _)
      exact Kept.refl _ _
    clear_value x3
    extract_lets +onlyGivenNames -merge -underBinder x4
    have h4 : Kept 0x225215a727f38 s x4 := by
      unfold x4
      refine Kept.ite ?_ ?_
      · refine Kept.step ?_ (State.wb_kept _ _ _ _)
        exact h3
      · refine Kept.foldl ?_ (fun _ _ h5 => ?_)
        · exact h3
        · refine Kept.step ?_ (State.wb_kept _ _ _ _)
          exact h5
    clear_value x4
    extract_lets +onlyGivenNames -merge -underBinder x6
    have h6 : Kept 0x225215a727f38 s x6 := by
      unfold x6
      refine Kept.foldl ?_ (fun _ _ h7 => ?_)
      · exact h4
      · refine Kept.ite ?_ ?_
        · exact h7
        · refine Kept.step ?_ (State.modLathe_kept _ _ _)
          exact h7
    clear_value x6
    refine Kept.ite ?_ ?_
    · exact h6
    · extract_lets +onlyGivenNames -merge -underBinder x8
      extract_lets +onlyGivenNames -merge -underBinder x9
      have h9 : Kept 0x225215a727f38 s x9 := by
        unfold x9
        refine (Kept.upd ?_).kept
        exact h6
      clear_value x9
      extract_lets +onlyGivenNames -merge -underBinder x10
      have h10 : Kept 0x225215a727f38 s x10 := by
        unfold x10
        refine Kept.foldl ?_ (fun _ _ h11 => ?_)
        · exact h9
        · refine Kept.step ?_ (State.suspectDip_kept _ _ _ _)
          exact h11
      clear_value x10
      extract_lets +onlyGivenNames -merge -underBinder x12
      refine Kept.step ?_ (State.settleDips_kept _)
      refine Kept.foldl ?_ (fun _ _ h13 => ?_)
      · exact h10
      · refine Kept.step ?_ (State.dipCal_kept _ _)
        exact h13

theorem State.railFails_kept : ∀ s a1 a2, Kept 0x3bf67fbfffffc s (State.railFails s a1 a2) := by
  intro s a1 a2
  unfold State.railFails
  extract_lets +onlyGivenNames -merge -underBinder x1
  extract_lets +onlyGivenNames -merge -underBinder x2
  extract_lets +onlyGivenNames -merge -underBinder x3
  extract_lets +onlyGivenNames -merge -underBinder x4
  have h4 : Kept 0x3bf67fbfffffc s x4 := by
    unfold x4
    refine Kept.foldl ?_ (fun _ _ h5 => ?_)
    · exact Kept.refl _ _
    · refine Kept.foldl ?_ (fun _ _ h6 => ?_)
      · exact h5
      · refine Kept.step ?_ (State.suspect_kept _ _ _)
        exact h6
  clear_value x4
  extract_lets +onlyGivenNames -merge -underBinder x7
  have h7 : Kept 0x3bf67fbfffffc s x7 := by
    unfold x7
    refine Kept.step ?_ (State.supplyDip_kept _ _ _ _ _ _)
    refine Kept.step ?_ (State.setRail_kept _ _ _)
    exact h4
  clear_value x7
  refine Kept.ite ?_ ?_
  · refine Kept.step ?_ (State.powerLoss_kept _)
    exact h7
  · refine Kept.ite ?_ ?_
    · refine Kept.step ?_ (State.deviceHold_kept _)
      exact h7
    · refine Kept.ite ?_ ?_
      · refine Kept.ite ?_ ?_
        · exact h7
        · refine Kept.step ?_ (State.dropLathe_kept _ _ _ _)
          exact h7
      · refine Kept.ite ?_ ?_
        · refine Kept.step ?_ (State.ventDomainReset_kept _)
          exact h7
        · refine Kept.step ?_ (State.domainReset_kept _ _ _)
          exact h7

theorem execRailWarningTimeout_kept : ∀ a0 s, OutKept 0x3bf67fbfffffc s (execRailWarningTimeout a0 s) := by
  intro a0 s
  unfold execRailWarningTimeout
  extract_lets +onlyGivenNames -merge -underBinder x1
  refine OutKept.next ?_
  refine Kept.ite ?_ ?_
  · exact Kept.refl _ _
  · refine Kept.step ?_ (State.railFails_kept _ _ _)
    exact Kept.refl _ _

theorem execRailResetLevel_kept : ∀ a0 s, OutKept 0x3bf67fbfffffc s (execRailResetLevel a0 s) := by
  intro a0 s
  unfold execRailResetLevel
  extract_lets +onlyGivenNames -merge -underBinder x1
  refine OutKept.next ?_
  refine Kept.ite ?_ ?_
  · exact Kept.refl _ _
  · refine Kept.ite ?_ ?_
    · refine Kept.ite ?_ ?_
      · refine Kept.step ?_ (State.powerLoss_kept _)
        exact Kept.refl _ _
      · exact Kept.refl _ _
    · refine Kept.step ?_ (State.railFails_kept _ _ _)
      refine Kept.ite ?_ ?_
      · exact Kept.refl _ _
      · refine Kept.step ?_ (State.railFalls_kept _ _)
        exact Kept.refl _ _

theorem execPermanentClassing_kept : ∀ a0 s, OutKept 0x225215a727f38 s (execPermanentClassing a0 s) := by
  intro a0 s
  unfold execPermanentClassing
  extract_lets +onlyGivenNames -merge -underBinder x1
  refine OutKept.next ?_
  refine Kept.ite ?_ ?_
  · exact Kept.refl _ _
  · extract_lets +onlyGivenNames -merge -underBinder x2
    have h2 : Kept 0x225215a727f38 s x2 := by
      unfold x2
      refine Kept.step ?_ (State.classPermanent_kept _ _ _ _ _)
      exact Kept.refl _ _
    clear_value x2
    refine Kept.ite ?_ ?_
    · refine Kept.step ?_ (State.post_kept _ _ _ _ _ _)
      refine Kept.step ?_ (State.wb_kept _ _ _ _)
      exact h2
    · refine Kept.ite ?_ ?_
      · split
        ·
          refine Kept.ite ?_ ?_
          · exact h2
          · refine Kept.step ?_ (State.laserGone_kept _ _ _ _)
            refine Kept.step ?_ (State.wf_kept _ _ _ _)
            exact h2
        ·
          exact h2
      · refine Kept.ite ?_ ?_
        · split
          ·
            refine Kept.step ?_ (State.substCheck_kept _ _ _ _ _)
            exact h2
          ·
            exact h2
        · exact h2

theorem execHistoryFlashWriteEnd_kept : ∀ s, OutKept 0x6000000 s (execHistoryFlashWriteEnd s) := by
  intro s
  unfold execHistoryFlashWriteEnd
  refine OutKept.next (Kept.ite ?_ (Kept.refl _ _))
  refine (Kept.upd (Kept.refl _ _) (hk := fun hh => ?_)).kept
  constructor
  case hist => exact hh.hist
  case histFlash => exact hh.hist
  all_goals first | exact hh.regs | exact hh.heldLow | exact hh.mem | exact hh.marks | exact hh.hostMem | exact hh.accMem | exact hh.chkMem | exact hh.rowState | exact hh.lathes | exact hh.groups | exact hh.engines | exact hh.descs | exact hh.waiters | exact hh.hbmStacks | exact hh.rdc | exact hh.ports | exact hh.mcMsgs | exact hh.bypCause | exact hh.hist | exact hh.histFlash | exact hh.loops | exact hh.cores | exact hh.trims | exact hh.convs | exact hh.cals | exact hh.calFlash | exact hh.rails | exact hh.fws | exact hh.hostBad | exact hh.evtQs | exact hh.msixTable | exact hh.msixPending | exact hh.owners | exact hh.ctrs

end Sys2Proof.Machine
end

