-- ==== Sys2Proof/Laws/FrameRecovery.lean ====
section
/-! SUPPORT. What each operation of `Machine/Recovery.lean` may change: one lemma each, the parts it may change as a mask of `Part.no` bits. -/
set_option linter.unusedVariables false
set_option Elab.async false
namespace Sys2Proof.Machine

theorem State.recoveryOver_kept : ∀ s, Kept 0xa4e220800008 s (State.recoveryOver s) := by
  intro s
  unfold State.recoveryOver
  extract_lets +onlyGivenNames -merge -underBinder x1
  have h1 : Kept 0xa4e220800008 s x1 := by
    unfold x1
    refine (Kept.upd ?_).kept
    exact Kept.refl _ _
  clear_value x1
  refine Kept.ite ?_ ?_
  · refine Kept.step ?_ (State.bootChain_kept _)
    refine Kept.step ?_ (State.beginStart_kept _ _ _)
    exact h1
  · refine Kept.step ?_ (State.boot150_kept _)
    refine Kept.step ?_ (State.beginStart_kept _ _ _)
    exact h1

theorem execRecoveryImage_kept : ∀ a0 a1 a2 s, OutKept 0xa4e220800008 s (execRecoveryImage a0 a1 a2 s) := by
  intro a0 a1 a2 s
  unfold execRecoveryImage
  refine OutKept.next ?_
  refine Kept.ite ?_ ?_
  · exact Kept.refl _ _
  · extract_lets +onlyGivenNames -merge -underBinder x1
    extract_lets +onlyGivenNames -merge -underBinder x2
    have h2 : Kept 0xa4e220800008 s x2 := by
      unfold x2
      refine (Kept.upd ?_).kept
      exact Kept.refl _ _
    clear_value x2
    extract_lets +onlyGivenNames -merge -underBinder x3 x4
    have h4 : Kept 0xa4e220800008 s x4 := by
      unfold x4
      refine Kept.ite ?_ ?_
      · exact h2
      · refine Kept.step ?_ (State.setFw_kept _ _ _)
        exact h2
    clear_value x4
    refine Kept.ite ?_ ?_
    · exact h4
    · refine Kept.step ?_ (State.recoveryOver_kept _)
      exact h4

theorem execRecNRelease_kept : ∀ s, OutKept 0xe4e220800008 s (execRecNRelease s) := by
  intro s
  unfold execRecNRelease
  extract_lets +onlyGivenNames -merge -underBinder x1
  have h1 : Kept 0xe4e220800008 s x1 := by
    unfold x1
    refine (Kept.upd ?_).kept
    exact Kept.refl _ _
  clear_value x1
  refine OutKept.next ?_
  refine Kept.ite ?_ ?_
  · exact h1
  · refine Kept.step ?_ (State.recoveryOver_kept _)
    exact h1

end Sys2Proof.Machine
end

