-- ==== Sys2Proof/Laws/FrameReducers.lean ====
section
/-! SUPPORT. What each operation of `Machine/Reducers.lean` may change: one lemma each, the parts it may change as a mask of `Part.no` bits. -/
set_option linter.unusedVariables false
set_option Elab.async false
namespace Sys2Proof.Machine

theorem State.settleRemote_kept : ∀ s a1 a2, Kept 0x204008 s (State.settleRemote s a1 a2) := by
  intro s a1 a2
  unfold State.settleRemote
  split
  ·
    exact Kept.refl _ _
  ·
    extract_lets +onlyGivenNames -merge -underBinder x1
    extract_lets +onlyGivenNames -merge -underBinder x2
    refine Kept.ite ?_ ?_
    · refine (Kept.upd ?_).kept
      exact Kept.refl _ _
    · refine Kept.step ?_ (State.complReply_kept _ _ _ _ _)
      exact Kept.refl _ _

theorem State.applyRed_kept : ∀ s a1 a2, Kept 0x262000226438 s (State.applyRed s a1 a2) := by
  intro s a1 a2
  unfold State.applyRed
  extract_lets +onlyGivenNames -merge -underBinder x1
  extract_lets +onlyGivenNames -merge -underBinder x2
  extract_lets +onlyGivenNames -merge -underBinder x3
  refine Kept.ite ?_ ?_
  · extract_lets +onlyGivenNames -merge -underBinder x4
    extract_lets +onlyGivenNames -merge -underBinder x5
    have h5 : Kept 0x262000226438 s x5 := by
      unfold x5
      refine Kept.step ?_ (State.unmappedEvent_kept _ _ _ _ _)
      exact Kept.refl _ _
    clear_value x5
    extract_lets +onlyGivenNames -merge -underBinder x6
    refine Kept.step ?_ (State.settleStage_kept _ _)
    refine Kept.step ?_ (State.settleRemote_kept _ _ _)
    exact h5
  · extract_lets +onlyGivenNames -merge -underBinder x7
    extract_lets +onlyGivenNames -merge -underBinder x8
    extract_lets +onlyGivenNames -merge -underBinder x9
    have h9 : Kept 0x262000226438 s x9 := by
      unfold x9
      refine Kept.step ?_ (State.bump_kept _ _ _)
      exact Kept.refl _ _
    clear_value x9
    split
    ·
      extract_lets +onlyGivenNames -merge -underBinder x10
      have h10 : Kept 0x262000226438 s x10 := by
        unfold x10
        refine Kept.ite ?_ ?_
        · refine Kept.step ?_ (State.markLine_kept _ _)
          exact h9
        · refine Kept.step ?_ (State.putLine_kept _ _ _ _)
          exact h9
      clear_value x10
      extract_lets +onlyGivenNames -merge -underBinder x11
      have h11 : Kept 0x262000226438 s x11 := by
        unfold x11
        refine Kept.step ?_ (State.bump_kept _ _ _)
        refine Kept.step ?_ (State.bump_kept _ _ _)
        refine Kept.step ?_ (State.countLine_kept _ _ _)
        exact h10
      clear_value x11
      extract_lets +onlyGivenNames -merge -underBinder x12
      have h12 : Kept 0x262000226438 s x12 := by
        unfold x12
        refine Kept.step ?_ (State.bump_kept _ _ _)
        exact h11
      clear_value x12
      extract_lets +onlyGivenNames -merge -underBinder x13
      have h13 : Kept 0x262000226438 s x13 := by
        unfold x13
        refine Kept.step ?_ (State.postLim_kept _ _ _ _ _ _ _ _ _ _)
        exact h12
      clear_value x13
      extract_lets +onlyGivenNames -merge -underBinder x14
      have h14 : Kept 0x262000226438 s x14 := by
        unfold x14
        refine Kept.ite ?_ ?_
        · refine Kept.step ?_ (State.usePoison_kept _ _ _ _ _ _)
          exact h13
        · exact h13
      clear_value x14
      refine Kept.step ?_ (State.settleStage_kept _ _)
      refine Kept.step ?_ (State.settleRemote_kept _ _ _)
      exact h14

theorem State.runRed_kept : ∀ s a1 a2 a3, Kept 0x262000226438 s (State.runRed s a1 a2 a3) := by
  intro s a1 a2 a3
  unfold State.runRed
  split
  ·
    exact Kept.refl _ _
  ·
    refine Kept.ite ?_ ?_
    · extract_lets +onlyGivenNames -merge -underBinder x1
      have h1 : Kept 0x262000226438 s x1 := by
        unfold x1
        refine Kept.step ?_ (State.setRdc_kept _ _ _)
        exact Kept.refl _ _
      clear_value x1
      extract_lets +onlyGivenNames -merge -underBinder x2
      refine Kept.ite ?_ ?_
      · refine Kept.step ?_ (State.applyRed_kept _ _ _)
        refine Kept.step ?_ (State.pathParity_kept _ _ _ _ _ _)
        exact h1
      · refine Kept.step ?_ (State.applyRed_kept _ _ _)
        exact h1
    · exact Kept.refl _ _

theorem execAdd_kept : ∀ a0 a1 s, OutKept 0x262000226438 s (execAdd a0 a1 s) := by
  intro a0 a1 s
  unfold execAdd
  refine OutKept.next ?_
  refine Kept.step ?_ (State.runRed_kept _ _ _ _)
  exact Kept.refl _ _

theorem execMax_kept : ∀ a0 a1 s, OutKept 0x262000226438 s (execMax a0 a1 s) := by
  intro a0 a1 s
  unfold execMax
  refine OutKept.next ?_
  refine Kept.step ?_ (State.runRed_kept _ _ _ _)
  exact Kept.refl _ _

theorem execMin_kept : ∀ a0 a1 s, OutKept 0x262000226438 s (execMin a0 a1 s) := by
  intro a0 a1 s
  unfold execMin
  refine OutKept.next ?_
  refine Kept.step ?_ (State.runRed_kept _ _ _ _)
  exact Kept.refl _ _

theorem execXor_kept : ∀ a0 a1 s, OutKept 0x262000226438 s (execXor a0 a1 s) := by
  intro a0 a1 s
  unfold execXor
  refine OutKept.next ?_
  refine Kept.step ?_ (State.runRed_kept _ _ _ _)
  exact Kept.refl _ _

theorem execMaxIdx_kept : ∀ a0 a1 s, OutKept 0x262000226438 s (execMaxIdx a0 a1 s) := by
  intro a0 a1 s
  unfold execMaxIdx
  refine OutKept.next ?_
  refine Kept.step ?_ (State.runRed_kept _ _ _ _)
  exact Kept.refl _ _

theorem execMinIdx_kept : ∀ a0 a1 s, OutKept 0x262000226438 s (execMinIdx a0 a1 s) := by
  intro a0 a1 s
  unfold execMinIdx
  refine OutKept.next ?_
  refine Kept.step ?_ (State.runRed_kept _ _ _ _)
  exact Kept.refl _ _

theorem execReducerWrite_kept : ∀ a0 a1 s, OutKept 0x262000226438 s (execReducerWrite a0 a1 s) := by
  intro a0 a1 s
  unfold execReducerWrite
  refine OutKept.next ?_
  refine Kept.step ?_ (State.runRed_kept _ _ _ _)
  exact Kept.refl _ _

theorem execPoisonMark_kept : ∀ a0 a1 s, OutKept 0x262000226438 s (execPoisonMark a0 a1 s) := by
  intro a0 a1 s
  unfold execPoisonMark
  refine OutKept.next ?_
  refine Kept.step ?_ (State.runRed_kept _ _ _ _)
  exact Kept.refl _ _

end Sys2Proof.Machine
end

