-- ==== Sys2Proof/Laws/FrameTrimOut.lean ====
section
/-! SUPPORT. What each operation of `Machine/TrimOut.lean` may change: one lemma each, the parts it may change as a mask of `Part.no` bits. -/
set_option linter.unusedVariables false
set_option Elab.async false
namespace Sys2Proof.Machine

theorem execScClear_kept : ∀ a0 s, OutKept 0x10000008 s (execScClear a0 s) := by
  intro a0 s
  unfold execScClear
  refine State.atBlock_kept _ (by decide) (fun s0 h0 => ?_)
  extract_lets +onlyGivenNames -merge -underBinder x1
  refine OutKept.next ?_
  refine Kept.ite ?_ ?_
  · refine Kept.step ?_ (State.present_kept _ _ _)
    refine Kept.step ?_ (State.setTrim_kept _ _ _)
    exact h0
  · exact h0

theorem execTrmChPush_kept : ∀ a0 a1 s, OutKept 0x242010000008 s (execTrmChPush a0 a1 s) := by
  intro a0 a1 s
  unfold execTrmChPush
  refine State.atBlock_kept _ (by decide) (fun s0 h0 => ?_)
  refine OutKept.next ?_
  refine Kept.step ?_ (State.pushCode_kept _ _ _)
  exact h0

theorem State.forceClear_kept : ∀ s a1, Kept 0x225215a727f38 s (State.forceClear s a1) := by
  intro s a1
  unfold State.forceClear
  extract_lets +onlyGivenNames -merge -underBinder x1
  have h1 : Kept 0x225215a727f38 s x1 := by
    unfold x1
    refine Kept.foldl ?_ (fun _ _ h2 => ?_)
    · exact Kept.refl _ _
    · refine Kept.step ?_ (State.clearChannel_kept _ _)
      exact h2
  clear_value x1
  extract_lets +onlyGivenNames -merge -underBinder x3
  extract_lets +onlyGivenNames -merge -underBinder x4
  have h4 : Kept 0x225215a727f38 s x4 := by
    unfold x4
    refine Kept.step ?_ (State.post_kept _ _ _ _ _ _)
    exact h1
  clear_value x4
  extract_lets +onlyGivenNames -merge -underBinder x5
  have h5 : Kept 0x225215a727f38 s x5 := by
    unfold x5
    refine Kept.foldl ?_ (fun _ _ h6 => ?_)
    · exact h4
    · refine Kept.step ?_ (State.rejectCal_kept _ _ _)
      exact h6
  clear_value x5
  refine Kept.foldl ?_ (fun _ _ h7 => ?_)
  · exact h5
  · refine Kept.step ?_ (State.modLathe_kept _ _ _)
    refine Kept.step ?_ (State.leaveNow_kept _ _ _ _)
    exact h7

theorem State.releaseClear_kept : ∀ s, Kept 0x225211a727f38 s (State.releaseClear s) := by
  intro s
  unfold State.releaseClear
  extract_lets +onlyGivenNames -merge -underBinder x1
  have h1 : Kept 0x225211a727f38 s x1 := by
    unfold x1
    refine Kept.foldl ?_ (fun _ _ h2 => ?_)
    · exact Kept.refl _ _
    · refine Kept.step ?_ (State.settleLoop_kept _ _)
      refine Kept.step ?_ (State.reinit_kept _ _)
      exact h2
  clear_value x1
  refine Kept.step ?_ (State.post_kept _ _ _ _ _ _)
  exact h1

theorem execTrimTick_kept : ∀ s, OutKept 0x10000008 s (execTrimTick s) := by
  intro s
  unfold execTrimTick
  refine OutKept.next ?_
  refine Kept.ite ?_ ?_
  · exact Kept.refl _ _
  · refine Kept.foldl ?_ (fun _ _ h1 => ?_)
    · exact Kept.refl _ _
    · split
      ·
        refine Kept.step ?_ (State.present_kept _ _ _)
        refine Kept.step ?_ (State.modTrim_kept _ _ _)
        exact h1
      ·
        exact h1

theorem execDeglitchEnd_kept : ∀ a0 s, OutKept 0x10000000 s (execDeglitchEnd a0 s) := by
  intro a0 s
  unfold execDeglitchEnd
  refine OutKept.next ?_
  refine Kept.step ?_ (State.modTrim_kept _ _ _)
  exact Kept.refl _ _

theorem execShortLimitExpiry_kept : ∀ a0 s, OutKept 0x225211a727f38 s (execShortLimitExpiry a0 s) := by
  intro a0 s
  unfold execShortLimitExpiry
  extract_lets +onlyGivenNames -merge -underBinder x1
  refine OutKept.next ?_
  refine Kept.ite ?_ ?_
  · exact Kept.refl _ _
  · extract_lets +onlyGivenNames -merge -underBinder x2
    have h2 : Kept 0x225211a727f38 s x2 := by
      unfold x2
      refine Kept.step ?_ (State.bump_kept _ _ _)
      refine Kept.step ?_ (State.setTrim_kept _ _ _)
      exact Kept.refl _ _
    clear_value x2
    extract_lets +onlyGivenNames -merge -underBinder x3
    have h3 : Kept 0x225211a727f38 s x3 := by
      unfold x3
      refine Kept.step ?_ (State.post_kept _ _ _ _ _ _)
      exact h2
    clear_value x3
    refine Kept.ite ?_ ?_
    · refine Kept.step ?_ (State.freeze_kept _ _ _)
      exact h3
    · exact h3

theorem execTrimClrAssert_kept : ∀ a0 s, OutKept 0x225215a727f38 s (execTrimClrAssert a0 s) := by
  intro a0 s
  unfold execTrimClrAssert
  extract_lets +onlyGivenNames -merge -underBinder x1
  extract_lets +onlyGivenNames -merge -underBinder x2
  have h2 : Kept 0x225215a727f38 s x2 := by
    unfold x2
    refine Kept.ite ?_ ?_
    · refine (Kept.upd ?_).kept
      exact Kept.refl _ _
    · refine (Kept.upd ?_).kept
      exact Kept.refl _ _
  clear_value x2
  refine OutKept.next ?_
  refine Kept.ite ?_ ?_
  · exact h2
  · refine Kept.step ?_ (State.forceClear_kept _ _)
    refine (Kept.upd ?_).kept
    exact h2

theorem execTrimClrRelease_kept : ∀ a0 s, OutKept 0x225211a727f38 s (execTrimClrRelease a0 s) := by
  intro a0 s
  unfold execTrimClrRelease
  extract_lets +onlyGivenNames -merge -underBinder x1
  extract_lets +onlyGivenNames -merge -underBinder x2
  have h2 : Kept 0x225211a727f38 s x2 := by
    unfold x2
    refine Kept.ite ?_ ?_
    · refine (Kept.upd ?_).kept
      exact Kept.refl _ _
    · refine (Kept.upd ?_).kept
      exact Kept.refl _ _
  clear_value x2
  refine OutKept.next ?_
  refine Kept.ite ?_ ?_
  · refine Kept.step ?_ (State.releaseClear_kept _)
    exact h2
  · exact h2

end Sys2Proof.Machine
end

