-- ==== Sys2Proof/Laws/FrameSecurity.lean ====
section
/-! SUPPORT. What each operation of `Machine/Security.lean` may change: one lemma each, the parts it may change as a mask of `Part.no` bits. -/
set_option linter.unusedVariables false
set_option Elab.async false
namespace Sys2Proof.Machine

theorem execFabricIdWrite_kept : ∀ a0 s, OutKept 0x8000000008 s (execFabricIdWrite a0 s) := by
  intro a0 s
  unfold execFabricIdWrite
  refine State.atBlock_kept _ (by decide) (fun s0 h0 => ?_)
  refine OutKept.next ?_
  refine Kept.ite ?_ ?_
  · extract_lets +onlyGivenNames -merge -underBinder x1
    have h1 : Kept 0x8000000008 s x1 := by
      unfold x1
      refine Kept.step ?_ (State.wrSoft_kept _ _ _)
      exact h0
    clear_value x1
    refine Kept.ite ?_ ?_
    · refine (Kept.upd ?_).kept
      exact h1
    · exact h1
  · exact h0

theorem execDebugWrite_kept : ∀ a0 s, OutKept 0x8 s (execDebugWrite a0 s) := by
  intro a0 s
  unfold execDebugWrite
  refine State.atBlock_kept _ (by decide) (fun s0 h0 => ?_)
  extract_lets +onlyGivenNames -merge -underBinder x1
  refine OutKept.next ?_
  refine Kept.step ?_ (State.wf_kept _ _ _ _)
  exact h0

theorem execSelftestEnd_kept : ∀ a0 s, OutKept 0x225375af27ff8 s (execSelftestEnd a0 s) := by
  intro a0 s
  unfold execSelftestEnd
  refine OutKept.next ?_
  refine Kept.ite ?_ ?_
  · exact Kept.refl _ _
  · refine Kept.ite ?_ ?_
    · extract_lets +onlyGivenNames -merge -underBinder x1 x2
      have h2 : Kept 0x225375af27ff8 s x2 := by
        unfold x2
        refine (Kept.upd ?_).kept
        exact Kept.refl _ _
      clear_value x2
      extract_lets +onlyGivenNames -merge -underBinder x3
      have h3 : Kept 0x225375af27ff8 s x3 := by
        unfold x3
        refine Kept.step ?_ (State.post_kept _ _ _ _ _ _)
        exact h2
      clear_value x3
      refine Kept.ite ?_ ?_
      · refine Kept.step ?_ (State.stepDone_kept _ _ _)
        refine (Kept.upd ?_).kept
        exact h3
      · exact h3
    · extract_lets +onlyGivenNames -merge -underBinder x4
      extract_lets +onlyGivenNames -merge -underBinder x5 x6
      have h6 : Kept 0x225375af27ff8 s x6 := by
        unfold x6
        refine (Kept.upd ?_).kept
        exact Kept.refl _ _
      clear_value x6
      extract_lets +onlyGivenNames -merge -underBinder x7
      have h7 : Kept 0x225375af27ff8 s x7 := by
        unfold x7
        refine Kept.foldl ?_ (fun _ _ h8 => ?_)
        · exact h6
        · refine Kept.step ?_ (State.raiseCtr_kept _ _ _)
          exact h8
      clear_value x7
      extract_lets +onlyGivenNames -merge -underBinder x9
      have h9 : Kept 0x225375af27ff8 s x9 := by
        unfold x9
        refine Kept.step ?_ (State.stepDone_kept _ _ _)
        exact h7
      clear_value x9
      refine Kept.ite ?_ ?_
      · refine Kept.foldl ?_ (fun _ _ h10 => ?_)
        · exact h9
        · refine Kept.step ?_ (State.placeLathe_kept _ _ _)
          exact h10
      · exact h9

theorem State.secRespond_kept : ∀ s a1 a2 a3 a4, Kept 0x1000000000008 s (State.secRespond s a1 a2 a3 a4) := by
  intro s a1 a2 a3 a4
  unfold State.secRespond
  extract_lets +onlyGivenNames -merge -underBinder x1
  extract_lets +onlyGivenNames -merge -underBinder x2
  have h2 : Kept 0x1000000000008 s x2 := by
    unfold x2
    refine (Kept.upd ?_).kept
    exact Kept.refl _ _
  clear_value x2
  split
  ·
    extract_lets +onlyGivenNames -merge -underBinder x3
    have h3 : Kept 0x1000000000008 s x3 := by
      unfold x3
      refine Kept.foldl ?_ (fun _ _ h4 => ?_)
      · exact h2
      · refine Kept.step ?_ (State.wr_kept _ _ _)
        exact h4
    clear_value x3
    refine Kept.step ?_ (State.wf_kept _ _ _ _)
    refine Kept.step ?_ (State.wb_kept _ _ _ _)
    refine Kept.step ?_ (State.wb_kept _ _ _ _)
    exact h3
  ·
    exact h2

theorem State.touchSession_kept : ∀ s a1, Kept 0x400000000 s (State.touchSession s a1) := by
  intro s a1
  unfold State.touchSession
  extract_lets +onlyGivenNames -merge -underBinder x1
  refine Kept.step ?_ (State.setSess_kept _ _ _)
  exact Kept.refl _ _

theorem execGetStatus_kept : ∀ a0 s, OutKept 0x1000400000008 s (execGetStatus a0 s) := by
  intro a0 s
  unfold execGetStatus
  extract_lets +onlyGivenNames -merge -underBinder x1
  refine OutKept.next ?_
  refine Kept.ite ?_ ?_
  · exact Kept.refl _ _
  · refine Kept.step ?_ (State.secRespond_kept _ _ _ _ _)
    refine Kept.step ?_ (State.touchSession_kept _ _)
    exact Kept.refl _ _

theorem execGetCerts_kept : ∀ a0 s, OutKept 0x1000400000008 s (execGetCerts a0 s) := by
  intro a0 s
  unfold execGetCerts
  refine OutKept.next ?_
  refine Kept.ite ?_ ?_
  · exact Kept.refl _ _
  · refine Kept.step ?_ (State.secRespond_kept _ _ _ _ _)
    refine Kept.step ?_ (State.touchSession_kept _ _)
    exact Kept.refl _ _

theorem execQuote_kept : ∀ a0 a1 a2 s, OutKept 0x1000400000008 s (execQuote a0 a1 a2 s) := by
  intro a0 a1 a2 s
  unfold execQuote
  refine OutKept.next ?_
  refine Kept.ite ?_ ?_
  · exact Kept.refl _ _
  · extract_lets +onlyGivenNames -merge -underBinder x1
    have h1 : Kept 0x1000400000008 s x1 := by
      unfold x1
      refine Kept.step ?_ (State.touchSession_kept _ _)
      exact Kept.refl _ _
    clear_value x1
    refine Kept.ite ?_ ?_
    · refine Kept.step ?_ (State.secRespond_kept _ _ _ _ _)
      exact h1
    · refine Kept.step ?_ (State.secRespond_kept _ _ _ _ _)
      refine Kept.step ?_ (State.bump_kept _ _ _)
      exact h1

theorem State.service_kept {M : Nat} {s y : State} {i : SecIface} {op u : Nat} {f : State → State} (h : Kept M s y)
    (hm : 0x1000400000008 ||| M = M) (hf : ∀ z, Kept M s z → Kept M s (f z)) : Kept M s (y.service i op u f) := by
  have hm1 : 0x400000000 ||| M = M := by rw [← hm, ← Nat.or_assoc]; rfl
  have hm2 : 0x1000000000008 ||| M = M := by rw [← hm, ← Nat.or_assoc]; rfl
  unfold State.service
  split
  · exact h
  · extract_lets z
    have hz : Kept M s z := Kept.step h (State.touchSession_kept _ _) hm1
    clear_value z
    split
    · exact hf _ hz
    · exact Kept.step hz (State.secRespond_kept _ _ _ _ _) hm2

theorem execExtend_kept : ∀ a0 a1 a2 s, OutKept 0x1000400000008 s (execExtend a0 a1 a2 s) := by
  intro a0 a1 a2 s
  unfold execExtend
  refine OutKept.next ?_
  refine State.service_kept ?_ (by decide) (fun _ h1 => ?_)
  · exact Kept.refl _ _
  · refine Kept.ite ?_ ?_
    · refine Kept.step ?_ (State.secRespond_kept _ _ _ _ _)
      exact h1
    · refine Kept.step ?_ (State.secRespond_kept _ _ _ _ _)
      refine Kept.step ?_ (State.extend_kept _ _ _)
      exact h1

theorem execChallenge_kept : ∀ a0 s, OutKept 0x1000400000008 s (execChallenge a0 s) := by
  intro a0 s
  unfold execChallenge
  refine OutKept.next ?_
  refine Kept.ite ?_ ?_
  · exact Kept.refl _ _
  · extract_lets +onlyGivenNames -merge -underBinder x1
    extract_lets +onlyGivenNames -merge -underBinder x2
    have h2 : Kept 0x1000400000008 s x2 := by
      unfold x2
      refine Kept.step ?_ (State.touchSession_kept _ _)
      exact Kept.refl _ _
    clear_value x2
    extract_lets +onlyGivenNames -merge -underBinder x3 x4
    have h4 : Kept 0x1000400000008 s x4 := by
      unfold x4
      refine (Kept.upd ?_).kept
      exact h2
    clear_value x4
    extract_lets +onlyGivenNames -merge -underBinder x5 x6
    have h6 : Kept 0x1000400000008 s x6 := by
      unfold x6
      refine Kept.step ?_ (State.setSess_kept _ _ _)
      exact h4
    clear_value x6
    refine Kept.step ?_ (State.secRespond_kept _ _ _ _ _)
    exact h6

theorem State.authFail_kept : ∀ s a1 a2 a3, Kept 0x242000000008 s (State.authFail s a1 a2 a3) := by
  intro s a1 a2 a3
  unfold State.authFail
  extract_lets +onlyGivenNames -merge -underBinder x1
  have h1 : Kept 0x242000000008 s x1 := by
    unfold x1
    refine Kept.step ?_ (State.bump_kept _ _ _)
    exact Kept.refl _ _
  clear_value x1
  refine Kept.ite ?_ ?_
  · refine Kept.step ?_ (State.post_kept _ _ _ _ _ _)
    exact h1
  · exact h1

theorem execLogin_kept : ∀ a0 a1 a2 s, OutKept 0x1242400000008 s (execLogin a0 a1 a2 s) := by
  intro a0 a1 a2 s
  unfold execLogin
  extract_lets +onlyGivenNames -merge -underBinder x1
  refine OutKept.next ?_
  refine Kept.ite ?_ ?_
  · exact Kept.refl _ _
  · extract_lets +onlyGivenNames -merge -underBinder x2
    have h2 : Kept 0x1242400000008 s x2 := by
      unfold x2
      refine Kept.step ?_ (State.touchSession_kept _ _)
      exact Kept.refl _ _
    clear_value x2
    extract_lets +onlyGivenNames -merge -underBinder x3
    refine Kept.ite ?_ ?_
    · refine Kept.step ?_ (State.secRespond_kept _ _ _ _ _)
      exact h2
    · extract_lets +onlyGivenNames -merge -underBinder x4
      refine Kept.ite ?_ ?_
      · refine Kept.step ?_ (State.secRespond_kept _ _ _ _ _)
        refine Kept.step ?_ (State.setSess_kept _ _ _)
        exact h2
      · refine Kept.step ?_ (State.secRespond_kept _ _ _ _ _)
        refine Kept.step ?_ (State.authFail_kept _ _ _ _)
        refine Kept.step ?_ (State.setSess_kept _ _ _)
        exact h2

theorem execLoginLockout_kept : ∀ a0 s, OutKept 0x400000000 s (execLoginLockout a0 s) := by
  intro a0 s
  unfold execLoginLockout
  extract_lets +onlyGivenNames -merge -underBinder x1
  refine OutKept.next ?_
  refine Kept.ite ?_ ?_
  · refine Kept.step ?_ (State.setSess_kept _ _ _)
    exact Kept.refl _ _
  · exact Kept.refl _ _

theorem execLockoutEnd_kept : ∀ a0 s, OutKept 0x400000000 s (execLockoutEnd a0 s) := by
  intro a0 s
  unfold execLockoutEnd
  extract_lets +onlyGivenNames -merge -underBinder x1
  refine OutKept.next ?_
  split
  ·
    refine Kept.ite ?_ ?_
    · refine Kept.step ?_ (State.setSess_kept _ _ _)
      exact Kept.refl _ _
    · exact Kept.refl _ _
  ·
    exact Kept.refl _ _

theorem execLogout_kept : ∀ a0 s, OutKept 0x1000400000008 s (execLogout a0 s) := by
  intro a0 s
  unfold execLogout
  extract_lets +onlyGivenNames -merge -underBinder x1
  refine OutKept.next ?_
  refine Kept.ite ?_ ?_
  · exact Kept.refl _ _
  · extract_lets +onlyGivenNames -merge -underBinder x2
    have h2 : Kept 0x1000400000008 s x2 := by
      unfold x2
      refine Kept.step ?_ (State.touchSession_kept _ _)
      exact Kept.refl _ _
    clear_value x2
    refine Kept.ite ?_ ?_
    · refine Kept.step ?_ (State.secRespond_kept _ _ _ _ _)
      exact h2
    · refine Kept.step ?_ (State.secRespond_kept _ _ _ _ _)
      refine Kept.step ?_ (State.setSess_kept _ _ _)
      exact h2

theorem execSessionTimeout_kept : ∀ a0 s, OutKept 0x400000000 s (execSessionTimeout a0 s) := by
  intro a0 s
  unfold execSessionTimeout
  extract_lets +onlyGivenNames -merge -underBinder x1
  refine OutKept.next ?_
  refine Kept.ite ?_ ?_
  · refine Kept.step ?_ (State.setSess_kept _ _ _)
    exact Kept.refl _ _
  · exact Kept.refl _ _

theorem execEnroll_kept : ∀ a0 a1 a2 a3 a4 s, OutKept 0x1242c00000008 s (execEnroll a0 a1 a2 a3 a4 s) := by
  intro a0 a1 a2 a3 a4 s
  unfold execEnroll
  extract_lets +onlyGivenNames -merge -underBinder x1
  refine OutKept.next ?_
  refine Kept.ite ?_ ?_
  · refine State.service_kept ?_ (by decide) (fun _ h2 => ?_)
    · exact Kept.refl _ _
    · unfold x1
      refine Kept.ite ?_ ?_
      · refine Kept.step ?_ (State.secRespond_kept _ _ _ _ _)
        exact h2
      · refine Kept.step ?_ (State.secRespond_kept _ _ _ _ _)
        refine Kept.step ?_ (State.post_kept _ _ _ _ _ _)
        refine Kept.step ?_ (State.setOwner_kept _ _ _)
        exact h2
  · refine Kept.ite ?_ ?_
    · exact Kept.refl _ _
    · extract_lets +onlyGivenNames -merge -underBinder x3
      have h3 : Kept 0x1242c00000008 s x3 := by
        unfold x3
        refine Kept.step ?_ (State.touchSession_kept _ _)
        exact Kept.refl _ _
      clear_value x3
      refine Kept.ite ?_ ?_
      · unfold x1
        refine Kept.ite ?_ ?_
        · refine Kept.step ?_ (State.secRespond_kept _ _ _ _ _)
          exact h3
        · refine Kept.step ?_ (State.secRespond_kept _ _ _ _ _)
          refine Kept.step ?_ (State.post_kept _ _ _ _ _ _)
          refine Kept.step ?_ (State.setOwner_kept _ _ _)
          exact h3
      · refine Kept.step ?_ (State.secRespond_kept _ _ _ _ _)
        exact h3

theorem execRevoke_kept : ∀ a0 a1 s, OutKept 0x1242c00000008 s (execRevoke a0 a1 s) := by
  intro a0 a1 s
  unfold execRevoke
  refine OutKept.next ?_
  refine State.service_kept ?_ (by decide) (fun _ h1 => ?_)
  · exact Kept.refl _ _
  · extract_lets +onlyGivenNames -merge -underBinder x2
    extract_lets +onlyGivenNames -merge -underBinder x3
    refine Kept.ite ?_ ?_
    · refine Kept.step ?_ (State.secRespond_kept _ _ _ _ _)
      exact h1
    · extract_lets +onlyGivenNames -merge -underBinder x4
      have h4 : Kept 0x1242c00000008 s x4 := by
        unfold x4
        refine Kept.step ?_ (State.post_kept _ _ _ _ _ _)
        refine Kept.step ?_ (State.setOwner_kept _ _ _)
        exact h1
      clear_value x4
      extract_lets +onlyGivenNames -merge -underBinder x5 x6
      have h6 : Kept 0x1242c00000008 s x6 := by
        unfold x6
        refine (Kept.upd ?_).kept
        exact h4
      clear_value x6
      refine Kept.step ?_ (State.secRespond_kept _ _ _ _ _)
      exact h6

theorem execZeroise_kept : ∀ a0 s, OutKept 0x1242400000008 s (execZeroise a0 s) := by
  intro a0 s
  unfold execZeroise
  refine OutKept.next ?_
  refine State.service_kept ?_ (by decide) (fun _ h1 => ?_)
  · exact Kept.refl _ _
  · extract_lets +onlyGivenNames -merge -underBinder x2
    have h2 : Kept 0x1242400000008 s x2 := by
      unfold x2
      refine Kept.step ?_ (State.post_kept _ _ _ _ _ _)
      refine Kept.step ?_ (State.extend_kept _ _ _)
      exact h1
    clear_value x2
    extract_lets +onlyGivenNames -merge -underBinder x3
    have h3 : Kept 0x1242400000008 s x3 := by
      unfold x3
      refine Kept.step ?_ (State.endSessions_kept _)
      refine Kept.step ?_ (State.secRespond_kept _ _ _ _ _)
      exact h2
    clear_value x3
    refine (Kept.upd ?_).kept
    exact h3

theorem execZeroiseEraseEnd_kept : ∀ s, OutKept 0xc00000000 s (execZeroiseEraseEnd s) := by
  intro s
  unfold execZeroiseEraseEnd
  refine OutKept.next ?_
  refine Kept.ite ?_ ?_
  · refine (Kept.upd ?_).kept
    exact Kept.refl _ _
  · exact Kept.refl _ _

theorem execGrantDebug_kept : ∀ a0 a1 s, OutKept 0x1242400000008 s (execGrantDebug a0 a1 s) := by
  intro a0 a1 s
  unfold execGrantDebug
  refine OutKept.next ?_
  refine State.service_kept ?_ (by decide) (fun _ h1 => ?_)
  · exact Kept.refl _ _
  · extract_lets +onlyGivenNames -merge -underBinder x2
    extract_lets +onlyGivenNames -merge -underBinder x3 x4
    have h4 : Kept 0x1242400000008 s x4 := by
      unfold x4
      refine (Kept.upd ?_).kept
      exact h1
    clear_value x4
    refine Kept.step ?_ (State.secRespond_kept _ _ _ _ _)
    refine Kept.step ?_ (State.post_kept _ _ _ _ _ _)
    refine Kept.step ?_ (State.extend_kept _ _ _)
    exact h4

theorem execSelftest_kept : ∀ a0 s, OutKept 0x1000400000008 s (execSelftest a0 s) := by
  intro a0 s
  unfold execSelftest
  refine OutKept.next ?_
  refine State.service_kept ?_ (by decide) (fun _ h1 => ?_)
  · exact Kept.refl _ _
  · extract_lets +onlyGivenNames -merge -underBinder x2
    have h2 : Kept 0x1000400000008 s x2 := by
      unfold x2
      refine Kept.step ?_ (State.secRespond_kept _ _ _ _ _)
      exact h1
    clear_value x2
    refine (Kept.upd ?_).kept
    exact h2

end Sys2Proof.Machine
end

