-- ==== Sys2Proof/Laws/FrameTime.lean ====
section
/-! SUPPORT. What each operation of `Machine/Time.lean` may change: one lemma each, the parts it may change as a mask of `Part.no` bits. -/
set_option linter.unusedVariables false
set_option Elab.async false
namespace Sys2Proof.Machine

theorem execFtmSet_kept : ∀ a0 s, OutKept 0xc s (execFtmSet a0 s) := by
  intro a0 s
  unfold execFtmSet
  refine State.atBlock_kept _ (by decide) (fun s0 h0 => ?_)
  refine OutKept.next ?_
  refine Kept.ite ?_ ?_
  · refine (Kept.upd ?_).kept
    exact h0
  · exact h0

theorem State.setGm_kept : ∀ s a1 a2, Kept 0x242000000008 s (State.setGm s a1 a2) := by
  intro s a1 a2
  unfold State.setGm
  extract_lets +onlyGivenNames -merge -underBinder x1
  refine Kept.ite ?_ ?_
  · exact Kept.refl _ _
  · refine Kept.step ?_ (State.post_kept _ _ _ _ _ _)
    refine Kept.step ?_ (State.bump_kept _ _ _)
    refine Kept.step ?_ (State.wr_kept _ _ _)
    exact Kept.refl _ _

theorem State.setFtState_kept : ∀ s a1, Kept 0x8 s (State.setFtState s a1) := by
  intro s a1
  unfold State.setFtState
  refine Kept.step ?_ (State.wf_kept _ _ _ _)
  exact Kept.refl _ _

theorem State.growUncert_kept : ∀ s a1, Kept 0x1000008 s (State.growUncert s a1) := by
  intro s a1
  unfold State.growUncert
  extract_lets +onlyGivenNames -merge -underBinder x1
  have h1 : Kept 0x1000008 s x1 := by
    unfold x1
    refine Kept.step ?_ (State.wr_kept _ _ _)
    exact Kept.refl _ _
  clear_value x1
  refine (Kept.upd ?_).kept
  exact h1

theorem State.elect_kept : ∀ s, Kept 0x242001000008 s (State.elect s) := by
  intro s
  unfold State.elect
  extract_lets +onlyGivenNames -merge -underBinder x1 x2 x3 x4
  clear_value x4 x3
  refine Kept.ite ?_ ?_
  · refine Kept.ite ?_ ?_
    · refine Kept.step ?_ (State.setGm_kept _ _ _)
      exact Kept.refl _ _
    · extract_lets +onlyGivenNames -merge -underBinder x5
      have h5 : Kept 0x242001000008 s x5 := by
        unfold x5
        refine Kept.step ?_ (State.wf_kept _ _ _ _)
        refine Kept.step ?_ (State.wb_kept _ _ _ _)
        refine Kept.step ?_ (State.setFtState_kept _ _)
        refine Kept.step ?_ (State.setGm_kept _ _ _)
        exact Kept.refl _ _
      clear_value x5
      refine Kept.step ?_ (State.wr_kept _ _ _)
      refine (Kept.upd ?_).kept
      exact h5
  · cases x3 with
    | none => exact Kept.step (Kept.refl _ _) (State.wb_kept _ _ _ _)
    | some p =>
      dsimp -zeta only
      extract_lets +onlyGivenNames -merge -underBinder a first y1 y2 y0 y3
      have h1 : Kept 0x242001000008 s y1 := Kept.step (Kept.refl _ _) (State.setGm_kept _ _ _)
      clear_value y1
      have h2 : Kept 0x242001000008 s y2 :=
        Kept.step (Kept.step (Kept.step h1 (State.wb_kept _ _ _ _)) (State.wf_kept _ _ _ _)) (State.wf_kept _ _ _ _)
      clear_value y2
      have h3 : Kept 0x242001000008 s y3 := Kept.ite (Kept.upd h2).kept h2
      clear_value y3
      refine Kept.ite ?_ h3
      have h4 : Kept 0x242001000008 s (y3.growUncert false) := Kept.step h3 (State.growUncert_kept _ _)
      revert h4
      generalize y3.growUncert false = y4
      intro h4
      refine (Kept.upd ?_).kept
      exact Kept.step h4 (State.setFtState_kept _ _)

theorem State.sendTime_kept : ∀ s a1 a2, Kept 0x200008 s (State.sendTime s a1 a2) := by
  intro s a1 a2
  unfold State.sendTime
  extract_lets +onlyGivenNames -merge -underBinder x1
  extract_lets +onlyGivenNames -merge -underBinder x2
  refine Kept.step ?_ (State.transmit_kept _ _ _)
  exact Kept.refl _ _

theorem execTimeExchange_kept : ∀ s, OutKept 0x242001200008 s (execTimeExchange s) := by
  intro s
  unfold execTimeExchange
  extract_lets +onlyGivenNames -merge -underBinder x1
  have h1 : Kept 0x242001200008 s x1 := by
    unfold x1
    refine Kept.step ?_ (State.elect_kept _)
    exact Kept.refl _ _
  clear_value x1
  refine OutKept.next ?_
  refine Kept.foldl ?_ (fun _ _ h2 => ?_)
  · exact h1
  · refine Kept.ite ?_ ?_
    · refine Kept.step ?_ (State.sendTime_kept _ _ _)
      exact h2
    · exact h2

theorem State.stepEvent_kept : ∀ s a1 a2, Kept 0x242000000008 s (State.stepEvent s a1 a2) := by
  intro s a1 a2
  unfold State.stepEvent
  extract_lets +onlyGivenNames -merge -underBinder x1
  have h1 : Kept 0x242000000008 s x1 := by
    unfold x1
    refine Kept.step ?_ (State.bump_kept _ _ _)
    exact Kept.refl _ _
  clear_value x1
  refine Kept.ite ?_ ?_
  · refine Kept.step ?_ (State.post_kept _ _ _ _ _ _)
    exact h1
  · exact h1

theorem State.moveFt_kept : ∀ s a1, Kept 0x100000c s (State.moveFt s a1) := by
  intro s a1
  unfold State.moveFt
  refine Kept.ite ?_ ?_
  · refine (Kept.upd ?_).kept
    exact Kept.refl _ _
  · extract_lets +onlyGivenNames -merge -underBinder x1
    have h1 : Kept 0x100000c s x1 := by
      unfold x1
      refine Kept.step ?_ (State.wb_kept _ _ _ _)
      exact Kept.refl _ _
    clear_value x1
    refine (Kept.upd ?_).kept
    exact h1

theorem State.newFreq_kept : ∀ s, Kept 0x2000000000008 s (State.newFreq s) := by
  intro s
  unfold State.newFreq
  split
  next y1 q1 =>
    have h1 : Kept 0x2000000000008 s y1 := Kept.snd q1 (by
      refine Kept.step ?_ (State.takeFree_kept _)
      exact Kept.refl _ _)
    split
    next y2 q2 =>
      have h2 : Kept 0x2000000000008 s y2 := Kept.snd q2 (by
        refine Kept.step ?_ (State.takeFree_kept _)
        refine Kept.step ?_ (State.wr_kept _ _ _)
        exact h1)
      refine Kept.step ?_ (State.wf_kept _ _ _ _)
      exact h2

theorem State.correctFt_kept : ∀ s a1, Kept 0x224200100000c s (State.correctFt s a1) := by
  intro s a1
  unfold State.correctFt
  extract_lets +onlyGivenNames -merge -underBinder x1
  have h1 : Kept 0x224200100000c s x1 := by
    unfold x1
    refine Kept.step ?_ (State.wr_kept _ _ _)
    exact Kept.refl _ _
  clear_value x1
  extract_lets +onlyGivenNames -merge -underBinder x2 x3
  have h3 : Kept 0x224200100000c s x3 := by
    unfold x3
    refine (Kept.upd ?_).kept
    exact h1
  clear_value x3
  extract_lets +onlyGivenNames -merge -underBinder x4 x5
  have h5 : Kept 0x224200100000c s x5 := by
    unfold x5
    refine Kept.ite ?_ ?_
    · exact h3
    · refine Kept.ite ?_ ?_
      · refine Kept.step ?_ (State.stepEvent_kept _ _ _)
        refine Kept.step ?_ (State.moveFt_kept _ _)
        exact h3
      · refine Kept.ite ?_ ?_
        · refine Kept.step ?_ (State.stepEvent_kept _ _ _)
          refine Kept.step ?_ (State.moveFt_kept _ _)
          exact h3
        · refine (Kept.upd ?_).kept
          exact h3
  clear_value x5
  extract_lets +onlyGivenNames -merge -underBinder x6
  have h6 : Kept 0x224200100000c s x6 := by
    unfold x6
    refine Kept.step ?_ (State.newFreq_kept _)
    exact h5
  clear_value x6
  refine Kept.ite ?_ ?_
  · split
    next y7 q7 =>
      have h7 : Kept 0x224200100000c s y7 := Kept.snd q7 (by
        refine Kept.step ?_ (State.takeFree_kept _)
        refine Kept.step ?_ (State.setFtState_kept _ _)
        exact h6)
      extract_lets +onlyGivenNames -merge -underBinder x8 x9
      have h9 : Kept 0x224200100000c s x9 := by
        unfold x9
        refine Kept.step ?_ (State.wr_kept _ _ _)
        refine (Kept.upd ?_).kept
        exact h7
      clear_value x9
      refine Kept.ite ?_ ?_
      · refine Kept.step ?_ (State.post_kept _ _ _ _ _ _)
        exact h9
      · exact h9
  · exact h6

theorem execTime_kept : ∀ a0 a1 a2 s, OutKept 0x224200120000c s (execTime a0 a1 a2 s) := by
  intro a0 a1 a2 s
  have hr : Kept 0x224200120000c s (s.receive a0 a1).2 := Kept.step (Kept.refl _ _) (State.receive_kept _ _ _)
  unfold execTime
  extract_lets +onlyGivenNames -merge -underBinder x1
  refine OutKept.next ?_
  generalize s.receive a0 a1 = q at hr ⊢
  obtain ⟨b, u⟩ := q
  have hx : ∀ a, Kept 0x224200120000c s (x1 u a) := fun a => by
    unfold x1
    refine (Kept.upd ?_).kept
    exact hr
  cases b
  · exact hr
  · cases a2 with
    | request t1 a =>
      dsimp -zeta only
      extract_lets +onlyGivenNames -merge -underBinder x2
      have h2 : Kept 0x224200120000c s x2 := Kept.step (Kept.step (hx _) (State.sendTime_kept _ _ _)) (State.elect_kept _)
      clear_value x2
      exact Kept.ite (Kept.upd h2).kept h2
    | reply t1 t2 t3 a =>
      dsimp only
      have h5 : Kept 0x224200120000c s _ := Kept.step (hx a) (State.wr_kept (x1 u a) (FTM_LINK_DELAY a0) (BitVec.ofNat 32 (trunc 24 (((u.ft.toNat : Int) - t1.toNat - ((t3.toNat : Int) - t2.toNat)) / 2) + 2 ^ 31)))
      have h6 : Kept 0x224200120000c s _ := Kept.step h5 (State.elect_kept _)
      refine Kept.ite ?_ ?_
      · refine Kept.step ?_ (State.correctFt_kept _ _)
        exact h6
      · exact h6

theorem State.unlocked_kept : ∀ s a1, Kept 0x242000000008 s (State.unlocked s a1) := by
  intro s a1
  unfold State.unlocked
  refine Kept.ite ?_ ?_
  · refine Kept.step ?_ (State.post_kept _ _ _ _ _ _)
    exact Kept.refl _ _
  · exact Kept.refl _ _

theorem execParentTimeout_kept : ∀ s, OutKept 0x242001000008 s (execParentTimeout s) := by
  intro s
  unfold execParentTimeout
  extract_lets +onlyGivenNames -merge -underBinder x1
  refine OutKept.next ?_
  refine Kept.ite ?_ ?_
  · exact Kept.refl _ _
  · extract_lets +onlyGivenNames -merge -underBinder x2
    extract_lets +onlyGivenNames -merge -underBinder x3 x4
    have h4 : Kept 0x242001000008 s x4 := by
      unfold x4
      refine (Kept.upd ?_).kept
      exact Kept.refl _ _
    clear_value x4
    split
    ·
      refine Kept.step ?_ (State.elect_kept _)
      exact h4
    ·
      extract_lets +onlyGivenNames -merge -underBinder x5
      have h5 : Kept 0x242001000008 s x5 := by
        unfold x5
        refine Kept.step ?_ (State.wr_kept _ _ _)
        exact h4
      clear_value x5
      extract_lets +onlyGivenNames -merge -underBinder x6
      have h6 : Kept 0x242001000008 s x6 := by
        unfold x6
        refine Kept.ite ?_ ?_
        · refine Kept.step ?_ (State.setFtState_kept _ _)
          exact h5
        · refine Kept.step ?_ (State.growUncert_kept _ _)
          refine Kept.step ?_ (State.bump_kept _ _ _)
          refine Kept.step ?_ (State.setFtState_kept _ _)
          exact h5
      clear_value x6
      refine Kept.step ?_ (State.elect_kept _)
      refine Kept.step ?_ (State.unlocked_kept _ _)
      exact h6

theorem execUncertLimit_kept : ∀ s, OutKept 0x242001000008 s (execUncertLimit s) := by
  intro s
  unfold execUncertLimit
  refine OutKept.next ?_
  refine Kept.ite ?_ ?_
  · exact Kept.refl _ _
  · refine Kept.step ?_ (State.unlocked_kept _ _)
    refine (Kept.upd ?_).kept
    exact Kept.refl _ _

theorem execReferenceLost_kept : ∀ a0 s, OutKept 0x242001000008 s (execReferenceLost a0 s) := by
  intro a0 s
  unfold execReferenceLost
  extract_lets +onlyGivenNames -merge -underBinder x1
  have h1 : Kept 0x242001000008 s x1 := by
    unfold x1
    refine (Kept.upd ?_).kept
    exact Kept.refl _ _
  clear_value x1
  refine OutKept.next ?_
  refine Kept.ite ?_ ?_
  · extract_lets +onlyGivenNames -merge -underBinder x2
    have h2 : Kept 0x242001000008 s x2 := by
      unfold x2
      refine Kept.step ?_ (State.growUncert_kept _ _)
      exact h1
    clear_value x2
    refine Kept.step ?_ (State.unlocked_kept _ _)
    refine (Kept.upd ?_).kept
    exact h2
  · exact h1

theorem State.refBack_kept : ∀ s, Kept 0x1000008 s (State.refBack s) := by
  intro s
  unfold State.refBack
  refine Kept.ite ?_ ?_
  · refine Kept.step ?_ (State.wr_kept _ _ _)
    refine (Kept.upd ?_).kept
    exact Kept.refl _ _
  · exact Kept.refl _ _

theorem execPpsEdge_kept : ∀ s, OutKept 0x200000100000c s (execPpsEdge s) := by
  intro s
  unfold execPpsEdge
  extract_lets +onlyGivenNames -merge -underBinder x1 x2
  have h2 : Kept 0x200000100000c s x2 := by
    unfold x2
    refine (Kept.upd ?_).kept
    exact Kept.refl _ _
  clear_value x2
  refine OutKept.next ?_
  refine Kept.ite ?_ ?_
  · refine Kept.step ?_ (State.moveFt_kept _ _)
    refine Kept.step ?_ (State.newFreq_kept _)
    refine Kept.step ?_ (State.refBack_kept _)
    exact h2
  · exact h2

theorem execFtmNowRead_kept : ∀ s, OutKept 0x1000000000008 s (execFtmNowRead s) := by
  intro s
  unfold execFtmNowRead
  extract_lets +onlyGivenNames -merge -underBinder x1
  extract_lets +onlyGivenNames -merge -underBinder x2
  have h2 : Kept 0x1000000000008 s x2 := by
    unfold x2
    refine Kept.ite ?_ ?_
    · refine Kept.step ?_ (State.offAccess_kept _)
      refine Kept.step ?_ (State.wakeLink_kept _)
      exact Kept.refl _ _
    · refine Kept.step ?_ (State.wr_kept _ _ _)
      refine Kept.step ?_ (State.wakeLink_kept _)
      exact Kept.refl _ _
  clear_value x2
  refine OutKept.next ?_
  refine (Kept.upd ?_).kept
  exact h2

theorem execPtpMessage_kept : ∀ a0 s, OutKept 0x200000100000c s (execPtpMessage a0 s) := by
  intro a0 s
  unfold execPtpMessage
  refine OutKept.next ?_
  refine Kept.ite ?_ ?_
  · refine Kept.step ?_ (State.moveFt_kept _ _)
    refine Kept.step ?_ (State.newFreq_kept _)
    refine Kept.step ?_ (State.refBack_kept _)
    exact Kept.refl _ _
  · exact Kept.refl _ _

theorem execReferenceRestored_kept : ∀ s, OutKept 0x2000001000008 s (execReferenceRestored s) := by
  intro s
  unfold execReferenceRestored
  extract_lets +onlyGivenNames -merge -underBinder x1 x2
  have h2 : Kept 0x2000001000008 s x2 := by
    unfold x2
    refine (Kept.upd ?_).kept
    exact Kept.refl _ _
  clear_value x2
  refine OutKept.next ?_
  refine Kept.ite ?_ ?_
  · refine Kept.step ?_ (State.newFreq_kept _)
    exact h2
  · exact h2

end Sys2Proof.Machine
end

