-- ==== Sys2Proof/Laws/FrameVentOps.lean ====
section
/-! SUPPORT. What each operation of `Machine/VentOps.lean` may change: one lemma each, the parts it may change as a mask of `Part.no` bits. -/
set_option linter.unusedVariables false
set_option Elab.async false
namespace Sys2Proof.Machine

theorem State.ventReply_kept : ∀ s a1 a2 a3, Kept 0x1242000000008 s (State.ventReply s a1 a2 a3) := by
  intro s a1 a2 a3
  unfold State.ventReply
  extract_lets +onlyGivenNames -merge -underBinder x1
  extract_lets +onlyGivenNames -merge -underBinder x2
  have h2 : Kept 0x1242000000008 s x2 := by
    unfold x2
    refine (Kept.upd ?_).kept
    exact Kept.refl _ _
  clear_value x2
  extract_lets +onlyGivenNames -merge -underBinder x3 x4
  have h4 : Kept 0x1242000000008 s x4 := by
    unfold x4
    refine Kept.ite ?_ ?_
    · exact h2
    · refine Kept.step ?_ (State.wr_kept _ _ _)
      unfold x3
      refine Kept.foldl ?_ (fun _ _ h5 => ?_)
      · exact h2
      · refine Kept.step ?_ (State.wr_kept _ _ _)
        exact h5
  clear_value x4
  extract_lets +onlyGivenNames -merge -underBinder x6
  have h6 : Kept 0x1242000000008 s x6 := by
    unfold x6
    refine Kept.ite ?_ ?_
    · refine Kept.step ?_ (State.bump_kept _ _ _)
      exact h4
    · refine Kept.ite ?_ ?_
      · refine Kept.step ?_ (State.bump_kept _ _ _)
        exact h4
      · exact h4
  clear_value x6
  refine Kept.ite ?_ ?_
  · exact h6
  · refine Kept.step ?_ (State.postVent_kept _ _ _ _ _)
    exact h6

theorem State.ventHist_kept : ∀ s a1, Kept 0x1242000000008 s (State.ventHist s a1) := by
  intro s a1
  unfold State.ventHist
  split
  ·
    refine Kept.step ?_ (State.ventReply_kept _ _ _ _)
    exact Kept.refl _ _
  ·
    refine Kept.step ?_ (State.ventReply_kept _ _ _ _)
    exact Kept.refl _ _

theorem State.ventDomain_kept : ∀ s a1, Kept 0x327277bff7ff8 s (State.ventDomain s a1) := by
  intro s a1
  unfold State.ventDomain
  extract_lets +onlyGivenNames -merge -underBinder x1
  refine Kept.ite ?_ ?_
  · refine Kept.step ?_ (State.ventReply_kept _ _ _ _)
    exact Kept.refl _ _
  · refine Kept.ite ?_ ?_
    · refine Kept.step ?_ (State.ventReply_kept _ _ _ _)
      exact Kept.refl _ _
    · refine Kept.step ?_ (State.ventReply_kept _ _ _ _)
      refine Kept.step ?_ (State.domainReset_kept _ _ _)
      exact Kept.refl _ _

theorem State.ventReset__kept : ∀ s a1, Kept 0x327277bfffff8 s (State.ventReset_ s a1) := by
  intro s a1
  unfold State.ventReset_
  refine Kept.step ?_ (State.deviceReset_kept _)
  refine Kept.step ?_ (State.ventReply_kept _ _ _ _)
  exact Kept.refl _ _

theorem State.abortEvery_kept : ∀ s, Kept 0x252000503f38 s (State.abortEvery s) := by
  intro s
  unfold State.abortEvery
  refine Kept.foldl ?_ (fun _ _ h1 => ?_)
  · exact Kept.refl _ _
  · refine Kept.step ?_ (State.abortWhere_kept _ _ _ _)
    exact h1

theorem State.ventAbort_kept : ∀ s a1, Kept 0x252000503f38 s (State.ventAbort s a1) := by
  intro s a1
  unfold State.ventAbort
  extract_lets +onlyGivenNames -merge -underBinder x1
  have h1 : Kept 0x252000503f38 s x1 := by
    unfold x1
    refine Kept.step ?_ (State.abortEvery_kept _)
    exact Kept.refl _ _
  clear_value x1
  refine (Kept.upd ?_).kept
  exact h1

theorem State.ventPower_kept : ∀ s a1, Kept 0x1252240503f38 s (State.ventPower s a1) := by
  intro s a1
  unfold State.ventPower
  extract_lets +onlyGivenNames -merge -underBinder x1
  refine Kept.ite ?_ ?_
  · refine Kept.step ?_ (State.ventReply_kept _ _ _ _)
    exact Kept.refl _ _
  · refine Kept.ite ?_ ?_
    · refine Kept.step ?_ (State.ventReply_kept _ _ _ _)
      exact Kept.refl _ _
    · refine Kept.ite ?_ ?_
      · refine Kept.step ?_ (State.ventReply_kept _ _ _ _)
        exact Kept.refl _ _
      · extract_lets +onlyGivenNames -merge -underBinder x2
        have h2 : Kept 0x1252240503f38 s x2 := by
          unfold x2
          refine Kept.step ?_ (State.abortEvery_kept _)
          exact Kept.refl _ _
        clear_value x2
        extract_lets +onlyGivenNames -merge -underBinder x3
        have h3 : Kept 0x1252240503f38 s x3 := by
          unfold x3
          refine Kept.foldl ?_ (fun _ _ h4 => ?_)
          · exact h2
          · refine Kept.step ?_ (State.endCal_kept _ _ _)
            exact h4
        clear_value x3
        extract_lets +onlyGivenNames -merge -underBinder x5
        have h5 : Kept 0x1252240503f38 s x5 := by
          unfold x5
          refine Kept.step ?_ (State.beginTransition_kept _ _ _)
          exact h3
        clear_value x5
        refine (Kept.upd ?_).kept
        exact h5

theorem State.ventBypass_kept : ∀ s a1, Kept 0x1242003a00008 s (State.ventBypass s a1) := by
  intro s a1
  unfold State.ventBypass
  refine Kept.step ?_ (State.ventReply_kept _ _ _ _)
  refine Kept.foldl ?_ (fun _ _ h1 => ?_)
  · exact Kept.refl _ _
  · refine Kept.ite ?_ ?_
    · refine Kept.step ?_ (State.closeBypass_kept _ _ _ _)
      exact h1
    · exact h1

theorem State.ventTrip_kept : ∀ s a1, Kept 0x3252142727f38 s (State.ventTrip s a1) := by
  intro s a1
  unfold State.ventTrip
  refine Kept.step ?_ (State.ventReply_kept _ _ _ _)
  refine Kept.step ?_ (State.trip_kept _ _)
  exact Kept.refl _ _

theorem State.ventRollback_kept : ∀ s a1, Kept 0x1242000000108 s (State.ventRollback s a1) := by
  intro s a1
  unfold State.ventRollback
  refine Kept.ite ?_ ?_
  · refine Kept.step ?_ (State.ventReply_kept _ _ _ _)
    exact Kept.refl _ _
  · extract_lets +onlyGivenNames -merge -underBinder x1
    have h1 : Kept 0x1242000000108 s x1 := by
      unfold x1
      refine Kept.step ?_ (State.beginRollback_kept _ _)
      exact Kept.refl _ _
    clear_value x1
    refine (Kept.upd ?_).kept
    exact h1

theorem State.ventAttest_kept : ∀ s a1, Kept 0x1242000000008 s (State.ventAttest s a1) := by
  intro s a1
  unfold State.ventAttest
  extract_lets +onlyGivenNames -merge -underBinder x1
  refine Kept.ite ?_ ?_
  · refine Kept.step ?_ (State.ventReply_kept _ _ _ _)
    exact Kept.refl _ _
  · refine Kept.ite ?_ ?_
    · refine Kept.step ?_ (State.ventReply_kept _ _ _ _)
      exact Kept.refl _ _
    · refine Kept.step ?_ (State.ventReply_kept _ _ _ _)
      refine Kept.step ?_ (State.bump_kept _ _ _)
      exact Kept.refl _ _

theorem State.ventTrim_kept : ∀ s a1, Kept 0x325215a727f38 s (State.ventTrim s a1) := by
  intro s a1
  unfold State.ventTrim
  extract_lets +onlyGivenNames -merge -underBinder x1
  refine Kept.ite ?_ ?_
  · extract_lets +onlyGivenNames -merge -underBinder x2
    have h2 : Kept 0x325215a727f38 s x2 := by
      unfold x2
      refine (Kept.upd ?_).kept
      exact Kept.refl _ _
    clear_value x2
    refine Kept.step ?_ (State.ventReply_kept _ _ _ _)
    refine Kept.ite ?_ ?_
    · exact h2
    · refine Kept.step ?_ (State.forceClear_kept _ _)
      refine (Kept.upd ?_).kept
      exact h2
  · extract_lets +onlyGivenNames -merge -underBinder x3
    have h3 : Kept 0x325215a727f38 s x3 := by
      unfold x3
      refine (Kept.upd ?_).kept
      exact Kept.refl _ _
    clear_value x3
    refine Kept.step ?_ (State.ventReply_kept _ _ _ _)
    refine Kept.ite ?_ ?_
    · refine Kept.step ?_ (State.releaseClear_kept _)
      exact h3
    · exact h3

theorem State.ventWakeUp_kept : ∀ s a1, Kept 0x1242200000008 s (State.ventWakeUp s a1) := by
  intro s a1
  unfold State.ventWakeUp
  refine Kept.ite ?_ ?_
  · refine Kept.step ?_ (State.ventReply_kept _ _ _ _)
    exact Kept.refl _ _
  · refine Kept.step ?_ (State.ventReply_kept _ _ _ _)
    refine (Kept.upd ?_).kept
    exact Kept.refl _ _

theorem State.ventMark_kept : ∀ s a1, Kept 0x3252000727f38 s (State.ventMark s a1) := by
  intro s a1
  unfold State.ventMark
  extract_lets +onlyGivenNames -merge -underBinder x1
  extract_lets +onlyGivenNames -merge -underBinder x2
  extract_lets +onlyGivenNames -merge -underBinder x3
  refine Kept.ite ?_ ?_
  · refine Kept.step ?_ (State.ventReply_kept _ _ _ _)
    exact Kept.refl _ _
  · refine Kept.step ?_ (State.ventReply_kept _ _ _ _)
    refine Kept.step ?_ (State.poisonGlobal_kept _ _ _ _ _ _ _)
    exact Kept.refl _ _

theorem State.ventStart_kept : ∀ s a1, Kept 0x327277bfffff8 s (State.ventStart s a1) := by
  intro s a1
  unfold State.ventStart
  refine Kept.ite ?_ ?_
  · refine Kept.step ?_ (State.ventReply_kept _ _ _ _)
    exact Kept.refl _ _
  · split
    ·
      refine Kept.step ?_ (State.ventReply_kept _ _ _ _)
      exact Kept.refl _ _
    ·
      refine Kept.step ?_ (State.ventHist_kept _ _)
      exact Kept.refl _ _
    ·
      refine Kept.step ?_ (State.ventDomain_kept _ _)
      exact Kept.refl _ _
    ·
      refine Kept.step ?_ (State.ventReset__kept _ _)
      exact Kept.refl _ _
    ·
      refine Kept.step ?_ (State.ventAbort_kept _ _)
      exact Kept.refl _ _
    ·
      refine Kept.step ?_ (State.ventPower_kept _ _)
      exact Kept.refl _ _
    ·
      refine Kept.step ?_ (State.ventBypass_kept _ _)
      exact Kept.refl _ _
    ·
      refine Kept.step ?_ (State.ventTrip_kept _ _)
      exact Kept.refl _ _
    ·
      refine Kept.step ?_ (State.ventRollback_kept _ _)
      exact Kept.refl _ _
    ·
      refine Kept.step ?_ (State.ventAttest_kept _ _)
      exact Kept.refl _ _
    ·
      refine Kept.step ?_ (State.ventTrim_kept _ _)
      exact Kept.refl _ _
    ·
      refine Kept.step ?_ (State.ventWakeUp_kept _ _)
      exact Kept.refl _ _
    ·
      refine Kept.step ?_ (State.ventMark_kept _ _)
      exact Kept.refl _ _
    ·
      refine Kept.step ?_ (State.ventReply_kept _ _ _ _)
      exact Kept.refl _ _

theorem State.ventDrain_kept : ∀ s a1, Kept 0x327277bfffff8 s (State.ventDrain s a1) := by
  intro s n
  induction n generalizing s with
  | zero => exact Kept.refl _ _
  | succ n ih =>
    unfold State.ventDrain
    split
    next r rest e1 e2 =>
      refine Kept.step ?_ (ih _)
      refine Kept.step ?_ (State.ventStart_kept _ _)
      exact (Kept.upd (Kept.refl _ _)).kept
    · exact Kept.refl _ _

theorem State.ventSettle_kept : ∀ s, Kept 0x327277bfffff8 s (State.ventSettle s) := by
  intro s
  unfold State.ventSettle
  split
  ·
    exact Kept.refl _ _
  ·
    refine Kept.ite ?_ ?_
    · refine Kept.step ?_ (State.ventDrain_kept _ _)
      refine Kept.step ?_ (State.ventReply_kept _ _ _ _)
      refine (Kept.upd ?_).kept
      exact Kept.refl _ _
    · exact Kept.refl _ _

theorem State.ventArrive_kept : ∀ s a1, Kept 0x327277bfffff8 s (State.ventArrive s a1) := by
  intro s a1
  unfold State.ventArrive
  refine Kept.ite ?_ ?_
  · exact Kept.refl _ _
  · extract_lets +onlyGivenNames -merge -underBinder x1
    have h1 : Kept 0x327277bfffff8 s x1 := by
      unfold x1
      refine Kept.step ?_ (State.ventSettle_kept _)
      exact Kept.refl _ _
    clear_value x1
    refine Kept.ite ?_ ?_
    · refine Kept.step ?_ (State.ventStart_kept _ _)
      exact h1
    · refine Kept.ite ?_ ?_
      · refine Kept.step ?_ (State.ventReply_kept _ _ _ _)
        exact h1
      · extract_lets +onlyGivenNames -merge -underBinder x2
        have h2 : Kept 0x327277bfffff8 s x2 := by
          unfold x2
          refine Kept.ite ?_ ?_
          · exact h1
          · refine Kept.step ?_ (State.wb_kept _ _ _ _)
            refine Kept.step ?_ (State.wb_kept _ _ _ _)
            exact h1
        clear_value x2
        refine (Kept.upd ?_).kept
        exact h2

end Sys2Proof.Machine
end

