-- ==== Sys2Proof/Laws/FrameRegWrite.lean ====
section
/-! SUPPORT. What each operation of `Machine/RegWrite.lean` may change: one lemma each, the parts it may change as a mask of `Part.no` bits. -/
set_option linter.unusedVariables false
set_option Elab.async false
namespace Sys2Proof.Machine

theorem State.statClear_kept : ∀ s a1 a2, Kept 0x108 s (State.statClear s a1 a2) := by
  intro s a1 a2
  unfold State.statClear
  extract_lets +onlyGivenNames -merge -underBinder x1
  have h1 : Kept 0x108 s x1 := by
    unfold x1
    refine Kept.step ?_ (State.clearStats_kept _ _ _)
    refine Kept.ite ?_ ?_
    · refine Kept.step ?_ (State.countIdle_kept _ _)
      exact Kept.refl _ _
    · exact Kept.refl _ _
  clear_value x1
  split
  ·
    refine Kept.step ?_ (State.wf_kept _ _ _ _)
    exact h1
  ·
    refine Kept.step ?_ (State.wf_kept _ _ _ _)
    exact h1
  ·
    refine Kept.step ?_ (State.wf_kept _ _ _ _)
    exact h1
  ·
    refine Kept.foldl ?_ (fun _ _ h2 => ?_)
    · exact h1
    · refine Kept.step ?_ (State.wf_kept _ _ _ _)
      exact h2
  ·
    refine Kept.foldl ?_ (fun _ _ h3 => ?_)
    · exact h1
    · refine Kept.step ?_ (State.wf_kept _ _ _ _)
      exact h3
  ·
    exact h1

theorem stateOf_kept {M : Nat} {s x : State} {o : Out} (h : Kept M s x) (ho : OutKept M s o) : Kept M s (stateOf x o) := by
  obtain ⟨t, rfl, hk⟩ := ho
  exact hk

theorem State.wrLimited_kept : ∀ s a1 a2 a3 a4, Kept 0x8 s (State.wrLimited s a1 a2 a3 a4) := by
  intro s a1 a2 a3 a4
  unfold State.wrLimited
  refine Kept.step ?_ (State.wr_kept _ _ _)
  exact Kept.refl _ _

theorem State.writeDev_kept : ∀ s a1 a2 a3, Kept 0x327a77bfffff8 s (State.writeDev s a1 a2 a3) := by
  intro s a1 a2 a3
  unfold State.writeDev
  extract_lets +onlyGivenNames -merge -underBinder x1
  extract_lets +onlyGivenNames -merge -underBinder x2
  refine Kept.ite ?_ ?_
  · refine stateOf_kept ?_ ?_
    · exact Kept.refl _ _
    · refine OutKept.step ?_ (execFabricIdWrite_kept _ _)
      exact Kept.refl _ _
  · refine Kept.ite ?_ ?_
    · refine stateOf_kept ?_ ?_
      · exact Kept.refl _ _
      · refine OutKept.step ?_ (execDebugWrite_kept _ _)
        exact Kept.refl _ _
    · refine Kept.ite ?_ ?_
      · refine stateOf_kept ?_ ?_
        · exact Kept.refl _ _
        · refine OutKept.step ?_ (execDevResetCmd_kept _ _)
          exact Kept.refl _ _
      · refine Kept.ite ?_ ?_
        · refine Kept.step ?_ (State.wrLimited_kept _ _ _ _ _)
          exact Kept.refl _ _
        · refine Kept.ite ?_ ?_
          · refine stateOf_kept ?_ ?_
            · exact Kept.refl _ _
            · refine OutKept.ite ?_ ?_
              · refine OutKept.step ?_ (execPassOpen_kept _ _ _)
                exact Kept.refl _ _
              · refine OutKept.step ?_ (execPassClose_kept _ _ _)
                exact Kept.refl _ _
          · refine Kept.ite ?_ ?_
            · refine Kept.ite ?_ ?_
              · refine stateOf_kept ?_ ?_
                · exact Kept.refl _ _
                · refine OutKept.step ?_ (execBuildGo_kept _ _)
                  exact Kept.refl _ _
              · refine Kept.step ?_ (State.wrSoft_kept _ _ _)
                exact Kept.refl _ _
            · refine Kept.ite ?_ ?_
              · refine Kept.ite ?_ ?_
                · refine stateOf_kept ?_ ?_
                  · exact Kept.refl _ _
                  · refine OutKept.step ?_ (execDevCalGo_kept _ _)
                    exact Kept.refl _ _
                · exact Kept.refl _ _
              · refine Kept.step ?_ (State.wrSoft_kept _ _ _)
                exact Kept.refl _ _

theorem State.writeLth_kept : ∀ s a1 a2 a3 a4, Kept 0x242058000108 s (State.writeLth s a1 a2 a3 a4) := by
  intro s a1 a2 a3 a4
  unfold State.writeLth
  extract_lets +onlyGivenNames -merge -underBinder x1
  refine Kept.ite ?_ ?_
  · extract_lets +onlyGivenNames -merge -underBinder x2
    have h2 : Kept 0x242058000108 s x2 := by
      unfold x2
      refine Kept.step ?_ (State.wrSoft_kept _ _ _)
      exact Kept.refl _ _
    clear_value x2
    refine stateOf_kept ?_ ?_
    · exact h2
    · refine OutKept.step ?_ (execSvcReqWrite_kept _ _ _)
      exact h2
  · refine Kept.ite ?_ ?_
    · refine stateOf_kept ?_ ?_
      · exact Kept.refl _ _
      · refine OutKept.step ?_ (execBankAgeMaxWrite_kept _ _ _)
        exact Kept.refl _ _
    · refine Kept.ite ?_ ?_
      · refine stateOf_kept ?_ ?_
        · exact Kept.refl _ _
        · refine OutKept.step ?_ (execLthMapWrite_kept _ _ _ _ _)
          exact Kept.refl _ _
      · refine Kept.ite ?_ ?_
        · refine stateOf_kept ?_ ?_
          · exact Kept.refl _ _
          · refine OutKept.step ?_ (execLthMapWrite_kept _ _ _ _ _)
            exact Kept.refl _ _
        · refine Kept.step ?_ (State.wrSoft_kept _ _ _)
          exact Kept.refl _ _

theorem State.writeStr_kept : ∀ s a1 a2 a3 a4, Kept 0x252000503f38 s (State.writeStr s a1 a2 a3 a4) := by
  intro s a1 a2 a3 a4
  unfold State.writeStr
  extract_lets +onlyGivenNames -merge -underBinder x1
  extract_lets +onlyGivenNames -merge -underBinder x2
  extract_lets +onlyGivenNames -merge -underBinder x3
  refine Kept.ite ?_ ?_
  · refine stateOf_kept ?_ ?_
    · exact Kept.refl _ _
    · refine OutKept.step ?_ (execStrAbort_kept _ _ _)
      exact Kept.refl _ _
  · refine Kept.ite ?_ ?_
    · refine stateOf_kept ?_ ?_
      · exact Kept.refl _ _
      · refine OutKept.step ?_ (execSqEnable_kept _ _ _ _)
        exact Kept.refl _ _
    · refine Kept.ite ?_ ?_
      · refine stateOf_kept ?_ ?_
        · exact Kept.refl _ _
        · refine OutKept.step ?_ (execSqDoorbell_kept _ _ _ _)
          exact Kept.refl _ _
      · refine Kept.ite ?_ ?_
        · split
          ·
            refine stateOf_kept ?_ ?_
            · exact Kept.refl _ _
            · refine OutKept.step ?_ (execDescArm_kept _ _ _)
              exact Kept.refl _ _
          ·
            refine stateOf_kept ?_ ?_
            · exact Kept.refl _ _
            · refine OutKept.step ?_ (execDescCancel_kept _ _ _)
              exact Kept.refl _ _
          ·
            exact Kept.refl _ _
        · refine Kept.step ?_ (State.wrSoft_kept _ _ _)
          exact Kept.refl _ _

theorem State.writeIzp_kept : ∀ s a1 a2 a3 a4, Kept 0x242003200008 s (State.writeIzp s a1 a2 a3 a4) := by
  intro s a1 a2 a3 a4
  unfold State.writeIzp
  extract_lets +onlyGivenNames -merge -underBinder x1
  refine Kept.ite ?_ ?_
  · extract_lets +onlyGivenNames -merge -underBinder x2
    have h2 : Kept 0x242003200008 s x2 := by
      unfold x2
      refine Kept.step ?_ (State.wrSoft_kept _ _ _)
      exact Kept.refl _ _
    clear_value x2
    extract_lets +onlyGivenNames -merge -underBinder x3
    have h3 : Kept 0x242003200008 s x3 := by
      unfold x3
      refine Kept.ite ?_ ?_
      · exact h2
      · refine stateOf_kept ?_ ?_
        · exact h2
        · refine OutKept.step ?_ (execPortEnWrite_kept _ _ _)
          exact h2
    clear_value x3
    refine Kept.ite ?_ ?_
    · refine stateOf_kept ?_ ?_
      · exact h3
      · refine OutKept.step ?_ (execPortRetrain_kept _ _)
        exact h3
    · exact h3
  · refine Kept.step ?_ (State.wrSoft_kept _ _ _)
    exact Kept.refl _ _

theorem State.writeFab_kept : ∀ s a1 a2 a3, Kept 0x242003e00408 s (State.writeFab s a1 a2 a3) := by
  intro s a1 a2 a3
  unfold State.writeFab
  extract_lets +onlyGivenNames -merge -underBinder x1
  extract_lets +onlyGivenNames -merge -underBinder x2
  refine Kept.ite ?_ ?_
  · exact Kept.refl _ _
  · refine Kept.ite ?_ ?_
    · exact Kept.refl _ _
    · refine Kept.ite ?_ ?_
      · refine stateOf_kept ?_ ?_
        · exact Kept.refl _ _
        · refine OutKept.step ?_ (execMcastEnable_kept _ _ _)
          exact Kept.refl _ _
      · refine Kept.ite ?_ ?_
        · refine Kept.step ?_ (State.wr_kept _ _ _)
          exact Kept.refl _ _
        · refine Kept.ite ?_ ?_
          · refine stateOf_kept ?_ ?_
            · exact Kept.refl _ _
            · refine OutKept.step ?_ (execMcastUnprune_kept _ _ _)
              exact Kept.refl _ _
          · refine Kept.ite ?_ ?_
            · refine stateOf_kept ?_ ?_
              · exact Kept.refl _ _
              · refine OutKept.step ?_ (execMcastUnprune_kept _ _ _)
                exact Kept.refl _ _
            · refine Kept.ite ?_ ?_
              · extract_lets +onlyGivenNames -merge -underBinder x3
                have h3 : Kept 0x242003e00408 s x3 := by
                  unfold x3
                  refine stateOf_kept ?_ ?_
                  · exact Kept.refl _ _
                  · refine OutKept.step ?_ (execBypassOpen_kept _ _)
                    exact Kept.refl _ _
                clear_value x3
                refine stateOf_kept ?_ ?_
                · exact h3
                · refine OutKept.step ?_ (execBypassClose_kept _ _)
                  exact h3
              · refine Kept.step ?_ (State.wrSoft_kept _ _ _)
                exact Kept.refl _ _

theorem State.writeStd_kept : ∀ s a1 a2 a3, Kept 0x242058000108 s (State.writeStd s a1 a2 a3) := by
  intro s a1 a2 a3
  unfold State.writeStd
  extract_lets +onlyGivenNames -merge -underBinder x1
  extract_lets +onlyGivenNames -merge -underBinder x2
  refine Kept.ite ?_ ?_
  · refine stateOf_kept ?_ ?_
    · exact Kept.refl _ _
    · refine OutKept.step ?_ (execCoreCfgWrite_kept _ _ _)
      exact Kept.refl _ _
  · refine Kept.ite ?_ ?_
    · refine Kept.ite ?_ ?_
      · refine stateOf_kept ?_ ?_
        · exact Kept.refl _ _
        · refine OutKept.step ?_ (execCoeffBankSwap_kept _ _ _)
          exact Kept.refl _ _
      · exact Kept.refl _ _
    · refine Kept.ite ?_ ?_
      · refine stateOf_kept ?_ ?_
        · exact Kept.refl _ _
        · refine OutKept.step ?_ (execSetWrite_kept _ _ _ _ _ _)
          exact Kept.refl _ _
      · refine Kept.ite ?_ ?_
        · refine stateOf_kept ?_ ?_
          · exact Kept.refl _ _
          · refine OutKept.step ?_ (execLoopModeWrite_kept _ _ _)
            exact Kept.refl _ _
        · refine Kept.step ?_ (State.wrSoft_kept _ _ _)
          exact Kept.refl _ _

theorem State.writeTrm_kept : ∀ s a1 a2 a3, Kept 0x242010000008 s (State.writeTrm s a1 a2 a3) := by
  intro s a1 a2 a3
  unfold State.writeTrm
  extract_lets +onlyGivenNames -merge -underBinder x1
  refine Kept.ite ?_ ?_
  · extract_lets +onlyGivenNames -merge -underBinder x2
    have h2 : Kept 0x242010000008 s x2 := by
      unfold x2
      refine Kept.ite ?_ ?_
      · refine stateOf_kept ?_ ?_
        · exact Kept.refl _ _
        · refine OutKept.step ?_ (execScClear_kept _ _)
          exact Kept.refl _ _
      · exact Kept.refl _ _
    clear_value x2
    refine Kept.ite ?_ ?_
    · refine Kept.step ?_ (State.modTrim_kept _ _ _)
      exact h2
    · exact h2
  · refine Kept.ite ?_ ?_
    · refine stateOf_kept ?_ ?_
      · exact Kept.refl _ _
      · refine OutKept.step ?_ (execTrmChPush_kept _ _ _)
        exact Kept.refl _ _
    · refine Kept.step ?_ (State.wrSoft_kept _ _ _)
      exact Kept.refl _ _

theorem State.writeMon_kept : ∀ s a1 a2 a3, Kept 0x242020000008 s (State.writeMon s a1 a2 a3) := by
  intro s a1 a2 a3
  unfold State.writeMon
  extract_lets +onlyGivenNames -merge -underBinder x1
  extract_lets +onlyGivenNames -merge -underBinder x2
  refine Kept.ite ?_ ?_
  · refine stateOf_kept ?_ ?_
    · exact Kept.refl _ _
    · refine OutKept.step ?_ (execRoundCfgWrite_kept _ _)
      exact Kept.refl _ _
  · refine Kept.ite ?_ ?_
    · refine Kept.ite ?_ ?_
      · refine stateOf_kept ?_ ?_
        · exact Kept.refl _ _
        · refine OutKept.step ?_ (execTrippedClear_kept _)
          exact Kept.refl _ _
      · exact Kept.refl _ _
    · refine Kept.ite ?_ ?_
      · refine stateOf_kept ?_ ?_
        · exact Kept.refl _ _
        · refine OutKept.step ?_ (execUrgentRequest_kept _ _ _)
          exact Kept.refl _ _
      · refine Kept.ite ?_ ?_
        · split
          ·
            refine stateOf_kept ?_ ?_
            · exact Kept.refl _ _
            · refine OutKept.step ?_ (execMonCfgWrite_kept _ _ _ _)
              exact Kept.refl _ _
          ·
            refine stateOf_kept ?_ ?_
            · exact Kept.refl _ _
            · refine OutKept.step ?_ (execMonCfgWrite_kept _ _ _ _)
              exact Kept.refl _ _
          ·
            refine Kept.ite ?_ ?_
            · refine stateOf_kept ?_ ?_
              · exact Kept.refl _ _
              · refine OutKept.step ?_ (execMonCalGo_kept _ _)
                exact Kept.refl _ _
            · exact Kept.refl _ _
          ·
            refine Kept.step ?_ (State.wrSoft_kept _ _ _)
            exact Kept.refl _ _
        · refine Kept.step ?_ (State.wrSoft_kept _ _ _)
          exact Kept.refl _ _

theorem State.writePwr_kept : ∀ s a1 a2 a3, Kept 0x327a77bff7ff8 s (State.writePwr s a1 a2 a3) := by
  intro s a1 a2 a3
  unfold State.writePwr
  extract_lets +onlyGivenNames -merge -underBinder x1
  refine Kept.ite ?_ ?_
  · refine stateOf_kept ?_ ?_
    · exact Kept.refl _ _
    · refine OutKept.step ?_ (execPwrStateGo_kept _ _)
      exact Kept.refl _ _
  · refine Kept.ite ?_ ?_
    · refine stateOf_kept ?_ ?_
      · exact Kept.refl _ _
      · refine OutKept.step ?_ (execPwrLimitWrite_kept _ _)
        exact Kept.refl _ _
    · refine Kept.ite ?_ ?_
      · split
        ·
          refine stateOf_kept ?_ ?_
          · exact Kept.refl _ _
          · refine OutKept.step ?_ (execPwrDomReset_kept _ _)
            exact Kept.refl _ _
        ·
          refine stateOf_kept ?_ ?_
          · exact Kept.refl _ _
          · refine OutKept.step ?_ (execPwrDomOff_kept _ _)
            exact Kept.refl _ _
        ·
          refine stateOf_kept ?_ ?_
          · exact Kept.refl _ _
          · refine OutKept.step ?_ (execPwrDomOn_kept _ _)
            exact Kept.refl _ _
        ·
          exact Kept.refl _ _
      · refine Kept.step ?_ (State.wrSoft_kept _ _ _)
        exact Kept.refl _ _

theorem State.writeJig_kept : ∀ s a1 a2 a3, Kept 0x247043a00108 s (State.writeJig s a1 a2 a3) := by
  intro s a1 a2 a3
  unfold State.writeJig
  extract_lets +onlyGivenNames -merge -underBinder x1
  extract_lets +onlyGivenNames -merge -underBinder x2
  refine Kept.ite ?_ ?_
  · split
    ·
      extract_lets +onlyGivenNames -merge -underBinder x3
      refine stateOf_kept ?_ ?_
      · exact Kept.refl _ _
      · refine OutKept.step ?_ (execJigVerify_kept _ _ _)
        exact Kept.refl _ _
    ·
      refine stateOf_kept ?_ ?_
      · exact Kept.refl _ _
      · refine OutKept.step ?_ (execJigApply_kept _ _)
        exact Kept.refl _ _
    ·
      refine stateOf_kept ?_ ?_
      · exact Kept.refl _ _
      · refine OutKept.step ?_ (execJigRollback_kept _)
        exact Kept.refl _ _
    ·
      refine stateOf_kept ?_ ?_
      · exact Kept.refl _ _
      · refine OutKept.step ?_ (execJigDiscard_kept _)
        exact Kept.refl _ _
    ·
      exact Kept.refl _ _
  · refine Kept.ite ?_ ?_
    · extract_lets +onlyGivenNames -merge -underBinder x4
      extract_lets +onlyGivenNames -merge -underBinder x5
      split
      ·
        extract_lets +onlyGivenNames -merge -underBinder x6
        refine stateOf_kept ?_ ?_
        · exact Kept.refl _ _
        · refine OutKept.step ?_ (execFwVerify_kept _ _ _ _)
          exact Kept.refl _ _
      ·
        refine stateOf_kept ?_ ?_
        · exact Kept.refl _ _
        · refine OutKept.step ?_ (execFwActivate_kept _ _ _ _)
          exact Kept.refl _ _
      ·
        refine stateOf_kept ?_ ?_
        · exact Kept.refl _ _
        · refine OutKept.step ?_ (execFwCommit_kept _ _)
          exact Kept.refl _ _
      ·
        refine stateOf_kept ?_ ?_
        · exact Kept.refl _ _
        · refine OutKept.step ?_ (execFwActivateOther_kept _ _ _ _)
          exact Kept.refl _ _
      ·
        exact Kept.refl _ _
    · refine Kept.step ?_ (State.wrSoft_kept _ _ _)
      exact Kept.refl _ _

theorem State.writeIn_kept : ∀ s a1 a2 a3 a4 a5, Kept 0x327f77bfffffc s (State.writeIn s a1 a2 a3 a4 a5) := by
  intro s a1 a2 a3 a4 a5
  unfold State.writeIn
  extract_lets +onlyGivenNames -merge -underBinder x1
  extract_lets +onlyGivenNames -merge -underBinder x2
  split
  ·
    refine Kept.step ?_ (State.writeDev_kept _ _ _ _)
    exact Kept.refl _ _
  ·
    refine Kept.step ?_ (State.writeLth_kept _ _ _ _ _)
    exact Kept.refl _ _
  ·
    refine Kept.step ?_ (State.writeStr_kept _ _ _ _ _)
    exact Kept.refl _ _
  ·
    refine Kept.step ?_ (State.writeIzp_kept _ _ _ _ _)
    exact Kept.refl _ _
  ·
    refine Kept.step ?_ (State.writeFab_kept _ _ _ _)
    exact Kept.refl _ _
  ·
    refine Kept.step ?_ (State.writeStd_kept _ _ _ _)
    exact Kept.refl _ _
  ·
    refine Kept.step ?_ (State.writeTrm_kept _ _ _ _)
    exact Kept.refl _ _
  ·
    refine Kept.step ?_ (State.writeMon_kept _ _ _ _)
    exact Kept.refl _ _
  ·
    refine Kept.step ?_ (State.writePwr_kept _ _ _ _)
    exact Kept.refl _ _
  ·
    refine Kept.step ?_ (State.writeJig_kept _ _ _ _)
    exact Kept.refl _ _
  ·
    refine Kept.ite ?_ ?_
    · extract_lets +onlyGivenNames -merge -underBinder x3
      have h3 : Kept 0x327f77bfffffc s x3 := by
        unfold x3
        refine Kept.step ?_ (State.wrSoft_kept _ _ _)
        exact Kept.refl _ _
      clear_value x3
      refine stateOf_kept ?_ ?_
      · exact h3
      · refine OutKept.step ?_ (execAccModeWrite_kept _ _ _)
        exact h3
    · refine Kept.step ?_ (State.wrSoft_kept _ _ _)
      exact Kept.refl _ _
  ·
    refine Kept.ite ?_ ?_
    · refine stateOf_kept ?_ ?_
      · exact Kept.refl _ _
      · refine OutKept.step ?_ (execSeedWrite_kept _ _ _)
        exact Kept.refl _ _
    · refine Kept.step ?_ (State.wrSoft_kept _ _ _)
      exact Kept.refl _ _
  ·
    refine Kept.ite ?_ ?_
    · extract_lets +onlyGivenNames -merge -underBinder x4
      have h4 : Kept 0x327f77bfffffc s x4 := by
        unfold x4
        refine Kept.ite ?_ ?_
        · refine stateOf_kept ?_ ?_
          · exact Kept.refl _ _
          · refine OutKept.step ?_ (execCalGo_kept _ _)
            exact Kept.refl _ _
        · exact Kept.refl _ _
      clear_value x4
      refine Kept.ite ?_ ?_
      · refine stateOf_kept ?_ ?_
        · exact h4
        · refine OutKept.step ?_ (execCalCancel_kept _ _)
          exact h4
      · exact h4
    · refine Kept.step ?_ (State.wrSoft_kept _ _ _)
      exact Kept.refl _ _
  ·
    extract_lets +onlyGivenNames -merge -underBinder x5
    refine Kept.ite ?_ ?_
    · refine stateOf_kept ?_ ?_
      · exact Kept.refl _ _
      · refine OutKept.step ?_ (execSemValWrite_kept _ _ _)
        exact Kept.refl _ _
    · refine Kept.ite ?_ ?_
      · refine stateOf_kept ?_ ?_
        · exact Kept.refl _ _
        · refine OutKept.step ?_ (execSemAddWrite_kept _ _ _)
          exact Kept.refl _ _
      · refine Kept.step ?_ (State.wrSoft_kept _ _ _)
        exact Kept.refl _ _
  ·
    refine stateOf_kept ?_ ?_
    · exact Kept.refl _ _
    · refine OutKept.step ?_ (execWtbWrite_kept _ _ _ _)
      exact Kept.refl _ _
  ·
    refine Kept.ite ?_ ?_
    · refine Kept.step ?_ (State.wrLimited_kept _ _ _ _ _)
      exact Kept.refl _ _
    · refine Kept.ite ?_ ?_
      · refine stateOf_kept ?_ ?_
        · exact Kept.refl _ _
        · refine OutKept.step ?_ (execRetireGo_kept _ _ _)
          exact Kept.refl _ _
      · refine Kept.step ?_ (State.wrSoft_kept _ _ _)
        exact Kept.refl _ _
  ·
    refine Kept.ite ?_ ?_
    · refine (Kept.upd ?_).kept
      exact Kept.refl _ _
    · refine Kept.ite ?_ ?_
      · refine stateOf_kept ?_ ?_
        · exact Kept.refl _ _
        · refine OutKept.step ?_ (execFtmSet_kept _ _)
          exact Kept.refl _ _
      · refine Kept.step ?_ (State.wrSoft_kept _ _ _)
        exact Kept.refl _ _
  ·
    refine Kept.ite ?_ ?_
    · refine Kept.step ?_ (State.wf_kept _ _ _ _)
      refine Kept.step ?_ (State.wf_kept _ _ _ _)
      exact Kept.refl _ _
    · refine Kept.ite ?_ ?_
      · extract_lets +onlyGivenNames -merge -underBinder x6
        have h6 : Kept 0x327f77bfffffc s x6 := by
          unfold x6
          refine Kept.step ?_ (State.wrSoft_kept _ _ _)
          exact Kept.refl _ _
        clear_value x6
        refine Kept.ite ?_ ?_
        · exact h6
        · refine Kept.step ?_ (State.wb_kept _ _ _ _)
          refine Kept.step ?_ (State.wb_kept _ _ _ _)
          exact h6
      · refine Kept.ite ?_ ?_
        · split
          ·
            refine stateOf_kept ?_ ?_
            · exact Kept.refl _ _
            · refine OutKept.step ?_ (execHistRead_kept _)
              exact Kept.refl _ _
          ·
            refine stateOf_kept ?_ ?_
            · exact Kept.refl _ _
            · refine OutKept.step ?_ (execHistClear_kept _)
              exact Kept.refl _ _
          ·
            exact Kept.refl _ _
        · refine Kept.step ?_ (State.wrSoft_kept _ _ _)
          exact Kept.refl _ _
  ·
    extract_lets +onlyGivenNames -merge -underBinder x7
    refine Kept.ite ?_ ?_
    · refine stateOf_kept ?_ ?_
      · exact Kept.refl _ _
      · refine OutKept.step ?_ (execEvtQueueEnable_kept _ _ _)
        exact Kept.refl _ _
    · refine Kept.ite ?_ ?_
      · refine stateOf_kept ?_ ?_
        · exact Kept.refl _ _
        · refine OutKept.step ?_ (execEvtHeadWrite_kept _ _ _)
          exact Kept.refl _ _
      · refine Kept.step ?_ (State.wrSoft_kept _ _ _)
        exact Kept.refl _ _
  ·
    refine Kept.ite ?_ ?_
    · refine Kept.step ?_ (State.wb_kept _ _ _ _)
      refine Kept.step ?_ (State.wb_kept _ _ _ _)
      exact Kept.refl _ _
    · refine Kept.step ?_ (State.wrSoft_kept _ _ _)
      exact Kept.refl _ _
  ·
    refine Kept.ite ?_ ?_
    · refine Kept.ite ?_ ?_
      · refine Kept.step ?_ (State.ventArrive_kept _ _)
        exact Kept.refl _ _
      · exact Kept.refl _ _
    · refine Kept.step ?_ (State.wrSoft_kept _ _ _)
      exact Kept.refl _ _
  ·
    refine Kept.step ?_ (State.wrSoft_kept _ _ _)
    exact Kept.refl _ _
  ·
    refine Kept.step ?_ (State.wrSoft_kept _ _ _)
    exact Kept.refl _ _
  ·
    refine Kept.step ?_ (State.wrSoft_kept _ _ _)
    exact Kept.refl _ _
  ·
    refine Kept.step ?_ (State.wrSoft_kept _ _ _)
    exact Kept.refl _ _
  ·
    refine Kept.step ?_ (State.wrSoft_kept _ _ _)
    exact Kept.refl _ _

theorem State.writeWord_kept : ∀ s a1 a2, Kept 0x327f77bfffffc s (State.writeWord s a1 a2) := by
  intro s a1 a2
  unfold State.writeWord
  split
  ·
    exact Kept.refl _ _
  ·
    extract_lets +onlyGivenNames -merge -underBinder x1
    have h1 : Kept 0x327f77bfffffc s x1 := by
      unfold x1
      split
      ·
        refine Kept.ite ?_ ?_
        · refine Kept.step ?_ (State.statClear_kept _ _ _)
          exact Kept.refl _ _
        · exact Kept.refl _ _
      ·
        exact Kept.refl _ _
    clear_value x1
    refine Kept.ite ?_ ?_
    · refine Kept.step ?_ (State.writeIn_kept _ _ _ _ _ _)
      exact h1
    · exact h1

theorem State.regWrite_kept : ∀ s a1 a2 a3, Kept 0x327f77bfffffc s (State.regWrite s a1 a2 a3) := by
  intro s a1 a2 a3
  unfold State.regWrite
  refine Kept.ite ?_ ?_
  · exact Kept.refl _ _
  · refine Kept.ite ?_ ?_
    · refine Kept.step ?_ (State.offAccess_kept _)
      exact Kept.refl _ _
    · extract_lets +onlyGivenNames -merge -underBinder x1
      have h1 : Kept 0x327f77bfffffc s x1 := by
        unfold x1
        refine Kept.step ?_ (State.writeWord_kept _ _ _)
        exact Kept.refl _ _
      clear_value x1
      refine Kept.ite ?_ ?_
      · refine Kept.step ?_ (State.writeWord_kept _ _ _)
        exact h1
      · exact h1

theorem State.readWord_kept : ∀ s a1, Kept 0x20000008 s (State.readWord s a1).2 := by
  intro s a1
  unfold State.readWord
  extract_lets +onlyGivenNames -merge -underBinder x1
  refine Kept.ite2 ?_ ?_
  · dsimp only
    refine (Kept.upd ?_).kept
    exact Kept.refl _ _
  · refine Kept.ite2 ?_ ?_
    · dsimp only
      refine Kept.step ?_ (State.wr_kept _ _ _)
      exact Kept.refl _ _
    · split
      ·
        refine Kept.ite2 ?_ ?_
        · dsimp only
          refine Kept.step ?_ (State.wr_kept _ _ _)
          exact Kept.refl _ _
        · dsimp only
          exact Kept.refl _ _
      ·
        dsimp only
        exact Kept.refl _ _

theorem State.regRead_kept : ∀ s a1 a2, Kept 0x20000008 s (State.regRead s a1 a2).2 := by
  intro s a1 a2
  unfold State.regRead
  refine Kept.ite2 ?_ ?_
  · dsimp only
    exact Kept.refl _ _
  · refine Kept.ite2 ?_ ?_
    · dsimp only
      refine Kept.step ?_ (State.offAccess_kept _)
      exact Kept.refl _ _
    · split
      next y1 q1 =>
        have h1 : Kept 0x20000008 s y1 := Kept.snd q1 (by
          refine Kept.step ?_ (State.readWord_kept _ _)
          exact Kept.refl _ _)
        refine Kept.ite2 ?_ ?_
        · split
          next y2 q2 =>
            have h2 : Kept 0x20000008 s y2 := Kept.snd q2 (by
              refine Kept.step ?_ (State.readWord_kept _ _)
              exact h1)
            dsimp only
            exact h2
        · dsimp only
          exact h1

end Sys2Proof.Machine
end

