-- ==== Sys2Proof/Laws/FrameRegisters.lean ====
section
/-! SUPPORT. What each operation of `Machine/Registers.lean` may change: one lemma each, the parts it may change as a mask of `Part.no` bits. -/
set_option linter.unusedVariables false
set_option Elab.async false
namespace Sys2Proof.Machine

theorem execRegisterWrite_kept : ∀ a0 a1 a2 s, OutKept 0x327f77bfffffc s (execRegisterWrite a0 a1 a2 s) := by
  intro a0 a1 a2 s
  unfold execRegisterWrite
  refine OutKept.next ?_
  refine Kept.step ?_ (State.regWrite_kept _ _ _ _)
  refine Kept.step ?_ (State.wakeLink_kept _)
  exact Kept.refl _ _

theorem execStatClr_kept : ∀ a0 s, OutKept 0x108 s (execStatClr a0 s) := by
  intro a0 s
  unfold execStatClr
  split
  ·
    refine State.atBlock_kept _ (by decide) (fun s0 h0 => ?_)
    refine OutKept.next ?_
    refine Kept.step ?_ (State.statClear_kept _ _ _)
    exact h0

theorem State.unmappedRead_kept : ∀ s a1 a2 a3 a4, Kept 0x1242000000008 s (State.unmappedRead s a1 a2 a3 a4) := by
  intro s a1 a2 a3 a4
  unfold State.unmappedRead
  extract_lets +onlyGivenNames -merge -underBinder x1
  have h1 : Kept 0x1242000000008 s x1 := by
    unfold x1
    refine Kept.step ?_ (State.unmappedEvent_kept _ _ _ _ _)
    exact Kept.refl _ _
  clear_value x1
  extract_lets +onlyGivenNames -merge -underBinder x2
  have h2 : Kept 0x1242000000008 s x2 := by
    unfold x2
    refine Kept.ite ?_ ?_
    · refine Kept.step ?_ (State.bump_kept _ _ _)
      exact h1
    · exact h1
  clear_value x2
  refine (Kept.upd ?_).kept
  exact h2

theorem execUnmappedAccess_kept : ∀ a0 a1 a2 a3 s, OutKept 0x1242000000008 s (execUnmappedAccess a0 a1 a2 a3 s) := by
  intro a0 a1 a2 a3 s
  unfold execUnmappedAccess
  refine OutKept.next ?_
  refine Kept.ite ?_ ?_
  · exact Kept.refl _ _
  · refine Kept.ite ?_ ?_
    · refine Kept.step ?_ (State.unmappedEvent_kept _ _ _ _ _)
      exact Kept.refl _ _
    · refine Kept.step ?_ (State.unmappedRead_kept _ _ _ _ _)
      exact Kept.refl _ _

theorem execAccWindowRead_kept : ∀ a0 s, OutKept 0x1242000000008 s (execAccWindowRead a0 s) := by
  intro a0 s
  unfold execAccWindowRead
  extract_lets +onlyGivenNames -merge -underBinder x1
  refine OutKept.next ?_
  split
  ·
    refine Kept.ite ?_ ?_
    · refine (Kept.upd ?_).kept
      exact Kept.refl _ _
    · refine Kept.step ?_ (State.unmappedRead_kept _ _ _ _ _)
      exact Kept.refl _ _
  ·
    exact Kept.refl _ _

theorem execRegisterRead_kept : ∀ a0 a1 s, OutKept 0x1000020000008 s (execRegisterRead a0 a1 s) := by
  intro a0 a1 s
  unfold execRegisterRead
  split
  next y1 q1 =>
    have h1 : Kept 0x1000020000008 s y1 := Kept.snd q1 (by
      refine Kept.step ?_ (State.regRead_kept _ _ _)
      refine Kept.step ?_ (State.wakeLink_kept _)
      exact Kept.refl _ _)
    refine OutKept.next ?_
    refine (Kept.upd ?_).kept
    exact h1

end Sys2Proof.Machine
end

