-- ==== Sys2Proof/Laws/FrameTraining.lean ====
section
/-! SUPPORT. What each operation of `Machine/Training.lean` may change: one lemma each, the parts it may change as a mask of `Part.no` bits. -/
set_option linter.unusedVariables false
set_option Elab.async false
namespace Sys2Proof.Machine

theorem execHbmTrainingEnd_kept : ∀ a0 a1 a2 s, OutKept 0x242002006018 s (execHbmTrainingEnd a0 a1 a2 s) := by
  intro a0 a1 a2 s
  unfold execHbmTrainingEnd
  extract_lets +onlyGivenNames -merge -underBinder x1
  extract_lets +onlyGivenNames -merge -underBinder x2
  refine OutKept.next ?_
  refine Kept.ite ?_ ?_
  · exact Kept.refl _ _
  · refine Kept.ite ?_ ?_
    · refine Kept.step ?_ (State.post_kept _ _ _ _ _ _)
      refine Kept.step ?_ (State.stackOff_kept _ _ _)
      exact Kept.refl _ _
    · extract_lets +onlyGivenNames -merge -underBinder x3
      have h3 : Kept 0x242002006018 s x3 := by
        unfold x3
        refine Kept.foldl ?_ (fun _ _ h4 => ?_)
        · exact Kept.refl _ _
        · refine Kept.step ?_ (State.wb_kept _ _ _ _)
          exact h4
      clear_value x3
      extract_lets +onlyGivenNames -merge -underBinder x5
      have h5 : Kept 0x242002006018 s x5 := by
        unfold x5
        refine Kept.foldl ?_ (fun _ _ h6 => ?_)
        · exact h3
        · refine Kept.step ?_ (State.placeRetired_kept _ _ _ _)
          exact h6
      clear_value x5
      extract_lets +onlyGivenNames -merge -underBinder x7
      have h7 : Kept 0x242002006018 s x7 := by
        unfold x7
        refine Kept.foldl ?_ (fun _ _ h8 => ?_)
        · exact h5
        · refine Kept.step ?_ (State.placeRetired_kept _ _ _ _)
          exact h8
      clear_value x7
      extract_lets +onlyGivenNames -merge -underBinder x9
      extract_lets +onlyGivenNames -merge -underBinder x10
      have h10 : Kept 0x242002006018 s x10 := by
        unfold x10
        refine Kept.step ?_ (State.wb_kept _ _ _ _)
        refine Kept.step ?_ (State.wf_kept _ _ _ _)
        exact h7
      clear_value x10
      refine Kept.foldl ?_ (fun _ _ h11 => ?_)
      · exact h10
      · refine Kept.step ?_ (State.post_kept _ _ _ _ _ _)
        exact h11

end Sys2Proof.Machine
end

