-- ==== Sys2Proof/Laws/FrameVent.lean ====
section
/-! SUPPORT. What each operation of `Machine/Vent.lean` may change: one lemma each, the parts it may change as a mask of `Part.no` bits. -/
set_option linter.unusedVariables false
set_option Elab.async false
namespace Sys2Proof.Machine

theorem execVentStatus_kept : ∀ a0 a1 s, OutKept 0x327277bfffff8 s (execVentStatus a0 a1 s) := by
  intro a0 a1 s
  unfold execVentStatus
  refine OutKept.next ?_
  refine Kept.step ?_ (State.ventArrive_kept _ _)
  exact Kept.refl _ _

theorem execVentHistory_kept : ∀ a0 a1 a2 s, OutKept 0x327277bfffff8 s (execVentHistory a0 a1 a2 s) := by
  intro a0 a1 a2 s
  unfold execVentHistory
  refine OutKept.next ?_
  refine Kept.step ?_ (State.ventArrive_kept _ _)
  exact Kept.refl _ _

theorem execVentDomainReset_kept : ∀ a0 a1 a2 s, OutKept 0x327277bfffff8 s (execVentDomainReset a0 a1 a2 s) := by
  intro a0 a1 a2 s
  unfold execVentDomainReset
  refine OutKept.next ?_
  refine Kept.step ?_ (State.ventArrive_kept _ _)
  exact Kept.refl _ _

theorem execVentDeviceReset_kept : ∀ a0 a1 s, OutKept 0x327277bfffff8 s (execVentDeviceReset a0 a1 s) := by
  intro a0 a1 s
  unfold execVentDeviceReset
  refine OutKept.next ?_
  refine Kept.step ?_ (State.ventArrive_kept _ _)
  exact Kept.refl _ _

theorem execVentAbortAll_kept : ∀ a0 a1 s, OutKept 0x327277bfffff8 s (execVentAbortAll a0 a1 s) := by
  intro a0 a1 s
  unfold execVentAbortAll
  refine OutKept.next ?_
  refine Kept.step ?_ (State.ventArrive_kept _ _)
  exact Kept.refl _ _

theorem execAbortAllTimeout_kept : ∀ s, OutKept 0x327277bfffff8 s (execAbortAllTimeout s) := by
  intro s
  unfold execAbortAllTimeout
  refine OutKept.next ?_
  split
  ·
    refine Kept.ite ?_ ?_
    · exact Kept.refl _ _
    · extract_lets +onlyGivenNames -merge -underBinder x1
      refine Kept.step ?_ (State.ventSettle_kept _)
      refine Kept.foldl ?_ (fun _ _ h2 => ?_)
      · exact Kept.refl _ _
      · refine Kept.step ?_ (State.resetEvent_kept _ _ _)
        refine Kept.step ?_ (State.groupReset_kept _ _ _)
        exact h2
  ·
    exact Kept.refl _ _

theorem execVentPowerDown_kept : ∀ a0 a1 a2 s, OutKept 0x327277bfffff8 s (execVentPowerDown a0 a1 a2 s) := by
  intro a0 a1 a2 s
  unfold execVentPowerDown
  refine OutKept.next ?_
  refine Kept.step ?_ (State.ventArrive_kept _ _)
  exact Kept.refl _ _

theorem execVentBypassClose_kept : ∀ a0 a1 a2 s, OutKept 0x327277bfffff8 s (execVentBypassClose a0 a1 a2 s) := by
  intro a0 a1 a2 s
  unfold execVentBypassClose
  refine OutKept.next ?_
  refine Kept.step ?_ (State.ventArrive_kept _ _)
  exact Kept.refl _ _

theorem execVentThermalTrip_kept : ∀ a0 a1 s, OutKept 0x327277bfffff8 s (execVentThermalTrip a0 a1 s) := by
  intro a0 a1 s
  unfold execVentThermalTrip
  refine OutKept.next ?_
  refine Kept.step ?_ (State.ventArrive_kept _ _)
  exact Kept.refl _ _

theorem execVentJigRollback_kept : ∀ a0 a1 s, OutKept 0x327277bfffff8 s (execVentJigRollback a0 a1 s) := by
  intro a0 a1 s
  unfold execVentJigRollback
  refine OutKept.next ?_
  refine Kept.step ?_ (State.ventArrive_kept _ _)
  exact Kept.refl _ _

theorem execVentQuote_kept : ∀ a0 a1 a2 a3 s, OutKept 0x327277bfffff8 s (execVentQuote a0 a1 a2 a3 s) := by
  intro a0 a1 a2 a3 s
  unfold execVentQuote
  refine OutKept.next ?_
  refine Kept.step ?_ (State.ventArrive_kept _ _)
  exact Kept.refl _ _

theorem execVentTrimClear_kept : ∀ a0 a1 a2 s, OutKept 0x327277bfffff8 s (execVentTrimClear a0 a1 a2 s) := by
  intro a0 a1 a2 s
  unfold execVentTrimClear
  refine OutKept.next ?_
  refine Kept.step ?_ (State.ventArrive_kept _ _)
  exact Kept.refl _ _

theorem execVentWake_kept : ∀ a0 a1 s, OutKept 0x327277bfffff8 s (execVentWake a0 a1 s) := by
  intro a0 a1 s
  unfold execVentWake
  refine OutKept.next ?_
  refine Kept.step ?_ (State.ventArrive_kept _ _)
  exact Kept.refl _ _

theorem execVentPoisonMark_kept : ∀ a0 a1 a2 a3 s, OutKept 0x327277bfffff8 s (execVentPoisonMark a0 a1 a2 a3 s) := by
  intro a0 a1 a2 a3 s
  unfold execVentPoisonMark
  refine OutKept.next ?_
  refine Kept.step ?_ (State.ventArrive_kept _ _)
  exact Kept.refl _ _

end Sys2Proof.Machine
end

