-- ==== Sys2Proof/Laws/FrameStep.lean ====
section
/-! SUPPORT. What each operation of `Machine/Step.lean` may change: one lemma each, the parts it may change as a mask of `Part.no` bits. -/
set_option linter.unusedVariables false
set_option Elab.async false
namespace Sys2Proof.Machine

theorem State.countStalls_kept : ∀ s, Kept 0x8 s (State.countStalls s) := by
  intro s
  unfold State.countStalls
  extract_lets +onlyGivenNames -merge -underBinder x1
  have h1 : Kept 0x8 s x1 := by
    unfold x1
    refine Kept.ite ?_ ?_
    · exact Kept.refl _ _
    · refine Kept.step ?_ (State.bump_kept _ _ _)
      exact Kept.refl _ _
  clear_value x1
  extract_lets +onlyGivenNames -merge -underBinder x2
  have h2 : Kept 0x8 s x2 := by
    unfold x2
    refine Kept.ite ?_ ?_
    · exact h1
    · refine Kept.step ?_ (State.bump_kept _ _ _)
      exact h1
  clear_value x2
  extract_lets +onlyGivenNames -merge -underBinder x3
  have h3 : Kept 0x8 s x3 := by
    unfold x3
    refine Kept.ite ?_ ?_
    · exact h2
    · refine Kept.step ?_ (State.bump_kept _ _ _)
      exact h2
  clear_value x3
  refine Kept.foldl ?_ (fun _ _ h4 => ?_)
  · exact h3
  · extract_lets +onlyGivenNames -merge -underBinder x5
    have h5 : Kept 0x8 s x5 := by
      unfold x5
      refine Kept.ite ?_ ?_
      · refine Kept.step ?_ (State.bump_kept _ _ _)
        exact h4
      · exact h4
    clear_value x5
    refine Kept.ite ?_ ?_
    · exact h5
    · refine Kept.step ?_ (State.bump_kept _ _ _)
      exact h5

theorem State.sendAcks_kept : ∀ s, Kept 0x200000 s (State.sendAcks s) := by
  intro s
  unfold State.sendAcks
  refine Kept.foldl ?_ (fun _ _ h1 => ?_)
  · exact Kept.refl _ _
  · refine Kept.ite ?_ ?_
    · refine Kept.step ?_ (State.sendLink_kept _ _ _)
      exact h1
    · exact h1

theorem tick_kept : ∀ s, Kept 0x327277bfffffe s (tick s) := by
  intro s
  unfold tick
  extract_lets +onlyGivenNames -merge -underBinder x1
  extract_lets +onlyGivenNames -merge -underBinder x2
  extract_lets +onlyGivenNames -merge -underBinder x3
  extract_lets +onlyGivenNames -merge -underBinder x4
  have h4 : Kept 0x327277bfffffe s x4 := by
    unfold x4
    refine (Kept.upd ?_).kept
    exact Kept.refl _ _
  clear_value x4
  extract_lets +onlyGivenNames -merge -underBinder x5
  have h5 : Kept 0x327277bfffffe s x5 := by
    unfold x5
    refine Kept.ite ?_ ?_
    · refine Kept.step ?_ (State.wb_kept _ _ _ _)
      exact h4
    · exact h4
  clear_value x5
  refine Kept.step ?_ (State.ventSettle_kept _)
  refine Kept.foldl ?_ (fun _ _ h6 => ?_)
  · refine Kept.step ?_ (State.sendAcks_kept _)
    refine Kept.step ?_ (State.countStalls_kept _)
    exact h5
  · refine Kept.step ?_ (State.settleBank_kept _ _)
    exact h6

theorem State.withFetchWord_kept : ∀ s a1 a2, Kept 0x0 s (State.withFetchWord s a1 a2) := by
  intro s a1 a2
  unfold State.withFetchWord
  exact Kept.refl _ _

end Sys2Proof.Machine
end

