-- ==== Sys2Proof/Laws/State.lean ====
section
/-! SUPPORT. Reading back what was written: bit fields, register words, and the tables of records, over a canonical state. -/
set_option Elab.async false
namespace Sys2Proof.Machine

/-! ## Bit fields -/

theorem bits_lt (x lo w : Nat) : bits x lo w < 2 ^ w := Nat.mod_lt _ (Nat.two_pow_pos w)

theorem bits_testBit (x lo w i : Nat) : (bits x lo w).testBit i = (decide (i < w) && x.testBit (lo + i)) := by
  unfold bits
  rw [Nat.testBit_mod_two_pow, Nat.testBit_div_two_pow, Nat.add_comm]

/-- A number is its low part, the field, and the rest. -/
theorem split_bits (x lo w : Nat) : x = x % 2 ^ lo + 2 ^ lo * bits x lo w + 2 ^ (lo + w) * (x / 2 ^ (lo + w)) := by
  unfold bits
  have h1 := Nat.div_add_mod x (2 ^ lo)
  have h2 := Nat.div_add_mod (x / 2 ^ lo) (2 ^ w)
  have h3 : x / 2 ^ lo / 2 ^ w = x / 2 ^ (lo + w) := by rw [Nat.div_div_eq_div_mul, ← Nat.pow_add]
  rw [h3] at h2
  calc x = 2 ^ lo * (x / 2 ^ lo) + x % 2 ^ lo := h1.symm
    _ = 2 ^ lo * (2 ^ w * (x / 2 ^ (lo + w)) + x / 2 ^ lo % 2 ^ w) + x % 2 ^ lo := by rw [h2]
    _ = _ := by rw [Nat.mul_add, ← Nat.mul_assoc, ← Nat.pow_add]; omega

theorem setBits_eq (x lo w v : Nat) : setBits x lo w v = x % 2 ^ lo + 2 ^ lo * (v % 2 ^ w) + 2 ^ (lo + w) * (x / 2 ^ (lo + w)) := by
  have h := split_bits x lo w
  unfold setBits
  have e1 : bits x lo w * 2 ^ lo = 2 ^ lo * bits x lo w := Nat.mul_comm _ _
  have e2 : v % 2 ^ w * 2 ^ lo = 2 ^ lo * (v % 2 ^ w) := Nat.mul_comm _ _
  rw [e1, e2]
  omega

theorem bits_setBits_self (x lo w v : Nat) : bits (setBits x lo w v) lo w = v % 2 ^ w := by
  rw [setBits_eq]
  have hp := Nat.two_pow_pos lo
  have h1 : (x % 2 ^ lo + 2 ^ lo * (v % 2 ^ w) + 2 ^ (lo + w) * (x / 2 ^ (lo + w))) / 2 ^ lo = v % 2 ^ w + 2 ^ w * (x / 2 ^ (lo + w)) := by
    rw [Nat.pow_add, Nat.mul_assoc, Nat.add_assoc, ← Nat.mul_add, Nat.add_mul_div_left _ _ hp, Nat.div_eq_of_lt (Nat.mod_lt _ hp), Nat.zero_add]
  unfold bits
  rw [h1, Nat.add_mul_mod_self_left, Nat.mod_mod]

theorem setBits_testBit (x lo w v i : Nat) :
    (setBits x lo w v).testBit i = if lo ≤ i ∧ i < lo + w then v.testBit (i - lo) else x.testBit i := by
  have e : setBits x lo w v = 2 ^ (lo + w) * (x / 2 ^ (lo + w)) + (2 ^ lo * (v % 2 ^ w) + x % 2 ^ lo) := by rw [setBits_eq]; omega
  have hlo : x % 2 ^ lo < 2 ^ lo := Nat.mod_lt _ (Nat.two_pow_pos lo)
  have hin : 2 ^ lo * (v % 2 ^ w) + x % 2 ^ lo < 2 ^ (lo + w) := by
    have hv : v % 2 ^ w + 1 ≤ 2 ^ w := Nat.mod_lt _ (Nat.two_pow_pos w)
    have := Nat.mul_le_mul_left (2 ^ lo) hv
    rw [Nat.pow_add]; rw [Nat.mul_add] at this; omega
  rw [e, Nat.testBit_two_pow_mul_add _ hin]
  split
  · rw [Nat.testBit_two_pow_mul_add _ hlo]
    split
    · rw [if_neg (by omega), Nat.testBit_mod_two_pow]; simp only [*, decide_true, Bool.true_and]
    · rw [if_pos (by omega), Nat.testBit_mod_two_pow]
      have : i - lo < w := by omega
      simp only [this, decide_true, Bool.true_and]
  · rw [if_neg (by omega), Nat.testBit_div_two_pow]
    congr 1; omega

theorem bits_setBits_other (x lo w v lo' w' : Nat) (h : lo' + w' ≤ lo ∨ lo + w ≤ lo') : bits (setBits x lo w v) lo' w' = bits x lo' w' := by
  refine Nat.eq_of_testBit_eq fun i => ?_
  rw [bits_testBit, bits_testBit, setBits_testBit]
  by_cases hi : i < w'
  · rw [if_neg (by omega)]
  · simp only [hi, decide_false, Bool.false_and]

theorem setBits_lt {x lo w v n : Nat} (hx : x < 2 ^ n) (h : lo + w ≤ n) : setBits x lo w v < 2 ^ n := by
  refine Nat.lt_pow_two_of_testBit _ fun i hi => ?_
  rw [setBits_testBit, if_neg (by omega)]
  exact Nat.testBit_lt_two_pow (Nat.lt_of_lt_of_le hx (Nat.pow_le_pow_right (by decide) hi))

/-! ## Register words -/

theorem Canon.of_kept {m : Nat} {s t : State} (hs : Canon s) (h : Kept m s t) : Canon t := (h.2 hs).1

/-- The queue is no table. -/
theorem Canon.queue {s : State} (hs : Canon s) (q : List Instr) : Canon { s with pending := q } :=
  ⟨hs.regs, hs.heldLow, hs.mem, hs.marks, hs.hostMem, hs.accMem, hs.chkMem, hs.rowState, hs.lathes, hs.groups, hs.engines, hs.descs, hs.waiters,
    hs.hbmStacks, hs.rdc, hs.ports, hs.mcMsgs, hs.bypCause, hs.hist, hs.histFlash, hs.loops, hs.cores, hs.trims, hs.convs, hs.cals, hs.calFlash,
    hs.rails, hs.fws, hs.hostBad, hs.evtQs, hs.msixTable, hs.msixPending, hs.owners, hs.ctrs⟩

theorem rd_wr_self {s : State} (hs : Canon s) (o : Nat) (v : Word) : (s.wr o v).rd o = v := sget_sput_self hs.regs

theorem rd_wr_ne {s : State} (hs : Canon s) {o a : Nat} (v : Word) (h : a ≠ o) : (s.wr o v).rd a = s.rd a := sget_sput_ne hs.regs h

theorem rd_wf_ne {s : State} (hs : Canon s) {o a : Nat} (f : Fld) (v : Nat) (h : a ≠ o) : (s.wf o f v).rd a = s.rd a := rd_wr_ne hs _ h

theorem rf_wf_ne {s : State} (hs : Canon s) {o a : Nat} (f g : Fld) (v : Nat) (h : a ≠ o) : (s.wf o f v).rf a g = s.rf a g := by
  unfold State.rf; rw [rd_wf_ne hs f v h]

theorem rd_wf_self {s : State} (hs : Canon s) (o : Nat) (f : Fld) (v : Nat) (h : f.lo + f.w ≤ 32) :
    ((s.wf o f v).rd o).toNat = setBits (s.rd o).toNat f.lo f.w v := by
  unfold State.wf
  rw [rd_wr_self hs, BitVec.toNat_ofNat, Nat.mod_eq_of_lt (setBits_lt (s.rd o).isLt h)]

theorem rf_wf_self {s : State} (hs : Canon s) (o : Nat) (f : Fld) (v : Nat) (h : f.lo + f.w ≤ 32) : (s.wf o f v).rf o f = v % 2 ^ f.w := by
  unfold State.rf; rw [rd_wf_self hs o f v h, bits_setBits_self]

theorem rf_wf_other {s : State} (hs : Canon s) (o : Nat) (f g : Fld) (v : Nat) (h : f.lo + f.w ≤ 32)
    (hd : g.lo + g.w ≤ f.lo ∨ f.lo + f.w ≤ g.lo) : (s.wf o f v).rf o g = s.rf o g := by
  unfold State.rf; rw [rd_wf_self hs o f v h, bits_setBits_other _ _ _ _ _ _ hd]

theorem flag_wb_self {s : State} (hs : Canon s) (o : Nat) (f : Fld) (b : Bool) (h : f.lo + f.w ≤ 32) (hw : 0 < f.w) : (s.wb o f b).flag o f = b := by
  unfold State.flag State.wb
  rw [rf_wf_self hs o f _ h]
  have : 1 < 2 ^ f.w := Nat.one_lt_two_pow (by omega)
  cases b
  · simp only [b2n, Bool.false_eq_true, if_false, Nat.zero_mod]; decide
  · simp only [b2n, if_true, Nat.mod_eq_of_lt this]; decide

theorem rd64_wr64_self {s : State} (hs : Canon s) (o v : Nat) (h : v < 2 ^ 64) : (s.wr64 o v).rd64 o = v := by
  unfold State.wr64 State.rd64
  have h1 : Canon (s.wr o (BitVec.ofNat 32 v)) := hs.of_kept (m := 0x8) (Kept.upd (Kept.refl _ _)).kept
  rw [rd_wr_self h1, rd_wr_ne h1 _ (by omega), rd_wr_self hs, BitVec.toNat_ofNat, BitVec.toNat_ofNat,
    Nat.mod_eq_of_lt (a := v / 2 ^ 32) (by omega)]
  omega

/-! ## Tables of records -/

@[simp] theorem setLathe_lathe {s : State} (hs : Canon s) (n : Nat) (x : Lathe) : (s.setLathe n x).lathe n = x := sget_sput_self (dflt := fun _ => _) hs.lathes
theorem setLathe_lathe_ne {s : State} (hs : Canon s) {n j : Nat} (x : Lathe) (h : j ≠ n) : (s.setLathe n x).lathe j = s.lathe j := sget_sput_ne (dflt := fun _ => _) hs.lathes h
@[simp] theorem setLathe_rd (s : State) (n o : Nat) (x : Lathe) : (s.setLathe n x).rd o = s.rd o := rfl
@[simp] theorem setEngine_engine {s : State} (hs : Canon s) (b : Nat) (x : Engine) : (s.setEngine b x).engine b = x := sget_sput_self (dflt := fun _ => _) hs.engines
theorem setEngine_engine_ne {s : State} (hs : Canon s) {b j : Nat} (x : Engine) (h : j ≠ b) : (s.setEngine b x).engine j = s.engine j := sget_sput_ne (dflt := fun _ => _) hs.engines h
@[simp] theorem setEngine_rd (s : State) (b o : Nat) (x : Engine) : (s.setEngine b x).rd o = s.rd o := rfl
@[simp] theorem setStack_stack {s : State} (hs : Canon s) (m : Nat) (x : Stack) : (s.setStack m x).stack m = x := sget_sput_self (dflt := fun _ => _) hs.hbmStacks
theorem setStack_stack_ne {s : State} (hs : Canon s) {m j : Nat} (x : Stack) (h : j ≠ m) : (s.setStack m x).stack j = s.stack j := sget_sput_ne (dflt := fun _ => _) hs.hbmStacks h
@[simp] theorem setStack_rd (s : State) (m o : Nat) (x : Stack) : (s.setStack m x).rd o = s.rd o := rfl
@[simp] theorem setPort_port {s : State} (hs : Canon s) (p : Nat) (x : Port) : (s.setPort p x).port p = x := sget_sput_self (dflt := fun _ => _) hs.ports
theorem setPort_port_ne {s : State} (hs : Canon s) {p j : Nat} (x : Port) (h : j ≠ p) : (s.setPort p x).port j = s.port j := sget_sput_ne (dflt := fun _ => _) hs.ports h
@[simp] theorem setPort_rd (s : State) (p o : Nat) (x : Port) : (s.setPort p x).rd o = s.rd o := rfl
@[simp] theorem setLoop_loop {s : State} (hs : Canon s) (i : Nat) (x : Loop) : (s.setLoop i x).loop i = x := sget_sput_self (dflt := fun _ => _) hs.loops
theorem setLoop_loop_ne {s : State} (hs : Canon s) {i j : Nat} (x : Loop) (h : j ≠ i) : (s.setLoop i x).loop j = s.loop j := sget_sput_ne (dflt := fun _ => _) hs.loops h
@[simp] theorem setLoop_rd (s : State) (i o : Nat) (x : Loop) : (s.setLoop i x).rd o = s.rd o := rfl
@[simp] theorem setCore_core {s : State} (hs : Canon s) (c : Nat) (x : CoreSt) : (s.setCore c x).core c = x := sget_sput_self (dflt := fun _ => _) hs.cores
theorem setCore_core_ne {s : State} (hs : Canon s) {c j : Nat} (x : CoreSt) (h : j ≠ c) : (s.setCore c x).core j = s.core j := sget_sput_ne (dflt := fun _ => _) hs.cores h
@[simp] theorem setCore_rd (s : State) (c o : Nat) (x : CoreSt) : (s.setCore c x).rd o = s.rd o := rfl
@[simp] theorem setTrim_trim {s : State} (hs : Canon s) (i : Nat) (x : Trim) : (s.setTrim i x).trim i = x := sget_sput_self (dflt := fun _ => _) hs.trims
theorem setTrim_trim_ne {s : State} (hs : Canon s) {i j : Nat} (x : Trim) (h : j ≠ i) : (s.setTrim i x).trim j = s.trim j := sget_sput_ne (dflt := fun _ => _) hs.trims h
@[simp] theorem setTrim_rd (s : State) (i o : Nat) (x : Trim) : (s.setTrim i x).rd o = s.rd o := rfl
@[simp] theorem setConv_conv {s : State} (hs : Canon s) (c : Nat) (x : Conv) : (s.setConv c x).conv c = x := sget_sput_self (dflt := fun _ => _) hs.convs
theorem setConv_conv_ne {s : State} (hs : Canon s) {c j : Nat} (x : Conv) (h : j ≠ c) : (s.setConv c x).conv j = s.conv j := sget_sput_ne (dflt := fun _ => _) hs.convs h
@[simp] theorem setConv_rd (s : State) (c o : Nat) (x : Conv) : (s.setConv c x).rd o = s.rd o := rfl
@[simp] theorem setCal_cal {s : State} (hs : Canon s) (n : Nat) (x : Cal) : (s.setCal n x).cal n = x := sget_sput_self (dflt := fun _ => _) hs.cals
theorem setCal_cal_ne {s : State} (hs : Canon s) {n j : Nat} (x : Cal) (h : j ≠ n) : (s.setCal n x).cal j = s.cal j := sget_sput_ne (dflt := fun _ => _) hs.cals h
@[simp] theorem setCal_rd (s : State) (n o : Nat) (x : Cal) : (s.setCal n x).rd o = s.rd o := rfl
@[simp] theorem setFw_fw {s : State} (hs : Canon s) (k : Nat) (x : Fw) : (s.setFw k x).fw k = x := sget_sput_self (dflt := fun _ => _) hs.fws
theorem setFw_fw_ne {s : State} (hs : Canon s) {k j : Nat} (x : Fw) (h : j ≠ k) : (s.setFw k x).fw j = s.fw j := sget_sput_ne (dflt := fun _ => _) hs.fws h
@[simp] theorem setFw_rd (s : State) (k o : Nat) (x : Fw) : (s.setFw k x).rd o = s.rd o := rfl
@[simp] theorem setHist_histOf {s : State} (hs : Canon s) (k : Nat) (x : HistRec) : (s.setHist k x).histOf k = x := sget_sput_self (dflt := fun _ => _) hs.hist
theorem setHist_histOf_ne {s : State} (hs : Canon s) {k j : Nat} (x : HistRec) (h : j ≠ k) : (s.setHist k x).histOf j = s.histOf j := sget_sput_ne (dflt := fun _ => _) hs.hist h
@[simp] theorem setHist_rd (s : State) (k o : Nat) (x : HistRec) : (s.setHist k x).rd o = s.rd o := rfl
@[simp] theorem setWaiters_waitersOf {s : State} (hs : Canon s) (i : Nat) (x : List Waiter) : (s.setWaiters i x).waitersOf i = x := sget_sput_self (dflt := fun _ => _) hs.waiters
theorem setWaiters_waitersOf_ne {s : State} (hs : Canon s) {i j : Nat} (x : List Waiter) (h : j ≠ i) : (s.setWaiters i x).waitersOf j = s.waitersOf j := sget_sput_ne (dflt := fun _ => _) hs.waiters h
@[simp] theorem setWaiters_rd (s : State) (i o : Nat) (x : List Waiter) : (s.setWaiters i x).rd o = s.rd o := rfl
@[simp] theorem setRdc_rdcOf {s : State} (hs : Canon s) (c : Nat) (x : List RedOp) : (s.setRdc c x).rdcOf c = x := sget_sput_self (dflt := fun _ => _) hs.rdc
theorem setRdc_rdcOf_ne {s : State} (hs : Canon s) {c j : Nat} (x : List RedOp) (h : j ≠ c) : (s.setRdc c x).rdcOf j = s.rdcOf j := sget_sput_ne (dflt := fun _ => _) hs.rdc h
@[simp] theorem setRdc_rd (s : State) (c o : Nat) (x : List RedOp) : (s.setRdc c x).rd o = s.rd o := rfl
@[simp] theorem setGroup_group {s : State} (hs : Canon s) (n g : Nat) (x : Group) : (s.setGroup n g x).group n g = x := sget_sput_self (dflt := fun _ => _) hs.groups
@[simp] theorem setGroup_rd (s : State) (n g o : Nat) (x : Group) : (s.setGroup n g x).rd o = s.rd o := rfl
@[simp] theorem setDesc_desc {s : State} (hs : Canon s) (n d : Nat) (x : Desc) : (s.setDesc n d x).desc n d = x := sget_sput_self (dflt := fun _ => _) hs.descs
@[simp] theorem setDesc_rd (s : State) (n d o : Nat) (x : Desc) : (s.setDesc n d x).rd o = s.rd o := rfl

/-! ## What a write of a register word leaves -/

@[simp] theorem wr_pending (s : State) (o : Nat) (v : Word) : (s.wr o v).pending = s.pending := rfl
@[simp] theorem wr_clock (s : State) (o : Nat) (v : Word) : (s.wr o v).clock = s.clock := rfl
@[simp] theorem wr_ft (s : State) (o : Nat) (v : Word) : (s.wr o v).ft = s.ft := rfl
@[simp] theorem wr_mem (s : State) (o : Nat) (v : Word) : (s.wr o v).mem = s.mem := rfl
@[simp] theorem wr_marks (s : State) (o : Nat) (v : Word) : (s.wr o v).marks = s.marks := rfl
@[simp] theorem wr_accMem (s : State) (o : Nat) (v : Word) : (s.wr o v).accMem = s.accMem := rfl
@[simp] theorem wr_chkMem (s : State) (o : Nat) (v : Word) : (s.wr o v).chkMem = s.chkMem := rfl
@[simp] theorem wr_rowState (s : State) (o : Nat) (v : Word) : (s.wr o v).rowState = s.rowState := rfl
@[simp] theorem wr_lathes (s : State) (o : Nat) (v : Word) : (s.wr o v).lathes = s.lathes := rfl
@[simp] theorem wr_groups (s : State) (o : Nat) (v : Word) : (s.wr o v).groups = s.groups := rfl
@[simp] theorem wr_engines (s : State) (o : Nat) (v : Word) : (s.wr o v).engines = s.engines := rfl
@[simp] theorem wr_descs (s : State) (o : Nat) (v : Word) : (s.wr o v).descs = s.descs := rfl
@[simp] theorem wr_waiters (s : State) (o : Nat) (v : Word) : (s.wr o v).waiters = s.waiters := rfl
@[simp] theorem wr_stacks (s : State) (o : Nat) (v : Word) : (s.wr o v).hbmStacks = s.hbmStacks := rfl
@[simp] theorem wr_rdc (s : State) (o : Nat) (v : Word) : (s.wr o v).rdc = s.rdc := rfl
@[simp] theorem wr_scaleUpd (s : State) (o : Nat) (v : Word) : (s.wr o v).scaleUpd = s.scaleUpd := rfl
@[simp] theorem wr_scaleEval (s : State) (o : Nat) (v : Word) : (s.wr o v).scaleEval = s.scaleEval := rfl
@[simp] theorem wr_swaps (s : State) (o : Nat) (v : Word) : (s.wr o v).swaps = s.swaps := rfl
@[simp] theorem wr_swapWait (s : State) (o : Nat) (v : Word) : (s.wr o v).swapWait = s.swapWait := rfl
@[simp] theorem wr_uses (s : State) (o : Nat) (v : Word) : (s.wr o v).uses = s.uses := rfl
@[simp] theorem wr_verifying (s : State) (o : Nat) (v : Word) : (s.wr o v).verifying = s.verifying := rfl
@[simp] theorem wr_building (s : State) (o : Nat) (v : Word) : (s.wr o v).building = s.building := rfl
@[simp] theorem wr_reqs (s : State) (o : Nat) (v : Word) : (s.wr o v).reqs = s.reqs := rfl
@[simp] theorem wr_nextTag (s : State) (o : Nat) (v : Word) : (s.wr o v).nextTag = s.nextTag := rfl
@[simp] theorem wr_ports (s : State) (o : Nat) (v : Word) : (s.wr o v).ports = s.ports := rfl
@[simp] theorem wr_fabQueue (s : State) (o : Nat) (v : Word) : (s.wr o v).fabQueue = s.fabQueue := rfl
@[simp] theorem wr_sent (s : State) (o : Nat) (v : Word) : (s.wr o v).sent = s.sent := rfl
@[simp] theorem wr_mcMsgs (s : State) (o : Nat) (v : Word) : (s.wr o v).mcMsgs = s.mcMsgs := rfl
@[simp] theorem wr_mcOn (s : State) (o : Nat) (v : Word) : (s.wr o v).mcOn = s.mcOn := rfl
@[simp] theorem wr_bypOpening (s : State) (o : Nat) (v : Word) : (s.wr o v).bypOpening = s.bypOpening := rfl
@[simp] theorem wr_bypCause (s : State) (o : Nat) (v : Word) : (s.wr o v).bypCause = s.bypCause := rfl
@[simp] theorem wr_ftm (s : State) (o : Nat) (v : Word) : (s.wr o v).ftm = s.ftm := rfl
@[simp] theorem wr_hist (s : State) (o : Nat) (v : Word) : (s.wr o v).hist = s.hist := rfl
@[simp] theorem wr_histFlash (s : State) (o : Nat) (v : Word) : (s.wr o v).histFlash = s.histFlash := rfl
@[simp] theorem wr_histDirty (s : State) (o : Nat) (v : Word) : (s.wr o v).histDirty = s.histDirty := rfl
@[simp] theorem wr_loops (s : State) (o : Nat) (v : Word) : (s.wr o v).loops = s.loops := rfl
@[simp] theorem wr_cores (s : State) (o : Nat) (v : Word) : (s.wr o v).cores = s.cores := rfl
@[simp] theorem wr_trims (s : State) (o : Nat) (v : Word) : (s.wr o v).trims = s.trims := rfl
@[simp] theorem wr_trimPin (s : State) (o : Nat) (v : Word) : (s.wr o v).trimPin = s.trimPin := rfl
@[simp] theorem wr_trimVent (s : State) (o : Nat) (v : Word) : (s.wr o v).trimVent = s.trimVent := rfl
@[simp] theorem wr_trimSince (s : State) (o : Nat) (v : Word) : (s.wr o v).trimSince = s.trimSince := rfl
@[simp] theorem wr_convs (s : State) (o : Nat) (v : Word) : (s.wr o v).convs = s.convs := rfl
@[simp] theorem wr_temp (s : State) (o : Nat) (v : Word) : (s.wr o v).temp = s.temp := rfl
@[simp] theorem wr_cals (s : State) (o : Nat) (v : Word) : (s.wr o v).cals = s.cals := rfl
@[simp] theorem wr_calFlash (s : State) (o : Nat) (v : Word) : (s.wr o v).calFlash = s.calFlash := rfl
@[simp] theorem wr_keptCodes (s : State) (o : Nat) (v : Word) : (s.wr o v).keptCodes = s.keptCodes := rfl
@[simp] theorem wr_rails (s : State) (o : Nat) (v : Word) : (s.wr o v).rails = s.rails := rfl
@[simp] theorem wr_dips (s : State) (o : Nat) (v : Word) : (s.wr o v).dips = s.dips := rfl
@[simp] theorem wr_dipNo (s : State) (o : Nat) (v : Word) : (s.wr o v).dipNo = s.dipNo := rfl
@[simp] theorem wr_power (s : State) (o : Nat) (v : Word) : (s.wr o v).power = s.power := rfl
@[simp] theorem wr_sec (s : State) (o : Nat) (v : Word) : (s.wr o v).sec = s.sec := rfl
@[simp] theorem wr_jig (s : State) (o : Nat) (v : Word) : (s.wr o v).jig = s.jig := rfl
@[simp] theorem wr_fws (s : State) (o : Nat) (v : Word) : (s.wr o v).fws = s.fws := rfl
@[simp] theorem wr_fwBusy (s : State) (o : Nat) (v : Word) : (s.wr o v).fwBusy = s.fwBusy := rfl
@[simp] theorem wr_fabricIdFlash (s : State) (o : Nat) (v : Word) : (s.wr o v).fabricIdFlash = s.fabricIdFlash := rfl
@[simp] theorem wr_hostMem (s : State) (o : Nat) (v : Word) : (s.wr o v).hostMem = s.hostMem := rfl
@[simp] theorem wr_hostBad (s : State) (o : Nat) (v : Word) : (s.wr o v).hostBad = s.hostBad := rfl
@[simp] theorem wr_hostReqs (s : State) (o : Nat) (v : Word) : (s.wr o v).hostReqs = s.hostReqs := rfl
@[simp] theorem wr_ctoNs (s : State) (o : Nat) (v : Word) : (s.wr o v).ctoNs = s.ctoNs := rfl
@[simp] theorem wr_ctoOff (s : State) (o : Nat) (v : Word) : (s.wr o v).ctoOff = s.ctoOff := rfl
@[simp] theorem wr_evtFly (s : State) (o : Nat) (v : Word) : (s.wr o v).evtFly = s.evtFly := rfl
@[simp] theorem wr_evtQs (s : State) (o : Nat) (v : Word) : (s.wr o v).evtQs = s.evtQs := rfl
@[simp] theorem wr_limits (s : State) (o : Nat) (v : Word) : (s.wr o v).limits = s.limits := rfl
@[simp] theorem wr_msixTable (s : State) (o : Nat) (v : Word) : (s.wr o v).msixTable = s.msixTable := rfl
@[simp] theorem wr_msixPending (s : State) (o : Nat) (v : Word) : (s.wr o v).msixPending = s.msixPending := rfl
@[simp] theorem wr_msixSent (s : State) (o : Nat) (v : Word) : (s.wr o v).msixSent = s.msixSent := rfl
@[simp] theorem wr_vent (s : State) (o : Nat) (v : Word) : (s.wr o v).vent = s.vent := rfl
@[simp] theorem wr_perst (s : State) (o : Nat) (v : Word) : (s.wr o v).perst = s.perst := rfl
@[simp] theorem wr_recPin (s : State) (o : Nat) (v : Word) : (s.wr o v).recPin = s.recPin := rfl
@[simp] theorem wr_recovery (s : State) (o : Nat) (v : Word) : (s.wr o v).recovery = s.recovery := rfl
@[simp] theorem wr_recReply (s : State) (o : Nat) (v : Word) : (s.wr o v).recReply = s.recReply := rfl
@[simp] theorem wr_heldLow (s : State) (o : Nat) (v : Word) : (s.wr o v).heldLow = s.heldLow := rfl
@[simp] theorem wr_resp (s : State) (o : Nat) (v : Word) : (s.wr o v).resp = s.resp := rfl
@[simp] theorem wr_freeNo (s : State) (o : Nat) (v : Word) : (s.wr o v).freeNo = s.freeNo := rfl

end Sys2Proof.Machine
end

