-- ==== Sys2Proof/Laws/Memory.lean ====
section
/-! SUPPORT. Reading back a store to HBM or to an infeed store: the bytes stored, the bytes elsewhere, and the poison marks. -/
set_option Elab.async false
namespace Sys2Proof.Machine

/-- HBM and the infeed stores, as addresses (Table 1.3). -/
theorem isMem_iff (a : Nat) : isMem a = true ↔ a < 0x6000000000 ∨ (0xE000000000 ≤ a ∧ a < 0xE010000000) := by
  have no : false = true ↔ False := ⟨(nomatch ·), False.elim⟩
  unfold isMem region
  by_cases c1 : a < 0x6000000000
  · rw [if_pos c1]; simp only [true_iff]; omega
  by_cases c2 : a < 0x8000000000
  · rw [if_neg c1, if_pos c2]; simp only [no, false_iff]; omega
  by_cases c3 : a < 0xC000000000
  · rw [if_neg c1, if_neg c2, if_pos c3]; simp only [no, false_iff]; omega
  by_cases c4 : a < 0xE000000000
  · rw [if_neg c1, if_neg c2, if_neg c3, if_pos c4]; simp only [no, false_iff]; omega
  by_cases c5 : a < 0xE010000000
  · rw [if_neg c1, if_neg c2, if_neg c3, if_neg c4, if_pos c5]; simp only [true_iff]; omega
  rw [if_neg c1, if_neg c2, if_neg c3, if_neg c4, if_neg c5]
  have hn : ¬ (a < 0x6000000000 ∨ (0xE000000000 ≤ a ∧ a < 0xE010000000)) := by omega
  by_cases c6 : a < 0xE100000000
  · rw [if_pos c6]; simp only [no, false_iff]; exact hn
  by_cases c7 : a < 0xE108000000
  · rw [if_neg c6, if_pos c7]; simp only [no, false_iff]; exact hn
  by_cases c8 : a < 0xF000000000
  · rw [if_neg c6, if_neg c7, if_pos c8]; simp only [no, false_iff]; exact hn
  by_cases c9 : a < 0xF001000000
  · rw [if_neg c6, if_neg c7, if_neg c8, if_pos c9]; simp only [no, false_iff]; exact hn
  · rw [if_neg c6, if_neg c7, if_neg c8, if_neg c9]; simp only [no, false_iff]; exact hn

/-- A line lies in one store. -/
theorem isMem_line {a i : Nat} (h : isMem a = true) (hi : a % 64 + i < 64) : isMem (a + i) = true := by
  rw [isMem_iff] at h ⊢; omega

theorem setByte_mem {s : State} {a : Nat} (v : Byte) (h : isMem a = true) : s.setByte a v = { s with mem := sput 0 v s.mem a } := by
  unfold isMem at h
  unfold State.setByte
  cases hr : region a <;> simp only [hr] at h ⊢ <;> contradiction

theorem byte_mem (s : State) {a : Nat} (h : isMem a = true) (hj : s.inJournal a = false) : s.byte a = sget 0 s.mem a := by
  unfold isMem at h
  unfold State.inJournal at hj
  unfold State.byte
  cases hr : region a <;> simp only [hr] at h hj ⊢ <;> first | contradiction | exact if_neg (by simp [hj])

/-- A store to memory moves no journal region. -/
theorem inJournal_setByte (s : State) {a : Nat} (b : Nat) (v : Byte) (h : isMem a = true) : (s.setByte a v).inJournal b = s.inJournal b := by
  rw [setByte_mem v h]; rfl

/-- A journal region holds whole lines. -/
theorem inJournal_line {s : State} {a i : Nat} (h : s.inJournal a = false) (hi : a % 64 + i < 64) : s.inJournal (a + i) = false := by
  unfold State.inJournal State.journaled at *
  by_cases c : 0xE000000000 ≤ a ∧ a < 0xE010000000
  · have e : ∀ x, 0xE000000000 ≤ x → x < 0xE010000000 → region x = .infeed ((x - 0xE000000000) / 0x2000000) (x % 0x2000000) := by
      intro x h1 h2
      unfold region
      rw [if_neg (by omega), if_neg (by omega), if_neg (by omega), if_neg (by omega), if_pos h2]
    rw [e a c.1 c.2] at h
    rw [e (a + i) (by omega) (by omega)]
    dsimp only at h ⊢
    generalize 24 - s.spanMib = u at h ⊢
    generalize 32 - s.spanMib = v at h ⊢
    rw [Bool.and_eq_false_iff, Bool.and_eq_false_iff, decide_eq_false_iff_not, decide_eq_false_iff_not, decide_eq_false_iff_not] at h ⊢
    rcases h with (h | h) | h
    · exact Or.inl (Or.inl h)
    · exact Or.inl (Or.inr (by omega))
    · exact Or.inr (by omega)
  · have e : ∀ n o, region (a + i) ≠ .infeed n o := by
      intro n o hr
      have hm : isMem (a + i) = true := by unfold isMem; rw [hr]
      rw [isMem_iff] at hm
      unfold region at hr
      split at hr
      · cases hr
      all_goals omega
    split
    next n o hr => exact absurd hr (e n o)
    · rfl

theorem byte_setByte_self {s : State} (hs : Canon s) {a : Nat} (v : Byte) (h : isMem a = true) (hj : s.inJournal a = false) :
    (s.setByte a v).byte a = v := by
  rw [byte_mem _ h (by rw [inJournal_setByte s a v h]; exact hj), setByte_mem v h]; exact sget_sput_self (dflt := fun _ => 0) hs.mem

/-- A byte elsewhere is as before, whichever store holds it. -/
theorem byte_setByte_ne {s : State} (hs : Canon s) {a b : Nat} (v : Byte) (h : isMem a = true) (hb : b ≠ a) : (s.setByte a v).byte b = s.byte b := by
  have e : ∀ d, sget d (sput 0 v s.mem a) b = sget d s.mem b := fun d => sget_sput_ne (dflt := fun _ => 0) hs.mem hb
  rw [setByte_mem v h]
  unfold State.byte
  cases hr : region b with
  | infeed n o =>
    show (if s.journaled o = true then _ else sget 0 (sput 0 v s.mem a) b) = _
    rw [e]
  | _ => first | exact e 0 | rfl

theorem setBytes_other {s : State} (hs : Canon s) {data : List Byte} {a b : Nat} (h : ∀ i, i < data.length → isMem (a + i) = true)
    (hb : b < a ∨ a + data.length ≤ b) : (s.setBytes a data).byte b = s.byte b := by
  induction data generalizing s a with
  | nil => rfl
  | cons v t ih =>
    have hl : (v :: t).length = t.length + 1 := rfl
    unfold State.setBytes
    rw [ih ((State.setByte_kept s a v).2 hs).1 (fun i hi => by have := h (i + 1) (by omega); rwa [show a + (i + 1) = a + 1 + i by omega] at this) (by omega)]
    exact byte_setByte_ne hs v (by have := h 0 (by omega); simpa using this) (by omega)

theorem setBytes_byte {s : State} (hs : Canon s) {data : List Byte} {a i : Nat} (h : ∀ i, i < data.length → isMem (a + i) = true)
    (hj : ∀ i, i < data.length → s.inJournal (a + i) = false) (hi : i < data.length) : (s.setBytes a data).byte (a + i) = data[i] := by
  induction data generalizing s a i with
  | nil => exact absurd hi (Nat.not_lt_zero _)
  | cons v t ih =>
    have hl : (v :: t).length = t.length + 1 := rfl
    have h0 : isMem a = true := by have := h 0 (by omega); simpa using this
    have ht : ∀ i, i < t.length → isMem (a + 1 + i) = true := fun i hi => by
      have := h (i + 1) (by omega); rwa [show a + (i + 1) = a + 1 + i by omega] at this
    have hc := ((State.setByte_kept s a v).2 hs).1
    have hj0 : s.inJournal a = false := by have := hj 0 (by omega); simpa using this
    have htj : ∀ i, i < t.length → (s.setByte a v).inJournal (a + 1 + i) = false := fun i hi => by
      rw [inJournal_setByte s _ v h0]
      have := hj (i + 1) (by omega); rwa [show a + (i + 1) = a + 1 + i by omega] at this
    unfold State.setBytes
    cases i with
    | zero => rw [setBytes_other hc ht (by omega)]; exact byte_setByte_self hs v h0 hj0
    | succ i => rw [show a + (i + 1) = a + 1 + i by omega]; exact ih hc ht htj (by omega)

/-- What was stored is read back. -/
theorem bytes_setBytes {s : State} (hs : Canon s) {data : List Byte} {a : Nat} (h : ∀ i, i < data.length → isMem (a + i) = true)
    (hj : ∀ i, i < data.length → s.inJournal (a + i) = false) : (s.setBytes a data).bytes a data.length = data := by
  unfold State.bytes
  apply List.ext_getElem
  · simp
  · intro i h1 h2
    simp only [List.getElem_map, List.getElem_range]
    exact setBytes_byte hs h hj h2

theorem setMark_byte (s : State) (a b : Nat) (v : Bool) : (s.setMark a v).byte b = s.byte b := by
  unfold State.setMark
  split
  · rfl
  · unfold State.markHost
    repeat' split
    all_goals rfl

theorem isAperture_of_isMem {a : Nat} (h : isMem a = true) : isAperture a = false := by
  unfold isMem at h
  unfold isAperture
  cases hr : region a <;> simp only [hr] at h ⊢ <;> contradiction

theorem mark_setMark_self {s : State} (hs : Canon s) {a : Nat} (v : Bool) (h : isMem a = true) : (s.setMark a v).mark a = v := by
  unfold State.setMark State.mark
  rw [if_pos h, isAperture_of_isMem h]
  exact sget_sput_self (dflt := fun _ => false) hs.marks

theorem mark_setMark_ne {s : State} (hs : Canon s) {a b : Nat} (v : Bool) (h : isMem a = true) (hb : b / 64 ≠ a / 64) : (s.setMark a v).mark b = s.mark b := by
  unfold State.setMark State.mark
  rw [if_pos h]
  have e : sget false (sput false v s.marks (a / 64)) (b / 64) = sget false s.marks (b / 64) := sget_sput_ne (dflt := fun _ => false) hs.marks hb
  split
  · rfl
  · exact e

theorem mark_setBytes {s : State} {data : List Byte} {a b : Nat} (h : ∀ i, i < data.length → isMem (a + i) = true) : (s.setBytes a data).mark b = s.mark b := by
  induction data generalizing s a with
  | nil => rfl
  | cons v t ih =>
    have hl : (v :: t).length = t.length + 1 := rfl
    unfold State.setBytes
    rw [ih (fun i hi => by have := h (i + 1) (by omega); rwa [show a + (i + 1) = a + 1 + i by omega] at this),
      setByte_mem v (by have := h 0 (by omega); simpa using this)]
    rfl

theorem bump_rd_ne {s : State} (hs : Canon s) {o a : Nat} (k : Nat) (h : a ≠ o) (h4 : a ≠ o + 4) : (s.bump o k).rd a = s.rd a := by
  unfold State.bump State.wr64
  split
  · rfl
  · rw [rd_wr_ne (hs.of_kept (State.wr_kept _ _ _)) _ h4, rd_wr_ne hs _ h]

/-- `t` differs from `s` at most in its HBM stacks and in registers of the HBM block. -/
def OnlyHbm (s t : State) : Prop := Kept 0x2008 s t ∧ (Canon s → ∀ o, o < 0x400000 ∨ 0x480000 ≤ o → t.rd o = s.rd o)

theorem OnlyHbm.refl (s : State) : OnlyHbm s s := ⟨Kept.refl _ _, fun _ _ _ => rfl⟩

theorem OnlyHbm.trans {s t u : State} (h : OnlyHbm s t) (h' : OnlyHbm t u) : OnlyHbm s u :=
  ⟨h.1.trans h'.1, fun hs o ho => (h'.2 (hs.of_kept h.1) o ho).trans (h.2 hs o ho)⟩

theorem onlyHbm_setStack (s : State) (m : Nat) (x : Stack) : OnlyHbm s (s.setStack m x) :=
  ⟨(State.setStack_kept s m x).mono (by decide), fun _ _ _ => rfl⟩

theorem onlyHbm_bump (s : State) {m : Nat} (k : Nat) (hm : m < 8) : OnlyHbm s (s.bump (HBM_STAT_POISON_RD m) k) :=
  ⟨(State.bump_kept s _ k).mono (by decide), fun hs o ho =>
    bump_rd_ne hs k (by unfold HBM_STAT_POISON_RD; omega) (by unfold HBM_STAT_POISON_RD; omega)⟩

theorem onlyHbm_writeFresh (s : State) {l : Nat} (hl : l < 0x6000000000) : OnlyHbm s (s.writeFresh l) := by
  unfold State.writeFresh
  dsimp only
  split
  · exact OnlyHbm.refl s
  · exact (onlyHbm_bump s _ (by omega)).trans (onlyHbm_setStack _ _ _)

/-- Cancelling scrub write-backs, and noting fresh lines of a stack that migrates, touches the HBM block alone. -/
theorem onlyHbm_cancelScrub (s : State) {a len : Nat} (h : ∀ l ∈ lineAddrs a len, l < 0x6000000000) : OnlyHbm s (s.cancelScrub a len) := by
  unfold State.cancelScrub
  split
  · dsimp only
    have fold : ∀ (ls : List Nat) (t : State), (∀ l ∈ ls, l < 0x6000000000) → OnlyHbm s t → OnlyHbm s (ls.foldl State.writeFresh t) := by
      intro ls
      induction ls with
      | nil => intro t _ ht; exact ht
      | cons l ls ih => intro t hl ht; exact ih _ (fun x hx => hl x (List.mem_cons_of_mem _ hx)) (ht.trans (onlyHbm_writeFresh t (hl l List.mem_cons_self)))
    split
    · split
      · exact fold _ _ h (OnlyHbm.refl s)
      · exact OnlyHbm.refl s
    · split
      · exact fold _ _ h (onlyHbm_setStack _ _ _)
      · exact onlyHbm_setStack _ _ _
  · exact OnlyHbm.refl s

/-- A byte reads as before where only the HBM block changed. -/
theorem OnlyHbm.byte {s t : State} (h : OnlyHbm s t) (hs : Canon s) (b : Nat) : t.byte b = s.byte b := by
  have hm := Prod.mk.inj (h.1.1 .memory (by decide))
  have hh : t.hostMem = s.hostMem := h.1.1 .hostMemory (by decide)
  have ha := Prod.mk.inj (h.1.1 .accumulators (by decide))
  have hc : t.clock = s.clock := h.1.1 .clock (by decide)
  have hj : t.jig = s.jig := h.1.1 .jig (by decide)
  have jr : ∀ o, t.journaled o = s.journaled o := fun o => by
    unfold State.journaled State.jrnlMib State.spanMib State.jigBody; rw [hj]
  have rd := h.2 hs
  unfold State.byte
  cases hr : region b with
  | aperture w x =>
    have hw : w < 256 := by
      unfold region at hr
      repeat' split at hr
      all_goals first | contradiction | (injection hr with e1 e2; omega)
    have r1 : t.rd (PCI_APT w) = s.rd (PCI_APT w) := rd _ (by unfold PCI_APT; omega)
    have r2 : t.rd (PCI_APT w + 4) = s.rd (PCI_APT w + 4) := rd _ (by unfold PCI_APT; omega)
    simp only [State.hostAddr, State.rf64, State.rd64, r1, r2, hh]; rfl
  | accWin n o =>
    have hn : n < 8 := by
      unfold region at hr
      repeat' split at hr
      all_goals first | contradiction | (injection hr with e1 e2; omega)
    have r1 : t.rd DEV_DEBUG = s.rd DEV_DEBUG := rd _ (by decide)
    have r2 : t.rd (PWR_DOM_STATUS (40 + n)) = s.rd (PWR_DOM_STATUS (40 + n)) := rd _ (by unfold PWR_DOM_STATUS; omega)
    simp only [State.accReadable, State.debug, State.dom, State.rf, r1, r2, ha.1]; rfl
  | infeed n o => simp only [jr, hc, hm.1]
  | _ => first | (simp only [hm.1]; done) | (simp only [hm.1]; rfl)

/-- The mark of a line of HBM or of an infeed store stays where only the HBM block changed. -/
theorem OnlyHbm.mark {s t : State} (h : OnlyHbm s t) {b : Nat} (hb : isMem b = true) : t.mark b = s.mark b := by
  unfold State.mark
  rw [isAperture_of_isMem hb, (Prod.mk.inj (h.1.1 .memory (by decide))).2]
  rfl

end Sys2Proof.Machine
end

