-- ==== Sys2Proof/Laws/Numbers.lean ====
section
/-! SUPPORT. Little-endian numbers in a line of memory: storing one and reading it back, and the numbers beside it. -/
set_option Elab.async false
namespace Sys2Proof.Machine

/-- Digits of `v` base 256 add up to `v`, less what does not fit. -/
theorem leNum_eq (f : Nat → Nat) (v : Nat) : ∀ k : Nat, (∀ i, i < k → f i = v / 256 ^ i % 256) →
    (List.range k).foldr (fun i acc => f i + 256 * acc) 0 = v % 256 ^ k
  | k, h => by
    have gen : ∀ k, (∀ i, i < k → f i = v / 256 ^ i % 256) → ∀ z, (List.range k).foldr (fun i acc => f i + 256 * acc) z = v % 256 ^ k + 256 ^ k * z := by
      intro k
      induction k with
      | zero => intro _ z; simp [Nat.mod_one]
      | succ k ih =>
        intro h z
        rw [List.range_succ, List.foldr_append]
        simp only [List.foldr_cons, List.foldr_nil]
        rw [ih (fun i hi => h i (by omega)), h k (by omega), Nat.mod_pow_succ, Nat.pow_succ, Nat.mul_add]
        rw [Nat.mul_assoc, Nat.add_assoc]
    simpa using gen k h 0

/-- A number just stored in one line of memory reads back, less what does not fit. -/
theorem num_putNum {s : State} (hs : Canon s) {a k : Nat} (v : Nat) (h : isMem a = true) (hj : s.inJournal a = false)
    (hk : a % 64 + k ≤ 64) : (s.putNum a v k).num a k = v % 256 ^ k := by
  have hl : (leBytes v k).length = k := by unfold leBytes; simp
  unfold State.num State.putNum
  refine leNum_eq (fun i => ((s.setBytes a (leBytes v k)).byte (a + i)).toNat) v k fun i hi => ?_
  rw [setBytes_byte hs (fun j hj => isMem_line h (by omega)) (fun j _ => inJournal_line hj (by omega)) (by omega)]
  unfold leBytes
  simp

/-- A number stored in one line of memory leaves the numbers beside it. -/
theorem num_putNum_ne {s : State} (hs : Canon s) {a k b j : Nat} (v : Nat) (h : isMem a = true) (hk : a % 64 + k ≤ 64) (hb : b + j ≤ a ∨ a + k ≤ b) :
    (s.putNum a v k).num b j = s.num b j := by
  have hl : (leBytes v k).length = k := by unfold leBytes; simp
  unfold State.num State.putNum
  have : ∀ l : List Nat, (∀ i ∈ l, i < j) → l.foldr (fun i acc => ((s.setBytes a (leBytes v k)).byte (b + i)).toNat + 256 * acc) 0 =
      l.foldr (fun i acc => (s.byte (b + i)).toNat + 256 * acc) 0 := by
    intro l hl2
    induction l with
    | nil => rfl
    | cons x l ih =>
      simp only [List.foldr_cons]
      rw [ih (fun i hi => hl2 i (List.mem_cons_of_mem _ hi)),
        setBytes_other hs (fun j hj => isMem_line h (by omega)) (by have := hl2 x (List.mem_cons_self); omega)]
  exact this _ (fun i hi => List.mem_range.mp hi)

end Sys2Proof.Machine
end

