-- ==== Sys2Proof/WellFormed.lean ====
section
/-! DEFINITION. Operands that no sender can give: byte lists of another length than the access or the record has, sizes, widths and numbers
outside the ranges the spec states. The machine is total over them all the same; claims may ask for well-formed commands. -/
namespace Sys2Proof

/-- A packet carries up to eight payload lines of 64 bytes each (Table 9.1). -/
def Packet.wellFormed (pk : Packet) : Bool := decide (pk.lines ≤ 8) && pk.payload.length == 64 * pk.lines

/-- The bytes `[a, a + k)` are one access inside one 64-byte line (R293, R294). -/
def lineAccess (a k : Nat) : Bool := decide (0 < k) && decide (a % 64 + k ≤ 64)

/-- A size of a register access of BAR0: a power of two up to 8 (R15 says which of them the device takes). -/
def accessSize (k : Nat) : Bool := k == 1 || k == 2 || k == 4 || k == 8

/-- A unit that the fault history names (R411, Table 0.8): kind below 16, index below 4,096, one of eight lathes. -/
def UnitId.wellFormed (u : UnitId) : Bool := decide (u.kind < 16) && decide (u.index < 4096) && decide (u.lathe < 8)

/-- The command's operands lie in the ranges the spec gives them. -/
def Instr.wellFormed : Instr → Bool
  | .registerWrite _ size _ => accessSize size
  | .registerRead _ size => accessSize size
  | .accumulatorAdd _ sums spares => sums.length == 520 && decide (spares.length ≤ 8)
  | .hbmLineWrite a data _ _ _ _ => lineAccess a.toNat data.length
  | .infeedLineWrite a data _ _ => lineAccess a.toNat data.length
  | .link _ pk => pk.typ == .link && pk.wellFormed
  | .time _ pk _ => pk.typ == .time && pk.wellFormed
  | .packetForward _ pk => pk.wellFormed
  | .fabricRead _ pk _ => pk.typ == .read && pk.wellFormed
  | .fabricWrite _ pk _ => pk.typ == .write && pk.wellFormed
  | .fabricReduce _ pk => pk.typ == .reduce && pk.wellFormed
  | .fabricSignal _ pk => pk.typ == .signal && pk.wellFormed
  | .mcastWrite _ pk => pk.typ == .mcastWrite && pk.wellFormed
  | .gap _ pk => pk.typ == .gap && pk.wellFormed
  | .credit _ pk => pk.typ == .credit && pk.wellFormed
  | .cpl _ pk => pk.typ == .cpl && pk.wellFormed
  | .cplData _ pk => pk.typ == .cplData && pk.wellFormed
  | .permanentClassing u => u.wellFormed
  | .ventQuote _ _ _ nonce => decide (nonce.length ≤ 48)
  | .windowAccess _ rd len data _ _ _ => if rd then decide (0 < len) && decide (len ≤ 4096) else decide (0 < data.length) && decide (data.length ≤ 4096)
  | .pcieLinkUp width gen _ => ([1, 2, 4, 8, 16] : List Nat).contains width.toNat && decide (1 ≤ gen.toNat) && decide (gen.toNat ≤ 6)
  | _ => true

end Sys2Proof
end

