-- ==== Sys2Proof/Tests/Slice0.lean ====
section
/-! SUPPORT. Tests: ill-formed commands refused by each check, arithmetic against figures of the spec, and, for the statements that have
hypotheses, states and operands that meet them. -/
set_option linter.unusedVariables false
set_option Elab.async false
namespace Sys2Proof.Tests
open Sys2Proof.Machine

/-! ## Well-formedness: one ill-formed command for each check -/
theorem test_wf_write_size : (Instr.registerWrite 0 3 0).wellFormed = false := by decide
theorem test_wf_read_size : (Instr.registerRead 0 16).wellFormed = false := by decide
theorem test_wf_sums : (Instr.accumulatorAdd 0 (List.replicate 519 0) []).wellFormed = false := by decide +kernel
theorem test_wf_line : (Instr.hbmLineWrite 60 (List.replicate 8 0) false [] [] .host).wellFormed = false := by decide
theorem test_wf_line_empty : (Instr.hbmLineWrite 0 [] false [] [] .host).wellFormed = false := by decide
theorem test_wf_infeed : (Instr.infeedLineWrite 63 [0, 0] false .host).wellFormed = false := by decide
theorem test_wf_payload : (Instr.fabricWrite 0 { typ := .write, lines := 1 } none).wellFormed = false := by decide
theorem test_wf_lines : (Instr.cplData 0 { typ := .cplData, lines := 9, payload := List.replicate 576 0 }).wellFormed = false := by decide
theorem test_wf_type : (Instr.fabricRead 0 { typ := .write } none).wellFormed = false := by decide
theorem test_wf_unit : (Instr.permanentClassing { kind := 16, index := 0, lathe := 0 }).wellFormed = false := by decide
theorem test_wf_spares : (Instr.accumulatorAdd 0 (List.replicate 520 0) (List.replicate 9 0)).wellFormed = false := by decide +kernel
theorem test_wf_time : (Instr.time 0 { typ := .read } (.request 0 {})).wellFormed = false := by decide
theorem test_wf_nonce : (Instr.ventQuote .registers 0 0 (List.replicate 49 0)).wellFormed = false := by decide
theorem test_wf_window : (Instr.windowAccess 0 true 0 [] false [] false).wellFormed = false := by decide
theorem test_wf_link_width : (Instr.pcieLinkUp 3 6 true).wellFormed = false := by decide
theorem test_wf_plain : (Instr.ppsEdge).wellFormed = true := by decide

/-! ## Figures of the spec -/
/-- R250: the check value of the nine ASCII bytes. -/
theorem test_crc32c : crc32c [0x31, 0x32, 0x33, 0x34, 0x35, 0x36, 0x37, 0x38, 0x39] = 0xE3069283 := by decide +kernel
/-- R43: a K8 code x drives 2x. -/
theorem test_drive_k8 : driveVal 1 0 0xFE = -4 := by decide
/-- R43: a U8 code u drives u − z. -/
theorem test_drive_u8 : driveVal 2 128 5 = -123 := by decide
/-- R89: 0x80 is used as −127. -/
theorem test_code_80 : codeVal 1 0 0x80 = -127 := by decide
/-- R49: a W7 byte outside ±63 saturates. -/
theorem test_w7_sat : w7Sat 0x7F = 63 ∧ w7Sat 0x80 = -63 := by decide
/-- R63: a column sum of 511.5 LSB gives +511 with the over-range flag, one just below does not. -/
theorem test_adc_over : isOver (adcCode 536346624) = true ∧ adcVal (adcCode 536346624) = 511 ∧ isOver (adcCode 536346623) = false := by decide
/-- R45, R131: half to even. -/
theorem test_div_rne : divRne 3 1 = 2 ∧ divRne 5 1 = 2 ∧ divRne (-3) 1 = -2 ∧ divRne (-5) 1 = -2 := by decide
/-- R330: an A32 sum saturates, and 0x8000_0000 reads as −(2³¹ − 1). -/
theorem test_a32_add : redElem 1 3 0x7FFFFFFF 1 = (0x7FFFFFFF, true) ∧ redElem 1 3 0x80000000 1 = (0x80000002, true) := by decide
/-- R331: a NaN is passed over by MAX, and −0 equals +0. -/
theorem test_max_nan : redElem 2 1 0x3F800000 0x7FC00000 = (0x3F800000, false) ∧ redElem 2 1 0x80000000 0 = (0x80000000, false) := by decide

/-! ## Witnesses: states and operands that meet the hypotheses of the statements

A few small states, and for each statement with hypotheses one theorem that names states and operands meeting those of each clause. -/

/-- Every domain on, the security module operational. -/
def up : State :=
  { regs := (List.range 64).map fun d => (PWR_DOM_STATUS d, 1), power := { input := true }, sec := { st := .operational } }
/-- With lathe 0 so. -/
def lth (l : Lathe) : State := { up with lathes := [(0, l)] }
/-- With every lathe in service. -/
def inS : State := { up with lathes := (List.range 8).map fun n => (n, { svc := .inService }) }
/-- With accumulation group 0 of lathe 0 so. -/
def grp (g : Group) : State := { inS with groups := [(0, g)] }
/-- A started program of one stage. -/
def prog1 (st : Stage) : Prog := { no := 0, stages := [st], st := .started, prog := [.waiting] }
/-- With these programs held by engine 0. -/
def eng (x : Prog) (s : State := inS) : State := { s with engines := [(0, { progs := [x], nextNo := 1 })] }
/-- One stage running on engine 0. -/
def run1 (st : Stage) : State := eng (prog1 st)
/-- A stroke of one symbol. -/
def stk : Stroke := { eng := 0, prog := 0, stage := 0, ctx := 0, group := 0, t := 1, fmt := 1 }
/-- The same with all its outputs in. -/
def stk1 : Stroke := { stk with outs := [List.replicate 520 0] }
/-- Port 0 up. -/
def prt : State := up.wf (IZP_STATUS 0) IZP_STATUS_STATE lnkUp
/-- What port 0 leaves of a packet it takes. -/
def got (p : Packet) (s : State := prt) : State := (s.receive 0 p).2
/-- Stack 0 up. -/
def hbm : State := up.wb (HBM_STATUS 0) HBM_STATUS_UP true
/-- One granule of 64 MiB mapped, its scrub one line short of the end of a pass. -/
def scrubS : State := { hbm.wf (HBM_HOLE 0) HBM_HOLE_START 1 with hbmStacks := [(0, { scrub := (0, 32767) :: (List.range 31).map fun k => (k + 1, 32768) })] }
/-- A host link in L0. -/
def host : State := up.wb PCI_STATUS PCI_STATUS_LINK_UP true
/-- A session of slot 0, with every usage, on each interface. -/
def user (o : Owner := { valid := true, usage := 31 }) : State :=
  { up with sec := { up.sec with owners := [(0, { valid := true, usage := 31 }), (1, o)], sess := [(0, { slot := some 0 }), (1, { slot := some 0 })] } }
/-- A calibration of lathe 0 so. -/
def calS (c : Cal) : State := { up with cals := [(0, c)] }
/-- A jig so. -/
def jigS (j : Jig) : State := { up with jig := j }
/-- What a command leaves. -/
def after (c : Instr) (s : State) : State := match exec c s with | .next t => t | _ => s
/-- A RUN stage. -/
def runSt : Stage := .run 0 true false 1 0 1 0 0 0 0 0 0xFFFF
/-- A stroke whose check column is far off. -/
def bad1 : Stroke := { stk with outs := [List.replicate 512 0 ++ [100] ++ List.replicate 7 0] }
/-- Outputs whose data columns are far off. -/
def off1 : List (List Int) := [List.replicate 11 511 ++ List.replicate 509 0]
/-- A replay with no failing group. -/
def arb1 : Arb := { stroke := stk1, started := true, outs := stk1.outs }
/-- A replay that agrees with nothing. -/
def arb7 : Arb := { stroke := bad1, started := true, failing := [0], outs := off1 }
/-- A replay that passes where its stroke failed. -/
def arb5 : Arb := { stroke := { stk with outs := off1 }, started := true, failing := [0], outs := stk1.outs }
/-- A DRAIN stage of form `f` with its record at `a`. -/
def drainSt (f a : Nat) : Stage := .drain 0 false false false false false f 0 0 0 a 0 0 0 0 0 0
/-- Its fields. -/
def drainO (f a : Nat) : DrainOp := ⟨0, false, false, false, false, false, f, 0, 0, 0, a, 0, 0, 0, 0, 0, 0⟩
/-- Semaphore 0 checks for context 1. -/
def semBad (s : State) : State := (s.wb (SEM_CFG 0) SEM_CFG_CTX_CHECK true).wf (SEM_CFG 0) SEM_CFG_CONTEXT 1
/-- Descriptor 255 of lathe 0 ready to arm. -/
def armS : State := (up.wr (STR_DESC_ROWB 0 255) 64).wr (STR_DESC_ROWS 0 255) 1
/-- The descriptor armed so. -/
def armedD : Desc := { st := .armed, arm := { rowb := 64, rows := 1, gen := 1 }, gen := 1 }
/-- A reducer operation. -/
def red (op : Nat) : RedOp := { op := op, fmt := 3, dst := 64, src := List.replicate 64 1 }
/-- At channel 255. -/
def redS (op : Nat) : State := { hbm with rdc := [(255, [red op])] }
/-- A route to device 1 by bypass pair 1. -/
def prtW : State := { prt with jig := { cur := { valid := true, body := defaultJig.take 32 ++ [0x10, 1, 0, 2] ++ List.replicate 124 0 } } }
/-- The same, with its port up. -/
def prtF : State := prtW.wf (IZP_STATUS 3) IZP_STATUS_STATE lnkUp
/-- A WRITE of one line. -/
def wrP (a : Addr) : Packet := sealPacket { typ := .write, addr := a, lines := 1, payload := List.replicate 64 0 }
/-- Multicast group 0 with device 1 as its member. -/
def mcOf (s : State) : State := ((s.wr (IZP_MG_LEN 0) 1).wf (IZP_MG_SLOTS 0) IZP_MG_SLOTS_MEMBERS 1).wf (IZP_MSLOT 0) IZP_MSLOT_DEV 1
/-- Grandmaster by reference `r`. -/
def gm (r : Nat) : State := (up.wb FTM_STATUS FTM_STATUS_GM true).wf FTM_CFG FTM_CFG_REF r
/-- The shared rail below its warning level for more than 20 µs. -/
def railS : State := { up with clock := 20001, rails := [(61, { below := true })] }
/-- Both diodes fresh at 25 °C. -/
def roundS : State := (up.wr (monRes 0 31) (4884890 + 0x2000000)).wr (monRes 1 31) (4884890 + 0x2000000)
/-- A localisation running. -/
def locS : State := calS { st := .running, kind := 2 }
/-- The same where the map names no column of the group. -/
def locN : State := { locS with regs := (List.range 64 ++ [512]).map (fun i => (LTH_COLMAP 0 i, 600)) ++ locS.regs }
/-- A standby in place of position 3, locking. -/
def stbyS : State := (inS.wf (LTH_SPARE_USE 0) LTH_SPARE_USE_STANDBY_POS 3).wf (LTH_LASER 0 11) LTH_LASER_STATE 2
/-- A transition with lathe 0 still quiescing. -/
def quietS : State := (lth { svc := .quiescing }).wb PWR_STATUS PWR_STATUS_TRANS true
/-- Every lathe in service and every stack up. -/
def healthS : State := (List.range 8).foldl (fun (s : State) m => s.wb (HBM_STATUS m) HBM_STATUS_UP true) inS
/-- A host link whose window reaches device 1. -/
def hostR : State := (host.wb PCI_WIN_CFG PCI_WIN_CFG_REMOTE true).wf PCI_WIN_CFG PCI_WIN_CFG_DEV 1
/-- An image of kind `k` and body `b` in HBM at 0, unsigned bytes zero, its length in both length registers. -/
def imgS (k : Byte) (b : List Byte) : State :=
  let h : List Byte := [0x47, 0x4D, 0x49, 0x4C, k, 0, 0xB0, 0, 0, 0, 0, 0, 0, 0, 0, 0, BitVec.ofNat 8 b.length]
  { ((hbm.wr JIG_LEN (BitVec.ofNat 32 (7475 + b.length))).wr JIG_FW_LEN (BitVec.ofNat 32 (7475 + b.length))) with
    mem := (((h ++ List.replicate (256 - h.length) 0) ++ b).zipIdx.filter fun (e : Byte × Nat) => e.1 != 0).map fun (e : Byte × Nat) => (e.2, e.1) }
/-- The image. -/
def img (k : Byte) (b : List Byte) : List Byte := (imgS k b).bytes 0 (7475 + b.length)
/-- A length register of 1. -/
def imgLenS : State := (hbm.wr JIG_LEN 1).wr JIG_FW_LEN 1
/-- Every table of a state in canonical form, as a test. -/
def canonB (s : State) : Bool :=
  swf resetWord s.regs && swf (fun _ => 0) s.heldLow && Memory.wf s.mem && swf (fun _ => false) s.marks && Memory.wf s.hostMem && swf (fun _ => 0) s.accMem &&
  swf (fun _ => 0) s.chkMem && swf (fun _ => {}) s.rowState && swf (fun _ => {}) s.lathes && swf (fun _ => {}) s.groups && swf (fun _ => {}) s.engines &&
  swf (fun _ => {}) s.descs && swf (fun _ => []) s.waiters && swf (fun _ => {}) s.hbmStacks && swf (fun _ => []) s.rdc && swf (fun _ => {}) s.ports &&
  swf (fun _ => []) s.mcMsgs && swf (fun _ => 0) s.bypCause && swf (fun _ => {}) s.hist && swf (fun _ => {}) s.histFlash && swf (fun _ => {}) s.loops &&
  swf (fun _ => {}) s.cores && swf (fun _ => {}) s.trims && swf (fun _ => {}) s.convs && swf (fun _ => {}) s.cals && swf (fun _ => {}) s.calFlash &&
  swf (fun _ => {}) s.rails && swf (fun _ => {}) s.fws && swf (fun _ => 0) s.hostBad && swf (fun _ => {}) s.evtQs && swf (fun _ => 0) s.msixTable &&
  swf (fun _ => false) s.msixPending && swf (fun _ => {}) s.sec.owners && swf (fun _ => 0) s.sec.ctrs
/-- Lathe 0 out of service by software, its calibration fresh. -/
def oosS : State := { regs := [(PWR_DOM_STATUS 3, 1)], lathes := [(0, { svc := .outOfService, oosCause := 1, calFresh := true })] }
theorem bad_range (n lim : Nat) (h : n ≤ lim) : badEntry (List.range n) lim = none := by
  unfold badEntry
  rw [List.find?_eq_none]
  intro i hi
  have hi : i < n := by simpa using hi
  simp [hi, List.take_range, Nat.min_eq_left (Nat.le_of_lt hi)]
  omega
theorem maps_ok {s : State} {n : Nat} (hr : (List.range 512).map (s.rowMap n) = List.range 512) (hc : (List.range 520).map (s.colMap n) = List.range 520)
    (hd : s.deep n = false) : s.mapFault n = none := by
  unfold State.mapFault
  simp only [hr, hc, bad_range 512 528 (by omega), bad_range 520 536 (by omega), hd, Bool.false_eq_true, if_false]
theorem canon_of {s : State} (h : canonB s = true) : Canon s := by
  simp only [canonB, Bool.and_eq_true] at h
  obtain ⟨⟨⟨⟨⟨⟨⟨⟨⟨⟨⟨⟨⟨⟨⟨⟨⟨⟨⟨⟨⟨⟨⟨⟨⟨⟨⟨⟨⟨⟨⟨⟨⟨h1, h2⟩, h3⟩, h4⟩, h5⟩, h6⟩, h7⟩, h8⟩, h9⟩, h10⟩, h11⟩, h12⟩, h13⟩, h14⟩, h15⟩, h16⟩, h17⟩, h18⟩, h19⟩, h20⟩, h21⟩, h22⟩,
    h23⟩, h24⟩, h25⟩, h26⟩, h27⟩, h28⟩, h29⟩, h30⟩, h31⟩, h32⟩, h33⟩, h34⟩ := h
  exact ⟨h1, h2, h3, h4, h5, h6, h7, h8, h9, h10, h11, h12, h13, h14, h15, h16, h17, h18, h19, h20, h21, h22, h23, h24, h25, h26, h27, h28, h29, h30, h31, h32, h33, h34⟩
theorem bytes_add (s : State) (a p q : Nat) : s.bytes a (p + q) = s.bytes a p ++ s.bytes (a + p) q := by
  unfold State.bytes
  rw [List.range_add, List.map_append, List.map_map]
  simp [Function.comp_def, Nat.add_assoc]
theorem bytes_length (s : State) (a k : Nat) : (s.bytes a k).length = k := by simp [State.bytes]
theorem leNat_append {h r : List Byte} {o k : Nat} (hk : o + k ≤ h.length) : leNat (h ++ r) o k = leNat h o k := by
  unfold leNat
  rw [List.drop_append_of_le_length (by omega), List.take_append_of_le_length (by rw [List.length_drop]; omega)]
/-- What the header of an image of kind `kind`, body length `b`, vendor-signed, version counter 0, holds. -/
def headOk (h : List Byte) (kind b : Nat) : Bool :=
  leNat h 0 4 == 0x4C494D47 && leNat h 4 1 == kind && leNat h 6 2 == 0xB0 && leNat h 0x10 4 == b && leNat h 0x14 1 == 0 && leNat h 5 1 == 0 && leNat h 8 4 == 0
theorem image_ok {u : State} {kind b : Nat} (h : headOk (u.bytes 0 256) kind b = true) (h1 : 1 ≤ b) (h2 : b ≤ 16777216) (ho : u.owned = false)
    (hc : u.ctr (if kind = 0x10 then 7 else fwReg kind) = 0) :
    u.imageFault (u.bytes 0 (7475 + b)) kind true true = 0 ∧ imgBody (u.bytes 0 (7475 + b)) = u.bytes 256 b := by
  rw [show 7475 + b = 256 + (b + 7219) by omega, bytes_add]
  have hl := bytes_length u 0 256
  have h3 : imgBodyLen (u.bytes 0 256 ++ u.bytes (0 + 256) (b + 7219)) = b := by
    unfold imgBodyLen; rw [leNat_append (by omega)]; simp [headOk] at h; exact h.1.1.1.2
  simp only [headOk, Bool.and_eq_true, beq_iff_eq] at h
  obtain ⟨⟨⟨⟨⟨⟨e0, e4⟩, e6⟩, e10⟩, e14⟩, e5⟩, e8⟩ := h
  refine ⟨?_, ?_⟩
  · unfold State.imageFault headerOk imgSigner imgSvn State.jigKeyOk
    simp only [h3, leNat_append (h := u.bytes 0 256) (show 0 + 4 ≤ _ by omega), leNat_append (h := u.bytes 0 256) (show 4 + 1 ≤ _ by omega),
      leNat_append (h := u.bytes 0 256) (show 6 + 2 ≤ _ by omega), leNat_append (h := u.bytes 0 256) (show 0x14 + 1 ≤ _ by omega),
      leNat_append (h := u.bytes 0 256) (show 5 + 1 ≤ _ by omega), leNat_append (h := u.bytes 0 256) (show 8 + 4 ≤ _ by omega),
      e0, e4, e6, e14, e5, e8, hc, ho, List.length_append, bytes_length]
    simp [h1, h2]
    omega
  · unfold imgBody
    rw [h3, List.drop_append_of_le_length (by omega), List.drop_of_length_le (by omega), List.nil_append, bytes_add,
      List.take_append_of_le_length (Nat.le_of_eq (bytes_length _ _ _).symm), List.take_of_length_le (Nat.le_of_eq (bytes_length _ _ _))]
theorem readImage_ok {u : State} {src n k : Nat} (hs : src = 0) (hn : n = k)
    (h : (decide (k ≠ 0) && decide (0 + k ≤ 2 ^ 40) && (lineAddrs 0 k).all fun l => u.readable (max 0 l) && !u.mark l) = true) :
    u.readImage src n = some (u.bytes 0 k) := by
  subst hs; subst hn
  simp only [Bool.and_eq_true, decide_eq_true_eq] at h
  unfold State.readImage
  rw [if_neg (by simp; omega), if_pos h.2]
theorem localise_none {s : State} {k : Nat} {c : Cal}
    (h : (List.range 64).map (fun j => s.colMap k (64 * c.column + j)) ++ [s.colMap k (512 + c.column)] = List.replicate 65 600) : (s.localise k c).1 = none := by
  have e : s.localised k c = [] := by
    unfold State.localised
    rw [h, List.filter_eq_nil_iff]
    intro p hp
    have := List.mem_range.mp hp
    simp only [List.contains_eq_mem, List.mem_replicate, decide_eq_true_eq]
    omega
  unfold State.localise
  rw [e]; rfl
theorem localise_first {s : State} {k : Nat} {c : Cal} (h : s.colMap k (64 * c.column + 0) = 0) (h' : s.colKept k c 0 = false) : (s.localise k c).1 = some 0 := by
  have e : ∃ l, s.localised k c = 0 :: l := by
    unfold State.localised
    rw [show List.range 536 = 0 :: (List.range 535).map Nat.succ from List.range_succ_eq_map]
    refine ⟨_, List.filter_cons_of_pos ?_⟩
    rw [show List.range 64 = 0 :: (List.range 63).map Nat.succ from List.range_succ_eq_map, List.map_cons, h]
    rfl
  obtain ⟨l, e⟩ := e
  unfold State.localise
  rw [e]
  simp [h']
/-- A host link with window 0 of the host's memory open, and one tile in entry 0. -/
def aptS : State := (host.wr (PCI_APT 0) 1).wr (WTB_COUNT 0) 1
theorem spareCols_id {s : State} {n : Nat} (hm : s.replayMates n = [n]) (h : (List.range 520).map (s.colMap n) = List.range 520) :
    s.spareCols n = 520 :: (List.range 15).map (· + 521) := by
  have e : ∀ p, (List.range 520).any (fun c => s.colMap n c == p) = decide (p < 520) := by
    intro p
    have : (List.range 520).any (fun c => s.colMap n c == p) = ((List.range 520).map (s.colMap n)).any (· == p) := by rw [List.any_map]; rfl
    rw [this, h, Bool.eq_iff_iff]
    simp
  unfold State.spareCols
  dsimp only
  simp only [hm, List.all_cons, List.all_nil, Bool.and_true, e]
  decide +kernel

/-- `EveryCommandKeepsOtherParts`: each clause's hypotheses are met. -/
theorem witness_EveryCommandKeepsOtherParts :
    (∃ (c : Instr) (s t : State), exec c s = .next t) :=
  ⟨.referenceRestored, up, { up with ftm := { up.ftm with ref10 := true } }, rfl⟩

/-- `EveryStepKeepsCanonicalForm`: each clause's hypotheses are met. -/
theorem witness_EveryStepKeepsCanonicalForm :
    (∃ (s t : State), Canon s ∧ step s = .next t) :=
  ⟨up, tick up, canon_of (by decide +kernel), rfl⟩

/-- `AnIdleStepIsOneTick`: each clause's hypotheses are met. -/
theorem witness_AnIdleStepIsOneTick :
    (∃ (s : State), s.pending = []) :=
  ⟨up, by decide +kernel⟩

/-- `CountersNeverFall`: each clause's hypotheses are met. -/
theorem witness_CountersNeverFall :
    (∃ (c : Instr) (s t : State), Canon s ∧ exec c s = .next t) :=
  ⟨.referenceRestored, up, { up with ftm := { up.ftm with ref10 := true } }, canon_of (by decide +kernel), rfl⟩

/-- `FabricTimeNeverFalls`: each clause's hypotheses are met. -/
theorem witness_FabricTimeNeverFalls :
    (∃ (c : Instr) (s t : State), c ≠ .powerLoss ∧ (∀ r, c = .railResetLevel r → railKey r ≠ 64) ∧ exec c s = .next t) :=
  ⟨.referenceRestored, up, { up with ftm := { up.ftm with ref10 := true } }, (nofun), (fun _ h => nomatch h), rfl⟩

/-- `PersistentStores`: each clause's hypotheses are met. -/
theorem witness_PersistentStores :
    (∃ (c : Instr) (s t : State), exec c s = .next t) :=
  ⟨.referenceRestored, up, { up with ftm := { up.ftm with ref10 := true } }, rfl⟩

/-- `RegisterFrames`: each clause's hypotheses are met. -/
theorem witness_RegisterFrames :
    (∃ (c : Instr) (l : List Nat) (s t : State), Canon s ∧ registersOf c = some l ∧ exec c s = .next t) ∧
    (∃ (n : Fin 8) (s t : State), Canon s ∧ s.pollDisplaced n = s ∧ exec (.refreshStart n) s = .next t) :=
  ⟨⟨.monCalGo 0, accessRegs, up, after (.monCalGo 0) up, canon_of (by decide +kernel), by decide +kernel, rfl⟩,
  ⟨0, up, after (.refreshStart 0) up, canon_of (by decide +kernel), by decide +kernel, rfl⟩⟩

/-- `MemoryFrames`: each clause's hypotheses are met. -/
theorem witness_MemoryFrames :
    (∃ (a : Addr) (data : List Byte) (p : Bool) (d r : LineErr) (req : Requester) (s t : State), Canon s ∧ exec (.hbmLineWrite a data p d r req) s =
      .next t) ∧
    (∃ (a : Addr) (data : List Byte) (p : Bool) (req : Requester) (s t : State), Canon s ∧ exec (.infeedLineWrite a data p req) s = .next t) ∧
    (∃ (u : ScaleUpd) (rest : List ScaleUpd) (s t : State), Canon s ∧ s.scaleUpd = u :: rest ∧ isMem u.addr = true ∧ u.addr % 64 = 0 ∧ exec
      .scaleRecordUpdate s = .next t) ∧
    (∃ (a : Addr) (d r : LineErr) (src : ErrSource) (req : Requester) (ctx : Option (BitVec 8)) (s t : State), Canon s ∧ exec (.hbmLineRead a d r src
      req ctx) s = .next t) ∧
    (∃ (c : Fin 256) (d r : LineErr) (s t : State), Canon s ∧ (∀ e ∈ (s.stack (c.val / 32)).wb, isMem e.1 = true ∧ e.1 % 64 = 0 ∧ e.2.1.length = 64) ∧
      let m := c.val / 32;
      let u := s.scrubBack c;
      let at_ := (lineAt (u.rf (HBM_HOLE m) HBM_HOLE_START * 8192) (heldSpots (u.stack m).order (c % 32)) (sget 0 (u.stack m).scrub (c % 32))).map
          (0xC00000000 * m + ·);
      at_.all isMem = true ∧ exec (.scrubRead c d r) s = .next t ∧ ∃ b, (∀ e ∈ (s.stack m).wb, b / 64 ≠ e.1 / 64) ∧ at_.all (fun o => b / 64 != o /
          64) = true) ∧
    (∃ (c : Fin 256) (s t : State), exec (.correctionRate c) s = .next t) :=
  ⟨⟨0, [1], false, [], [], .host, hbm, after (.hbmLineWrite 0 [1] false [] [] .host) hbm, canon_of (by decide +kernel), rfl⟩,
  ⟨0xE000000000, [1], false, .host, up, after (.infeedLineWrite 0xE000000000 [1] false .host) up, canon_of (by decide +kernel), rfl⟩,
  ⟨{ addr := 64, elements := 1 }, [], { hbm with scaleUpd := [{ addr := 64, elements := 1 }] }, after .scaleRecordUpdate
    { hbm with scaleUpd := [{ addr := 64, elements := 1 }] }, canon_of (by decide +kernel), by decide +kernel, by decide +kernel, by decide +kernel,
    rfl⟩,
  ⟨0, [], [], .demand, .host, none, hbm, after (.hbmLineRead 0 [] [] .demand .host none) hbm, canon_of (by decide +kernel), rfl⟩,
  ⟨0, [], [], hbm, after (.scrubRead 0 [] []) hbm, canon_of (by decide +kernel), by decide +kernel, by decide +kernel, rfl, 64, by decide +kernel,
    by decide +kernel⟩,
  ⟨0, hbm, after (.correctionRate 0) hbm, rfl⟩⟩

/-- `ReducerResult`: each clause's hypotheses are met. -/
theorem witness_ReducerResult :
    (∃ (c : Fin 256) (i : Instr) (o : RedOp) (rest : List RedOp) (s : State), Canon s ∧ s.rdcOf c = o :: rest ∧ (i, o.op) ∈ [(Instr.add c false, 1),
      (.max c false, 2), (.min c false, 3), (.xor c false, 4), (.maxIdx c false, 5), (.minIdx c false, 6), (.reducerWrite c false, 7), (.poisonMark c
      false, 8)] ∧ s.mapped o.dst = true ∧ isMem o.dst = true ∧ s.inJournal o.dst = false ∧ o.dst % 64 = 0 ∧ (o.op = 8 ∨ o.remote.isSome = true ∨
      (o.poison = false ∧ (o.op = 7 ∨ s.mark o.dst = false)))) :=
  ⟨0, .xor 0 false, { op := 4, fmt := 4, dst := 64, src := [1] }, [], { hbm with rdc := [(0, [{ op := 4, fmt := 4, dst := 64, src := [1] }])] },
    canon_of (by decide +kernel), by decide +kernel⟩

/-- `ConverterCorrection`: each clause's hypotheses are met. -/
theorem witness_ConverterCorrection :
    (∃ (c : Fin 16) (raw r : Int) (s : State), Canon s ∧ (s.conv c).st = .scan ∧ (¬ (c.val % 2 = 1 ∧ ((s.conv c).input = 22 ∨ (s.conv c).input = 23)))
        ∧ (s.conv c).input < 32 ∧
      let x := (raw - sext 24 (s.rf (MON_CAL_OFS c) MON_CAL_OFS_OFS)) * (s.rd (MON_CAL_GAIN c)).toNat;
      (2 * (r * 2 ^ 30 - x).natAbs < 2 ^ 30 ∨ (2 * (r * 2 ^ 30 - x).natAbs = 2 ^ 30 ∧ r % 2 = 0))) :=
  ⟨15, 5, 5, { up with convs := [(15, { st := .scan, input := 31 })] }, canon_of (by decide +kernel), by decide +kernel⟩

/-- `Rounding`: each clause's hypotheses are met. -/
theorem witness_Rounding :
    (∃ (fmt : Nat) (x : F32) (b z r e : Int) (neg : Bool) (m : Nat), x.dec = .fin neg m e ∧
      let v := codeUnits x b z;
      fmtMin fmt * 2 ^ v.2 < v.1 ∧ v.1 < fmtMax fmt * 2 ^ v.2 ∧ (2 * (r * 2 ^ v.2 - v.1).natAbs < 2 ^ v.2 ∨ (2 * (r * 2 ^ v.2 - v.1).natAbs = 2 ^ v.2
          ∧ r % 2 = 0))) ∧
    (∃ (fmt : Nat) (x : F32) (b z r e : Int) (neg : Bool) (m : Nat), x.dec = .fin neg m e ∧
      let v := codeUnits x b z;
      fmtMax fmt * 2 ^ v.2 ≤ v.1) ∧
    (∃ (seed : Word) (st : AddSt) (key gi : Nat) (first : Bool) (a : Int), swf (fun _ => 0) st.mem = true ∧ a.natAbs < 2 ^ 39 - 1 - 2 ^ 31) :=
  ⟨⟨1, 0x3F800000, 0, 0, 1, -23, false, 0x800000, by decide +kernel⟩,
  ⟨1, 0x43000000, 0, 0, 1, -16, false, 0x800000, by decide +kernel⟩,
  ⟨0, ⟨[], [], 0, 0⟩, 0, 0, true, 5, by decide +kernel⟩⟩

/-- `UnalignedRegisterAccess`: each clause's hypotheses are met. -/
theorem witness_UnalignedRegisterAccess :
    (∃ (off : BitVec 24) (size : Nat) (v : DWord) (s : State), (¬ ((size = 4 ∨ size = 8) ∧ off.toNat % size = 0))) :=
  ⟨2, 4, 0, up, by decide +kernel⟩

/-- `BankAgeLimits`: each clause's hypotheses are met. -/
theorem witness_BankAgeLimits :
    (∃ (n : Fin 8) (v : Word) (s : State), Canon s ∧ s.blockOff .lth n = false) :=
  ⟨7, 499, up, canon_of (by decide +kernel), by decide +kernel⟩

/-- `PowerLimitRange`: each clause's hypotheses are met. -/
theorem witness_PowerLimitRange :
    (∃ (v : Word) (s : State), Canon s ∧ s.blockOff .pwr 0 = false) :=
  ⟨4999, up, canon_of (by decide +kernel), by decide +kernel⟩

/-- `AccumulatorModeWrites`: each clause's hypotheses are met. -/
theorem witness_AccumulatorModeWrites :
    (∃ (n : Fin 8) (v : Bool) (s : State), Canon s ∧ s.blockOff .acc n = false ∧ (∀ g, g < 8 → (s.group n g).st = .free)) ∧
    (∃ (n : Fin 8) (v : Bool) (g : Nat) (s : State), s.blockOff .acc n = false ∧ g < 8 ∧ (s.group n g).st ≠ .free) :=
  ⟨⟨7, true, up, canon_of (by decide +kernel), by decide +kernel⟩,
  ⟨0, true, 0, grp { st := .open }, by decide +kernel⟩⟩

/-- `SemaphoreWrites`: each clause's hypotheses are met. -/
theorem witness_SemaphoreWrites :
    (∃ (i : Fin 8192) (v : Word) (s : State), s.blockOff .sem 0 = false) ∧
    (∃ (i : Fin 8192) (v : Word) (s : State), s.blockOff .sem 0 = false ∧ (s.wakeLink.rd (SEM_VAL i)).toNat + v.toNat < 2 ^ 32) ∧
    (∃ (i : Fin 8192) (v : Word) (s : State), s.blockOff .sem 0 = false ∧ 2 ^ 32 ≤ (s.wakeLink.rd (SEM_VAL i)).toNat + v.toNat) :=
  ⟨⟨8191, 1, up, by decide +kernel⟩,
  ⟨8191, 0xFFFFFFFF, up, by decide +kernel⟩,
  ⟨0, 1, up.wr (SEM_VAL 0) 0xFFFFFFFF, by decide +kernel⟩⟩

/-- `PassSlots`: each clause's hypotheses are met. -/
theorem witness_PassSlots :
    (∃ (p q : Fin 16) (ctx : BitVec 8) (s : State), s.blockOff .dev 0 = false ∧ (s.wakeLink.flag (DEV_LT_PASS p) DEV_LT_PASS_OPEN = true ∨
      (s.wakeLink.flag (DEV_LT_PASS q) DEV_LT_PASS_OPEN = true ∧ s.wakeLink.rf (DEV_LT_PASS q) DEV_LT_PASS_CONTEXT = ctx.toNat))) ∧
    (∃ (p : Fin 16) (ctx : BitVec 8) (s : State), Canon s ∧ s.blockOff .dev 0 = false ∧ s.flag (DEV_LT_PASS p) DEV_LT_PASS_OPEN = false ∧ (∀ q, q < 16
      → s.flag (DEV_LT_PASS q) DEV_LT_PASS_OPEN = true → s.rf (DEV_LT_PASS q) DEV_LT_PASS_CONTEXT ≠ ctx.toNat)) ∧
    (∃ (p : Fin 16) (ctx : BitVec 8) (s : State), Canon s ∧ s.blockOff .dev 0 = false) :=
  ⟨⟨0, 15, 3, (up.wb (DEV_LT_PASS 15) DEV_LT_PASS_OPEN true).wf (DEV_LT_PASS 15) DEV_LT_PASS_CONTEXT 3, by decide +kernel⟩,
  ⟨15, 255, up, canon_of (by decide +kernel), by decide +kernel⟩,
  ⟨15, 7, up, canon_of (by decide +kernel), by decide +kernel⟩⟩

/-- `FabricTimeSet`: each clause's hypotheses are met. -/
theorem witness_FabricTimeSet :
    (∃ (v : DWord) (s : State), s.blockOff .ftm 0 = false ∧ s.wakeLink.ftState ≠ ftFREE ∧ (¬ (s.wakeLink.isGm = true ∧ s.wakeLink.rf FTM_CFG
      FTM_CFG_REF = 0))) ∧
    (∃ (v : DWord) (s : State), s.blockOff .ftm 0 = false ∧ (s.wakeLink.ftState = ftFREE ∨ (s.wakeLink.isGm = true ∧ s.wakeLink.rf FTM_CFG FTM_CFG_REF
      = 0)) ∧ s.ft.toNat ≤ v.toNat) ∧
    (∃ (v : DWord) (s : State), s.blockOff .ftm 0 = false ∧ (s.wakeLink.ftState = ftFREE ∨ (s.wakeLink.isGm = true ∧ s.wakeLink.rf FTM_CFG FTM_CFG_REF
      = 0)) ∧ v.toNat < s.ft.toNat) :=
  ⟨⟨5, up.wf FTM_STATUS FTM_STATUS_STATE ftLOCKED, by decide +kernel⟩,
  ⟨0, up, by decide +kernel⟩,
  ⟨4, { up with ft := 5 }, by decide +kernel⟩⟩

/-- `HistoryClear`: each clause's hypotheses are met. -/
theorem witness_HistoryClear :
    (∃ (k : Nat) (n : Fin 8) (i : Fin 520) (j : Fin 512) (s : State), Canon s ∧ s.blockOff .flt 0 = false ∧ histSel (s.wakeLink.rd FLT_HIST_SEL).toNat
      = some k) ∧
    (∃ (k : Nat) (s : State), Canon s ∧ s.blockOff .flt 0 = false ∧ histSel (s.wakeLink.rd FLT_HIST_SEL).toNat = some k) :=
  ⟨⟨histKey 2 0 0, 7, 519, 511, up.wr FLT_HIST_SEL 0x2000, canon_of (by decide +kernel), by decide +kernel⟩,
  ⟨histKey 9 255 0, up.wr FLT_HIST_SEL 0x90FF, canon_of (by decide +kernel), by decide +kernel⟩⟩

/-- `CalibrationCancel`: each clause's hypotheses are met. -/
theorem witness_CalibrationCancel :
    (∃ (n : Fin 8) (s : State), s.blockOff .cal n = false ∧
      let k := s.calKey n;
      (s.cal k).waits = none) ∧
    (∃ (n : Fin 8) (a : Nat) (s : State), Canon s ∧ s.blockOff .cal n = false ∧
      let k := s.calKey n;
      (s.cal k).waits = some a) :=
  ⟨⟨7, up, by decide +kernel⟩,
  ⟨0, 0, calS { st := .waiting }, canon_of (by decide +kernel), by decide +kernel⟩⟩

/-- `DeviceResetCommand`: each clause's hypotheses are met. -/
theorem witness_DeviceResetCommand :
    (∃ (v : BitVec 16) (s : State), s.blockOff .dev 0 = false ∧ v = 0xD0A5) ∧
    (∃ (v : BitVec 16) (s : State), s.blockOff .dev 0 = false ∧ v ≠ 0xD0A5) :=
  ⟨⟨0xD0A5, up, by decide +kernel⟩,
  ⟨0, up, by decide +kernel⟩⟩

/-- `RegisterCommands`: each clause's hypotheses are met. -/
theorem witness_RegisterCommands :
    (∃ (off : BitVec 24) (v : DWord) (b : Block) (i r : Nat) (row : RegRow) (k : Nat) (s : State), Canon s ∧ off.toNat % 4 = 0 ∧ locate off.toNat =
      some (b, i, r) ∧ b ∈ [Block.oll, .inf, .rdc, .clk, .pci] ∧ (∀ j, j < 32 → statClrBit b r = some j → bit (v.toNat % 2 ^ 32) j = false) ∧ findRow
      off.toNat = some (row, k) ∧ s.wakeLink.blockOff b i = false) ∧
    (∃ (b : StatBlock) (s : State), s.blockOff (statBlock b).1 (statBlock b).2 = false) ∧
    (∃ (req : Requester) (ctx : Option (BitVec 8)) (a : GAddr) (s : State), s.isLocal a.toNat = true ∧ s.isUnmapped (a.toNat % 2 ^ 40) true = true) ∧
    (∃ (req : Requester) (ctx : Option (BitVec 8)) (a : GAddr) (s : State), s.isLocal a.toNat = true ∧ s.isUnmapped (a.toNat % 2 ^ 40) false = true) ∧
    (∃ (a : Addr) (n o : Nat) (s : State), region (a.toNat / 4 * 4) = .accWin n o ∧ s.accReadable n = true) :=
  ⟨⟨0x3000C, 2, .clk, 0, 0xC, ⟨0xC, 1, 0, 1, 2, 2, 0, false, false⟩, 0, up, canon_of (by decide +kernel), by decide +kernel⟩,
  ⟨.sem, up, by decide +kernel⟩,
  ⟨.host, none, 0x7000000000, up, by decide +kernel⟩,
  ⟨.host, none, 0x7000000000, up, by decide +kernel⟩,
  ⟨0xE100000000, 0, 0, up.wf DEV_DEBUG DEV_DEBUG_LATHES 1, by decide +kernel⟩⟩

/-- `LatheService`: each clause's hypotheses are met. -/
theorem witness_LatheService :
    (∃ (n : Fin 8) (s : State), Canon s ∧ s.blockOff .lth n = false ∧ (s.lathe n).svc = .inService) ∧
    (∃ (n : Fin 8) (s : State), Canon s ∧ s.blockOff .lth n = false ∧ (s.lathe n).svc = .outOfService ∧ (s.lathe n).oosCause = 1 ∧ (s.lathe n).needCal
        = false ∧
      let u := s.wakeLink.wb (LTH_CTRL n) LTH_CTRL_SVC_REQ true;
      u.active = true ∧ u.calFree n = true ∧ u.calDue n = false ∧ u.lasersSettled n = true ∧ u.mapFault n = none) ∧
    (∃ (n : Fin 8) (i : Fin 520) (v : Word) (s : State), s.blockOff .lth n = false ∧ ((s.lathe n).svc = .outOfService ∨ (s.lathe n).svc = .off) ∧
      i.val < 512) ∧
    (∃ (n : Fin 8) (i : Fin 520) (v : Word) (s : State), s.blockOff .lth n = false ∧ ((s.lathe n).svc = .outOfService ∨ (s.lathe n).svc = .off)) ∧
    (∃ (n : Fin 8) (col : Bool) (i : Fin 520) (v : Word) (s : State), s.blockOff .lth n = false ∧ (s.lathe n).svc ≠ .outOfService ∧ (s.lathe n).svc ≠
      .off) ∧
    (∃ (n : Fin 8) (s : State), Canon s ∧ (s.lathe n).svc = .starting ∧ s.deep n = false) ∧
    (∃ (n : Fin 8) (s : State), Canon s ∧ (s.lathe n).svc = .quiescing ∧ s.gangIdle n = true ∧ (s.lathe n).quiesceCal = false ∧ (s.lathe n).oosCause ≠
      1) ∧
    (∃ (n : Fin 8) (s : State), (s.lathe n).svc = .quiescing ∧ s.gangIdle n = true ∧ (s.lathe n).quiesceCal = false ∧ (s.lathe n).oosCause = 1) :=
  ⟨⟨0, inS, canon_of (by decide +kernel), by decide +kernel⟩,
  ⟨0, oosS, canon_of (by decide +kernel), by decide +kernel, by decide +kernel, by decide +kernel, by decide +kernel, by decide +kernel,
    by decide +kernel, by decide +kernel, by decide +kernel, maps_ok (by decide +kernel) (by decide +kernel) (by decide +kernel)⟩,
  ⟨0, 511, 3, up, by decide +kernel⟩,
  ⟨0, 519, 3, up, by decide +kernel⟩,
  ⟨0, true, 519, 3, inS, by decide +kernel⟩,
  ⟨0, lth { svc := .starting }, canon_of (by decide +kernel), by decide +kernel⟩,
  ⟨0, lth { svc := .quiescing }, canon_of (by decide +kernel), by decide +kernel⟩,
  ⟨0, lth { svc := .quiescing, oosCause := 1 }, by decide +kernel⟩⟩

/-- `ProgramQueues`: each clause's hypotheses are met. -/
theorem witness_ProgramQueues :
    (∃ (b : Fin 8) (n i : Nat) (s : State), s.gang b = b.val ∧ (s.engine b).progs.length < 1024 ∧ (s.lathe b).svc ≠ .off ∧ s.nextQueue b = some (n,
      i)) ∧
    (∃ (n i : Fin 8) (v : Word) (s : State), Canon s ∧ s.blockOff .str n = false ∧
      let u := s.wakeLink.wr (STR_SQ_CFG n i) (v &&& 0x31F);
      let base := u.rf64 (STR_SQ_BASE n i) STR_SQ_BASE_BASE;
      let log := u.rf (STR_SQ_CFG n i) STR_SQ_CFG_LOG2_SIZE;
      6 ≤ log ∧ log ≤ 16 ∧ base % (8 * 2 ^ log) = 0 ∧ (match region base with | .hbm _ _ | .aperture _ _ => u.mapped base | _ => false) = true) ∧
    (∃ (n i : Fin 8) (v : Word) (s : State), s.blockOff .str n = false ∧
      let u := s.wakeLink.wr (STR_SQ_CFG n i) (v &&& 0x31F);
      let log := u.rf (STR_SQ_CFG n i) STR_SQ_CFG_LOG2_SIZE;
      u.flag (STR_SQ_CFG n i) STR_SQ_CFG_EN = true ∧ (log < 6 ∨ 16 < log ∨ u.rf64 (STR_SQ_BASE n i) STR_SQ_BASE_BASE % (8 * 2 ^ log) ≠ 0)) ∧
    (∃ (n i : Fin 8) (v : Word) (s : State), s.blockOff .str n = false ∧ v.toNat < s.wakeLink.sqSize n i) ∧
    (∃ (n i : Fin 8) (v : Word) (s : State), s.blockOff .str n = false ∧ s.wakeLink.sqSize n i ≤ v.toNat) ∧
    (∃ (b : Fin 8) (x : Prog) (s : State), Canon s ∧ ((s.engine b).progs.filter fun x => x.st != .accepted).length < 16 ∧ ((s.members b).all fun n =>
      (s.lathe n).svc == .inService) = true ∧ (s.engine b).progs.find? (fun x => x.st == .accepted) = some x) ∧
    (∃ (b : Fin 8) (p : Nat) (x : Prog) (s : State), s.prog b p = some x ∧ x.st = .started ∧ s.committed b x = true) ∧
    (∃ (n : Fin 8) (v : Word) (s : State), s.blockOff .str n = false ∧
      let u := s.wakeLink;
      let arg := u.rd (STR_ABORT_ARG n);
      v.toNat % 4 = 0) ∧
    (∃ (n : Fin 8) (v : Word) (s : State), s.blockOff .str n = false ∧
      let u := s.wakeLink;
      let arg := u.rd (STR_ABORT_ARG n);
      v.toNat % 4 = 1) ∧
    (∃ (n : Fin 8) (v : Word) (s : State), s.blockOff .str n = false ∧
      let u := s.wakeLink;
      let arg := u.rd (STR_ABORT_ARG n);
      v.toNat % 4 = 2) ∧
    (∃ (b : Fin 8) (p : Nat) (x : Prog) (s : State), s.prog b p = some x ∧ x.st = .aborting ∧ s.outstanding b p = 0 ∧ (∀ n ∈ s.accMembers b, ∀ g, g <
      8 → (s.group n g).owner = (b.val, p) → (s.group n g).st ≠ .invalid ∧ (s.group n g).st ≠ .draining)) ∧
    (∃ (b : Fin 8) (p : Nat) (x : Prog) (s : State), s.prog b p = some x ∧ x.st = .started ∧ x.timeout ≠ 0 ∧ x.startClock + 1000 * x.timeout ≤
      s.clock) :=
  ⟨⟨0, 0, 7, (inS.wr (STR_SQ_TAIL 0 7) 1).wb (STR_SQ_CFG 0 7) STR_SQ_CFG_EN true, by decide +kernel⟩,
  ⟨0, 7, 0x1F, hbm, canon_of (by decide +kernel), by decide +kernel⟩,
  ⟨0, 7, 0xB, up, by decide +kernel⟩,
  ⟨0, 7, 0, up, by decide +kernel⟩,
  ⟨0, 7, 64, up, by decide +kernel⟩,
  ⟨0, { no := 0 }, eng { no := 0 }, canon_of (by decide +kernel), by decide +kernel⟩,
  ⟨0, 0, { no := 0, st := .started }, eng { no := 0, st := .started }, by decide +kernel⟩,
  ⟨0, 0, up, by decide +kernel⟩,
  ⟨0, 1, up, by decide +kernel⟩,
  ⟨0, 2, up, by decide +kernel⟩,
  ⟨0, 0, { no := 0, st := .aborting }, eng { no := 0, st := .aborting }, by decide +kernel⟩,
  ⟨0, 0, { no := 0, st := .started, timeout := 1 }, { eng { no := 0, st := .started, timeout := 1 } with clock := 1000 }, by decide +kernel⟩⟩

/-- `WeightUnit`: each clause's hypotheses are met. -/
theorem witness_WeightUnit :
    (∃ (b : Fin 8) (p layer src mst : Nat) (live : Bool) (k : Fin 32) (glitch : List (Nat × Nat)) (o : State), let s := o.pollDisplaced b;
      o.stage b p k = some (.load live layer src mst) ∧ s.mayStart b p k = true ∧ ((s.members b).all fun n => ((s.lathe n).svc == .inService ||
          (s.lathe n).svc == .quiescing) && (s.lathe n).idleFree s.clock && (s.lathe n).displaced.isEmpty && (s.lathe n).wait.isNone && (s.lathe
          n).arbs.isEmpty) = true ∧ (layer < 4096 → s.gate layer (s.ctxOf b p) = .go)) ∧
    (∃ (n : Fin 8) (s : State), Canon s ∧ (s.lathe n).idleBank.st = .writing ∧ (s.lathe n).wait = none ∧ (s.lathe n).cur.isSome = true ∧ ((s.lathe
      n).idleBank.refresh = true ∨ (s.lathe n).idleBank.replay = true ∨ (s.lathe n).idleBank.relive = true)) ∧
    (∃ (n : Fin 8) (x : Stroke) (o : State), Canon o ∧
      let s := o.pollDisplaced n;
      (s.lathe n).cur = some x ∧ (s.lathe n).liveBank.wrote + (s.rd (LTH_BANK_AGE_MAX n)).toNat * 1000 ≤ x.startClock ∧ (∀ m ∈ s.members n, (s.lathe
          m).cur.isSome = true ∧ (s.lathe m).hasLive = true ∧ (s.lathe m).arbs = [] ∧ (s.lathe m).idleBank.st ≠ .live ∧ (s.lathe m).idleBank.refresh =
          false ∧ (s.lathe m).idleBank.replay = false)) :=
  ⟨⟨0, 0, 0xFFFF, 0, 0, true, 0, [], run1 (.load true 0xFFFF 0 0), by decide +kernel⟩,
  ⟨0, lth { svc := .inService, cur := some stk, bankB := { st := .writing, refresh := true } }, canon_of (by decide +kernel), by decide +kernel⟩,
  ⟨0, { stk with startClock := 4000000 }, lth { svc := .inService, cur := some { stk with startClock := 4000000 }, bankA := { st := .live } },
    canon_of (by decide +kernel), by decide +kernel⟩⟩

/-- `Strokes`: each clause's hypotheses are met. -/
theorem witness_Strokes :
    (∃ (b : Fin 8) (p : Nat) (k : Fin 32) (parity : Option (Nat × Nat)) (x : Prog) (r : RunOp) (o : State), let s := o.pollDisplaced b;
      o.prog b p = some x ∧ (o.stage b p k).bind Stage.runOp = some r ∧ s.mayStart b p k = true ∧ ((s.members b).all fun n => ((s.lathe n).svc ==
          .inService || (s.lathe n).svc == .quiescing) && (s.lathe n).cur.isNone && !(s.lathe n).dip && (s.lathe n).arbs.isEmpty) = true ∧ (x.paced =
          true → x.startFt ≤ s.ft.toNat) ∧ ((s.accMembers b).all fun n => (s.group n r.group).held.isNone) = true ∧ (r.layer < 4096 → s.gate r.layer
          x.ctx.toNat = .go) ∧ ((s.members b).all fun n => (s.lathe n).bankGo r.newPlane == .ready || (s.lathe n).bankGo r.newPlane == .switch) =
          true) ∧
    (∃ (b : Fin 8) (x : Stroke) (s : State), Canon s ∧ s.members b = [b.val] ∧ s.deep b = false ∧ (s.lathe b).cur = some x ∧ s.nextRun b ≠ some true ∧
      (s.lathe b).arbs = [] ∧ (s.lathe b).idleBank.refresh = false) ∧
    (∃ (n : Fin 8) (dev spares : List Int) (x : Stroke) (s : State), Canon s ∧ (s.lathe n).strokes.find? (fun y => !decide (y.t ≤ y.outs.length)) =
      some x) ∧
    (∃ (n : Fin 8) (x : Stroke) (rest : List Stroke) (s : State), (s.lathe n).strokes = x :: rest ∧ x.t ≤ x.outs.length ∧ s.failingGroups n x.bank
      x.outs = []) ∧
    (∃ (n : Fin 8) (x : Stroke) (rest : List Stroke) (s : State), Canon s ∧ (s.lathe n).strokes = x :: rest ∧ x.t ≤ x.outs.length ∧ s.failingGroups n
      x.bank x.outs ≠ [] ∧ x.drained = none ∧ 0 < s.jrnlMib ∧ (s.lathe n).inJournal x = true ∧ (s.lathe n).arbs ≠ []) :=
  ⟨⟨0, 0, 0, none, prog1 runSt, ⟨0, true, false, 1, 0, 1, 0, 0, 0, 0, 0, 0xFFFF⟩,
  { run1 runSt with lathes := [(0, { svc := .inService, bankA := { st := .live } })] }, by decide +kernel⟩,
  ⟨0, stk, lth { svc := .inService, cur := some stk }, canon_of (by decide +kernel), by decide +kernel⟩,
  ⟨0, [], [], stk, lth { svc := .inService, strokes := [stk] }, canon_of (by decide +kernel), by decide +kernel⟩,
  ⟨0, { stk with t := 0 }, [], lth { svc := .inService, strokes := [{ stk with t := 0 }] }, by decide +kernel⟩,
  ⟨0, bad1, [], { lth { svc := .inService, strokes := [bad1], arbs := [{ stroke := stk1 }] } with clock := 0 }, canon_of (by decide +kernel),
    by decide +kernel⟩⟩

/-- `ReplaysAndCorrections`: each clause's hypotheses are met. -/
theorem witness_ReplaysAndCorrections :
    (∃ (n : Fin 8) (a : Arb) (rest : List Arb) (s : State), Canon s ∧ (s.lathe n).arbs = a :: rest ∧ a.started = false ∧ ((s.lathe n).strokes.all fun
      x => x.t ≤ x.outs.length) = true ∧ ((s.replayMates n).all fun m => (s.lathe m).cur.isNone && !(s.lathe m).dip) = true ∧ (((s.replayMates n).all
      fun m => (s.lathe m).idleBank.st == .pending && (s.lathe m).idleBank.replay) = true ∨ ((s.lathe n).liveBank.src = a.stroke.bank.src ∧
      ((s.replayMates n).all fun m => (s.lathe m).hasLive && (s.lathe m).liveBank.replay && !(s.lathe m).idleBank.replay) = true))) ∧
    (∃ (n : Fin 8) (a : Arb) (rest : List Arb) (s : State), (s.lathe n).arbs = a :: rest ∧ a.started = true ∧ a.isSuspect = false ∧ a.stroke.t ≤
        a.outs.length ∧ a.correcting = [] ∧
      let vs := a.failing.map fun g => (g, s.outcomeOf n a g);
      let v := vs.foldl (fun (acc : State) e => ((acc.bump (FLT_STAT_OUTCOME e.2.outcome) 1).arbEvent n a.stroke a.failing e.1 e.2.outcome ((a.spare
          e.1).getD 0xFFFF) (if e.2.outcome = 5 then s.colMap n e.2.column else 0xFFFF) (((a.peaks.find? fun q => q.1 == e.1).map (·.2)).getD 0)
          0).applyOutcome n a e.1 e.2) s;
      let u := if vs.any fun e => decide (e.2.outcome ≥ 5) then v.lateDrain n a else v;
      let lost := (vs.filter fun e => decide (e.2.outcome ≥ 6)).map (·.1);
      let fix := (vs.filter fun e => e.2.outcome == 5).map fun e => (e.1, !e.2.a1);
      lost ≠ []) ∧
    (∃ (n : Fin 8) (a : Arb) (rest : List Arb) (s : State), (s.lathe n).arbs = a :: rest ∧ a.started = true ∧ a.isSuspect = false ∧ a.stroke.t ≤
        a.outs.length ∧ a.correcting = [] ∧
      let vs := a.failing.map fun g => (g, s.outcomeOf n a g);
      let v := vs.foldl (fun (acc : State) e => ((acc.bump (FLT_STAT_OUTCOME e.2.outcome) 1).arbEvent n a.stroke a.failing e.1 e.2.outcome ((a.spare
          e.1).getD 0xFFFF) (if e.2.outcome = 5 then s.colMap n e.2.column else 0xFFFF) (((a.peaks.find? fun q => q.1 == e.1).map (·.2)).getD 0)
          0).applyOutcome n a e.1 e.2) s;
      let u := if vs.any fun e => decide (e.2.outcome ≥ 5) then v.lateDrain n a else v;
      let lost := (vs.filter fun e => decide (e.2.outcome ≥ 6)).map (·.1);
      let fix := (vs.filter fun e => e.2.outcome == 5).map fun e => (e.1, !e.2.a1);
      lost = [] ∧ fix ≠ [] ∧ a.stroke.drained = none ∧ u.groupLive n a.stroke = true) ∧
    (∃ (n : Fin 8) (a : Arb) (rest : List Arb) (s : State), (s.lathe n).arbs = a :: rest ∧ a.started = true ∧ a.isSuspect = false ∧ a.stroke.t ≤
        a.outs.length ∧ a.correcting = [] ∧
      let vs := a.failing.map fun g => (g, s.outcomeOf n a g);
      let v := vs.foldl (fun (acc : State) e => ((acc.bump (FLT_STAT_OUTCOME e.2.outcome) 1).arbEvent n a.stroke a.failing e.1 e.2.outcome ((a.spare
          e.1).getD 0xFFFF) (if e.2.outcome = 5 then s.colMap n e.2.column else 0xFFFF) (((a.peaks.find? fun q => q.1 == e.1).map (·.2)).getD 0)
          0).applyOutcome n a e.1 e.2) s;
      let u := if vs.any fun e => decide (e.2.outcome ≥ 5) then v.lateDrain n a else v;
      let lost := (vs.filter fun e => decide (e.2.outcome ≥ 6)).map (·.1);
      let fix := (vs.filter fun e => e.2.outcome == 5).map fun e => (e.1, !e.2.a1);
      lost = [] ∧ (fix = [] ∨ a.stroke.drained ≠ none ∨ u.groupLive n a.stroke = false)) ∧
    (∃ (n : Fin 8) (a : Arb) (rest : List Arb) (s : State), (s.lathe n).arbs = a :: rest ∧ a.correcting ≠ []) ∧
    (∃ (n : Fin 8) (a : Arb) (rest : List Arb) (s : State), (s.lathe n).arbs = a :: rest ∧ a.started = true ∧ a.isSuspect = true ∧ a.stroke.t ≤
        a.outs.length ∧ a.correcting = [] ∧
      let u := s.bump FLT_STAT_TESTS 8;
      let failing := u.failingGroups n (laneOfLathe a.lanes n).bank a.outs;
      failing ≠ []) ∧
    (∃ (n : Fin 8) (a : Arb) (rest : List Arb) (s : State), (s.lathe n).arbs = a :: rest ∧ a.started = true ∧ a.isSuspect = true ∧ a.stroke.t ≤
        a.outs.length ∧ a.correcting = [] ∧
      let u := s.bump FLT_STAT_TESTS 8;
      let failing := u.failingGroups n (laneOfLathe a.lanes n).bank a.outs;
      failing = [] ∧ (a.stroke.drained ≠ none ∨ u.drainingOf n a.stroke = true)) ∧
    (∃ (n : Fin 8) (a : Arb) (rest : List Arb) (s : State), (s.lathe n).arbs = a :: rest ∧ a.started = true ∧ a.isSuspect = true ∧ a.stroke.t ≤
        a.outs.length ∧ a.correcting = [] ∧
      let u := s.bump FLT_STAT_TESTS 8;
      let failing := u.failingGroups n (laneOfLathe a.lanes n).bank a.outs;
      failing = [] ∧ a.stroke.drained = none ∧ u.drainingOf n a.stroke = false ∧ u.groupLive n a.stroke = false) ∧
    (∃ (n : Fin 8) (a : Arb) (rest : List Arb) (s : State), (s.lathe n).arbs = a :: rest ∧ a.started = true ∧ a.isSuspect = true ∧ a.stroke.t ≤
        a.outs.length ∧ a.correcting = [] ∧
      let u := s.bump FLT_STAT_TESTS 8;
      let failing := u.failingGroups n (laneOfLathe a.lanes n).bank a.outs;
      failing = [] ∧ a.stroke.drained = none ∧ u.drainingOf n a.stroke = false ∧ u.groupLive n a.stroke = true) :=
  ⟨⟨0, { stroke := stk1 }, [], lth { svc := .inService, arbs := [{ stroke := stk1 }], bankB := { st := .pending, replay := true } }, canon_of
  (by decide +kernel), by decide +kernel⟩,
  ⟨0, arb7, [], lth { svc := .inService, arbs := [arb7] }, by decide +kernel⟩,
  ⟨0, arb5, [], { lth { svc := .inService, arbs := [arb5] } with groups := [(0, { st := .open })] }, by decide +kernel⟩,
  ⟨0, arb1, [], lth { svc := .inService, arbs := [arb1] }, by decide +kernel⟩,
  ⟨0, { stroke := stk1, started := true, correcting := [(0, true)] }, [], lth
    { svc := .inService, arbs := [{ stroke := stk1, started := true, correcting := [(0, true)] }] }, by decide +kernel⟩,
  ⟨0, { arb7 with isSuspect := true }, [], lth { svc := .inService, arbs := [{ arb7 with isSuspect := true }] }, by decide +kernel⟩,
  ⟨0, { stroke := { stk with t := 0, drained := some (0, 0) }, started := true, isSuspect := true }, [], lth
    { svc := .inService, arbs := [{ stroke := { stk with t := 0, drained := some (0, 0) }, started := true, isSuspect := true }] }, by decide +kernel⟩,
  ⟨0, { stroke := { stk with t := 0 }, started := true, isSuspect := true }, [], lth
    { svc := .inService, arbs := [{ stroke := { stk with t := 0 }, started := true, isSuspect := true }] }, by decide +kernel⟩,
  ⟨0, { stroke := { stk with t := 0 }, started := true, isSuspect := true }, [],
    { lth { svc := .inService, arbs := [{ stroke := { stk with t := 0 }, started := true, isSuspect := true }] } with groups := [(0, { st := .open })] },
    by decide +kernel⟩⟩

/-- `SpanMovesAndInvalidGroups`: each clause's hypotheses are met. -/
theorem witness_SpanMovesAndInvalidGroups :
    (∃ (n g : Fin 8) (s : State), Canon s ∧ (s.group n g).st = .spanMove ∧ (s.group n g).moving = false ∧ (s.group n g).inflight = 0 ∧ (s.group n
      g).verdicts = 0 ∧ (s.lathe n).finOp = 0 ∧ s.spanHeld n g = false) ∧
    (∃ (n g : Fin 8) (s : State), Canon s ∧ (s.group n g).moving = true ∧ (s.group n g).st = .spanMove ∧ 0 < (s.group n g).rows ∧ (s.group n
      g).rowBase < 8192) ∧
    (∃ (n g : Fin 8) (s : State), Canon s ∧ (s.group n g).moving = true ∧ (s.group n g).st ≠ .spanMove) ∧
    (∃ (n g : Fin 8) (s : State), Canon s ∧ (s.group n g).st = .invalid ∧ (s.group n g).inflight = 0 ∧ (s.group n g).moving = false) :=
  ⟨⟨0, 0, grp { st := .spanMove }, canon_of (by decide +kernel), by decide +kernel⟩,
  ⟨0, 0, grp { st := .spanMove, moving := true, rows := 1 }, canon_of (by decide +kernel), by decide +kernel⟩,
  ⟨0, 0, grp { st := .invalid, moving := true }, canon_of (by decide +kernel), by decide +kernel⟩,
  ⟨0, 0, grp { st := .invalid }, canon_of (by decide +kernel), by decide +kernel⟩⟩

/-- `Finisher`: each clause's hypotheses are met. -/
theorem witness_Finisher :
    (∃ (b : Fin 8) (p : Nat) (k : Fin 32) (x : Prog) (o : DrainOp) (parity : Option Nat) (s : State), Canon s ∧ s.prog b p = some x ∧ (s.stage b p
      k).bind Stage.drainOp = some o ∧ s.mayStart b p k = true ∧ o.form ≠ 10 ∧ s.runsBegun b p k x o.group = true ∧ s.badRecord o = none ∧
      s.accMembers b = [b.val] ∧ (s.group b o.group).st = .open ∧ (s.group b o.group).drain = none ∧ (s.group b o.group).ctx = x.ctx ∧ (s.group b
      o.group).held = none) ∧
    (∃ (b : Fin 8) (p : Nat) (k : Fin 32) (x : Prog) (o : DrainOp) (parity : Option Nat) (s : State), s.prog b p = some x ∧ (s.stage b p k).bind
      Stage.drainOp = some o ∧ s.mayStart b p k = true ∧ o.form = 10 ∧ s.badRecord o = none ∧ ((s.members b).all fun n => (s.lathe n).finOp = 0) =
      true) ∧
    (∃ (b : Fin 8) (p : Nat) (k : Fin 32) (x : Prog) (o : DrainOp) (a why : Nat) (parity : Option Nat) (s : State), s.prog b p = some x ∧ (s.stage b p
      k).bind Stage.drainOp = some o ∧ s.mayStart b p k = true ∧ (o.form = 10 ∨ s.runsBegun b p k x o.group = true) ∧ s.badRecord o = some (a, why)) ∧
    (∃ (n g : Fin 8) (parity : Option (Nat × Bool)) (d : DrainRef) (o : DrainOp) (s : State), Canon s ∧ (s.group n g).drain = some d ∧ (s.stage d.eng
      d.prog d.stage).bind Stage.drainOp = some o ∧ (s.group n g).st = .closing ∧ (s.group n g).inflight = 0 ∧ (o.early = true ∨ (s.group n
      g).verdicts = 0) ∧ (s.lathe n).finOp = 0 ∧ s.firstDrain n g d = true) ∧
    (∃ (n g : Fin 8) (parity : Option (Nat × Bool)) (d : DrainRef) (o : DrainOp) (w : OldWait) (s : State), (s.group n g).drain = some d ∧ (s.stage
      d.eng d.prog d.stage).bind Stage.drainOp = some o ∧ (s.group n g).st = .draining ∧ (s.lathe n).finOp = 1 ∧ (s.lathe n).finGroup = g.val ∧
      (s.lathe n).old = some w ∧ w.left = 0) ∧
    (∃ (n : Fin 8) (s : State), Canon s ∧ (s.lathe n).finOp = 1 ∧ (s.group n (s.lathe n).finGroup).st = .draining ∧ s.finStall n = 0 ∧ (s.group n
      (s.lathe n).finGroup).drain = none) ∧
    (∃ (n : Fin 8) (who : Nat × Nat × Nat) (upd : List ScaleUpd) (s : State), (s.lathe n).finOp = 3 ∧ (s.lathe n).upd = some (who, upd)) ∧
    (∃ (n : Fin 8) (d : DrainRef) (s : State), (s.lathe n).finOp = 1 ∧ (s.group n (s.lathe n).finGroup).st = .draining ∧ s.finStall n = 0 ∧ (s.group n
      (s.lathe n).finGroup).drain = some d) ∧
    (∃ (n : Fin 8) (v : Word) (s : State), Canon s ∧ s.blockOff .fin n = false) ∧
    (∃ (u : ScaleUpd) (rest : List ScaleUpd) (s : State), Canon s ∧ s.scaleUpd = u :: rest ∧ s.mapped u.addr = true ∧ isMem u.addr = true ∧
      s.inJournal u.addr = false ∧ u.addr % 64 = 0) ∧
    (∃ (u : ScaleUpd) (rest : List ScaleUpd) (s : State), s.scaleUpd = u :: rest ∧ s.mapped u.addr = false) ∧
    (∃ (u : ScaleUpd) (rest : List ScaleUpd) (s : State), s.scaleEval = u :: rest) :=
  ⟨⟨0, 0, 0, prog1 (drainSt 6 0), drainO 6 0, none, { run1 (drainSt 6 0) with groups := [(0, { st := .open })] }, canon_of (by decide +kernel),
  by decide +kernel⟩,
  ⟨0, 0, 0, prog1 (drainSt 10 4096), drainO 10 4096, none, { run1 (drainSt 10 4096) with mem := [(0x20, 4)] }, by decide +kernel⟩,
  ⟨0, 0, 0, prog1 (drainSt 0 0), drainO 0 0, 0, 1, none, run1 (drainSt 0 0), by decide +kernel⟩,
  ⟨0, 0, none, ⟨0, 0, 0⟩, drainO 6 0, { run1 (drainSt 6 0) with groups := [(0, { st := .closing, drain := some ⟨0, 0, 0⟩ })] }, canon_of
    (by decide +kernel), by decide +kernel⟩,
  ⟨0, 0, none, ⟨0, 0, 0⟩, drainO 6 0, {},
    { run1 (drainSt 6 0) with groups := [(0, { st := .draining, drain := some ⟨0, 0, 0⟩ })], lathes := [(0, { svc := .inService, finOp := 1, old := some {} })] },
    by decide +kernel⟩,
  ⟨0, { lth { svc := .inService, finOp := 1 } with groups := [(0, { st := .draining })] }, canon_of (by decide +kernel), by decide +kernel⟩,
  ⟨0, ⟨0, 0, 0⟩, [], lth { svc := .inService, finOp := 3, upd := some (⟨0, 0, 0⟩, []) }, by decide +kernel⟩,
  ⟨0, ⟨0, 0, 0⟩, { lth { svc := .inService, finOp := 1 } with groups := [(0, { st := .draining, drain := some ⟨0, 0, 0⟩ })] }, by decide +kernel⟩,
  ⟨0, 7, up, canon_of (by decide +kernel), by decide +kernel⟩,
  ⟨{ addr := 64 }, [], { hbm with scaleUpd := [{ addr := 64 }] }, canon_of (by decide +kernel), by decide +kernel⟩,
  ⟨{ addr := 64 }, [], { up with scaleUpd := [{ addr := 64 }] }, by decide +kernel⟩,
  ⟨{ addr := 64 }, [], { hbm with scaleEval := [{ addr := 64 }] }, by decide +kernel⟩⟩

/-- `OrderingStages`: each clause's hypotheses are met. -/
theorem witness_OrderingStages :
    (∃ (b : Fin 8) (p sem dev count : Nat) (k : Fin 32) (remote : Bool) (x : Prog) (s : State), s.prog b p = some x ∧ s.stage b p k = some (.signal
      sem dev remote count) ∧ s.mayOrder b p k = true ∧ s.writesVisible b p k x = true ∧ (remote = true → dev = s.devId) ∧ s.semMisuse sem x.ctx.toNat
      = false) ∧
    (∃ (b : Fin 8) (p sem dev count : Nat) (k : Fin 32) (x : Prog) (s : State), s.prog b p = some x ∧ s.stage b p k = some (.signal sem dev true
      count) ∧ s.mayOrder b p k = true ∧ s.writesVisible b p k x = true ∧ dev ≠ s.devId) ∧
    (∃ (b : Fin 8) (p sem dev count : Nat) (k : Fin 32) (x : Prog) (s : State), s.prog b p = some x ∧ s.stage b p k = some (.signal sem dev false
      count) ∧ s.mayOrder b p k = true ∧ s.writesVisible b p k x = true ∧ s.semMisuse sem x.ctx.toNat = true) ∧
    (∃ (b : Fin 8) (p sem count timeout : Nat) (k : Fin 32) (x : Prog) (s : State), s.prog b p = some x ∧ s.stage b p k = some (.wait sem count
      timeout) ∧ s.mayOrder b p k = true ∧ s.semMisuse sem x.ctx.toNat = false) ∧
    (∃ (i : Fin 8192) (b : Fin 8) (p : Nat) (k : Fin 32) (w : Waiter) (s : State), (s.waitersOf i).find? (fun w => w.eng == b.val && w.prog == p &&
      w.stage == k.val) = some w ∧ w.timeout ≠ 0 ∧ w.since + 1000 * w.timeout ≤ s.clock) ∧
    (∃ (b : Fin 8) (p layer source atFt : Nat) (k : Fin 32) (x : Prog) (s : State), Canon s ∧ s.prog b p = some x ∧ s.stage b p k = some (.swap layer
      source atFt) ∧ s.mayStart b p k = true ∧ s.wtbValid layer = true ∧ (s.wtbState layer = stOPEN ∨ s.wtbState layer = stFAULT) ∧ atFt ≤ s.ft.toNat) ∧
    (∃ (b : Fin 8) (p scope : Nat) (k : Fin 32) (x : Prog) (s : State), s.prog b p = some x ∧ s.stage b p k = some (.fence scope) ∧ s.mayOrder b p k =
      true ∧ (x.prog.take k).all (· == .done) = true ∧ s.writesVisible b p k x = true ∧ (scope = 0 ∨ ((s.engine b).progs.all fun y => decide (y.no ≥
      p) || (y.st == .started && y.prog.all (· == .done) && decide (s.outstanding b y.no = 0))) = true)) ∧
    (∃ (b : Fin 8) (p ft : Nat) (k : Fin 32) (s : State), s.stage b p k = some (.at ft) ∧ s.mayOrder b p k = true ∧ ft ≤ s.ft.toNat) ∧
    (∃ (b : Fin 8) (p : Nat) (k : Fin 32) (op fmt src dst len : Nat) (s : State), s.stage b p k = some (.reduce op fmt src dst len) ∧ s.mayStart b p k
      = true) :=
  ⟨⟨0, 0, 8191, 0, 1, 0, true, prog1 (.signal 8191 0 true 1), run1 (.signal 8191 0 true 1), by decide +kernel⟩,
  ⟨0, 0, 0, 1, 1, 0, prog1 (.signal 0 1 true 1), run1 (.signal 0 1 true 1), by decide +kernel⟩,
  ⟨0, 0, 0, 0, 1, 0, prog1 (.signal 0 0 false 1), semBad (run1 (.signal 0 0 false 1)), by decide +kernel⟩,
  ⟨0, 0, 0, 1, 0, 0, prog1 (.wait 0 1 0), run1 (.wait 0 1 0), by decide +kernel⟩,
  ⟨0, 0, 0, 0, { eng := 0, prog := 0, stage := 0, count := 1, since := 0, timeout := 1 },
    { up with clock := 1000, waiters := [(0, [{ eng := 0, prog := 0, stage := 0, count := 1, since := 0, timeout := 1 }])] }, by decide +kernel⟩,
  ⟨0, 0, 4095, 0, 0, 0, prog1 (.swap 4095 0 0), (run1 (.swap 4095 0 0)).wb (WTB_CTL 4095) WTB_CTL_VALID true, canon_of (by decide +kernel),
    by decide +kernel⟩,
  ⟨0, 0, 0, 0, prog1 (.fence 0), run1 (.fence 0), by decide +kernel⟩,
  ⟨0, 0, 0, 0, run1 (.at 0), by decide +kernel⟩,
  ⟨0, 0, 0, 8, 4, 0, 0, 64, run1 (.reduce 8 4 0 0 64), by decide +kernel⟩⟩

/-- `StreamUnit`: each clause's hypotheses are met. -/
theorem witness_StreamUnit :
    (∃ (b : Fin 8) (p d m img : Nat) (k : Fin 32) (s : State), s.stage b p k = some (.fetch d m img) ∧ s.mayStart b p k = true ∧ (s.fetchArm b p k
      (b.val + m) d img).1 = true) ∧
    (∃ (n : Fin 8) (d : Fin 256) (x : Desc) (s : State), Canon s ∧ s.blockOff .str n = false ∧ (s.wakeLink.desc n d).armWith (s.wakeLink.regArm n d) =
      .ok x) ∧
    (∃ (n : Fin 8) (d : Fin 256) (why : Nat) (s : State), s.blockOff .str n = false ∧ (s.wakeLink.desc n d).armWith (s.wakeLink.regArm n d) = .error
      why) ∧
    (∃ (n : Fin 8) (d : Fin 256) (s : State), Canon s ∧ s.blockOff .str n = false ∧ ((s.desc n d).st = .armed ∨ (s.desc n d).st = .armedShadow)) ∧
    (∃ (n : Fin 8) (d : Fin 256) (s : State), Canon s ∧ s.blockOff .str n = false ∧ (s.desc n d).st = .busyShadow) ∧
    (∃ (n : Fin 8) (d : Fin 256) (parity : Option (Nat × Nat)) (s : State), ((s.desc n d).st = .busy ∨ (s.desc n d).st = .busyShadow) ∧ (s.desc n
      d).left = 0 ∧ (s.desc n d).moved = true ∧ s.copiesOpen (s.desc n d).owner = false) ∧
    (∃ (n : Fin 8) (d : Fin 256) (parity : Option (Nat × Nat)) (s : State), ((s.desc n d).st = .busy ∨ (s.desc n d).st = .busyShadow) ∧ (s.desc n
        d).left = 0 ∧ (s.desc n d).moved = false ∧ s.rowsAgain n d = [] ∧
      let u := s.moveRows n d parity;
      (u.desc n d).left = 0) :=
  ⟨⟨0, 0, 255, 0, 0, 0, run1 (.fetch 255 0 0), by decide +kernel⟩,
  ⟨0, 255, armedD, armS, canon_of (by decide +kernel), by decide +kernel, by rfl⟩,
  ⟨0, 255, 2, up, by decide +kernel, by rfl⟩,
  ⟨0, 255, { up with descs := [(255, { st := .armed })] }, canon_of (by decide +kernel), by decide +kernel⟩,
  ⟨0, 255, { up with descs := [(255, { st := .busyShadow })] }, canon_of (by decide +kernel), by decide +kernel⟩,
  ⟨0, 255, none, { up with descs := [(255, { st := .busy, moved := true })] }, by decide +kernel⟩,
  ⟨0, 255, none, { up with descs := [(255, { st := .busy })] }, by decide +kernel⟩⟩

/-- `LayerTable`: each clause's hypotheses are met. -/
theorem witness_LayerTable :
    (∃ (i : Fin 4096) (v : Word) (s : State), s.blockOff .wtb 0 = false ∧ s.wakeLink.wtbState i = stOPEN ∧ s.wakeLink.wtbValid i = false ∧ v.toNat % 2
      = 1) ∧
    (∃ (i : Fin 4096) (w : Fin 16) (v : Word) (s : State), s.blockOff .wtb 0 = false ∧ (w.val = 1 ∨ w.val = 2 ∨ w.val = 4 ∨ w.val = 7 ∨ w.val = 8) ∧
      s.wakeLink.wtbValid i = false) ∧
    (∃ (i : Fin 4096) (w : Fin 16) (v : Word) (s : State), s.blockOff .wtb 0 = false ∧ 1 ≤ w.val ∧ w.val ≤ 8 ∧ s.wakeLink.wtbValid i = true) ∧
    (∃ (i : Fin 4096) (s : State), s.blockOff .wtb 0 = false ∧ s.wakeLink.wtbState i = stFAULT) ∧
    (∃ (i : Nat) (rest : List Nat) (s : State), s.verifying = i :: rest ∧ s.swapWait = none) :=
  ⟨⟨4095, 1, up, by decide +kernel⟩,
  ⟨4095, 8, 5, up, by decide +kernel⟩,
  ⟨4095, 8, 5, up.wb (WTB_CTL 4095) WTB_CTL_VALID true, by decide +kernel⟩,
  ⟨4095, up.wf (WTB_CTL 4095) WTB_CTL_STATE stFAULT, by decide +kernel⟩,
  ⟨4095, [], { up with verifying := [4095] }, by decide +kernel⟩⟩

/-- `SwapEngine`: each clause's hypotheses are met. -/
theorem witness_SwapEngine :
    (∃ (glitch : List (Nat × Nat)) (x : Swap) (rest : List Swap) (s : State), s.swaps = x :: rest ∧ x.writing = false ∧ s.verifying = [] ∧ (∀ p, p <
      16 → s.flag (DEV_LT_PASS p) DEV_LT_PASS_OPEN = true → (s.rd (WTB_PGEN x.entry)).toNat ≤ (s.rd (DEV_LT_LATCH p)).toNat) ∧ s.oldHomeRead x.entry
      x.raised = false) ∧
    (∃ (x : Swap) (rest : List Swap) (w : RecWait) (s : State), s.swaps = x :: rest ∧ s.swapWait = some w ∧ w.attempt = 0 ∧ w.first = false ∧
      let a := (s.recPiece x.entry x.next x.source 0).1;
      s.hostRecords [(a, 64)] = true) ∧
    (∃ (x : Swap) (rest : List Swap) (w : RecWait) (s : State), s.swaps = x :: rest ∧ s.swapWait = some w ∧ w.attempt = 0 ∧ w.first = false ∧
      let a := (s.recPiece x.entry x.next x.source 0).1;
      s.hostRecords [(a, 64)] = false ∧ (s.readable a = false ∨ s.num (a + 6) 2 = w.ver.toNat ∨ s.mark a = true)) ∧
    (∃ (x : Swap) (rest : List Swap) (s : State), s.swaps = x :: rest ∧ x.writing = true ∧ x.done = true) ∧
    (∃ (n : Fin 8) (w : RecWait) (s : State), (s.lathe n).wait = some w ∧ w.entry < 4096 ∧ w.verify = false ∧ w.since + 1000000 * (if s.rf (WTB_TMO
      w.entry) WTB_TMO_MS = 0 then 50 else s.rf (WTB_TMO w.entry) WTB_TMO_MS) ≤ s.clock) ∧
    (∃ (w : RecWait) (s : State), s.swapWait = some w ∧ w.entry < 4096 ∧ w.since + 1000000 * (if s.rf (WTB_TMO w.entry) WTB_TMO_MS = 0 then 50 else
      s.rf (WTB_TMO w.entry) WTB_TMO_MS) ≤ s.clock) ∧
    (∃ (gain : BitVec 4) (s : State), Canon s ∧ s.blockOff .dev 0 = false ∧ s.building = none) ∧
    (∃ (parity : Option Nat) (x : Build) (s : State), s.building = some x ∧ s.verifying = [] ∧ (s.swaps.any (·.writing)) = false) :=
  ⟨⟨[], { entry := 4095, source := 0 }, [], { up with swaps := [{ entry := 4095, source := 0 }] }, by decide +kernel⟩,
  ⟨{ entry := 0, source := 0x8000000000 }, [], { entry := 0, tile := 0 },
    { aptS with swaps := [{ entry := 0, source := 0x8000000000 }], swapWait := some { entry := 0, tile := 0 } }, by decide +kernel⟩,
  ⟨{ entry := 0, source := 0 }, [], { entry := 0, tile := 0 },
    { up with swaps := [{ entry := 0, source := 0 }], swapWait := some { entry := 0, tile := 0 } }, by decide +kernel⟩,
  ⟨{ entry := 0, source := 0, writing := true, done := true }, [], { up with swaps := [{ entry := 0, source := 0, writing := true, done := true }] },
    by decide +kernel⟩,
  ⟨0, { entry := 0, tile := 0 }, { lth { svc := .inService, wait := some { entry := 0, tile := 0 } } with clock := 50000000 }, by decide +kernel⟩,
  ⟨{ entry := 0, tile := 0 }, { up with swapWait := some { entry := 0, tile := 0 }, clock := 50000000 }, by decide +kernel⟩,
  ⟨0, up, canon_of (by decide +kernel), by decide +kernel⟩,
  ⟨none, {}, { up with building := some {} }, by decide +kernel⟩⟩

/-- `MemoryLines`: each clause's hypotheses are met. -/
theorem witness_MemoryLines :
    (∃ (a : Addr) (d r : LineErr) (src : ErrSource) (req : Requester) (ctx : Option (BitVec 8)) (m o : Nat) (s : State), let l := a.toNat / 64 * 64;
      region l = .hbm m o ∧ s.mapped l = true) ∧
    (∃ (a : Addr) (d r : LineErr) (src : ErrSource) (req : Requester) (ctx : Option (BitVec 8)) (m o : Nat) (s : State), region (a.toNat / 64 * 64) =
      .hbm m o ∧ s.mapped (a.toNat / 64 * 64) = false) ∧
    (∃ (a : Nat) (i j : Fin 36) (x y : BitVec 16) (r : LineErr) (src ctx : Nat) (s : State), src ≠ 1 ∧ i ≠ j ∧ x ≠ 0 ∧ y ≠ 0) ∧
    (∃ (a : Addr) (data : List Byte) (poison : Bool) (d r : LineErr) (req : Requester) (m o : Nat) (s : State), Canon s ∧ region a.toNat = .hbm m o ∧
      s.mapped a.toNat = true ∧ a.toNat % 64 = 0 ∧ data.length = 64) ∧
    (∃ (a : Addr) (data : List Byte) (poison : Bool) (r : LineErr) (req : Requester) (m o : Nat) (s : State), Canon s ∧ region a.toNat = .hbm m o ∧
      s.mapped a.toNat = true ∧ 0 < data.length ∧ data.length < 64 ∧ a.toNat % 64 + data.length ≤ 64) ∧
    (∃ (a : Addr) (data : List Byte) (poison : Bool) (d r : LineErr) (req : Requester) (m o : Nat) (s : State), region a.toNat = .hbm m o ∧ s.mapped
      a.toNat = true ∧ 0 < data.length ∧ data.length < 64 ∧ a.toNat % 64 + data.length ≤ 64) ∧
    (∃ (a : Addr) (data : List Byte) (poison : Bool) (d r : LineErr) (req : Requester) (m o : Nat) (s : State), region a.toNat = .hbm m o ∧ inLine
      a.toNat data.length = true ∧ s.mapped a.toNat = false) ∧
    (∃ (a : Addr) (data : List Byte) (poison : Bool) (req : Requester) (n o : Nat) (s : State), Canon s ∧ region a.toNat = .infeed n o ∧ s.mapped
      a.toNat = true ∧ inLine a.toNat data.length = true ∧ s.inJournal a.toNat = false) ∧
    (∃ (c : Fin 256) (d r : LineErr) (o : Nat) (s : State), Canon s ∧ s.flag (HBM_STATUS (c.val / 32)) HBM_STATUS_UP = true ∧ s.flag (HBM_CTRL (c.val
        / 32)) HBM_CTRL_SCRUB_EN = true ∧
      let m := c.val / 32;
      let u := s.scrubBack c;
      let h := u.rf (HBM_HOLE m) HBM_HOLE_START * 8192;
      let i := sget 0 (u.stack m).scrub (c % 32);
      let done := sput 0 (i + 1) (u.stack m).scrub (c % 32);
      let sum := done.foldl (fun k e => k + min e.2 (heldLines (u.stack m).order h e.1)) 0;
      lineAt h (heldSpots (u.stack m).order (c % 32)) i = some o ∧
      let v := (u.lineRead (0xC00000000 * m + o) d r 1 0xFFFF).2;
      sum < 128 * h) ∧
    (∃ (c : Fin 256) (d r : LineErr) (o : Nat) (s : State), Canon s ∧ s.flag (HBM_STATUS (c.val / 32)) HBM_STATUS_UP = true ∧ s.flag (HBM_CTRL (c.val
        / 32)) HBM_CTRL_SCRUB_EN = true ∧
      let m := c.val / 32;
      let u := s.scrubBack c;
      let h := u.rf (HBM_HOLE m) HBM_HOLE_START * 8192;
      let i := sget 0 (u.stack m).scrub (c % 32);
      let done := sput 0 (i + 1) (u.stack m).scrub (c % 32);
      let sum := done.foldl (fun k e => k + min e.2 (heldLines (u.stack m).order h e.1)) 0;
      lineAt h (heldSpots (u.stack m).order (c % 32)) i = some o ∧
      let v := (u.lineRead (0xC00000000 * m + o) d r 1 0xFFFF).2;
      128 * h ≤ sum) ∧
    (∃ (c : Fin 256) (s : State), Canon s ∧ 1000 ≤ ((sget [] (s.stack (c / 32)).ce (c % 32)).filter fun t => decide (s.clock < t + msHour)).length) :=
  ⟨⟨0xBFFFFFFFF, [], [], .demand, .host, none, 0, 0xBFFFFFFC0, hbm, by decide +kernel⟩,
  ⟨0xC00000000, [], [], .demand, .host, none, 1, 0, hbm, by decide +kernel⟩,
  ⟨0, 0, 32, 1, 1, [], 0, 0, hbm, by decide +kernel⟩,
  ⟨0xBFFFFFFC0, List.replicate 64 7, true, [], [], .host, 0, 0xBFFFFFFC0, hbm, canon_of (by decide +kernel), by decide +kernel⟩,
  ⟨0xBFFFFFFFF, [7], true, [], .host, 0, 0xBFFFFFFFF, hbm, canon_of (by decide +kernel), by decide +kernel⟩,
  ⟨0xBFFFFFFFF, [7], true, [], [], .host, 0, 0xBFFFFFFFF, hbm, by decide +kernel⟩,
  ⟨0xC00000000, [7], false, [], [], .host, 1, 0, hbm, by decide +kernel⟩,
  ⟨0xE00FFFFFFF, [7], false, .host, 7, 0x1FFFFFF, up, canon_of (by decide +kernel), by decide +kernel⟩,
  ⟨0, [], [], 0, hbm, canon_of (by decide +kernel), by decide +kernel⟩,
  ⟨0, [], [], 0x3FFE0C0, scrubS, canon_of (by decide +kernel), by decide +kernel⟩,
  ⟨0, { hbm with hbmStacks := [(0, { ce := [(0, List.replicate 1000 0)] })] }, canon_of (by decide +kernel), by decide +kernel⟩⟩

/-- `StackService`: each clause's hypotheses are met. -/
theorem witness_StackService :
    (∃ (m : Fin 8) (t : Int) (s : State), Canon s ∧ s.flag (HBM_STATUS m) HBM_STATUS_UP = true ∧ -40 ≤ t ∧ t < 105 ∧ s.rf (HBM_STATUS m)
      HBM_STATUS_REFRESH < refreshOf t) ∧
    (∃ (m : Fin 8) (s : State), s.flag (HBM_STATUS m) HBM_STATUS_UP = true) ∧
    (∃ (m : Fin 8) (c : Fin 32) (s : State), s.blockOff .hbm m = false ∧
      let u := s.wakeLink.wf (HBM_RETIRE_CMD m) HBM_RETIRE_CMD_CHANNEL c;
      u.rf (HBM_CH_STATE m c) HBM_CH_STATE_STATE < 2 ∧ u.flag (HBM_RETIRE_CMD m) HBM_RETIRE_CMD_BUSY = false ∧ u.retiredCount m < 4) ∧
    (∃ (m : Fin 8) (c : Fin 32) (s : State), s.blockOff .hbm m = false ∧
      let u := s.wakeLink.wf (HBM_RETIRE_CMD m) HBM_RETIRE_CMD_CHANNEL c;
      2 ≤ u.rf (HBM_CH_STATE m c) HBM_CH_STATE_STATE) ∧
    (∃ (m : Fin 8) (errs : List (Addr × LineErr × LineErr)) (c : Nat) (s : State), (List.range 32).find? (fun c => s.rf (HBM_CH_STATE m c)
      HBM_CH_STATE_STATE == 1) = some c) ∧
    (∃ (m : Fin 8) (s : State), s.dom (48 + m) = 1 ∧ s.flag (HBM_STATUS m) HBM_STATUS_UP = false ∧ s.recordedRetired m = []) ∧
    (∃ (m : Fin 8) (failed : Word) (s : State), s.dom (48 + m) = 1 ∧ s.flag (HBM_STATUS m) HBM_STATUS_UP = false) ∧
    (∃ (n : Fin 8) (use ctx : BitVec 8) (a : GAddr) (u : PoisonUse) (s : State), s.uses.find? (fun u => u.lathe == some n.val && u.reducer == none &&
      u.use == use.toNat && u.ctx == ctx && u.addr == a) = some u) :=
  ⟨⟨0, 86, hbm, canon_of (by decide +kernel), by decide +kernel⟩,
  ⟨0, hbm, by decide +kernel⟩,
  ⟨0, 31, hbm, by decide +kernel⟩,
  ⟨0, 31, hbm.wf (HBM_CH_STATE 0 31) HBM_CH_STATE_STATE 2, by decide +kernel⟩,
  ⟨0, [], 31, hbm.wf (HBM_CH_STATE 0 31) HBM_CH_STATE_STATE 1, by decide +kernel⟩,
  ⟨7, up, by decide +kernel⟩,
  ⟨7, 0, up, by decide +kernel⟩,
  ⟨7, 0, 0, 64, { lathe := some 7, use := 0, ctx := 0, addr := 64 }, { up with uses := [{ lathe := some 7, use := 0, ctx := 0, addr := 64 }] },
    by decide +kernel⟩⟩

/-- `ReducerCommands`: each clause's hypotheses are met. -/
theorem witness_ReducerCommands :
    (∃ (c : Fin 256) (o : RedOp) (rest : List RedOp) (s : State), s.rdcOf c = o :: rest ∧ o.op = 1) ∧
    (∃ (c : Fin 256) (o : RedOp) (rest : List RedOp) (s : State), s.rdcOf c = o :: rest ∧ o.op = 2) ∧
    (∃ (c : Fin 256) (o : RedOp) (rest : List RedOp) (s : State), s.rdcOf c = o :: rest ∧ o.op = 3) ∧
    (∃ (c : Fin 256) (o : RedOp) (rest : List RedOp) (s : State), s.rdcOf c = o :: rest ∧ o.op = 4) ∧
    (∃ (c : Fin 256) (o : RedOp) (rest : List RedOp) (s : State), s.rdcOf c = o :: rest ∧ o.op = 5) ∧
    (∃ (c : Fin 256) (o : RedOp) (rest : List RedOp) (s : State), s.rdcOf c = o :: rest ∧ o.op = 6) ∧
    (∃ (c : Fin 256) (o : RedOp) (rest : List RedOp) (s : State), s.rdcOf c = o :: rest ∧ o.op = 7) ∧
    (∃ (c : Fin 256) (o : RedOp) (rest : List RedOp) (s : State), s.rdcOf c = o :: rest ∧ o.op = 8) ∧
    (∃ (c : Fin 256) (o : RedOp) (rest : List RedOp) (s : State), s.rdcOf c = o :: rest ∧
      let ctx := match o.remote with | some (_, pk) => ctxNat pk.ctx | none => ctxNat o.ctx;
      let u := (((s.setRdc c rest).pathParity (unitOf 0xA c) 0xFF 6 ctx (s.glob o.dst)).applyRed c
          { o with poison := true, from_ := if o.poison then o.from_ else none });
      o.op = 1) ∧
    (∃ (c : Fin 256) (o : RedOp) (rest : List RedOp) (s : State), s.rdcOf c = o :: rest ∧
      let ctx := match o.remote with | some (_, pk) => ctxNat pk.ctx | none => ctxNat o.ctx;
      let u := (((s.setRdc c rest).pathParity (unitOf 0xA c) 0xFF 6 ctx (s.glob o.dst)).applyRed c
          { o with poison := true, from_ := if o.poison then o.from_ else none });
      o.op = 2) ∧
    (∃ (c : Fin 256) (o : RedOp) (rest : List RedOp) (s : State), s.rdcOf c = o :: rest ∧
      let ctx := match o.remote with | some (_, pk) => ctxNat pk.ctx | none => ctxNat o.ctx;
      let u := (((s.setRdc c rest).pathParity (unitOf 0xA c) 0xFF 6 ctx (s.glob o.dst)).applyRed c
          { o with poison := true, from_ := if o.poison then o.from_ else none });
      o.op = 3) ∧
    (∃ (c : Fin 256) (o : RedOp) (rest : List RedOp) (s : State), s.rdcOf c = o :: rest ∧
      let ctx := match o.remote with | some (_, pk) => ctxNat pk.ctx | none => ctxNat o.ctx;
      let u := (((s.setRdc c rest).pathParity (unitOf 0xA c) 0xFF 6 ctx (s.glob o.dst)).applyRed c
          { o with poison := true, from_ := if o.poison then o.from_ else none });
      o.op = 4) ∧
    (∃ (c : Fin 256) (o : RedOp) (rest : List RedOp) (s : State), s.rdcOf c = o :: rest ∧
      let ctx := match o.remote with | some (_, pk) => ctxNat pk.ctx | none => ctxNat o.ctx;
      let u := (((s.setRdc c rest).pathParity (unitOf 0xA c) 0xFF 6 ctx (s.glob o.dst)).applyRed c
          { o with poison := true, from_ := if o.poison then o.from_ else none });
      o.op = 5) ∧
    (∃ (c : Fin 256) (o : RedOp) (rest : List RedOp) (s : State), s.rdcOf c = o :: rest ∧
      let ctx := match o.remote with | some (_, pk) => ctxNat pk.ctx | none => ctxNat o.ctx;
      let u := (((s.setRdc c rest).pathParity (unitOf 0xA c) 0xFF 6 ctx (s.glob o.dst)).applyRed c
          { o with poison := true, from_ := if o.poison then o.from_ else none });
      o.op = 6) ∧
    (∃ (c : Fin 256) (o : RedOp) (rest : List RedOp) (s : State), s.rdcOf c = o :: rest ∧
      let ctx := match o.remote with | some (_, pk) => ctxNat pk.ctx | none => ctxNat o.ctx;
      let u := (((s.setRdc c rest).pathParity (unitOf 0xA c) 0xFF 6 ctx (s.glob o.dst)).applyRed c
          { o with poison := true, from_ := if o.poison then o.from_ else none });
      o.op = 7) ∧
    (∃ (c : Fin 256) (o : RedOp) (rest : List RedOp) (s : State), s.rdcOf c = o :: rest ∧
      let ctx := match o.remote with | some (_, pk) => ctxNat pk.ctx | none => ctxNat o.ctx;
      let u := (((s.setRdc c rest).pathParity (unitOf 0xA c) 0xFF 6 ctx (s.glob o.dst)).applyRed c
          { o with poison := true, from_ := if o.poison then o.from_ else none });
      o.op = 8) :=
  ⟨⟨255, red 1, [], redS 1, by decide +kernel⟩,
  ⟨255, red 2, [], redS 2, by decide +kernel⟩,
  ⟨255, red 3, [], redS 3, by decide +kernel⟩,
  ⟨255, red 4, [], redS 4, by decide +kernel⟩,
  ⟨255, red 5, [], redS 5, by decide +kernel⟩,
  ⟨255, red 6, [], redS 6, by decide +kernel⟩,
  ⟨255, red 7, [], redS 7, by decide +kernel⟩,
  ⟨255, red 8, [], redS 8, by decide +kernel⟩,
  ⟨255, red 1, [], redS 1, by decide +kernel⟩,
  ⟨255, red 2, [], redS 2, by decide +kernel⟩,
  ⟨255, red 3, [], redS 3, by decide +kernel⟩,
  ⟨255, red 4, [], redS 4, by decide +kernel⟩,
  ⟨255, red 5, [], redS 5, by decide +kernel⟩,
  ⟨255, red 6, [], redS 6, by decide +kernel⟩,
  ⟨255, red 7, [], redS 7, by decide +kernel⟩,
  ⟨255, red 8, [], redS 8, by decide +kernel⟩⟩

/-- `Ports`: each clause's hypotheses are met. -/
theorem witness_Ports :
    (∃ (p : Fin 16) (dev : DevId) (pp : BitVec 4) (s : State), s.link p = lnkTraining) ∧
    (∃ (p : Fin 16) (s : State), (s.link p = lnkUp ∨ s.link p = lnkTraining)) ∧
    (∃ (p : Fin 16) (s : State), s.blockOff .izp p = false ∧ s.wakeLink.link p = lnkUp) ∧
    (∃ (p : Fin 16) (s : State), s.blockOff .izp p = false ∧ s.wakeLink.link p = lnkDown) ∧
    (∃ (p : Fin 16) (s : State), s.blockOff .izp p = false ∧ s.wakeLink.link p = lnkDisabled) ∧
    (∃ (p : Fin 16) (s : State), s.blockOff .izp p = false ∧ s.wakeLink.link p = lnkUp) ∧
    (∃ (p : Fin 16) (s : State), let u := s.setPort p { s.port p with light := true };
      u.link p = lnkDown) ∧
    (∃ (p : Fin 16) (s : State), let u := s.setPort p { s.port p with light := true };
      u.link p ≠ lnkDown) ∧
    (∃ (mask : BitVec 8) (s : State), s.blockOff .izpg 0 = false) ∧
    (∃ (k : Fin 8) (s : State), s.bypMoving k = true ∧
      let u := s.wf IZP_BYP IZP_BYP_MOVING (s.rf IZP_BYP IZP_BYP_MOVING - 2 ^ k.val);
      bit u.bypOpening k = true) ∧
    (∃ (k : Fin 8) (s : State), s.bypMoving k = true ∧
      let u := s.wf IZP_BYP IZP_BYP_MOVING (s.rf IZP_BYP IZP_BYP_MOVING - 2 ^ k.val);
      bit u.bypOpening k = false ∧ u.dom 63 ≠ 0) :=
  ⟨⟨15, 1, 0, up.wf (IZP_STATUS 15) IZP_STATUS_STATE lnkTraining, by decide +kernel⟩,
  ⟨0, prt, by decide +kernel⟩,
  ⟨0, prt, by decide +kernel⟩,
  ⟨0, up.wf (IZP_STATUS 0) IZP_STATUS_STATE lnkDown, by decide +kernel⟩,
  ⟨0, up.wf (IZP_STATUS 0) IZP_STATUS_STATE lnkDisabled, by decide +kernel⟩,
  ⟨0, prt, by decide +kernel⟩,
  ⟨15, up.wf (IZP_STATUS 15) IZP_STATUS_STATE lnkDown, by decide +kernel⟩,
  ⟨0, prt, by decide +kernel⟩,
  ⟨0x80, up, by decide +kernel⟩,
  ⟨7, { up.wf IZP_BYP IZP_BYP_MOVING 0x80 with bypOpening := 0x80 }, by decide +kernel⟩,
  ⟨7, up.wf IZP_BYP IZP_BYP_MOVING 0x80, by decide +kernel⟩⟩

/-- `LinkPackets`: each clause's hypotheses are met. -/
theorem witness_LinkPackets :
    (∃ (p : Fin 16) (fec : Bool) (s : State), Canon s ∧ s.link p = lnkUp ∧ (s.port p).discarding = false) ∧
    (∃ (p : Fin 16) (s : State), s.link p = lnkUp ∧ (s.port p).unacked ≠ [] ∧ (s.port p).retries < 16 ∧ (s.port p).since + 2000 ≤ s.clock) ∧
    (∃ (p : Fin 16) (q : BitVec 12) (s : State), let u := s.acked p q;
      u.link p = lnkUp ∧ (u.port p).unacked ≠ [] ∧ (u.port p).retries < 16) ∧
    (∃ (p : Fin 16) (s : State), s.link p = lnkUp ∧ 16 ≤ (s.port p).retries) ∧
    (∃ (p : Fin 16) (pk : Packet) (s : State), Canon s ∧ s.link p = lnkUp ∧ pk.crc = packetCrc pk ∧ pk.lackValid = true) ∧
    (∃ (p : Fin 16) (pk : Packet) (out : Nat) (s u : State), pk.dst.toNat ≠ s.devId ∧ s.receive p pk = (true, u) ∧ u.nextPort pk.rset.toNat
      pk.dst.toNat pk.addr.toNat (some p.val) = .port out ∧ pk.hops ≠ 0) ∧
    (∃ (p : Fin 16) (pk : Packet) (out : Nat) (s u : State), pk.dst.toNat ≠ s.devId ∧ s.receive p pk = (true, u) ∧ u.nextPort pk.rset.toNat
      pk.dst.toNat pk.addr.toNat (some p.val) = .noRoute) ∧
    (∃ (p : Fin 16) (pk : Packet) (out : Nat) (s u : State), pk.dst.toNat ≠ s.devId ∧ s.receive p pk = (true, u) ∧ u.nextPort pk.rset.toNat
      pk.dst.toNat pk.addr.toNat (some p.val) = .port out ∧ pk.hops = 0) ∧
    (∃ (p : Fin 16) (pk : Packet) (s u : State), pk.dst.toNat ≠ s.devId ∧ s.receive p pk = (true, u) ∧ u.nextPort pk.rset.toNat pk.dst.toNat
      pk.addr.toNat (some p.val) = .wait ∧ pk.hops ≠ 0) :=
  ⟨⟨0, true, prt, canon_of (by decide +kernel), by decide +kernel⟩,
  ⟨0, { prt with clock := 2000, ports := [(0, { unacked := [{ typ := .read }] })] }, by decide +kernel⟩,
  ⟨0, 0xFFF, { prt with ports := [(0, { unacked := [{ typ := .read }] })] }, by decide +kernel⟩,
  ⟨0, { prt with ports := [(0, { retries := 16 })] }, by decide +kernel⟩,
  ⟨0, sealPacket { typ := .link, lackValid := true }, prt, canon_of (by decide +kernel), by decide +kernel⟩,
  ⟨0, sealPacket { typ := .read, dst := 1, hops := 1 }, 3, prtF, got (sealPacket { typ := .read, dst := 1, hops := 1 }) prtF, by decide +kernel⟩,
  ⟨0, sealPacket { typ := .read, dst := 1 }, 0, prt, got (sealPacket { typ := .read, dst := 1 }), by decide +kernel⟩,
  ⟨0, sealPacket { typ := .read, dst := 1 }, 3, prtF, got (sealPacket { typ := .read, dst := 1 }) prtF, by decide +kernel⟩,
  ⟨0, sealPacket { typ := .read, dst := 1, hops := 1 }, prtW, got (sealPacket { typ := .read, dst := 1, hops := 1 }) prtW, by decide +kernel⟩⟩

/-- `FabricTargets`: each clause's hypotheses are met. -/
theorem witness_FabricTargets :
    (∃ (p : Fin 16) (pk : Packet) (parity : Option Nat) (s u : State), pk.typ = .read ∧ pk.dst.toNat = s.devId ∧ s.receive p pk = (true, u) ∧
      let a := pk.addr.toNat / 64 * 64;
      let n := argLines pk;
      let v := u.packetParity p pk a n parity;
      let marks := maskOf n fun j => parity = some j || match region a with | .accWin _ _ => false | _ => v.mark (a + 64 * j);
      u.target a n false = 0) ∧
    (∃ (p : Fin 16) (pk : Packet) (parity : Option Nat) (s u : State), pk.typ = .read ∧ pk.dst.toNat = s.devId ∧ s.receive p pk = (true, u) ∧
      let a := pk.addr.toNat / 64 * 64;
      let n := argLines pk;
      let v := u.packetParity p pk a n parity;
      let marks := maskOf n fun j => parity = some j || match region a with | .accWin _ _ => false | _ => v.mark (a + 64 * j);
      u.target a n false = 2) ∧
    (∃ (p : Fin 16) (pk : Packet) (parity : Option Nat) (s u : State), pk.typ = .read ∧ pk.dst.toNat = s.devId ∧ s.receive p pk = (true, u) ∧
      let a := pk.addr.toNat / 64 * 64;
      let n := argLines pk;
      let v := u.packetParity p pk a n parity;
      let marks := maskOf n fun j => parity = some j || match region a with | .accWin _ _ => false | _ => v.mark (a + 64 * j);
      u.target a n false = 3) ∧
    (∃ (p : Fin 16) (pk : Packet) (parity : Option Nat) (s u : State), pk.typ = .write ∧ pk.dst.toNat = s.devId ∧ s.receive p pk = (true, u) ∧
      let a := pk.addr.toNat / 64 * 64;
      let hit := match parity with | some j => if j < pk.lines then 2 ^ j else 0 | none => 0;
      u.target a pk.lines true = 0) ∧
    (∃ (p : Fin 16) (pk : Packet) (parity : Option Nat) (s u : State), pk.typ = .write ∧ pk.dst.toNat = s.devId ∧ s.receive p pk = (true, u) ∧
      let a := pk.addr.toNat / 64 * 64;
      let hit := match parity with | some j => if j < pk.lines then 2 ^ j else 0 | none => 0;
      u.target a pk.lines true = 2) ∧
    (∃ (p : Fin 16) (pk : Packet) (parity : Option Nat) (s u : State), pk.typ = .write ∧ pk.dst.toNat = s.devId ∧ s.receive p pk = (true, u) ∧
      let a := pk.addr.toNat / 64 * 64;
      let hit := match parity with | some j => if j < pk.lines then 2 ^ j else 0 | none => 0;
      u.target a pk.lines true = 3) ∧
    (∃ (p : Fin 16) (pk : Packet) (m o : Nat) (s u : State), pk.typ = .reduce ∧ pk.dst.toNat = s.devId ∧ s.receive p pk = (true, u) ∧ pk.op ≠ 8 ∧
      let a := pk.addr.toNat / 64 * 64;
      u.target a pk.lines true = 0 ∧ region a = .hbm m o) ∧
    (∃ (p : Fin 16) (pk : Packet) (s u : State), pk.typ = .signal ∧ pk.dst.toNat = s.devId ∧ s.receive p pk = (true, u) ∧
      let i := pk.addr.toNat % 8192;
      u.semMisuse i (ctxNat pk.ctx) = true) ∧
    (∃ (p : Fin 16) (pk : Packet) (s u : State), pk.typ = .signal ∧ pk.dst.toNat = s.devId ∧ s.receive p pk = (true, u) ∧
      let i := pk.addr.toNat % 8192;
      u.semMisuse i (ctxNat pk.ctx) = false) ∧
    (∃ (p : Fin 16) (pk : Packet) (s u : State), pk.dst.toNat = s.devId ∧ s.receive p pk = (true, u)) ∧
    (∃ (tag : BitVec 17) (r : Req) (s : State), s.req tag.toNat = some r ∧ r.since + 1000000 * (if s.rf IZP_GCFG IZP_GCFG_REQ_TMO = 0 then 200 else
      s.rf IZP_GCFG IZP_GCFG_REQ_TMO) ≤ s.clock) ∧
    (∃ (p : Fin 16) (pk : Packet) (s u : State), pk.typ = .mcastWrite ∧ pk.dst.toNat = s.devId ∧ s.receive p pk = (true, u) ∧
      let a := pk.addr.toNat / 64 * 64;
      u.target a pk.lines true = 0) ∧
    (∃ (p : Fin 16) (pk : Packet) (s u : State), pk.dst.toNat = s.devId ∧ s.receive p pk = (true, u)) :=
  ⟨⟨0, sealPacket { typ := .read, addr := 0xE000000000, arg := 1 }, some 0, prt, got (sealPacket { typ := .read, addr := 0xE000000000, arg := 1 }),
  by decide +kernel⟩,
  ⟨0, sealPacket { typ := .read, addr := 0, arg := 1 }, none, prt, got (sealPacket { typ := .read, addr := 0, arg := 1 }), by decide +kernel⟩,
  ⟨0, sealPacket { typ := .read, addr := 0x8000000000, arg := 1 }, none, prt, got (sealPacket { typ := .read, addr := 0x8000000000, arg := 1 }),
    by decide +kernel⟩,
  ⟨0, wrP 0xE000000000, some 0, prt, got (wrP 0xE000000000), by decide +kernel⟩,
  ⟨0, wrP 0, none, prt, got (wrP 0), by decide +kernel⟩,
  ⟨0, wrP 0x8000000000, none, prt, got (wrP 0x8000000000), by decide +kernel⟩,
  ⟨0, sealPacket { wrP 0 with typ := .reduce, op := 1 }, 0, 0, prt.wb (HBM_STATUS 0) HBM_STATUS_UP true, got (sealPacket
    { wrP 0 with typ := .reduce, op := 1 }) (prt.wb (HBM_STATUS 0) HBM_STATUS_UP true), by decide +kernel⟩,
  ⟨0, sealPacket { typ := .signal, addr := 0 }, semBad prt, got (sealPacket { typ := .signal, addr := 0 }) (semBad prt), by decide +kernel⟩,
  ⟨0, sealPacket { typ := .signal, addr := 8191 }, prt, got (sealPacket { typ := .signal, addr := 8191 }), by decide +kernel⟩,
  ⟨0, sealPacket { typ := .cpl }, prt, got (sealPacket { typ := .cpl }), by decide +kernel⟩,
  ⟨0, {}, { up with reqs := [(0, {})], clock := 1000000000 }, by decide +kernel⟩,
  ⟨0, sealPacket { wrP 0xE000000000 with typ := .mcastWrite }, prt, got (sealPacket { wrP 0xE000000000 with typ := .mcastWrite }), by decide +kernel⟩,
  ⟨0, sealPacket { typ := .gap }, prt, got (sealPacket { typ := .gap }), by decide +kernel⟩⟩

/-- `Multicast`: each clause's hypotheses are met. -/
theorem witness_Multicast :
    (∃ (g : Fin 4096) (v : Word) (s : State), s.blockOff .izpg 0 = false ∧ v.toNat % 2 = 1 ∧ s.wakeLink.flag (IZP_MG_CTL g) IZP_MG_CTL_EN = false ∧
      let u := (s.wakeLink.wb (IZP_MG_CTL g) IZP_MG_CTL_POLICY (bit v.toNat 1)).wf (IZP_MG_CTL g) IZP_MG_CTL_RSET (bits v.toNat 2 2);
      u.mcRefusal g ≠ 0) ∧
    (∃ (g : Fin 4096) (v : Word) (s : State), s.blockOff .izpg 0 = false ∧ v.toNat % 2 = 1 ∧ s.wakeLink.flag (IZP_MG_CTL g) IZP_MG_CTL_EN = false ∧
      let u := (s.wakeLink.wb (IZP_MG_CTL g) IZP_MG_CTL_POLICY (bit v.toNat 1)).wf (IZP_MG_CTL g) IZP_MG_CTL_RSET (bits v.toNat 2 2);
      u.mcRefusal g = 0) ∧
    (∃ (g : Fin 4096) (v : Word) (s : State), s.blockOff .izpg 0 = false ∧ v.toNat % 2 = 0 ∧ s.msgs g = []) ∧
    (∃ (g : Fin 4096) (k : Nat) (m : McMsg) (s : State), (s.msgs g).findIdx? (fun m => !m.left.isEmpty) = some k ∧ (s.msgs g)[k]? = some m) ∧
    (∃ (g : Fin 4096) (k : Nat) (m : McMsg) (s : State), (s.msgs g).findIdx? (fun m => !m.left.isEmpty) = some k ∧ (s.msgs g)[k]? = some m ∧
      let late := m.left.filter fun i => decide (s.credit g i < m.data.length / 64);
      let us := s.rf (IZP_MG_HOLD g) IZP_MG_HOLD_US;
      s.flag (IZP_MG_CTL g) IZP_MG_CTL_HOLDING = true ∧ late ≠ [] ∧ m.since + 1000 * (if us = 0 then 50 else us) ≤ s.clock ∧
      let u := s.wr (IZP_MG_STALLS g) (BitVec.ofNat 32 (satTo (2 ^ 32 - 1) ((s.rd (IZP_MG_STALLS g)).toNat + 1)));
      u.flag (IZP_MG_CTL g) IZP_MG_CTL_POLICY = true) ∧
    (∃ (g : Fin 4096) (mask : DWord) (s : State), Canon s ∧ s.blockOff .izpg 0 = false) ∧
    (∃ (p : Fin 16) (pk : Packet) (i : Nat) (s u : State), pk.dst.toNat = s.devId ∧ s.receive p pk = (true, u) ∧
      let g := pk.tag.toNat % 4096;
      (List.range (u.rf (IZP_MG_SLOTS g) IZP_MG_SLOTS_MEMBERS)).find? (fun i => u.memberDev g i == pk.src.toNat) = some i ∧
      let w := u.wf (IZP_MSLOT (u.mslot g i)) IZP_MSLOT_CREDIT (satTo 16383 (u.credit g i + pk.arg.toNat));
      (w.msgs g).findIdx? (fun m => m.unacked.contains i) = none) :=
  ⟨⟨4095, 1, up, by decide +kernel⟩,
  ⟨0, 1, mcOf up, by decide +kernel⟩,
  ⟨4095, 0, up, by decide +kernel⟩,
  ⟨0, 0, { seq := 0, off := 0, data := List.replicate 64 0, left := [0] },
    { up with mcMsgs := [(0, [{ seq := 0, off := 0, data := List.replicate 64 0, left := [0] }])] }, by decide +kernel⟩,
  ⟨0, 0, { seq := 0, off := 0, data := List.replicate 64 0, left := [0] },
    { ((up.wb (IZP_MG_CTL 0) IZP_MG_CTL_HOLDING true).wb (IZP_MG_CTL 0) IZP_MG_CTL_POLICY true) with clock := 50000, mcMsgs := [(0, [{ seq := 0, off := 0, data := List.replicate 64 0, left := [0] }])] },
    by decide +kernel⟩,
  ⟨4095, 1, up, canon_of (by decide +kernel), by decide +kernel⟩,
  ⟨0, sealPacket { typ := .credit, src := 1 }, 0, mcOf prt, got (sealPacket { typ := .credit, src := 1 }) (mcOf prt), by decide +kernel⟩⟩

/-- `FabricTime`: each clause's hypotheses are met. -/
theorem witness_FabricTime :
    (∃ (p : Fin 16) (pk : Packet) (t1 : DWord) (a : Announce) (s u : State), s.receive p pk = (true, u)) ∧
    (∃ (p : Fin 16) (pk : Packet) (t1 t2 t3 : DWord) (a : Announce) (s v : State), s.receive p pk = (true, v) ∧
      let t4 : Int := v.ft.toNat;
      let delay := ((t4 - t1.toNat) - ((t3.toNat : Int) - t2.toNat)) / 2;
      let offset := (((t2.toNat : Int) - t1.toNat) - (t4 - t3.toNat)) / 2;
      let u := ((({ v with ftm := { v.ftm with ann := sput {} a v.ftm.ann p } } : State).wr (FTM_LINK_DELAY p) (BitVec.ofNat 32 (trunc 24 delay + 2 ^
          31)))).elect;
      u.isGm = false ∧ u.rf FTM_STATUS FTM_STATUS_PARENT = p.val ∧ (u.ftState = ftACQUIRING ∨ u.ftState = ftLOCKED)) ∧
    (∃ (s : State), s.isGm = false ∧ s.ftState = ftLOCKED ∧ s.ftm.lastGood + 5000000 ≤ s.clock ∧
      let u : State := { s with ftm := { s.ftm with ann := sput {} {} s.ftm.ann (s.rf FTM_STATUS FTM_STATUS_PARENT) } };
      u.bestPort u.gmPorts = none) ∧
    (∃ (s : State), s.ftm.growFrom.isSome = true ∧ s.ftm.passed = false ∧ s.rf FTM_CFG FTM_CFG_UNCERT_MAX < s.uncert) ∧
    (∃ (i : RefInput) (s : State), s.isGm = true ∧ (i = .ptp → s.rf FTM_CFG FTM_CFG_REF = 1) ∧ (i ≠ .ptp → s.rf FTM_CFG FTM_CFG_REF = 2) ∧
      s.ftm.refLost = false) ∧
    (∃ (s : State), let u : State := { s with ftm := { s.ftm with ref10 := true } };
      s.isGm = true ∧ s.rf FTM_CFG FTM_CFG_REF = 2) ∧
    (∃ (s : State), let u : State := { s with ftm := { s.ftm with ref10 := true } };
      (s.isGm = false ∨ s.rf FTM_CFG FTM_CFG_REF ≠ 2)) ∧
    (∃ (s : State), s.isGm = true ∧ s.rf FTM_CFG FTM_CFG_REF = 2 ∧ s.ftm.ref10 = true) ∧
    (∃ (s : State), Canon s ∧ s.blockOff .ftm 0 = false) ∧
    (∃ (t : DWord) (s : State), s.isGm = true ∧ s.rf FTM_CFG FTM_CFG_REF = 1) :=
  ⟨⟨0, sealPacket { typ := .time }, 0, {}, prt, got (sealPacket { typ := .time }), by decide +kernel⟩,
  ⟨0, sealPacket { typ := .time }, 0, 0, 0, {}, prt.wf FTM_STATUS FTM_STATUS_STATE ftLOCKED, got (sealPacket { typ := .time }) (prt.wf FTM_STATUS
    FTM_STATUS_STATE ftLOCKED), by decide +kernel⟩,
  ⟨{ up.wf FTM_STATUS FTM_STATUS_STATE ftLOCKED with clock := 5000000 }, by decide +kernel⟩,
  ⟨{ up.wf FTM_CFG FTM_CFG_UNCERT_MAX 1 with ftm := { growFrom := some 0 } }, by decide +kernel⟩,
  ⟨.ptp, gm 1, by decide +kernel⟩,
  ⟨{ gm 2 with ftm := { refPps := true } }, by decide +kernel⟩,
  ⟨up, by decide +kernel⟩,
  ⟨{ gm 2 with ftm := { ref10 := true } }, by decide +kernel⟩,
  ⟨up, canon_of (by decide +kernel), by decide +kernel⟩,
  ⟨0, gm 1, by decide +kernel⟩⟩

/-- `RailsAndHistory`: each clause's hypotheses are met. -/
theorem witness_RailsAndHistory :
    (∃ (r : Rail) (s : State), (s.rail (railKey r)).below = false ∧ s.railOn (railKey r) = true) ∧
    (∃ (r : Rail) (s : State), (s.rail (railKey r)).below = true ∧ (s.rail (railKey r)).done = false) ∧
    (∃ (r : Rail) (s : State), (s.rail (railKey r)).below = true ∧ (s.rail (railKey r)).done = false ∧ (s.rail (railKey r)).since + 20000 < s.clock) ∧
    (∃ (r : Rail) (s : State), s.railOn (railKey r) = true ∧ (s.rail (railKey r)).done = false) ∧
    (∃ (i a : Nat) (s : State), histKept 4 = true ∧ (s.histOf (histKey 4 i a)).permanent = false ∧ 3 ≤ (s.histOf (histKey 4 i a)).recent s.histNow ∧
      let u := s.classPermanent 4 i a 1;
      let place := (List.range 8).find? fun g => u.colMap a (512 + g) = i;
      (place = none ∨ u.spareCols a = [])) ∧
    (∃ (i a : Nat) (s : State), histKept 4 = true ∧ (s.histOf (histKey 4 i a)).permanent = false ∧ 3 ≤ (s.histOf (histKey 4 i a)).recent s.histNow ∧
      let u := s.classPermanent 4 i a 1;
      let place := (List.range 8).find? fun g => u.colMap a (512 + g) = i;
      ∃ g spare more, place = some g ∧ u.spareCols a = spare :: more) ∧
    (∃ (s : State), s.dom 62 = 1) ∧
    (∃ (s : State), s.dom 62 ≠ 1) ∧
    (∃ (k : Nat) (s : State), s.blockOff .flt 0 = false ∧ histSel (s.wakeLink.rd FLT_HIST_SEL).toNat = some k) ∧
    (∃ (s : State), Canon s ∧ s.blockOff .flt 0 = false ∧ histSel (s.wakeLink.rd FLT_HIST_SEL).toNat = none) :=
  ⟨⟨.shared, up, by decide +kernel⟩,
  ⟨.shared, railS, by decide +kernel⟩,
  ⟨.shared, railS, by decide +kernel⟩,
  ⟨.input, up, by decide +kernel⟩,
  ⟨535, 7, { up with hist := [(histKey 4 535 7, { times := [0, 0, 0] })] }, by decide +kernel, by decide +kernel, by decide +kernel, Or.inl
    (by decide +kernel)⟩,
  ⟨519, 7, { up with hist := [(histKey 4 519 7, { times := [0, 0, 0] })] }, by decide +kernel, by decide +kernel, by decide +kernel, 7, 520,
    (List.range 15).map (· + 521), by decide +kernel, spareCols_id (by decide +kernel) (by decide +kernel)⟩,
  ⟨up, by decide +kernel⟩,
  ⟨State.reset, by decide +kernel⟩,
  ⟨histKey 2 32 0, up.wr FLT_HIST_SEL 0x2020, by decide +kernel⟩,
  ⟨up, canon_of (by decide +kernel), by decide +kernel⟩⟩

/-- `SteadyRest`: each clause's hypotheses are met. -/
theorem witness_SteadyRest :
    (∃ (c : Fin 9) (accesses : List Nat) (s : State), Canon s) ∧
    (∃ (i : Fin 9216) (s : State), (s.loop i).st = .run ∧ (if s.rf (STD_SET_CFG (s.setIx i)) STD_SET_CFG_RES_COUNT = 0 then 8 else s.rf (STD_SET_CFG
      (s.setIx i)) STD_SET_CFG_RES_COUNT) ≤ (s.loop i).breaches) ∧
    (∃ (c : Fin 9) (init : Bool) (s : State), Canon s ∧ s.blockOff .std 0 = false) ∧
    (∃ (c : Fin 9) (b : Bool) (k : Fin 64) (w : Fin 20) (v : Word) (s : State), s.blockOff .std 0 = false ∧ b2n b ≠ s.wakeLink.rf (STD_CORE_BANK c)
      STD_CORE_BANK_ACTIVE ∧ (s.core c).swapAt = none) ∧
    (∃ (c : Fin 9) (b : Bool) (k : Fin 64) (w : Fin 20) (v : Word) (s : State), s.blockOff .std 0 = false ∧ b2n b = s.wakeLink.rf (STD_CORE_BANK c)
      STD_CORE_BANK_ACTIVE) ∧
    (∃ (i : Fin 9216) (v : Word) (s : State), s.blockOff .std 0 = false ∧ v.toNat % 4 = 1 ∧ s.wakeLink.rf (STD_LOOP_CFG i) STD_LOOP_CFG_MODE = 0 ∧
      let u := (s.wakeLink.wrSoft (STD_LOOP_CFG i) (BitVec.ofNat 32 (setBits v.toNat 0 2 0))).wf (STD_LOOP_CFG i) STD_LOOP_CFG_MODE 1;
      u.trimForced = true) ∧
    (∃ (i : Fin 9216) (v : Word) (s : State), s.blockOff .std 0 = false ∧ v.toNat % 4 = 1 ∧ s.wakeLink.rf (STD_LOOP_CFG i) STD_LOOP_CFG_MODE = 0 ∧
      let u := (s.wakeLink.wrSoft (STD_LOOP_CFG i) (BitVec.ofNat 32 (setBits v.toNat 0 2 0))).wf (STD_LOOP_CFG i) STD_LOOP_CFG_MODE 1;
      u.trimForced = false ∧ (u.loop i).st = .off ∧ u.loopNamed (i / nLoops) (i % nLoops) = true) ∧
    (∃ (i : Fin 9216) (v : Word) (s : State), s.blockOff .std 0 = false ∧ v.toNat % 4 = 1 ∧ s.wakeLink.rf (STD_LOOP_CFG i) STD_LOOP_CFG_MODE = 0 ∧
      let u := (s.wakeLink.wrSoft (STD_LOOP_CFG i) (BitVec.ofNat 32 (setBits v.toNat 0 2 0))).wf (STD_LOOP_CFG i) STD_LOOP_CFG_MODE 1;
      u.trimForced = false ∧ (u.loop i).st = .off ∧ u.loopNamed (i / nLoops) (i % nLoops) = false) ∧
    (∃ (c : Fin 9) (v : Word) (s : State), Canon s ∧ s.blockOff .std 0 = false ∧ c.val < 8) :=
  ⟨⟨8, [], up, canon_of (by decide +kernel)⟩,
  ⟨0, { up with loops := [(0, { st := .run, breaches := 8 })] }, by decide +kernel⟩,
  ⟨8, false, up, canon_of (by decide +kernel), by decide +kernel⟩,
  ⟨8, true, 63, 19, 5, up, by decide +kernel⟩,
  ⟨8, false, 63, 19, 5, up, by decide +kernel⟩,
  ⟨0, 1, { up with trimPin := true }, by decide +kernel⟩,
  ⟨0, 1, up, by decide +kernel⟩,
  ⟨520, 1, up, by decide +kernel⟩,
  ⟨7, 5, up, canon_of (by decide +kernel), by decide +kernel⟩⟩

/-- `TrimChannels`: each clause's hypotheses are met. -/
theorem witness_TrimChannels :
    (∃ (s : State), s.trimForced = true) ∧
    (∃ (s : State), s.trimForced = false) ∧
    (∃ (i : Fin 9216) (code : BitVec 16) (s : State), Canon s ∧ s.blockOff .trm 0 = false ∧ (s.loop i).st = .off ∧ (s.trim i).queue.length < 16) ∧
    (∃ (i : Fin 9216) (code : BitVec 16) (s : State), s.blockOff .trm 0 = false ∧ (s.loop i).st ≠ .off) ∧
    (∃ (i : Fin 9216) (c : Nat) (s : State), Canon s ∧ (s.trim i).pend = some c) ∧
    (∃ (i : Fin 9216) (s : State), Canon s ∧ (s.trim i).sc = false ∧ (s.loop i).st ≠ .run) ∧
    (∃ (i : Fin 9216) (s : State), s.blockOff .trm 0 = false ∧ (s.trim i).sc = true) ∧
    (∃ (vent : Bool) (s : State), s.trimForced = false) ∧
    (∃ (vent : Bool) (s : State), s.trimPin = !vent ∧ s.trimVent = vent) :=
  ⟨⟨{ up with trimPin := true }, by decide +kernel⟩,
  ⟨up, by decide +kernel⟩,
  ⟨9215, 5, up, canon_of (by decide +kernel), by decide +kernel⟩,
  ⟨0, 5, { up with loops := [(0, { st := .run })] }, by decide +kernel⟩,
  ⟨0, 5, { up with trims := [(0, { pend := some 5 })] }, canon_of (by decide +kernel), by decide +kernel⟩,
  ⟨9215, up, canon_of (by decide +kernel), by decide +kernel⟩,
  ⟨0, { up with trims := [(0, { sc := true })] }, by decide +kernel⟩,
  ⟨true, up, by decide +kernel⟩,
  ⟨true, { up with trimVent := true }, by decide +kernel⟩⟩

/-- `Converters`: each clause's hypotheses are met. -/
theorem witness_Converters :
    (∃ (c : Fin 16) (raw : Int) (unstable : Bool) (s : State), (s.conv c).st = .scan) ∧
    (∃ (c : Fin 16) (raw : Int) (unstable : Bool) (s : State), (s.conv c).st = .oneshot) ∧
    (∃ (c : Fin 16) (v : Word) (s : State), s.blockOff .mon 0 = false) ∧
    (∃ (c : Fin 16) (v : Word) (s : State), Canon s ∧ s.blockOff .mon 0 = false) ∧
    (∃ (c : Fin 16) (i : Fin 32) (s : State), s.blockOff .mon 0 = false ∧ (s.conv c).st = .idle) ∧
    (∃ (c : Fin 16) (i : Fin 32) (s : State), s.blockOff .mon 0 = false ∧ (s.conv c).st ≠ .idle) ∧
    (∃ (c : Fin 16) (s : State), Canon s ∧ s.blockOff .mon 0 = false ∧ (s.conv c).st ≠ .cal ∧ (s.conv c).st ≠ .oneshot ∧ s.wakeLink.calBlocked c =
      false) ∧
    (∃ (c : Fin 16) (s : State), Canon s ∧ s.blockOff .mon 0 = false ∧ (s.conv c).st = .oneshot) ∧
    (∃ (c : Fin 16) (sum30 sum29 : Int) (s : State), (s.conv c).st = .cal ∧
      let n : Int := 1000 - (3 + (s.conv c).order);
      let ofs := ratRne sum30 n;
      let den := sum29 - n * ofs;
      let gain := ratRne (2 ^ 30 * 5242880 * n) den;
      let d : List (Nat × Nat) := [(0x14, trunc 24 ofs), (0x18, trunc 32 gain)];
      let u := s.setConv c { s.conv c with st := .idle };
      let queued (w : State) : State := if (decide (c.val < 2) && (w.conv (1 - c.val)).calQueued) = true then w.convCal (1 - c.val) else w;
      den ≠ 0 ∧ (ofs.natAbs ≤ 65536 ∧ 0x3CCCCCCD ≤ gain ∧ gain ≤ 0x43333333)) ∧
    (∃ (c : Fin 16) (sum30 sum29 : Int) (s : State), (s.conv c).st = .cal ∧
      let n : Int := 1000 - (3 + (s.conv c).order);
      let ofs := ratRne sum30 n;
      let den := sum29 - n * ofs;
      let gain := ratRne (2 ^ 30 * 5242880 * n) den;
      let d : List (Nat × Nat) := [(0x14, trunc 24 ofs), (0x18, trunc 32 gain)];
      let u := s.setConv c { s.conv c with st := .idle };
      let queued (w : State) : State := if (decide (c.val < 2) && (w.conv (1 - c.val)).calQueued) = true then w.convCal (1 - c.val) else w;
      den ≠ 0 ∧ (¬(ofs.natAbs ≤ 65536 ∧ 0x3CCCCCCD ≤ gain ∧ gain ≤ 0x43333333))) :=
  ⟨⟨0, 5, false, { up with convs := [(0, { st := .scan })] }, by decide +kernel⟩,
  ⟨0, 5, false, { up with convs := [(0, { st := .oneshot })] }, by decide +kernel⟩,
  ⟨0, 5, up, by decide +kernel⟩,
  ⟨15, 5, up, canon_of (by decide +kernel), by decide +kernel⟩,
  ⟨15, 31, up, by decide +kernel⟩,
  ⟨15, 31, { up with convs := [(15, { st := .cal })] }, by decide +kernel⟩,
  ⟨15, up, canon_of (by decide +kernel), by decide +kernel⟩,
  ⟨15, { up with convs := [(15, { st := .oneshot })] }, canon_of (by decide +kernel), by decide +kernel⟩,
  ⟨0, 0, 5226926080, { up with convs := [(0, { st := .cal })] }, by decide +kernel⟩,
  ⟨15, 0, 1, { up with convs := [(15, { st := .cal })] }, by decide +kernel⟩⟩

/-- `Housekeeping`: each clause's hypotheses are met. -/
theorem witness_Housekeeping :
    (∃ (s : State), s.dom 61 = 1 ∧
      let u := (s.wf MON_ROUND_CFG MON_ROUND_CFG_COUNT (s.rf MON_ROUND_CFG MON_ROUND_CFG_COUNT + 1)).crossChecks.refChecks;
      let diodes := ((List.range 2).filter fun c => !u.calibrating c).map fun c => u.result c 31;
      let v := u.validRound (diodes.foldl (fun (a : Int) x => max a x) (-(2 ^ 23)));
      let seqs (w : State) : State :=
          { w with temp := { w.temp with seqs := (List.range 512).foldl (fun (acc : Sparse Nat) j => sput 0 (w.rf (MON_RES j) MON_RES_SEQ) acc j) [] } };
      u.sensorFault.1 = 0 ∧ v.rf MON_TEMP MON_TEMP_LEVEL = 0) ∧
    (∃ (s : State), s.dom 61 = 1 ∧
      let u := (s.wf MON_ROUND_CFG MON_ROUND_CFG_COUNT (s.rf MON_ROUND_CFG MON_ROUND_CFG_COUNT + 1)).crossChecks.refChecks;
      let diodes := ((List.range 2).filter fun c => !u.calibrating c).map fun c => u.result c 31;
      let v := u.validRound (diodes.foldl (fun (a : Int) x => max a x) (-(2 ^ 23)));
      let seqs (w : State) : State :=
          { w with temp := { w.temp with seqs := (List.range 512).foldl (fun (acc : Sparse Nat) j => sput 0 (w.rf (MON_RES j) MON_RES_SEQ) acc j) [] } };
      u.sensorFault.1 = 0 ∧ 0 < v.rf MON_TEMP MON_TEMP_LEVEL) ∧
    (∃ (s : State), s.dom 61 = 1 ∧
      let u := (s.wf MON_ROUND_CFG MON_ROUND_CFG_COUNT (s.rf MON_ROUND_CFG MON_ROUND_CFG_COUNT + 1)).crossChecks.refChecks;
      let w := (u.wb MON_TEMP MON_TEMP_VALID false).wf MON_TEMP MON_TEMP_FAIL_CAUSE u.sensorFault.1;
      let v := (if u.flag MON_TEMP MON_TEMP_VALID then w.post 0xC04 cFAULT (unitOf 0xD u.sensorFault.2) 0xFFFF [(0x10, u.sensorFault.1), (0x14, trunc
          24 (w.result 0 31)), (0x18, trunc 24 (w.result 1 31))] else w).setLevel 6;
      let seqs (w : State) : State :=
          { w with temp := { w.temp with seqs := (List.range 512).foldl (fun (acc : Sparse Nat) j => sput 0 (w.rf (MON_RES j) MON_RES_SEQ) acc j) [] } };
      u.sensorFault.1 ≠ 0 ∧ 0 < v.rf MON_TEMP MON_TEMP_LEVEL) ∧
    (∃ (v : Word) (s : State), Canon s ∧ s.blockOff .mon 0 = false) ∧
    (∃ (s : State), Canon s ∧ s.blockOff .mon 0 = false ∧ s.wakeLink.flag MON_TEMP MON_TEMP_VALID = true ∧ hotter s.temp.code (100 * jigWarn
      s.wakeLink.jigBody) = false) ∧
    (∃ (s : State), Canon s ∧ s.blockOff .mon 0 = false ∧ s.wakeLink.flag MON_TEMP MON_TEMP_VALID = true ∧ hotter s.temp.code (100 * jigWarn
      s.wakeLink.jigBody) = true) :=
  ⟨⟨roundS, by decide +kernel⟩,
  ⟨roundS.wf MON_TEMP MON_TEMP_LEVEL 3, by decide +kernel⟩,
  ⟨up, by decide +kernel⟩,
  ⟨0, up, canon_of (by decide +kernel), by decide +kernel⟩,
  ⟨up.wb MON_TEMP MON_TEMP_VALID true, canon_of (by decide +kernel), by decide +kernel⟩,
  ⟨{ up.wb MON_TEMP MON_TEMP_VALID true with temp := { code := 8388607 } }, canon_of (by decide +kernel), by decide +kernel⟩⟩

/-- The hypotheses of that clause of `Calibration` are met. -/
theorem witness_Calibration_11 :
    (∃ (n : Fin 8) (s : State), let k := s.calKey n;
      let c := s.cal k;
      c.st = .running ∧ c.kind ≠ 2 ∧ c.phase = (if c.kind = 0 then 6 else if c.kind = 1 then 4 else 2) ∧ c.reason = 0 ∧ s.mapsOk k c = false) :=
  ⟨0, calS { st := .running, phase := 6, rowMaps := [[]], colMap := [1, 1] }, by decide +kernel⟩

/-- The hypotheses of that clause of `Calibration` are met. -/
theorem witness_Calibration_12 :
    (∃ (n : Fin 8) (s : State), let k := s.calKey n;
      let c := s.cal k;
      c.st = .running ∧ c.kind ≠ 2 ∧ c.phase = (if c.kind = 0 then 6 else if c.kind = 1 then 4 else 2) ∧ c.reason = 0 ∧ s.mapsOk k c = true) :=
  ⟨0, calS { st := .running, phase := 6, rowMaps := [[]] }, by decide +kernel⟩

/-- The hypotheses of that clause of `Calibration` are met. -/
theorem witness_Calibration_13 :
    (∃ (n : Fin 8) (m : CalMeas) (s : State), let k := s.calKey n;
      (s.cal k).st = .running ∧ (s.cal k).kind = 2 ∧
      let c :=
          { s.cal k with extra1 := s.fitPass k ((m.groups[0]?).getD []), extra2 := s.fitPass k ((m.groups[1]?).getD []), newCols := List.range 536 };
      let r := s.localise k c;
      let a := (((s.setCal k c).showFits k (fun _ _ => false) fun p => (s.localised k c).contains p).resumeLoops k c).calDone k;
      let u := (a.calLathes k).foldl (fun (acc : State) m => (acc.modLathe m Lathe.freeBanks).setCalResult m 1 2 0) a;
      let v := u.post 0xD03 cWARN (unitOf 1 k) 0xFFFF [(0x10, k), (0x11, c.column), (0x12, r.1.getD 0xFFFF), (0x14, r.2)];
      r.1 = none) :=
  ⟨0, {}, locN, by decide +kernel, by decide +kernel, localise_none (by decide +kernel)⟩

/-- The hypotheses of that clause of `Calibration` are met. -/
theorem witness_Calibration_14 :
    (∃ (n : Fin 8) (m : CalMeas) (p : Nat) (s : State), let k := s.calKey n;
      (s.cal k).st = .running ∧ (s.cal k).kind = 2 ∧
      let c :=
          { s.cal k with extra1 := s.fitPass k ((m.groups[0]?).getD []), extra2 := s.fitPass k ((m.groups[1]?).getD []), newCols := List.range 536 };
      let r := s.localise k c;
      let a := (((s.setCal k c).showFits k (fun _ _ => false) fun p => (s.localised k c).contains p).resumeLoops k c).calDone k;
      let u := (a.calLathes k).foldl (fun (acc : State) m => (acc.modLathe m Lathe.freeBanks).setCalResult m 1 2 0) a;
      let v := (u.post 0xD03 cWARN (unitOf 1 k) 0xFFFF [(0x10, k), (0x11, c.column), (0x12, p), (0x14, r.2)]).histPermanent 4 p k 2;
      let spare := (List.range 536).find? fun q => decide (520 ≤ q) && !((List.range 520).map (v.colMap k)).contains q && v.colKept k c q;
      let entry := (List.range 520).find? fun i => v.colMap k i == p;
      r.1 = some p) :=
  ⟨0, {}, 0, locS, by decide +kernel, by decide +kernel, localise_first (by decide +kernel) (by decide +kernel)⟩

/-- `Calibration`: each clause's hypotheses are met. -/
theorem witness_Calibration :
    (∃ (n : Fin 8) (s : State), Canon s ∧ s.blockOff .cal n = false ∧ (∀ m ∈ s.calLathes n, (s.lathe m).svc ≠ .off ∧ (s.lathe m).svc ≠ .starting ∧
        (s.lathe m).svc ≠ .faultHold) ∧
      let k := s.calKey n;
      (s.cal k).st = .idle ∧ s.wakeLink.rd64 (CAL_AT n) ≠ 0) ∧
    (∃ (n : Fin 8) (s : State), s.blockOff .cal n = false ∧
      let k := s.calKey n;
      (s.cal k).waits = none) ∧
    (∃ (n : Fin 8) (s : State), s.blockOff .cal n = false ∧
      let k := s.calKey n;
      ∃ a, (s.cal k).waits = some a ∧ (s.cal k).st = .waiting) ∧
    (∃ (n : Fin 8) (s : State), s.blockOff .cal n = false ∧
      let k := s.calKey n;
      ∃ a, (s.cal k).waits = some a ∧ (s.cal k).st ≠ .waiting) ∧
    (∃ (mask : BitVec 8) (s : State), s.blockOff .dev 0 = false) ∧
    (∃ (n : Fin 8) (s : State), let k := s.calKey n;
      ∃ a, (s.cal k).waits = some a ∧ a ≤ s.ft.toNat) ∧
    (∃ (n : Fin 8) (s : State), let k := s.calKey n;
      ∃ a, (s.cal k).waits = some a ∧ s.ft.toNat < a) ∧
    (∃ (n : Fin 8) (s : State), let k := s.calKey n;
      (s.cal k).waits = none) ∧
    (∃ (n : Fin 8) (s : State), let k := s.calKey n;
      let c := s.cal k;
      c.st = .slot ∧ s.slotReady k = true ∧ (∀ e ∈ s.cals, e.2.st = .slot → s.slotReady e.1 = true → c.order < e.2.order ∨ (c.order = e.2.order ∧ k ≤
          e.1)) ∧ s.runningCals.length < 2 ∧ s.level = 0) ∧
    (∃ (n : Fin 8) (m : CalMeas) (s : State), (s.cal (s.calKey n)).st = .running) ∧
    (∃ (n : Fin 8) (s : State), let k := s.calKey n;
      let c := s.cal k;
      c.st = .running ∧ c.kind ≠ 2 ∧ c.phase = (if c.kind = 0 then 6 else if c.kind = 1 then 4 else 2) ∧ c.reason ≠ 0) ∧
    (∃ (n : Fin 8) (s : State), let k := s.calKey n;
      let c := s.cal k;
      c.st = .running ∧ c.kind ≠ 2 ∧ c.phase = (if c.kind = 0 then 6 else if c.kind = 1 then 4 else 2) ∧ c.reason = 0 ∧ s.mapsOk k c = false) ∧
    (∃ (n : Fin 8) (s : State), let k := s.calKey n;
      let c := s.cal k;
      c.st = .running ∧ c.kind ≠ 2 ∧ c.phase = (if c.kind = 0 then 6 else if c.kind = 1 then 4 else 2) ∧ c.reason = 0 ∧ s.mapsOk k c = true) ∧
    (∃ (n : Fin 8) (m : CalMeas) (s : State), let k := s.calKey n;
      (s.cal k).st = .running ∧ (s.cal k).kind = 2 ∧
      let c :=
          { s.cal k with extra1 := s.fitPass k ((m.groups[0]?).getD []), extra2 := s.fitPass k ((m.groups[1]?).getD []), newCols := List.range 536 };
      let r := s.localise k c;
      let a := (((s.setCal k c).showFits k (fun _ _ => false) fun p => (s.localised k c).contains p).resumeLoops k c).calDone k;
      let u := (a.calLathes k).foldl (fun (acc : State) m => (acc.modLathe m Lathe.freeBanks).setCalResult m 1 2 0) a;
      let v := u.post 0xD03 cWARN (unitOf 1 k) 0xFFFF [(0x10, k), (0x11, c.column), (0x12, r.1.getD 0xFFFF), (0x14, r.2)];
      r.1 = none) ∧
    (∃ (n : Fin 8) (m : CalMeas) (p : Nat) (s : State), let k := s.calKey n;
      (s.cal k).st = .running ∧ (s.cal k).kind = 2 ∧
      let c :=
          { s.cal k with extra1 := s.fitPass k ((m.groups[0]?).getD []), extra2 := s.fitPass k ((m.groups[1]?).getD []), newCols := List.range 536 };
      let r := s.localise k c;
      let a := (((s.setCal k c).showFits k (fun _ _ => false) fun p => (s.localised k c).contains p).resumeLoops k c).calDone k;
      let u := (a.calLathes k).foldl (fun (acc : State) m => (acc.modLathe m Lathe.freeBanks).setCalResult m 1 2 0) a;
      let v := (u.post 0xD03 cWARN (unitOf 1 k) 0xFFFF [(0x10, k), (0x11, c.column), (0x12, p), (0x14, r.2)]).histPermanent 4 p k 2;
      let spare := (List.range 536).find? fun q => decide (520 ≤ q) && !((List.range 520).map (v.colMap k)).contains q && v.colKept k c q;
      let entry := (List.range 520).find? fun i => v.colMap k i == p;
      r.1 = some p) ∧
    (∃ (n : Fin 8) (s : State), Canon s ∧ s.standbyPos n ≠ 15 ∧ s.rf (LTH_LASER n 11) LTH_LASER_STATE = 2 ∧ (s.cal (s.calKey n)).st = .idle ∧ (s.lathe
      n).svc = .inService) :=
  ⟨⟨0, inS.wr (CAL_AT 0) 5, canon_of (by decide +kernel), by decide +kernel⟩,
  ⟨7, up, by decide +kernel⟩,
  ⟨0, calS { st := .waiting }, by decide +kernel, 0, by decide +kernel⟩,
  ⟨0, calS { st := .slot, held := some (0, 0, false) }, by decide +kernel, 0, by decide +kernel⟩,
  ⟨0x80, up, by decide +kernel⟩,
  ⟨0, calS { st := .waiting }, 0, by decide +kernel⟩,
  ⟨0, calS { st := .waiting, at_ := 5 }, 5, by decide +kernel⟩,
  ⟨7, up, by decide +kernel⟩,
  ⟨0, { calS { st := .slot, kind := 1 } with lathes := [(0, { svc := .calibrating })] }, by decide +kernel⟩,
  ⟨0, {}, calS { st := .running, phase := 1 }, by decide +kernel⟩,
  ⟨0, calS { st := .running, phase := 6, reason := 1 }, by decide +kernel⟩,
  witness_Calibration_11,
  witness_Calibration_12,
  witness_Calibration_13,
  witness_Calibration_14,
  ⟨0, stbyS, canon_of (by decide +kernel), by decide +kernel⟩⟩

/-- `PowerInput`: each clause's hypotheses are met. -/
theorem witness_PowerInput :
    (∃ (s : State), s.power.input = false ∧
      let u :=
          ((((({ s with power := { s.power with input := true, offTotal := s.power.offTotal + (s.clock - s.power.offAt) }, hist := s.histFlash, histDirty := [], recovery := s.recPin, recReply := none, vent := { s.vent with booting := true, bootCause := 0 } }
          : State).setDom 63 1).setDom 62 1).wr DEV_FABRIC_ID s.fabricIdFlash).beginStart 0 s.clock);
      s.recPin = true) ∧
    (∃ (s : State), s.power.input = false ∧
      let u :=
          ((((({ s with power := { s.power with input := true, offTotal := s.power.offTotal + (s.clock - s.power.offAt) }, hist := s.histFlash, histDirty := [], recovery := s.recPin, recReply := none, vent := { s.vent with booting := true, bootCause := 0 } }
          : State).setDom 63 1).setDom 62 1).wr DEV_FABRIC_ID s.fabricIdFlash).beginStart 0 s.clock);
      s.recPin = false) ∧
    (∃ (power volt : BitVec 16) (s : State), Canon s ∧ s.power.input = true ∧
      let v := s.wr PWR_INPUT (BitVec.ofNat 32 (volt.toNat + 65536 * power.toNat));
      let lim := v.rf PWR_LIMIT PWR_LIMIT_LIMIT;
      let pl := v.rf PWR_STATUS PWR_STATUS_PLEVEL;
      let next := if lim ≤ power.toNat then min (pl + 1) 6 else if 100 * power.toNat < 95 * lim then pl - 1 else pl;
      let u := v.wf PWR_STATUS PWR_STATUS_PLEVEL next;
      pl = 0 ∧ next = 0) ∧
    (∃ (power volt : BitVec 16) (s : State), Canon s ∧ s.power.input = true ∧
      let v := s.wr PWR_INPUT (BitVec.ofNat 32 (volt.toNat + 65536 * power.toNat));
      let lim := v.rf PWR_LIMIT PWR_LIMIT_LIMIT;
      let pl := v.rf PWR_STATUS PWR_STATUS_PLEVEL;
      let next := if lim ≤ power.toNat then min (pl + 1) 6 else if 100 * power.toNat < 95 * lim then pl - 1 else pl;
      let u := v.wf PWR_STATUS PWR_STATUS_PLEVEL next;
      0 < pl ∧ 0 < next) :=
  ⟨⟨{ State.reset with recPin := true }, by decide +kernel⟩,
  ⟨State.reset, by decide +kernel⟩,
  ⟨100, 480, up, canon_of (by decide +kernel), by decide +kernel⟩,
  ⟨0xFFFF, 480, up.wf PWR_STATUS PWR_STATUS_PLEVEL 1, canon_of (by decide +kernel), by decide +kernel⟩⟩

/-- `PowerDomainsAndStates`: each clause's hypotheses are met. -/
theorem witness_PowerDomainsAndStates :
    (∃ (d : Fin 64) (s : State), s.blockOff .pwr 0 = false ∧ s.wakeLink.domTaken d = true ∧ groupOf d = none) ∧
    (∃ (d : Fin 64) (s : State), groupOf d = none ∧ d.val ≠ 63 ∧
      let k := resetKey d;
      sget 0 s.power.resets k ≠ 0 ∧ sget 0 s.power.resets k - 1 + ms ≤ s.clock) ∧
    (∃ (v : Word) (s : State), s.blockOff .pwr 0 = false ∧
      let u := s.wakeLink.wrSoft PWR_STATE_REQ v;
      v.toNat / 256 % 2 = 1 ∧ v.toNat % 8 ≤ 4 ∧ u.power.cold = false ∧ u.ventDown = false ∧ bit v.toNat 4 = true) ∧
    (∃ (v : Word) (s : State), s.blockOff .pwr 0 = false ∧
      let u := s.wakeLink.wrSoft PWR_STATE_REQ v;
      v.toNat / 256 % 2 = 1 ∧ v.toNat % 8 ≤ 4 ∧ u.power.cold = false ∧ u.ventDown = false ∧ bit v.toNat 4 = false) ∧
    (∃ (t : Nat) (s : State), s.power.reqTarget = some t ∧ s.flag PWR_STATUS PWR_STATUS_TRANS = false ∧ s.power.timed = [] ∧ s.power.resetHeld = false
      ∧ s.power.refLost = false ∧ s.power.input = true ∧ s.pwr ≠ t ∧ (s.pwr ≠ 4 ∨ t = 0) ∧ (s.pwr < t → s.downWaits = false)) ∧
    (∃ (s : State), s.flag PWR_STATUS PWR_STATUS_TRANS = false) ∧
    (∃ (s : State), s.flag PWR_STATUS PWR_STATUS_TRANS = true ∧ s.power.waiting = true ∧
      let tmo := s.rf PWR_QUIESCE_TMO PWR_QUIESCE_TMO_MS;
      tmo ≠ 0 ∧ s.power.transFrom + tmo * ms ≤ s.clock ∧ s.power.tmoDone = false ∧
      let late := (List.range 8).filter fun n => (s.lathe n).svc == .quiescing;
      let engines := (late.map s.gang).eraseDups;
      let count := (engines.map fun b => ((s.engine b).progs.filter fun x => x.st == .started).length).foldl (· + ·) 0;
      late ≠ []) ∧
    (∃ (s : State), s.flag PWR_STATUS PWR_STATUS_TRANS = true ∧ s.power.refLost = false ∧ (s.power.byVent || !s.power.waiting || (List.range 8).all
        fun n => (s.lathe n).svc != .quiescing) = true ∧
      let t := s.rf PWR_STATUS PWR_STATUS_TARGET;
      let closed := (List.range 8).all fun k => s.bypassed k && !bit s.bypOpening k;
      3 ≤ t ∧ closed = false) ∧
    (∃ (s : State), s.flag PWR_STATUS PWR_STATUS_TRANS = true ∧ s.power.refLost = false ∧ (s.power.byVent || !s.power.waiting || (List.range 8).all
        fun n => (s.lathe n).svc != .quiescing) = true ∧
      let t := s.rf PWR_STATUS PWR_STATUS_TARGET;
      let closed := (List.range 8).all fun k => s.bypassed k && !bit s.bypOpening k;
      3 ≤ t ∧ closed = true ∧ s.rf IZP_BYP IZP_BYP_MOVING ≠ 0) ∧
    (∃ (s : State), s.flag PWR_STATUS PWR_STATUS_TRANS = true ∧ s.power.refLost = false ∧ (s.power.byVent || !s.power.waiting || (List.range 8).all
        fun n => (s.lathe n).svc != .quiescing) = true ∧
      let t := s.rf PWR_STATUS PWR_STATUS_TARGET;
      let closed := (List.range 8).all fun k => s.bypassed k && !bit s.bypOpening k;
      t < 3 ∧ s.pwr ≠ 4) ∧
    (∃ (s : State), Canon s ∧ s.hostUp = true ∧ s.rf PWR_STATUS PWR_STATUS_STATE = 3) :=
  ⟨⟨56, up, by decide +kernel⟩,
  ⟨56, { up with clock := 1000000, power := { up.power with resets := [(56, 1)] } }, by decide +kernel⟩,
  ⟨0x114, up, by decide +kernel⟩,
  ⟨0x104, up, by decide +kernel⟩,
  ⟨3, { up with power := { up.power with reqTarget := some 3 } }, by decide +kernel⟩,
  ⟨up, by decide +kernel⟩,
  ⟨{ eng (prog1 (.at 0)) quietS with power := { up.power with waiting := true }, clock := 10000000 }, by decide +kernel⟩,
  ⟨((up.wf IZP_BYP IZP_BYP_CLOSED 0).wb PWR_STATUS PWR_STATUS_TRANS true).wf PWR_STATUS PWR_STATUS_TARGET 4, by decide +kernel⟩,
  ⟨(((up.wf IZP_BYP IZP_BYP_CLOSED 0xFF).wf IZP_BYP IZP_BYP_MOVING 0xFF).wb PWR_STATUS PWR_STATUS_TRANS true).wf PWR_STATUS PWR_STATUS_TARGET 4,
    by decide +kernel⟩,
  ⟨(up.wb PWR_STATUS PWR_STATUS_TRANS true).wf PWR_STATUS PWR_STATUS_TARGET 2, by decide +kernel⟩,
  ⟨host.wf PWR_STATUS PWR_STATUS_STATE 3, canon_of (by decide +kernel), by decide +kernel⟩⟩

/-- `ClocksAndResets`: each clause's hypotheses are met. -/
theorem witness_ClocksAndResets :
    (∃ (k : Fin 37) (s : State), s.flag (CLK_DOM k) CLK_DOM_LOCKED = true ∧ 24 ≤ k.val ∧ k.val < 32 ∧ s.flag CLK_CTRL CLK_CTRL_UNLOCK_EVT_EN = false ∧
      let u := ((s.bump CLK_STAT_UNLOCK 1).wb (CLK_DOM k) CLK_DOM_LOCKED false).incF (CLK_DOM k) CLK_DOM_UNLOCKS 1;
      u.flag CLK_CTRL CLK_CTRL_UNLOCK_EVT_EN = false) ∧
    (∃ (s : State), s.power.refLost = true ∧
      let u := (({ s with power := { s.power with refLost := false } } : State).wb CLK_REF CLK_REF_REF_OK true).wb CLK_REF CLK_REF_FALLBACK false;
      u.power.resetHeld = true) ∧
    (∃ (s : State), s.power.refLost = true ∧
      let u := (({ s with power := { s.power with refLost := false } } : State).wb CLK_REF CLK_REF_REF_OK true).wb CLK_REF CLK_REF_FALLBACK false;
      u.power.resetHeld = false ∧ (u.vent.booting = true → u.vent.bootCause ≠ 0)) ∧
    (∃ (s : State), s.power.resetHeld = true ∧ s.power.resetAt + 10 * ms ≤ s.clock ∧ s.power.refLost = false ∧
      let u : State := { s with perst := false, power := { s.power with resetHeld := false }, recovery := s.recPin, recReply := none };
      s.recPin = true) ∧
    (∃ (s : State), s.power.resetHeld = true ∧ s.power.resetAt + 10 * ms ≤ s.clock ∧ s.power.refLost = false ∧
      let u : State := { s with perst := false, power := { s.power with resetHeld := false }, recovery := s.recPin, recReply := none };
      s.recPin = false) ∧
    (∃ (s : State), s.vent.booting = true ∧ s.recovery = false ∧ s.bootStopped = false ∧ s.dom 63 = 1 ∧
      let u : State := { s with vent := { s.vent with booting := false, abandoned := 0 } };
      s.vent.bootCause = 0 ∧ s.power.refLost = false) ∧
    (∃ (s : State), s.vent.booting = true ∧ s.recovery = false ∧ s.bootStopped = false ∧ s.dom 63 = 1 ∧
      let u : State := { s with vent := { s.vent with booting := false, abandoned := 0 } };
      s.vent.bootCause ≠ 0) ∧
    (∃ (k : Fin 6) (ok : Bool) (s : State), (k.val ≠ 0 ∨ s.sec.st ≠ .selftest)) ∧
    (∃ (s : State), s.power.starting = true ∧ s.power.startedAt + (4000 - s.power.startMs) * ms ≤ s.clock) ∧
    (∃ (fail : BitVec 4) (s : State), s.sec.st = .selftest ∧ s.dom 62 = 1 ∧ fail ≠ 0) ∧
    (∃ (s : State), s.sec.st = .selftest ∧ s.dom 62 = 1 ∧ bit (s.rf PWR_START PWR_START_PEND) 0 = false) :=
  ⟨⟨31, (up.wb (CLK_DOM 31) CLK_DOM_LOCKED true).wb CLK_CTRL CLK_CTRL_UNLOCK_EVT_EN false, by decide +kernel⟩,
  ⟨{ up with power := { up.power with refLost := true, resetHeld := true } }, by decide +kernel⟩,
  ⟨{ up with power := { up.power with refLost := true } }, by decide +kernel⟩,
  ⟨{ up with clock := 10000000, recPin := true, power := { up.power with resetHeld := true } }, by decide +kernel⟩,
  ⟨{ up with clock := 10000000, power := { up.power with resetHeld := true } }, by decide +kernel⟩,
  ⟨{ up with vent := { booting := true } }, by decide +kernel⟩,
  ⟨{ up with vent := { booting := true, bootCause := 1 } }, by decide +kernel⟩,
  ⟨5, true, up, by decide +kernel⟩,
  ⟨{ up with clock := 4000000000, power := { up.power with starting := true } }, by decide +kernel⟩,
  ⟨15, { up with sec := { st := .selftest } }, by decide +kernel⟩,
  ⟨{ up with sec := { st := .selftest } }, by decide +kernel⟩⟩

/-- `SecurityServices`: each clause's hypotheses are met. -/
theorem witness_SecurityServices :
    (∃ (i : SecIface) (s : State), s.dom 62 = 1) ∧
    (∃ (i : SecIface) (s : State), s.dom 62 = 1 ∧ s.sec.st = .operational) ∧
    (∃ (i : SecIface) (nonce : List Byte) (mask : BitVec 16) (s : State), s.dom 62 = 1 ∧ s.sec.st = .operational ∧ 1 ≤ nonce.length ∧ nonce.length ≤
      64) ∧
    (∃ (i : SecIface) (r : Fin 16) (v : List Byte) (s : State), s.dom 62 = 1 ∧ s.sec.st = .operational ∧ (s.touchSession i).hasUsage i uUSER = true ∧
      9 ≤ r.val ∧ v.length = 64) ∧
    (∃ (i : SecIface) (s : State), s.dom 62 = 1 ∧ s.sec.st = .operational) ∧
    (∃ (i : SecIface) (s : State), s.dom 62 = 1 ∧ s.sec.st = .operational ∧ (s.touchSession i).hasUsage i uUSER = true) ∧
    (∃ (i : SecIface) (slot : Fin 8) (s : State), s.dom 62 = 1 ∧ s.sec.st = .operational ∧ (s.owner slot).valid = true ∧
      let u := s.touchSession i;
      let x := u.sess (ifaceNo i);
      x.lockedUntil = none ∧ x.fails < 3 ∧ x.slot = none ∧ x.challenge.isSome = true) ∧
    (∃ (i : SecIface) (s : State), 3 ≤ (s.sess (ifaceNo i)).fails ∧ (s.sess (ifaceNo i)).lockedUntil = none) ∧
    (∃ (i : SecIface) (t : Nat) (s : State), (s.sess (ifaceNo i)).lockedUntil = some t ∧ t ≤ s.clock) ∧
    (∃ (i : SecIface) (k : Fin 8) (s : State), s.dom 62 = 1 ∧ s.sec.st = .operational ∧
      let u := s.touchSession i;
      (u.sess (ifaceNo i)).slot = some k) ∧
    (∃ (i : SecIface) (k : Fin 8) (s : State), (s.sess (ifaceNo i)).slot = some k ∧ (s.sess (ifaceNo i)).last + 60000 * ms ≤ s.clock) :=
  ⟨⟨.registers, up, by decide +kernel⟩,
  ⟨.registers, up, by decide +kernel⟩,
  ⟨.registers, List.replicate 64 0, 0, up, by decide +kernel⟩,
  ⟨.registers, 15, List.replicate 64 0, user, by decide +kernel⟩,
  ⟨.registers, up, by decide +kernel⟩,
  ⟨.registers, user, by decide +kernel⟩,
  ⟨.registers, 1, { user with sec := { user.sec with sess := [(0, { challenge := some (1, 0) }), (1, { challenge := some (1, 0) })] } },
    by decide +kernel⟩,
  ⟨.registers, { up with sec := { sess := [(0, { fails := 3 }), (1, { fails := 3 })] } }, by decide +kernel⟩,
  ⟨.registers, 0, { up with sec := { sess := [(0, { lockedUntil := some 0 }), (1, { lockedUntil := some 0 })] } }, by decide +kernel⟩,
  ⟨.registers, 0, user, by decide +kernel⟩,
  ⟨.registers, 0, { user with clock := 60000000000 }, by decide +kernel⟩⟩

/-- `Ownership`: each clause's hypotheses are met. -/
theorem witness_Ownership :
    (∃ (i : SecIface) (slot : Fin 8) (digest : BitVec 512) (usage : BitVec 5) (s : State), s.dom 62 = 1 ∧ s.sec.st = .operational ∧ s.owned = false ∧
      bit usage.toNat uENROLL = true) ∧
    (∃ (i : SecIface) (slot j : Fin 8) (s : State), s.dom 62 = 1 ∧ s.sec.st = .operational ∧ (s.touchSession i).hasUsage i uENROLL = true ∧ (s.owner
      slot).valid = true ∧ j ≠ slot ∧ (s.owner j).valid = true ∧ bit (s.owner j).usage.toNat uENROLL = true) ∧
    (∃ (i : SecIface) (s : State), s.dom 62 = 1 ∧ s.sec.st = .operational ∧ (s.touchSession i).hasUsage i uZEROISE = true) ∧
    (∃ (s : State), s.sec.zeroising = true) ∧
    (∃ (i : SecIface) (mask : BitVec 8) (s : State), s.dom 62 = 1 ∧ s.sec.st = .operational ∧ (s.touchSession i).hasUsage i uDEBUG = true) ∧
    (∃ (v : Word) (s : State), Canon s ∧ s.blockOff .dev 0 = false) ∧
    (∃ (v : Word) (s : State), s.blockOff .dev 0 = false ∧ (∀ p, p < 16 → s.wakeLink.link p = lnkDown ∨ s.wakeLink.link p = lnkDisabled ∨
        s.wakeLink.link p = lnkBypassed) ∧
      let u := s.wakeLink.wrSoft DEV_FABRIC_ID v;
      u.dom 62 = 1) ∧
    (∃ (v : Word) (s : State), s.blockOff .dev 0 = false ∧ (∀ p, p < 16 → s.wakeLink.link p = lnkDown ∨ s.wakeLink.link p = lnkDisabled ∨
        s.wakeLink.link p = lnkBypassed) ∧
      let u := s.wakeLink.wrSoft DEV_FABRIC_ID v;
      u.dom 62 ≠ 1) :=
  ⟨⟨.registers, 7, 1, 31, up, by decide +kernel⟩,
  ⟨.registers, 1, 0, user, by decide +kernel⟩,
  ⟨.registers, user, by decide +kernel⟩,
  ⟨{ up with sec := { zeroising := true } }, by decide +kernel⟩,
  ⟨.registers, 0xFF, user, by decide +kernel⟩,
  ⟨0xFF, up, canon_of (by decide +kernel), by decide +kernel⟩,
  ⟨5, up, by decide +kernel⟩,
  ⟨5, up.setDom 62 0, by decide +kernel⟩⟩

/-- `JigSlots`: each clause's hypotheses are met. -/
theorem witness_JigSlots :
    (∃ (keyOk sigOk : Bool) (l : List Byte) (s : State), s.blockOff .jig 0 = false ∧
      let u := s.wakeLink;
      u.jig.st = .idle ∧ u.dom 62 = 1 ∧ u.readImage (u.rd64 JIG_SRC) (u.rd JIG_LEN).toNat = some l ∧ u.imageFault l 0x10 keyOk sigOk ≠ 0) ∧
    (∃ (keyOk sigOk : Bool) (l : List Byte) (s : State), s.blockOff .jig 0 = false ∧
      let u := s.wakeLink;
      u.jig.st = .idle ∧ u.dom 62 = 1 ∧ u.readImage (u.rd64 JIG_SRC) (u.rd JIG_LEN).toNat = some l ∧ u.imageFault l 0x10 keyOk sigOk = 0 ∧ bodyFault
          (imgBody l) ≠ 0) ∧
    (∃ (keyOk sigOk : Bool) (l : List Byte) (s : State), s.blockOff .jig 0 = false ∧
      let u := s.wakeLink;
      u.jig.st = .idle ∧ u.dom 62 = 1 ∧ u.readImage (u.rd64 JIG_SRC) (u.rd JIG_LEN).toNat = some l ∧ u.imageFault l 0x10 keyOk sigOk = 0 ∧ bodyFault
          (imgBody l) = 0) ∧
    (∃ (keyOk sigOk : Bool) (s : State), s.blockOff .jig 0 = false ∧
      let u := s.wakeLink;
      (u.jig.st ≠ .idle ∨ u.dom 62 ≠ 1)) ∧
    (∃ (keyOk sigOk : Bool) (s : State), s.blockOff .jig 0 = false ∧
      let u := s.wakeLink;
      u.jig.st = .idle ∧ u.dom 62 = 1 ∧ u.readImage (u.rd64 JIG_SRC) (u.rd JIG_LEN).toNat = none) ∧
    (∃ (atEn : Bool) (s : State), s.blockOff .jig 0 = false ∧
      let u := s.wakeLink;
      u.jig.st = .idle ∧ u.jig.pend.valid = true) ∧
    (∃ (atEn : Bool) (s : State), s.blockOff .jig 0 = false ∧
      let u := s.wakeLink;
      (u.jig.st ≠ .idle ∨ u.jig.pend.valid = false)) ∧
    (∃ (s : State), s.blockOff .jig 0 = false ∧
      let u := s.wakeLink;
      u.rollbackRefusal = 0) ∧
    (∃ (s : State), s.blockOff .jig 0 = false ∧
      let u := s.wakeLink;
      u.rollbackRefusal ≠ 0) ∧
    (∃ (s : State), s.blockOff .jig 0 = false ∧
      let u := s.wakeLink;
      (u.jig.st = .idle ∨ u.jig.st = .applyWait)) ∧
    (∃ (s : State), s.blockOff .jig 0 = false ∧
      let u := s.wakeLink;
      u.jig.st ≠ .idle ∧ u.jig.st ≠ .applyWait) ∧
    (∃ (s : State), s.jig.st = .applyWait ∧ s.jig.applyAt ≤ s.ft.toNat ∧ s.flag PWR_STATUS PWR_STATUS_TRANS = false ∧ s.runningCals = []) ∧
    (∃ (s : State), s.jig.st = .applying ∧ s.jigQuiet = true) ∧
    (∃ (s : State), s.jig.st = .health ∧ s.jig.healthFrom + 30000 * ms ≤ s.clock ∧
      let good := ((List.range 8).all fun n => !jigDomEn s.jigBody (4 * n + 3) || (s.lathe n).svc == .inService || (s.lathe n).svc == .calibrating ||
          ((s.lathe n).svc == .outOfService && (s.lathe n).oosCause = 1)) && (List.range 8).all fun m => !jigDomEn s.jigBody (48 + m) || s.flag
          (HBM_STATUS m) HBM_STATUS_UP;
      let u := ({ s with jig := { s.jig with st := .idle, uncommitted := false, resetSeen := false } } : State).raiseCtr 7 s.jig.cur.svn;
      good = true) ∧
    (∃ (s : State), s.jig.st = .health ∧ s.jig.healthFrom + 30000 * ms ≤ s.clock ∧
      let good := ((List.range 8).all fun n => !jigDomEn s.jigBody (4 * n + 3) || (s.lathe n).svc == .inService || (s.lathe n).svc == .calibrating ||
          ((s.lathe n).svc == .outOfService && (s.lathe n).oosCause = 1)) && (List.range 8).all fun m => !jigDomEn s.jigBody (48 + m) || s.flag
          (HBM_STATUS m) HBM_STATUS_UP;
      let u := ({ s with jig := { s.jig with st := .idle, uncommitted := false, resetSeen := false } } : State).raiseCtr 7 s.jig.cur.svn;
      good = false) ∧
    (∃ (s : State), s.jig.st = .rollingBack ∧
      let u := if s.jig.quiescing then s else s.quiesceJig;
      u.jigQuiet = true) ∧
    (∃ (s : State), s.jig.st = .rollingBack ∧
      let u := if s.jig.quiescing then s else s.quiesceJig;
      u.jigQuiet = false) ∧
    (∃ (s : State), s.jig.quiescing = true ∧
      let set := s.rf PWR_QUIESCE_TMO PWR_QUIESCE_TMO_MS;
      let tmo := if set = 0 ∧ s.jig.st = .rollingBack then 10 else set;
      tmo ≠ 0 ∧ s.jig.quiesceFrom + tmo * ms ≤ s.clock) :=
  ⟨⟨true, true, [0], imgLenS, by decide +kernel⟩,
  ⟨true, true, (imgS 0x10 (1 :: defaultJig)).wakeLink.bytes 0 (7475 + 161), imgS 0x10 (1 :: defaultJig), by decide +kernel, by decide +kernel,
    by decide +kernel, readImage_ok (by decide +kernel) (by decide +kernel) (by decide +kernel), (image_ok (kind := 0x10) (b := 161)
    (by decide +kernel) (by decide) (by decide) (by decide +kernel) (by decide +kernel)).1, fun e => absurd ((congrArg bodyFault (image_ok (kind :=
    0x10) (b := 161) (by decide +kernel) (by decide) (by decide) (by decide +kernel) (by decide +kernel)).2).symm.trans e) (by decide +kernel)⟩,
  ⟨true, true, (imgS 0x10 defaultJig).wakeLink.bytes 0 (7475 + 160), imgS 0x10 defaultJig, by decide +kernel, by decide +kernel, by decide +kernel,
    readImage_ok (by decide +kernel) (by decide +kernel) (by decide +kernel), (image_ok (kind := 0x10) (b := 160) (by decide +kernel) (by decide) (by
    decide) (by decide +kernel) (by decide +kernel)).1, (congrArg bodyFault (image_ok (kind := 0x10) (b := 160) (by decide +kernel) (by decide) (by
    decide) (by decide +kernel) (by decide +kernel)).2).trans (by decide +kernel)⟩,
  ⟨true, true, jigS { st := .health }, by decide +kernel⟩,
  ⟨true, true, up, by decide +kernel⟩,
  ⟨false, jigS { pend := { valid := true } }, by decide +kernel⟩,
  ⟨false, up, by decide +kernel⟩,
  ⟨jigS { prev := { valid := true } }, by decide +kernel⟩,
  ⟨up, by decide +kernel⟩,
  ⟨up, by decide +kernel⟩,
  ⟨jigS { st := .health }, by decide +kernel⟩,
  ⟨jigS { st := .applyWait }, by decide +kernel⟩,
  ⟨jigS { st := .applying, quiescing := true }, by decide +kernel⟩,
  ⟨{ healthS with clock := 30000000000, jig := { st := .health } }, by decide +kernel⟩,
  ⟨{ up with clock := 30000000000, jig := { st := .health } }, by decide +kernel⟩,
  ⟨jigS { st := .rollingBack, quiescing := true }, by decide +kernel⟩,
  ⟨{ inS with jig := { st := .rollingBack, cur := { valid := true, body := [1] }, quiescing := true } }, by decide +kernel⟩,
  ⟨{ jigS { quiescing := true } with clock := 10000000 }, by decide +kernel⟩⟩

/-- `Firmware`: each clause's hypotheses are met. -/
theorem witness_Firmware :
    (∃ (kind : BitVec 3) (keyOk sigOk : Bool) (l : List Byte) (s : State), s.blockOff .jig 0 = false ∧
      let u := s.wakeLink;
      kind ≠ 0 ∧ u.fwActive kind.toNat = false ∧ u.dom 62 = 1 ∧ u.readImage (u.rd64 JIG_FW_SRC) (u.rd JIG_FW_LEN).toNat = some l ∧ u.imageFault l
          kind.toNat keyOk sigOk ≠ 0) ∧
    (∃ (kind : BitVec 3) (keyOk sigOk : Bool) (l : List Byte) (s : State), s.blockOff .jig 0 = false ∧
      let u := s.wakeLink;
      kind ≠ 0 ∧ u.fwActive kind.toNat = false ∧ u.dom 62 = 1 ∧ u.readImage (u.rd64 JIG_FW_SRC) (u.rd JIG_FW_LEN).toNat = some l ∧ u.imageFault l
          kind.toNat keyOk sigOk = 0) ∧
    (∃ (kind : BitVec 3) (keyOk sigOk : Bool) (s : State), s.blockOff .jig 0 = false ∧
      let u := s.wakeLink;
      kind = 0) ∧
    (∃ (kind : BitVec 3) (keyOk sigOk : Bool) (s : State), s.blockOff .jig 0 = false ∧
      let u := s.wakeLink;
      kind ≠ 0 ∧ (u.fwActive kind.toNat = true ∨ u.dom 62 ≠ 1)) ∧
    (∃ (kind : BitVec 3) (keyOk sigOk : Bool) (s : State), s.blockOff .jig 0 = false ∧
      let u := s.wakeLink;
      kind ≠ 0 ∧ u.fwActive kind.toNat = false ∧ u.dom 62 = 1 ∧ u.readImage (u.rd64 JIG_FW_SRC) (u.rd JIG_FW_LEN).toNat = none) ∧
    (∃ (kind : BitVec 3) (inst : BitVec 8) (bypass : Bool) (s : State), s.blockOff .jig 0 = false ∧
      let u := s.wakeLink;
      kind ≠ 0 ∧ u.fwActive kind.toNat = false ∧ ((u.fw kind.toNat).loaded = true ∨ (u.fw kind.toNat).committed = false)) ∧
    (∃ (kind : BitVec 3) (inst : BitVec 8) (bypass : Bool) (s : State), s.blockOff .jig 0 = false ∧
      let u := s.wakeLink;
      kind ≠ 0 ∧ u.fwActive kind.toNat = false ∧ (u.fw kind.toNat).loaded = false ∧ (u.fw kind.toNat).committed = true) ∧
    (∃ (kind : BitVec 3) (inst : BitVec 8) (bypass : Bool) (s : State), s.blockOff .jig 0 = false ∧
      let u := s.wakeLink;
      kind ≠ 0 ∧ u.fwActive kind.toNat = false ∧ (u.fw kind.toNat).committed = false) ∧
    (∃ (kind : BitVec 3) (inst : BitVec 8) (bypass : Bool) (s : State), s.blockOff .jig 0 = false ∧
      let u := s.wakeLink;
      kind ≠ 0 ∧ u.fwActive kind.toNat = false ∧ (u.fw kind.toNat).committed = true) ∧
    (∃ (a : FwAct) (s : State), s.fwBusy.find? s.fwReady = some a ∧
      let u := ({ s with fwBusy := s.fwBusy.erase a } : State).fwDone a;
      a.kind ≠ 4 ∧ a.kind ≠ 7) ∧
    (∃ (a : FwAct) (s : State), s.fwBusy.find? s.fwReady = some a ∧
      let u := ({ s with fwBusy := s.fwBusy.erase a } : State).fwDone a;
      a.kind = 4) ∧
    (∃ (a : FwAct) (s : State), s.fwBusy.find? s.fwReady = some a ∧
      let u := ({ s with fwBusy := s.fwBusy.erase a } : State).fwDone a;
      a.kind = 7) ∧
    (∃ (kind : BitVec 3) (s : State), s.blockOff .jig 0 = false ∧
      let u := s.wakeLink;
      let f := u.fw kind.toNat;
      4 ≤ kind.toNat ∧ u.dom 62 = 1 ∧ u.fwActive kind.toNat = false ∧ f.committed = false ∧ f.ran &&& fwAll kind.toNat = fwAll kind.toNat) ∧
    (∃ (kind : BitVec 3) (s : State), s.blockOff .jig 0 = false ∧
      let u := s.wakeLink;
      let f := u.fw kind.toNat;
      (kind.toNat < 4 ∨ u.dom 62 ≠ 1 ∨ u.fwActive kind.toNat = true ∨ f.committed = true)) ∧
    (∃ (image : List Byte) (keyOk sigOk : Bool) (s : State), s.recovery = true ∧
      let why := if 2 ^ 20 < image.length then 3 else s.imageFault image 1 keyOk sigOk;
      let u : State := { s with recReply := some (BitVec.ofNat 8 why) };
      let w := if why ≠ 0 then u else u.setFw 1 { u.fw 1 with verA := imgVersion image, svnA := imgSvn image, digA := Sha3.sha3 image, okA := true };
      s.recPin = true) ∧
    (∃ (image : List Byte) (keyOk sigOk : Bool) (s : State), s.recovery = true ∧
      let why := if 2 ^ 20 < image.length then 3 else s.imageFault image 1 keyOk sigOk;
      let u : State := { s with recReply := some (BitVec.ofNat 8 why) };
      let w := if why ≠ 0 then u else u.setFw 1 { u.fw 1 with verA := imgVersion image, svnA := imgSvn image, digA := Sha3.sha3 image, okA := true };
      s.recPin = false) ∧
    (∃ (s : State), s.recovery = true ∧ s.recReply ≠ none ∧
      let u : State := { s with recPin := false, recovery := false };
      s.vent.booting = true) ∧
    (∃ (s : State), s.recovery = true ∧ s.recReply ≠ none ∧
      let u : State := { s with recPin := false, recovery := false };
      s.vent.booting = false) :=
  ⟨⟨1, true, true, [0], imgLenS, by decide +kernel⟩,
  ⟨1, true, true, (imgS 1 [1]).wakeLink.bytes 0 (7475 + 1), imgS 1 [1], by decide +kernel, by decide +kernel, by decide +kernel, by decide +kernel,
    readImage_ok (by decide +kernel) (by decide +kernel) (by decide +kernel), (image_ok (b := 1) (by decide +kernel) (by decide) (by decide)
    (by decide +kernel) (by decide +kernel)).1⟩,
  ⟨0, true, true, up, by decide +kernel⟩,
  ⟨7, true, true, { up with fwBusy := [{ kind := 7, inst := 0 }] }, by decide +kernel⟩,
  ⟨7, true, true, up, by decide +kernel⟩,
  ⟨7, 0, false, { up with fws := [(7, { loaded := true })] }, by decide +kernel⟩,
  ⟨7, 0, false, up, by decide +kernel⟩,
  ⟨7, 0, false, { up with fws := [(7, { committed := false })] }, by decide +kernel⟩,
  ⟨7, 0, false, up, by decide +kernel⟩,
  ⟨{ kind := 1, inst := 1 }, { up with fwBusy := [{ kind := 1, inst := 1 }] }, by decide +kernel⟩,
  ⟨{ kind := 4, inst := 1 }, { up with fwBusy := [{ kind := 4, inst := 1 }] }, by decide +kernel⟩,
  ⟨{ kind := 7, inst := 1 }, { up with fwBusy := [{ kind := 7, inst := 1 }] }, by decide +kernel⟩,
  ⟨7, { up with fws := [(7, { committed := false, ran := 15 })] }, by decide +kernel⟩,
  ⟨7, up, by decide +kernel⟩,
  ⟨[0], true, true, { up with recovery := true, recPin := true }, by decide +kernel⟩,
  ⟨img 1 [1], true, true, { up with recovery := true }, by decide +kernel⟩,
  ⟨{ up with recovery := true, recReply := some 0, vent := { booting := true } }, by decide +kernel⟩,
  ⟨{ up with recovery := true, recReply := some 0 }, by decide +kernel⟩⟩

/-- `HostPort`: each clause's hypotheses are met. -/
theorem witness_HostPort :
    (∃ (off : BitVec 36) (len : Nat) (data : List Byte) (poison : Bool) (errs : List (Addr × LineErr × LineErr)) (parity : Bool) (s : State), s.hostUp
        = true ∧
      let u := s.wakeLink;
      let a := 2 ^ 30 * u.rf64 PCI_WIN_BASE PCI_WIN_BASE_BASE + off.toNat;
      let hit := parity && inWindow a && u.mapped a;
      let v := if hit then u.wayParity (unitOf 0xE 0) 0xFF 0xFFFF (u.glob (a / 64 * 64)) else u;
      u.flag PCI_WIN_CFG PCI_WIN_CFG_REMOTE = false ∧ v.flag PCI_WIN_CFG PCI_WIN_CFG_REMOTE = false ∧ data ≠ []) ∧
    (∃ (off : BitVec 36) (len : Nat) (data : List Byte) (poison : Bool) (errs : List (Addr × LineErr × LineErr)) (parity : Bool) (s : State), s.hostUp
        = true ∧
      let u := s.wakeLink;
      let a := 2 ^ 30 * u.rf64 PCI_WIN_BASE PCI_WIN_BASE_BASE + off.toNat;
      let hit := parity && inWindow a && u.mapped a;
      let v := if hit then u.wayParity (unitOf 0xE 0) 0xFF 0xFFFF (u.glob (a / 64 * 64)) else u;
      u.flag PCI_WIN_CFG PCI_WIN_CFG_REMOTE = false ∧ v.flag PCI_WIN_CFG PCI_WIN_CFG_REMOTE = false ∧ len ≠ 0) ∧
    (∃ (off : BitVec 36) (len : Nat) (data : List Byte) (poison : Bool) (errs : List (Addr × LineErr × LineErr)) (parity : Bool) (s : State), s.hostUp
        = true ∧
      let u := s.wakeLink;
      let a := 2 ^ 30 * u.rf64 PCI_WIN_BASE PCI_WIN_BASE_BASE + off.toNat;
      let dev := u.rf PCI_WIN_CFG PCI_WIN_CFG_DEV;
      u.flag PCI_WIN_CFG PCI_WIN_CFG_REMOTE = true ∧ dev ≠ u.devId ∧ inWindow a = true ∧ data ≠ []) ∧
    (∃ (off : BitVec 36) (len : Nat) (data : List Byte) (poison : Bool) (errs : List (Addr × LineErr × LineErr)) (parity : Bool) (s : State), s.hostUp
        = true ∧
      let u := s.wakeLink;
      let a := 2 ^ 30 * u.rf64 PCI_WIN_BASE PCI_WIN_BASE_BASE + off.toNat;
      let dev := u.rf PCI_WIN_CFG PCI_WIN_CFG_DEV;
      u.flag PCI_WIN_CFG PCI_WIN_CFG_REMOTE = true ∧ dev ≠ u.devId ∧ inWindow a = true ∧ len ≠ 0) ∧
    (∃ (data : List Byte) (f : HostFail) (r : HostReq) (rest : List HostReq) (s : State), s.hostReqs = r :: rest) ∧
    (∃ (r : HostReq) (s : State), s.ctoOff = false ∧ (s.hostReqs.find? fun r => decide (r.since + s.ctoNs ≤ s.clock)) = some r) ∧
    (∃ (e : Fin 16) (v : Word) (s : State), s.blockOff .evt 0 = false ∧
      let u := s.wakeLink.wrSoft (EVT_Q_CFG e) v;
      let log := u.rf (EVT_Q_CFG e) EVT_Q_CFG_LOG2_SIZE;
      u.flag (EVT_Q_CFG e) EVT_Q_CFG_EN = true ∧ 6 ≤ log ∧ log ≤ 20 ∧ u.rf64 (EVT_Q_BASE e) EVT_Q_BASE_ADDR % (64 * 2 ^ log) = 0) ∧
    (∃ (e : Fin 16) (v : Word) (s : State), s.blockOff .evt 0 = false ∧
      let u := s.wakeLink.wrSoft (EVT_Q_CFG e) v;
      let log := u.rf (EVT_Q_CFG e) EVT_Q_CFG_LOG2_SIZE;
      u.flag (EVT_Q_CFG e) EVT_Q_CFG_EN = true ∧ (log < 6 ∨ 20 < log ∨ u.rf64 (EVT_Q_BASE e) EVT_Q_BASE_ADDR % (64 * 2 ^ log) ≠ 0)) ∧
    (∃ (e : Fin 16) (fail : Bool) (x : Nat × Event) (s : State), (s.evtFly.find? fun x => x.1 == e.val) = some x) ∧
    (∃ (e : Fin 16) (s : State), let q : EvtQ := sget {} s.evtQs e;
      let us := s.rf (EVT_Q_CFG e) EVT_Q_CFG_COAL_US;
      0 < q.unsig ∧ 0 < us ∧ q.oldest + 1000 * us ≤ s.clock) ∧
    (∃ (e : Fin 16) (v : Word) (s : State), s.blockOff .evt 0 = false ∧
      let u := s.wakeLink;
      let i := bits v.toNat 0 20;
      let size := u.evtSize e;
      let head := u.rf (EVT_Q_HEAD e) EVT_Q_HEAD_INDEX;
      let tail := u.rf (EVT_Q_TAIL e) EVT_Q_TAIL_INDEX;
      let fits := i < size ∧ (i + size - head % size) % size ≤ (tail + size - head % size) % size;
      fits) ∧
    (∃ (e : Fin 16) (v : Word) (s : State), s.blockOff .evt 0 = false ∧
      let u := s.wakeLink;
      let i := bits v.toNat 0 20;
      let size := u.evtSize e;
      let head := u.rf (EVT_Q_HEAD e) EVT_Q_HEAD_INDEX;
      let tail := u.rf (EVT_Q_TAIL e) EVT_Q_TAIL_INDEX;
      let fits := i < size ∧ (i + size - head % size) % size ≤ (tail + size - head % size) % size;
      (¬ fits)) :=
  ⟨⟨0, 0, [1], false, [], true, host, by decide +kernel⟩,
  ⟨0, 64, [], false, [], false, host, by decide +kernel⟩,
  ⟨0, 0, [1], false, [], true, hostR, by decide +kernel⟩,
  ⟨0, 64, [], false, [], false, hostR, by decide +kernel⟩,
  ⟨[], .poisoned, { addr := 0, len := 64 }, [], { up with hostReqs := [{ addr := 0, len := 64 }] }, by decide +kernel⟩,
  ⟨{ addr := 0, len := 64 }, { up with hostReqs := [{ addr := 0, len := 64 }], clock := 50000000 }, by decide +kernel⟩,
  ⟨15, 0x29, up, by decide +kernel⟩,
  ⟨15, 0x2B, up, by decide +kernel⟩,
  ⟨15, false, (15, {}), { up with evtFly := [(15, {})] }, by decide +kernel⟩,
  ⟨15, { up.wf (EVT_Q_CFG 15) EVT_Q_CFG_COAL_US 1 with clock := 1000, evtQs := [(15, { unsig := 1 })] }, by decide +kernel⟩,
  ⟨15, 0, up, by decide +kernel⟩,
  ⟨15, 1, up, by decide +kernel⟩⟩

/-- `VentOperations`: each clause's hypotheses are met. -/
theorem witness_VentOperations :
    (∃ (i : VentIface) (seq : BitVec 16) (s : State), s.ventUp = true ∧ (s.power.cold = true → onMgmt i = true) ∧ s.vent.run = none) ∧
    (∃ (i : VentIface) (seq : BitVec 16) (sel : Word) (s : State), s.ventUp = true ∧ (s.power.cold = true → onMgmt i = true) ∧ s.vent.run = none ∧
      let r : VentReq := { mgmt := onMgmt i, op := 0x02, seq := seq, arg0 := sel.toNat };
      ∃ k, histSel sel.toNat = some k) ∧
    (∃ (i : VentIface) (seq : BitVec 16) (sel : Word) (s : State), s.ventUp = true ∧ (s.power.cold = true → onMgmt i = true) ∧ s.vent.run = none ∧
      let r : VentReq := { mgmt := onMgmt i, op := 0x02, seq := seq, arg0 := sel.toNat };
      histSel sel.toNat = none) ∧
    (∃ (i : VentIface) (seq : BitVec 16) (d : Word) (s : State), s.ventUp = true ∧ (s.power.cold = true → onMgmt i = true) ∧ s.vent.run = none ∧
        (onMgmt i = true → s.hasUsage .management uUSER = true) ∧
      let r : VentReq := { mgmt := onMgmt i, op := 0x03, seq := seq, arg0 := d.toNat };
      let n := bits d.toNat 0 6;
      let busy := s.jigDom n = false ∨ s.flag PWR_STATUS PWR_STATUS_TRANS = true ∨ s.power.resetHeld = true ∨ s.power.refLost = true;
      n = 63) ∧
    (∃ (i : VentIface) (seq : BitVec 16) (d : Word) (s : State), s.ventUp = true ∧ (s.power.cold = true → onMgmt i = true) ∧ s.vent.run = none ∧
        (onMgmt i = true → s.hasUsage .management uUSER = true) ∧
      let r : VentReq := { mgmt := onMgmt i, op := 0x03, seq := seq, arg0 := d.toNat };
      let n := bits d.toNat 0 6;
      let busy := s.jigDom n = false ∨ s.flag PWR_STATUS PWR_STATUS_TRANS = true ∨ s.power.resetHeld = true ∨ s.power.refLost = true;
      n ≠ 63 ∧ busy) ∧
    (∃ (i : VentIface) (seq : BitVec 16) (d : Word) (s : State), s.ventUp = true ∧ (s.power.cold = true → onMgmt i = true) ∧ s.vent.run = none ∧
        (onMgmt i = true → s.hasUsage .management uUSER = true) ∧
      let r : VentReq := { mgmt := onMgmt i, op := 0x03, seq := seq, arg0 := d.toNat };
      let n := bits d.toNat 0 6;
      let busy := s.jigDom n = false ∨ s.flag PWR_STATUS PWR_STATUS_TRANS = true ∨ s.power.resetHeld = true ∨ s.power.refLost = true;
      n ≠ 63 ∧ (¬ busy)) ∧
    (∃ (i : VentIface) (seq : BitVec 16) (s : State), s.ventUp = true ∧ (s.power.cold = true → onMgmt i = true) ∧ s.vent.run = none ∧ (onMgmt i = true
      → s.hasUsage .management uUSER = true)) ∧
    (∃ (i : VentIface) (seq : BitVec 16) (s : State), s.ventUp = true ∧ (s.power.cold = true → onMgmt i = true) ∧ s.vent.run = none ∧ (onMgmt i = true
      → s.hasUsage .management uUSER = true)) ∧
    (∃ (i : VentIface) (seq : BitVec 16) (target : Word) (s : State), s.ventUp = true ∧ (s.power.cold = true → onMgmt i = true) ∧ s.vent.run = none ∧
        (onMgmt i = true → s.hasUsage .management uUSER = true) ∧
      let r : VentReq := { mgmt := onMgmt i, op := 0x06, seq := seq, arg0 := target.toNat };
      let t := target.toNat;
      t ≠ 3 ∧ t ≠ 4) ∧
    (∃ (i : VentIface) (seq : BitVec 16) (target : Word) (s : State), s.ventUp = true ∧ (s.power.cold = true → onMgmt i = true) ∧ s.vent.run = none ∧
        (onMgmt i = true → s.hasUsage .management uUSER = true) ∧
      let r : VentReq := { mgmt := onMgmt i, op := 0x06, seq := seq, arg0 := target.toNat };
      let t := target.toNat;
      (t = 3 ∨ t = 4) ∧ (s.power.resetHeld = true ∨ s.power.refLost = true)) ∧
    (∃ (i : VentIface) (seq : BitVec 16) (target : Word) (s : State), s.ventUp = true ∧ (s.power.cold = true → onMgmt i = true) ∧ s.vent.run = none ∧
        (onMgmt i = true → s.hasUsage .management uUSER = true) ∧
      let r : VentReq := { mgmt := onMgmt i, op := 0x06, seq := seq, arg0 := target.toNat };
      let t := target.toNat;
      (t = 3 ∨ t = 4) ∧ s.power.resetHeld = false ∧ s.power.refLost = false ∧ (s.power.cold = true ∨ (t ≤ s.pwr ∧ s.flag PWR_STATUS PWR_STATUS_TRANS =
          false))) ∧
    (∃ (i : VentIface) (seq : BitVec 16) (target : Word) (s : State), s.ventUp = true ∧ (s.power.cold = true → onMgmt i = true) ∧ s.vent.run = none ∧
        (onMgmt i = true → s.hasUsage .management uUSER = true) ∧
      let r : VentReq := { mgmt := onMgmt i, op := 0x06, seq := seq, arg0 := target.toNat };
      let t := target.toNat;
      (t = 3 ∨ t = 4) ∧ s.power.resetHeld = false ∧ s.power.refLost = false ∧ s.power.cold = false ∧ (s.pwr < t ∨ s.flag PWR_STATUS PWR_STATUS_TRANS =
          true)) ∧
    (∃ (i : VentIface) (seq : BitVec 16) (mask : Word) (s : State), s.ventUp = true ∧ (s.power.cold = true → onMgmt i = true) ∧ s.vent.run = none ∧
      (onMgmt i = true → s.hasUsage .management uUSER = true)) ∧
    (∃ (i : VentIface) (seq : BitVec 16) (s : State), s.ventUp = true ∧ (s.power.cold = true → onMgmt i = true) ∧ s.vent.run = none ∧ (onMgmt i = true
      → s.hasUsage .management uUSER = true)) ∧
    (∃ (i : VentIface) (seq : BitVec 16) (s : State), s.ventUp = true ∧ (s.power.cold = true → onMgmt i = true) ∧ s.vent.run = none ∧ (onMgmt i = true
        → s.hasUsage .management uUSER = true) ∧
      let r : VentReq := { mgmt := onMgmt i, op := 0x09, seq := seq };
      s.rollbackRefusal ≠ 0) ∧
    (∃ (i : VentIface) (seq : BitVec 16) (s : State), s.ventUp = true ∧ (s.power.cold = true → onMgmt i = true) ∧ s.vent.run = none ∧ (onMgmt i = true
        → s.hasUsage .management uUSER = true) ∧
      let r : VentReq := { mgmt := onMgmt i, op := 0x09, seq := seq };
      s.rollbackRefusal = 0) ∧
    (∃ (i : VentIface) (seq : BitVec 16) (arg : Word) (nonce : List Byte) (s : State), s.ventUp = true ∧ (s.power.cold = true → onMgmt i = true) ∧
        s.vent.run = none ∧
      let r : VentReq := { mgmt := onMgmt i, op := 0x0A, seq := seq, arg0 := arg.toNat, data := nonce };
      let len := bits arg.toNat 0 8;
      s.secAnswers 3 = false) ∧
    (∃ (i : VentIface) (seq : BitVec 16) (arg : Word) (nonce : List Byte) (s : State), s.ventUp = true ∧ (s.power.cold = true → onMgmt i = true) ∧
        s.vent.run = none ∧
      let r : VentReq := { mgmt := onMgmt i, op := 0x0A, seq := seq, arg0 := arg.toNat, data := nonce };
      let len := bits arg.toNat 0 8;
      s.secAnswers 3 = true ∧ (len = 0 ∨ 48 < len)) ∧
    (∃ (i : VentIface) (seq : BitVec 16) (arg : Word) (nonce : List Byte) (s : State), s.ventUp = true ∧ (s.power.cold = true → onMgmt i = true) ∧
        s.vent.run = none ∧
      let r : VentReq := { mgmt := onMgmt i, op := 0x0A, seq := seq, arg0 := arg.toNat, data := nonce };
      let len := bits arg.toNat 0 8;
      s.secAnswers 3 = true ∧ len ≠ 0 ∧ len ≤ 48) ∧
    (∃ (i : VentIface) (seq : BitVec 16) (arg : Word) (s : State), s.ventUp = true ∧ (s.power.cold = true → onMgmt i = true) ∧ s.vent.run = none ∧
        (onMgmt i = true → s.hasUsage .management uUSER = true) ∧
      let r : VentReq := { mgmt := onMgmt i, op := 0x0B, seq := seq, arg0 := arg.toNat };
      bit arg.toNat 0 = true ∧ s.trimForced = false) ∧
    (∃ (i : VentIface) (seq : BitVec 16) (arg : Word) (s : State), s.ventUp = true ∧ (s.power.cold = true → onMgmt i = true) ∧ s.vent.run = none ∧
        (onMgmt i = true → s.hasUsage .management uUSER = true) ∧
      let r : VentReq := { mgmt := onMgmt i, op := 0x0B, seq := seq, arg0 := arg.toNat };
      bit arg.toNat 0 = true ∧ s.trimForced = true) ∧
    (∃ (i : VentIface) (seq : BitVec 16) (arg : Word) (s : State), s.ventUp = true ∧ (s.power.cold = true → onMgmt i = true) ∧ s.vent.run = none ∧
        (onMgmt i = true → s.hasUsage .management uUSER = true) ∧
      let r : VentReq := { mgmt := onMgmt i, op := 0x0B, seq := seq, arg0 := arg.toNat };
      bit arg.toNat 0 = false ∧ s.trimForced = true ∧ s.trimPin = false) ∧
    (∃ (i : VentIface) (seq : BitVec 16) (arg : Word) (s : State), s.ventUp = true ∧ (s.power.cold = true → onMgmt i = true) ∧ s.vent.run = none ∧
        (onMgmt i = true → s.hasUsage .management uUSER = true) ∧
      let r : VentReq := { mgmt := onMgmt i, op := 0x0B, seq := seq, arg0 := arg.toNat };
      bit arg.toNat 0 = false ∧ (s.trimForced = false ∨ s.trimPin = true)) ∧
    (∃ (i : VentIface) (seq : BitVec 16) (s : State), s.ventUp = true ∧ (s.power.cold = true → onMgmt i = true) ∧ s.vent.run = none ∧ (onMgmt i = true
        → s.hasUsage .management uUSER = true) ∧
      let r : VentReq := { mgmt := onMgmt i, op := 0x10, seq := seq };
      s.pwr < 3) ∧
    (∃ (i : VentIface) (seq : BitVec 16) (s : State), s.ventUp = true ∧ (s.power.cold = true → onMgmt i = true) ∧ s.vent.run = none ∧ (onMgmt i = true
        → s.hasUsage .management uUSER = true) ∧
      let r : VentReq := { mgmt := onMgmt i, op := 0x10, seq := seq };
      3 ≤ s.pwr) ∧
    (∃ (i : VentIface) (seq : BitVec 16) (lines : Word) (a : GAddr) (s : State), s.ventUp = true ∧ (s.power.cold = true → onMgmt i = true) ∧
        s.vent.run = none ∧ (onMgmt i = true → s.hasUsage .management uUSER = true) ∧
      let r : VentReq := { mgmt := onMgmt i, op := 0x11, seq := seq, arg0 := lines.toNat, arg1 := a.toNat };
      let x := a.toNat % 2 ^ 56 / 64 * 64;
      let ok := lines.toNat = 0 ∨ (s.mapped (x % 2 ^ 40) = true ∧ s.mapped (x % 2 ^ 40 + 64 * (lines.toNat - 1)) = true);
      s.isLocal x = true ∧ (¬ ok)) ∧
    (∃ (i : VentIface) (seq : BitVec 16) (lines : Word) (a : GAddr) (s : State), s.ventUp = true ∧ (s.power.cold = true → onMgmt i = true) ∧
        s.vent.run = none ∧ (onMgmt i = true → s.hasUsage .management uUSER = true) ∧
      let r : VentReq := { mgmt := onMgmt i, op := 0x11, seq := seq, arg0 := lines.toNat, arg1 := a.toNat };
      let x := a.toNat % 2 ^ 56 / 64 * 64;
      let ok := lines.toNat = 0 ∨ (s.mapped (x % 2 ^ 40) = true ∧ s.mapped (x % 2 ^ 40 + 64 * (lines.toNat - 1)) = true);
      (s.isLocal x = false ∨ ok)) ∧
    (∃ (r : VentReq) (s : State), r.mgmt = true ∧ r.op ≠ 1 ∧ r.op ≠ 2 ∧ r.op ≠ 0xA ∧ s.hasUsage .management uUSER = false) ∧
    (∃ (i : VentIface) (seq : BitVec 16) (x : VentReq) (s : State), s.ventUp = true ∧ (s.power.cold = true → onMgmt i = true) ∧ s.vent.run = some x ∧
        s.ventOver x = false ∧
      let r : VentReq := { mgmt := onMgmt i, op := 0x01, seq := seq };
      4 ≤ countOf s.vent.queue (fun q => q.mgmt == onMgmt i)) ∧
    (∃ (i : VentIface) (seq : BitVec 16) (x : VentReq) (s : State), s.ventUp = true ∧ (s.power.cold = true → onMgmt i = true) ∧ s.vent.run = some x ∧
        s.ventOver x = false ∧
      let r : VentReq := { mgmt := onMgmt i, op := 0x01, seq := seq };
      countOf s.vent.queue (fun q => q.mgmt == onMgmt i) < 4) ∧
    (∃ (r : VentReq) (s : State), s.vent.run = some r ∧ r.op = 5 ∧ s.vent.abortAt + 10 * ms ≤ s.clock) :=
  ⟨⟨.management, 0, up, by decide +kernel⟩,
  ⟨.management, 0, 0x2000, up, by decide +kernel, by decide +kernel, by decide +kernel, histKey 2 0 0, by decide +kernel⟩,
  ⟨.management, 0, 0, up, by decide +kernel⟩,
  ⟨.registers, 0, 63, up, by decide +kernel⟩,
  ⟨.registers, 0, 5, up.wb PWR_STATUS PWR_STATUS_TRANS true, by decide +kernel⟩,
  ⟨.registers, 0, 56, up, by decide +kernel⟩,
  ⟨.registers, 0, up, by decide +kernel⟩,
  ⟨.registers, 0, up, by decide +kernel⟩,
  ⟨.registers, 0, 2, up, by decide +kernel⟩,
  ⟨.registers, 0, 4, { up with power := { up.power with refLost := true } }, by decide +kernel⟩,
  ⟨.registers, 0, 3, up.wf PWR_STATUS PWR_STATUS_STATE 3, by decide +kernel⟩,
  ⟨.registers, 0, 4, up, by decide +kernel⟩,
  ⟨.registers, 0, 0xFF, up, by decide +kernel⟩,
  ⟨.registers, 0, up, by decide +kernel⟩,
  ⟨.registers, 0, up, by decide +kernel⟩,
  ⟨.registers, 0, jigS { prev := { valid := true } }, by decide +kernel⟩,
  ⟨.registers, 0, 1, [], { up with sec := {} }, by decide +kernel⟩,
  ⟨.registers, 0, 49, [], up, by decide +kernel⟩,
  ⟨.registers, 0, 48, [], up, by decide +kernel⟩,
  ⟨.registers, 0, 1, up, by decide +kernel⟩,
  ⟨.registers, 0, 1, { up with trimVent := true }, by decide +kernel⟩,
  ⟨.registers, 0, 0, { up with trimVent := true }, by decide +kernel⟩,
  ⟨.registers, 0, 0, up, by decide +kernel⟩,
  ⟨.registers, 0, up, by decide +kernel⟩,
  ⟨.registers, 0, up.wf PWR_STATUS PWR_STATUS_STATE 3, by decide +kernel⟩,
  ⟨.registers, 0, 1, 0x7000000000, up, by decide +kernel⟩,
  ⟨.registers, 0, 1, 64, hbm, by decide +kernel⟩,
  ⟨{ mgmt := true, op := 3 }, up, by decide +kernel⟩,
  ⟨.registers, 0, { op := 5 }, { eng { no := 0, st := .aborting } with vent := { run := some { op := 5 }, queue := List.replicate 4 { op := 1 } } },
    by decide +kernel⟩,
  ⟨.registers, 0, { op := 5 }, { eng { no := 0, st := .aborting } with vent := { run := some { op := 5 }, queue := List.replicate 3 { op := 1 } } },
    by decide +kernel⟩,
  ⟨{ op := 5 }, { up with clock := 10000000, vent := { run := some { op := 5 } } }, by decide +kernel⟩⟩

end Sys2Proof.Tests
end

section
/-! ## Which registers an operation writes

`WritesOnly l s t` is the relation every frame of O11 is put together from: it holds of the writes of one register, it holds of whatever keeps
the register file, and it goes on along sequences, choices and folds. -/
namespace Sys2Proof.Machine

/-- From a canonical state: `t` is canonical, and every register but those of `l` reads in it as in `s`. -/
def WritesOnly (l : List Nat) (s t : State) : Prop := Canon s → Canon t ∧ registersKeptBut l s t

variable {l : List Nat} {s t u : State}

theorem WritesOnly.refl (l : List Nat) (s : State) : WritesOnly l s s := fun hs => ⟨hs, fun _ _ => rfl⟩

theorem WritesOnly.trans (h : WritesOnly l s t) (h' : WritesOnly l t u) : WritesOnly l s u := fun hs =>
  have ⟨ht, st⟩ := h hs
  have ⟨hu, tu⟩ := h' ht
  ⟨hu, fun o ho => (tu o ho).trans (st o ho)⟩

theorem WritesOnly.mono {l' : List Nat} (h : WritesOnly l s t) (hl : l ⊆ l') : WritesOnly l' s t := fun hs =>
  have ⟨ht, st⟩ := h hs
  ⟨ht, fun o ho => st o fun hm => ho (hl hm)⟩

theorem WritesOnly.ite {c : Prop} [Decidable c] (ht : WritesOnly l s t) (hu : WritesOnly l s u) : WritesOnly l s (if c then t else u) := by
  split <;> assumption

theorem WritesOnly.foldl {α : Type} {f : State → α → State} {as : List α} (hf : ∀ a ∈ as, ∀ y, WritesOnly l y (f y a)) (s : State) :
    WritesOnly l s (as.foldl f s) := by
  induction as generalizing s with
  | nil => exact .refl l s
  | cons a as ih => exact (hf a List.mem_cons_self s).trans (ih (fun b hb => hf b (List.mem_cons_of_mem _ hb)) _)

/-- An operation whose frame does not name the register file writes no register. -/
theorem Kept.writesOnly {m : Nat} (h : Kept m s t) (hm : m.testBit Part.registers.no = false := by decide) : WritesOnly l s t := fun hs =>
  have regs : t.regs = s.regs := (Prod.mk.inj (h.1 .registers hm)).1
  ⟨hs.of_kept h, fun o _ => congrArg (sget (resetWord o) · o) regs⟩

theorem writesOnly_wr {o : Nat} (v : Word) (ho : o ∈ l) : WritesOnly l s (s.wr o v) := fun hs =>
  ⟨hs.of_kept (State.wr_kept s o v), fun _ ha => rd_wr_ne hs v fun e => ha (e ▸ ho)⟩

theorem writesOnly_wf {o : Nat} (f : Fld) (v : Nat) (ho : o ∈ l) : WritesOnly l s (s.wf o f v) := writesOnly_wr _ ho

theorem writesOnly_wb {o : Nat} (f : Fld) (v : Bool) (ho : o ∈ l) : WritesOnly l s (s.wb o f v) := writesOnly_wr _ ho

theorem writesOnly_wrSoft {o : Nat} (v : Word) (ho : o ∈ l) : WritesOnly l s (s.wrSoft o v) := by
  unfold State.wrSoft
  split
  · exact .refl l s
  · exact writesOnly_wr _ ho

theorem writesOnly_wr64 {o : Nat} (v : Nat) (ho : both o ⊆ l) : WritesOnly l s (s.wr64 o v) :=
  (writesOnly_wr _ (ho (by simp [both]))).trans (writesOnly_wr _ (ho (by simp [both])))

theorem writesOnly_bump {o : Nat} (k : Nat) (ho : both o ⊆ l) : WritesOnly l s (s.bump o k) :=
  .ite (.refl l s) (writesOnly_wr64 _ ho)

theorem writesOnly_wakeLink (s : State) : WritesOnly accessRegs s s.wakeLink :=
  .ite (writesOnly_wf _ _ (by simp [accessRegs])) (.refl _ s)

theorem writesOnly_offAccess (s : State) : WritesOnly accessRegs s s.offAccess :=
  .ite (writesOnly_bump _ (List.subset_cons_self _ _)) (.refl _ s)

/-- An access to a block's register writes what its own meaning writes, and what any access may write. -/
theorem atBlock_writesOnly {b : Block} {i : Nat} {g : State → State} (hg : ∀ y, WritesOnly l y (g y))
    (h : s.atBlock b i (fun y => .next (g y)) = .next t) : WritesOnly (l ++ accessRegs) s t := by
  have hw := (writesOnly_wakeLink s).mono (List.subset_append_right l accessRegs)
  unfold State.atBlock at h
  split at h
  · cases h
    exact hw.trans ((writesOnly_offAccess _).mono (List.subset_append_right _ _))
  · cases h
    exact hw.trans ((hg _).mono (List.subset_append_left _ _))

end Sys2Proof.Machine
end

section
/-! ## The registers that each command of `registersOf` writes -/
namespace Sys2Proof.Machine

variable {s t : State}

/-! ### Monitors, power and clocks -/

theorem execRoundCfgWrite_writesOnly {v : Word} (h : execRoundCfgWrite v s = .next t) : WritesOnly (MON_ROUND_CFG :: accessRegs) s t :=
  atBlock_writesOnly (l := [MON_ROUND_CFG]) (fun _ => writesOnly_wf _ _ (by simp)) h

theorem execTrippedClear_writesOnly (h : execTrippedClear s = .next t) : WritesOnly (MON_TEMP :: accessRegs) s t :=
  atBlock_writesOnly (l := [MON_TEMP]) (fun y => .ite (writesOnly_wb _ _ (by simp)) (.refl _ y)) h

theorem execMonCfgWrite_writesOnly {c : Fin 16} {scan : Bool} {v : Word} (h : execMonCfgWrite c scan v s = .next t) :
    WritesOnly (MON_CFG c :: MON_SCAN c :: accessRegs) s t := by
  refine atBlock_writesOnly (l := [MON_CFG c, MON_SCAN c]) (fun y => .ite (writesOnly_wr _ (by simp)) ?_) h
  have field {z : State} (f : Fld) (x : Nat) : WritesOnly [MON_CFG c, MON_SCAN c] z (z.wf (MON_CFG c) f x) := writesOnly_wf f x (by simp)
  exact (((field MON_CFG_RUN _).trans (field MON_CFG_OSR _)).trans (.ite (.refl _ _) (field MON_CFG_ORDER _))).trans
    (.ite (State.convResume_kept _ _).writesOnly (.refl _ _))

theorem execMonCalGo_writesOnly {c : Fin 16} (h : execMonCalGo c s = .next t) : WritesOnly accessRegs s t :=
  atBlock_writesOnly (l := []) (fun y => (State.convCal_kept y c).writesOnly) h

theorem execPwrLimitWrite_writesOnly {v : Word} (h : execPwrLimitWrite v s = .next t) : WritesOnly (PWR_LIMIT :: accessRegs) s t :=
  atBlock_writesOnly (l := [PWR_LIMIT]) (fun _ => writesOnly_wf _ _ (by simp)) h

/-! ### Lathes: accumulator, finisher, banks, calibration, streams -/

theorem execAccModeWrite_writesOnly {n : Fin 8} {v : Bool} (h : execAccModeWrite n v s = .next t) : WritesOnly (ACC_CTRL n :: accessRegs) s t :=
  atBlock_writesOnly (l := [ACC_CTRL n]) (fun y => .ite (writesOnly_wb _ _ (by simp)) (.refl _ y)) h

theorem execSeedWrite_writesOnly {n : Fin 8} {v : Word} (h : execSeedWrite n v s = .next t) : WritesOnly (FIN_SR_SEED n :: accessRegs) s t :=
  atBlock_writesOnly (l := [FIN_SR_SEED n]) (fun _ => (writesOnly_wr v (by simp)).trans (State.modLathe_kept _ _ _).writesOnly) h

theorem execBankAgeMaxWrite_writesOnly {n : Fin 8} {v : Word} (h : execBankAgeMaxWrite n v s = .next t) :
    WritesOnly (LTH_BANK_AGE_MAX n :: accessRegs) s t :=
  atBlock_writesOnly (l := [LTH_BANK_AGE_MAX n]) (fun _ => writesOnly_wr _ (by simp)) h

theorem execCalCancel_writesOnly {n : Fin 8} (h : execCalCancel n s = .next t) : WritesOnly accessRegs s t :=
  atBlock_writesOnly (l := []) (fun y => .ite (.refl _ y) (.ite (State.setCal_kept _ _ _).writesOnly (State.setCal_kept _ _ _).writesOnly)) h

theorem execDescCancel_writesOnly {n : Fin 8} {d : Fin 256} (h : execDescCancel n d s = .next t) : WritesOnly accessRegs s t := by
  refine atBlock_writesOnly (l := []) (fun y => ?_) h
  split
  · exact (State.setDesc_kept _ _ _ _).writesOnly
  · exact (State.setDesc_kept _ _ _ _).writesOnly
  · exact (State.setDesc_kept _ _ _ _).writesOnly
  · exact .refl _ y

/-! ### Steady rest and trim outputs -/

theorem execCoreCfgWrite_writesOnly {c : Fin 9} {v : Word} (h : execCoreCfgWrite c v s = .next t) : WritesOnly (STD_CORE_CFG c :: accessRegs) s t :=
  atBlock_writesOnly (l := [STD_CORE_CFG c]) (fun _ => (writesOnly_wf _ _ (by simp)).trans (writesOnly_wf _ _ (by simp))) h

theorem execCoeffBankSwap_writesOnly {c : Fin 9} {init : Bool} (h : execCoeffBankSwap c init s = .next t) :
    WritesOnly (STD_CORE_BANK c :: accessRegs) s t :=
  atBlock_writesOnly (l := [STD_CORE_BANK c]) (fun _ => (State.setCore_kept _ _ _).writesOnly.trans (writesOnly_wb _ _ (by simp))) h

theorem execSetWrite_writesOnly {c : Fin 9} {b : Bool} {k : Fin 64} {w : Fin 20} {v : Word} (h : execSetWrite c b k w v s = .next t) :
    WritesOnly ((STD_SET_CFG ((c.val * 2 + b2n b) * 64 + k) + 4 * w.val) :: accessRegs) s t :=
  atBlock_writesOnly (l := [STD_SET_CFG ((c.val * 2 + b2n b) * 64 + k) + 4 * w.val]) (fun y => .ite (.refl _ y) (writesOnly_wrSoft v (by simp))) h

/-- A trim channel that takes a code may count a hold. -/
theorem present_writesOnly (s : State) (i code : Nat) : WritesOnly (both TRM_STAT_HOLDS) s (s.present i code) :=
  have set {y : State} (x : Trim) : WritesOnly (both TRM_STAT_HOLDS) y (y.setTrim i x) := (State.setTrim_kept y i x).writesOnly
  .ite (set _) (.ite (set _) (.ite ((set _).trans (writesOnly_bump 1 (List.Subset.refl _))) (set _)))

theorem execScClear_writesOnly {i : Fin 9216} (h : execScClear i s = .next t) : WritesOnly (both TRM_STAT_HOLDS ++ accessRegs) s t :=
  atBlock_writesOnly (fun y => .ite ((State.setTrim_kept _ _ _).writesOnly.trans (present_writesOnly _ _ _)) (.refl _ y)) h

/-! ### Pass slots, layer table, device -/

theorem execPassOpen_writesOnly {p : Fin 16} {ctx : BitVec 8} (h : execPassOpen p ctx s = .next t) :
    WritesOnly (DEV_LT_PASS p :: DEV_LT_LATCH p :: accessRegs) s t :=
  atBlock_writesOnly (l := [DEV_LT_PASS p, DEV_LT_LATCH p])
    (fun y => .ite (.refl _ y) (((writesOnly_wf _ _ (by simp)).trans (writesOnly_wb _ _ (by simp))).trans (writesOnly_wr _ (by simp)))) h

theorem execPassClose_writesOnly {p : Fin 16} {ctx : BitVec 8} (h : execPassClose p ctx s = .next t) : WritesOnly (DEV_LT_PASS p :: accessRegs) s t :=
  atBlock_writesOnly (l := [DEV_LT_PASS p]) (fun _ => (writesOnly_wf _ _ (by simp)).trans (writesOnly_wb _ _ (by simp))) h

theorem clearEntry_writesOnly (s : State) (i : Nat) : WritesOnly [WTB_CTL i] s (s.clearEntry i) :=
  .ite ((writesOnly_wf WTB_CTL_STATE stVERIFYING (by simp)).trans (Kept.upd (M := 2 ^ Part.verifying.no) (Kept.refl _ _)).kept.writesOnly) (.refl _ s)

theorem execWtbClear_writesOnly {i : Fin 4096} (h : execWtbClear i s = .next t) : WritesOnly (WTB_CTL i :: accessRegs) s t :=
  atBlock_writesOnly (l := [WTB_CTL i]) (fun y => clearEntry_writesOnly y i) h

theorem execWtbWrite_writesOnly {i : Fin 4096} {w : Fin 16} {v : Word} (h : execWtbWrite i w v s = .next t) :
    WritesOnly ((WTB_CTL i + 4 * w.val) :: WTB_CTL i :: WTB_GEN i :: accessRegs) s t := by
  refine atBlock_writesOnly (l := [WTB_CTL i + 4 * w.val, WTB_CTL i, WTB_GEN i]) (fun y => ?_) h
  have flag {z : State} (f : Fld) (x : Bool) : WritesOnly [WTB_CTL i + 4 * w.val, WTB_CTL i, WTB_GEN i] z (z.wb (WTB_CTL i + 4 * w.val) f x) :=
    writesOnly_wb f x (by simp)
  refine .ite (.ite ?control (.ite ((clearEntry_writesOnly y i).mono (by simp)) (.refl _ y)))
    (.ite (.ite (.refl _ y) ?record) (.ite (.ite (writesOnly_wr _ (by simp)) (.refl _ y)) (.refl _ y)))
  case control => exact ((flag _ _).trans (flag _ _)).trans (.ite (writesOnly_wr _ (by simp)) (.refl _ _))
  case record => exact (writesOnly_wr _ (by simp)).trans (writesOnly_wb _ _ (by simp))

theorem execBuildGo_writesOnly {gain : BitVec 4} (h : execBuildGo gain s = .next t) : WritesOnly (DEV_LT_BUILD_CMD :: accessRegs) s t := by
  refine atBlock_writesOnly (l := [DEV_LT_BUILD_CMD]) (fun y => .ite (writesOnly_wf _ _ (by simp)) ?_) h
  exact (((writesOnly_wf _ _ (by simp)).trans (writesOnly_wb _ _ (by simp))).trans (writesOnly_wf _ _ (by simp))).trans
    (Kept.upd (M := 2 ^ Part.building.no) (Kept.refl _ _)).kept.writesOnly

theorem execDebugWrite_writesOnly {v : Word} (h : execDebugWrite v s = .next t) : WritesOnly (DEV_DEBUG :: accessRegs) s t :=
  atBlock_writesOnly (l := [DEV_DEBUG]) (fun _ => writesOnly_wf _ _ (by simp)) h

theorem execFabricIdWrite_writesOnly {v : Word} (h : execFabricIdWrite v s = .next t) : WritesOnly (DEV_FABRIC_ID :: accessRegs) s t := by
  refine atBlock_writesOnly (l := [DEV_FABRIC_ID]) (fun y => .ite ?_ (.refl _ y)) h
  exact (writesOnly_wrSoft v (by simp)).trans (.ite (Kept.upd (M := 2 ^ Part.fabricIdFlash.no) (Kept.refl _ _)).kept.writesOnly (.refl _ _))

/-! ### Fault history -/

theorem histWords_length (s : State) (k : Nat) : (s.histWords k).length = 8 := rfl

theorem execHistRead_writesOnly (h : execHistRead s = .next t) :
    WritesOnly (FLT_HIST_STATUS :: (List.range 8).map FLT_HIST_DATA ++ accessRegs) s t := by
  refine atBlock_writesOnly (l := FLT_HIST_STATUS :: (List.range 8).map FLT_HIST_DATA) (fun y => ?_) h
  have status {z : State} (a b : Bool) : WritesOnly (FLT_HIST_STATUS :: (List.range 8).map FLT_HIST_DATA) z
      ((z.wb FLT_HIST_STATUS FLT_HIST_STATUS_VALID a).wb FLT_HIST_STATUS FLT_HIST_STATUS_NO_UNIT b) :=
    (writesOnly_wb _ _ List.mem_cons_self).trans (writesOnly_wb _ _ List.mem_cons_self)
  split
  · exact status false true
  next k _ =>
    refine (WritesOnly.foldl (fun e he z => writesOnly_wr _ ?_) y).trans (status true false)
    have : e.2 < 8 := by
      have := List.snd_lt_of_mem_zipIdx he
      simpa [histWords_length] using this
    exact List.mem_cons_of_mem _ (List.mem_map_of_mem (List.mem_range.mpr this))

/-! ### Fabric time -/

theorem execFtmSet_writesOnly {v : DWord} (h : execFtmSet v s = .next t) : WritesOnly accessRegs s t :=
  atBlock_writesOnly (l := []) (fun y => .ite (Kept.upd (M := 2 ^ Part.fabricTime.no) (Kept.refl _ _)).kept.writesOnly (.refl _ y)) h

theorem refBack_writesOnly (s : State) : WritesOnly [FTM_UNCERT] s s.refBack :=
  .ite ((Kept.upd (M := 2 ^ Part.timeUnit.no) (Kept.refl _ _)).kept.writesOnly.trans (writesOnly_wr 0 (by simp))) (.refl _ s)

theorem newFreq_writesOnly (s : State) : WritesOnly [FTM_FREQ, CLK_REF] s s.newFreq :=
  (State.takeFree_kept s).writesOnly.trans <| (writesOnly_wr _ (by simp)).trans <|
    (State.takeFree_kept _).writesOnly.trans (writesOnly_wf _ _ (by simp))

theorem moveFt_writesOnly (s : State) (x : Nat) : WritesOnly [FTM_STATUS] s (s.moveFt x) :=
  .ite (Kept.upd (M := 2 ^ Part.fabricTime.no) (Kept.refl _ _)).kept.writesOnly
    ((writesOnly_wb FTM_STATUS_HELD true (by simp)).trans (Kept.upd (M := 2 ^ Part.timeUnit.no) (Kept.refl _ _)).kept.writesOnly)

theorem execPpsEdge_writesOnly (h : execPpsEdge s = .next t) : WritesOnly [CLK_REF, FTM_FREQ, FTM_UNCERT, FTM_STATUS] s t := by
  cases h
  refine WritesOnly.trans (Kept.upd (M := 2 ^ Part.timeUnit.no) (Kept.refl _ _)).kept.writesOnly (.ite ?_ (.refl _ _))
  exact ((refBack_writesOnly _).mono (by simp)).trans (((newFreq_writesOnly _).mono (by simp)).trans ((moveFt_writesOnly _ _).mono (by simp)))

/-! ### Links -/

theorem execMcastUnprune_writesOnly {g : Fin 4096} {mask : DWord} (h : execMcastUnprune g mask s = .next t) :
    WritesOnly (both (IZP_MG_PRUNE g) ++ accessRegs) s t :=
  atBlock_writesOnly (fun _ => writesOnly_wr64 _ (List.Subset.refl _)) h

theorem execLightReceived_writesOnly {p : Fin 16} (h : execLightReceived p s = .next t) : WritesOnly [IZP_STATUS p] s t := by
  cases h
  exact (State.setPort_kept _ _ _).writesOnly.trans (.ite (writesOnly_wf _ _ (by simp)) (.refl _ _))

theorem badPacket_writesOnly (s : State) (p : Nat) (fec : Bool) :
    WritesOnly (both (IZP_STAT_FEC_UNCORR p) ++ both (IZP_STAT_CRC_FAIL p)) s (s.badPacket p fec) := by
  have counted : WritesOnly (both (IZP_STAT_FEC_UNCORR p) ++ both (IZP_STAT_CRC_FAIL p)) s
      (if fec then s.bump (IZP_STAT_FEC_UNCORR p) 1 else s.bump (IZP_STAT_CRC_FAIL p) 1) :=
    .ite (writesOnly_bump 1 (List.subset_append_left _ _)) (writesOnly_bump 1 (List.subset_append_right _ _))
  exact .ite (.refl _ s) (counted.trans (.ite (.refl _ _) ((State.setPort_kept _ _ _).writesOnly.trans (State.sendLink_kept _ _ _).writesOnly)))

theorem execCorruptPacket_writesOnly {p : Fin 16} {fec : Bool} (h : execCorruptPacket p fec s = .next t) :
    WritesOnly (both (IZP_STAT_FEC_UNCORR p) ++ both (IZP_STAT_CRC_FAIL p)) s t := by
  cases h
  exact badPacket_writesOnly s p fec

theorem retransmit_writesOnly (s : State) (p : Nat) : WritesOnly (both (IZP_STAT_REPLAY p)) s (s.retransmit p) :=
  ((writesOnly_bump _ (List.Subset.refl _)).trans (State.setPort_kept _ p _).writesOnly).trans
    (Kept.upd (M := 2 ^ Part.links.no) (Kept.refl _ _)).kept.writesOnly

theorem execRetransmitTimeout_writesOnly {p : Fin 16} {nak : Option (BitVec 12)} (h : execRetransmitTimeout p nak s = .next t) :
    WritesOnly (both (IZP_STAT_REPLAY p)) s t := by
  have again {y : State} (x : Port) : WritesOnly (both (IZP_STAT_REPLAY p)) y ((y.setPort p x).retransmit p) :=
    (State.setPort_kept _ _ _).writesOnly.trans (retransmit_writesOnly _ _)
  cases h
  cases nak with
  | none => exact .ite (.refl _ s) (again _)
  | some q => exact (State.acked_kept s p q).writesOnly.trans (.ite (.refl _ _) (again _))

theorem execLinkIdleL1_writesOnly (h : execLinkIdleL1 s = .next t) : WritesOnly [PCI_STATUS] s t := by
  cases h
  exact .ite (writesOnly_wf _ _ (by simp)) (.refl _ s)

/-! ### All of them -/

/-- What `registersOf` lists is what the command writes. -/
theorem registersOf_writesOnly {c : Instr} {l : List Nat} (hl : registersOf c = some l) (h : exec c s = .next t) : WritesOnly l s t := by
  cases c
  case roundCfgWrite => cases hl; exact execRoundCfgWrite_writesOnly h
  case trippedClear => cases hl; exact execTrippedClear_writesOnly h
  case monCfgWrite => cases hl; exact execMonCfgWrite_writesOnly h
  case monCalGo => cases hl; exact execMonCalGo_writesOnly h
  case pwrLimitWrite => cases hl; exact execPwrLimitWrite_writesOnly h
  case accModeWrite => cases hl; exact execAccModeWrite_writesOnly h
  case seedWrite => cases hl; exact execSeedWrite_writesOnly h
  case bankAgeMaxWrite => cases hl; exact execBankAgeMaxWrite_writesOnly h
  case coreCfgWrite => cases hl; exact execCoreCfgWrite_writesOnly h
  case coeffBankSwap => cases hl; exact execCoeffBankSwap_writesOnly h
  case setWrite => cases hl; exact execSetWrite_writesOnly h
  case scClear => cases hl; exact execScClear_writesOnly h
  case passOpen => cases hl; exact execPassOpen_writesOnly h
  case passClose => cases hl; exact execPassClose_writesOnly h
  case wtbWrite => cases hl; exact execWtbWrite_writesOnly h
  case wtbClear => cases hl; exact execWtbClear_writesOnly h
  case buildGo => cases hl; exact execBuildGo_writesOnly h
  case debugWrite => cases hl; exact execDebugWrite_writesOnly h
  case fabricIdWrite => cases hl; exact execFabricIdWrite_writesOnly h
  case calCancel => cases hl; exact execCalCancel_writesOnly h
  case descCancel => cases hl; exact execDescCancel_writesOnly h
  case histRead => cases hl; exact execHistRead_writesOnly h
  case ftmSet => cases hl; exact execFtmSet_writesOnly h
  case ppsEdge => cases hl; exact execPpsEdge_writesOnly h
  case mcastUnprune => cases hl; exact execMcastUnprune_writesOnly h
  case lightReceived => cases hl; exact execLightReceived_writesOnly h
  case corruptPacket => cases hl; exact execCorruptPacket_writesOnly h
  case retransmitTimeout => cases hl; exact execRetransmitTimeout_writesOnly h
  case linkIdleL1 => cases hl; exact execLinkIdleL1_writesOnly h
  all_goals cases hl

/-! ### The start of a refresh -/

/-- Table 0.4. -/
theorem shapeSize_cases (sh : Nat) : shapeSize sh = 1 ∨ shapeSize sh = 2 ∨ shapeSize sh = 4 ∨ shapeSize sh = 8 := by
  unfold shapeSize
  repeat' split
  all_goals decide

/-- A gang of a lathe has no member but the eight lathes (R4). -/
theorem lt_of_mem_members {n m : Nat} (hn : n < 8) (hm : m ∈ s.members n) : m < 8 := by
  simp only [State.members, State.gang, List.mem_map, List.mem_range] at hm
  obtain ⟨i, hi, rfl⟩ := hm
  rcases shapeSize_cases (s.shape n) with size | size | size | size <;> rw [size] at hi ⊢ <;> omega

/-- The registers that the start of a refresh counts in. -/
def refreshRegs : List Nat := (List.range 8).flatMap fun m => both (LTH_STAT_REFRESH m) ++ both (LTH_STAT_BANK_WRITES m)

theorem refreshBank_writesOnly {n : Nat} (hn : n < 8) (s : State) : WritesOnly refreshRegs s (s.refreshBank n) := by
  have listed : both (LTH_STAT_REFRESH n) ++ both (LTH_STAT_BANK_WRITES n) ⊆ refreshRegs := fun o ho =>
    List.mem_flatMap.mpr ⟨n, List.mem_range.mpr hn, ho⟩
  have claim {y : State} (b : Bank) : WritesOnly refreshRegs y (y.claimBank n b) :=
    (writesOnly_bump 1 (List.Subset.trans (List.subset_append_right _ _) listed)).trans (State.modLathe_kept _ _ _).writesOnly
  exact ((State.modLathe_kept _ _ _).writesOnly.trans (State.dropMirror_kept _ _).writesOnly).trans
    ((claim _).trans (writesOnly_bump 1 (List.Subset.trans (List.subset_append_left _ _) listed)))

theorem execRefreshStart_writesOnly {n : Fin 8} (hp : s.pollDisplaced n = s) (h : execRefreshStart n s = .next t) : WritesOnly refreshRegs s t := by
  unfold execRefreshStart at h
  rw [hp] at h
  cases h
  exact .ite (WritesOnly.foldl (fun m hm y => refreshBank_writesOnly (lt_of_mem_members n.isLt hm) y) s) (.refl _ s)

end Sys2Proof.Machine
end

section
/-! ## Register accesses of BAR0: size and alignment, and the write of one plain register -/
namespace Sys2Proof.Machine

variable {s : State} {off size : Nat}

theorem regAccessOk_iff : regAccessOk off size = true ↔ (size = 4 ∨ size = 8) ∧ off % size = 0 := by simp [regAccessOk]

theorem regWrite_of_refused (s : State) (v : DWord) (h : ¬ regAccessOk off size = true) : s.regWrite off size v = s := by
  simp [State.regWrite, h]

theorem regRead_of_refused (s : State) (h : ¬ regAccessOk off size = true) : s.regRead off size = (List.replicate size 0xFF, s) := by
  simp [State.regRead, h]

/-- A register read answers its bytes and leaves what the read clears or latches. -/
theorem execRegisterRead_eq (off : BitVec 24) (size : Nat) (s : State) :
    execRegisterRead off size s =
      .next { (s.wakeLink.regRead off.toNat size).2 with resp := { data := (s.wakeLink.regRead off.toNat size).1 } } := rfl

theorem regWrite_four {v : DWord} (ha : off % 4 = 0) (hon : s.offAt off = false) : s.regWrite off 4 v = s.writeWord off (v.setWidth 32) := by
  simp [State.regWrite, regAccessOk_iff.mpr ⟨Or.inl rfl, ha⟩, hon]

theorem offAt_eq_blockOff {b : Block} {i r : Nat} (h : locate off = some (b, i, r)) : s.offAt off = s.blockOff b i := by
  simp [State.offAt, h]

/-- The blocks none of whose registers has a command of its own. -/
theorem writeIn_eq_wrSoft {b : Block} {i r : Nat} {v : Word} (hb : b ∈ [Block.oll, .inf, .rdc, .clk, .pci]) :
    s.writeIn b i off r v = s.wrSoft off v := by
  simp only [List.mem_cons, List.not_mem_nil, or_false] at hb
  rcases hb with rfl | rfl | rfl | rfl | rfl <;> rfl

theorem statClrBit_lt {b : Block} {r j : Nat} (h : statClrBit b r = some j) : j < 32 := by
  unfold statClrBit at h
  split at h <;> grind

/-- A write that gives no STAT_CLR is the write of its block. -/
theorem writeWord_eq_writeIn {b : Block} {i r : Nat} {v : Word} (hl : locate off = some (b, i, r)) (hr : (findRow off).isSome = true)
    (hc : ∀ j, statClrBit b r = some j → bit v.toNat j = false) : s.writeWord off v = s.writeIn b i off r v := by
  unfold State.writeWord
  rw [hl]
  cases hj : statClrBit b r with
  | none => simp [hj, hr]
  | some j => simp [hj, hr, hc j hj]

theorem wrSoft_of_row {row : RegRow} {k : Nat} (hr : findRow off = some (row, k)) (v : Word) :
    s.wrSoft off v = s.wr off (((s.rd off &&& ~~~BitVec.ofNat 32 (row.rw / 2 ^ (32 * k))) ||| (v &&& BitVec.ofNat 32 (row.rw / 2 ^ (32 * k)))) &&&
      ~~~(v &&& BitVec.ofNat 32 (row.w1c / 2 ^ (32 * k)))) := by
  simp [State.wrSoft, hr]

end Sys2Proof.Machine
end

section
/-! ## Reads of the accumulator window -/
namespace Sys2Proof.Machine

theorem region_accWin (x : Nat) (hx : x < 0x8000000) : region (0xE100000000 + x) = .accWin (x / 0x1000000) (x % 0x1000000) := by
  unfold region
  rw [if_neg (by omega), if_neg (by omega), if_neg (by omega), if_neg (by omega), if_neg (by omega), if_neg (by omega), if_pos (by omega),
    Nat.add_sub_cancel_left, show (0xE100000000 + x) % 0x1000000 = x % 0x1000000 by omega]

/-- An address of the accumulator window is an offset from its base (Table 1.8). -/
theorem exists_of_region_accWin {a n o : Nat} (h : region a = .accWin n o) :
    ∃ x, x < 0x8000000 ∧ a = 0xE100000000 + x ∧ x / 0x1000000 = n ∧ x % 0x1000000 = o := by
  have range : 0xE100000000 ≤ a ∧ a < 0xE108000000 := by
    unfold region at h
    grind
  obtain ⟨x, rfl⟩ := Nat.exists_eq_add_of_le range.1
  have hx : x < 0x8000000 := by omega
  rw [region_accWin x hx] at h
  injection h with hn ho
  exact ⟨x, hx, rfl, hn, ho⟩

/-- The bytes of one aligned word lie in one lathe's window. -/
theorem region_accWin_add {a n o i : Nat} (h : region a = .accWin n o) (ha : a % 4 = 0) (hi : i < 4) :
    region (a + i) = .accWin n (o + i) ∧ o % 4 = 0 := by
  obtain ⟨x, hx, rfl, rfl, rfl⟩ := exists_of_region_accWin h
  have aligned : x % 4 = 0 := by omega
  rw [Nat.add_assoc, region_accWin (x + i) (by omega), show (x + i) / 0x1000000 = x / 0x1000000 by omega,
    show (x + i) % 0x1000000 = x % 0x1000000 + i by omega]
  exact ⟨rfl, by omega⟩

theorem byte_accWin {s : State} {a n o : Nat} (h : region a = .accWin n o) (hr : s.accReadable n = true) :
    s.byte a = BitVec.ofNat 8 ((sget 0 s.accMem (2 ^ 22 * n + o / 4)).toNat / 256 ^ (o % 4)) := by
  simp only [State.byte, h, hr, if_true]

/-- A word of the window reads as the four bytes of the stored word (R31). -/
theorem bytes_accWin_word {s : State} {a n o : Nat} (h : region a = .accWin n o) (hr : s.accReadable n = true) (ha : a % 4 = 0) :
    s.bytes a 4 = leBytes (sget 0 s.accMem (2 ^ 22 * n + o / 4)).toNat 4 := by
  refine List.map_congr_left fun i hi => ?_
  obtain ⟨hreg, ho⟩ := region_accWin_add h ha (List.mem_range.mp hi)
  have hi4 := List.mem_range.mp hi
  rw [byte_accWin hreg hr, show (o + i) / 4 = o / 4 by omega, show (o + i) % 4 = i by omega]

theorem windowRead_accWin_word {s : State} {a n o : Nat} (h : region a = .accWin n o) (hr : s.accReadable n = true) (ha : a % 4 = 0) :
    s.windowRead a 4 = (leBytes (sget 0 s.accMem (2 ^ 22 * n + o / 4)).toNat 4, false, false) := by
  have last : region (a + 4 - 1) = .accWin n ((a + 4 - 1 - 0xE100000000) % 0x1000000) := by
    obtain ⟨x, hx, rfl, rfl, rfl⟩ := exists_of_region_accWin h
    have aligned : x % 4 = 0 := by omega
    rw [show 0xE100000000 + x + 4 - 1 = 0xE100000000 + (x + 3) by omega, region_accWin (x + 3) (by omega), Nat.add_sub_cancel_left,
      show (x + 3) / 0x1000000 = x / 0x1000000 by omega]
  simp only [State.windowRead, h, hr, last, beq_self_eq_true, Bool.and_self, if_true, bytes_accWin_word h hr ha]

end Sys2Proof.Machine
end

section
/-! ## Register reads, writes, counter clears and accesses outside any store -/
namespace Sys2Proof.Machine

/-- A 4-byte write of a plain register: its writable bits take the value, W1C bits written 1 clear, and nothing else moves (R37, R603). -/
theorem registerWrite_plain {off : BitVec 24} {v : DWord} {b : Block} {i r : Nat} {row : RegRow} {k : Nat} {s : State} (ha : off.toNat % 4 = 0)
    (hl : locate off.toNat = some (b, i, r)) (hb : b ∈ [Block.oll, .inf, .rdc, .clk, .pci])
    (hc : ∀ j, j < 32 → statClrBit b r = some j → bit (v.toNat % 2 ^ 32) j = false) (hr : findRow off.toNat = some (row, k))
    (hon : s.wakeLink.blockOff b i = false) : exec (.registerWrite off 4 v) s = .next (s.wakeLink.wrSoft off.toNat (v.setWidth 32)) := by
  have clear : ∀ j, statClrBit b r = some j → bit (v.setWidth 32).toNat j = false := fun j hj => by
    rw [BitVec.toNat_setWidth]
    exact hc j (statClrBit_lt hj) hj
  have word : s.wakeLink.regWrite off.toNat 4 v = s.wakeLink.wrSoft off.toNat (v.setWidth 32) := by
    rw [regWrite_four ha ((offAt_eq_blockOff hl).trans hon), writeWord_eq_writeIn hl (by rw [hr]; rfl) clear, writeIn_eq_wrSoft hb]
  exact congrArg Host.Outcome.next word

/-- An access to a block that is on is its own meaning, behind the wake of the link (R574, R577). -/
theorem atBlock_of_on {b : Block} {i : Nat} {s : State} (f : State → Out) (h : s.blockOff b i = false) : s.atBlock b i f = f s.wakeLink := by
  simp only [State.atBlock, h, Bool.false_eq_true, if_false]

theorem execStatClr_on {b : StatBlock} {s : State} (h : s.blockOff (statBlock b).1 (statBlock b).2 = false) :
    execStatClr b s = .next (s.wakeLink.statClear (statBlock b).1 (statBlock b).2) := by
  unfold execStatClr
  split
  next hb =>
    rw [hb] at h ⊢
    exact atBlock_of_on _ h

theorem execUnmappedAccess_of_unmapped {req : Requester} {ctx : Option (BitVec 8)} {a : GAddr} {wr : Bool} {s : State}
    (hl : s.isLocal a.toNat = true) (hu : s.isUnmapped (a.toNat % 2 ^ 40) wr = true) :
    execUnmappedAccess req ctx a wr s =
      .next (if wr then s.unmappedEvent req ctx a.toNat true else s.unmappedRead req ctx a.toNat 64) := by
  simp only [execUnmappedAccess, hl, hu, Bool.not_true, Bool.or_self, Bool.false_eq_true, if_false]

/-- The marked data of a read are counted for the host alone; the records on their way are those of the event (R33). -/
theorem unmappedRead_evtFly (s : State) (req : Requester) (ctx : Option (BitVec 8)) (ga len : Nat) :
    (s.unmappedRead req ctx ga len).evtFly = (s.unmappedEvent req ctx ga false).evtFly := by
  have counted (u : State) : (u.bump PCI_STAT_POISON_TX 1).evtFly = u.evtFly :=
    (Prod.mk.inj ((State.bump_kept u PCI_STAT_POISON_TX 1).1 .events (by decide))).1
  unfold State.unmappedRead
  split
  · exact counted _
  · rfl

theorem execAccWindowRead_readable {a : Addr} {n o : Nat} {s : State} (h : region (a.toNat / 4 * 4) = .accWin n o)
    (hr : s.accReadable n = true) :
    execAccWindowRead a s = .next { s with resp := { data := leBytes (sget 0 s.accMem (2 ^ 22 * n + o / 4)).toNat 4 } } := by
  simp only [execAccWindowRead, h, hr, if_true, windowRead_accWin_word h hr (Nat.mul_mod_left _ _)]

end Sys2Proof.Machine
end

section
/-! ## The obligations on registers and their accesses -/
namespace Sys2Proof.Machine

/-- Settles O11: each listed command writes its listed registers only, and so does the start of a refresh. -/
theorem registerFrames : Obligations.RegisterFrames :=
  ⟨fun _ _ _ _ hs hl h => (registersOf_writesOnly hl h hs).2, fun _ _ _ hs hp h => (execRefreshStart_writesOnly hp h hs).2⟩

/-- Settles O16: the device takes no access of another size or alignment (R15). -/
theorem unalignedRegisterAccess : Obligations.UnalignedRegisterAccess := by
  intro off size v s h
  have refused : ¬ regAccessOk off.toNat size = true := fun ok => h (regAccessOk_iff.mp ok)
  refine ⟨congrArg Host.Outcome.next (regWrite_of_refused s.wakeLink v refused), _, execRegisterRead_eq off size s, ?_, ?_⟩
  · exact congrArg Prod.fst (regRead_of_refused s.wakeLink refused)
  · exact congrArg (fun r => r.2.regs) (regRead_of_refused s.wakeLink refused)

/-- Settles O26: a plain register's write, a read, STAT_CLR, an unmapped access and a read of the accumulator window. -/
theorem registerCommands : Obligations.RegisterCommands := by
  refine ⟨?write, fun off size s => execRegisterRead_eq off size s, fun b s h => execStatClr_on h, ?unmappedWrite, ?unmappedRead,
    fun a n o s h hr => execAccWindowRead_readable h hr⟩
  case write =>
    intro off v b i r row k s hs ha hl hb hc hr hon
    have hw : Canon s.wakeLink := hs.of_kept (State.wakeLink_kept s)
    refine ⟨_, registerWrite_plain ha hl hb hc hr hon, ?_, fun o ho => ?_⟩
    · rw [wrSoft_of_row hr, rd_wr_self hw]
    · rw [wrSoft_of_row hr, rd_wr_ne hw _ ho]
  case unmappedWrite =>
    intro req ctx a s hl hu
    exact execUnmappedAccess_of_unmapped hl hu
  case unmappedRead =>
    intro req ctx a s hl hu
    exact ⟨_, execUnmappedAccess_of_unmapped hl hu, rfl, (unmappedRead_evtFly s req ctx a.toNat 64).symm⟩

end Sys2Proof.Machine
end

section
/-! ## What an operation that keeps a part leaves readable, and what counting symbols does to a lathe

Elaboration is in order here, as in the model's files: each proof elaborated aside holds a thread, and the text's stacks come near the memory limit. -/
set_option Elab.async false
namespace Sys2Proof.Machine

variable {m : Nat} {s t : State} {n b : Nat}

theorem Kept.lathe_eq (h : Kept m s t) (n : Nat) (hm : m.testBit Part.lathes.no = false := by decide) : t.lathe n = s.lathe n := by
  have lathes : t.lathes = s.lathes := h.1 .lathes hm
  simp only [State.lathe, lathes]

theorem Kept.clock_eq (h : Kept m s t) (hm : m.testBit Part.clock.no = false := by decide) : t.clock = s.clock := h.1 .clock hm

theorem Kept.jigBody_eq (h : Kept m s t) (hm : m.testBit Part.jig.no = false := by decide) : t.jigBody = s.jigBody := by
  have jig : t.jig = s.jig := h.1 .jig hm
  simp only [State.jigBody, jig]

/-- The gangs are the jig's (R4). -/
theorem members_congr (h : t.jigBody = s.jigBody) (b : Nat) : t.members b = s.members b := by
  simp only [State.members, State.gang, State.shape, h]

theorem deep_congr (h : t.jigBody = s.jigBody) (b : Nat) : t.deep b = s.deep b :=
  congrArg (fun body => decide (jigShape body b = 4)) h

theorem Kept.nextRun_eq (h : Kept m s t) (b : Nat) (hm : m.testBit Part.engines.no = false := by decide) : t.nextRun b = s.nextRun b := by
  have engines : t.engines = s.engines := h.1 .engines hm
  simp only [State.nextRun, State.engine, engines]

theorem modLathe_lathe (hs : Canon s) (n : Nat) (f : Lathe → Lathe) : (s.modLathe n f).lathe n = f (s.lathe n) := setLathe_lathe hs n _

theorem bump_lathe (s : State) (o k n : Nat) : (s.bump o k).lathe n = s.lathe n := (State.bump_kept s o k).lathe_eq n

/-- Symbols that a lathe presents move its symbol count and the statistics only (Table 2.4). -/
theorem exists_addSym_lathe (hs : Canon s) (n data guard idle : Nat) :
    ∃ k, (s.addSym n data guard idle).lathe n = { s.lathe n with symAcc := k } := by
  unfold State.addSym
  split
  · exact ⟨(s.lathe n).symAcc, rfl⟩
  · have counted := ((State.bump_kept s (LTH_STAT_DATA_SYM n) data).trans (State.bump_kept _ (LTH_STAT_GUARD_SYM n) guard)).trans
      (State.bump_kept _ (LTH_STAT_IDLE_SYM n) idle)
    exact ⟨_, by rw [modLathe_lathe (hs.of_kept counted), counted.lathe_eq]⟩

theorem exists_countIdle_lathe (hs : Canon s) (n : Nat) : ∃ k, (s.countIdle n).lathe n = { s.lathe n with symAcc := k } := by
  unfold State.countIdle
  dsimp only
  split
  · exact ⟨(s.lathe n).symAcc, rfl⟩
  · have counted := State.bump_kept s (LTH_STAT_IDLE_SYM n) (s.idleDue n)
    exact ⟨_, by rw [modLathe_lathe (hs.of_kept counted), counted.lathe_eq]⟩

/-- A guard that switches no bank leaves of the lathe all but its symbol count and the guard that was due (R58, R61). -/
theorem exists_guardSyms_lathe (hs : Canon s) (n : Nat) :
    ∃ k, (s.guardSyms n).lathe n = { s.lathe n with symAcc := k, guardDue := none } := by
  have idled (u : State) (hu : Canon u) (idle : State → Nat) :
      ∃ k, ((u.countIdle n).addSym n 0 16 (idle (u.countIdle n))).lathe n = { u.lathe n with symAcc := k } := by
    obtain ⟨_, hidle⟩ := exists_countIdle_lathe hu n
    obtain ⟨k, hadd⟩ := exists_addSym_lathe (hu.of_kept (State.countIdle_kept u n)) n 0 16 (idle (u.countIdle n))
    exact ⟨k, by rw [hadd, hidle]⟩
  unfold State.guardSyms
  split
  next sym lvl ended hdue =>
    obtain ⟨k, hk⟩ := idled _ (hs.of_kept (State.modLathe_kept s n fun l => { l with guardDue := none }))
      fun u => throttleIdle (sym + ((u.lathe n).symAcc - ended) + 16) lvl
    exact ⟨k, by rw [hk, modLathe_lathe hs]⟩
  next hdue =>
    obtain ⟨k, hk⟩ := idled s hs fun _ => 0
    exact ⟨k, by rw [hk, ← hdue]⟩

end Sys2Proof.Machine
end

section
/-! ## RUN -/
set_option Elab.async false
namespace Sys2Proof.Machine

/-- The first data symbol lies no earlier than the present (R235). -/
theorem ft_le_runStartsAt (s : State) (b : Nat) (newPlane : Bool) : s.ft.toNat ≤ s.runStartsAt b newPlane := Nat.le_add_right _ _

/-- A RUN that nothing delays, whose group is not held and whose banks are there, begins (R28, R51, R235, R272). -/
theorem execRun_start {b : Fin 8} {p : Nat} {k : Fin 32} {parity : Option (Nat × Nat)} {x : Prog} {r : RunOp} {o s : State}
    (hs : o.pollDisplaced b = s) (hx : o.prog b p = some x) (hr : (o.stage b p k).bind Stage.runOp = some r) (hstart : s.mayStart b p k = true)
    (hidle : ((s.members b).all fun n => ((s.lathe n).svc == .inService || (s.lathe n).svc == .quiescing) && (s.lathe n).cur.isNone &&
      !(s.lathe n).dip && (s.lathe n).arbs.isEmpty) = true)
    (hpace : x.paced = true → x.startFt ≤ s.ft.toNat) (hheld : ((s.accMembers b).all fun n => (s.group n r.group).held.isNone) = true)
    (hgate : r.layer < 4096 → s.gate r.layer x.ctx.toNat = .go)
    (hbanks : ((s.members b).all fun n => (s.lathe n).bankGo r.newPlane == .ready || (s.lathe n).bankGo r.newPlane == .switch) = true) :
    execRun b p k parity o = .next (s.runStart b p k r x parity) := by
  have notEarly : (x.paced && ((x.stages.take k).all fun st => st.runOp.isNone) && decide (s.runStartsAt b r.newPlane < x.startFt)) = false := by
    cases hp : x.paced
    · rfl
    · have now : x.startFt ≤ s.runStartsAt b r.newPlane := Nat.le_trans (hpace hp) (ft_le_runStartsAt s b r.newPlane)
      simp [Nat.not_lt.mpr now]
  have notHeld : ((s.accMembers b).any fun n => (s.group n r.group).held == some (b.val, p, k.val) && (s.group n r.group).st != .open) = false := by
    grind
  have go : (if r.layer < 4096 then s.gate r.layer x.ctx.toNat else .go) = .go := by
    split
    · exact hgate ‹_›
    · rfl
  have standing (y : BankGo) (h1 : y ≠ .ready) (h2 : y ≠ .switch) : ((s.members b).map fun n => (s.lathe n).bankGo r.newPlane).contains y = false := by
    grind
  simp only [execRun, hx, hr, hs, hstart, hidle, notEarly, notHeld, go, standing .noPlane (by decide) (by decide),
    standing .wait (by decide) (by decide), Bool.not_true, Bool.or_false, Bool.false_eq_true, if_false]

end Sys2Proof.Machine
end

section
/-! ## The end of a stroke's data on a gang of one lathe -/
set_option Elab.async false
namespace Sys2Proof.Machine

variable {s : State} {n : Nat} {x : Stroke}

/-- Idle symbol periods by which stroke `x` is stretched (R117). -/
def Stroke.stretch (x : Stroke) : Nat := if x.load > 8 then (x.t * x.load + 7) / 8 - x.t else 0

/-- The data symbols of stroke `x` on lathe `n`, and the stroke, are counted (R82). -/
def State.countStroke (s : State) (n : Nat) (x : Stroke) : State :=
  ((s.countShown n x.lanes x.t).addSym n x.t 0 x.stretch).bump (LTH_STAT_STROKES n) 1

/-- Lathe `n`, the only one of its gang, has presented the last data symbol of stroke `x` (R51, R82): its outputs are awaited, and its guard is due. -/
def State.strokePresented (s : State) (n : Nat) (x : Stroke) : State :=
  let u := s.countStroke n x
  u.modLathe n fun l =>
    let y := { x with endClock := u.clock }
    { l with strokes := l.strokes ++ [y], past := y.brief :: l.past.filter (fun z => decide (u.oldestGood n < z.endClock)), cur := none,
             guardDue := some (x.t + x.stretch, x.lvl, l.symAcc) }

theorem execStrokeDataEnd_of_solo {b : Fin 8} (hm : s.members b = [b.val]) (hd : s.deep b = false) (hx : (s.lathe b).cur = some x) :
    execStrokeDataEnd b s = .next ((s.strokePresented b x).runGuards b) := by
  simp [execStrokeDataEnd, State.strokePresented, State.countStroke, Stroke.stretch, State.accMembers, hm, hd, hx]

theorem countStroke_kept (s : State) (n : Nat) (x : Stroke) : Kept 0x108 s (s.countStroke n x) :=
  (((Kept.refl _ s).step (State.countShown_kept _ _ _ _)).step (State.addSym_kept _ _ _ _ _)).step (State.bump_kept _ _ _)

theorem exists_countStroke_lathe (hs : Canon s) (n : Nat) (x : Stroke) :
    ∃ k, (s.countStroke n x).lathe n = { s.lathe n with symAcc := k } := by
  have shown := State.countShown_kept s n x.lanes x.t
  obtain ⟨k, hk⟩ := exists_addSym_lathe (hs.of_kept shown) n x.t 0 x.stretch
  exact ⟨k, by rw [State.countStroke, bump_lathe, hk, shown.lathe_eq]⟩

theorem strokePresented_kept (s : State) (n : Nat) (x : Stroke) : Kept 0x108 s (s.strokePresented n x) :=
  (countStroke_kept s n x).step (State.modLathe_kept _ _ _)

theorem exists_strokePresented_lathe (hs : Canon s) (n : Nat) (x : Stroke) :
    ∃ k due past, (s.strokePresented n x).lathe n =
      { s.lathe n with symAcc := k, guardDue := some due, past := past, cur := none,
                       strokes := (s.lathe n).strokes ++ [{ x with endClock := s.clock }] } := by
  have counted := countStroke_kept s n x
  obtain ⟨k, hk⟩ := exists_countStroke_lathe hs n x
  exact ⟨k, _, _, by rw [State.strokePresented, modLathe_lathe (hs.of_kept counted), hk, counted.clock_eq]⟩

/-- Nothing switches at the guard of a lathe that arbitrates nothing, has no refreshed bank, and whose next RUN asks for no new plane (R51, R54, R61). -/
theorem guardGo_of_solo (hm : s.members n = [n]) (hd : s.deep n = false) (ha : (s.lathe n).arbs = []) (hrefresh : (s.lathe n).idleBank.refresh = false)
    (hnext : s.nextRun n ≠ some true) : s.guardGo n = .plain := by
  have noReplay : s.replayers n = [] := by simp [State.replayers, State.lead, hm, hd, ha]
  simp [State.guardGo, noReplay, hm, hrefresh, hnext]

theorem runGuards_of_plain (hm : s.members n = [n]) (hgo : s.guardGo n = .plain) (hdue : (s.lathe n).guardDue.isSome = true) :
    s.runGuards n = s.guardSyms n := by
  simp only [State.runGuards, hgo, hm, List.foldl_cons, List.foldl_nil, hdue, if_true]

/-- The end of the data of a lathe that is a gang by itself and switches no bank (R51, R82, R476). -/
theorem strokeDataEnd_of_solo {b : Fin 8} (hs : Canon s) (hm : s.members b = [b.val]) (hd : s.deep b = false) (hx : (s.lathe b).cur = some x)
    (hnext : s.nextRun b ≠ some true) (ha : (s.lathe b).arbs = []) (hrefresh : (s.lathe b).idleBank.refresh = false) :
    Completes (.strokeDataEnd b) s fun t => (t.lathe b).cur = none ∧ (t.lathe b).strokes = (s.lathe b).strokes ++ [{ x with endClock := s.clock }] ∧
      (t.lathe b).guardDue = none ∧ (t.lathe b).liveB = (s.lathe b).liveB := by
  have kept := strokePresented_kept s b x
  obtain ⟨k, due, past, hl⟩ := exists_strokePresented_lathe hs b x
  have hm' : (s.strokePresented b x).members b = [b.val] := (members_congr kept.jigBody_eq b).trans hm
  have plain : (s.strokePresented b x).guardGo b = .plain :=
    guardGo_of_solo hm' ((deep_congr kept.jigBody_eq b).trans hd) (by rw [hl, ha]) (by rw [hl]; exact hrefresh) (by rw [kept.nextRun_eq]; exact hnext)
  have ends : execStrokeDataEnd b s = .next ((s.strokePresented b x).guardSyms b) := by
    rw [execStrokeDataEnd_of_solo hm hd hx, runGuards_of_plain hm' plain (by rw [hl]; rfl)]
  obtain ⟨k', hg⟩ := exists_guardSyms_lathe (hs.of_kept kept) b.val
  refine ⟨_, ends, ?_⟩
  dsimp only
  rw [hg, hl]
  exact ⟨rfl, rfl, rfl, rfl⟩

end Sys2Proof.Machine
end

section
/-! ## Additions and verdicts -/
set_option Elab.async false
namespace Sys2Proof.Machine

variable {s : State} {n : Fin 8} {x : Stroke} {rest : List Stroke}

/-- The next outputs are those of the oldest stroke that still lacks some (R60, R129, R150). -/
theorem execAccumulatorAdd_of_stroke (dev spares : List Int) (hx : (s.lathe n).strokes.find? (fun y => !decide (y.t ≤ y.outs.length)) = some x) :
    execAccumulatorAdd n dev spares s =
      let codes := s.codesOf n x.bank x.lanes x.outs.length dev
      let u := (s.overSymbol n x codes).gather n x x.outs.length codes
      let u := if u.groupLive n x then u.addSymbol n x x.outs.length codes else u
      let u := if x.outs.length + 1 = x.t && (u.group n x.group).gen = x.ggen then u.modGroup n x.group fun g => { g with inflight := g.inflight - 1 } else u
      .next (u.modLathe n fun l => { l with strokes := l.strokes.map fun y => if y = x then { x with outs := codes :: x.outs } else y }) := by
  have same (f : Stroke → List Int) (y : Stroke) :
      (if y = x then { y with outs := f y :: y.outs } else y) = if y = x then { x with outs := f x :: x.outs } else y := by
    split <;> simp [*]
  simp only [execAccumulatorAdd, hx, same fun y => s.codesOf n y.bank y.lanes y.outs.length dev]

/-- The state in which the complete stroke `x` at the head of lathe `n` is judged: its eight tests are counted and the journal has its codes
(R383, R394). -/
def State.judged (s : State) (n : Nat) (x : Stroke) (rest : List Stroke) : State :=
  (s.bump FLT_STAT_TESTS 8).modLathe n fun l => { l with strokes := rest }.journalise x

theorem execStrokeVerdict_pass (hx : (s.lathe n).strokes = x :: rest) (ht : x.t ≤ x.outs.length) (hpass : s.failingGroups n x.bank x.outs = []) :
    execStrokeVerdict n s = .next (((s.judged n x rest).lessVerdict n x).settleRun x.eng x.prog x.stage) := by
  simp only [execStrokeVerdict, hx, Nat.not_lt.mpr ht, hpass, if_false, if_true, State.judged]

/-- The same, the stroke having failed. -/
def State.judgedFailing (s : State) (n : Nat) (x : Stroke) (rest : List Stroke) : State := (s.judged n x rest).bump FLT_STAT_FAILS 1

theorem judgedFailing_kept (s : State) (n : Nat) (x : Stroke) (rest : List Stroke) : Kept 0x108 s (s.judgedFailing n x rest) :=
  (((Kept.refl _ s).step (State.bump_kept _ _ _)).step (State.modLathe_kept _ _ _)).step (State.bump_kept _ _ _)

theorem judgedFailing_lathe (hs : Canon s) (n : Nat) (x : Stroke) (rest : List Stroke) :
    (s.judgedFailing n x rest).lathe n = { s.lathe n with strokes := rest }.journalise x := by
  rw [State.judgedFailing, bump_lathe, State.judged, modLathe_lathe (hs.of_kept (State.bump_kept _ _ _)), bump_lathe]

/-- A stroke may be arbitrated where the jig keeps a journal and the journal still holds its codes (R394, R404). -/
theorem arbBar_eq_zero {u : State} (hj : 0 < u.jrnlMib) : u.arbBar true = 0 := by
  simp [State.arbBar, Nat.pos_iff_ne_zero.mp hj]

/-- The arbitration of failing stroke `x` of lathe `n`, whose codes `u` still tells the residuals of. -/
def failingArb (u : State) (n : Nat) (x : Stroke) (failing : List Nat) : Arb :=
  { stroke := x, failing := failing, marked := x.drained.isSome, peaks := failing.map fun g => (g, peakOf (u.residuals n x.bank x.outs g)) }

/-- A failing stroke that can be arbitrated goes behind the arbitrations that its lathe has (R384, R396). -/
theorem execStrokeVerdict_queue (hs : Canon s) (hx : (s.lathe n).strokes = x :: rest) (ht : x.t ≤ x.outs.length)
    (hfail : s.failingGroups n x.bank x.outs ≠ []) (hdrained : x.drained = none) (hj : 0 < s.jrnlMib) (hin : (s.lathe n).inJournal x = true)
    (harbs : (s.lathe n).arbs ≠ []) :
    execStrokeVerdict n s = .next ((s.judgedFailing n x rest).modLathe n fun l =>
      { l with arbs := l.arbs ++ [failingArb (s.judgedFailing n x rest) n x (s.failingGroups n x.bank x.outs)] }) := by
  have free : (s.judgedFailing n x rest).arbBar true = 0 :=
    arbBar_eq_zero (by rw [State.jrnlMib, (judgedFailing_kept s n x rest).jigBody_eq]; exact hj)
  have behind : ((s.judgedFailing n x rest).lathe n).arbs.isEmpty = false := by
    rw [judgedFailing_lathe hs]
    exact List.isEmpty_eq_false_iff.mpr harbs
  simp only [State.judgedFailing, State.judged] at free behind
  simp [execStrokeVerdict, hx, Nat.not_lt.mpr ht, hfail, hin, hdrained, free, behind, failingArb, State.judgedFailing, State.judged]

end Sys2Proof.Machine
end

section
/-! ## The obligation on strokes -/
set_option Elab.async false
namespace Sys2Proof.Machine

/-- Settles O30: RUN, the end of a stroke's data, an addition, a verdict that passes and one that fails. -/
theorem strokes : Obligations.Strokes := by
  refine ⟨?run, ?dataEnd, ?add, ?pass, ?fail⟩
  case run =>
    intro b p k parity x r o s hx hr hstart hidle hpace hheld hgate hbanks
    exact execRun_start rfl hx hr hstart hidle hpace hheld hgate hbanks
  case dataEnd =>
    intro b x s hs hm hd hx hnext ha hrefresh
    exact strokeDataEnd_of_solo hs hm hd hx hnext ha hrefresh
  case add =>
    intro n dev spares x s _ hx
    exact execAccumulatorAdd_of_stroke dev spares hx
  case pass =>
    intro n x rest s hx ht hpass
    exact execStrokeVerdict_pass hx ht hpass
  case fail =>
    intro n x rest s hs hx ht hfail hdrained hj hin harbs
    let a := failingArb (s.judgedFailing n x rest) n x (s.failingGroups n x.bank x.outs)
    have queued : ((s.judgedFailing n x rest).modLathe n fun l => { l with arbs := l.arbs ++ [a] }).lathe n =
        { { s.lathe n with strokes := rest }.journalise x with arbs := (s.lathe n).arbs ++ [a] } := by
      rw [modLathe_lathe (hs.of_kept (judgedFailing_kept s n x rest)), judgedFailing_lathe hs]
      rfl
    exact ⟨_, execStrokeVerdict_queue hs hx ht hfail hdrained hj hin harbs, a, congrArg Lathe.arbs queued, rfl, rfl, rfl,
      congrArg Lathe.strokes queued⟩

end Sys2Proof.Machine
end

section
/-! ## Operations that act each on its own index, and lathe records read back

Elaboration is in order here, as in the model's files. -/
set_option Elab.async false
namespace Sys2Proof.Machine

section
variable {σ ι γ : Type} {get : σ → ι → γ} {f : σ → ι → σ} {Inv : σ → Prop}

/-- Operations on other indices leave what stands at `j`. -/
theorem foldl_get_of_not_mem (hinv : ∀ y i, Inv y → Inv (f y i)) (hne : ∀ y i j, Inv y → j ≠ i → get (f y i) j = get y j)
    {is : List ι} {j : ι}
    (hj : j ∉ is) {s : σ} (hs : Inv s) : get (is.foldl f s) j = get s j := by
  induction is generalizing s with
  | nil => rfl
  | cons i is ih =>
    obtain ⟨hji, hjs⟩ := not_or.mp (mt List.mem_cons.mpr hj)
    exact (ih hjs (hinv s i hs)).trans (hne s i j hs hji)

/-- What each operation does at its own index, a run of them over different indices does at each. -/
theorem foldl_get_of_nodup {R : ι → γ → γ → Prop} (hinv : ∀ y i, Inv y → Inv (f y i))
    (hne : ∀ y i j, Inv y → j ≠ i → get (f y i) j = get y j)
    (hself : ∀ y i, Inv y → R i (get y i) (get (f y i) i)) {is : List ι} (hd : is.Nodup) {s : σ} (hs : Inv s) {j : ι} (hj : j ∈ is) :
    R j (get s j) (get (is.foldl f s) j) := by
  induction is generalizing s with
  | nil => cases hj
  | cons i is ih =>
    obtain ⟨hi, hd⟩ := List.nodup_cons.mp hd
    have hs' := hinv s i hs
    rcases List.mem_cons.mp hj with rfl | hj
    · rw [List.foldl_cons, foldl_get_of_not_mem hinv hne hi hs']
      exact hself s j hs
    · rw [← hne s i j hs fun e => hi (e ▸ hj)]
      exact ih hd hs' hj

end

variable {m : Nat} {s t : State} {n : Nat}

theorem Kept.cal_eq (h : Kept m s t) (n : Nat) (hm : m.testBit Part.calibrations.no = false := by decide) : t.cal n = s.cal n := by
  have cals : t.cals = s.cals := h.1 .calibrations hm
  simp only [State.cal, cals]

theorem Kept.rd_eq (h : Kept m s t) (o : Nat) (hm : m.testBit Part.registers.no = false := by decide) : t.rd o = s.rd o :=
  congrArg (fun regs => sget (resetWord o) regs o) (Prod.mk.inj (h.1 .registers hm)).1

theorem calKey_of_solo (h : s.deep n = false) : s.calKey n = n := by simp [State.calKey, h]

theorem calLathes_of_solo (h : s.deep n = false) : s.calLathes n = [n] := by simp [State.calLathes, h]

/-- A lathe is a member of its gang (R4). -/
theorem mem_members_self (s : State) (n : Nat) : n ∈ s.members n := by
  have size : 0 < shapeSize (s.shape n) := by rcases shapeSize_cases (s.shape n) with h | h | h | h <;> omega
  refine List.mem_map.mpr ⟨n % shapeSize (s.shape n), List.mem_range.mpr (Nat.mod_lt _ size), ?_⟩
  exact Nat.div_add_mod' n _

/-- The members of a gang are different lathes (R4). -/
theorem members_nodup (s : State) (n : Nat) : (s.members n).Nodup :=
  List.Pairwise.map (s.gang n + ·) (fun _ _ => mt Nat.add_left_cancel) List.nodup_range

theorem mem_replayMates_self (s : State) (n : Nat) : n ∈ s.replayMates n := by
  unfold State.replayMates
  split
  · exact mem_members_self s n
  · exact List.mem_singleton_self n

@[simp] theorem Lathe.setIdle_idleBank (l : Lathe) (b : Bank) : (l.setIdle b).idleBank = b := by
  cases h : l.liveB <;> simp [Lathe.setIdle, Lathe.idleBank, h]

@[simp] theorem Lathe.setIdle_liveBank (l : Lathe) (b : Bank) : (l.setIdle b).liveBank = l.liveBank := by
  cases h : l.liveB <;> simp [Lathe.setIdle, Lathe.liveBank, h]

@[simp] theorem Lathe.setIdle_cur (l : Lathe) (b : Bank) : (l.setIdle b).cur = l.cur := by
  cases h : l.liveB <;> simp [Lathe.setIdle, h]

end Sys2Proof.Machine
end

section
/-! ## The refresh age of a lathe -/
set_option Elab.async false
namespace Sys2Proof.Machine

theorem execBankAgeMaxWrite_on {n : Fin 8} {v : Word} {s : State} (h : s.blockOff .lth n = false) :
    execBankAgeMaxWrite n v s = .next (s.wakeLink.wr (LTH_BANK_AGE_MAX n) (BitVec.ofNat 32 (clampNat 500 4500 v.toNat))) := atBlock_of_on _ h

theorem clampNat_le {lo hi : Nat} (h : lo ≤ hi) (x : Nat) : clampNat lo hi x ≤ hi := by grind [clampNat]

/-- Settles O17: the register takes the value written or its nearer limit (R55). -/
theorem bankAgeLimits : Obligations.BankAgeLimits := by
  intro n v s hs hon
  have hw : Canon s.wakeLink := hs.of_kept (State.wakeLink_kept s)
  have fits : clampNat 500 4500 v.toNat < 2 ^ 32 := Nat.lt_of_le_of_lt (clampNat_le (by decide) _) (by decide)
  refine ⟨_, execBankAgeMaxWrite_on hon, ?_, fun o ho => rd_wr_ne hw _ ho⟩
  rw [rd_wr_self hw, BitVec.toNat_ofNat, Nat.mod_eq_of_lt fits]

end Sys2Proof.Machine
end

section
/-! ## Into service and out of it -/
set_option Elab.async false
namespace Sys2Proof.Machine

variable {s : State} {n : Nat}

/-! ### What leaving and entering service changes of a lathe -/

theorem exists_powerAdcs_lathe (hs : Canon s) (n : Nat) : ∃ q, (s.powerAdcs n).lathe n = { s.lathe n with adcOn := q } := by
  unfold State.powerAdcs
  split
  · exact ⟨(s.lathe n).adcOn, rfl⟩
  · exact ⟨_, modLathe_lathe hs n _⟩

theorem exists_lastGuard_lathe (hs : Canon s) (n : Nat) : ∃ k due, (s.lastGuard n).lathe n = { s.lathe n with symAcc := k, guardDue := due } := by
  unfold State.lastGuard
  split
  · obtain ⟨k, hk⟩ := exists_guardSyms_lathe hs n
    exact ⟨k, none, hk⟩
  · obtain ⟨k, hk⟩ := exists_countIdle_lathe hs n
    exact ⟨k, (s.lathe n).guardDue, hk⟩

theorem quiesce_of_inService {cause : Nat} {forCal : Bool} (h : (s.lathe n).svc = .inService) :
    s.quiesce n cause forCal = s.modLathe n fun l => { l with svc := .quiescing, oosCause := cause, quiesceCal := forCal } := by
  simp [State.quiesce, h]

theorem enterService_lathe (hs : Canon s) (n : Nat) :
    (s.enterService n).lathe n = { s.lathe n with svc := .inService, oosCause := 0, symAcc := 8 * s.clock, dip := s.dipsOn n } := by
  rw [State.enterService, (State.post_kept _ _ _ _ _ _).lathe_eq, modLathe_lathe hs]

/-! ### The way back (Table 2.6) -/

/-- A lathe that software took out of service may return once SVC_REQ is 1, no calibration is due, and its lasers lock no longer (R76, R519). -/
theorem mayReturn_of_software (hsvc : (s.lathe n).svc = .outOfService) (hcause : (s.lathe n).oosCause = 1) (hneed : (s.lathe n).needCal = false)
    (hreq : s.flag (LTH_CTRL n) LTH_CTRL_SVC_REQ = true) (hact : s.active = true) (hfree : s.calFree n = true) (hdue : s.calDue n = false)
    (hlas : s.lasersSettled n = true) : s.mayReturn n = true := by
  have soft : s.softCause n = true := by simp [State.softCause, hcause]
  simp [State.mayReturn, hsvc, hcause, hneed, hreq, hact, hfree, hdue, hlas, soft]

/-- The state after a check of valid maps (R41). -/
def State.mapsChecked (s : State) (n : Nat) : State := (s.modLathe n fun l => { l with mapErr := false }).powerAdcs n

theorem checkMaps_of_valid (h : s.mapFault n = none) : s.checkMaps n = (true, s.mapsChecked n) := by
  unfold State.checkMaps
  rw [h]
  rfl

theorem mapsChecked_kept (s : State) (n : Nat) : Kept 0x100 s (s.mapsChecked n) :=
  (State.modLathe_kept s n _).trans (State.powerAdcs_kept _ n)

/-- Whether a calibration is due rests on nothing of a lathe but its last calibration (R485). -/
theorem modLathe_calDue (hs : Canon s) {f : Lathe → Lathe} (hf : (f (s.lathe n)).calFresh = (s.lathe n).calFresh) (k : Nat) :
    (s.modLathe n f).calDue k = s.calDue k := by
  have fresh (m : Nat) : ((s.modLathe n f).lathe m).calFresh = (s.lathe m).calFresh := by
    by_cases h : m = n
    · rw [h, modLathe_lathe hs, hf]
    · exact congrArg Lathe.calFresh (setLathe_lathe_ne hs _ h)
  have asked : (s.modLathe n f).calAsked k = s.calAsked k := rfl
  have covered : (s.modLathe n f).calLathes k = s.calLathes k := rfl
  simp only [State.calDue, asked, covered, fresh]

theorem mapsChecked_calDue (hs : Canon s) (n k : Nat) : (s.mapsChecked n).calDue k = s.calDue k := by
  rw [← modLathe_calDue hs (n := n) (f := fun l => { l with mapErr := false }) rfl k, State.mapsChecked, State.powerAdcs]
  split
  · rfl
  · exact modLathe_calDue (hs.of_kept (State.modLathe_kept _ _ _)) rfl k

theorem tryService_of_valid (hs : Canon s) (hret : s.mayReturn n = true) (hmaps : s.mapFault n = none) (hdue : s.calDue n = false) :
    s.tryService n = (s.mapsChecked n).enterService n := by
  simp [State.tryService, hret, checkMaps_of_valid hmaps, mapsChecked_calDue hs, hdue]

/-- A lathe whose maps were found valid, in service (R41, R61). -/
theorem exists_mapsChecked_enterService_lathe (hs : Canon s) (n : Nat) :
    ∃ q d, ((s.mapsChecked n).enterService n).lathe n =
      { s.lathe n with mapErr := false, adcOn := q, svc := .inService, oosCause := 0, symAcc := 8 * s.clock, dip := d } := by
  obtain ⟨q, hq⟩ := exists_powerAdcs_lathe (hs.of_kept (State.modLathe_kept s n fun l => { l with mapErr := false })) n
  have checked := mapsChecked_kept s n
  exact ⟨q, _, by rw [enterService_lathe (hs.of_kept checked), checked.clock_eq, State.mapsChecked, hq, modLathe_lathe hs]⟩

/-! ### Commands -/

theorem execSvcReqWrite_on {n : Fin 8} {v : Bool} (h : s.blockOff .lth n = false) :
    execSvcReqWrite n v s = .next (let u := s.wakeLink.wb (LTH_CTRL n) LTH_CTRL_SVC_REQ v
      if v then u.tryService n else u.quiesce n 1 false) := atBlock_of_on _ h

theorem execLthMapWrite_on {n : Fin 8} {col : Bool} {i : Fin 520} {v : Word} (h : s.blockOff .lth n = false) :
    execLthMapWrite n col i v s = .next (
      if (s.lathe n).svc = .outOfService ∨ (s.lathe n).svc = .off then
        if col then ((s.wakeLink.wf (LTH_COLMAP n i) LTH_COLMAP_PHYS v.toNat).renameLoops n).powerAdcs n
        else if i.val < 512 then (s.wakeLink.wf (LTH_ROWMAP n i) LTH_ROWMAP_PHYS v.toNat).renameLoops n
        else s.wakeLink
      else s.wakeLink) := by
  refine (atBlock_of_on _ h).trans ?_
  simp only [(State.wakeLink_kept s).lathe_eq, Bool.or_eq_true, beq_iff_eq]
  repeat' split
  all_goals rfl

/-- A quiet lathe out of service, with its event (R624). -/
def State.quiesced (s : State) (n : Nat) : State :=
  ((s.lastGuard n).modLathe n fun l => { l with svc := .outOfService, quiesceCal := false, cur := none }).oosEvent n (s.lathe n).oosCause

theorem exists_quiesced_lathe (hs : Canon s) (n : Nat) :
    ∃ k due, (s.quiesced n).lathe n =
      { s.lathe n with symAcc := k, guardDue := due, svc := .outOfService, quiesceCal := false, cur := none } := by
  obtain ⟨k, due, hk⟩ := exists_lastGuard_lathe hs n
  exact ⟨k, due, by rw [State.quiesced, (State.oosEvent_kept _ _ _).lathe_eq, modLathe_lathe (hs.of_kept (State.lastGuard_kept s n)), hk]⟩

theorem execQuiesceEnd_of_quiet {n : Fin 8} (hsvc : (s.lathe n).svc = .quiescing) (hidle : s.gangIdle n = true)
    (hcal : (s.lathe n).quiesceCal = false) :
    execQuiesceEnd n s = .next (if (s.lathe n).oosCause = 1 then (s.quiesced n).tryService n else s.quiesced n) := by
  simp [execQuiesceEnd, hsvc, hidle, hcal, State.quiesced]

end Sys2Proof.Machine
end

section
/-! ## The lock of the lasers -/
set_option Elab.async false
namespace Sys2Proof.Machine

variable {s : State} {n : Nat}

/-- Laser `i` of lathe `n`, whose standby stands in position `pos`, has locked, or is warm as the standby; one that failed stays so. -/
def State.lockLaser (n pos : Nat) (s : State) (i : Nat) : State :=
  if s.rf (LTH_LASER n i) LTH_LASER_STATE = 4 then s
  else s.wf (LTH_LASER n i) LTH_LASER_STATE (if i = 11 && pos = 15 then 1 else 3)

theorem lockLaser_kept (n pos : Nat) (s : State) (i : Nat) : Kept 0x8 s (s.lockLaser n pos i) := .ite (.refl _ s) (State.wf_kept _ _ _ _)

theorem lockLaser_state_ne (hs : Canon s) (pos : Nat) {i j : Nat} (h : j ≠ i) :
    (s.lockLaser n pos i).rf (LTH_LASER n j) LTH_LASER_STATE = s.rf (LTH_LASER n j) LTH_LASER_STATE := by
  unfold State.lockLaser
  split
  · rfl
  · exact rf_wf_ne hs _ _ _ (by unfold LTH_LASER; omega)

theorem lockLaser_state_self (hs : Canon s) (pos i : Nat) :
    (s.lockLaser n pos i).rf (LTH_LASER n i) LTH_LASER_STATE =
      if s.rf (LTH_LASER n i) LTH_LASER_STATE = 4 then 4 else if i = 11 && pos = 15 then 1 else 3 := by
  unfold State.lockLaser
  split
  · assumption
  · rw [rf_wf_self hs _ _ _ (by decide)]
    split <;> rfl

/-- All twelve lasers of lathe `n` have locked (Table 2.9). -/
def State.lockLasers (s : State) (n : Nat) : State := (List.range 12).foldl (State.lockLaser n (s.rf (LTH_SPARE_USE n) LTH_SPARE_USE_STANDBY_POS)) s

theorem lockLasers_kept (s : State) (n : Nat) : Kept 0x8 s (s.lockLasers n) :=
  (Kept.refl _ s).foldl fun _ _ h => h.step (lockLaser_kept _ _ _ _)

/-- A laser of a position is LOCKED, or has failed before. -/
theorem lockLasers_state (hs : Canon s) {i : Nat} (hi : i < 11) :
    (s.lockLasers n).rf (LTH_LASER n i) LTH_LASER_STATE = if s.rf (LTH_LASER n i) LTH_LASER_STATE = 4 then 4 else 3 := by
  have locked := foldl_get_of_nodup (get := fun (y : State) j => y.rf (LTH_LASER n j) LTH_LASER_STATE) (Inv := Canon)
    (R := fun j x x' => x' = if x = 4 then 4 else if j = 11 && s.rf (LTH_SPARE_USE n) LTH_SPARE_USE_STANDBY_POS = 15 then 1 else 3)
    (fun y j hy => hy.of_kept (lockLaser_kept _ _ y j)) (fun _ _ _ hy h => lockLaser_state_ne hy _ h) (fun _ j hy => lockLaser_state_self hy _ j)
    List.nodup_range hs (List.mem_range.mpr (Nat.lt_trans hi (by decide : 11 < 12)))
  simpa [State.lockLasers, Nat.ne_of_lt hi] using locked

theorem execLasersLocked_of_starting {n : Fin 8} (h : (s.lathe n).svc = .starting) :
    execLasersLocked n s = .next ((s.lockLasers n).enterCal (s.calKey n)) := by
  simp only [execLasersLocked, h]
  rfl

/-- A lathe that is a calibration by itself and whose lasers are locked or failed goes to CALIBRATING (Table 2.6). -/
theorem enterCal_of_starting (hd : s.deep n = false) (hsvc : (s.lathe n).svc = .starting)
    (hlas : ∀ i, i < 11 → s.rf (LTH_LASER n i) LTH_LASER_STATE = 3 ∨ s.rf (LTH_LASER n i) LTH_LASER_STATE = 4) :
    s.enterCal n = (s.modLathe n fun l => { l with svc := .calibrating }).joinSlots n := by
  have may : s.calEnter n = true := by simpa [State.calEnter, hsvc] using hlas
  simp [State.enterCal, calLathes_of_solo hd, may, State.toCal, hsvc]

/-- A calibration that nothing runs in waits for a slot (R486). -/
theorem joinSlots_cal_st (hs : Canon s) (hd : s.deep n = false) (h : (s.cal n).st = .idle ∨ (s.cal n).st = .waiting) :
    ((s.joinSlots n).cal n).st = .slot := by
  rw [State.joinSlots, calKey_of_solo hd, State.modCal, setCal_cal hs]
  rcases h with h | h <;> simp [h]

/-- LASERS_LOCKED on a lathe that starts (R76, R487). -/
theorem lasersLocked_of_starting {n : Fin 8} (hs : Canon s) (hsvc : (s.lathe n).svc = .starting) (hd : s.deep n = false) :
    Completes (.lasersLocked n) s fun t => t.lathe n = { s.lathe n with svc := .calibrating } ∧
      (∀ i, i < 11 → s.rf (LTH_LASER n i) LTH_LASER_STATE ≠ 4 → t.rf (LTH_LASER n i) LTH_LASER_STATE = 3) ∧
      ((s.cal n).st = .idle ∨ (s.cal n).st = .waiting → (t.cal n).st = .slot) := by
  let u := s.lockLasers n
  let v := u.modLathe n fun l => { l with svc := .calibrating }
  have locked : Kept 0x8 s u := lockLasers_kept s n
  have hu : Canon u := hs.of_kept locked
  have hv : Canon v := hu.of_kept (State.modLathe_kept _ _ _)
  have hlathe : u.lathe n = s.lathe n := locked.lathe_eq n
  have hdu : u.deep n = false := (deep_congr locked.jigBody_eq n).trans hd
  have lasers : ∀ i, i < 11 → u.rf (LTH_LASER n i) LTH_LASER_STATE = 3 ∨ u.rf (LTH_LASER n i) LTH_LASER_STATE = 4 := fun i hi => by
    rw [lockLasers_state hs hi]
    split <;> simp
  have ends : execLasersLocked n s = .next (v.joinSlots n) := by
    rw [execLasersLocked_of_starting hsvc, calKey_of_solo hd, enterCal_of_starting hdu (by rw [hlathe, hsvc]) lasers]
  have joined := State.joinSlots_kept v n
  refine ⟨_, ends, ?_, fun i hi h4 => ?_, fun hcal => ?_⟩
  · rw [joined.lathe_eq, modLathe_lathe hu, hlathe]
  · have same : (v.joinSlots n).rf (LTH_LASER n i) LTH_LASER_STATE = u.rf (LTH_LASER n i) LTH_LASER_STATE :=
      congrArg (fun w : Word => bits w.toNat LTH_LASER_STATE.lo LTH_LASER_STATE.w) (joined.rd_eq _)
    rw [same, lockLasers_state hs hi, if_neg h4]
  · exact joinSlots_cal_st hv hdu (by rw [show v.cal n = s.cal n from locked.cal_eq n]; exact hcal)

end Sys2Proof.Machine
end

section
/-! ## The obligation on the service of a lathe -/
set_option Elab.async false
namespace Sys2Proof.Machine

/-- Settles O27: service requests both ways, map writes, the lock of the lasers, and the end of a quiesce. -/
theorem latheService : Obligations.LatheService := by
  refine ⟨?out, ?back, ?row, ?column, ?ignored, fun n s hs hsvc hd => lasersLocked_of_starting hs hsvc hd, ?quiet, ?asked⟩
  case out =>
    intro n s hs hon hsvc
    let u := s.wakeLink.wb (LTH_CTRL n) LTH_CTRL_SVC_REQ false
    have hw : Canon s.wakeLink := hs.of_kept (State.wakeLink_kept s)
    have written : Kept 0x8 s u := (State.wakeLink_kept s).trans (State.wb_kept _ _ _ _)
    have leaves : u.quiesce n 1 false = u.modLathe n fun l => { l with svc := .quiescing, oosCause := 1, quiesceCal := false } :=
      quiesce_of_inService (by rw [written.lathe_eq, hsvc])
    refine ⟨_, execSvcReqWrite_on hon, ?_⟩
    dsimp only
    rw [if_neg Bool.false_ne_true, leaves, modLathe_lathe (hs.of_kept written), written.lathe_eq]
    exact ⟨rfl, flag_wb_self hw _ _ _ (by decide) (by decide)⟩
  case back =>
    intro n s hs hon hsvc hcause hneed u hact hfree hdue hlas hmaps
    have hw : Canon s.wakeLink := hs.of_kept (State.wakeLink_kept s)
    have written : Kept 0x8 s u := (State.wakeLink_kept s).trans (State.wb_kept _ _ _ _)
    have hlathe : u.lathe n = s.lathe n := written.lathe_eq n
    have requested : u.flag (LTH_CTRL n) LTH_CTRL_SVC_REQ = true := flag_wb_self hw _ _ _ (by decide) (by decide)
    have returns : u.mayReturn n = true := mayReturn_of_software (by rw [hlathe, hsvc]) (by rw [hlathe, hcause]) (by rw [hlathe, hneed])
      requested hact hfree hdue hlas
    obtain ⟨q, d, hserves⟩ := exists_mapsChecked_enterService_lathe (hs.of_kept written) n
    refine ⟨_, execSvcReqWrite_on hon, ?_⟩
    dsimp only
    rw [if_pos rfl, tryService_of_valid (hs.of_kept written) returns hmaps hdue, hserves, written.clock_eq]
    exact ⟨rfl, rfl, rfl⟩
  case row =>
    intro n i v s hon hsvc hi
    refine (execLthMapWrite_on hon).trans ?_
    rw [if_pos hsvc, if_neg Bool.false_ne_true, if_pos hi]
  case column =>
    intro n i v s hon hsvc
    refine (execLthMapWrite_on hon).trans ?_
    rw [if_pos hsvc, if_pos rfl]
  case ignored =>
    intro n col i v s hon hoos hoff
    refine (execLthMapWrite_on hon).trans ?_
    rw [if_neg (not_or.mpr ⟨hoos, hoff⟩)]
  case quiet =>
    intro n s hs hsvc hidle hcal hcause
    obtain ⟨k, due, hquiet⟩ := exists_quiesced_lathe hs n
    refine ⟨_, execQuiesceEnd_of_quiet hsvc hidle hcal, ?_⟩
    dsimp only
    rw [if_neg hcause, hquiet]
    exact ⟨rfl, rfl, rfl⟩
  case asked =>
    intro n s hsvc hidle hcal hcause
    refine (execQuiesceEnd_of_quiet hsvc hidle hcal).trans ?_
    rw [if_pos hcause, State.quiesced, hcause]

end Sys2Proof.Machine
end

section
/-! ## LOAD, the end of a bank write, and a refresh -/
set_option Elab.async false
namespace Sys2Proof.Machine

variable {s : State} {n : Nat}

/-! ### The end of a bank write -/

/-- No switch back to a displaced plane while the lathe presents a stroke (R398). -/
theorem settleRelive_of_busy (h : (s.lathe n).cur.isSome = true) : s.settleRelive n = s := by
  have busy : ((s.replayMates n).all fun m => (s.lathe m).idleBank.relive && (s.lathe m).idleBank.st == .pending && (s.lathe m).cur.isNone) = false :=
    List.all_eq_false.mpr ⟨n, mem_replayMates_self s n, by simp [Option.isSome_iff_ne_none.mp h]⟩
  simp [State.settleRelive, busy]

/-- A plane that no LOAD waits for is PENDING once written, and nothing switches while the lathe presents a stroke (R47, R50, R61). -/
theorem execBankWriteEnd_of_busy {n : Fin 8} (hs : Canon s) (hst : (s.lathe n).idleBank.st = .writing) (hwait : (s.lathe n).wait = none)
    (hcur : (s.lathe n).cur.isSome = true)
    (hown : (s.lathe n).idleBank.refresh = true ∨ (s.lathe n).idleBank.replay = true ∨ (s.lathe n).idleBank.relive = true) :
    execBankWriteEnd n s = .next (s.modLathe n fun l => l.setIdle { (s.lathe n).idleBank with st := .pending, wrote := s.clock }) := by
  let u := s.modLathe n fun l => l.setIdle { (s.lathe n).idleBank with st := .pending, wrote := s.clock }
  have busy : (u.lathe n).cur.isSome = true := by rw [modLathe_lathe hs, Lathe.setIdle_cur, hcur]
  have noGuard : ((u.members n).all fun m => (u.lathe m).cur.isNone && (u.lathe m).guardDue.isSome) = false :=
    List.all_eq_false.mpr ⟨n, mem_members_self u n, by simp [Option.isSome_iff_ne_none.mp busy]⟩
  have own : ((s.lathe n).idleBank.refresh || (s.lathe n).idleBank.replay || (s.lathe n).idleBank.relive) = true := by
    simpa [or_assoc] using hown
  have same := settleRelive_of_busy busy
  dsimp only [u] at noGuard same
  simp only [execBankWriteEnd, hst, hwait, own, noGuard, same, beq_self_eq_true, Option.isNone_none, Bool.and_self, if_true, Bool.false_eq_true,
    if_false]

/-! ### LOAD -/

theorem execLoad_of_go {b : Fin 8} {p layer src mst : Nat} {live : Bool} {k : Fin 32} {glitch : List (Nat × Nat)} {o s : State}
    (hs : o.pollDisplaced b = s) (hst : o.stage b p k = some (.load live layer src mst)) (hstart : s.mayStart b p k = true)
    (hready : ((s.members b).all fun n => ((s.lathe n).svc == .inService || (s.lathe n).svc == .quiescing) && (s.lathe n).idleFree s.clock &&
      (s.lathe n).displaced.isEmpty && (s.lathe n).wait.isNone && (s.lathe n).arbs.isEmpty) = true)
    (hgate : layer < 4096 → s.gate layer (s.ctxOf b p) = .go) :
    execLoad b p k glitch o = .next ((s.members b).foldl (fun (acc : State) n =>
      if acc.stageSt b p k == .running && ((acc.prog b p).any fun x => x.st == .started) then
        acc.loadPlane n
          { eng := b, prog := p, stage := k, addr := src + (n - b) * mst, livePlane := live, layer := layer, ctx := BitVec.ofNat 8 (s.ctxOf b p) }
          (fun j => glitch.contains (n - b.val, j))
      else acc) (s.setStage b p k .running)) := by
  simp only [execLoad, hst, hs, hstart, hready, Bool.not_true, Bool.or_self, Bool.false_eq_true, if_false]
  split
  next hl => rw [hgate hl]
  next => rfl

/-! ### Refresh -/

/-- Lathe `l'` writes the image of `l`'s live bank into its idle bank, from clock `c` at the earliest (R53, R54). -/
def Lathe.Refreshes (c : Nat) (l l' : Lathe) : Prop :=
  l'.idleBank.st = .writing ∧ l'.idleBank.refresh = true ∧ l'.idleBank.image = l.liveBank.image ∧ l'.idleBank.start = max c (l.switched + 2) ∧
    l'.liveBank = l.liveBank

theorem claimBank_lathe (hs : Canon s) (n : Nat) (b : Bank) :
    (s.claimBank n b).lathe n = (s.lathe n).setIdle
      { b with st := .writing, start := max s.clock ((s.lathe n).switched + 2), rows := (List.range 512).map (s.rowMap n),
               cols := (List.range 520).map (s.colMap n) } := by
  rw [State.claimBank, modLathe_lathe (hs.of_kept (State.bump_kept _ _ _)), bump_lathe]

theorem claimBank_lathe_ne (hs : Canon s) {m : Nat} (b : Bank) (h : m ≠ n) : (s.claimBank n b).lathe m = s.lathe m := by
  rw [State.claimBank, State.modLathe, setLathe_lathe_ne (hs.of_kept (State.bump_kept _ _ _)) _ h, bump_lathe]

/-- Planes `out` of lathe `n` wait to be written again, and no answer is awaited for the bank any longer (R56, R57). -/
def State.displaceIdle (s : State) (n : Nat) (out : List (Bank × Bool)) : State :=
  (s.modLathe n fun l => { l with displaced := out ++ l.displaced, wait := none }).dropMirror n

theorem displaceIdle_kept (s : State) (n : Nat) (out : List (Bank × Bool)) : Kept 0x10000100100 s (s.displaceIdle n out) :=
  ((Kept.refl _ s).step (State.modLathe_kept _ _ _)).step (State.dropMirror_kept _ _)

theorem displaceIdle_lathe (hs : Canon s) (n : Nat) (out : List (Bank × Bool)) :
    (s.displaceIdle n out).lathe n = { s.lathe n with displaced := out ++ (s.lathe n).displaced, wait := none } := by
  rw [State.displaceIdle, (State.dropMirror_kept _ _).lathe_eq, modLathe_lathe hs]

theorem displaceIdle_lathe_ne (hs : Canon s) (out : List (Bank × Bool)) {m : Nat} (h : m ≠ n) : (s.displaceIdle n out).lathe m = s.lathe m := by
  rw [State.displaceIdle, (State.dropMirror_kept _ _).lathe_eq, State.modLathe, setLathe_lathe_ne hs _ h]

/-- A refresh displaces what the idle bank was written with or held PENDING, and claims the bank for the live one's plane (R54, R56, R57). -/
theorem exists_refreshBank_eq (s : State) (n : Nat) :
    ∃ out, s.refreshBank n = ((s.displaceIdle n out).claimBank n
      { (s.lathe n).liveBank with refresh := true, replay := false, again := false, relive := false, spares := [] }).bump (LTH_STAT_REFRESH n) 1 :=
  ⟨_, rfl⟩

theorem refreshBank_lathe_ne (hs : Canon s) {m : Nat} (h : m ≠ n) : (s.refreshBank n).lathe m = s.lathe m := by
  obtain ⟨out, hrefresh⟩ := exists_refreshBank_eq s n
  rw [hrefresh, bump_lathe, claimBank_lathe_ne (hs.of_kept (displaceIdle_kept s n out)) _ h, displaceIdle_lathe_ne hs out h]

theorem refreshBank_refreshes (hs : Canon s) (n : Nat) : Lathe.Refreshes s.clock (s.lathe n) ((s.refreshBank n).lathe n) := by
  obtain ⟨out, hrefresh⟩ := exists_refreshBank_eq s n
  have displaced := displaceIdle_kept s n out
  rw [hrefresh, bump_lathe, claimBank_lathe (hs.of_kept displaced), displaceIdle_lathe hs, displaced.clock_eq]
  simp only [Lathe.Refreshes, Lathe.setIdle_idleBank, Lathe.setIdle_liveBank, true_and]
  rfl

/-- Every lathe of `ms` refreshes when their refreshes start one after the other. -/
theorem foldl_refreshBank_refreshes (hs : Canon s) {ms : List Nat} (hd : ms.Nodup) {m : Nat} (hm : m ∈ ms) :
    Lathe.Refreshes s.clock (s.lathe m) ((ms.foldl State.refreshBank s).lathe m) :=
  foldl_get_of_nodup (get := State.lathe) (Inv := fun y => Canon y ∧ y.clock = s.clock) (R := fun _ => Lathe.Refreshes s.clock)
    (fun y i hy => ⟨hy.1.of_kept (State.refreshBank_kept y i), ((State.refreshBank_kept y i).clock_eq).trans hy.2⟩)
    (fun _ _ _ hy h => refreshBank_lathe_ne hy.1 h) (fun _ i hy => hy.2 ▸ refreshBank_refreshes hy.1 i) hd ⟨hs, rfl⟩ hm

/-- The gang refreshes where the live bank of one member is due and all members can (R54, R81, R82). -/
theorem execRefreshStart_of_due {n : Fin 8} {x : Stroke} {o s : State} (hs : o.pollDisplaced n = s) (hx : (s.lathe n).cur = some x)
    (hdue : (s.lathe n).liveBank.wrote + (s.rd (LTH_BANK_AGE_MAX n)).toNat * 1000 ≤ x.startClock)
    (hable : ∀ m ∈ s.members n, (s.lathe m).cur.isSome = true ∧ (s.lathe m).hasLive = true ∧ (s.lathe m).arbs = [] ∧
      (s.lathe m).idleBank.st ≠ .live ∧ (s.lathe m).idleBank.refresh = false ∧ (s.lathe m).idleBank.replay = false) :
    execRefreshStart n o = .next ((s.members n).foldl State.refreshBank s) := by
  have able : ((s.members n).all fun m => (s.lathe m).cur.isSome && (s.lathe m).hasLive && (s.lathe m).arbs.isEmpty && (s.lathe m).idleBank.st != .live &&
      !(s.lathe m).idleBank.refresh && !(s.lathe m).idleBank.replay) = true := by
    refine List.all_eq_true.mpr fun m hm => ?_
    obtain ⟨hcur, hlive, harbs, hidle, hrefresh, hreplay⟩ := hable m hm
    simp [hcur, hlive, harbs, hidle, hrefresh, hreplay]
  simp only [execRefreshStart, hs, hx, hdue, able, decide_true, Bool.and_self, if_true]

/-- Settles O29: a LOAD that nothing delays, the end of a bank write that no LOAD waits for, and the start of a refresh. -/
theorem weightUnitCommands : Obligations.WeightUnit := by
  refine ⟨?load, ?written, ?refresh⟩
  case load =>
    intro b p layer src mst live k glitch o s hst hstart hready hgate
    exact execLoad_of_go rfl hst hstart hready hgate
  case written =>
    intro n s hs hst hwait hcur hown
    refine ⟨_, execBankWriteEnd_of_busy hs hst hwait hcur hown, ?_⟩
    dsimp only
    rw [modLathe_lathe hs]
    exact ⟨Lathe.setIdle_idleBank _ _, Lathe.setIdle_liveBank _ _⟩
  case refresh =>
    intro n x o ho s hx hdue hable
    have hs : Canon s := ho.of_kept (State.pollDisplaced_kept o n)
    exact ⟨_, execRefreshStart_of_due rfl hx hdue hable, fun m hm => foldl_refreshBank_refreshes hs (members_nodup s n) hm⟩

end Sys2Proof.Machine
end

section
/-! ## Which bytes an operation keeps

`KeepsBytes P s t` is the relation every frame of O12 is put together from: it holds of a write of a register that no read goes through, of a
store elsewhere, of whatever keeps the parts that a read looks at, and it goes on along sequences, choices and folds.

Elaboration is in order here, as in the model's files. -/
set_option Elab.async false
namespace Sys2Proof.Machine

/-- A register through which memory is read: the debug register, the state of an accumulator's domain, a window of the aperture. -/
def ReadReg (o : Nat) : Prop :=
  o = DEV_DEBUG ∨ (PWR_DOM_STATUS 40 ≤ o ∧ o < PWR_DOM_STATUS 48) ∨ (PCI_APT 0 ≤ o ∧ o < PCI_APT 256)

/-- No byte is read through the Vent's, the event block's, an infeed store's or a stack's registers (Table 1.8). -/
theorem not_readReg {o : Nat} (h : (0x10000 ≤ o ∧ o < 0x20000) ∨ (0x60000 ≤ o ∧ o < 0x700000)) : ¬ ReadReg o := by
  simp only [ReadReg, DEV_DEBUG, PWR_DOM_STATUS, PCI_APT]
  omega

theorem region_aperture_lt {a w x : Nat} (h : region a = .aperture w x) : w < 256 := by
  unfold region at h
  grind

theorem region_accWin_lt {a n o : Nat} (h : region a = .accWin n o) : n < 8 := by
  obtain ⟨x, hx, _, rfl, _⟩ := exists_of_region_accWin h
  omega

theorem region_hbm_iff {a m o : Nat} : region a = .hbm m o ↔ a < 0x6000000000 ∧ m = a / 0xC00000000 ∧ o = a % 0xC00000000 := by
  unfold region
  by_cases ha : a < 0x6000000000
  · rw [if_pos ha, Region.hbm.injEq]
    simp only [ha, true_and, eq_comm]
  · rw [if_neg ha]
    grind

theorem region_infeed_lt {a n o : Nat} (h : region a = .infeed n o) : n < 8 := by
  unfold region at h
  grind

/-- What a read of a byte looks at. -/
structure SameView (s t : State) : Prop where
  hostMem : t.hostMem = s.hostMem
  accMem : t.accMem = s.accMem
  clock : t.clock = s.clock
  jigBody : t.jigBody = s.jigBody
  reg : ∀ o, ReadReg o → t.rd o = s.rd o

/-- A byte reads as before where its own cell and what reads go through stay. -/
theorem SameView.byte {s t : State} (h : SameView s t) {b : Nat} (hm : sget 0 t.mem b = sget 0 s.mem b) : t.byte b = s.byte b := by
  have journaled (o : Nat) : t.journaled o = s.journaled o := by
    rw [State.journaled, State.jrnlMib, State.spanMib, h.jigBody, ← State.jrnlMib, ← State.spanMib, ← State.journaled]
  unfold State.byte
  cases hr : region b with
  | aperture w x =>
    have hw := region_aperture_lt hr
    have low : t.rd (PCI_APT w) = s.rd (PCI_APT w) := h.reg _ (by simp only [ReadReg, PCI_APT]; omega)
    have high : t.rd (PCI_APT w + 4) = s.rd (PCI_APT w + 4) := h.reg _ (by simp only [ReadReg, PCI_APT]; omega)
    have word : t.rd64 (PCI_APT w) = s.rd64 (PCI_APT w) := by rw [State.rd64, low, high, ← State.rd64]
    have host : t.hostAddr w x = s.hostAddr w x := by
      rw [State.hostAddr, State.rf64, State.rf64, word, ← State.rf64, ← State.rf64, ← State.hostAddr]
    simp only [host, h.hostMem]
  | accWin n o =>
    have hn := region_accWin_lt hr
    have debug : t.rd DEV_DEBUG = s.rd DEV_DEBUG := h.reg _ (Or.inl rfl)
    have dom : t.rd (PWR_DOM_STATUS (40 + n)) = s.rd (PWR_DOM_STATUS (40 + n)) := h.reg _ (by simp only [ReadReg, PWR_DOM_STATUS]; omega)
    have readable : t.accReadable n = s.accReadable n := by
      rw [State.accReadable, State.debug, State.dom, State.rf, debug, dom, ← State.debug, ← State.rf, ← State.dom, ← State.accReadable]
    simp only [readable, h.accMem]
  | infeed n o => simp only [journaled, h.clock, hm]
  | hbm m o => exact hm
  | regs o => rfl
  | unmapped => exact hm

/-- From a canonical state: `t` is canonical, and every byte whose address is in `P` reads in it as in `s`. -/
def KeepsBytes (P : Nat → Prop) (s t : State) : Prop := Canon s → Canon t ∧ ∀ b, P b → t.byte b = s.byte b

/-- The addresses outside the `k` bytes from `a`. -/
def Outside (a k b : Nat) : Prop := b < a ∨ a + k ≤ b

variable {P Q : Nat → Prop} {s t u : State}

theorem KeepsBytes.refl (P : Nat → Prop) (s : State) : KeepsBytes P s s := fun hs => ⟨hs, fun _ _ => rfl⟩

theorem KeepsBytes.trans (h : KeepsBytes P s t) (h' : KeepsBytes P t u) : KeepsBytes P s u := fun hs =>
  have ⟨ht, st⟩ := h hs
  have ⟨hu, tu⟩ := h' ht
  ⟨hu, fun b hb => (tu b hb).trans (st b hb)⟩

theorem KeepsBytes.mono (h : KeepsBytes P s t) (hP : ∀ b, Q b → P b) : KeepsBytes Q s t := fun hs =>
  have ⟨ht, st⟩ := h hs
  ⟨ht, fun b hb => st b (hP b hb)⟩

theorem KeepsBytes.ite {c : Prop} [Decidable c] (ht : KeepsBytes P s t) (hu : KeepsBytes P s u) : KeepsBytes P s (if c then t else u) := by
  split <;> assumption

theorem KeepsBytes.foldl {α : Type} {f : State → α → State} {as : List α} (hf : ∀ a ∈ as, ∀ y, KeepsBytes P y (f y a)) (s : State) :
    KeepsBytes P s (as.foldl f s) := by
  induction as generalizing s with
  | nil => exact .refl P s
  | cons a as ih => exact (hf a List.mem_cons_self s).trans (ih (fun b hb => hf b (List.mem_cons_of_mem _ hb)) _)

/-- An operation that keeps every part a read looks at keeps every byte. -/
theorem Kept.byte_eq {m : Nat} (h : Kept m s t) (b : Nat)
    (hm : ∀ p ∈ [Part.registers, .memory, .hostMemory, .accumulators, .clock, .jig], m.testBit p.no = false := by decide) :
    t.byte b = s.byte b := by
  have view : SameView s t :=
    { hostMem := h.1 .hostMemory (hm _ (by simp)), accMem := (Prod.mk.inj (h.1 .accumulators (hm _ (by simp)))).1,
      clock := h.1 .clock (hm _ (by simp)), jigBody := h.jigBody_eq (hm _ (by simp)), reg := fun o _ => h.rd_eq o (hm _ (by simp)) }
  exact view.byte (congrArg (sget 0 · b) (Prod.mk.inj (h.1 .memory (hm _ (by simp)))).1)

theorem Kept.keepsBytes {m : Nat} (h : Kept m s t)
    (hm : ∀ p ∈ [Part.registers, .memory, .hostMemory, .accumulators, .clock, .jig], m.testBit p.no = false := by decide) : KeepsBytes P s t :=
  fun hs => ⟨hs.of_kept h, fun b _ => h.byte_eq b hm⟩

/-! ### Registers -/

theorem keepsBytes_wr {o : Nat} (v : Word) (ho : ¬ ReadReg o) : KeepsBytes P s (s.wr o v) := fun hs =>
  have view : SameView s (s.wr o v) :=
    { hostMem := rfl, accMem := rfl, clock := rfl, jigBody := rfl, reg := fun _ ha => rd_wr_ne hs v fun e => ho (e ▸ ha) }
  ⟨hs.of_kept (State.wr_kept s o v), fun _ _ => view.byte rfl⟩

theorem keepsBytes_wf {o : Nat} (f : Fld) (v : Nat) (ho : ¬ ReadReg o) : KeepsBytes P s (s.wf o f v) := keepsBytes_wr _ ho

theorem keepsBytes_wb {o : Nat} (f : Fld) (v : Bool) (ho : ¬ ReadReg o) : KeepsBytes P s (s.wb o f v) := keepsBytes_wr _ ho

theorem keepsBytes_incF {o : Nat} (f : Fld) (k : Nat) (ho : ¬ ReadReg o) : KeepsBytes P s (s.incF o f k) := keepsBytes_wr _ ho

theorem keepsBytes_wr64 {o : Nat} (v : Nat) (ho : (0x10000 ≤ o ∧ o + 4 < 0x20000) ∨ (0x60000 ≤ o ∧ o + 4 < 0x700000)) :
    KeepsBytes P s (s.wr64 o v) :=
  (keepsBytes_wr _ (not_readReg (by omega))).trans (keepsBytes_wr _ (not_readReg (by omega)))

theorem keepsBytes_bump {o : Nat} (k : Nat) (ho : (0x10000 ≤ o ∧ o + 4 < 0x20000) ∨ (0x60000 ≤ o ∧ o + 4 < 0x700000)) :
    KeepsBytes P s (s.bump o k) :=
  .ite (.refl P s) (keepsBytes_wr64 _ ho)

/-! ### Events -/

/-- The Vent's log, and the alert (R586, R591). -/
theorem keepsBytes_logEvent (s : State) (e : Event) : KeepsBytes P s (s.logEvent e) := by
  unfold State.logEvent
  extract_lets k vent logged next
  have hlogged : KeepsBytes P s logged := (Kept.upd (M := 2 ^ Part.vent.no) (Kept.refl _ s)).kept.keepsBytes
  have hnext : KeepsBytes P logged next := keepsBytes_wf _ _ (not_readReg (by decide))
  exact (hlogged.trans hnext).trans (.ite (keepsBytes_wb _ _ (not_readReg (by decide))) (.refl _ _))

/-- A rollback that begins leaves the image in force (R566). -/
theorem keepsBytes_healthFail (s : State) (fatal : Bool) : KeepsBytes P s (s.healthFail fatal) := by
  unfold State.healthFail
  refine .ite (fun hs => ?_) (.refl _ s)
  have begun := (Kept.upd (M := 2 ^ Part.jig.no) (jig1 := { s.jig with st := .rollingBack, cause := 1, quiescing := false }) (Kept.refl _ s)).kept
  have view : SameView s { s with jig := { s.jig with st := .rollingBack, cause := 1, quiescing := false } } :=
    { hostMem := rfl, accMem := rfl, clock := rfl, jigBody := rfl, reg := fun _ _ => rfl }
  exact ⟨hs.of_kept begun, fun _ _ => view.byte rfl⟩

theorem keepsBytes_loseRecord (s : State) {e : Nat} (he : e < 16) : KeepsBytes P s (s.loseRecord e) := by
  unfold State.loseRecord
  have lost : ¬ ReadReg (EVT_Q_LOST e) := not_readReg (by unfold EVT_Q_LOST; omega)
  exact ((keepsBytes_wr _ lost).trans (keepsBytes_bump 1 (by decide))).trans (keepsBytes_wr _ (not_readReg (by decide)))

/-- A record posted leaves every byte of memory. -/
theorem keepsBytes_postEvent (s : State) (e : Event) : KeepsBytes P s (s.postEvent e) := by
  unfold State.postEvent
  have counted : KeepsBytes P s (s.bump EVT_STAT_POSTED 1) := keepsBytes_bump 1 (by decide)
  refine ((counted.trans (keepsBytes_logEvent _ e)).trans (keepsBytes_healthFail _ (e.cls == 3))).trans ?_
  exact .ite (Kept.upd (M := 2 ^ Part.events.no) (Kept.refl _ _)).kept.keepsBytes (keepsBytes_loseRecord _ (bits_lt _ _ _))

theorem keepsBytes_post (s : State) (code cls unit ctx : Nat) (d : List (Nat × Nat)) : KeepsBytes P s (s.post code cls unit ctx d) :=
  keepsBytes_postEvent s _

theorem keepsBytes_unmappedEvent (s : State) (req : Requester) (ctx : Option (BitVec 8)) (ga : Nat) (wr : Bool) :
    KeepsBytes P s (s.unmappedEvent req ctx ga wr) := keepsBytes_post s _ _ _ _ _

/-! ### Stores -/

/-- A store of bytes of HBM or of an infeed store leaves the bytes beside them. -/
theorem keepsBytes_setBytes (s : State) {a : Nat} {data : List Byte} (h : ∀ i, i < data.length → isMem (a + i) = true) :
    KeepsBytes (Outside a data.length) s (s.setBytes a data) := fun hs =>
  ⟨hs.of_kept (State.setBytes_kept s a data), fun _ hb => setBytes_other hs h hb⟩

theorem keepsBytes_setMark (s : State) (a : Nat) (v : Bool) : KeepsBytes P s (s.setMark a v) := fun hs =>
  ⟨hs.of_kept (State.setMark_kept s a v), fun b _ => setMark_byte s a b v⟩

theorem OnlyHbm.keepsBytes (h : OnlyHbm s t) : KeepsBytes P s t := fun hs => ⟨hs.of_kept h.1, fun b _ => h.byte hs b⟩

theorem lineAddrs_of_line {a len : Nat} (ha : a % 64 + len ≤ 64) : ∀ l ∈ lineAddrs a len, l = a / 64 * 64 := by
  intro l hl
  unfold lineAddrs at hl
  split at hl
  · cases hl
  · obtain ⟨i, hi, rfl⟩ := List.mem_map.mp hl
    have := List.mem_range.mp hi
    omega

/-- A write that reaches one line may cancel a write-back of the scrub, and leaves every byte (R298, R308). -/
theorem keepsBytes_cancelScrub (s : State) {a len : Nat} (ha : a % 64 + len ≤ 64) : KeepsBytes P s (s.cancelScrub a len) := by
  by_cases h : a < 0x6000000000
  · exact (onlyHbm_cancelScrub s fun l hl => by rw [lineAddrs_of_line ha l hl]; omega).keepsBytes
  · unfold State.cancelScrub
    split
    next m o hr => exact absurd (region_hbm_iff.mp hr).1 h
    next => exact .refl _ s

theorem keepsBytes_putLine (s : State) {a : Nat} {data : List Byte} (poison : Bool) (ha : isMem a = true) (hal : a % 64 = 0) (hd : data.length = 64) :
    KeepsBytes (Outside a 64) s (s.putLine a data poison) := by
  have stored := keepsBytes_setBytes (s.cancelScrub a 64) (a := a) (data := data) fun i hi => isMem_line ha (by omega)
  rw [hd] at stored
  exact ((keepsBytes_cancelScrub s (by omega)).trans stored).trans (keepsBytes_setMark _ a poison)

theorem keepsBytes_countMarks (s : State) (a len : Nat) : KeepsBytes P s (s.countMarks a len) := by
  unfold State.countMarks
  split
  next m o hr =>
    obtain ⟨ha, rfl, _⟩ := region_hbm_iff.mp hr
    exact (onlyHbm_bump s _ (by omega)).keepsBytes
  next => exact .refl _ s

theorem keepsBytes_countInf (s : State) (a len : Nat) (wr : Bool) : KeepsBytes P s (s.countInf a len wr) := by
  unfold State.countInf
  split
  next n o hr =>
    have hn := region_infeed_lt hr
    split
    · exact keepsBytes_bump len (by unfold INF_STAT_WR_BYTES; omega)
    · exact keepsBytes_bump len (by unfold INF_STAT_RD_BYTES; omega)
  next => exact .refl _ s

end Sys2Proof.Machine
end

section
/-! ## Reads of a line of HBM under its code, and what they write back -/
set_option Elab.async false
namespace Sys2Proof.Machine

variable {P : Nat → Prop} {s : State} {a : Nat}

/-! ### Channels -/

theorem survivors_lt {order : List Nat} {c : Nat} (h : c ∈ survivors order) : c < 32 := List.mem_range.mp (List.mem_filter.mp h).1

/-- Every granule is owned and held by one of the 32 channels (R307). -/
theorem spots_lt (order : List Nat) : ∀ p ∈ spots order, p.own < 32 ∧ p.holder < 32 := by
  unfold spots
  refine foldl_keeps (fun l : List Spot => ∀ p ∈ l, p.own < 32 ∧ p.holder < 32) ?start fun l i hl p hp => ?deal
  case start =>
    intro p hp
    obtain ⟨c, hc, rfl⟩ := List.mem_map.mp hp
    exact ⟨List.mem_range.mp hc, List.mem_range.mp hc⟩
  case deal =>
    obtain ⟨q, hq, hp⟩ := List.mem_flatMap.mp hp
    split at hp
    · obtain ⟨e, he, rfl⟩ := List.mem_map.mp hp
      exact ⟨(hl q hq).1, survivors_lt (List.fst_mem_of_mem_zipIdx he)⟩
    · rw [List.mem_singleton.mp hp]
      exact hl q hq

theorem spotOf_holder_lt (order : List Nat) {c : Nat} (hc : c < 32) (g : Nat) : (spotOf order c g).holder < 32 := by
  unfold spotOf
  split
  · exact hc
  · cases h : (spots order).find? fun p => p.own == c && g % p.mult == p.base with
    | none => exact hc
    | some p => exact (spots_lt order p (List.mem_of_find?_eq_some h)).2

theorem place_channel_lt (o : Nat) : (place o).1 < 32 := Nat.mod_lt _ (by decide)

theorem channelOf_lt (s : State) (ha : a < 0x6000000000) : s.channelOf a < 256 := by
  have hc := place_channel_lt (a % 0xC00000000)
  unfold State.channelOf
  generalize place (a % 0xC00000000) = q at hc ⊢
  obtain ⟨c, _, g⟩ := q
  dsimp only at hc ⊢
  have own := spotOf_holder_lt (s.stack (a / 0xC00000000)).order hc g
  generalize spotOf (s.stack (a / 0xC00000000)).order c g = p at own ⊢
  split
  · have live : ((survivors ((s.stack (a / 0xC00000000)).order ++ [p.holder]))[(g - p.base) / p.mult %
        (survivors ((s.stack (a / 0xC00000000)).order ++ [p.holder])).length]?).getD p.holder < 32 := by
      generalize (g - p.base) / p.mult % (survivors ((s.stack (a / 0xC00000000)).order ++ [p.holder])).length = i
      cases hi : (survivors ((s.stack (a / 0xC00000000)).order ++ [p.holder]))[i]? with
      | none => exact own
      | some x => exact survivors_lt (List.mem_of_getElem? hi)
    omega
  · omega

theorem readerOf_lt (s : State) (ha : a < 0x6000000000) (src : Nat) : s.readerOf a src < 256 := by
  unfold State.readerOf
  split
  · have own := spotOf_holder_lt (s.stack (a / 0xC00000000)).order (place_channel_lt (a % 0xC00000000)) (place (a % 0xC00000000)).2.2
    dsimp only [State.oldChannel]
    omega
  · exact channelOf_lt s ha

/-! ### Words -/

@[simp] theorem leBytes_length (x k : Nat) : (leBytes x k).length = k := by simp [leBytes]

theorem received_length (w : List (BitVec 16)) (e : LineErr) : (received w e).length = w.length := by simp [received]

/-- Symbols without an error are received as they are stored. -/
theorem received_nil (w : List (BitVec 16)) : received w [] = w := by
  simp only [received, List.foldl_nil]
  exact List.zipIdx_map_fst 0 w

theorem codeword_length (s : State) (a : Nat) : (s.codeword a).length = 36 := by simp [State.codeword]

theorem decodeLine_word_length (s : State) (a : Nat) (e : LineErr) : (s.decodeLine a e).1.2.length = 36 := by
  have stored := codeword_length s a
  have arrived : (received (s.codeword a) e).length = 36 := by rw [received_length, stored]
  simp only [State.decodeLine]
  split
  · exact stored
  · split
    · exact stored
    · split
      · exact arrived
      · split
        · exact arrived
        · split
          · exact (received_length _ _).trans arrived
          · exact arrived

/-- A line received without an error is clean (R292). -/
theorem decodeLine_nil (s : State) (a : Nat) : s.decodeLine a [] = ((.clean, s.codeword a), s) := by
  have same : ((s.codeword a).zip (s.codeword a)).filter (fun x => x.1 != x.2) = [] := by
    simp [List.zip_eq_zipWith, List.zipWith_self]
  simp [State.decodeLine, received_nil, same]

theorem wordBytes_length {w : List (BitVec 16)} (h : w.length = 36) : (wordBytes w).length = 64 := by
  rw [wordBytes, List.length_flatMap]
  simp only [leBytes_length, List.map_const', List.length_take, List.sum_replicate_nat, h]
  rfl

/-- Two bytes of each symbol in ascending address order are the bytes in ascending address order. -/
theorem flatMap_pairs_eq_map {β : Type} (f : Nat → β) (n : Nat) :
    (List.range n).flatMap (fun i => [f (2 * i), f (2 * i + 1)]) = (List.range (2 * n)).map f := by
  induction n with
  | zero => rfl
  | succ n ih =>
    rw [List.range_succ, List.flatMap_append, ih, Nat.mul_succ, List.range_succ, List.range_succ]
    simp

/-- The bytes of a symbol are the two bytes stored (R291). -/
theorem leBytes_num_two (s : State) (x : Nat) : leBytes (BitVec.ofNat 16 (s.num x 2)).toNat 2 = [s.byte x, s.byte (x + 1)] := by
  have low := (s.byte x).isLt
  have high := (s.byte (x + 1)).isLt
  have value : (BitVec.ofNat 16 (s.num x 2)).toNat = (s.byte x).toNat + 256 * (s.byte (x + 1)).toNat := by
    simp only [State.num, List.range_succ, List.range_zero, List.nil_append, List.cons_append, List.foldr_cons, List.foldr_nil, Nat.add_zero,
      Nat.mul_zero, BitVec.toNat_ofNat]
    omega
  rw [value]
  simp only [leBytes, List.range_succ, List.range_zero, List.nil_append, List.cons_append, List.map_cons, List.map_nil, Nat.pow_zero,
    Nat.pow_one, Nat.div_one, List.cons.injEq, and_true]
  exact ⟨BitVec.eq_of_toNat_eq (by rw [BitVec.toNat_ofNat]; omega), BitVec.eq_of_toNat_eq (by rw [BitVec.toNat_ofNat]; omega)⟩

/-- The data symbols stored for a line are its bytes (R291). -/
theorem wordBytes_codeword (s : State) (a : Nat) : wordBytes (s.codeword a) = s.bytes a 64 := by
  have data : (s.codeword a).take 32 = (List.range 32).map fun i => BitVec.ofNat 16 (s.num (a + 2 * i) 2) := by
    simp [State.codeword]
  rw [wordBytes, data, List.flatMap_map]
  simp only [leBytes_num_two]
  exact flatMap_pairs_eq_map (fun i => s.byte (a + i)) 32

/-! ### Corrected lines and lines that could not be -/

/-- A correction is counted, and reported under its limit (R296). -/
theorem keepsBytes_corrected (s : State) {ch : Nat} (hch : ch < 256) (src ctx : Nat) : KeepsBytes P s (s.corrected ch src ctx) := by
  unfold State.corrected
  extract_lets m counted x recent noted
  have hcounted : KeepsBytes P s counted := keepsBytes_incF _ _ (not_readReg (by unfold HBM_CH_ERR m; omega))
  have hnoted : KeepsBytes P s noted := hcounted.trans (State.setStack_kept _ _ _).keepsBytes
  have limited := hnoted.trans (State.limit_kept noted (noted.flag (HBM_CTRL m) HBM_CTRL_CE_EVT_EN) 0x800 m ms (ch + 256 * src) 1).keepsBytes
  split
  next h =>
    rw [h] at limited
    exact limited.trans (keepsBytes_post _ _ _ _ _ _)
  next h =>
    rw [h] at limited
    exact limited

/-- What could not be corrected goes back marked, is counted, recorded and reported (R293, R299). -/
theorem keepsBytes_uncorrectable (s : State) (ha : a < 0x6000000000) (hal : a % 64 = 0) {w : List (BitVec 16)} (hw : w.length = 36) {ch : Nat}
    (src ctx : Nat) : KeepsBytes (Outside a 64) s (s.uncorrectable a w ch src ctx) := by
  have hm : a / 0xC00000000 < 8 := by omega
  have mem : isMem a = true := (isMem_iff a).mpr (Or.inl ha)
  unfold State.uncorrectable
  extract_lets m pc counted recorded
  have hcounted : KeepsBytes (Outside a 64) s counted :=
    ((keepsBytes_putLine s true mem hal (wordBytes_length hw)).trans
      (keepsBytes_bump 1 (by unfold HBM_STAT_UE m; omega))).trans
      (keepsBytes_incF _ _ (not_readReg (by unfold HBM_CH_ERR m; omega)))
  have hrecorded : KeepsBytes (Outside a 64) s recorded :=
    hcounted.trans (.ite (.refl _ _) ((keepsBytes_wr _ (not_readReg (by unfold HBM_ERR_INFO m; omega))).trans
      (keepsBytes_wr64 _ (by unfold HBM_ERR_ADDR m; omega))))
  exact .ite (hrecorded.trans (keepsBytes_post _ _ _ _ _ _))
    ((hrecorded.trans (State.channelEvent_kept _ _ _).keepsBytes).trans (keepsBytes_post _ _ _ _ _ _))

theorem keepsBytes_writeBack (s : State) (ha : a < 0x6000000000) (hal : a % 64 = 0) {w : List (BitVec 16)} (hw : w.length = 36) (src : Nat) :
    KeepsBytes (Outside a 64) s (s.writeBack a w src) :=
  .ite (State.setStack_kept _ _ _).keepsBytes (keepsBytes_putLine s _ ((isMem_iff a).mpr (Or.inl ha)) hal (wordBytes_length hw))

/-! ### The read -/

/-- A controller read of a line leaves every byte outside it, and returns a line (R293). -/
theorem lineRead_spec (s : State) (ha : a < 0x6000000000) (hal : a % 64 = 0) (d r : LineErr) (src ctx : Nat) :
    KeepsBytes (Outside a 64) s (s.lineRead a d r src ctx).2 ∧ (s.lineRead a d r src ctx).1.1.length = 64 := by
  have hch := readerOf_lt s ha src
  have hm : a / 0xC00000000 < 8 := by omega
  have decoded (y : State) (e : LineErr) : KeepsBytes (Outside a 64) y (y.decodeLine a e).2 := (State.decodeLine_kept y a e).keepsBytes
  unfold State.lineRead
  extract_lets ch m answer
  have answered {w : List (BitVec 16)} {y : State} (hw : w.length = 36) (hy : KeepsBytes (Outside a 64) s y) :
      KeepsBytes (Outside a 64) s (answer w y).2 ∧ (answer w y).1.1.length = 64 :=
    ⟨hy.trans (keepsBytes_bump _ (by unfold HBM_STAT_POISON_RD m; omega)), wordBytes_length hw⟩
  have retried {y : State} : KeepsBytes (Outside a 64) y (y.bump (HBM_STAT_RETRY_OK m) 1) :=
    keepsBytes_bump 1 (by unfold HBM_STAT_RETRY_OK m; omega)
  have first := decoded s d
  have firstWord := decodeLine_word_length s a d
  split
  next w y h =>
    rw [h] at first firstWord
    exact answered firstWord first
  next w y h =>
    rw [h] at first firstWord
    exact answered firstWord (((first.trans (keepsBytes_writeBack y ha hal firstWord src)).trans
      (keepsBytes_bump 1 (by unfold HBM_STAT_CE m; omega))).trans (keepsBytes_corrected _ hch src ctx))
  next v y h =>
    rw [h] at first
    have again := first.trans (decoded y r)
    have againWord := decodeLine_word_length y a r
    split
    next w z h =>
      rw [h] at again againWord
      exact ⟨again.trans (keepsBytes_uncorrectable z ha hal againWord src ctx), wordBytes_length againWord⟩
    next w z h =>
      rw [h] at again againWord
      exact answered againWord
        (((again.trans (keepsBytes_writeBack z ha hal againWord src)).trans retried).trans (keepsBytes_corrected _ hch src ctx))
    next w z h =>
      rw [h] at again againWord
      exact answered againWord ((again.trans retried).trans (keepsBytes_corrected _ hch src ctx))

/-- A read that meets no error returns the line as it is stored, and leaves every byte (R293). -/
theorem lineRead_nil (s : State) (a : Nat) (r : LineErr) (src ctx : Nat) :
    s.lineRead a [] r src ctx =
      ((s.bytes a 64, wordMark (s.codeword a)), s.bump (HBM_STAT_POISON_RD (a / 0xC00000000)) (b2n (wordMark (s.codeword a)))) := by
  simp only [State.lineRead, decodeLine_nil, wordBytes_codeword]

end Sys2Proof.Machine
end

section
/-! ## The commands that store a line or a field -/
set_option Elab.async false
namespace Sys2Proof.Machine

variable {P : Nat → Prop} {s t : State} {a : Nat}

/-! ### Writes of a line or of part of one -/

theorem inLine_iff {len : Nat} : inLine a len = true ↔ 0 < len ∧ a % 64 + len ≤ 64 := by simp [inLine]

theorem inJournal_hbm (s : State) (ha : a < 0x6000000000) : s.inJournal a = false := by
  simp only [State.inJournal, region_hbm_iff.mpr ⟨ha, rfl, rfl⟩]

/-- Bytes put in the place of others leave those beside them. -/
theorem getElem_merge {old data : List Byte} {k i : Nat} (hk : k + data.length ≤ old.length) (hi : i < k ∨ k + data.length ≤ i)
    (h : i < (old.take k ++ data ++ old.drop (k + data.length)).length) (h' : i < old.length) :
    (old.take k ++ data ++ old.drop (k + data.length))[i] = old[i] := by
  have front : (old.take k ++ data).length = k + data.length := by
    rw [List.length_append, List.length_take]
    omega
  rcases hi with hi | hi
  · rw [List.getElem_append_left (by omega), List.getElem_append_left (by rw [List.length_take]; omega), List.getElem_take]
  · rw [List.getElem_append_right (by omega), List.getElem_drop]
    congr 1
    omega

theorem getElem_bytes {k i : Nat} (h : i < (s.bytes a k).length) : (s.bytes a k)[i] = s.byte (a + i) := by simp [State.bytes]

/-- Part of a line merged into the line as it is stored leaves every byte beside the part (R294). -/
theorem keepsBytes_putLine_merge (s : State) (ha : a < 0x6000000000) {data : List Byte} (hl : a % 64 + data.length ≤ 64) (poison : Bool) :
    KeepsBytes (Outside a data.length) s (s.putLine (a / 64 * 64)
      ((s.bytes (a / 64 * 64) 64).take (a % 64) ++ data ++ (s.bytes (a / 64 * 64) 64).drop (a % 64 + data.length)) poison) := by
  intro hs
  have hlen : (s.bytes (a / 64 * 64) 64).length = 64 := by simp [State.bytes]
  have merged : ((s.bytes (a / 64 * 64) 64).take (a % 64) ++ data ++ (s.bytes (a / 64 * 64) 64).drop (a % 64 + data.length)).length = 64 := by
    simp only [List.length_append, List.length_take, List.length_drop, hlen]
    omega
  have mem (i : Nat) (hi : i < 64) : isMem (a / 64 * 64 + i) = true := (isMem_iff _).mpr (Or.inl (by omega))
  obtain ⟨ht, line⟩ := keepsBytes_putLine s (a := a / 64 * 64) poison ((isMem_iff _).mpr (Or.inl (by omega))) (Nat.mul_mod_left _ _) merged hs
  refine ⟨ht, fun b hb => ?_⟩
  by_cases out : Outside (a / 64 * 64) 64 b
  · exact line b out
  · unfold Outside at hb out
    obtain ⟨i, rfl⟩ := Nat.exists_eq_add_of_le (show a / 64 * 64 ≤ b by omega)
    have hc := hs.of_kept (State.cancelScrub_kept s (a / 64 * 64) 64)
    rw [State.putLine, setMark_byte, setBytes_byte hc (fun j hj => mem j (by omega)) (fun j hj => inJournal_hbm _ (by omega)) (by omega),
      getElem_merge (by omega) (by omega) _ (by omega), getElem_bytes]

theorem keepsBytes_bump_partial (s : State) (ha : a < 0x6000000000) (k : Nat) : KeepsBytes P s (s.bump (HBM_STAT_PARTIAL (a / 0xC00000000)) k) :=
  keepsBytes_bump k (by unfold HBM_STAT_PARTIAL; omega)

/-- The write of part of a line: the line is read, and written with the part (R294). -/
theorem hbmWrite_of_part (s : State) (a : Nat) {data : List Byte} (h : data.length ≠ 64) (p : Bool) (d r : LineErr) :
    s.hbmWrite a data p d r =
      let x := (s.bump (HBM_STAT_PARTIAL (a / 0xC00000000)) 1).lineRead (a / 64 * 64) d r 3 0xFFFF
      x.2.putLine (a / 64 * 64) (x.1.1.take (a % 64) ++ data ++ x.1.1.drop (a % 64 + data.length)) (p || x.1.2) := by
  rw [State.hbmWrite, if_neg h]

theorem hbmWrite_of_line (s : State) (a : Nat) {data : List Byte} (h : data.length = 64) (p : Bool) (d r : LineErr) :
    s.hbmWrite a data p d r = s.putLine a data p := by rw [State.hbmWrite, if_pos h]

/-- A write leaves every byte outside its line (R294). -/
theorem keepsBytes_hbmWrite (s : State) (ha : a < 0x6000000000) {data : List Byte} (hl : a % 64 + data.length ≤ 64) (p : Bool) (d r : LineErr) :
    KeepsBytes (Outside (a / 64 * 64) 64) s (s.hbmWrite a data p d r) := by
  have mem : isMem (a / 64 * 64) = true := (isMem_iff _).mpr (Or.inl (by omega))
  by_cases whole : data.length = 64
  · have aligned : a / 64 * 64 = a := by omega
    rw [hbmWrite_of_line s a whole]
    rw [aligned] at mem ⊢
    exact keepsBytes_putLine s p mem (by omega) whole
  · obtain ⟨read, length⟩ :=
      lineRead_spec (s.bump (HBM_STAT_PARTIAL (a / 0xC00000000)) 1) (a := a / 64 * 64) (by omega) (Nat.mul_mod_left _ _) d r 3 0xFFFF
    rw [hbmWrite_of_part s a whole]
    refine ((keepsBytes_bump_partial s ha 1).trans read).trans (keepsBytes_putLine _ _ mem (Nat.mul_mod_left _ _) ?_)
    simp only [List.length_append, List.length_take, List.length_drop, length]
    omega

/-- A write whose read meets no error leaves every byte beside those given (R294). -/
theorem keepsBytes_hbmWrite_nil (s : State) (ha : a < 0x6000000000) {data : List Byte} (hl : a % 64 + data.length ≤ 64) (p : Bool) (r : LineErr) :
    KeepsBytes (Outside a data.length) s (s.hbmWrite a data p [] r) := by
  by_cases whole : data.length = 64
  · rw [hbmWrite_of_line s a whole, whole]
    exact keepsBytes_putLine s p ((isMem_iff _).mpr (Or.inl ha)) (by omega) whole
  · rw [hbmWrite_of_part s a whole, lineRead_nil]
    intro hs
    have counted : KeepsBytes (fun _ => True) s (s.bump (HBM_STAT_PARTIAL (a / 0xC00000000)) 1) := keepsBytes_bump_partial s ha 1
    generalize s.bump (HBM_STAT_PARTIAL (a / 0xC00000000)) 1 = u at counted
    have read : KeepsBytes (fun _ => True) u
        (u.bump (HBM_STAT_POISON_RD (a / 64 * 64 / 0xC00000000)) (b2n (wordMark (u.codeword (a / 64 * 64))))) :=
      keepsBytes_bump _ (by unfold HBM_STAT_POISON_RD; omega)
    generalize u.bump (HBM_STAT_POISON_RD (a / 64 * 64 / 0xC00000000)) (b2n (wordMark (u.codeword (a / 64 * 64)))) = y at read
    have same : u.bytes (a / 64 * 64) 64 = y.bytes (a / 64 * 64) 64 := List.map_congr_left fun i _ => ((read (counted hs).1).2 _ trivial).symm
    dsimp only
    rw [same]
    exact ((counted.trans read).mono fun _ _ => trivial).trans (keepsBytes_putLine_merge y ha hl _) hs

theorem keepsBytes_infeedWrite (s : State) {n : Nat} (hn : n < 8) (ha : isMem a = true) {data : List Byte} (hl : a % 64 + data.length ≤ 64)
    (p : Bool) : KeepsBytes (Outside a data.length) s (s.infeedWrite n a data p) :=
  ((keepsBytes_setBytes s fun i hi => isMem_line ha (by omega)).trans (keepsBytes_setMark _ _ _)).trans
    (keepsBytes_bump _ (by unfold INF_STAT_WR_BYTES; omega))

/-- HBM_LINE_WRITE keeps what the write of a mapped line keeps; elsewhere it posts an event at most (R33, R294). -/
theorem execHbmLineWrite_keepsBytes {a : Addr} {data : List Byte} {p : Bool} {d r : LineErr} {req : Requester}
    (h : execHbmLineWrite a data p d r req s = .next t)
    (hwrite : a.toNat < 0x6000000000 → a.toNat % 64 + data.length ≤ 64 → KeepsBytes P s (s.hbmWrite a.toNat data p d r)) :
    KeepsBytes P s t := by
  cases h
  split
  next m o hr =>
    split
    · exact .refl P s
    next hl =>
      rw [Bool.not_eq_true', Bool.not_eq_false, inLine_iff] at hl
      exact .ite (keepsBytes_unmappedEvent s _ _ _ _) (hwrite (region_hbm_iff.mp hr).1 hl.2)
  next => exact .refl P s

/-- INFEED_LINE_WRITE leaves every byte beside those given (R623). -/
theorem execInfeedLineWrite_keepsBytes {a : Addr} {data : List Byte} {p : Bool} {req : Requester}
    (h : execInfeedLineWrite a data p req s = .next t) : KeepsBytes (Outside a.toNat data.length) s t := by
  cases h
  split
  next n o hr =>
    split
    · exact .refl _ s
    next hl =>
      rw [Bool.not_eq_true', Bool.not_eq_false, inLine_iff] at hl
      have mem : isMem a.toNat = true := by simp only [isMem, hr]
      exact .ite (keepsBytes_unmappedEvent s _ _ _ _) (keepsBytes_infeedWrite s (region_infeed_lt hr) mem hl.2 p)
  next => exact .refl _ s

/-! ### Reads of a line -/

/-- An answer is no part of memory. -/
theorem keepsBytes_resp (s : State) (x : Resp) : KeepsBytes P s { s with resp := x } :=
  (Kept.upd (M := 2 ^ Part.answer.no) (Kept.refl _ s)).kept.keepsBytes

theorem execHbmLineRead_of_hbm {a : Addr} (ha : a.toNat < 0x6000000000) (d r : LineErr) (src : ErrSource) (req : Requester) (ctx : Option (BitVec 8))
    (s : State) :
    execHbmLineRead a d r src req ctx s = .next (
      let l := a.toNat / 64 * 64
      if s.mapped l then
        let x := s.lineRead l d r (srcCode src) (ctxNat ctx)
        { x.2 with resp := { data := x.1.1, poison := x.1.2 } }
      else { s.unmappedEvent req ctx (s.glob l) false with resp := { data := List.replicate 64 0, poison := true } }) := by
  have hbm : region (a.toNat / 64 * 64) = .hbm _ _ := region_hbm_iff.mpr ⟨by omega, rfl, rfl⟩
  simp only [execHbmLineRead, hbm]

/-- HBM_LINE_READ keeps what the read of a line keeps (R33, R293). -/
theorem execHbmLineRead_keepsBytes {a : Addr} {d r : LineErr} {src : ErrSource} {req : Requester} {ctx : Option (BitVec 8)}
    (h : execHbmLineRead a d r src req ctx s = .next t)
    (hread : a.toNat < 0x6000000000 → KeepsBytes P s (s.lineRead (a.toNat / 64 * 64) d r (srcCode src) (ctxNat ctx)).2) : KeepsBytes P s t := by
  by_cases ha : a.toNat < 0x6000000000
  · rw [execHbmLineRead_of_hbm ha] at h
    cases h
    exact .ite ((hread ha).trans (keepsBytes_resp _ _)) ((keepsBytes_unmappedEvent s _ _ _ _).trans (keepsBytes_resp _ _))
  · cases h
    split
    next m o hr => exact absurd (region_hbm_iff.mp hr).1 (by omega)
    next => exact .refl P s

theorem keepsBytes_lineRead_nil (s : State) (ha : a < 0x6000000000) (r : LineErr) (src ctx : Nat) : KeepsBytes P s (s.lineRead a [] r src ctx).2 := by
  rw [lineRead_nil]
  exact keepsBytes_bump _ (by unfold HBM_STAT_POISON_RD; omega)

end Sys2Proof.Machine
end

section
/-! ## The patrol scrub -/
set_option Elab.async false
namespace Sys2Proof.Machine

variable {P : Nat → Prop} {s t : State} {a : Nat}

/-- A line that a channel holds lies below the hole, at a multiple of 64 (R290). -/
theorem lineAt_lt {h i o : Nat} {ps : List Spot} (hps : ∀ p ∈ ps, p.own < 32) (hh : h ≤ 2 ^ 23) (ho : lineAt h ps i = some o) :
    o < 2 ^ 36 ∧ o % 64 = 0 := by
  induction ps generalizing i with
  | nil => cases ho
  | cons p ps ih =>
    unfold lineAt at ho
    split at ho
    next hi =>
      cases ho
      have granule : p.base + p.mult * (i / 4) < h := by
        unfold Spot.size at hi
        split at hi
        · omega
        next hb =>
          have hm : 0 < p.mult := by
            rcases Nat.eq_zero_or_pos p.mult with hm | hm
            · simp [hm] at hi
            · exact hm
          have last : (i / 4 + 1) * p.mult ≤ h - p.base + p.mult - 1 := (Nat.le_div_iff_mul_le hm).mp (by omega)
          rw [Nat.add_mul, Nat.mul_comm (i / 4)] at last
          omega
      have channel : p.own ^^^ ((p.base + p.mult * (i / 4)) % 32) ^^^ ((p.base + p.mult * (i / 4)) / 32 % 32) < 2 ^ 5 :=
        Nat.xor_lt_two_pow (Nat.xor_lt_two_pow (hps p List.mem_cons_self) (Nat.mod_lt _ (by decide))) (Nat.mod_lt _ (by decide))
      unfold scrubOffset
      generalize p.own ^^^ ((p.base + p.mult * (i / 4)) % 32) ^^^ ((p.base + p.mult * (i / 4)) / 32 % 32) = x at channel
      omega
    next => exact ih (fun q hq => hps q (List.mem_cons_of_mem _ hq)) ho

theorem heldSpots_own_lt (order : List Nat) (c : Nat) : ∀ p ∈ heldSpots order c, p.own < 32 := by
  intro p hp
  have held : p ∈ (spots order).filter fun q => q.holder == c := by
    rcases List.mem_append.mp hp with hp | hp <;> exact (List.mem_filter.mp hp).1
  exact (spots_lt order p (List.mem_filter.mp held).1).1

/-- Next line that the scrub of channel `c` reads, as an offset in its stack. -/
def State.scrubNext (s : State) (c : Fin 256) : Option Nat :=
  lineAt (s.rf (HBM_HOLE (c.val / 32)) HBM_HOLE_START * 8192) (heldSpots (s.stack (c.val / 32)).order (c % 32))
    (sget 0 (s.stack (c.val / 32)).scrub (c % 32))

theorem scrubNext_lt {c : Fin 256} {o : Nat} (h : s.scrubNext c = some o) : o < 2 ^ 36 ∧ o % 64 = 0 := by
  have hole : s.rf (HBM_HOLE (c.val / 32)) HBM_HOLE_START < 2 ^ 10 := bits_lt _ _ _
  exact lineAt_lt (heldSpots_own_lt _ _) (by omega) h

/-- The address of a line of a stack that is an address of memory is in HBM (Table 1.3). -/
theorem stackLine_lt {m o : Nat} (hm : m < 8) (ho : o < 2 ^ 36) (h : isMem (0xC00000000 * m + o) = true) : 0xC00000000 * m + o < 0x6000000000 := by
  rw [isMem_iff] at h
  omega

/-- The write-backs of a scrub leave every byte outside the lines that the stack still had to write back (R298). -/
theorem keepsBytes_scrubBack (s : State) {c : Nat} (hc : c < 256)
    (hwb : ∀ e ∈ (s.stack (c / 32)).wb, isMem e.1 = true ∧ e.1 % 64 = 0 ∧ e.2.1.length = 64) :
    KeepsBytes (fun b => ∀ e ∈ (s.stack (c / 32)).wb, b / 64 ≠ e.1 / 64) s (s.scrubBack c) := by
  unfold State.scrubBack
  extract_lets m x due taken
  have htaken : KeepsBytes (fun b => ∀ e ∈ x.wb, b / 64 ≠ e.1 / 64) s taken := (State.setStack_kept _ _ _).keepsBytes
  refine htaken.trans (KeepsBytes.foldl (fun e he y => ?_) taken)
  have hx : e ∈ x.wb := (List.mem_filter.mp he).1
  obtain ⟨mem, aligned, length⟩ := hwb e hx
  have back : KeepsBytes (fun b => ∀ e ∈ x.wb, b / 64 ≠ e.1 / 64) y (y.putLine e.1 e.2.1 e.2.2) :=
    (keepsBytes_putLine y e.2.2 mem aligned length).mono fun b hb => by
      have := hb e hx
      unfold Outside
      omega
  exact .ite (back.trans (keepsBytes_bump 1 (by unfold HBM_STAT_SCRUB_FIX; omega))) (.refl _ y)

/-- The read of a line of a stack leaves every byte outside it (R297). -/
theorem keepsBytes_stackLine (s : State) {m o : Nat} (hm : m < 8) (ho : o < 2 ^ 36 ∧ o % 64 = 0) (mem : isMem (0xC00000000 * m + o) = true)
    (d r : LineErr) (src ctx : Nat) :
    KeepsBytes (fun b => b / 64 ≠ (0xC00000000 * m + o) / 64) s (s.lineRead (0xC00000000 * m + o) d r src ctx).2 :=
  (lineRead_spec s (stackLine_lt hm ho.1 mem) (by omega) d r src ctx).1.mono fun b hb => by
    unfold Outside
    omega

/-- SCRUB_READ leaves every byte outside the lines it writes back and the line it reads (R297–R299). -/
theorem execScrubRead_keepsBytes {c : Fin 256} {d r : LineErr}
    (hwb : ∀ e ∈ (s.stack (c.val / 32)).wb, isMem e.1 = true ∧ e.1 % 64 = 0 ∧ e.2.1.length = 64)
    (hnext : ∀ o, (s.scrubBack c).scrubNext c = some o → isMem (0xC00000000 * (c.val / 32) + o) = true) (h : execScrubRead c d r s = .next t) :
    KeepsBytes (fun b => (∀ e ∈ (s.stack (c.val / 32)).wb, b / 64 ≠ e.1 / 64) ∧
      ∀ o, (s.scrubBack c).scrubNext c = some o → b / 64 ≠ (0xC00000000 * (c.val / 32) + o) / 64) s t := by
  have hm : c.val / 32 < 8 := by omega
  cases h
  refine .ite (.refl _ s) ?_
  extract_lets back order hole i read x sum
  have hback : KeepsBytes (fun b => ∀ e ∈ (s.stack (c.val / 32)).wb, b / 64 ≠ e.1 / 64) s back := keepsBytes_scrubBack s c.isLt hwb
  have hread : KeepsBytes (fun b => ∀ o, back.scrubNext c = some o → b / 64 ≠ (0xC00000000 * (c.val / 32) + o) / 64) back read := by
    unfold read
    split
    next o ho =>
      have found : back.scrubNext c = some o := ho
      extract_lets line
      have hline : KeepsBytes (fun b => b / 64 ≠ (0xC00000000 * (c.val / 32) + o) / 64) back line :=
        keepsBytes_stackLine back hm (scrubNext_lt found) (hnext o found) d r 1 0xFFFF
      clear_value line
      exact (hline.mono fun b hb => hb o found).trans (State.setStack_kept _ _ _).keepsBytes
    next => exact .refl _ back
  have position (y : State) (v : Nat) : KeepsBytes (fun _ => True) y (y.wf (HBM_SCRUB_POS (c.val / 32)) HBM_SCRUB_POS_PROGRESS v) :=
    keepsBytes_wf _ _ (not_readReg (by unfold HBM_SCRUB_POS; omega))
  have counted (y : State) : KeepsBytes (fun _ => True) y (y.incF (HBM_SCRUB_POS (c.val / 32)) HBM_SCRUB_POS_PASSES 1) :=
    keepsBytes_incF _ _ (not_readReg (by unfold HBM_SCRUB_POS; omega))
  refine ((hback.mono fun b hb => hb.1).trans (hread.mono fun b hb => hb.2)).trans (.ite ?pass (KeepsBytes.mono (position _ _) fun _ _ => trivial))
  exact KeepsBytes.mono (((State.setStack_kept _ _ _).keepsBytes.trans (position _ 0)).trans (counted _)) fun _ _ => trivial

end Sys2Proof.Machine
end

section
/-! ## Fields of a record in memory, and the update of a scale record -/
set_option Elab.async false
namespace Sys2Proof.Machine

variable {P : Nat → Prop} {s t : State} {a : Nat}

theorem Kept.inJournal_eq {m : Nat} (h : Kept m s t) (a : Nat) (hm : m.testBit Part.jig.no = false := by decide) :
    t.inJournal a = s.inJournal a := by
  unfold State.inJournal
  split
  · rw [State.journaled, State.jrnlMib, State.spanMib, h.jigBody_eq hm, ← State.jrnlMib, ← State.spanMib, ← State.journaled]
  · rfl

theorem keepsBytes_putNum (s : State) (v : Nat) {k : Nat} (ha : isMem a = true) (hk : a % 64 + k ≤ 64) :
    KeepsBytes (Outside a k) s (s.putNum a v k) := by
  have stored := keepsBytes_setBytes s (a := a) (data := leBytes v k) fun i hi => isMem_line ha (by rw [leBytes_length] at hi; omega)
  rwa [leBytes_length] at stored

/-- A field of a record: its offset, the number to store there, its width in bytes. -/
structure RecField where
  off : Nat
  val : Nat
  len : Nat

/-- The field begins and ends in the line of its record. -/
def RecField.Fits (f : RecField) : Prop := f.off < 64 ∧ f.off + f.len ≤ 64

/-- Two fields share no byte. -/
def RecField.Apart (f g : RecField) : Prop := f.off + f.len ≤ g.off ∨ g.off + g.len ≤ f.off

/-- The fields of the record at `a` are stored one after the other. -/
def State.putFields (s : State) (a : Nat) (fs : List RecField) : State := fs.foldl (fun acc f => acc.putNum (a + f.off) f.val f.len) s

theorem putFields_kept (s : State) (a : Nat) (fs : List RecField) : Kept 0x30 s (s.putFields a fs) :=
  (Kept.refl _ s).foldl fun _ _ h => h.step (State.putNum_kept _ _ _ _)

section
variable (ha : isMem a = true) (hal : a % 64 = 0)
include ha hal

/-- Fields within `lo` to `hi` of a line leave the bytes outside. -/
theorem keepsBytes_putFields (s : State) {fs : List RecField} {lo k : Nat} (hfit : ∀ f ∈ fs, f.Fits)
    (hfs : ∀ f ∈ fs, lo ≤ f.off ∧ f.off + f.len ≤ lo + k) :
    KeepsBytes (Outside (a + lo) k) s (s.putFields a fs) :=
  KeepsBytes.foldl (fun f hf y => by
    obtain ⟨starts, fits⟩ := hfit f hf
    have := hfs f hf
    refine (keepsBytes_putNum y f.val (isMem_line ha (by omega)) (by omega)).mono fun b hb => ?_
    unfold Outside at hb ⊢
    omega) s

/-- What lies apart from the fields stored reads as before. -/
theorem num_putFields_apart (hs : Canon s) {fs : List RecField} {g : RecField} (hfit : ∀ f ∈ fs, f.Fits) (hg : ∀ f ∈ fs, f.Apart g) :
    (s.putFields a fs).num (a + g.off) g.len = s.num (a + g.off) g.len := by
  induction fs generalizing s with
  | nil => rfl
  | cons f fs ih =>
    have apart := hg f List.mem_cons_self
    obtain ⟨starts, fits⟩ := hfit f List.mem_cons_self
    unfold RecField.Apart at apart
    have rest := ih (hs.of_kept (State.putNum_kept s (a + f.off) f.val f.len)) (fun x hx => hfit x (List.mem_cons_of_mem _ hx))
      fun x hx => hg x (List.mem_cons_of_mem _ hx)
    exact rest.trans (num_putNum_ne hs f.val (isMem_line ha (by omega)) (by omega) (by omega))

/-- Each field stored in one line reads back, less what does not fit, where no later one shares a byte with it. -/
theorem num_putFields (hs : Canon s) (hj : s.inJournal a = false) {fs : List RecField} (hfit : ∀ f ∈ fs, f.Fits)
    (hd : fs.Pairwise fun f g => g.Apart f)
    {f : RecField} (hf : f ∈ fs) : (s.putFields a fs).num (a + f.off) f.len = f.val % 256 ^ f.len := by
  induction fs generalizing s with
  | nil => cases hf
  | cons g fs ih =>
    obtain ⟨hgs, hd⟩ := List.pairwise_cons.mp hd
    have stored : Kept 0x30 s (s.putNum (a + g.off) g.val g.len) := State.putNum_kept _ _ _ _
    have hs' := hs.of_kept stored
    have fit : ∀ x ∈ fs, x.Fits := fun x hx => hfit x (List.mem_cons_of_mem _ hx)
    rcases List.mem_cons.mp hf with rfl | hf
    · obtain ⟨starts, fits⟩ := hfit f List.mem_cons_self
      exact (num_putFields_apart ha hal hs' fit hgs).trans
        (num_putNum hs f.val (isMem_line ha (by omega)) (inJournal_line hj (by omega)) (by omega))
    · exact ih hs' (stored.inJournal_eq a ▸ hj) fit hd hf

end

end Sys2Proof.Machine
end

section
/-! ## The update of a scale record -/
set_option Elab.async false
namespace Sys2Proof.Machine

variable {P : Nat → Prop} {s t : State} {u : ScaleUpd} {rest : List ScaleUpd}

/-- What an access to the record at `a` counts and cancels before it is written (R293, R298, Table 5.11). -/
def State.openRecord (s : State) (a : Nat) : State := (((s.countMarks a 64).cancelScrub a 64).countInf a 64 false).countInf a 64 true

theorem openRecord_kept (s : State) (a : Nat) : Kept 0x2008 s (s.openRecord a) :=
  ((((Kept.refl _ s).step (State.countMarks_kept _ _ _)).step (State.cancelScrub_kept _ _ _)).step (State.countInf_kept _ _ _ _)).step
    (State.countInf_kept _ _ _ _)

theorem keepsBytes_openRecord (s : State) {a : Nat} (hal : a % 64 = 0) : KeepsBytes P s (s.openRecord a) :=
  (((keepsBytes_countMarks s a 64).trans (keepsBytes_cancelScrub _ (by omega))).trans (keepsBytes_countInf _ a 64 false)).trans
    (keepsBytes_countInf _ a 64 true)

theorem KeepsBytes.num_eq (h : KeepsBytes (fun _ => True) s t) (hs : Canon s) (a k : Nat) : t.num a k = s.num a k := by
  simp only [State.num, (h hs).2 _ trivial]

/-- The counted fields of the record of `u` with its counts added (Table 3.4, R109). -/
def State.scaleSums (s : State) (u : ScaleUpd) : List RecField :=
  [⟨8, s.num (u.addr + 8) 8 + u.elements, 8⟩, ⟨0x10, s.num (u.addr + 0x10) 8 + u.saturated, 8⟩,
   ⟨0x18, (fmaxMag (BitVec.ofNat 32 (s.num (u.addr + 0x18) 4)) u.maxabs).toNat, 4⟩,
   ⟨0x1C, (fmaxMag (BitVec.ofNat 32 (s.num (u.addr + 0x1C) 4)) u.outMaxabs).toNat, 4⟩, ⟨0x24, s.num (u.addr + 0x24) 4 + u.nans, 4⟩]

theorem scaleSums_fit (s : State) (u : ScaleUpd) : ∀ f ∈ s.scaleSums u, f.Fits ∧ 8 ≤ f.off ∧ f.off + f.len ≤ 8 + 0x20 := by
  simp [State.scaleSums, RecField.Fits]

theorem scaleSums_apart (s : State) (u : ScaleUpd) : (s.scaleSums u).Pairwise fun f g => g.Apart f := by
  simp [State.scaleSums, RecField.Apart]

/-- The evaluations that wait are `l`. -/
def State.setScaleEval (s : State) (l : List ScaleUpd) : State := { s with scaleEval := l }

theorem setScaleEval_kept (s : State) (l : List ScaleUpd) : Kept 0x8000 s (s.setScaleEval l) := (Kept.upd (Kept.refl _ s)).kept

/-- An update adds its counts to the record, and may have it evaluated (R109, R110). -/
theorem exists_addScale_eq (s : State) (u : ScaleUpd) :
    ∃ l, s.addScale u = ((s.openRecord u.addr).putFields u.addr (s.scaleSums u)).setScaleEval l := by
  unfold State.addScale
  extract_lets old done now sat m om nans want opened stored
  have fields : stored = (s.openRecord u.addr).putFields u.addr (s.scaleSums u) := rfl
  rw [← fields]
  clear_value stored
  split
  · exact ⟨_, rfl⟩
  · exact ⟨stored.scaleEval, rfl⟩

theorem keepsBytes_addScale (s : State) (ha : isMem u.addr = true) (hal : u.addr % 64 = 0) :
    KeepsBytes (Outside (u.addr + 8) 0x20) s (s.addScale u) := by
  obtain ⟨l, added⟩ := exists_addScale_eq s u
  rw [added]
  exact ((keepsBytes_openRecord s hal).trans
    (keepsBytes_putFields ha hal _ (fun f hf => (scaleSums_fit s u f hf).1) fun f hf => (scaleSums_fit s u f hf).2)).trans
    (setScaleEval_kept _ _).keepsBytes

/-- Each counted field of the record takes its sum, less what does not fit (R109, Table 3.4). -/
theorem addScale_num (hs : Canon s) (ha : isMem u.addr = true) (hal : u.addr % 64 = 0) (hj : s.inJournal u.addr = false) {f : RecField}
    (hf : f ∈ s.scaleSums u) : (s.addScale u).num (u.addr + f.off) f.len = f.val % 256 ^ f.len := by
  obtain ⟨l, added⟩ := exists_addScale_eq s u
  have opened := openRecord_kept s u.addr
  have stored : Canon ((s.openRecord u.addr).putFields u.addr (s.scaleSums u)) := (hs.of_kept opened).of_kept (putFields_kept _ _ _)
  rw [added, (setScaleEval_kept _ l).keepsBytes.num_eq stored]
  exact num_putFields ha hal (hs.of_kept opened) ((opened.inJournal_eq u.addr).trans hj) (fun f hf => (scaleSums_fit s u f hf).1)
    (scaleSums_apart s u) hf

/-- The updates of scale records that wait are `l`. -/
def State.setScaleUpd (s : State) (l : List ScaleUpd) : State := { s with scaleUpd := l }

theorem setScaleUpd_kept (s : State) (l : List ScaleUpd) : Kept 0x8000 s (s.setScaleUpd l) := (Kept.upd (Kept.refl _ s)).kept

theorem addScale_scaleUpd (s : State) (u : ScaleUpd) : (s.addScale u).scaleUpd = s.scaleUpd := by
  obtain ⟨l, added⟩ := exists_addScale_eq s u
  have stored : Kept 0x2038 s ((s.openRecord u.addr).putFields u.addr (s.scaleSums u)) :=
    ((Kept.refl _ s).step (openRecord_kept _ _)).step (putFields_kept _ _ _)
  rw [added]
  exact (Prod.mk.inj (stored.1 .scaleRecords (by decide))).1

theorem execScaleRecordUpdate_of_cons (h : s.scaleUpd = u :: rest) :
    execScaleRecordUpdate s = .next ((if s.mapped u.addr then (s.setScaleUpd rest).addScale u
      else (s.setScaleUpd rest).unmappedEvent (weightReq u.lathe) (some u.ctx) (s.glob u.addr) true).settleStage u.who) := by
  simp only [execScaleRecordUpdate, h]
  rfl

theorem execScaleRecordUpdate_keepsBytes (hu : s.scaleUpd = u :: rest) (ha : isMem u.addr = true) (hal : u.addr % 64 = 0)
    (h : execScaleRecordUpdate s = .next t) : KeepsBytes (Outside (u.addr + 8) 0x20) s t := by
  rw [execScaleRecordUpdate_of_cons hu] at h
  cases h
  refine KeepsBytes.trans (KeepsBytes.ite ?_ ?_) (State.settleStage_kept _ _).keepsBytes
  · exact (setScaleUpd_kept s rest).keepsBytes.trans (keepsBytes_addScale _ ha hal)
  · exact (setScaleUpd_kept s rest).keepsBytes.trans (keepsBytes_unmappedEvent _ _ _ _ _)

end Sys2Proof.Machine
end

section
/-! ## The obligation on the bytes that stores leave -/
set_option Elab.async false
namespace Sys2Proof.Machine

/-- Settles O12: writes and reads of lines, scale-record updates, the scrub and the correction count. -/
theorem memoryFrames : Obligations.MemoryFrames := by
  refine ⟨?write, ?infeed, ?scale, ?read, ?scrub, ?rate⟩
  case write =>
    intro a data p d r req s t hs h
    refine ⟨(execHbmLineWrite_keepsBytes h (fun ha hl => keepsBytes_hbmWrite s ha hl p d r) hs).2, fun hd => ?_⟩
    subst hd
    exact (execHbmLineWrite_keepsBytes h (fun ha hl => keepsBytes_hbmWrite_nil s ha hl p r) hs).2
  case infeed =>
    intro a data p req s t hs h
    exact (execInfeedLineWrite_keepsBytes h hs).2
  case scale =>
    intro u rest s t hs hu ha hal h
    exact (execScaleRecordUpdate_keepsBytes hu ha hal h hs).2
  case read =>
    intro a d r src req ctx s t hs h
    refine ⟨(execHbmLineRead_keepsBytes h (fun ha => (lineRead_spec s (by omega) (Nat.mul_mod_left _ _) d r _ _).1) hs).2, fun hd b => ?_⟩
    subst hd
    exact (execHbmLineRead_keepsBytes (P := fun _ => True) h (fun ha => keepsBytes_lineRead_nil s (by omega) r _ _) hs).2 b trivial
  case scrub =>
    intro c d r s t hs hwb m u at_ mem h b hb hout
    have line {p : Nat → Bool} {o : Nat} (hp : at_.all p = true) (ho : (s.scrubBack c).scrubNext c = some o) :
        p (0xC00000000 * (c.val / 32) + o) = true := by
      have found : at_ = some (0xC00000000 * (c.val / 32) + o) := congrArg (Option.map (0xC00000000 * (c.val / 32) + ·)) ho
      rw [found] at hp
      exact hp
    refine (execScrubRead_keepsBytes hwb (fun o ho => line mem ho) h hs).2 b ⟨hb, fun o ho => ?_⟩
    simpa using line hout ho
  case rate =>
    intro c s t h b
    obtain ⟨u, hu, kept⟩ := execCorrectionRate_kept c s
    cases hu.symm.trans h
    exact kept.byte_eq b

end Sys2Proof.Machine
end

section
/-! ## DRAIN, the start and the end of a drain, and the seed -/
set_option Elab.async false
namespace Sys2Proof.Machine

variable {s t : State} {x : Prog} {o : DrainOp}

theorem modGroup_group (hs : Canon s) (n g : Nat) (f : Group → Group) : (s.modGroup n g f).group n g = f (s.group n g) := setGroup_group hs n g _

/-! ### DRAIN -/

section
variable {b : Fin 8} {p : Nat} {k : Fin 32} {parity : Option Nat} (hx : s.prog b p = some x) (ho : (s.stage b p k).bind Stage.drainOp = some o)
  (hstart : s.mayStart b p k = true)
include hx ho hstart

/-- A group that may be drained waits for its DRAIN (R148, R149). -/
theorem execDrain_of_open (hform : o.form ≠ 10) (hruns : s.runsBegun b p k x o.group = true) (hrec : s.badRecord o = none)
    (hacc : s.accMembers b = [b.val]) (hst : (s.group b o.group).st = .open) (hdrain : (s.group b o.group).drain = none)
    (hctx : (s.group b o.group).ctx = x.ctx) :
    execDrain b p k parity s = .next ((s.setStage b p k .running).modGroup b o.group fun g =>
      { g with drain := some ⟨b, p, k⟩, owner := (b.val, p), st := if g.st == .open && g.held.isNone then .closing else g.st }) := by
  simp [execDrain, hx, ho, hstart, hform, hruns, hrec, hacc, hst, hdrain, hctx]

/-- An update runs on every member once the members' finishers are idle (R180, R202). -/
theorem execDrain_update (hform : o.form = 10) (hrec : s.badRecord o = none) (hidle : ((s.members b).all fun n => (s.lathe n).finOp = 0) = true) :
    execDrain b p k parity s = .next ((s.members b).foldl (fun (acc : State) n =>
      acc.runUpdate n (b, p, k) x.ctx o (o.dst + (n - b) * o.mstride) parity) (s.setStage b p k .running)) := by
  simp [execDrain, hx, ho, hstart, hform, hrec, hidle]

/-- A refused record ends the program (R108). -/
theorem execDrain_badRecord {a why : Nat} (hready : o.form = 10 ∨ s.runsBegun b p k x o.group = true) (hrec : s.badRecord o = some (a, why)) :
    execDrain b p k parity s = .next (((s.readBad b x.ctx o a).post 0x303 cFAULT (unitOf 1 b) x.ctx.toNat
      [(0x10, b), (0x11, why), (0x14, a)]).faultAbort b p k 9) := by
  have ready : (o.form ≠ 10 && !s.runsBegun b p k x o.group) = false := by
    rcases hready with h | h <;> simp [h]
  simp only [execDrain, hx, ho, hstart, ready, hrec, Bool.not_true, Bool.false_eq_true, if_false]

end

/-! ### DRAIN_START -/

section
variable {n g : Fin 8} {d : DrainRef} {parity : Option (Nat × Bool)} (hd : (s.group n g).drain = some d)
  (ho : (s.stage d.eng d.prog d.stage).bind Stage.drainOp = some o)
include hd ho

/-- A CLOSING group with nothing in flight is drained, its strokes marked as drained; a merge into rows of another device first asks for them
(R164, R165, R170). -/
theorem execDrainStart_of_closing (hst : (s.group n g).st = .closing) (hflight : (s.group n g).inflight = 0)
    (hverdicts : o.early = true ∨ (s.group n g).verdicts = 0) (hfin : (s.lathe n).finOp = 0) (hfirst : s.firstDrain n g d = true) :
    let u := (s.modGroup n g fun x => { x with st := .draining }).modLathe n fun l => { l with finOp := 1, finGroup := g }
    let mark (y : Stroke) : Stroke := if y.group = g.val && y.ggen = (s.group n g).gen then
      { y with drained := (u.drainRange n g).map fun r => (r.1, r.2.1), early := o.early } else y
    let w := u.modLathe n fun l => { l with
      strokes := l.strokes.map mark, journal := l.journal.map mark, past := l.past.map mark, arbs := l.arbs.map fun a => { a with stroke := mark a.stroke } }
    let dst := o.dst + (n.val - d.eng) * o.mstride
    execDrainStart n g parity s = .next (if w.oldRows n o dst (s.group n g).rows = [] then w.runDrain n d o (s.group n g).ctx parity
      else w.askOld n (d.eng, d.prog, d.stage) (s.group n g).ctx dst (w.oldRows n o dst (s.group n g).rows)) := by
  intro u mark w dst
  have ready : ((s.group n g).st == .closing && (s.group n g).inflight = 0 && (o.early || (s.group n g).verdicts = 0) && (s.lathe n).finOp = 0 &&
      s.firstDrain n g d) = true := by
    simpa [hst, hflight, hfin, hfirst] using hverdicts
  simp only [execDrainStart, hd, ho, ready, if_true]
  split
  next h => rw [if_pos h]
  next h => rw [if_neg h]

/-- The drain goes on once the rows that another device holds have come (R170). -/
theorem execDrainStart_of_answered {w : OldWait} (hst : (s.group n g).st = .draining) (hfin : (s.lathe n).finOp = 1)
    (hgroup : (s.lathe n).finGroup = g.val) (hold : (s.lathe n).old = some w) (hleft : w.left = 0) :
    execDrainStart n g parity s = .next ((s.runDrain n d o (s.group n g).ctx parity).modLathe n fun l => { l with old := none }) := by
  simp [execDrainStart, hd, ho, hst, hfin, hgroup, hold, hleft]

end

/-! ### DRAIN_END -/

/-- The last row of group `g` of lathe `n` is read: the group is FREE, the finisher idle, and the group's updates of scale records wait
(R109, R166). -/
def State.freeDrained (s : State) (n : Fin 8) (g : Nat) : State :=
  let x := s.group n g
  (((s.setGroup n g { gen := x.gen }).modLathe n fun l => { l with finOp := 0, seen := sdrop l.seen x.rowBase x.rows }).setScaleUpd
    (s.scaleUpd ++ x.upd)).bump (FIN_STAT_ROWS n) x.rows

theorem settleStage_none (s : State) : s.settleStage none = s := rfl

/-- A drain that does not stall ends, and its stage may complete (R109, R166, R167). -/
theorem execDrainEnd_of_draining {n : Fin 8} (hfin : (s.lathe n).finOp = 1) (hst : (s.group n (s.lathe n).finGroup).st = .draining)
    (hstall : s.finStall n = 0) :
    execDrainEnd n s = .next ((s.freeDrained n (s.lathe n).finGroup).settleStage
      ((s.group n (s.lathe n).finGroup).drain.map fun d => (d.eng, d.prog, d.stage))) := by
  simp only [execDrainEnd, hfin, hst, hstall, beq_self_eq_true, decide_true, Bool.and_self, if_true]
  cases (s.group n (s.lathe n).finGroup).drain <;> rfl

/-- An update ends the same way. -/
theorem execDrainEnd_of_update {n : Fin 8} {who : Nat × Nat × Nat} {upd : List ScaleUpd} (hfin : (s.lathe n).finOp = 3)
    (hupd : (s.lathe n).upd = some (who, upd)) :
    execDrainEnd n s = .next (({ s.modLathe n fun l => { l with finOp := 0, upd := none } with scaleUpd := s.scaleUpd ++ upd } : State).settleStage
      (some who)) := by
  simp only [execDrainEnd, hfin, hupd, show ¬ (3 : Nat) = 1 by decide, decide_false, Bool.false_and, Bool.false_eq_true, if_false, if_true]
  rfl

theorem Kept.group_eq {m : Nat} (h : Kept m s t) (n g : Nat) (hm : m.testBit Part.groups.no = false := by decide) : t.group n g = s.group n g := by
  have groups : t.groups = s.groups := h.1 .groups hm
  simp only [State.group, groups]

theorem freeDrained_group (hs : Canon s) (n : Fin 8) (g : Nat) : (s.freeDrained n g).group n g = { gen := (s.group n g).gen } :=
  ((State.bump_kept _ _ _).group_eq n g).trans (setGroup_group hs n g _)

theorem freeDrained_lathe (hs : Canon s) (n : Fin 8) (g : Nat) :
    (s.freeDrained n g).lathe n = { s.lathe n with finOp := 0, seen := sdrop (s.lathe n).seen (s.group n g).rowBase (s.group n g).rows } :=
  ((bump_lathe _ _ _ n).trans ((setScaleUpd_kept _ _).lathe_eq n)).trans (modLathe_lathe (hs.of_kept (State.setGroup_kept _ _ _ _)) n _)

theorem freeDrained_scaleUpd (s : State) (n : Fin 8) (g : Nat) : (s.freeDrained n g).scaleUpd = s.scaleUpd ++ (s.group n g).upd :=
  (Prod.mk.inj ((State.bump_kept _ _ _).1 .scaleRecords (by decide))).1

/-! ### The seed -/

theorem execSeedWrite_on {n : Fin 8} {v : Word} (h : s.blockOff .fin n = false) :
    execSeedWrite n v s = .next ((s.wakeLink.wr (FIN_SR_SEED n) v).modLathe n fun l => { l with seed := v, gen := [] }) := atBlock_of_on _ h

end Sys2Proof.Machine
end

section
/-! ## The obligation on the finisher -/
set_option Elab.async false
namespace Sys2Proof.Machine

variable {s : State} {u : ScaleUpd} {rest : List ScaleUpd}

theorem execScaleRecordEvaluate_of_cons (h : s.scaleEval = u :: rest) :
    execScaleRecordEvaluate s = .next ((({ s with scaleEval := rest } : State).judgeScale u).settleStage u.who) := by
  simp only [execScaleRecordEvaluate, h]

/-- An update of a mapped record is taken once, and its sums read back (R109). -/
theorem scaleRecordUpdate_of_mapped (hs : Canon s) (hu : s.scaleUpd = u :: rest) (hmap : s.mapped u.addr = true) (ha : isMem u.addr = true)
    (hj : s.inJournal u.addr = false) (hal : u.addr % 64 = 0) :
    Completes .scaleRecordUpdate s fun t => t.scaleUpd = rest ∧ ∀ f ∈ s.scaleSums u, t.num (u.addr + f.off) f.len = f.val % 256 ^ f.len := by
  have taken := setScaleUpd_kept s rest
  have hs' : Canon (s.setScaleUpd rest) := hs.of_kept taken
  have added : Canon ((s.setScaleUpd rest).addScale u) := hs'.of_kept (State.addScale_kept _ _)
  have settled := State.settleStage_kept ((s.setScaleUpd rest).addScale u) u.who
  have ends := execScaleRecordUpdate_of_cons hu
  rw [if_pos hmap] at ends
  refine ⟨_, ends, ?_, fun f hf => ?_⟩
  · exact ((Prod.mk.inj (settled.1 .scaleRecords (by decide))).1).trans (addScale_scaleUpd _ u)
  · rw [settled.keepsBytes.num_eq added]
    exact addScale_num hs' ha hal hj hf

/-- Settles O33: DRAIN, its start and its end, the seed, and the update and evaluation of a scale record. -/
theorem finisher : Obligations.Finisher := by
  refine ⟨?drain, ?update, ?bad, ?start, ?answered, ?freed, ?updated, ?ended, ?seed, ?sums, ?unmapped, ?evaluated⟩
  case drain =>
    intro b p k x o parity s hs hx ho hstart hform hruns hrec hacc hst hdrain hctx hheld
    have running := State.setStage_kept s b p k .running
    refine ⟨_, execDrain_of_open hx ho hstart hform hruns hrec hacc hst hdrain hctx, ?_⟩
    dsimp only
    rw [modGroup_group (hs.of_kept running), running.group_eq]
    simp only [hst, hheld, beq_self_eq_true, Option.isNone_none, Bool.and_self, if_true]
  case update =>
    intro b p k x o parity s hx ho hstart hform hrec hidle
    exact execDrain_update hx ho hstart hform hrec hidle
  case bad =>
    intro b p k x o a why parity s hx ho hstart hready hrec
    exact execDrain_badRecord hx ho hstart hready hrec
  case start =>
    intro n g parity d o s _ hd ho hst hflight hverdicts hfin hfirst
    exact execDrainStart_of_closing hd ho hst hflight hverdicts hfin hfirst
  case answered =>
    intro n g parity d o w s hd ho hst hfin hgroup hold hleft
    exact execDrainStart_of_answered hd ho hst hfin hgroup hold hleft
  case freed =>
    intro n s hs hfin hst hstall hdrain
    have ends := execDrainEnd_of_draining hfin hst hstall
    rw [hdrain, Option.map_none, settleStage_none] at ends
    refine ⟨_, ends, freeDrained_group hs n _, ?_, ?_, freeDrained_scaleUpd s n _⟩ <;> rw [freeDrained_lathe hs]
  case updated =>
    intro n who upd s hfin hupd
    exact execDrainEnd_of_update hfin hupd
  case ended =>
    intro n d s hfin hst hstall hdrain
    have ends := execDrainEnd_of_draining hfin hst hstall
    rw [hdrain] at ends
    exact ends
  case seed =>
    intro n v s hs hon
    have awake := State.wakeLink_kept s
    have hw : Canon s.wakeLink := hs.of_kept awake
    have written := State.wr_kept s.wakeLink (FIN_SR_SEED n) v
    refine ⟨_, execSeedWrite_on hon, rd_wr_self hw _ v, ?_⟩
    rw [modLathe_lathe (hw.of_kept written), written.lathe_eq, awake.lathe_eq]
  case sums =>
    intro u rest s hs hu hmap ha hj hal
    obtain ⟨t, ends, taken, sums⟩ := scaleRecordUpdate_of_mapped hs hu hmap ha hj hal
    have whole (w : Word) : w.toNat % 256 ^ 4 = w.toNat := Nat.mod_eq_of_lt w.isLt
    simp only [State.scaleSums, List.forall_mem_cons, whole] at sums
    obtain ⟨elements, saturated, maxabs, outMaxabs, nans, _⟩ := sums
    exact ⟨t, ends, taken, elements, saturated, maxabs, outMaxabs, nans⟩
  case unmapped =>
    intro u rest s hu hmap
    have ends := execScaleRecordUpdate_of_cons hu
    rw [if_neg (by rw [hmap]; exact Bool.false_ne_true)] at ends
    exact ends
  case evaluated =>
    intro u rest s hu
    exact execScaleRecordEvaluate_of_cons hu

end Sys2Proof.Machine
end

section
/-! ## The mode of the accumulator, and flags of groups and tiles read back -/
set_option Elab.async false
namespace Sys2Proof.Machine

variable {s : State} {n g : Nat}

/-- A write of MODE is taken while every group of the lathe is FREE (R139). -/
theorem execAccModeWrite_on {n : Fin 8} {v : Bool} (h : s.blockOff .acc n = false) :
    execAccModeWrite n v s =
      .next (if ∀ g : Nat, g < 8 → (s.group n g).st = .free then s.wakeLink.wb (ACC_CTRL n) ACC_CTRL_MODE v else s.wakeLink) := by
  refine (atBlock_of_on _ h).trans ?_
  simp only [(State.wakeLink_kept s).group_eq, List.all_eq_true, List.mem_range, beq_iff_eq]

theorem flag_bump_ne (hs : Canon s) {o a : Nat} (f : Fld) (k : Nat) (h : a ≠ o) (h4 : a ≠ o + 4) : (s.bump o k).flag a f = s.flag a f := by
  unfold State.flag State.rf; rw [bump_rd_ne hs k h h4]

/-- The flag of a group is set in the tile of its first row (R155). -/
theorem groupFlag_flag_self (hs : Canon s) (n g : Nat) {f : Fld} (h : f.lo + f.w ≤ 32) (hw : 0 < f.w) :
    (s.groupFlag n g f).flag (ACC_TILE n (tileOf (s.group n g).rowBase)) f = true := flag_wb_self hs _ f true h hw

/-- Each lathe has its own record of each group. -/
theorem setGroup_group_ne (hs : Canon s) {m h : Nat} (x : Group) (hne : m * 8 + h ≠ n * 8 + g) : (s.setGroup n g x).group m h = s.group m h :=
  sget_sput_ne (dflt := fun _ => _) hs.groups hne

end Sys2Proof.Machine
end

section
/-! ## The obligation on the mode of the accumulator -/
set_option Elab.async false
namespace Sys2Proof.Machine

/-- Settles O19: a write of MODE is taken while all eight groups of the lathe are FREE, and ignored otherwise. -/
theorem accumulatorModeWrites : Obligations.AccumulatorModeWrites := by
  refine ⟨?taken, ?ignored⟩
  case taken =>
    intro n v s hs hon hfree
    have hw : Canon s.wakeLink := hs.of_kept (State.wakeLink_kept s)
    exact ⟨_, (execAccModeWrite_on hon).trans (by rw [if_pos hfree]), flag_wb_self hw _ ACC_CTRL_MODE v (by decide) (by decide)⟩
  case ignored =>
    intro n v g s hon hg hst
    exact (execAccModeWrite_on hon).trans (by rw [if_neg fun hfree => hst (hfree g hg)])

end Sys2Proof.Machine
end

section
/-! ## Span moves and the freeing of an INVALID group -/
set_option Elab.async false
namespace Sys2Proof.Machine

variable {s : State}

/-! ### The rows of a span move -/

/-- A row moves in two parts: it poisons its group where its span entry holds marks, and what follows touches no group (R157, R160). -/
theorem exists_moveRow_kept (s : State) (n g r : Nat) :
    ∃ u, (u = s ∨ u = s.poisonGroup n g) ∧ Kept 0x20000020038 u (s.moveRow n g r) := by
  unfold State.moveRow
  dsimp only
  generalize ((s.group n g).extended && s.anyMark (s.spanAddr n r) 2048) = bad
  refine ⟨if bad = true then s.poisonGroup n g else s, ?marked, ?kept⟩
  case marked =>
    cases bad
    · exact .inl rfl
    · exact .inr rfl
  case kept =>
    refine (((Kept.step ?used (State.setBytes_kept _ _ _)).foldl fun _ _ hy => hy.step (State.setMark_kept _ _ _)).step
      (State.countInf_kept _ _ _ _)).step (State.bump_kept _ _ _)
    cases bad
    · exact Kept.refl _ s
    · exact (Kept.refl _ _).step (State.usePoison_kept _ _ _ _ _ _)

/-- The move of a row leaves of its group all but the poison mark (R160). -/
theorem exists_moveRow_group (hs : Canon s) (n g r : Nat) : ∃ p, (s.moveRow n g r).group n g = { s.group n g with poison := p } := by
  obtain ⟨u, hu, kept⟩ := exists_moveRow_kept s n g r
  rw [kept.group_eq]
  rcases hu with rfl | rfl
  · exact ⟨(u.group n g).poison, rfl⟩
  · exact ⟨true, by rw [State.poisonGroup, (State.groupFlag_kept _ _ _ _).group_eq, modGroup_group hs]⟩

/-- The finisher idle and every row of group `g` of lathe `n` in its span entry (R157). -/
def State.rowsMoved (s : State) (n g : Nat) : State :=
  (List.range (s.group n g).rows).foldl (fun acc i => acc.moveRow n g ((s.group n g).rowBase + i)) (s.modLathe n fun l => { l with finOp := 0 })

theorem exists_rowsMoved_group (hs : Canon s) (n g : Nat) :
    Canon (s.rowsMoved n g) ∧ ∃ p, (s.rowsMoved n g).group n g = { s.group n g with poison := p } := by
  have idle := State.modLathe_kept s n fun l => { l with finOp := 0 }
  refine foldl_keeps (fun u => Canon u ∧ ∃ p, u.group n g = { s.group n g with poison := p })
    ⟨hs.of_kept idle, (s.group n g).poison, idle.group_eq n g⟩ ?_
  rintro u i ⟨hu, p, hp⟩
  obtain ⟨q, hq⟩ := exists_moveRow_group hu n g ((s.group n g).rowBase + i)
  exact ⟨hu.of_kept (State.moveRow_kept _ _ _ _), q, by rw [hq, hp]⟩

/-! ### The end of a span move -/

/-- The group whose span has moved: open to its next span, or CLOSING where a DRAIN waits and no stroke is held (R158, R159). -/
def Group.spanOpened (x : Group) : Group :=
  { x with
    st := if x.held.isNone && x.drain.isSome then .closing else .open
    moving := false
    extended := true
    count := 0
    spans := satTo 65535 (x.spans + 1) }

/-- The span of group `g` of lathe `n` has moved: its rows count as unwritten and the group goes on (R158, R159). -/
def State.spanMoved (s : State) (n g : Nat) : State :=
  ((s.rowsMoved n g).modLathe n fun l => { l with seen := sdrop l.seen (s.group n g).rowBase (s.group n g).rows }).modGroup n g Group.spanOpened

theorem spanMoved_canon (hs : Canon s) (n g : Nat) : Canon (s.spanMoved n g) :=
  ((exists_rowsMoved_group hs n g).1.of_kept (State.modLathe_kept _ _ _)).of_kept (State.modGroup_kept _ _ _ _)

theorem exists_spanMoved_group (hs : Canon s) (n g : Nat) :
    ∃ p, (s.spanMoved n g).group n g = { (s.group n g).spanOpened with poison := p } := by
  obtain ⟨hr, p, hp⟩ := exists_rowsMoved_group hs n g
  have seen := State.modLathe_kept (s.rowsMoved n g) n fun l => { l with seen := sdrop l.seen (s.group n g).rowBase (s.group n g).rows }
  exact ⟨p, by rw [State.spanMoved, modGroup_group (hr.of_kept seen), seen.group_eq, hp]; rfl⟩

section
variable {n g : Fin 8}

/-- A move starts once nothing of the group is in flight, its span entries are free and so is the finisher (R156, R162). -/
theorem execSpanMoveStart_of_ready (hst : (s.group n g).st = .spanMove) (hmoving : (s.group n g).moving = false)
    (hflight : (s.group n g).inflight = 0) (hverdicts : (s.group n g).verdicts = 0) (hfin : (s.lathe n).finOp = 0)
    (hheld : s.spanHeld n g = false) :
    execSpanMoveStart n g s =
      .next ((s.modGroup n g fun x => { x with moving := true }).modLathe n fun l => { l with finOp := 2, finGroup := g }) := by
  simp [execSpanMoveStart, hst, hmoving, hflight, hverdicts, hfin, hheld]

/-- The end of a move marks the tile of the group as extended, and is counted (R157–R160). -/
theorem execSpanMoveEnd_of_spanMove (hmoving : (s.group n g).moving = true) (hst : (s.group n g).st = .spanMove) :
    execSpanMoveEnd n g s = .next (((s.spanMoved n g).groupFlag n g ACC_TILE_EXTENDED).bump (ACC_STAT_SPAN_MOVES n) 1) := by
  simp only [execSpanMoveEnd, hmoving, hst, bne_self_eq_false, Bool.not_true, Bool.false_eq_true, if_false]
  rfl

/-- The move of a group that left SPAN_MOVE only ends (R152). -/
theorem execSpanMoveEnd_of_left (hmoving : (s.group n g).moving = true) (hst : (s.group n g).st ≠ .spanMove) :
    execSpanMoveEnd n g s =
      .next ((s.modLathe n fun l => { l with finOp := 0 }).modGroup n g fun x => { x with moving := false }) := by
  simp [execSpanMoveEnd, hmoving, hst]

/-- An INVALID group that nothing holds any more becomes FREE, its rows unwritten (R145, R152). -/
theorem execInvalidGroupFree_of_quiet (hst : (s.group n g).st = .invalid) (hflight : (s.group n g).inflight = 0)
    (hmoving : (s.group n g).moving = false) :
    execInvalidGroupFree n g s = .next ((s.setGroup n g { gen := (s.group n g).gen }).modLathe n
      fun l => { l with seen := sdrop l.seen (s.group n g).rowBase (s.group n g).rows }) := by
  simp [execInvalidGroupFree, hst, hflight, hmoving]

/-- What the end of a move leaves: the group opened or closing, and EXTENDED set in its tile (R157–R159). -/
theorem spanMoveEnd_of_spanMove (hs : Canon s) (hmoving : (s.group n g).moving = true) (hst : (s.group n g).st = .spanMove)
    (hbase : (s.group n g).rowBase < 8192) :
    Completes (.spanMoveEnd n g) s fun t => (∃ p, t.group n g = { (s.group n g).spanOpened with poison := p }) ∧
      t.flag (ACC_TILE n (tileOf (s.group n g).rowBase)) ACC_TILE_EXTENDED = true := by
  obtain ⟨p, hp⟩ := exists_spanMoved_group hs n g
  have hm : Canon (s.spanMoved n g) := spanMoved_canon hs n g
  have flagged := State.groupFlag_kept (s.spanMoved n g) n g ACC_TILE_EXTENDED
  have isSet := groupFlag_flag_self hm n g (f := ACC_TILE_EXTENDED) (by decide) (by decide)
  have base : ((s.spanMoved n g).group n g).rowBase = (s.group n g).rowBase := by rw [hp]; rfl
  rw [base] at isSet
  have tile : tileOf (s.group n g).rowBase < 2 := Nat.div_lt_of_lt_mul hbase
  refine ⟨_, execSpanMoveEnd_of_spanMove hmoving hst, ⟨p, ?_⟩, ?_⟩
  · rw [(State.bump_kept _ _ _).group_eq, flagged.group_eq, hp]
  · rw [flag_bump_ne (hm.of_kept flagged) _ _ (by unfold ACC_TILE ACC_STAT_SPAN_MOVES; omega) (by unfold ACC_TILE ACC_STAT_SPAN_MOVES; omega), isSet]

end

end Sys2Proof.Machine
end

section
/-! ## The obligation on span moves and INVALID groups -/
set_option Elab.async false
namespace Sys2Proof.Machine

/-- Settles O32: the start and the end of a span move, the end of one whose group left SPAN_MOVE, and the freeing of an INVALID group. -/
theorem spanMovesAndInvalidGroups : Obligations.SpanMovesAndInvalidGroups := by
  refine ⟨?start, ?moved, ?left, ?freed⟩
  case start =>
    intro n g s hs hst hmoving hflight hverdicts hfin hheld
    have moved := State.modGroup_kept s n g fun x => { x with moving := true }
    refine ⟨_, execSpanMoveStart_of_ready hst hmoving hflight hverdicts hfin hheld, ?_, ?_⟩
    · rw [(State.modLathe_kept _ _ _).group_eq, modGroup_group hs]
    · rw [modLathe_lathe (hs.of_kept moved), moved.lathe_eq]
  case moved =>
    intro n g s hs hmoving hst _ hbase
    obtain ⟨t, ends, ⟨p, hp⟩, flag⟩ := spanMoveEnd_of_spanMove hs hmoving hst hbase
    refine ⟨t, ends, ?_⟩
    simp only [hp]
    refine ⟨?_, rfl, rfl, rfl, rfl, flag⟩
    simp [Group.spanOpened, Option.isSome_iff_ne_none]
  case left =>
    intro n g s hs hmoving hst
    have idle := State.modLathe_kept s n fun l => { l with finOp := 0 }
    refine ⟨_, execSpanMoveEnd_of_left hmoving hst, ?_, ?_, rfl⟩
    · rw [modGroup_group (hs.of_kept idle), idle.group_eq]
    · rw [(State.modGroup_kept _ _ _ _).lathe_eq, modLathe_lathe hs]
  case freed =>
    intro n g s hs hst hflight hmoving
    refine ⟨_, execInvalidGroupFree_of_quiet hst hflight hmoving, ?_, fun m h hne => ?_⟩
    · rw [(State.modLathe_kept _ _ _).group_eq, setGroup_group hs]
    · rw [(State.modLathe_kept _ _ _).group_eq, setGroup_group_ne hs _ hne]

end Sys2Proof.Machine
end

section
/-! ## Writes of semaphores -/
set_option Elab.async false
namespace Sys2Proof.Machine

variable {s : State} {i : Fin 8192} {v : Word}

theorem execSemValWrite_on (hon : s.blockOff .sem 0 = false) :
    execSemValWrite i v s = .next ((s.wakeLink.wr (SEM_VAL i) v).testWaiters i) := atBlock_of_on _ hon

theorem execSemAddWrite_on (hon : s.blockOff .sem 0 = false) :
    execSemAddWrite i v s = .next (s.wakeLink.addSem i v.toNat s.wakeLink.devId 0xFFFF).2 := atBlock_of_on _ hon

/-- A sum that the semaphore holds is its value (R211). -/
theorem addSem_of_fits {j dev ctx : Nat} (h : (s.rd (SEM_VAL j)).toNat + v.toNat < 2 ^ 32) :
    s.addSem j v.toNat dev ctx = (false, (s.wr (SEM_VAL j) (s.rd (SEM_VAL j) + v)).testWaiters j) := by
  have below : ¬ (s.rd (SEM_VAL j)).toNat + v.toNat > 2 ^ 32 - 1 := by omega
  simp only [State.addSem, satTo, if_neg below, decide_eq_false below, Bool.false_eq_true, if_false, BitVec.ofNat_add, BitVec.ofNat_toNat,
    BitVec.setWidth_eq]

/-- A sum past 2^32 − 1 leaves 2^32 − 1 and the event (R211). -/
theorem addSem_of_passed {j dev ctx : Nat} (h : 2 ^ 32 ≤ (s.rd (SEM_VAL j)).toNat + v.toNat) :
    s.addSem j v.toNat dev ctx = (true, ((s.wr (SEM_VAL j) 0xFFFFFFFF).semOverflow j dev ctx).testWaiters j) := by
  have past : (s.rd (SEM_VAL j)).toNat + v.toNat > 2 ^ 32 - 1 := by omega
  simp only [State.addSem, satTo, if_pos past, decide_eq_true past, if_true]
  rfl

/-- Settles O20: a write of SEM_VAL, and one of SEM_ADD whose sum is held or goes past 2^32 − 1. -/
theorem semaphoreWrites : Obligations.SemaphoreWrites := by
  refine ⟨?replace, ?add, ?overflow⟩
  case replace =>
    intro i v s hon
    exact execSemValWrite_on hon
  case add =>
    intro i v s hon h
    exact (execSemAddWrite_on hon).trans (by rw [addSem_of_fits h])
  case overflow =>
    intro i v s hon h
    exact (execSemAddWrite_on hon).trans (by rw [addSem_of_passed h])

end Sys2Proof.Machine
end

section
/-! ## Queues, acceptance, start, commit, abort and timeout of programs -/
set_option Elab.async false
namespace Sys2Proof.Machine

variable {s : State} {b n i : Fin 8} {p : Nat} {v : Word} {x : Prog}

/-! ### Queues -/

/-- An engine that takes programs reads the entry that its queues put first (R196). -/
theorem execProgramAccept_of_next {m j : Nat} (hgang : s.gang b = b.val) (hroom : (s.engine b).progs.length < 1024)
    (hon : (s.lathe b).svc ≠ .off) (hnext : s.nextQueue b = some (m, j)) : execProgramAccept b s = .next (s.acceptFrom b m j) := by
  have takes : ¬ (s.gang b ≠ b.val || (s.engine b).progs.length ≥ 1024 || (s.lathe b).svc == .off) = true := by
    simp [hgang, hroom, hon]
  simp only [execProgramAccept, if_neg takes, hnext]

/-- Queue `i` of lathe `n` has a size and an alignment of R193, in memory that answers. -/
def State.queueOk (s : State) (n i : Nat) : Bool :=
  let base := s.rf64 (STR_SQ_BASE n i) STR_SQ_BASE_BASE
  let log := s.rf (STR_SQ_CFG n i) STR_SQ_CFG_LOG2_SIZE
  decide (6 ≤ log) && decide (log ≤ 16) && base % (8 * 2 ^ log) == 0 && match region base with | .hbm _ _ | .aperture _ _ => s.mapped base | _ => false

theorem execSqEnable_on (hon : s.blockOff .str n = false) :
    execSqEnable n i v s = .next (let u := s.wakeLink.wr (STR_SQ_CFG n i) (v &&& 0x31F)
      if u.flag (STR_SQ_CFG n i) STR_SQ_CFG_EN && !u.queueOk n i then (u.wb (STR_SQ_CFG n i) STR_SQ_CFG_EN false).queueError n i 1 else u) :=
  atBlock_of_on _ hon

theorem queueOk_of_placed {n i : Nat} (hlo : 6 ≤ s.rf (STR_SQ_CFG n i) STR_SQ_CFG_LOG2_SIZE)
    (hhi : s.rf (STR_SQ_CFG n i) STR_SQ_CFG_LOG2_SIZE ≤ 16)
    (halign : s.rf64 (STR_SQ_BASE n i) STR_SQ_BASE_BASE % (8 * 2 ^ s.rf (STR_SQ_CFG n i) STR_SQ_CFG_LOG2_SIZE) = 0)
    (hplaced : (match region (s.rf64 (STR_SQ_BASE n i) STR_SQ_BASE_BASE) with
      | .hbm _ _ | .aperture _ _ => s.mapped (s.rf64 (STR_SQ_BASE n i) STR_SQ_BASE_BASE) | _ => false) = true) :
    s.queueOk n i = true := by
  simp only [State.queueOk, hlo, hhi, halign, hplaced, decide_true, beq_self_eq_true, Bool.and_self]

theorem queueOk_of_misplaced {n i : Nat} (h : s.rf (STR_SQ_CFG n i) STR_SQ_CFG_LOG2_SIZE < 6 ∨ 16 < s.rf (STR_SQ_CFG n i) STR_SQ_CFG_LOG2_SIZE ∨
      s.rf64 (STR_SQ_BASE n i) STR_SQ_BASE_BASE % (8 * 2 ^ s.rf (STR_SQ_CFG n i) STR_SQ_CFG_LOG2_SIZE) ≠ 0) :
    s.queueOk n i = false := by
  rcases h with h | h | h
  · simp [State.queueOk, Nat.not_le.mpr h]
  · simp [State.queueOk, Nat.not_le.mpr h]
  · simp [State.queueOk, h]

/-- The tail moves, unless the value written is no entry of the ring (R194). -/
theorem execSqDoorbell_on (hon : s.blockOff .str n = false) :
    execSqDoorbell n i v s = .next (if v.toNat < s.wakeLink.sqSize n i then s.wakeLink.wf (STR_SQ_TAIL n i) ⟨0, 16⟩ v.toNat
      else s.wakeLink.queueError n i 2) := atBlock_of_on _ hon

/-! ### Programs -/

theorem modProg_progs (hs : Canon s) (e q : Nat) (f : Prog → Prog) :
    ((s.modProg e q f).engine e).progs = (s.engine e).progs.map fun y => if y.no = q then f y else y :=
  congrArg Engine.progs (setEngine_engine hs e _)

/-- The first accepted program starts while fewer than 16 run and every lathe of the gang serves (R7, R77). -/
theorem execProgramStart_of_ready (hroom : ((s.engine b).progs.filter fun x => x.st != .accepted).length < 16)
    (hserve : ((s.members b).all fun n => (s.lathe n).svc == .inService) = true)
    (hfirst : (s.engine b).progs.find? (fun x => x.st == .accepted) = some x) :
    execProgramStart b s = .next (s.modProg b x.no fun y => { y with st := .started, startClock := s.clock, beganFt := s.ft.toNat }) := by
  simp only [execProgramStart, hroom, hserve, hfirst, decide_true, Bool.and_self, if_true]

theorem execProgramCommit_of_committed (hx : s.prog b p = some x) (hst : x.st = .started) (hdone : s.committed b x = true) :
    execProgramCommit b p s = .next (s.retire b x false false true) := by
  simp only [execProgramCommit, hx, hst, hdone, beq_self_eq_true, Bool.and_self, if_true]

/-- STR_ABORT by tag, by context, or of all (R228). -/
theorem execStrAbort_on (hon : s.blockOff .str n = false) :
    execStrAbort n v s = .next (match v.toNat % 4 with
      | 0 => s.wakeLink.abortWhere n 1 fun x => x.tag == s.wakeLink.rd (STR_ABORT_ARG n)
      | 1 => s.wakeLink.abortWhere n 1 fun x => x.ctx.toNat == (s.wakeLink.rd (STR_ABORT_ARG n)).toNat % 256
      | 2 => s.wakeLink.abortWhere n 1 fun _ => true
      | _ => s.wakeLink) := atBlock_of_on _ hon

/-- An aborted program retires once it has nothing outstanding and no group of its own INVALID or DRAINING (R229). -/
theorem execProgramAbortRetire_of_quiet (hx : s.prog b p = some x) (hst : x.st = .aborting) (hout : s.outstanding b p = 0)
    (hgroups : ∀ m ∈ s.accMembers b, ∀ g, g < 8 → (s.group m g).owner = (b.val, p) → (s.group m g).st ≠ .invalid ∧ (s.group m g).st ≠ .draining) :
    execProgramAbortRetire b p s = .next (s.retire b x true false true) := by
  have clear : ((s.accMembers b).all fun m => (List.range 8).all fun g =>
      (s.group m g).owner != (b.val, p) || !((s.group m g).st == .invalid || (s.group m g).st == .draining)) = true := by
    simp only [List.all_eq_true, List.mem_range, Bool.or_eq_true, bne_iff_ne, Bool.not_eq_true', Bool.or_eq_false_iff, beq_eq_false_iff_ne]
    exact fun m hm g hg => Decidable.not_or_of_imp (hgroups m hm g hg)
  simp only [execProgramAbortRetire, hx, hst, hout, clear, beq_self_eq_true, decide_true, Bool.and_self, if_true]

/-- A started program whose TIMEOUT has passed is aborted (R200). -/
theorem execProgramTimeoutExpiry_of_due (hx : s.prog b p = some x) (hst : x.st = .started) (htime : x.timeout ≠ 0)
    (hdue : x.startClock + 1000 * x.timeout ≤ s.clock) :
    execProgramTimeoutExpiry b p s =
      .next ((s.post 0x509 cFAULT (unitOf 1 b) x.ctx.toNat [(0x10, b), (0x11, x.current), (0x14, x.tag.toNat)]).abort b p 6) := by
  simp only [execProgramTimeoutExpiry, hx, hst, htime, hdue, ne_eq, not_false_eq_true, beq_self_eq_true, decide_true, Bool.and_self, if_true]

/-- Settles O28: queues enabled and rung, and programs accepted, started, committed, aborted, retired and timed out. -/
theorem programQueues : Obligations.ProgramQueues := by
  refine ⟨?accept, ?enable, ?refuse, ?ring, ?misring, ?start, ?commit, ?abort, ?retire, ?timeout⟩
  case accept =>
    intro b n i s hgang hroom hon hnext
    exact execProgramAccept_of_next hgang hroom hon hnext
  case enable =>
    intro n i v s _ hon u base log hlo hhi halign hplaced
    refine (execSqEnable_on hon).trans (congrArg Host.Outcome.next (if_neg ?_))
    rw [queueOk_of_placed hlo hhi halign hplaced, Bool.not_true, Bool.and_false]
    exact Bool.false_ne_true
  case refuse =>
    intro n i v s hon u log hen hbad
    refine (execSqEnable_on hon).trans (congrArg Host.Outcome.next (if_pos ?_))
    rw [hen, queueOk_of_misplaced hbad]
    rfl
  case ring =>
    intro n i v s hon hv
    exact (execSqDoorbell_on hon).trans (by rw [if_pos hv])
  case misring =>
    intro n i v s hon hv
    exact (execSqDoorbell_on hon).trans (by rw [if_neg (Nat.not_lt.mpr hv)]; rfl)
  case start =>
    intro b x s hs hroom hserve hfirst
    exact ⟨_, execProgramStart_of_ready hroom hserve hfirst, modProg_progs hs b x.no _⟩
  case commit =>
    intro b p x s hx hst hdone
    exact execProgramCommit_of_committed hx hst hdone
  case abort =>
    intro n v s hon u arg
    have aborts := execStrAbort_on (v := v) hon
    refine ⟨fun h => ?_, fun h => ?_, fun h => ?_⟩
    all_goals
      rw [h] at aborts
      exact aborts
  case retire =>
    intro b p x s hx hst hout hgroups
    exact execProgramAbortRetire_of_quiet hx hst hout hgroups
  case timeout =>
    intro b p x s hx hst htime hdue
    exact execProgramTimeoutExpiry_of_due hx hst htime hdue

end Sys2Proof.Machine
end

section
/-! ## SIGNAL, WAIT, SWAP, FENCE, AT and REDUCE stages -/
set_option Elab.async false
namespace Sys2Proof.Machine

variable {s : State} {b : Fin 8} {p : Nat} {k : Fin 32} {x : Prog}

/-! ### SIGNAL and WAIT -/

/-- A SIGNAL whose turn has come goes to another device, or meets its semaphore here (R210, R211, R215). -/
theorem execSignal_of_turn {sem dev count : Nat} {remote : Bool} (hx : s.prog b p = some x) (hst : s.stage b p k = some (.signal sem dev remote count))
    (hturn : s.mayOrder b p k = true) (hvis : s.writesVisible b p k x = true) :
    execSignal b p k s = .next (
      if remote && dev ≠ s.devId then (s.setStage b p k .running).issue { unit := .lathe b, ctx := some x.ctx, who := some (b.val, p, k.val) }
        { typ := .signal, rset := s.routeSet b 4, dst := BitVec.ofNat 16 dev, addr := BitVec.ofNat 40 sem, arg := BitVec.ofNat 32 count }
      else if s.semMisuse sem x.ctx.toNat then (s.semMisuseEvent sem x.ctx.toNat).faultAbort b p k 0x0C
      else
        let u := (s.bump SEM_STAT_SIGNALS 1).addSem sem count s.devId x.ctx.toNat
        if u.1 then u.2.faultAbort b p k 0x0C else u.2.setStage b p k .done) := by
  simp only [execSignal, hx, hst, hturn, hvis, Bool.not_true, Bool.or_self, Bool.false_eq_true, if_false]
  rfl

/-- A WAIT of a context that its semaphore takes queues there (R212). -/
theorem execWait_of_turn {sem count timeout : Nat} (hx : s.prog b p = some x) (hst : s.stage b p k = some (.wait sem count timeout))
    (hturn : s.mayOrder b p k = true) (huse : s.semMisuse sem x.ctx.toNat = false) :
    execWait b p k s = .next (((s.setStage b p k .running).setWaiters sem
      (s.waitersOf sem ++ [{ eng := b, prog := p, stage := k, count := count, since := s.clock, timeout := timeout }])).testWaiters sem) := by
  simp only [execWait, hx, hst, hturn, huse, Bool.not_true, Bool.false_eq_true, if_false]

/-- A WAIT leaves its semaphore at its timeout, and its program ends (R214). -/
theorem execWaitTimeout_of_due {i : Fin 8192} {w : Waiter}
    (hw : (s.waitersOf i).find? (fun w => w.eng == b.val && w.prog == p && w.stage == k.val) = some w) (htime : w.timeout ≠ 0)
    (hdue : w.since + 1000 * w.timeout ≤ s.clock) :
    let u := (s.setWaiters i ((s.waitersOf i).filter fun w => !(w.eng == b.val && w.prog == p && w.stage == k.val))).bump SEM_STAT_TIMEOUTS 1
    execWaitTimeout i b p k s =
      .next (((u.post 0x505 cFAULT 0 (u.ctxOf b p) [(0x10, i), (0x12, (u.rd (SEM_VAL i)).toNat), (0x16, b)]).testWaiters i).abort b p 0x0C k) := by
  have due : ¬ (w.timeout = 0 || s.clock < w.since + 1000 * w.timeout) = true := by
    simp [htime, hdue]
  simp only [execWaitTimeout, hw, if_neg due]
  rfl

/-! ### SWAP -/

/-- Entry `i` RAISED under the next generation, and its swap `e` behind those that wait (R269, R270). -/
def State.raiseEntry (s : State) (i : Nat) (e : Swap) : State :=
  let gen := s.rd DEV_LT_GEN + 1
  let s := ((s.wr DEV_LT_GEN gen).wr (WTB_PGEN i) gen).wf (WTB_CTL i) WTB_CTL_STATE stRAISED
  { s with swaps := s.swaps ++ [e] }

theorem raiseEntry_kept (s : State) (i : Nat) (e : Swap) : Kept 0x10008 s (s.raiseEntry i e) :=
  (Kept.upd ((((Kept.refl _ s).step (State.wr_kept _ _ _)).step (State.wr_kept _ _ _)).step (State.wf_kept _ _ _ _))).kept

theorem raiseEntry_swaps (s : State) (i : Nat) (e : Swap) : (s.raiseEntry i e).swaps = s.swaps ++ [e] := rfl

/-- A SWAP that its entry and its fabric time let go raises its swap and completes; beside the queue of swaps only registers and
the events move (R269–R271). -/
theorem exists_execSwap_of_ready {layer source atFt : Nat} (hx : s.prog b p = some x) (hst : s.stage b p k = some (.swap layer source atFt))
    (hstart : s.mayStart b p k = true) (hvalid : s.wtbValid layer = true) (hentry : s.wtbState layer = stOPEN ∨ s.wtbState layer = stFAULT)
    (hft : atFt ≤ s.ft.toNat) :
    ∃ t, execSwap b p k s = .next (t.setStage b p k .done) ∧
      Kept 0x242000000008 (s.raiseEntry layer { entry := layer, source := source, raised := s.clock, ctx := x.ctx }) t := by
  have go : (!(s.wtbState layer = stOPEN || s.wtbState layer = stFAULT) || s.ft.toNat < atFt) = false := by
    simpa [hft] using Decidable.or_iff_not_imp_left.mp hentry
  simp only [execSwap, hx, hst, hstart, hvalid, go, Bool.not_true, Bool.false_eq_true, if_false]
  refine ⟨_, rfl, ?_⟩
  have announced := State.post_kept (s.raiseEntry layer { entry := layer, source := source, raised := s.clock, ctx := x.ctx }) 0x704 cINFO 0 x.ctx.toNat
    [(0x10, 0xFF), (0x12, layer), (0x14, (s.rd DEV_LT_GEN + 1).toNat)]
  exact .ite (announced.trans (State.post_kept _ _ _ _ _ _)) announced

theorem setStage_done_progs (hs : Canon s) (e q j : Nat) :
    ((s.setStage e q j .done).engine e).progs = (s.engine e).progs.map fun y =>
      if y.no = q then { y with prog := y.prog.set j .done, doneFt := (j, s.ft.toNat) :: y.doneFt } else y := modProg_progs hs e q _

/-! ### FENCE and AT -/

theorem execFence_of_complete {scope : Nat} (hx : s.prog b p = some x) (hst : s.stage b p k = some (.fence scope)) (hturn : s.mayOrder b p k = true)
    (hdone : (x.prog.take k).all (· == .done) = true) (hvis : s.writesVisible b p k x = true)
    (hearlier : scope = 0 ∨
      ((s.engine b).progs.all fun y => decide (y.no ≥ p) || (y.st == .started && y.prog.all (· == .done) && decide (s.outstanding b y.no = 0))) = true) :
    execFence b p k s = .next (s.setStage b p k .done) := by
  have earlier : (scope = 0 || (s.engine b).progs.all fun y => decide (y.no ≥ p) ||
      (y.st == .started && y.prog.all (· == .done) && decide (s.outstanding b y.no = 0))) = true := by
    simpa only [Bool.or_eq_true, decide_eq_true_eq] using hearlier
  simp only [execFence, hx, hst, hturn, hdone, hvis, earlier, Bool.and_self, if_true]
  rfl

theorem execAtStage_of_reached {ft : Nat} (hst : s.stage b p k = some (.at ft)) (hturn : s.mayOrder b p k = true) (hft : ft ≤ s.ft.toNat) :
    execAtStage b p k s = .next (s.setStage b p k .done) := by
  simp only [execAtStage, hst, hturn, hft, decide_true, Bool.and_self, if_true]
  rfl

/-- Settles O34: SIGNAL here, to another device and in misuse, WAIT and its timeout, SWAP, FENCE and AT once they may complete, and REDUCE by
where its source lies. -/
theorem orderingStages : Obligations.OrderingStages := by
  refine ⟨?signal, ?remote, ?misuse, ?wait, ?waitTimeout, ?swap, ?fence, ?at_, ?reduce⟩
  case signal =>
    intro b p sem dev count k remote x s hx hst hturn hvis hhere huse u
    have here : (remote && dev ≠ s.devId) = false := by simpa using hhere
    refine (execSignal_of_turn hx hst hturn hvis).trans ?_
    simp only [here, huse, Bool.false_eq_true, if_false]
    rfl
  case remote =>
    intro b p sem dev count k x s hx hst hturn hvis haway
    exact (execSignal_of_turn hx hst hturn hvis).trans (by simp [haway])
  case misuse =>
    intro b p sem dev count k x s hx hst hturn hvis huse
    exact (execSignal_of_turn hx hst hturn hvis).trans (by simp [huse, State.faultAbort])
  case wait =>
    intro b p sem count timeout k x s hx hst hturn huse
    exact execWait_of_turn hx hst hturn huse
  case waitTimeout =>
    intro i b p k w s hw htime hdue
    exact execWaitTimeout_of_due hw htime hdue
  case swap =>
    intro b p layer source atFt k x s hs hx hst hstart hvalid hentry hft
    obtain ⟨t, ends, raised⟩ := exists_execSwap_of_ready hx hst hstart hvalid hentry hft
    have ht : Canon t := (hs.of_kept (raiseEntry_kept s layer _)).of_kept raised
    have swaps := ((Prod.mk.inj (raised.1 .swaps (by decide))).1).trans (raiseEntry_swaps s layer _)
    have engines : t.engines = s.engines := raised.1 .engines (by decide)
    have ft : t.ft = s.ft := raised.1 .fabricTime (by decide)
    refine ⟨_, ends, swaps, ?_⟩
    rw [setStage_done_progs ht, ft, State.engine, engines]
    rfl
  case fence =>
    intro b p scope k x s hx hst hturn hdone hvis hearlier
    exact execFence_of_complete hx hst hturn hdone hvis hearlier
  case at_ =>
    intro b p ft k s hst hturn hft
    exact execAtStage_of_reached hst hturn hft
  case reduce =>
    intro b p k op fmt src dst len s hst hstart
    refine ⟨fun h => ?zeros, fun h hend => ?here, fun h hend => ?away, fun h hend => ?host⟩
    case zeros => simp only [exec, execReduce, hst, hstart, h, Bool.not_true, Bool.false_eq_true, if_false, if_true]
    case here => simp only [exec, execReduce, hst, hstart, h, hend, Bool.not_true, Bool.false_eq_true, if_false] <;> rfl
    case away | host => simp only [exec, execReduce, hst, hstart, h, hend, Bool.not_true, Bool.false_eq_true, if_false]

end Sys2Proof.Machine
end

section
/-! ## FETCH, descriptors and transfers -/
set_option Elab.async false
namespace Sys2Proof.Machine

variable {s t : State} {n b : Fin 8} {d : Fin 256} {p : Nat} {k : Fin 32}

theorem Kept.desc_eq {m : Nat} (h : Kept m s t) (i j : Nat) (hm : m.testBit Part.descriptors.no = false := by decide) : t.desc i j = s.desc i j := by
  have descs : t.descs = s.descs := h.1 .descriptors hm
  simp only [State.desc, descs]

/-- Each descriptor of a lathe has its own record. -/
theorem setDesc_desc_ne (hs : Canon s) {i j e : Nat} (x : Desc) (h : e ≠ j) : (s.setDesc i j x).desc i e = s.desc i e :=
  sget_sput_ne (dflt := fun _ => _) hs.descs fun same => h (Nat.add_left_cancel same)

/-! ### FETCH -/

/-- A FETCH whose descriptor took its image claims the descriptor (R202, R206). -/
theorem execFetch_of_armed {j m img : Nat} (hst : s.stage b p k = some (.fetch j m img)) (hstart : s.mayStart b p k = true)
    (harm : (s.fetchArm b p k (b.val + m) j img).1 = true) :
    execFetch b p k s = .next ((s.fetchArm b p k (b.val + m) j img).2.fetchClaim b p k (b.val + m) j) := by
  simp only [execFetch, hst, hstart, harm, Bool.not_true, Bool.false_eq_true, if_false, if_true]

/-! ### ARM and CANCEL -/

/-- ARM commits the register image, or is rejected (R217, R221, R223). -/
theorem execDescArm_on (hon : s.blockOff .str n = false) :
    execDescArm n d s = .next (match (s.wakeLink.desc n d).armWith (s.wakeLink.regArm n d) with
      | .ok x => s.wakeLink.setDesc n d x
      | .error why => s.wakeLink.rejectArm n d why 0xFFFF) := atBlock_of_on _ hon

/-- CANCEL withdraws an arm not yet claimed, or the shadow (R221). -/
theorem execDescCancel_on (hon : s.blockOff .str n = false) :
    execDescCancel n d s = .next (match (s.wakeLink.desc n d).st with
      | .armed | .armedShadow => s.wakeLink.setDesc n d { s.wakeLink.desc n d with st := .idle }
      | .busyShadow => s.wakeLink.setDesc n d { s.wakeLink.desc n d with st := .busy }
      | _ => s.wakeLink) := atBlock_of_on _ hon

/-! ### TRANSFER_DONE -/

/-- The transfer of descriptor `j` of lathe `i` ends, and with it its stage may complete (R219, R221). -/
def State.endTransfer (s : State) (i j : Nat) : State :=
  (s.setDesc i j ((s.desc i j).finish (if (s.desc i j).tries = 4 then 3 else 1))).settleStage (some (s.desc i j).owner)

variable {parity : Option (Nat × Nat)}

/-- Once every request is answered and no row is to be read again, the rows are moved, unless they were, and the transfer ends when every write
is visible (R219, R253, R363). -/
theorem execTransferDone_of_answered (hbusy : (s.desc n d).st = .busy ∨ (s.desc n d).st = .busyShadow) (hleft : (s.desc n d).left = 0)
    (hagain : (s.desc n d).moved = true ∨ s.rowsAgain n d = []) :
    execTransferDone n d parity s = .next (
      let u := if (s.desc n d).moved then s else s.moveRows n d parity
      if (u.desc n d).left ≠ 0 || u.copiesOpen (u.desc n d).owner then u else u.endTransfer n d) := by
  have running : ¬ (!((s.desc n d).st == .busy || (s.desc n d).st == .busyShadow) || (s.desc n d).left ≠ 0) = true := by
    rcases hbusy with h | h <;> simp [h, hleft]
  have noRow : ¬ (if (s.desc n d).moved then [] else s.rowsAgain n d) ≠ [] := by
    rcases hagain with h | h <;> simp [h]
  exact congrArg Host.Outcome.next ((if_neg running).trans (if_neg noRow))

/-- Settles O35: FETCH, ARM taken and rejected, CANCEL, and the ends of a transfer. -/
theorem streamUnit : Obligations.StreamUnit := by
  refine ⟨?fetch, ?armed, ?rejected, ?cancel, ?moved, ?rows⟩
  case fetch =>
    intro b p j m img k s hst hstart harm
    exact execFetch_of_armed hst hstart harm
  case armed =>
    intro n d x s hs hon harm
    have awake := State.wakeLink_kept s
    have hw : Canon s.wakeLink := hs.of_kept awake
    have ends := execDescArm_on (d := d) hon
    rw [harm] at ends
    refine ⟨_, ends, setDesc_desc hw n d x, fun e _ he => ?_⟩
    rw [setDesc_desc_ne hw x he, awake.desc_eq]
  case rejected =>
    intro n d why s hon harm
    have ends := execDescArm_on (d := d) hon
    rw [harm] at ends
    exact ends
  case cancel =>
    intro n d s hs hon
    have awake := State.wakeLink_kept s
    have hw : Canon s.wakeLink := hs.of_kept awake
    have ends := execDescCancel_on (d := d) hon
    rw [awake.desc_eq] at ends
    refine ⟨?_, fun h => ?_⟩
    · rintro (h | h)
      all_goals
        rw [h] at ends
        exact ⟨_, ends, setDesc_desc hw n d _⟩
    · rw [h] at ends
      exact ⟨_, ends, setDesc_desc hw n d _⟩
  case moved =>
    intro n d parity s hbusy hleft hmoved hcopies
    have ends := execTransferDone_of_answered (parity := parity) hbusy hleft (.inl hmoved)
    simp only [hmoved, hleft, hcopies, if_true] at ends
    exact ends
  case rows =>
    intro n d parity s hbusy hleft hmoved hagain u hput
    have ends := execTransferDone_of_answered (parity := parity) hbusy hleft (.inr hagain)
    change ((s.moveRows n d parity).desc n d).left = 0 at hput
    simp only [hmoved, hput, Bool.false_eq_true, if_false, ne_eq, not_true_eq_false, decide_false, Bool.false_or] at ends
    exact ends

end Sys2Proof.Machine
end

section
/-! ## The slots of passes -/
set_option Elab.async false
namespace Sys2Proof.Machine

variable {s : State} {p : Fin 16} {ctx : BitVec 8}

/-- The wake of the link writes no register below those of the PCIe port (R574). -/
theorem wakeLink_rd (hs : Canon s) {o : Nat} (ho : o < 0x700000) : s.wakeLink.rd o = s.rd o := by
  refine (writesOnly_wakeLink s hs).2 o ?_
  simp only [accessRegs, both, PCI_STATUS, PCI_STAT_OFF_ACCESS, List.mem_cons, List.not_mem_nil, or_false]
  omega

theorem wakeLink_rf (hs : Canon s) {o : Nat} (f : Fld) (ho : o < 0x700000) : s.wakeLink.rf o f = s.rf o f :=
  congrArg (fun x : Word => bits x.toNat f.lo f.w) (wakeLink_rd hs ho)

theorem wakeLink_flag (hs : Canon s) {o : Nat} (f : Fld) (ho : o < 0x700000) : s.wakeLink.flag o f = s.flag o f := by
  unfold State.flag
  rw [wakeLink_rf hs f ho]

theorem DEV_LT_PASS_lt {q : Nat} (hq : q < 16) : DEV_LT_PASS q < 0x700000 := by unfold DEV_LT_PASS; omega

/-! ### A slot -/

/-- Slot `i` with the given CONTEXT and OPEN. -/
def State.setSlot (s : State) (i ctx : Nat) (v : Bool) : State :=
  (s.wf (DEV_LT_PASS i) DEV_LT_PASS_CONTEXT ctx).wb (DEV_LT_PASS i) DEV_LT_PASS_OPEN v

theorem setSlot_kept (s : State) (i c : Nat) (v : Bool) : Kept 0x8 s (s.setSlot i c v) := (State.wf_kept s _ _ _).trans (State.wb_kept _ _ _ _)

theorem setSlot_rd_ne (hs : Canon s) {o i : Nat} (c : Nat) (v : Bool) (h : o ≠ DEV_LT_PASS i) : (s.setSlot i c v).rd o = s.rd o :=
  (rd_wf_ne (hs.of_kept (State.wf_kept s _ _ _)) _ _ h).trans (rd_wf_ne hs _ _ h)

theorem setSlot_flag (hs : Canon s) (i c : Nat) (v : Bool) : (s.setSlot i c v).flag (DEV_LT_PASS i) DEV_LT_PASS_OPEN = v :=
  flag_wb_self (hs.of_kept (State.wf_kept s _ _ _)) _ _ v (by decide) (by decide)

theorem setSlot_context (hs : Canon s) (i : Nat) (ctx : BitVec 8) (v : Bool) :
    (s.setSlot i ctx.toNat v).rf (DEV_LT_PASS i) DEV_LT_PASS_CONTEXT = ctx.toNat := by
  unfold State.setSlot State.wb
  rw [rf_wf_other (hs.of_kept (State.wf_kept s _ _ _)) _ _ _ _ (by decide) (by decide), rf_wf_self hs _ _ _ (by decide)]
  exact Nat.mod_eq_of_lt ctx.isLt

/-- Slot `i` opens and latches the generation (R266). -/
def State.openSlot (s : State) (i ctx : Nat) : State := (s.setSlot i ctx true).wr (DEV_LT_LATCH i) ((s.setSlot i ctx true).rd DEV_LT_GEN)

theorem openSlot_rd_slot (hs : Canon s) (i c : Nat) : (s.openSlot i c).rd (DEV_LT_PASS i) = (s.setSlot i c true).rd (DEV_LT_PASS i) :=
  rd_wr_ne (hs.of_kept (setSlot_kept _ _ _ _)) _ (by unfold DEV_LT_PASS DEV_LT_LATCH; omega)

theorem openSlot_flag (hs : Canon s) (i c : Nat) : (s.openSlot i c).flag (DEV_LT_PASS i) DEV_LT_PASS_OPEN = true := by
  unfold State.flag State.rf
  rw [openSlot_rd_slot hs]
  exact setSlot_flag hs i c true

theorem openSlot_context (hs : Canon s) (i : Nat) (ctx : BitVec 8) :
    (s.openSlot i ctx.toNat).rf (DEV_LT_PASS i) DEV_LT_PASS_CONTEXT = ctx.toNat := by
  unfold State.rf
  rw [openSlot_rd_slot hs]
  exact setSlot_context hs i ctx true

theorem openSlot_latch (hs : Canon s) (i c : Nat) : (s.openSlot i c).rd (DEV_LT_LATCH i) = s.rd DEV_LT_GEN :=
  (rd_wr_self (hs.of_kept (setSlot_kept _ _ _ _)) _ _).trans (setSlot_rd_ne hs c true (by unfold DEV_LT_GEN DEV_LT_PASS; omega))

/-! ### The commands -/

/-- Slot `i` is open, or an open slot holds the context (R267). -/
def State.slotTaken (s : State) (i ctx : Nat) : Bool :=
  s.flag (DEV_LT_PASS i) DEV_LT_PASS_OPEN ||
    (List.range 16).any fun q => s.flag (DEV_LT_PASS q) DEV_LT_PASS_OPEN && s.rf (DEV_LT_PASS q) DEV_LT_PASS_CONTEXT == ctx

theorem slotTaken_iff {i c : Nat} : s.slotTaken i c = true ↔ s.flag (DEV_LT_PASS i) DEV_LT_PASS_OPEN = true ∨
    ∃ q, q < 16 ∧ s.flag (DEV_LT_PASS q) DEV_LT_PASS_OPEN = true ∧ s.rf (DEV_LT_PASS q) DEV_LT_PASS_CONTEXT = c := by
  simp only [State.slotTaken, Bool.or_eq_true, List.any_eq_true, List.mem_range, Bool.and_eq_true, beq_iff_eq]

theorem execPassOpen_on (hon : s.blockOff .dev 0 = false) :
    execPassOpen p ctx s = .next (if s.wakeLink.slotTaken p ctx.toNat then s.wakeLink else s.wakeLink.openSlot p ctx.toNat) := atBlock_of_on _ hon

theorem execPassClose_on (hon : s.blockOff .dev 0 = false) : execPassClose p ctx s = .next (s.wakeLink.setSlot p ctx.toNat false) :=
  atBlock_of_on _ hon

/-- Settles O21: a slot that is open or whose context is held is not opened, a free one is and latches the generation, and a write closes one. -/
theorem passSlots : Obligations.PassSlots := by
  refine ⟨?ignored, ?opened, ?closed⟩
  case ignored =>
    intro p q ctx s hon h
    have taken : s.wakeLink.slotTaken p ctx.toNat = true := slotTaken_iff.mpr (h.imp_right fun held => ⟨q, q.isLt, held⟩)
    exact (execPassOpen_on hon).trans (by rw [if_pos taken])
  case opened =>
    intro p ctx s hs hon hfree hctx
    have hw : Canon s.wakeLink := hs.of_kept (State.wakeLink_kept s)
    have free : ¬ s.wakeLink.slotTaken p ctx.toNat = true := by
      rw [slotTaken_iff]
      rintro (hopen | ⟨q, hq, hopen, held⟩)
      · rw [wakeLink_flag hs _ (DEV_LT_PASS_lt p.isLt), hfree] at hopen
        cases hopen
      · rw [wakeLink_flag hs _ (DEV_LT_PASS_lt hq)] at hopen
        rw [wakeLink_rf hs _ (DEV_LT_PASS_lt hq)] at held
        exact hctx q hq hopen held
    exact ⟨_, (execPassOpen_on hon).trans (by rw [if_neg free]), openSlot_flag hw p _, openSlot_context hw p ctx,
      (openSlot_latch hw p _).trans (wakeLink_rd hs (by decide))⟩
  case closed =>
    intro p ctx s hs hon
    have hw : Canon s.wakeLink := hs.of_kept (State.wakeLink_kept s)
    exact ⟨_, execPassClose_on hon, setSlot_flag hw p ctx.toNat false, setSlot_context hw p ctx false⟩

end Sys2Proof.Machine
end

section
/-! ## Writes of the layer table, and the verification of a home copy -/
set_option Elab.async false
namespace Sys2Proof.Machine

variable {s : State} {i : Fin 4096} {w : Fin 16} {v : Word}

/-! ### Writes -/

/-- The control word of an OPEN entry that is not valid becomes valid under the current generation (R260, R266). -/
theorem execWtbWrite_validate (hon : s.blockOff .wtb 0 = false) (hopen : s.wakeLink.wtbState i = stOPEN) (hvalid : s.wakeLink.wtbValid i = false)
    (hset : v.toNat % 2 = 1) :
    execWtbWrite i 0 v s = .next (
      let u := (s.wakeLink.wb (WTB_CTL i) WTB_CTL_VALID true).wb (WTB_CTL i) WTB_CTL_MIRROR_EN (bit v.toNat 1)
      u.wr (WTB_GEN i) (u.rd DEV_LT_GEN)) := by
  have set : bit v.toNat 0 = true := decide_eq_true (by rwa [Nat.pow_zero, Nat.div_one])
  refine (atBlock_of_on _ hon).trans ?_
  simp only [hopen, hvalid, set, Fin.val_zero, Nat.mul_zero, Nat.add_zero, if_true, Bool.not_false, Bool.and_self]

/-- A word of the record is held while the entry is valid (R260). -/
theorem execWtbWrite_held (hon : s.blockOff .wtb 0 = false) (hlo : 1 ≤ w.val) (hhi : w.val ≤ 8) (hvalid : s.wakeLink.wtbValid i = true) :
    execWtbWrite i w v s = .next s.wakeLink := by
  refine (atBlock_of_on _ hon).trans ?_
  dsimp only
  rw [if_neg (by omega), if_pos hhi, if_pos hvalid]

/-- Word `w` of the record of entry `i` takes `v`, and HOST tells whether the home copy now lies in host memory (R261). -/
def State.takeWord (s : State) (i w : Nat) (v : Word) : State :=
  let s := s.wr (WTB_CTL i + 4 * w) v
  s.wb (WTB_CTL i) WTB_CTL_HOST (match region (s.rf64 (WTB_BLANK i) WTB_BLANK_ADDR) with | .aperture _ _ => true | _ => false)

/-- A whole word of the record is taken while the entry is not valid (R260). -/
theorem execWtbWrite_taken (hon : s.blockOff .wtb 0 = false) (hword : w.val = 1 ∨ w.val = 2 ∨ w.val = 4 ∨ w.val = 7 ∨ w.val = 8)
    (hvalid : s.wakeLink.wtbValid i = false) :
    execWtbWrite i w v s = .next (s.wakeLink.takeWord i w v) := by
  have whole : (if w.val = 3 || w.val = 5 then v.toNat % 256 else if w.val = 6 then v.toNat % 2 ^ 29 else v.toNat) = v.toNat := by
    rw [if_neg (by simp; omega), if_neg (by omega)]
  refine (atBlock_of_on _ hon).trans ?_
  dsimp only
  rw [if_neg (by omega), if_pos (by omega), if_neg (by simp [hvalid]), whole, BitVec.ofNat_toNat, BitVec.setWidth_eq]
  rfl

theorem execWtbClear_fault (hon : s.blockOff .wtb 0 = false) (hst : s.wakeLink.wtbState i = stFAULT) :
    execWtbClear i s = .next { s.wakeLink.wf (WTB_CTL i) WTB_CTL_STATE stVERIFYING with verifying := s.verifying ++ [i.val] } := by
  have awake : s.wakeLink.verifying = s.verifying := (State.wakeLink_kept s).1 .verifying (by decide)
  refine (atBlock_of_on _ hon).trans ?_
  rw [State.clearEntry, if_pos hst, awake]

/-! ### Verification -/

variable {j : Nat} {rest : List Nat}

theorem execVerifyEnd_of_cons (hx : s.verifying = j :: rest) (hwait : s.swapWait = none) :
    execVerifyEnd s = .next (s.verifyFrom j s.clock (s.recCount j) 0 none) := by
  simp only [execVerifyEnd, State.verifyRun, hx, hwait, Option.isSome_none, Bool.false_eq_true, if_false, Nat.sub_zero]

/-- After the last record the entry is OPEN and its fault is forgotten (R284). -/
theorem verifyFrom_zero (hx : s.verifying = j :: rest) (since r : Nat) (first : Option (Sparse Byte × Bool)) :
    s.verifyFrom j since 0 r first =
      ((({ s with verifying := rest } : State).wf (WTB_CTL j) WTB_CTL_STATE stOPEN).wf (WTB_CTL j) WTB_CTL_FAULT_KIND 0).wf
        (WTB_CTL j) WTB_CTL_FAULT_CTX 0 := by
  simp only [State.verifyFrom, hx, List.drop_one, List.tail_cons]

/-- A record of the home copy that no host read brings is read at once, and leads to the next one or ends the verification (R284). -/
theorem verifyFrom_succ_of_local (hlocal : s.hostRecords [s.homePiece j r] = false) (since more : Nat) :
    s.verifyFrom j since (more + 1) r none =
      let q := s.readOnce 8 none none [s.homePiece j r]
      let why := q.2.recFault q.1.1 q.1.2 j (s.recTile j r) (s.wtbVer j) (some (q.2.isHeader j r))
      if why = 0 then q.2.verifyFrom j q.2.clock more (r + 1) none
      else ({ q.2.noteFailedRead j with verifying := q.2.verifying.drop 1 } : State).shardFail 8 0x700 why j (s.recTile j r) (s.wtbVer j)
        (s.rf (WTB_CTL j) WTB_CTL_FAULT_CTX) none := by
  have asks : ¬ ((none : Option (Sparse Byte × Bool)).isNone && s.hostRecords [s.homePiece j r]) = true := by simp [hlocal]
  rw [State.verifyFrom, if_neg asks]

/-- Settles O36: writes of an entry, CLEAR of one in FAULT, and a verification record by record. -/
theorem layerTable : Obligations.LayerTable := by
  refine ⟨?validate, ?taken, ?held, ?clear, ?verify⟩
  case validate =>
    intro i v s hon hopen hvalid hset
    exact execWtbWrite_validate hon hopen hvalid hset
  case taken =>
    intro i w v s hon hword hvalid
    exact execWtbWrite_taken hon hword hvalid
  case held =>
    intro i w v s hon hlo hhi hvalid
    exact execWtbWrite_held hon hlo hhi hvalid
  case clear =>
    intro i s hon hst
    exact execWtbClear_fault hon hst
  case verify =>
    intro i rest s hx hwait
    refine ⟨execVerifyEnd_of_cons hx hwait, fun u since r first hu => verifyFrom_zero hu since r first, ?record⟩
    intro u since more r hlocal
    have next := verifyFrom_succ_of_local hlocal since more
    exact ⟨fun hsound => next.trans (if_pos hsound), fun hbad => next.trans (if_neg hbad)⟩

end Sys2Proof.Machine
end

section
/-! ## The swap engine: its start, the staged header, its end, and the timeout of a record -/
set_option Elab.async false
namespace Sys2Proof.Machine

variable {s : State} {x : Swap} {rest : List Swap} {w : RecWait}

/-- The oldest swap writes once no pass latches below its generation, no older read of the home copy goes on and nothing is verified (R274). -/
theorem execSwapWriteStart_of_ready (glitch : List (Nat × Nat)) (hx : s.swaps = x :: rest) (hraised : x.writing = false) (hverify : s.verifying = [])
    (hpass : ∀ p, p < 16 → s.flag (DEV_LT_PASS p) DEV_LT_PASS_OPEN = true → (s.rd (WTB_PGEN x.entry)).toNat ≤ (s.rd (DEV_LT_LATCH p)).toNat)
    (hread : s.oldHomeRead x.entry x.raised = false) :
    execSwapWriteStart glitch s = .next (((s.wf (WTB_CTL x.entry) WTB_CTL_STATE stWRITING).modSwap fun y =>
      { y with writing := true, began := s.ft.toNat }).goSwap (fun r j => glitch.contains (r, j)) none none) := by
  have older : ((List.range 16).any fun p => s.flag (DEV_LT_PASS p) DEV_LT_PASS_OPEN &&
      decide ((s.rd (DEV_LT_LATCH p)).toNat < (s.rd (WTB_PGEN x.entry)).toNat)) = false := by
    simpa only [List.any_eq_false, List.mem_range, Bool.and_eq_true, decide_eq_true_eq, not_and, Nat.not_lt] using hpass
  simp only [execSwapWriteStart, hx, hraised, hverify, older, hread, ne_eq, not_true_eq_false, decide_false, Bool.or_self, Bool.false_eq_true, if_false]
  rfl

/-- The engine reads again the header of the staged record that it waits for, through the host where it lies there; a header of another version is
waited for, and any other lets the swap go on (R276, R281). -/
theorem execStagedHeaderReread_of_waiting (hx : s.swaps = x :: rest) (hw : s.swapWait = some w) (hattempt : w.attempt = 0) (hfirst : w.first = false) :
    execStagedHeaderReread s = .next (
      let a := (s.recPiece x.entry x.next x.source 0).1
      if s.hostRecords [(a, 64)] then s.askRecord 8 { w with first := true, header := true } [(a, 64)]
      else if (s.readable a && s.num (a + 6) 2 ≠ w.ver.toNat && !s.mark a) then s
      else (s.setWait 8 none).goSwap (fun _ _ => false) (some w.since) none) := by
  have waits : ¬ (w.attempt ≠ 0 || w.first) = true := by simp [hattempt, hfirst]
  simp only [execStagedHeaderReread, hx, hw]
  rw [if_neg waits]

/-- The home copy of a written swap is the new version, under the generation the swap was raised with, and its entry is OPEN (R277). -/
def State.publishSwap (s : State) (x : Swap) : State :=
  let i := x.entry
  let ver := s.nextVer i
  let s := (s.wf (WTB_ID i) WTB_ID_VERSION ver).wr (WTB_GEN i) (s.rd (WTB_PGEN i))
  let s := ((s.wf (WTB_CTL i) WTB_CTL_STATE stOPEN).wf (WTB_CTL i) WTB_CTL_FAULT_KIND 0).wf (WTB_CTL i) WTB_CTL_FAULT_CTX 0
  (s.bump DEV_LT_STAT_SWAPS 1).post 0x705 cINFO 0 x.ctx.toNat [(0x10, 0xFF), (0x12, i), (0x14, ver), (0x18, s.ft.toNat - x.began)]

theorem execSwapWriteEnd_of_done (hx : s.swaps = x :: rest) (hwriting : x.writing = true) (hdone : x.done = true) :
    execSwapWriteEnd s = .next { s.publishSwap x with swaps := rest } := by
  simp only [execSwapWriteEnd, hx, hwriting, hdone, Bool.and_self, Bool.not_true, Bool.false_eq_true, if_false]
  rfl

/-- When a record of an entry's wait that began at `since` is absent (R282): after TMO milliseconds, 50 where TMO is 0. -/
def State.recordDue (s : State) (w : RecWait) : Nat :=
  w.since + 1000000 * (if s.rf (WTB_TMO w.entry) WTB_TMO_MS = 0 then 50 else s.rf (WTB_TMO w.entry) WTB_TMO_MS)

theorem not_early_of_due (hentry : w.entry < 4096) (hdue : s.recordDue w ≤ s.clock) :
    ¬ (4096 ≤ w.entry || s.clock < s.recordDue w) = true := by
  simp only [Bool.or_eq_true, decide_eq_true_eq]
  omega

theorem execShardTimeout_lathe {n : Fin 8} (hw : (s.lathe n).wait = some w) (hentry : w.entry < 4096) (hload : w.verify = false)
    (hdue : s.recordDue w ≤ s.clock) :
    execShardTimeout (some n) s = .next (((s.setWait n none).dropMirror n).shardFail n 0x701 1 w.entry w.tile w.ver.toNat w.src.ctx.toNat
      (some (w.eng, w.prog, w.stage))) := by
  have waits : s.waitOf n = some w := (if_pos n.isLt).trans hw
  have reason : ¬ (n.val = 8 && w.attempt = 0 && (!w.first || w.header)) = true := by
    have below : n.val ≠ 8 := Nat.ne_of_lt n.isLt
    simp [below]
  simp only [execShardTimeout, waits]
  refine congrArg Host.Outcome.next ((if_neg (not_early_of_due hentry hdue)).trans ?_)
  rw [if_neg reason, if_neg (by simp [hload]), if_pos n.isLt]

theorem execShardTimeout_swap (hw : s.swapWait = some w) (hentry : w.entry < 4096) (hdue : s.recordDue w ≤ s.clock) :
    execShardTimeout none s = .next (
      let u : State := if w.verify then { s with verifying := s.verifying.drop 1 } else s
      ((u.setWait 8 none).dropMirror 8).shardFail 8 0x701 (if w.attempt = 0 ∧ (w.first = false ∨ w.header = true) then 3 else 1) w.entry w.tile
        w.ver.toNat w.src.ctx.toNat none) := by
  have waits : s.waitOf 8 = some w := hw
  simp only [execShardTimeout, waits]
  refine congrArg Host.Outcome.next ((if_neg (not_early_of_due hentry hdue)).trans ?_)
  simp only [decide_true, Bool.true_and, Bool.and_eq_true, decide_eq_true_eq, Bool.or_eq_true, Bool.not_eq_true', Nat.lt_irrefl, if_false]

end Sys2Proof.Machine
end

section
/-! ## The tile builder -/
set_option Elab.async false
namespace Sys2Proof.Machine

variable {s : State} {x : Build} {gain : BitVec 4}

/-- The command word of a build that starts: the GAIN written, BUSY, and no RESULT yet (R285, R286). -/
def State.startBuild (s : State) (gain : Nat) : State :=
  ((s.wf DEV_LT_BUILD_CMD DEV_LT_BUILD_CMD_GAIN gain).wb DEV_LT_BUILD_CMD DEV_LT_BUILD_CMD_BUSY true).wf DEV_LT_BUILD_CMD DEV_LT_BUILD_CMD_RESULT 0

theorem startBuild_busy (hs : Canon s) (gain : Nat) : (s.startBuild gain).flag DEV_LT_BUILD_CMD DEV_LT_BUILD_CMD_BUSY = true := by
  have hgain : Canon (s.wf DEV_LT_BUILD_CMD DEV_LT_BUILD_CMD_GAIN gain) := hs.of_kept (State.wf_kept s _ _ _)
  have busy := flag_wb_self hgain DEV_LT_BUILD_CMD DEV_LT_BUILD_CMD_BUSY true (by decide) (by decide)
  unfold State.flag at busy ⊢
  rw [State.startBuild, rf_wf_other (hgain.of_kept (State.wb_kept _ _ _ _)) _ _ _ _ (by decide) (by decide)]
  exact busy

theorem startBuild_rd_ne (hs : Canon s) (gain : Nat) {o : Nat} (h : o ≠ DEV_LT_BUILD_CMD) : (s.startBuild gain).rd o = s.rd o := by
  have hgain : Canon (s.wf DEV_LT_BUILD_CMD DEV_LT_BUILD_CMD_GAIN gain) := hs.of_kept (State.wf_kept s _ _ _)
  exact (rd_wf_ne (hgain.of_kept (State.wb_kept _ _ _ _)) _ _ h).trans ((rd_wf_ne hgain _ _ h).trans (rd_wf_ne hs _ _ h))

/-- The tile builder at work on `x`, or idle. -/
def State.setBuilding (s : State) (x : Option Build) : State := { s with building := x }

theorem setBuilding_building (s : State) (x : Option Build) : (s.setBuilding x).building = x := rfl

theorem setBuilding_flag (s : State) (x : Option Build) (o : Nat) (f : Fld) : (s.setBuilding x).flag o f = s.flag o f := rfl

/-- The build that the registers describe, of the gain written with GO (R285). -/
def State.describedBuild (s : State) (gain : Nat) : Build where
  src := s.rd64 DEV_LT_BUILD_SRC % 2 ^ 40
  dst := s.rd64 DEV_LT_BUILD_DST % 2 ^ 40
  out := s.rd64 DEV_LT_BUILD_OUT % 2 ^ 40
  slices := s.rf DEV_LT_BUILD_GEOM DEV_LT_BUILD_GEOM_SLICES
  id := (s.rd DEV_LT_BUILD_ID).toNat
  first := (s.rd DEV_LT_BUILD_FIRST).toNat
  count := (s.rd DEV_LT_BUILD_COUNT).toNat
  gain := gain

theorem execBuildGo_idle (hon : s.blockOff .dev 0 = false) (hidle : s.building = none) :
    execBuildGo gain s = .next ((s.wakeLink.startBuild gain.toNat).setBuilding
      (some ((s.wakeLink.startBuild gain.toNat).describedBuild gain.toNat))) := by
  have awake : s.wakeLink.building = none := ((State.wakeLink_kept s).1 .building (by decide)).trans hidle
  refine (atBlock_of_on _ hon).trans ?_
  rw [if_neg (by rw [awake]; decide)]
  rfl

/-- The builder is idle again, and its RESULT says whether it stopped (R285, R286). -/
def State.finishBuild (s : State) (n result : Nat) : State :=
  let s := (s.wb DEV_LT_BUILD_CMD DEV_LT_BUILD_CMD_BUSY false).wf DEV_LT_BUILD_CMD DEV_LT_BUILD_CMD_RESULT result
  (s.setBuilding none).post 0x708 cINFO 0 0xFFFF [(0x10, 0xFF), (0x11, result), (0x14, n)]

theorem finishBuild_building (s : State) (n result : Nat) : (s.finishBuild n result).building = none :=
  (State.post_kept _ _ _ _ _ _).1 .building (by decide)

theorem execBuildEnd_of_building (parity : Option Nat) (hx : s.building = some x) (hverify : s.verifying = [])
    (hswaps : (s.swaps.any (·.writing)) = false) :
    execBuildEnd parity s = .next (
      let q := s.buildTiles x parity x.count 0
      q.2.finishBuild q.1.1 (if q.1.2 then 2 else 1)) := by
  simp only [execBuildEnd, hx, hverify, hswaps, ne_eq, not_true_eq_false, decide_false, Bool.or_self, Bool.false_eq_true, if_false]
  rfl

end Sys2Proof.Machine
end

section
/-! ## The obligation on the swap engine and the tile builder -/
set_option Elab.async false
namespace Sys2Proof.Machine

/-- Settles O37: the start of a swap's writing, the staged header read again, the end, the timeouts of records, and the start and end of a build. -/
theorem swapEngine : Obligations.SwapEngine := by
  refine ⟨?start, ?reread, ?done, ?latheTimeout, ?swapTimeout, ?go, ?built⟩
  case start =>
    intro glitch x rest s hx hraised hverify hpass hread
    exact execSwapWriteStart_of_ready glitch hx hraised hverify hpass hread
  case reread =>
    intro x rest w s hx hw hattempt hfirst a
    have answer := execStagedHeaderReread_of_waiting hx hw hattempt hfirst
    refine ⟨fun hhost => answer.trans (by rw [if_pos hhost]), fun hlocal hnew => ?_⟩
    have goes : ¬ (s.readable a && s.num (a + 6) 2 ≠ w.ver.toNat && !s.mark a) = true := by
      rcases hnew with h | h | h <;> simp [h]
    exact answer.trans (by rw [if_neg (by rw [hlocal]; decide), if_neg goes])
  case done =>
    intro x rest s hx hwriting hdone
    exact ⟨_, execSwapWriteEnd_of_done hx hwriting hdone, rfl⟩
  case latheTimeout =>
    intro n w s hw hentry hload hdue
    exact execShardTimeout_lathe hw hentry hload hdue
  case swapTimeout =>
    intro w s hw hentry hdue
    exact execShardTimeout_swap hw hentry hdue
  case go =>
    intro gain s hs hon hidle
    have hw : Canon s.wakeLink := hs.of_kept (State.wakeLink_kept s)
    have kept {o : Nat} (ho : o ≠ DEV_LT_BUILD_CMD) (hdev : o < 0x700000) :=
      congrArg BitVec.toNat ((startBuild_rd_ne hw gain.toNat ho).trans (wakeLink_rd hs hdev))
    refine ⟨_, execBuildGo_idle hon hidle, ?_, _, setBuilding_building _ _, rfl, kept (by decide) (by decide), kept (by decide) (by decide),
      kept (by decide) (by decide)⟩
    rw [setBuilding_flag]
    exact startBuild_busy hw gain.toNat
  case built =>
    intro parity x s hx hverify hswaps
    exact ⟨_, execBuildEnd_of_building parity hx hverify hswaps, finishBuild_building _ _ _⟩

end Sys2Proof.Machine
end

section
/-! ## Which registers an operation keeps

`KeepsRegs R s t` says that the registers of `R` read in `t` as in `s`. The registers that reads of memory go through and the position of a
scrub are kept along chains of operations by it.

Elaboration is in order here, as in the model's files. -/
set_option Elab.async false
namespace Sys2Proof.Machine

/-- From a canonical state: `t` is canonical, and every register of `R` reads in it as in `s`. -/
def KeepsRegs (R : Nat → Prop) (s t : State) : Prop := Canon s → Canon t ∧ ∀ o, R o → t.rd o = s.rd o

variable {R : Nat → Prop} {s t u : State}

theorem KeepsRegs.refl (R : Nat → Prop) (s : State) : KeepsRegs R s s := fun hs => ⟨hs, fun _ _ => rfl⟩

theorem KeepsRegs.trans (h : KeepsRegs R s t) (h' : KeepsRegs R t u) : KeepsRegs R s u := fun hs =>
  have ⟨ht, st⟩ := h hs
  have ⟨hu, tu⟩ := h' ht
  ⟨hu, fun o ho => (tu o ho).trans (st o ho)⟩

theorem KeepsRegs.ite {c : Prop} [Decidable c] (ht : KeepsRegs R s t) (hu : KeepsRegs R s u) : KeepsRegs R s (if c then t else u) := by
  split <;> assumption

/-- An operation whose frame does not name the register file keeps every register. -/
theorem Kept.keepsRegs {m : Nat} (h : Kept m s t) (hm : m.testBit Part.registers.no = false := by decide) : KeepsRegs R s t := fun hs =>
  ⟨hs.of_kept h, fun o _ => h.rd_eq o hm⟩

/-- The registers kept are some of those that `WritesOnly` names as not written. -/
theorem WritesOnly.keepsRegs {l : List Nat} (h : WritesOnly l s t) (hl : ∀ o ∈ l, ¬ R o) : KeepsRegs R s t := fun hs =>
  have ⟨ht, st⟩ := h hs
  ⟨ht, fun o ho => st o fun hm => hl o hm ho⟩

theorem keepsRegs_wr {o : Nat} (v : Word) (ho : ¬ R o) : KeepsRegs R s (s.wr o v) :=
  (writesOnly_wr (l := [o]) v (by simp)).keepsRegs (by simpa using ho)

theorem keepsRegs_wf {o : Nat} (f : Fld) (v : Nat) (ho : ¬ R o) : KeepsRegs R s (s.wf o f v) := keepsRegs_wr _ ho

theorem keepsRegs_wr64 {o : Nat} (v : Nat) (ho : ¬ R o) (ho4 : ¬ R (o + 4)) : KeepsRegs R s (s.wr64 o v) :=
  (keepsRegs_wr _ ho).trans (keepsRegs_wr _ ho4)

theorem keepsRegs_bump {o : Nat} (k : Nat) (ho : ¬ R o) (ho4 : ¬ R (o + 4)) : KeepsRegs R s (s.bump o k) :=
  .ite (.refl R s) (keepsRegs_wr64 _ ho ho4)

/-- The registers of the Vent and of the event block, which a record that is posted writes (Table 1.8). -/
abbrev EventReg (o : Nat) : Prop := (0x10000 ≤ o ∧ o < 0x20000) ∨ (0x60000 ≤ o ∧ o < 0x70000)

/-- A record posted writes registers of the Vent and of the event block (R584–R586, R591). -/
theorem keepsRegs_postEvent (hR : ∀ o, EventReg o → ¬ R o) (s : State) (e : Event) : KeepsRegs R s (s.postEvent e) := by
  have logged (y : State) : KeepsRegs R y (y.logEvent e) := by
    unfold State.logEvent
    extract_lets k vent log next
    have hlog : KeepsRegs R y log := (Kept.upd (M := 2 ^ Part.vent.no) (Kept.refl _ y)).kept.keepsRegs
    have hnext : KeepsRegs R log next := keepsRegs_wf _ _ (hR _ (by decide))
    exact (hlog.trans hnext).trans (.ite (keepsRegs_wf _ _ (hR _ (by decide))) (.refl R _))
  have lost (y : State) {q : Nat} (hq : q < 16) : KeepsRegs R y (y.loseRecord q) :=
    ((keepsRegs_wr _ (hR _ (by unfold EventReg EVT_Q_LOST; omega))).trans
      (keepsRegs_bump 1 (hR _ (by decide)) (hR _ (by decide)))).trans (keepsRegs_wr _ (hR _ (by decide)))
  unfold State.postEvent
  extract_lets posted q
  have hposted : KeepsRegs R s posted :=
    ((keepsRegs_bump 1 (hR _ (by decide)) (hR _ (by decide))).trans (logged _)).trans (State.healthFail_kept _ _).keepsRegs
  exact hposted.trans (.ite (Kept.upd (M := 2 ^ Part.events.no) (Kept.refl _ _)).kept.keepsRegs (lost _ (bits_lt _ _ _)))

theorem keepsRegs_post (hR : ∀ o, EventReg o → ¬ R o) (s : State) (code cls unit ctx : Nat) (d : List (Nat × Nat)) :
    KeepsRegs R s (s.post code cls unit ctx d) := keepsRegs_postEvent hR s _

/-- A limited record writes the registers of a record, where one posts (R622). -/
theorem keepsRegs_postLim (hR : ∀ o, EventReg o → ¬ R o) (s : State) (on : Bool) (interval scope add code cls unit ctx : Nat)
    (d : Nat → List (Nat × Nat)) : KeepsRegs R s (s.postLim on interval scope add code cls unit ctx d) := by
  unfold State.postLim State.postFirst
  have limited : KeepsRegs R s (s.limit on code scope interval 0 add).2 := (State.limit_kept _ _ _ _ _ _ _).keepsRegs
  split
  next h =>
    rw [h] at limited
    exact limited.trans (keepsRegs_post hR _ _ _ _ _ _)
  next h =>
    rw [h] at limited
    exact limited

end Sys2Proof.Machine
end

section
/-! ## Which lines an operation keeps, bytes and marks -/
set_option Elab.async false
namespace Sys2Proof.Machine

variable {s t u : State} {a : Nat}

/-- A register through which a byte or a mark is read. -/
def LineReg (o : Nat) : Prop := ReadReg o ∨ o = PCI_STATUS

/-- No byte and no mark is read through the registers of the Vent, of the events, of the infeed stores, stacks, reducers and ports (Table 1.8). -/
theorem not_lineReg {o : Nat} (h : (0x10000 ≤ o ∧ o < 0x20000) ∨ (0x60000 ≤ o ∧ o < 0x700000)) : ¬ LineReg o :=
  not_or.mpr ⟨not_readReg h, by unfold PCI_STATUS; omega⟩

theorem EventReg.not_lineReg {o : Nat} (h : EventReg o) : ¬ LineReg o := Machine.not_lineReg (by unfold EventReg at h; omega)

/-- What reads of bytes and of marks look at, and the stores. -/
structure SameLines (s t : State) : Prop extends SameView s t where
  mem : t.mem = s.mem
  marks : t.marks = s.marks
  hostBad : t.hostBad = s.hostBad
  link : t.rd PCI_STATUS = s.rd PCI_STATUS

theorem SameLines.trans (h : SameLines s t) (h' : SameLines t u) : SameLines s u where
  hostMem := h'.hostMem.trans h.hostMem
  accMem := h'.accMem.trans h.accMem
  clock := h'.clock.trans h.clock
  jigBody := h'.jigBody.trans h.jigBody
  reg := fun o ho => (h'.reg o ho).trans (h.reg o ho)
  mem := h'.mem.trans h.mem
  marks := h'.marks.trans h.marks
  hostBad := h'.hostBad.trans h.hostBad
  link := h'.link.trans h.link

theorem SameLines.byte_eq (h : SameLines s t) (b : Nat) : t.byte b = s.byte b := h.toSameView.byte (congrArg (sget 0 · b) h.mem)

theorem SameLines.bytes_eq (h : SameLines s t) (b k : Nat) : t.bytes b k = s.bytes b k := List.map_congr_left fun _ _ => h.byte_eq _

theorem rf_congr {o : Nat} (h : t.rd o = s.rd o) (f : Fld) : t.rf o f = s.rf o f := by rw [State.rf, h, State.rf]

theorem flag_congr {o : Nat} (h : t.rd o = s.rd o) (f : Fld) : t.flag o f = s.flag o f := by rw [State.flag, rf_congr h, State.flag]

theorem SameLines.mark_eq (h : SameLines s t) (b : Nat) : t.mark b = s.mark b := by
  have up : t.hostUp = s.hostUp := flag_congr h.link _
  have code : t.hostCode b = s.hostCode b := by
    unfold State.hostCode
    cases hr : region b with
    | aperture w x =>
      have hw := region_aperture_lt hr
      have low : t.rd (PCI_APT w) = s.rd (PCI_APT w) := h.reg _ (by simp only [ReadReg, PCI_APT]; omega)
      have high : t.rd (PCI_APT w + 4) = s.rd (PCI_APT w + 4) := h.reg _ (by simp only [ReadReg, PCI_APT]; omega)
      have host : t.hostAddr w x = s.hostAddr w x := by
        unfold State.hostAddr State.rf64 State.rd64
        rw [low, high]
      simp only [up, host, h.hostBad]
    | _ => rfl
  simp only [State.mark, code, h.marks]

theorem SameLines.inJournal_eq (h : SameLines s t) (b : Nat) : t.inJournal b = s.inJournal b := by
  unfold State.inJournal State.journaled State.jrnlMib State.spanMib
  rw [h.jigBody]

/-- From a canonical state: `t` is canonical, and every byte and every mark reads in it as in `s`. -/
def KeepsLines (s t : State) : Prop := Canon s → Canon t ∧ SameLines s t

theorem KeepsLines.trans (h : KeepsLines s t) (h' : KeepsLines t u) : KeepsLines s u := fun hs =>
  have ⟨ht, st⟩ := h hs
  have ⟨hu, tu⟩ := h' ht
  ⟨hu, st.trans tu⟩

/-- An operation that keeps the stores, and the registers and the jig that they are read through, keeps every line. -/
theorem Kept.keepsLines_of_regs {m : Nat} (h : Kept m s t) (hr : KeepsRegs LineReg s t) (hj : t.jigBody = s.jigBody)
    (hm : ∀ p ∈ [Part.memory, .hostMemory, .accumulators, .clock, .hostSettings], m.testBit p.no = false := by decide) : KeepsLines s t := by
  intro hs
  obtain ⟨ht, reg⟩ := hr hs
  have ⟨mem, marks⟩ := Prod.mk.inj (h.1 .memory (hm _ (by simp)))
  have hostMem : t.hostMem = s.hostMem := h.1 .hostMemory (hm _ (by simp))
  have clock : t.clock = s.clock := h.1 .clock (hm _ (by simp))
  exact ⟨ht, {
    hostMem, clock, mem, marks
    accMem := (Prod.mk.inj (h.1 .accumulators (hm _ (by simp)))).1
    jigBody := hj
    reg := fun o ho => reg o (.inl ho)
    hostBad := (Prod.mk.inj (h.1 .hostSettings (hm _ (by simp)))).1
    link := reg _ (.inr rfl) }⟩

/-- An operation that keeps every part through which lines are read keeps every line. -/
theorem Kept.keepsLines {m : Nat} (h : Kept m s t)
    (hm : ∀ p ∈ [Part.memory, .hostMemory, .accumulators, .clock, .hostSettings], m.testBit p.no = false := by decide)
    (hreg : m.testBit Part.registers.no = false := by decide) (hjig : m.testBit Part.jig.no = false := by decide) : KeepsLines s t :=
  h.keepsLines_of_regs (h.keepsRegs hreg) (h.jigBody_eq hjig) hm

/-- A count in a register through which no line is read keeps every line. -/
theorem keepsLines_bump (s : State) {o : Nat} (k : Nat) (ho : (0x10000 ≤ o ∧ o + 4 < 0x20000) ∨ (0x60000 ≤ o ∧ o + 4 < 0x700000)) :
    KeepsLines s (s.bump o k) :=
  (State.bump_kept s o k).keepsLines_of_regs (keepsRegs_bump k (not_lineReg (by omega)) (not_lineReg (by omega))) ((State.bump_kept s o k).jigBody_eq)

/-- What touches the HBM block alone keeps every line. -/
theorem OnlyHbm.keepsLines (h : OnlyHbm s t) : KeepsLines s t :=
  h.1.keepsLines_of_regs (fun hs => ⟨hs.of_kept h.1, fun o ho => h.2 hs o (by
    have outside : ¬ ((0x10000 ≤ o ∧ o < 0x20000) ∨ (0x60000 ≤ o ∧ o < 0x700000)) := fun inside => not_lineReg inside ho
    omega)⟩) (h.1.jigBody_eq)

theorem keepsLines_cancelScrub (s : State) {a len : Nat} (ha : a % 64 + len ≤ 64) : KeepsLines s (s.cancelScrub a len) := by
  by_cases h : a < 0x6000000000
  · exact (onlyHbm_cancelScrub s fun l hl => by rw [lineAddrs_of_line ha l hl]; omega).keepsLines
  · unfold State.cancelScrub
    split
    next m o hr => exact absurd (region_hbm_iff.mp hr).1 h
    next => exact (Kept.refl 0 s).keepsLines

/-! ### A line written, and read back -/

section
variable (hs : Canon s) (ha : isMem a = true) {data : List Byte} (p : Bool)
include hs ha

/-- The mark written is read back, whatever the line held and wherever in it `a` lies (R294). -/
theorem putLine_mark_self : (s.putLine a data p).mark a = p :=
  mark_setMark_self ((hs.of_kept (State.cancelScrub_kept _ _ _)).of_kept (State.setBytes_kept _ _ _)) p ha

variable (hal : a % 64 = 0) (hd : data.length = 64)
include hal hd

theorem putLine_mark_ne {b : Nat} (hb : b / 64 ≠ a / 64) : (s.putLine a data p).mark b = s.mark b := by
  obtain ⟨hc, same⟩ := keepsLines_cancelScrub s (a := a) (len := 64) (by omega) hs
  rw [State.putLine, mark_setMark_ne (hc.of_kept (State.setBytes_kept _ _ _)) p ha hb,
    mark_setBytes fun i hi => isMem_line ha (by omega), same.mark_eq]

variable (hj : s.inJournal a = false)
include hj

theorem putLine_byte {i : Nat} (hi : i < data.length) : (s.putLine a data p).byte (a + i) = data[i] := by
  obtain ⟨hc, same⟩ := keepsLines_cancelScrub s (a := a) (len := 64) (by omega) hs
  rw [State.putLine, setMark_byte]
  exact setBytes_byte hc (fun j hj => isMem_line ha (by omega)) (fun j hj' => inJournal_line (same.inJournal_eq a ▸ hj) (by omega)) hi

/-- A line written is read back (R294). -/
theorem putLine_bytes : (s.putLine a data p).bytes a 64 = data := by
  refine List.ext_getElem (by simp [State.bytes, hd]) fun i hi hi' => ?_
  rw [getElem_bytes, putLine_byte hs ha p hal hd hj hi']

end

/-! ### A line marked with POISON_MARK -/

section
variable (hs : Canon s)
include hs

theorem markLine_mark_self (ha : isMem a = true) : (s.markLine a).mark a = true := by
  have hc : Canon (s.cancelScrub a 64) := hs.of_kept (State.cancelScrub_kept _ _ _)
  simp only [State.markLine, State.mark, isAperture_of_isMem ha, Bool.false_eq_true, if_false]
  exact sget_sput_self (dflt := fun _ => false) hc.marks

variable (hal : a % 64 = 0)
include hal

theorem markLine_mark_ne {b : Nat} (hb : b / 64 ≠ a / 64) : (s.markLine a).mark b = s.mark b := by
  obtain ⟨hc, same⟩ := keepsLines_cancelScrub s (a := a) (len := 64) (by omega) hs
  rw [← same.mark_eq]
  unfold State.mark
  split
  · rfl
  · exact sget_sput_ne (dflt := fun _ => false) hc.marks hb

/-- POISON_MARK keeps every byte outside its line (R320). -/
theorem markLine_byte_ne {b : Nat} (hb : b < a ∨ a + 64 ≤ b) : (s.markLine a).byte b = s.byte b := by
  obtain ⟨hc, same⟩ := keepsLines_cancelScrub s (a := a) (len := 64) (by omega) hs
  have view : SameView (s.cancelScrub a 64) (s.markLine a) :=
    { hostMem := rfl, accMem := rfl, clock := rfl, jigBody := rfl, reg := fun _ _ => rfl }
  exact (view.byte (sget_sdrop_out (dflt := fun _ => 0) hc.mem hb)).trans (same.byte_eq b)

/-- POISON_MARK leaves data 0 (R320). -/
theorem markLine_bytes (ha : isMem a = true) (hj : s.inJournal a = false) : (s.markLine a).bytes a 64 = List.replicate 64 0 := by
  obtain ⟨hc, same⟩ := keepsLines_cancelScrub s (a := a) (len := 64) (by omega) hs
  refine List.eq_replicate_iff.mpr ⟨by simp [State.bytes], fun x hx => ?_⟩
  obtain ⟨i, hi, rfl⟩ := List.mem_map.mp hx
  have hi := List.mem_range.mp hi
  have journal : (s.markLine a).inJournal (a + i) = false := inJournal_line (same.inJournal_eq a ▸ hj) (by omega)
  rw [byte_mem _ (isMem_line ha (by omega)) journal]
  exact sget_sdrop_in (dflt := fun _ => 0) hc.mem (by omega) (by omega)

end

end Sys2Proof.Machine
end

section
/-! ## The operation of a reducer -/
set_option Elab.async false
namespace Sys2Proof.Machine

variable {s t : State} {o : RedOp} {rest : List RedOp}

/-! ### The result line -/

theorem fmtBytes_cases (fmt : Nat) : fmtBytes fmt = 2 ∨ fmtBytes fmt = 4 ∨ fmtBytes fmt = 8 := by
  unfold fmtBytes
  split
  · exact .inl rfl
  · split
    · exact .inr (.inl rfl)
    · exact .inr (.inr rfl)

/-- The result is a whole line. -/
theorem redLine_length (op fmt : Nat) (d x : List Byte) : (redLine op fmt d x).1.length = 64 := by
  simp only [redLine, List.length_flatMap, leBytes_length, List.map_map, List.map_const', Function.comp_def, List.length_range,
    List.sum_replicate_nat]
  rcases fmtBytes_cases fmt with h | h | h <;> rw [h]

/-! ### What follows the store -/

theorem keepsRegs_countLine (s : State) {c : Nat} (hc : c < 256) (mark : Bool) : KeepsRegs LineReg s (s.countLine c mark) :=
  ((keepsRegs_bump 1 (not_lineReg (by unfold RDC_STAT_LINES; omega)) (not_lineReg (by unfold RDC_STAT_LINES; omega))).trans
    (keepsRegs_bump _ (not_lineReg (by unfold RDC_STAT_MARKS; omega)) (not_lineReg (by unfold RDC_STAT_MARKS; omega)))).trans
    (keepsRegs_wr _ (not_lineReg (by unfold RDC_CH_LINES; omega)))

theorem keepsLines_countLine (s : State) {c : Nat} (hc : c < 256) (mark : Bool) : KeepsLines s (s.countLine c mark) :=
  (State.countLine_kept s c mark).keepsLines_of_regs (keepsRegs_countLine s hc mark) (State.countLine_kept s c mark).jigBody_eq

/-- A record posted leaves the image in force, the rollback of a failed health check included (R566). -/
theorem postEvent_jigBody (s : State) (e : Event) : (s.postEvent e).jigBody = s.jigBody := by
  have failed (y : State) (fatal : Bool) : (y.healthFail fatal).jigBody = y.jigBody := by
    unfold State.healthFail
    split <;> rfl
  have sent : (s.postEvent e).jigBody = (((s.bump EVT_STAT_POSTED 1).logEvent e).healthFail (e.cls == 3)).jigBody := by
    unfold State.postEvent
    extract_lets posted q
    split
    · rfl
    · exact (State.loseRecord_kept _ _).jigBody_eq
  rw [sent, failed, (State.logEvent_kept _ _).jigBody_eq, (State.bump_kept _ _ _).jigBody_eq]

theorem postLim_jigBody (s : State) (on : Bool) (interval scope add code cls unit ctx : Nat) (d : Nat → List (Nat × Nat)) :
    (s.postLim on interval scope add code cls unit ctx d).jigBody = s.jigBody := by
  have limited : (s.limit on code scope interval 0 add).2.jigBody = s.jigBody := (State.limit_kept _ _ _ _ _ _ _).jigBody_eq
  unfold State.postLim State.postFirst
  split
  next h =>
    rw [h] at limited
    exact (postEvent_jigBody _ _).trans limited
  next h =>
    rw [h] at limited
    exact limited

theorem keepsLines_postLim (s : State) (on : Bool) (interval scope add code cls unit ctx : Nat) (d : Nat → List (Nat × Nat)) :
    KeepsLines s (s.postLim on interval scope add code cls unit ctx d) :=
  (State.postLim_kept ..).keepsLines_of_regs (keepsRegs_postLim (fun _ => EventReg.not_lineReg) _ _ _ _ _ _ _ _ _ _) (postLim_jigBody ..)

/-- A packet sent counts its bytes at its port, whichever that is (R340). -/
theorem keepsRegs_transmit (s : State) (p : Nat) (pk : Packet) : KeepsRegs LineReg s (s.transmit p pk) := by
  have counter {o : Nat} (h : o = IZP_STAT_TX_BYTES p ∨ o = IZP_STAT_TX_BYTES p + 4) : ¬ LineReg o := by
    unfold LineReg ReadReg DEV_DEBUG PWR_DOM_STATUS PCI_APT PCI_STATUS
    unfold IZP_STAT_TX_BYTES at h
    omega
  unfold State.transmit
  extract_lets pt sealed due
  have hdue : KeepsRegs LineReg s due := (State.setPort_kept _ _ _).keepsRegs
  exact (hdue.trans (keepsRegs_bump _ (counter (.inl rfl)) (counter (.inr rfl)))).trans
    (Kept.upd (M := 2 ^ Part.links.no) (Kept.refl _ _)).kept.keepsRegs

theorem keepsRegs_sendPacket (s : State) (pk : Packet) : KeepsRegs LineReg s (s.sendPacket pk).2 := by
  unfold State.sendPacket
  extract_lets gone
  split
  · exact .refl _ s
  · exact .refl _ s
  · split
    · exact .refl _ s
    · exact (Kept.upd (M := 2 ^ Part.links.no) (Kept.refl _ s)).kept.keepsRegs
  · split
    · exact .refl _ s
    · exact keepsRegs_transmit s _ _

theorem keepsRegs_reply (s : State) (pk ans : Packet) : KeepsRegs LineReg s (s.reply pk ans) := by
  unfold State.reply
  extract_lets answer
  have sent := keepsRegs_sendPacket s answer
  split
  next h =>
    rw [h] at sent
    exact sent
  next h =>
    rw [h] at sent
    exact sent.trans (keepsRegs_bump 1 (not_lineReg (by decide)) (not_lineReg (by decide)))

theorem keepsRegs_complReply (s : State) (pk : Packet) (status : Nat) (data : List Byte) (poison : Nat) :
    KeepsRegs LineReg s (s.complReply pk status data poison) := by
  unfold State.complReply
  split
  · extract_lets n
    exact .ite (keepsRegs_reply s pk _) (keepsRegs_reply s pk _)
  · exact keepsRegs_reply s pk _
  · exact keepsRegs_reply s pk _
  · exact keepsRegs_reply s pk _
  · exact keepsRegs_reply s pk _
  · exact .refl _ s

/-- The completion of a remote request leaves every line (R318). -/
theorem keepsLines_settleRemote (s : State) (o : RedOp) (bad : Bool) : KeepsLines s (s.settleRemote o bad) := by
  refine (State.settleRemote_kept s o bad).keepsLines_of_regs ?_ (State.settleRemote_kept s o bad).jigBody_eq
  unfold State.settleRemote
  split
  · exact .refl _ s
  · extract_lets same status
    exact .ite (Kept.upd (M := 2 ^ Part.reducers.no) (Kept.refl _ s)).kept.keepsRegs (keepsRegs_complReply s _ _ _ _)

/-! ### The operation -/

/-- The operation uses marked data: the operand it brings, or the line it reads (R316, R326). -/
def State.redUses (s : State) (o : RedOp) : Bool := o.op ≠ 8 && (o.poison || (o.op ≠ 7 && s.mark o.dst))

/-- The result is marked by POISON_MARK, or as its operands are (R320, R326). -/
theorem marked_eq_or_redUses (s : State) (o : RedOp) : (o.op == 8 || s.redUses o) = (o.op == 8 || o.poison || (o.op != 7 && s.mark o.dst)) := by
  by_cases h8 : o.op = 8
  · simp [h8]
  · have no8 : (o.op == 8) = false := beq_eq_false_iff_ne.mpr h8
    have no7 : (o.op != 7) = decide (o.op ≠ 7) := by rw [decide_not]; rfl
    rw [State.redUses, no8, no7, decide_eq_true h8, Bool.true_and, Bool.false_or, Bool.false_or]

/-- The destination line of an operation takes its result, marked where `used` is (R320, R329–R331). -/
def State.storeRed (s : State) (o : RedOp) (used : Bool) : State :=
  if o.op = 8 then s.markLine o.dst else s.putLine o.dst (redLine o.op o.fmt (s.bytes o.dst 64) o.src).1 used

/-- A marked line that the operation reads is counted. -/
def State.readRed (s : State) (c : Nat) (o : RedOp) : State :=
  s.bump (HBM_STAT_POISON_RD (c / 32)) (b2n (s.mark o.dst && o.op ≠ 7 && o.op ≠ 8))

/-- An operation at a mapped line that makes no local use of marked data stores its result, and leaves the lines alone after that. -/
theorem applyRed_storesLine {c : Nat} (hc : c < 256) (hmap : s.mapped o.dst = true) (huse : (s.redUses o && !o.remote.isSome) = false) :
    KeepsLines ((s.readRed c o).storeRed o (s.redUses o)) (s.applyRed c o) := by
  unfold State.applyRed
  extract_lets m remote ctx req event dropped old used read
  rw [if_neg (by simp [hmap])]
  split
  next line sat hline =>
    extract_lets stored counted summed limited final
    have hstored : (s.readRed c o).storeRed o (s.redUses o) = stored := by
      have result : (redLine o.op o.fmt ((s.readRed c o).bytes o.dst 64) o.src).1 = line := congrArg Prod.fst hline
      rw [State.storeRed, result]
      rfl
    have noUse : final = limited := if_neg (by
      have unused : (used && !remote) = false := huse
      simp [unused])
    have hcounted : KeepsLines stored counted :=
      ((keepsLines_countLine stored hc _).trans (keepsLines_bump _ _ (by unfold RDC_STAT_REMOTE m; omega))).trans
        (keepsLines_bump _ _ (by unfold RDC_STAT_POISON m; omega))
    have hsummed : KeepsLines counted summed := keepsLines_bump _ _ (by unfold RDC_STAT_SAT m; omega)
    have hlimited : KeepsLines summed limited := keepsLines_postLim _ _ _ _ _ _ _ _ _ _
    rw [hstored, noUse]
    exact (((hcounted.trans hsummed).trans hlimited).trans (keepsLines_settleRemote _ _ _)).trans (State.settleStage_kept _ _).keepsLines

theorem keepsLines_readRed (s : State) {c : Nat} (hc : c < 256) (o : RedOp) : KeepsLines s (s.readRed c o) :=
  keepsLines_bump _ _ (by unfold HBM_STAT_POISON_RD; omega)

section
variable (hs : Canon s) (ha : isMem o.dst = true) (hal : o.dst % 64 = 0) (used : Bool)
include hs ha

theorem storeRed_mark_self : (s.storeRed o used).mark o.dst = (o.op == 8 || used) := by
  unfold State.storeRed
  split
  next h => simp [h, markLine_mark_self hs ha]
  next h => simp [h, putLine_mark_self hs ha]

include hal

theorem storeRed_mark_ne {b : Nat} (hb : b / 64 ≠ o.dst / 64) : (s.storeRed o used).mark b = s.mark b := by
  unfold State.storeRed
  split
  · exact markLine_mark_ne hs hal hb
  · exact putLine_mark_ne hs ha used hal (redLine_length _ _ _ _) hb

theorem storeRed_byte_ne {b : Nat} (hb : b < o.dst ∨ o.dst + 64 ≤ b) : (s.storeRed o used).byte b = s.byte b := by
  unfold State.storeRed
  split
  · exact markLine_byte_ne hs hal hb
  · exact (keepsBytes_putLine s used ha hal (redLine_length _ _ _ _) hs).2 b hb

theorem storeRed_bytes (hj : s.inJournal o.dst = false) :
    (s.storeRed o used).bytes o.dst 64 = if o.op = 8 then List.replicate 64 0 else (redLine o.op o.fmt (s.bytes o.dst 64) o.src).1 := by
  unfold State.storeRed
  split
  · exact markLine_bytes hs hal ha hj
  · exact putLine_bytes hs ha used hal (redLine_length _ _ _ _) hj

end

/-- What an operation at a mapped line leaves of the lines (Table 8.6, R320, R326). -/
theorem applyRed_result (hs : Canon s) {c : Nat} (hc : c < 256) (hmap : s.mapped o.dst = true) (ha : isMem o.dst = true)
    (hj : s.inJournal o.dst = false) (hal : o.dst % 64 = 0) (huse : (s.redUses o && !o.remote.isSome) = false) :
    (s.applyRed c o).bytes o.dst 64 = (if o.op = 8 then List.replicate 64 0 else (redLine o.op o.fmt (s.bytes o.dst 64) o.src).1) ∧
      (s.applyRed c o).mark o.dst = (o.op == 8 || s.redUses o) ∧ bytesKeptOutside o.dst 64 s (s.applyRed c o) ∧
      ∀ b, b / 64 ≠ o.dst / 64 → (s.applyRed c o).mark b = s.mark b := by
  obtain ⟨hr, read⟩ := keepsLines_readRed s hc o hs
  have store : Kept 0x20000002038 (s.readRed c o) ((s.readRed c o).storeRed o (s.redUses o)) :=
    .ite ((State.markLine_kept _ _).mono (by decide)) (State.putLine_kept _ _ _ _)
  obtain ⟨_, after⟩ := applyRed_storesLine hc hmap huse (hr.of_kept store)
  refine ⟨?_, ?_, fun b hb => ?_, fun b hb => ?_⟩
  · rw [after.bytes_eq, storeRed_bytes hr ha hal _ (read.inJournal_eq _ ▸ hj), read.bytes_eq]
  · rw [after.mark_eq, storeRed_mark_self hr ha]
  · rw [after.byte_eq, storeRed_byte_ne hr ha hal _ hb, read.byte_eq]
  · rw [after.mark_eq, storeRed_mark_ne hr ha hal _ hb, read.mark_eq]

/-! ### The commands -/

/-- A reducer command whose operation is the oldest of its channel applies it (R324). -/
theorem runRed_of_oldest {c op : Nat} (hq : s.rdcOf c = o :: rest) (hop : o.op = op) : s.runRed c false op = (s.setRdc c rest).applyRed c o := by
  simp only [State.runRed, hq, hop, if_true, Bool.false_eq_true, if_false]

/-- A parity error on the reducer's path is reported, and the operation applied as one whose operand is marked (R321, log entry 50). -/
theorem runRed_of_parity {c op : Nat} (hq : s.rdcOf c = o :: rest) (hop : o.op = op) :
    s.runRed c true op =
      ((s.setRdc c rest).pathParity (unitOf 0xA c) 0xFF 6 (match o.remote with | some (_, pk) => ctxNat pk.ctx | none => ctxNat o.ctx)
        (s.glob o.dst)).applyRed c { o with poison := true, from_ := if o.poison then o.from_ else none } := by
  simp only [State.runRed, hq, hop, if_true]
  rfl

/-- Each of the eight commands runs its own operation (Table 8.6). -/
theorem exec_reducer {c : Fin 256} {i : Instr} {op : Nat}
    (h : (i, op) ∈ [(Instr.add c false, 1), (.max c false, 2), (.min c false, 3), (.xor c false, 4), (.maxIdx c false, 5), (.minIdx c false, 6),
      (.reducerWrite c false, 7), (.poisonMark c false, 8)]) (s : State) : exec i s = .next (s.runRed c false op) := by
  simp only [List.mem_cons, List.not_mem_nil, or_false, Prod.mk.injEq] at h
  rcases h with h | h | h | h | h | h | h | h
  all_goals
    obtain ⟨rfl, rfl⟩ := h
    rfl

/-- Settles O13: the oldest operation of its channel is taken and its result stored. -/
theorem reducerResult : Obligations.ReducerResult := by
  intro c i o rest s hs hq hi hmap ha hj hal huse
  let u := s.setRdc c rest
  have taken : KeepsLines s u := (State.setRdc_kept s c rest).keepsLines
  obtain ⟨hu, same⟩ := taken hs
  have noLocalUse : (u.redUses o && !o.remote.isSome) = false := by
    have mark : u.mark o.dst = s.mark o.dst := same.mark_eq _
    rcases huse with h | h | ⟨hp, h | h⟩
    · simp [State.redUses, h]
    · simp [h]
    · simp [State.redUses, h, hp]
    · simp [State.redUses, mark, h, hp]
  obtain ⟨bytes, mark, byteElse, markElse⟩ := applyRed_result hu c.isLt hmap ha (same.inJournal_eq _ ▸ hj) hal noLocalUse
  refine ⟨_, (exec_reducer hi s).trans (congrArg Host.Outcome.next (runRed_of_oldest hq rfl)), ?_, ?_, fun b hb => ?_, fun b hb => ?_⟩
  · rw [bytes, same.bytes_eq]
  · rw [mark, marked_eq_or_redUses, same.mark_eq]
  · exact (byteElse b hb).trans (same.byte_eq b)
  · exact (markElse b hb).trans (same.mark_eq b)

/-- Settles O40: each of the eight commands takes the oldest operation of its channel, without and with a parity error. -/
theorem reducerCommands : Obligations.ReducerCommands := by
  refine ⟨fun c o rest s hq => ?applied, fun c o rest s hq => ?parity⟩
  case applied =>
    refine ⟨fun h => ?_, fun h => ?_, fun h => ?_, fun h => ?_, fun h => ?_, fun h => ?_, fun h => ?_, fun h => ?_⟩
    all_goals exact congrArg Host.Outcome.next (runRed_of_oldest hq h)
  case parity =>
    refine ⟨fun h => ?_, fun h => ?_, fun h => ?_, fun h => ?_, fun h => ?_, fun h => ?_, fun h => ?_, fun h => ?_⟩
    all_goals exact congrArg Host.Outcome.next (runRed_of_parity hq h)

end Sys2Proof.Machine
end

section
/-! ## What the decoder makes of one wrong symbol and of two -/
set_option Elab.async false
namespace Sys2Proof.Machine

variable {s : State} {a : Nat}

/-- What the errors of a line add to its symbol `j`. -/
def errorAt (e : LineErr) (j : Nat) : BitVec 16 := e.foldl (fun v q => if q.1.val = j then v ^^^ q.2 else v) 0

theorem foldl_errors_eq_xor (e : LineErr) (j : Nat) (v : BitVec 16) :
    e.foldl (fun v q => if q.1.val = j then v ^^^ q.2 else v) v = v ^^^ errorAt e j := by
  induction e generalizing v with
  | nil => simp [errorAt]
  | cons q e ih =>
    rw [errorAt, List.foldl_cons, List.foldl_cons, ih, ih]
    split <;> simp [BitVec.xor_assoc]

@[simp] theorem errorAt_nil (j : Nat) : errorAt [] j = 0 := rfl

@[simp] theorem errorAt_cons (q : Fin 36 × BitVec 16) (e : LineErr) (j : Nat) :
    errorAt (q :: e) j = (if q.1.val = j then q.2 else 0) ^^^ errorAt e j := by
  rw [errorAt, List.foldl_cons, foldl_errors_eq_xor]
  split <;> simp

theorem eq_xor_iff {n : Nat} (v x : BitVec n) : v = v ^^^ x ↔ x = 0 := by
  refine ⟨fun h => ?_, fun h => by simp [h]⟩
  have cancelled : v ^^^ v = v ^^^ (v ^^^ x) := congrArg (v ^^^ ·) h
  rw [← BitVec.xor_assoc, BitVec.xor_self, BitVec.zero_xor] at cancelled
  exact cancelled.symm

theorem received_eq_map (w : List (BitVec 16)) (e : LineErr) : received w e = w.zipIdx.map fun x => x.1 ^^^ errorAt e x.2 := by
  simp only [received, foldl_errors_eq_xor]

theorem symbol_xor_zero (v : BitVec 16) : v ^^^ 0 = v := BitVec.xor_zero

theorem zero_xor_symbol (v : BitVec 16) : 0 ^^^ v = v := BitVec.zero_xor

/-- How many of `n` symbols the errors `e` change. -/
def wrongSymbols (n : Nat) (e : LineErr) : Nat := (List.range n).countP fun j => decide (errorAt e j ≠ 0)

/-- A symbol is received wrong where the errors add something to it. -/
theorem received_wrong_length (w : List (BitVec 16)) (e : LineErr) :
    ((w.zip (received w e)).filter fun x => x.1 != x.2).length = wrongSymbols w.length e := by
  have pairs : w.zip (received w e) = w.zipIdx.map fun x => (x.1, x.1 ^^^ errorAt e x.2) :=
    calc w.zip (received w e) = (w.zipIdx.map Prod.fst).zip (w.zipIdx.map fun x => x.1 ^^^ errorAt e x.2) := by
          rw [List.zipIdx_map_fst, received_eq_map]
      _ = _ := List.zip_map'
  have differs : ((fun x : BitVec 16 × BitVec 16 => x.1 != x.2) ∘ fun x : BitVec 16 × Nat => (x.1, x.1 ^^^ errorAt e x.2)) =
      (fun j => decide (errorAt e j ≠ 0)) ∘ Prod.snd := by
    funext x
    rw [Bool.eq_iff_iff]
    simp only [Function.comp_apply, bne_iff_ne, ne_eq, eq_xor_iff, decide_eq_true_eq]
  have symbols : w.zipIdx.map Prod.snd = List.range w.length := by rw [List.zipIdx_map_snd, List.range_eq_range']
  rw [← List.countP_eq_length_filter, pairs, List.countP_map, differs, ← List.countP_map, symbols, wrongSymbols]

/-- Of the first `n` numbers, two that differ are as many as lie below `n`. -/
theorem countP_range_pair {i j : Nat} (h : i ≠ j) (n : Nat) :
    (List.range n).countP (fun k => decide (k = i ∨ k = j)) = (if i < n then 1 else 0) + if j < n then 1 else 0 := by
  induction n with
  | zero => rfl
  | succ n ih =>
    rw [List.range_succ, List.countP_append, ih, List.countP_singleton]
    simp only [decide_eq_true_eq]
    repeat' split
    all_goals omega

theorem countP_range_single (i n : Nat) : (List.range n).countP (fun k => decide (k = i)) = if i < n then 1 else 0 := by
  induction n with
  | zero => rfl
  | succ n ih =>
    rw [List.range_succ, List.countP_append, ih, List.countP_singleton]
    simp only [decide_eq_true_eq]
    repeat' split
    all_goals omega

theorem errorAt_one_ne_zero_iff (i : Fin 36) {x : BitVec 16} (hx : x ≠ 0) (k : Nat) : errorAt [(i, x)] k ≠ 0 ↔ k = i.val := by
  rw [errorAt_cons, errorAt_nil, symbol_xor_zero]
  split
  next h => exact ⟨fun _ => h.symm, fun _ => hx⟩
  next h => exact ⟨fun no => absurd rfl no, fun eq => absurd eq.symm h⟩

theorem errorAt_two_ne_zero_iff {i j : Fin 36} {x y : BitVec 16} (hij : i ≠ j) (hx : x ≠ 0) (hy : y ≠ 0) (k : Nat) :
    errorAt [(i, x), (j, y)] k ≠ 0 ↔ k = i.val ∨ k = j.val := by
  rw [errorAt_cons]
  split
  next h =>
    have other : errorAt [(j, y)] k = 0 :=
      Decidable.not_not.mp fun no => hij (Fin.ext (h.trans ((errorAt_one_ne_zero_iff j hy k).mp no)))
    rw [other, symbol_xor_zero]
    exact ⟨fun _ => .inl h.symm, fun _ => hx⟩
  next h =>
    rw [zero_xor_symbol, errorAt_one_ne_zero_iff j hy]
    exact ⟨.inr, fun eq => eq.resolve_left fun eq => h eq.symm⟩

theorem wrongSymbols_one (i : Fin 36) {x : BitVec 16} (hx : x ≠ 0) : wrongSymbols 36 [(i, x)] = 1 := by
  simp only [wrongSymbols, errorAt_one_ne_zero_iff i hx]
  exact (countP_range_single i 36).trans (if_pos i.isLt)

theorem wrongSymbols_two {i j : Fin 36} {x y : BitVec 16} (hij : i ≠ j) (hx : x ≠ 0) (hy : y ≠ 0) :
    wrongSymbols 36 [(i, x), (j, y)] = 2 := by
  simp only [wrongSymbols, errorAt_two_ne_zero_iff hij hx hy]
  rw [countP_range_pair (Fin.val_ne_of_ne hij), if_pos i.isLt, if_pos j.isLt]

/-- One wrong symbol is corrected (R292). -/
theorem decodeLine_one (s : State) (a : Nat) (i : Fin 36) {x : BitVec 16} (hx : x ≠ 0) :
    s.decodeLine a [(i, x)] = ((.corrected, s.codeword a), s) := by
  have one : (((s.codeword a).zip (received (s.codeword a) [(i, x)])).filter fun x => x.1 != x.2).length = 1 := by
    rw [received_wrong_length, codeword_length, wrongSymbols_one i hx]
  simp [State.decodeLine, one]

/-- Two wrong symbols are uncorrectable (R292). -/
theorem decodeLine_two (s : State) (a : Nat) {i j : Fin 36} {x y : BitVec 16} (hij : i ≠ j) (hx : x ≠ 0) (hy : y ≠ 0) :
    s.decodeLine a [(i, x), (j, y)] = ((.uncorrectable, received (s.codeword a) [(i, x), (j, y)]), s) := by
  have two : (((s.codeword a).zip (received (s.codeword a) [(i, x), (j, y)])).filter fun x => x.1 != x.2).length = 2 := by
    rw [received_wrong_length, codeword_length, wrongSymbols_two hij hx hy]
  simp [State.decodeLine, two]

/-- The metadata symbol stored for a line is its mark (R291). -/
theorem wordMark_codeword (s : State) (a : Nat) : wordMark (s.codeword a) = s.mark a := by
  have meta_ : (s.codeword a)[32]? = some (if s.mark a then 1 else 0) := by simp [State.codeword]
  rw [wordMark, meta_]
  cases s.mark a <;> rfl

/-! ### Reads of lines received with such errors (Table 8.1) -/

variable (s a) (src ctx : Nat)

/-- A line with one wrong symbol is answered as stored, and written back. -/
theorem lineRead_one (i : Fin 36) {x : BitVec 16} (hx : x ≠ 0) (r : LineErr) :
    s.lineRead a [(i, x)] r src ctx = ((s.bytes a 64, s.mark a),
      (((s.writeBack a (s.codeword a) src).bump (HBM_STAT_CE (a / 0xC00000000)) 1).corrected (s.readerOf a src) src ctx).bump
        (HBM_STAT_POISON_RD (a / 0xC00000000)) (b2n (s.mark a))) := by
  simp only [State.lineRead, decodeLine_one s a i hx, wordBytes_codeword, wordMark_codeword]

section
variable {i j : Fin 36} {x y : BitVec 16} (hij : i ≠ j) (hx : x ≠ 0) (hy : y ≠ 0)
include hij hx hy

/-- A line uncorrectable on the read alone is answered as stored. -/
theorem lineRead_two_retried :
    s.lineRead a [(i, x), (j, y)] [] src ctx = ((s.bytes a 64, s.mark a),
      ((s.bump (HBM_STAT_RETRY_OK (a / 0xC00000000)) 1).corrected (s.readerOf a src) src ctx).bump
        (HBM_STAT_POISON_RD (a / 0xC00000000)) (b2n (s.mark a))) := by
  simp only [State.lineRead, decodeLine_two s a hij hx hy, decodeLine_nil, wordBytes_codeword, wordMark_codeword]

/-- A line uncorrectable on its re-read too is answered marked, and kept as received (R293). -/
theorem lineRead_two_two :
    let w := received (s.codeword a) [(i, x), (j, y)]
    s.lineRead a [(i, x), (j, y)] [(i, x), (j, y)] src ctx =
      ((wordBytes w, true), s.uncorrectable a w (s.readerOf a src) src ctx) := by
  simp only [State.lineRead, decodeLine_two s a hij hx hy]

end

end Sys2Proof.Machine
end

section
/-! ## Writes of lines of HBM and of the infeed stores, and the marks that reads leave -/
set_option Elab.async false
namespace Sys2Proof.Machine

variable {s t : State} {a : Nat}

theorem Kept.mark_eq {m b : Nat} (h : Kept m s t) (hb : isMem b = true) (hm : m.testBit Part.memory.no = false := by decide) : t.mark b = s.mark b := by
  have marks : t.marks = s.marks := (Prod.mk.inj (h.1 .memory hm)).2
  simp only [State.mark, isAperture_of_isMem hb, Bool.false_eq_true, if_false, marks]

theorem Kept.stack_eq {m : Nat} (h : Kept m s t) (j : Nat) (hm : m.testBit Part.hbmStacks.no = false := by decide) : t.stack j = s.stack j := by
  have same : t.hbmStacks = s.hbmStacks := h.1 .hbmStacks hm
  simp only [State.stack, same]

theorem KeepsBytes.bytes_eq (h : KeepsBytes (fun _ => True) s t) (hs : Canon s) (a k : Nat) : t.bytes a k = s.bytes a k :=
  List.map_congr_left fun _ _ => (h hs).2 _ trivial

/-- A line has one mark (R312). -/
theorem mark_eq_of_line (s : State) {b : Nat} (ha : isMem a = true) (hb : isMem b = true) (h : a / 64 = b / 64) : s.mark a = s.mark b := by
  simp only [State.mark, isAperture_of_isMem ha, isAperture_of_isMem hb, Bool.false_eq_true, if_false, h]

theorem region_mem_of_hbm {m o : Nat} (h : region a = .hbm m o) : isMem a = true := by simp only [isMem, h]

/-! ### Marks -/

/-- Beside the line written back marked, an uncorrectable line leaves counts, the record of the error and events (R293, R299). -/
theorem uncorrectable_kept_putLine (s : State) (a : Nat) (w : List (BitVec 16)) (ch src ctx : Nat) :
    Kept 0x242002000008 (s.putLine a (wordBytes w) true) (s.uncorrectable a w ch src ctx) := by
  unfold State.uncorrectable
  extract_lets m pc counted recorded
  have hcounted : Kept 0x242002000008 (s.putLine a (wordBytes w) true) counted :=
    ((Kept.refl _ _).step (State.bump_kept _ _ _)).step (State.incF_kept _ _ _ _)
  have hrecorded : Kept 0x242002000008 (s.putLine a (wordBytes w) true) recorded :=
    .ite hcounted ((hcounted.step (State.wr_kept _ _ _)).step (State.wr64_kept _ _ _))
  exact .ite (hrecorded.step (State.post_kept _ _ _ _ _ _))
    ((hrecorded.step (State.channelEvent_kept _ _ _)).step (State.post_kept _ _ _ _ _ _))

theorem uncorrectable_mark (hs : Canon s) (ha : isMem a = true) (w : List (BitVec 16)) (ch src ctx : Nat) :
    (s.uncorrectable a w ch src ctx).mark a = true := by
  rw [(uncorrectable_kept_putLine s a w ch src ctx).mark_eq ha, putLine_mark_self hs ha]

theorem writeBack_of_demand (s : State) (a : Nat) (w : List (BitVec 16)) {src : Nat} (h : src ≠ 1) :
    s.writeBack a w src = s.putLine a (wordBytes w) (wordMark w) := by rw [State.writeBack, if_neg h]

/-- A corrected line keeps its mark (R293). -/
theorem lineRead_one_mark (hs : Canon s) (ha : isMem a = true) (i : Fin 36) {x : BitVec 16} (hx : x ≠ 0) (r : LineErr) {src : Nat} (hsrc : src ≠ 1)
    (ctx : Nat) : (s.lineRead a [(i, x)] r src ctx).2.mark a = s.mark a := by
  have after : Kept 0x242000002008 (s.writeBack a (s.codeword a) src) (s.lineRead a [(i, x)] r src ctx).2 := by
    rw [lineRead_one s a src ctx i hx r]
    exact (((Kept.refl _ _).step (State.bump_kept _ _ _)).step (State.corrected_kept _ _ _ _)).step (State.bump_kept _ _ _)
  rw [after.mark_eq ha, writeBack_of_demand s a _ hsrc, putLine_mark_self hs ha, wordMark_codeword]

/-! ### Reads -/

theorem execHbmLineRead_mapped {a : Addr} (ha : a.toNat < 0x6000000000) (h : s.mapped (a.toNat / 64 * 64) = true) (d r : LineErr) (src : ErrSource)
    (req : Requester) (ctx : Option (BitVec 8)) :
    execHbmLineRead a d r src req ctx s = .next (
      let x := s.lineRead (a.toNat / 64 * 64) d r (srcCode src) (ctxNat ctx)
      { x.2 with resp := { data := x.1.1, poison := x.1.2 } }) := by
  rw [execHbmLineRead_of_hbm ha]
  simp only [h, if_true]


theorem execHbmLineRead_unmapped {a : Addr} (ha : a.toNat < 0x6000000000) (h : s.mapped (a.toNat / 64 * 64) = false) (d r : LineErr) (src : ErrSource)
    (req : Requester) (ctx : Option (BitVec 8)) :
    execHbmLineRead a d r src req ctx s = .next { s.unmappedEvent req ctx (s.glob (a.toNat / 64 * 64)) false with
      resp := { data := List.replicate 64 0, poison := true } } := by
  rw [execHbmLineRead_of_hbm ha]
  simp only [h, Bool.false_eq_true, if_false]

/-! ### Writes -/

section
variable {a : Addr} {data : List Byte} {p : Bool} {d r : LineErr} {req : Requester} {m o : Nat}

theorem execHbmLineWrite_of_hbm (hr : region a.toNat = .hbm m o) (hl : inLine a.toNat data.length = true) :
    execHbmLineWrite a data p d r req s = .next (
      if s.mapped a.toNat then s.hbmWrite a.toNat data p d r else s.unmappedEvent req none (s.glob a.toNat) true) := by
  simp only [execHbmLineWrite, hr, hl, Bool.not_true, Bool.false_eq_true, if_false]
  cases s.mapped a.toNat <;> rfl

theorem execInfeedLineWrite_of_infeed (hr : region a.toNat = .infeed m o) (hl : inLine a.toNat data.length = true) (hmap : s.mapped a.toNat = true) :
    execInfeedLineWrite a data p req s = .next (s.infeedWrite m a.toNat data p) := by
  simp only [execInfeedLineWrite, hr, hl, hmap, Bool.not_true, Bool.false_eq_true, if_false]

end

/-- A part that replaces others of a line is read back in its place. -/
theorem getElem_merge_self {old data : List Byte} {k i : Nat} (hk : k ≤ old.length) (hi : i < data.length)
    (h : k + i < (old.take k ++ data ++ old.drop (k + data.length)).length) :
    (old.take k ++ data ++ old.drop (k + data.length))[k + i] = data[i] := by
  have front : (old.take k).length = k := by rw [List.length_take]; omega
  rw [List.getElem_append_left (by rw [List.length_append]; omega), List.getElem_append_right (by omega)]
  simp only [front, Nat.add_sub_cancel_left]

section
variable (hs : Canon s) (ha : a < 0x6000000000) {data : List Byte} (hl : a % 64 + data.length ≤ 64) (p : Bool)
include hs ha hl

/-- Part of a line merged into a line and written is read back (R294). -/
theorem putLine_merge_bytes {old : List Byte} (hold : old.length = 64) :
    (s.putLine (a / 64 * 64) (old.take (a % 64) ++ data ++ old.drop (a % 64 + data.length)) p).bytes a data.length = data := by
  have merged : (old.take (a % 64) ++ data ++ old.drop (a % 64 + data.length)).length = 64 := by
    simp only [List.length_append, List.length_take, List.length_drop, hold]
    omega
  have mem : isMem (a / 64 * 64) = true := (isMem_iff _).mpr (.inl (by omega))
  refine List.ext_getElem (by simp [State.bytes]) fun i hi hi' => ?_
  have stored := putLine_byte hs mem p (Nat.mul_mod_left _ _) merged (inJournal_hbm s (by omega)) (i := a % 64 + i) (by omega)
  rw [getElem_bytes, show a + i = a / 64 * 64 + (a % 64 + i) by omega, stored]
  exact getElem_merge_self (by omega) hi' _

/-- A part written where the read meets no error is read back, under its own mark or that of the line (R294). -/
theorem hbmWrite_part (hpart : data.length ≠ 64) (r : LineErr) :
    (s.hbmWrite a data p [] r).bytes a data.length = data ∧ (s.hbmWrite a data p [] r).mark a = (p || s.mark a) := by
  let l := a / 64 * 64
  let u := s.bump (HBM_STAT_PARTIAL (a / 0xC00000000)) 1
  let v := u.bump (HBM_STAT_POISON_RD (l / 0xC00000000)) (b2n (wordMark (u.codeword l)))
  have hv : Canon v := (hs.of_kept (State.bump_kept _ _ _)).of_kept (State.bump_kept _ _ _)
  have written : s.hbmWrite a data p [] r =
      v.putLine l ((u.bytes l 64).take (a % 64) ++ data ++ (u.bytes l 64).drop (a % 64 + data.length)) (p || wordMark (u.codeword l)) := by
    rw [hbmWrite_of_part s a hpart, lineRead_nil]
  have mem : isMem l = true := (isMem_iff _).mpr (.inl (by omega))
  have here (w : State) : w.mark a = w.mark l :=
    mark_eq_of_line w ((isMem_iff _).mpr (.inl ha)) mem (Nat.mul_div_cancel _ (by decide)).symm
  rw [written]
  refine ⟨putLine_merge_bytes hv ha hl _ (by simp [State.bytes]), ?_⟩
  rw [here, here, putLine_mark_self hv mem, wordMark_codeword, (State.bump_kept s _ _).mark_eq mem]

end

/-- A write of an infeed store is read back, and a partial one merges its mark with the line's (R623). -/
theorem infeedWrite_result (hs : Canon s) {n : Nat} (hn : n < 8) (ha : isMem a = true) (hj : s.inJournal a = false) {data : List Byte}
    (hl : a % 64 + data.length ≤ 64) (p : Bool) :
    (s.infeedWrite n a data p).bytes a data.length = data ∧
      (s.infeedWrite n a data p).mark a = (p || (data.length != 64 && s.mark a)) := by
  have mem (i : Nat) (hi : i < data.length) : isMem (a + i) = true := isMem_line ha (by omega)
  have hb : Canon (s.setBytes a data) := hs.of_kept (State.setBytes_kept _ _ _)
  constructor
  · have counted : KeepsBytes (fun _ => True) (s.setBytes a data) (s.infeedWrite n a data p) :=
      (keepsBytes_setMark _ _ _).trans (keepsBytes_bump _ (by unfold INF_STAT_WR_BYTES; omega))
    rw [counted.bytes_eq hb, bytes_setBytes hs mem fun i hi => inJournal_line hj (by omega)]
  · rw [State.infeedWrite, (State.bump_kept _ _ _).mark_eq ha, mark_setMark_self hb _ ha]
    by_cases whole : data.length = 64
    · simp [whole]
    · rw [if_neg whole, bne_iff_ne.mpr whole, Bool.true_and]

end Sys2Proof.Machine
end

section
/-! ## The position of the scrubs -/
set_option Elab.async false
namespace Sys2Proof.Machine

variable {k : Nat} {s t u : State} {a : Nat}

/-- From a canonical state: `t` is canonical, and keeps the scrub position of stack `k` and how far the scrub of each channel has read. -/
def KeepsScrub (k : Nat) (s t : State) : Prop :=
  Canon s → Canon t ∧ (∀ j, (t.stack j).scrub = (s.stack j).scrub) ∧ t.rd (HBM_SCRUB_POS k) = s.rd (HBM_SCRUB_POS k)

theorem KeepsScrub.refl (k : Nat) (s : State) : KeepsScrub k s s := fun hs => ⟨hs, fun _ => rfl, rfl⟩

theorem KeepsScrub.trans (h : KeepsScrub k s t) (h' : KeepsScrub k t u) : KeepsScrub k s u := fun hs =>
  have ⟨ht, st, pos⟩ := h hs
  have ⟨hu, tu, pos'⟩ := h' ht
  ⟨hu, fun j => (tu j).trans (st j), pos'.trans pos⟩

theorem KeepsScrub.ite {c : Prop} [Decidable c] (ht : KeepsScrub k s t) (hu : KeepsScrub k s u) : KeepsScrub k s (if c then t else u) := by
  split <;> assumption

theorem KeepsScrub.foldl {α : Type} {f : State → α → State} {as : List α} (hf : ∀ y e, KeepsScrub k y (f y e)) (s : State) :
    KeepsScrub k s (as.foldl f s) := foldl_keeps (KeepsScrub k s) (.refl k s) fun y e h => h.trans (hf y e)

/-- What keeps the stacks keeps the scrubs where it keeps the register of their position. -/
theorem Kept.keepsScrub_of_regs {m : Nat} (h : Kept m s t) (hr : KeepsRegs (· = HBM_SCRUB_POS k) s t)
    (hm : m.testBit Part.hbmStacks.no = false := by decide) : KeepsScrub k s t := fun hs =>
  have ⟨ht, pos⟩ := hr hs
  ⟨ht, fun j => congrArg Stack.scrub (h.stack_eq j hm), pos _ rfl⟩

theorem Kept.keepsScrub {m : Nat} (h : Kept m s t) (hm : m.testBit Part.hbmStacks.no = false := by decide)
    (hreg : m.testBit Part.registers.no = false := by decide) : KeepsScrub k s t := h.keepsScrub_of_regs (h.keepsRegs hreg) hm

theorem keepsScrub_setStack (s : State) (m : Nat) {x : Stack} (hx : x.scrub = (s.stack m).scrub) : KeepsScrub k s (s.setStack m x) := by
  refine fun hs => ⟨hs.of_kept (State.setStack_kept s m x), fun j => ?_, rfl⟩
  by_cases h : j = m
  · rw [h, setStack_stack hs, hx]
  · rw [setStack_stack_ne hs x h]

theorem keepsScrub_wr (s : State) {o : Nat} (v : Word) (ho : o ≠ HBM_SCRUB_POS k) : KeepsScrub k s (s.wr o v) :=
  (State.wr_kept s o v).keepsScrub_of_regs (keepsRegs_wr v ho)

theorem keepsScrub_wr64 (s : State) {o : Nat} (v : Nat) (ho : o ≠ HBM_SCRUB_POS k) (ho4 : o + 4 ≠ HBM_SCRUB_POS k) : KeepsScrub k s (s.wr64 o v) :=
  (keepsScrub_wr s _ ho).trans (keepsScrub_wr _ _ ho4)

theorem keepsScrub_bump (s : State) {o : Nat} (n : Nat) (ho : o ≠ HBM_SCRUB_POS k) (ho4 : o + 4 ≠ HBM_SCRUB_POS k) : KeepsScrub k s (s.bump o n) :=
  (State.bump_kept s o n).keepsScrub_of_regs (keepsRegs_bump n ho ho4)

theorem keepsScrub_post (s : State) (code cls unit ctx : Nat) (d : List (Nat × Nat)) : KeepsScrub k s (s.post code cls unit ctx d) :=
  (State.post_kept s code cls unit ctx d).keepsScrub_of_regs (keepsRegs_post (by
    intro o ho
    unfold EventReg at ho
    unfold HBM_SCRUB_POS
    omega) s code cls unit ctx d)

/-! ### Writes of lines -/

theorem keepsScrub_countPoison (s : State) (m n : Nat) : KeepsScrub k s (s.bump (HBM_STAT_POISON_RD m) n) :=
  keepsScrub_bump s n (by unfold HBM_STAT_POISON_RD HBM_SCRUB_POS; omega) (by unfold HBM_STAT_POISON_RD HBM_SCRUB_POS; omega)

theorem keepsScrub_writeFresh (s : State) (l : Nat) : KeepsScrub k s (s.writeFresh l) := by
  unfold State.writeFresh
  extract_lets m
  refine .ite (.refl k s) ((keepsScrub_countPoison s m _).trans (keepsScrub_setStack _ m ?_))
  rw [(State.bump_kept s _ _).stack_eq]

theorem keepsScrub_cancelScrub (s : State) (a len : Nat) : KeepsScrub k s (s.cancelScrub a len) := by
  unfold State.cancelScrub
  split
  next m o _ =>
    extract_lets x rest
    have hrest : KeepsScrub k s rest := .ite (.refl k s) (keepsScrub_setStack s m rfl)
    exact hrest.trans (.ite (.foldl (fun y l => keepsScrub_writeFresh y l) rest) (.refl k rest))
  next => exact .refl k s

theorem keepsScrub_putLine (s : State) (a : Nat) (data : List Byte) (p : Bool) : KeepsScrub k s (s.putLine a data p) :=
  ((keepsScrub_cancelScrub s a 64).trans (State.setBytes_kept _ _ _).keepsScrub).trans (State.setMark_kept _ _ _).keepsScrub

/-- The write-backs of a scrub leave its position (R298). -/
theorem keepsScrub_scrubBack (s : State) (c : Nat) : KeepsScrub k s (s.scrubBack c) := by
  unfold State.scrubBack
  extract_lets m x due taken
  have htaken : KeepsScrub k s taken := keepsScrub_setStack s m rfl
  exact htaken.trans (.foldl (fun y e => .ite ((keepsScrub_putLine y _ _ _).trans (keepsScrub_bump _ 1
    (by unfold HBM_STAT_SCRUB_FIX HBM_SCRUB_POS; omega) (by unfold HBM_STAT_SCRUB_FIX HBM_SCRUB_POS; omega))) (.refl k y)) taken)

/-! ### Reads of lines -/

theorem keepsScrub_corrected (s : State) (ch src ctx : Nat) : KeepsScrub k s (s.corrected ch src ctx) := by
  unfold State.corrected
  extract_lets m counted x recent noted
  have hcounted : KeepsScrub k s counted := keepsScrub_wr s _ (by unfold HBM_CH_ERR HBM_SCRUB_POS; omega)
  have hnoted : KeepsScrub k s noted := hcounted.trans (keepsScrub_setStack counted m rfl)
  have limited : KeepsScrub k s (noted.limit (noted.flag (HBM_CTRL m) HBM_CTRL_CE_EVT_EN) 0x800 m ms (ch + 256 * src) 1).2 :=
    hnoted.trans (State.limit_kept _ _ _ _ _ _ _).keepsScrub
  split
  next h =>
    rw [h] at limited
    exact limited.trans (keepsScrub_post _ _ _ _ _ _)
  next h =>
    rw [h] at limited
    exact limited

theorem keepsScrub_uncorrectable (s : State) (a : Nat) (w : List (BitVec 16)) (ch src ctx : Nat) : KeepsScrub k s (s.uncorrectable a w ch src ctx) := by
  unfold State.uncorrectable
  extract_lets m pc counted recorded
  have hcounted : KeepsScrub k s counted :=
    ((keepsScrub_putLine s a _ _).trans (keepsScrub_bump _ 1 (by unfold HBM_STAT_UE HBM_SCRUB_POS; omega)
      (by unfold HBM_STAT_UE HBM_SCRUB_POS; omega))).trans (keepsScrub_wr _ _ (by unfold HBM_CH_ERR HBM_SCRUB_POS; omega))
  have hrecorded : KeepsScrub k s recorded :=
    hcounted.trans (.ite (.refl k _) ((keepsScrub_wr _ _ (by unfold HBM_ERR_INFO HBM_SCRUB_POS; omega)).trans
      (keepsScrub_wr64 _ _ (by unfold HBM_ERR_ADDR HBM_SCRUB_POS; omega) (by unfold HBM_ERR_ADDR HBM_SCRUB_POS; omega))))
  exact .ite (hrecorded.trans (keepsScrub_post _ _ _ _ _ _))
    ((hrecorded.trans (State.channelEvent_kept _ _ _).keepsScrub).trans (keepsScrub_post _ _ _ _ _ _))

theorem keepsScrub_writeBack (s : State) (a : Nat) (w : List (BitVec 16)) (src : Nat) : KeepsScrub k s (s.writeBack a w src) :=
  .ite (keepsScrub_setStack s _ rfl) (keepsScrub_putLine s _ _ _)

/-- The read of a line leaves the position of every scrub (R297). -/
theorem keepsScrub_lineRead (s : State) (a : Nat) (d r : LineErr) (src ctx : Nat) : KeepsScrub k s (s.lineRead a d r src ctx).2 := by
  have decoded (y : State) (e : LineErr) : KeepsScrub k y (y.decodeLine a e).2 := (State.decodeLine_kept y a e).keepsScrub
  unfold State.lineRead
  extract_lets ch m answer
  have answered {w : List (BitVec 16)} {y : State} (hy : KeepsScrub k s y) : KeepsScrub k s (answer w y).2 := hy.trans (keepsScrub_countPoison y m _)
  have retried (y : State) : KeepsScrub k y (y.bump (HBM_STAT_RETRY_OK m) 1) :=
    keepsScrub_bump y 1 (by unfold HBM_STAT_RETRY_OK HBM_SCRUB_POS; omega) (by unfold HBM_STAT_RETRY_OK HBM_SCRUB_POS; omega)
  have first := decoded s d
  split
  next w y h =>
    rw [h] at first
    exact answered first
  next w y h =>
    rw [h] at first
    exact answered (((first.trans (keepsScrub_writeBack y a w src)).trans (keepsScrub_bump _ 1 (by unfold HBM_STAT_CE HBM_SCRUB_POS; omega)
      (by unfold HBM_STAT_CE HBM_SCRUB_POS; omega))).trans (keepsScrub_corrected _ ch src ctx))
  next v y h =>
    rw [h] at first
    have again := first.trans (decoded y r)
    split
    next w z h =>
      rw [h] at again
      exact again.trans (keepsScrub_uncorrectable z a w ch src ctx)
    next w z h =>
      rw [h] at again
      exact answered (((again.trans (keepsScrub_writeBack z a w src)).trans (retried _)).trans (keepsScrub_corrected _ ch src ctx))
    next w z h =>
      rw [h] at again
      exact answered ((again.trans (retried z)).trans (keepsScrub_corrected _ ch src ctx))

/-! ### SCRUB_READ -/

/-- Mapped lines of a stack that its channels' scrubs have read, of those that each holds while `h` granules of its own are mapped (R297). -/
def scrubbedLines (order : List Nat) (h : Nat) (done : Sparse Nat) : Nat := done.foldl (fun k e => k + min e.2 (heldLines order h e.1)) 0

/-- The pass of stack `m` ends (R297). -/
def State.endScrubPass (s : State) (m : Nat) : State :=
  ((s.setStack m { s.stack m with scrub := [] }).wf (HBM_SCRUB_POS m) HBM_SCRUB_POS_PROGRESS 0).incF (HBM_SCRUB_POS m) HBM_SCRUB_POS_PASSES 1

/-- A channel whose scrub has a line left reads it, and the pass goes on or ends (R297–R299). -/
theorem execScrubRead_of_line (hs : Canon s) {c : Fin 256} (d r : LineErr) {o : Nat} (hup : s.flag (HBM_STATUS (c.val / 32)) HBM_STATUS_UP = true)
    (hen : s.flag (HBM_CTRL (c.val / 32)) HBM_CTRL_SCRUB_EN = true) (ho : (s.scrubBack c).scrubNext c = some o) :
    let m := c.val / 32
    let u := s.scrubBack c
    let h := u.rf (HBM_HOLE m) HBM_HOLE_START * 8192
    let v := (u.lineRead (0xC00000000 * m + o) d r 1 0xFFFF).2
    let done := sput 0 (sget 0 (u.stack m).scrub (c % 32) + 1) (u.stack m).scrub (c % 32)
    let sum := scrubbedLines (u.stack m).order h done
    let y := v.setStack m { v.stack m with scrub := done }
    execScrubRead c d r s = .next (
      if 128 * h ≤ sum then y.endScrubPass m else y.wf (HBM_SCRUB_POS m) HBM_SCRUB_POS_PROGRESS (sum * 1000 / (128 * h))) := by
  intro m u h v done sum y
  obtain ⟨hu, -, -⟩ := keepsScrub_scrubBack (k := m) s c hs
  obtain ⟨hv, scrub, -⟩ := keepsScrub_lineRead (k := m) u (0xC00000000 * m + o) d r 1 0xFFFF hu
  have line : lineAt h (heldSpots (u.stack m).order (c % 32)) (sget 0 (u.stack m).scrub (c % 32)) = some o := ho
  have kept : (v.stack m).scrub = (u.stack m).scrub := scrub m
  refine congrArg Host.Outcome.next ((if_neg (by rw [hup, hen]; decide)).trans ?_)
  extract_lets order hole i next x read
  have hnext : next = y := by
    unfold next order i hole
    simp only [u, m] at line
    rw [line]
    dsimp only
    rw [kept]
  have hx : x = y.stack m := congrArg (State.stack · m) hnext
  have hread : read = sum := congrArg (scrubbedLines order hole) (by rw [hx, setStack_stack hv])
  rw [hread, hx, hnext]
  rfl

end Sys2Proof.Machine
end

section
/-! ## The obligation on lines of HBM and of the infeed stores -/
set_option Elab.async false
namespace Sys2Proof.Machine

variable {s : State}

/-- The end of a pass clears the progress and counts the pass (R297). -/
theorem endScrubPass_result (hs : Canon s) (m : Nat) :
    ((s.endScrubPass m).stack m).scrub = [] ∧ (s.endScrubPass m).rf (HBM_SCRUB_POS m) HBM_SCRUB_POS_PROGRESS = 0 ∧
      (s.endScrubPass m).rf (HBM_SCRUB_POS m) HBM_SCRUB_POS_PASSES = satTo 65535 (s.rf (HBM_SCRUB_POS m) HBM_SCRUB_POS_PASSES + 1) := by
  let x := s.setStack m { s.stack m with scrub := [] }
  let y := x.wf (HBM_SCRUB_POS m) HBM_SCRUB_POS_PROGRESS 0
  have hx : Canon x := hs.of_kept (State.setStack_kept _ _ _)
  have hy : Canon y := hx.of_kept (State.wf_kept _ _ _ _)
  have passes : y.rf (HBM_SCRUB_POS m) HBM_SCRUB_POS_PASSES = s.rf (HBM_SCRUB_POS m) HBM_SCRUB_POS_PASSES :=
    rf_wf_other hx _ _ _ _ (by decide) (by decide)
  have fits : satTo 65535 (s.rf (HBM_SCRUB_POS m) HBM_SCRUB_POS_PASSES + 1) < 2 ^ 16 := by grind [satTo]
  refine ⟨congrArg Stack.scrub (setStack_stack hs m { s.stack m with scrub := [] }), ?_, ?_⟩
  · exact (rf_wf_other hy _ _ _ _ (by decide) (by decide)).trans (rf_wf_self hx _ _ _ (by decide))
  · refine (rf_wf_self hy _ _ _ (by decide)).trans ?_
    rw [passes]
    exact Nat.mod_eq_of_lt fits

theorem execCorrectionRate_of_many {c : Fin 256}
    (h : 1000 ≤ ((sget [] (s.stack (c / 32)).ce (c % 32)).filter fun t => decide (s.clock < t + msHour)).length) :
    execCorrectionRate c s =
      .next ((s.setStack (c / 32) { s.stack (c / 32) with ce := sput [] [] (s.stack (c / 32)).ce (c % 32) }).channelEvent c 2) :=
  congrArg Host.Outcome.next (if_neg (Nat.not_lt.mpr h))

/-- Settles O38: reads of lines, what the decoder makes of errors, writes of lines and of parts, the scrub and the correction count. -/
theorem memoryLines : Obligations.MemoryLines := by
  refine ⟨?read, ?unread, ?decode, ?answer, ?whole, ?part, ?merge, ?unmapped, ?infeed, ?scrub, ?rate⟩
  case read =>
    intro a d r src req ctx m o s
    dsimp only
    intro hr hmap
    have ha := (region_hbm_iff.mp hr).1
    refine ⟨execHbmLineRead_mapped (by omega) hmap d r src req ctx, fun hd => ?_⟩
    subst hd
    have clean := lineRead_nil s (a.toNat / 64 * 64) r (srcCode src) (ctxNat ctx)
    rw [wordMark_codeword] at clean
    exact ⟨congrArg Prod.fst clean, congrArg Prod.snd clean⟩
  case unread =>
    intro a d r src req ctx m o s hr hmap
    have ha := (region_hbm_iff.mp hr).1
    refine ⟨_, execHbmLineRead_unmapped (by omega) hmap d r src req ctx, rfl, ?_⟩
    exact (Prod.mk.inj ((State.unmappedEvent_kept s req ctx _ false).1 .memory (by decide))).1
  case decode =>
    intro a e s
    refine ⟨fun i x he hx => ?_, fun i x j y he hij hx hy => ?_, wordBytes_codeword s a, wordMark_codeword s a⟩
    · rw [he, decodeLine_one s a i hx]
    · rw [he, decodeLine_two s a hij hx hy]
  case answer =>
    intro a i j x y r src ctx s hsrc hij hx hy
    have again := lineRead_two_two s a src ctx hij hx hy
    refine ⟨congrArg Prod.fst (lineRead_one s a src ctx i hx r), congrArg Prod.fst (lineRead_two_retried s a src ctx hij hx hy),
      congrArg (·.1.2) again, fun hs ha => ⟨lineRead_one_mark hs ha i hx r hsrc ctx, ?_⟩⟩
    rw [again]
    exact uncorrectable_mark hs ha _ _ _ _
  case whole =>
    intro a data p d r req m o s hs hr hmap hal hd
    have ha := (region_hbm_iff.mp hr).1
    have mem := region_mem_of_hbm hr
    have writes := execHbmLineWrite_of_hbm (s := s) (p := p) (d := d) (r := r) (req := req) hr (inLine_iff.mpr (by omega : 0 < data.length ∧ _))
    rw [if_pos hmap, hbmWrite_of_line s _ hd] at writes
    exact ⟨_, writes, putLine_bytes hs mem p hal hd (inJournal_hbm s ha), putLine_mark_self hs mem p, (keepsBytes_putLine s p mem hal hd hs).2⟩
  case part =>
    intro a data p r req m o s hs hr hmap hpos hpart hl
    have ha := (region_hbm_iff.mp hr).1
    have writes := execHbmLineWrite_of_hbm (s := s) (p := p) (d := []) (r := r) (req := req) hr (inLine_iff.mpr ⟨hpos, hl⟩)
    rw [if_pos hmap] at writes
    obtain ⟨bytes, mark⟩ := hbmWrite_part hs ha hl p (Nat.ne_of_lt hpart) r
    exact ⟨_, writes, bytes, mark, (keepsBytes_hbmWrite_nil s ha hl p r hs).2⟩
  case merge =>
    intro a data p d r req m o s hr hmap hpos hpart hl x
    refine (execHbmLineWrite_of_hbm hr (inLine_iff.mpr ⟨hpos, hl⟩)).trans ?_
    rw [if_pos hmap, hbmWrite_of_part s _ (Nat.ne_of_lt hpart)]
  case unmapped =>
    intro a data p d r req m o s hr hl hmap
    exact (execHbmLineWrite_of_hbm hr hl).trans (by rw [if_neg (by rw [hmap]; decide)])
  case infeed =>
    intro a data p req n o s hs hr hmap hl hj
    have mem : isMem a.toNat = true := by simp only [isMem, hr]
    exact ⟨_, execInfeedLineWrite_of_infeed hr hl hmap, infeedWrite_result hs (region_infeed_lt hr) mem hj (inLine_iff.mp hl).2 p⟩
  case scrub =>
    intro c d r o s hs hup hen
    let v := ((s.scrubBack c).lineRead (0xC00000000 * (c.val / 32) + o) d r 1 0xFFFF).2
    obtain ⟨hu, -, backPos⟩ := keepsScrub_scrubBack (k := c.val / 32) s c hs
    obtain ⟨hv, -, readPos⟩ : Canon v ∧ _ :=
      keepsScrub_lineRead (k := c.val / 32) (s.scrubBack c) (0xC00000000 * (c.val / 32) + o) d r 1 0xFFFF hu
    have reads := execScrubRead_of_line hs d r (o := o) hup hen
    dsimp only [State.scrubNext, scrubbedLines] at reads ⊢
    intro ho
    have reads := reads ho
    refine ⟨fun hleft => ?left, fun hlast => ?last⟩
    case left =>
      rw [if_neg (Nat.not_le.mpr hleft)] at reads
      exact reads
    case last =>
      rw [if_pos hlast] at reads
      obtain ⟨scrub, progress, passes⟩ := endScrubPass_result (hv.of_kept (State.setStack_kept v (c.val / 32) _)) (c.val / 32)
      rw [rf_congr ((setStack_rd _ _ _ _).trans (readPos.trans backPos))] at passes
      exact ⟨_, reads, scrub, progress, passes⟩
  case rate =>
    intro c s _ h
    exact execCorrectionRate_of_many h

end Sys2Proof.Machine
end

section
/-! ## Temperature readings, retires, training, and the abort of a context -/
set_option Elab.async false
namespace Sys2Proof.Machine

variable {s : State} {m : Fin 8}

/-! ### Temperature (R300–R302) -/

theorem refreshOf_lt (t : Int) : refreshOf t < 2 ^ HBM_STATUS_REFRESH.w := by
  unfold refreshOf
  split
  · decide
  · split <;> decide

theorem trunc_lt (w : Nat) (x : Int) : trunc w x < 2 ^ w := by
  have pos : (0 : Int) < 2 ^ w := Int.pow_pos (by decide)
  have below : x % 2 ^ w < 2 ^ w := Int.emod_lt_of_pos x pos
  have nonneg : 0 ≤ x % 2 ^ w := Int.emod_nonneg x (Int.ne_of_gt pos)
  rw [trunc, Int.toNat_lt nonneg, Int.natCast_pow]
  exact below

/-- The registers of stack `m` take the valid reading `t` and the refresh interval `refresh` (R300, R301). -/
def State.takeTemp (s : State) (m : Nat) (t : Int) (refresh : Nat) : State :=
  (((s.wf (HBM_TEMP m) HBM_TEMP_TEMP (trunc 8 t)).wf (HBM_STATUS m) HBM_STATUS_REFRESH refresh).wb (HBM_STATUS m) HBM_STATUS_TEMP_INVALID false).wb
    (HBM_TEMP m) HBM_TEMP_VALID true

theorem takeTemp_result (hs : Canon s) (m : Nat) (t : Int) {refresh : Nat} (hr : refresh < 2 ^ HBM_STATUS_REFRESH.w) :
    (s.takeTemp m t refresh).rf (HBM_TEMP m) HBM_TEMP_TEMP = trunc 8 t ∧ (s.takeTemp m t refresh).flag (HBM_TEMP m) HBM_TEMP_VALID = true ∧
      (s.takeTemp m t refresh).rf (HBM_STATUS m) HBM_STATUS_REFRESH = refresh ∧
      (s.takeTemp m t refresh).flag (HBM_STATUS m) HBM_STATUS_TEMP_INVALID = false := by
  let temp := s.wf (HBM_TEMP m) HBM_TEMP_TEMP (trunc 8 t)
  let interval := temp.wf (HBM_STATUS m) HBM_STATUS_REFRESH refresh
  let valid := interval.wb (HBM_STATUS m) HBM_STATUS_TEMP_INVALID false
  have htemp : Canon temp := hs.of_kept (State.wf_kept _ _ _ _)
  have hinterval : Canon interval := htemp.of_kept (State.wf_kept _ _ _ _)
  have hvalid : Canon valid := hinterval.of_kept (State.wb_kept _ _ _ _)
  have apart : HBM_TEMP m ≠ HBM_STATUS m := by unfold HBM_TEMP HBM_STATUS; omega
  have status : (s.takeTemp m t refresh).rd (HBM_STATUS m) = valid.rd (HBM_STATUS m) := rd_wf_ne hvalid _ _ apart.symm
  refine ⟨?temp, flag_wb_self hvalid _ _ _ (by decide) (by decide), ?refresh, ?invalid⟩
  case temp =>
    calc (s.takeTemp m t refresh).rf (HBM_TEMP m) HBM_TEMP_TEMP
        = valid.rf (HBM_TEMP m) HBM_TEMP_TEMP := rf_wf_other hvalid _ _ _ _ (by decide) (by decide)
      _ = interval.rf (HBM_TEMP m) HBM_TEMP_TEMP := rf_wf_ne hinterval _ _ _ apart
      _ = temp.rf (HBM_TEMP m) HBM_TEMP_TEMP := rf_wf_ne htemp _ _ _ apart
      _ = trunc 8 t := (rf_wf_self hs _ _ _ (by decide)).trans (Nat.mod_eq_of_lt (trunc_lt 8 t))
  case refresh =>
    calc (s.takeTemp m t refresh).rf (HBM_STATUS m) HBM_STATUS_REFRESH
        = valid.rf (HBM_STATUS m) HBM_STATUS_REFRESH := rf_congr status _
      _ = interval.rf (HBM_STATUS m) HBM_STATUS_REFRESH := rf_wf_other hinterval _ _ _ _ (by decide) (by decide)
      _ = refresh := (rf_wf_self htemp _ _ _ (by decide)).trans (Nat.mod_eq_of_lt hr)
  case invalid =>
    exact (flag_congr status _).trans (flag_wb_self hinterval _ _ _ (by decide) (by decide))

/-- A valid reading below 105 °C that calls for faster refresh than the present one sets it at once (R300, Table 8.2). -/
theorem execStackTempRead_faster {t : Int} (hup : s.flag (HBM_STATUS m) HBM_STATUS_UP = true) (hlo : -40 ≤ t) (hhi : t < 105)
    (hfast : s.rf (HBM_STATUS m) HBM_STATUS_REFRESH < refreshOf t) :
    ∃ x, execStackTempRead m (some t) s = .next ((s.takeTemp m t (refreshOf t)).setStack m x) := by
  have valid : (decide (t < -40) || decide (125 < t)) = false := by
    rw [decide_eq_false (by omega), decide_eq_false (by omega), Bool.or_false]
  have cool : ¬ 105 ≤ t := by omega
  simp only [execStackTempRead, hup, valid, hfast, cool, Bool.not_true, Bool.false_eq_true, if_false, if_true]
  exact ⟨_, rfl⟩

/-- No reading is an invalid one (R301). -/
theorem execStackTempRead_none (hup : s.flag (HBM_STATUS m) HBM_STATUS_UP = true) :
    execStackTempRead m none s = .next (((((s.wf (HBM_STATUS m) HBM_STATUS_REFRESH 2).wb (HBM_STATUS m) HBM_STATUS_TEMP_INVALID true).wb (HBM_TEMP m)
      HBM_TEMP_VALID false).setStack m { s.stack m with cool85 := 0, cool95 := 0 }).postOver m 0x807 cWARN (unitOf 9 (32 * m)) 0xFFFF
        fun _ => [(0x10, m), (0x11, 2), (0x12, 0)]) := by
  simp only [execStackTempRead, hup, Bool.not_true, Bool.false_eq_true, if_false]
  rfl

/-! ### Retire (R304–R310) -/

/-- The retire of channel `c` of stack `m` begins: the 1.5 GiB below the hole are discarded (R304, R305). -/
def State.beginRetire (s : State) (m c : Nat) : State :=
  let hole := s.rf (HBM_HOLE m) HBM_HOLE_START - 24
  let a := 0xC00000000 * m + 2 ^ 26 * hole
  let s : State := { s with mem := sdrop s.mem a (24 * 2 ^ 26), marks := sdrop s.marks (a / 64) (24 * 2 ^ 20) }
  let s := s.setStack m { s.stack m with since := s.clock, fresh := [] }
  let s := ((s.wf (HBM_HOLE m) HBM_HOLE_START hole).wf (HBM_CH_STATE m c) HBM_CH_STATE_STATE 1).wb (HBM_STATUS m) HBM_STATUS_MIGRATING true
  (s.wb (HBM_RETIRE_CMD m) HBM_RETIRE_CMD_BUSY true).wf (HBM_RETIRE_CMD m) HBM_RETIRE_CMD_RESULT 0

theorem execRetireGo_accepted {c : Fin 32} (hon : s.blockOff .hbm m = false) :
    let u := s.wakeLink.wf (HBM_RETIRE_CMD m) HBM_RETIRE_CMD_CHANNEL c
    u.rf (HBM_CH_STATE m c) HBM_CH_STATE_STATE < 2 → u.flag (HBM_RETIRE_CMD m) HBM_RETIRE_CMD_BUSY = false → u.retiredCount m < 4 →
      execRetireGo m c s = .next (u.beginRetire m c) := by
  intro u hst hbusy hroom
  refine (atBlock_of_on _ hon).trans ?_
  have inUse : ¬ 2 ≤ u.rf (HBM_CH_STATE m c) HBM_CH_STATE_STATE := Nat.not_le.mpr hst
  have room : ¬ 4 ≤ u.retiredCount m := Nat.not_le.mpr hroom
  dsimp only [u] at inUse hbusy room
  simp only [inUse, hbusy, room, Bool.false_eq_true, if_false]
  rfl

theorem execRetireGo_refused {c : Fin 32} (hon : s.blockOff .hbm m = false) :
    let u := s.wakeLink.wf (HBM_RETIRE_CMD m) HBM_RETIRE_CMD_CHANNEL c
    2 ≤ u.rf (HBM_CH_STATE m c) HBM_CH_STATE_STATE →
      execRetireGo m c s = .next ((u.wf (HBM_RETIRE_CMD m) HBM_RETIRE_CMD_RESULT 2).post 0x806 cWARN (unitOf 9 (32 * m + c)) 0xFFFF [(0x10, 1)]) := by
  intro u hst
  exact (atBlock_of_on _ hon).trans (congrArg Host.Outcome.next (if_pos hst))

/-- The range discarded is all that a retire takes from memory when it begins (R305). -/
theorem beginRetire_stores (s : State) (m c : Nat) :
    let a := 0xC00000000 * m + 2 ^ 26 * (s.rf (HBM_HOLE m) HBM_HOLE_START - 24)
    (s.beginRetire m c).mem = sdrop s.mem a (24 * 2 ^ 26) ∧ (s.beginRetire m c).marks = sdrop s.marks (a / 64) (24 * 2 ^ 20) := ⟨rfl, rfl⟩

/-- The command word of a retire that has begun: BUSY, and no RESULT yet (R304). -/
theorem beginRetire_command (hs : Canon s) (m c : Nat) :
    (s.beginRetire m c).flag (HBM_RETIRE_CMD m) HBM_RETIRE_CMD_BUSY = true ∧ (s.beginRetire m c).rf (HBM_RETIRE_CMD m) HBM_RETIRE_CMD_RESULT = 0 := by
  unfold State.beginRetire
  extract_lets hole a discarded x since migrating
  have hdiscarded : Kept 0x2018 s discarded := (Kept.upd (Kept.refl _ s)).kept
  have hsince : Kept 0x2018 s since := hdiscarded.step (State.setStack_kept _ _ _)
  have hmigrating : Kept 0x2018 s migrating := by
    unfold migrating
    exact ((hsince.step (State.wf_kept _ _ _ _)).step (State.wf_kept _ _ _ _)).step (State.wb_kept _ _ _ _)
  have hm : Canon migrating := hs.of_kept hmigrating
  have hb : Canon (migrating.wb (HBM_RETIRE_CMD m) HBM_RETIRE_CMD_BUSY true) := hm.of_kept (State.wb_kept _ _ _ _)
  have busy := flag_wb_self hm (HBM_RETIRE_CMD m) HBM_RETIRE_CMD_BUSY true (by decide) (by decide)
  refine ⟨?_, rf_wf_self hb _ _ _ (by decide)⟩
  rw [State.flag, rf_wf_other hb _ _ _ _ (by decide) (by decide)]
  exact busy

/-- What a retire leaves once its copy has read every line (R307, R310): the channel placed, the command done, and the event. -/
theorem execRetireEnd_of_retiring {errs : List (Addr × LineErr × LineErr)} {c : Nat}
    (hc : (List.range 32).find? (fun c => s.rf (HBM_CH_STATE m c) HBM_CH_STATE_STATE == 1) = some c) :
    let marked := ((srange s.marks (0xC00000000 * m / 64) (0xC00000000 / 64)).filter fun e =>
      let a := 64 * e.1
      e.2 && !(errs.any fun e => e.1.toNat / 64 * 64 == a) && !(s.stack m).fresh.contains a && s.mapped a && s.readerOf a 2 == 32 * m + c).length
    let w := errs.foldl (fun (acc : State) e =>
        let a := e.1.toNat / 64 * 64
        if a / 0xC00000000 == m.val && acc.mapped a && acc.readerOf a 2 == 32 * m.val + c then acc.copyRead a e.2.1 e.2.2 else acc)
      (s.bump (HBM_STAT_POISON_RD m) marked)
    let u := ((w.placeRetired m c 2).wb (HBM_STATUS m) HBM_STATUS_MIGRATING false).wb (HBM_RETIRE_CMD m) HBM_RETIRE_CMD_BUSY false
    execRetireEnd m errs s = .next ((u.wf (HBM_RETIRE_CMD m) HBM_RETIRE_CMD_RESULT 1).post 0x805 cWARN (unitOf 9 (32 * m + c)) 0xFFFF
      [(0x10, u.rf (HBM_HOLE m) HBM_HOLE_START), (0x14, w.rd64 (HBM_STAT_UE m) - s.rd64 (HBM_STAT_UE m))]) := by
  simp only [execRetireEnd, hc]

/-! ### Training (R310, R311) -/

theorem execHbmTrainingEnd_up (hdom : s.dom (48 + m) = 1) (hdown : s.flag (HBM_STATUS m) HBM_STATUS_UP = false) (hnone : s.recordedRetired m = []) :
    execHbmTrainingEnd m 0 false s = .next ((((List.range 32).foldl (fun (acc : State) c =>
      acc.wb (HBM_CH_STATE m c) HBM_CH_STATE_PERMANENT (acc.isPermanent 9 (32 * m + c) 0)) s).wf (HBM_HOLE m) HBM_HOLE_START 768).wb
        (HBM_STATUS m) HBM_STATUS_UP true) := by
  have failed : ((List.range 32).filter fun c => bit (0 : Word).toNat c && !([] : List Nat).contains c) = [] := by decide
  simp only [execHbmTrainingEnd, hdom, hdown, hnone, failed, List.length_nil, List.foldl_nil]
  rfl

theorem execHbmTrainingEnd_whole {failed : Word} (hdom : s.dom (48 + m) = 1) (hdown : s.flag (HBM_STATUS m) HBM_STATUS_UP = false) :
    execHbmTrainingEnd m failed true s =
      .next ((s.stackOff m 0).post 0x808 cFATAL (unitOf 9 (32 * m)) 0xFFFF [(0x10, m), (0x14, 0xFFFFFFFF)]) := by
  simp only [execHbmTrainingEnd, hdom, hdown]
  rfl

/-! ### Uses of marked data (R316) -/

theorem execContextPoisonAbort_of_use {n : Fin 8} {use ctx : BitVec 8} {a : GAddr} {u : PoisonUse}
    (hu : s.uses.find? (fun u => u.lathe == some n.val && u.reducer == none && u.use == use.toNat && u.ctx == ctx && u.addr == a) = some u) :
    execContextPoisonAbort (.lathe n) none use ctx a s = .next (s.poisonAbort u) := by
  simp only [execContextPoisonAbort, Option.map_none, hu]

/-- Settles O39: readings of a stack's temperature, the start, refusal and end of a retire, the end of training, and the abort of a context. -/
theorem stackService : Obligations.StackService := by
  refine ⟨?faster, ?invalid, ?begin, ?refused, ?retired, ?up, ?out, ?abort⟩
  case faster =>
    intro m t s hs hup hlo hhi hfast
    obtain ⟨x, reads⟩ := execStackTempRead_faster hup hlo hhi hfast
    obtain ⟨temp, valid, refresh, measured⟩ := takeTemp_result hs m t (refreshOf_lt t)
    have same (o : Nat) : ((s.takeTemp m t (refreshOf t)).setStack m x).rd o = (s.takeTemp m t (refreshOf t)).rd o := setStack_rd _ _ _ _
    exact ⟨_, reads, (rf_congr (same _) _).trans temp, (flag_congr (same _) _).trans valid, (rf_congr (same _) _).trans refresh,
      (flag_congr (same _) _).trans measured⟩
  case invalid =>
    intro m s hup
    exact execStackTempRead_none hup
  case begin =>
    intro m c s hon
    dsimp only
    intro hst hbusy hroom
    obtain ⟨mem, marks⟩ := beginRetire_stores (s.wakeLink.wf (HBM_RETIRE_CMD m) HBM_RETIRE_CMD_CHANNEL c) m c
    have written : Kept 0x8 s (s.wakeLink.wf (HBM_RETIRE_CMD m) HBM_RETIRE_CMD_CHANNEL c) := (State.wakeLink_kept s).trans (State.wf_kept _ _ _ _)
    have ⟨sameMem, sameMarks⟩ := Prod.mk.inj (written.1 .memory (by decide))
    rw [sameMem] at mem
    rw [sameMarks] at marks
    exact ⟨_, execRetireGo_accepted hon hst hbusy hroom, mem, marks, fun hs => beginRetire_command (hs.of_kept written) m c⟩
  case refused =>
    intro m c s hon
    exact execRetireGo_refused hon
  case retired =>
    intro m errs c s hc
    exact execRetireEnd_of_retiring hc
  case up =>
    intro m s hdom hdown hnone
    exact execHbmTrainingEnd_up hdom hdown hnone
  case out =>
    intro m failed s hdom hdown
    exact execHbmTrainingEnd_whole hdom hdown
  case abort =>
    intro n use ctx a u s hu
    exact execContextPoisonAbort_of_use hu

end Sys2Proof.Machine
end

section
/-! ## The fault history: a record cleared and read (R415, R416) -/
set_option Elab.async false
namespace Sys2Proof.Machine

variable {s t : State} {k : Nat}

/-- The register range of the lathes and of what stands between them and the HBM stacks (Table 1.8); the maps of the lathes lie in it. -/
abbrev MapReg (o : Nat) : Prop := 0x100000 ≤ o ∧ o < 0x400000

theorem Kept.histOf_eq {m : Nat} (h : Kept m s t) (k : Nat) (hm : m.testBit Part.history.no = false := by decide) : t.histOf k = s.histOf k := by
  have hist : t.hist = s.hist := (Prod.mk.inj (h.1 .history hm)).1
  simp only [State.histOf, hist]

theorem touchHist_histOf (hs : Canon s) (k : Nat) (x : HistRec) : (s.touchHist k x).histOf k = x := by
  unfold State.touchHist
  extract_lets u
  split
  all_goals exact setHist_histOf hs k x

/-- `FLT_HIST_STATUS` answers a command of `FLT_HIST_CMD` (Table 10.11). -/
def State.histStatus (s : State) (valid noUnit : Bool) : State :=
  (s.wb FLT_HIST_STATUS FLT_HIST_STATUS_VALID valid).wb FLT_HIST_STATUS FLT_HIST_STATUS_NO_UNIT noUnit

theorem histStatus_kept (s : State) (valid noUnit : Bool) : Kept 0x8 s (s.histStatus valid noUnit) := (State.wb_kept _ _ _ _).trans (State.wb_kept _ _ _ _)

theorem histStatus_noUnit (hs : Canon s) (valid noUnit : Bool) :
    (s.histStatus valid noUnit).flag FLT_HIST_STATUS FLT_HIST_STATUS_NO_UNIT = noUnit :=
  flag_wb_self (hs.of_kept (State.wb_kept _ _ _ _)) _ _ _ (by decide) (by decide)

theorem histStatus_valid (hs : Canon s) (valid noUnit : Bool) :
    (s.histStatus valid noUnit).flag FLT_HIST_STATUS FLT_HIST_STATUS_VALID = valid := by
  rw [State.flag, State.histStatus, State.wb, rf_wf_other (hs.of_kept (State.wb_kept _ _ _ _)) _ _ _ _ (by decide) (by decide)]
  exact flag_wb_self hs _ _ _ (by decide) (by decide)

theorem keepsRegs_histStatus (valid noUnit : Bool) : KeepsRegs MapReg s (s.histStatus valid noUnit) :=
  (keepsRegs_wf _ _ (by decide)).trans (keepsRegs_wf _ _ (by decide))

/-- Record `k` keeps its substitution only, and an HBM channel of it is no longer shown permanent (R415). -/
def State.clearRecord (s : State) (k : Nat) : State :=
  let t := s.touchHist k { replaced := (s.histOf k).replaced, subst := (s.histOf k).subst }
  if k / 4096 = 9 then t.wb (HBM_CH_STATE (k % 4096 / 32) (k % 4096 % 32)) HBM_CH_STATE_PERMANENT false else t

theorem clearRecord_histOf (hs : Canon s) (k : Nat) :
    (s.clearRecord k).histOf k = { replaced := (s.histOf k).replaced, subst := (s.histOf k).subst } := by
  unfold State.clearRecord
  extract_lets t
  have cleared : t.histOf k = { replaced := (s.histOf k).replaced, subst := (s.histOf k).subst } := touchHist_histOf hs k _
  split
  · exact ((State.wb_kept _ _ _ _).histOf_eq k).trans cleared
  · exact cleared

/-- No map lies among the registers of the HBM stacks. -/
theorem keepsRegs_clearRecord (s : State) (k : Nat) : KeepsRegs MapReg s (s.clearRecord k) := by
  have channel : ¬ MapReg (HBM_CH_STATE (k % 4096 / 32) (k % 4096 % 32)) := by unfold HBM_CH_STATE; omega
  unfold State.clearRecord
  extract_lets t
  have touched : KeepsRegs MapReg s t := (State.touchHist_kept _ _ _).keepsRegs
  exact .ite (touched.trans (keepsRegs_wf _ _ channel)) touched

theorem execHistClear_of_unit (hon : s.blockOff .flt 0 = false) (hk : histSel (s.wakeLink.rd FLT_HIST_SEL).toNat = some k) :
    execHistClear s = .next ((s.wakeLink.clearRecord k).histStatus false false) := by
  refine (atBlock_of_on _ hon).trans ?_
  simp only [hk]
  rfl

theorem histClear_rd (hs : Canon s) (k : Nat) {o : Nat} (ho : MapReg o) :
    ((s.wakeLink.clearRecord k).histStatus false false).rd o = s.rd o := by
  have hw : Canon s.wakeLink := hs.of_kept (State.wakeLink_kept s)
  have kept := ((keepsRegs_clearRecord s.wakeLink k).trans (keepsRegs_histStatus false false) hw).2 o ho
  exact kept.trans (wakeLink_rd hs (by unfold MapReg at ho; omega))

/-- The words of record `k` stand in `FLT_HIST_DATA` (Table 10.7). -/
def State.showRecord (s : State) (k : Nat) : State :=
  (s.histWords k).zipIdx.foldl (fun acc e => acc.wr (FLT_HIST_DATA e.2) (BitVec.ofNat 32 e.1)) s

theorem execHistRead_of_unit (hon : s.blockOff .flt 0 = false) (hk : histSel (s.wakeLink.rd FLT_HIST_SEL).toNat = some k) :
    execHistRead s = .next ((s.wakeLink.showRecord k).histStatus true false) := by
  refine (atBlock_of_on _ hon).trans ?_
  simp only [hk]
  rfl

theorem execHistRead_of_noUnit (hon : s.blockOff .flt 0 = false) (hk : histSel (s.wakeLink.rd FLT_HIST_SEL).toNat = none) :
    execHistRead s = .next (s.wakeLink.histStatus false true) := by
  refine (atBlock_of_on _ hon).trans ?_
  simp only [hk]
  rfl

/-- Settles O23: the selected record keeps its substitution only, and no map entry moves (R415). -/
theorem historyClear : Obligations.HistoryClear := by
  refine ⟨?maps, ?record⟩
  case maps =>
    intro k n i j s hs hon hk
    have column : MapReg (LTH_COLMAP n i) := by unfold MapReg LTH_COLMAP; omega
    have row : MapReg (LTH_ROWMAP n j) := by unfold MapReg LTH_ROWMAP; omega
    exact ⟨_, execHistClear_of_unit hon hk, histClear_rd hs k column, histClear_rd hs k row⟩
  case record =>
    intro k s hs hon hk
    have woken := State.wakeLink_kept s
    refine ⟨_, execHistClear_of_unit hon hk, ?_⟩
    dsimp only
    rw [(histStatus_kept _ _ _).histOf_eq, clearRecord_histOf (hs.of_kept woken), woken.histOf_eq]

end Sys2Proof.Machine
end

section
/-! ## Replays, arbitrations and corrections (R397–R408) -/
set_option Elab.async false
namespace Sys2Proof.Machine

variable {s u : State} {n : Fin 8} {a : Arb} {rest : List Arb}

/-! ### The start of a replay -/

/-- The replay planes of lathe `n` stand written in the idle banks (R398). -/
def State.planesReady (s : State) (n : Nat) : Bool :=
  (s.replayMates n).all fun m => (s.lathe m).idleBank.st == .pending && (s.lathe m).idleBank.replay

/-- The replay planes of lathe `n` are live since the last stroke's guard (R398). -/
def State.planesLive (s : State) (n : Nat) : Bool :=
  (s.replayMates n).all fun m => (s.lathe m).hasLive && (s.lathe m).liveBank.replay && !(s.lathe m).idleBank.replay

/-- The lathes that replay stand on their replay planes, their gang having switched with them where the planes were PENDING (R398, R405). -/
def State.onReplayPlanes (s : State) (n : Nat) : State :=
  let u := (s.replayMates n).foldl (fun acc m => if s.planesReady n then acc.switchReplay m else acc.countIdle m) s
  if s.planesReady n then u.matesSwitch (u.gang n) else u

theorem onReplayPlanes_kept (s : State) (n : Nat) : Kept 0x108 s (s.onReplayPlanes n) := by
  unfold State.onReplayPlanes
  extract_lets u
  have switched : Kept 0x108 s u := Kept.foldl (.refl _ s) fun y m hy =>
    .ite (hy.step (State.switchReplay_kept y m)) (hy.step (State.countIdle_kept y m))
  exact .ite (switched.step (State.matesSwitch_kept _ _)) switched

/-- The stroke of an arbitration as the lathe records it now. -/
def State.recorded (s : State) (n : Nat) (x : Stroke) : Stroke :=
  (((s.lathe n).journal ++ (s.lathe n).strokes).find? (sameStroke x)).getD x

/-- Arbitration `a`, in front of `rest`, has begun to replay `x` (R389, R628). -/
def State.presentReplay (s : State) (n : Nat) (a : Arb) (rest : List Arb) (x : Stroke) : State :=
  let lanes := s.replayLanes n x
  let s := s.modLathe n fun l => { l with arbs := { a with started := true, stroke := x, lanes := lanes } :: rest }
  let s := lanes.foldl (fun acc y => acc.countInput y.inp x.t) s
  let s := if (s.group n a.stroke.group).gen = a.stroke.ggen then s.modGroup n a.stroke.group fun g => { g with inflight := g.inflight + 1 } else s
  s.bump FLT_STAT_REPLAYS 1

theorem presentReplay_arbs (hs : Canon s) (n : Nat) (a : Arb) (rest : List Arb) (x : Stroke) :
    ((s.presentReplay n a rest x).lathe n).arbs = { a with started := true, stroke := x, lanes := s.replayLanes n x } :: rest := by
  unfold State.presentReplay
  extract_lets lanes begun read admitted
  have read_kept : Kept 0x208 begun read := Kept.foldl (.refl _ _) fun y e hy => hy.step (State.countInput_kept y _ _)
  have admitted_kept : Kept 0x208 begun admitted := .ite (read_kept.step (State.modGroup_kept _ _ _ _)) read_kept
  rw [(admitted_kept.step (State.bump_kept _ _ _)).lathe_eq n, modLathe_lathe hs]

/-- The oldest arbitration starts to replay where its planes are ready, or live already, and the lathes that replay are free (R398, R405, R406). -/
theorem execReplayStart_begins (harbs : (s.lathe n).arbs = a :: rest) (hst : a.started = false)
    (hdone : ((s.lathe n).strokes.all fun x => x.t ≤ x.outs.length) = true)
    (hfree : ((s.replayMates n).all fun m => (s.lathe m).cur.isNone && !(s.lathe m).dip) = true)
    (hplanes : s.planesReady n = true ∨ ((s.lathe n).liveBank.src = a.stroke.bank.src ∧ s.planesLive n = true)) :
    execReplayStart n s = .next ((s.onReplayPlanes n).presentReplay n a rest (s.recorded n a.stroke)) := by
  have planes : (s.planesReady n || ((s.lathe n).liveBank.src == a.stroke.bank.src && s.planesLive n)) = true := by
    simpa only [Bool.or_eq_true, Bool.and_eq_true, beq_iff_eq] using hplanes
  unfold State.planesReady State.planesLive at planes
  simp only [execReplayStart, harbs, hst, hdone, hfree, planes, Bool.not_false, Bool.and_self, if_true]
  rfl

/-! ### The end of an arbitration -/

/-- The failing column groups of an arbitration with what each is found to be (R399, R400). -/
def State.verdicts (s : State) (n : Nat) (a : Arb) : List (Nat × Verdict) := a.failing.map fun g => (g, s.outcomeOf n a g)

/-- One group's verdict is counted, reported and applied; `column` is the data column it names, in the map of the time of the arbitration's end. -/
def State.takeVerdict (s : State) (n : Nat) (a : Arb) (column : Nat) (e : Nat × Verdict) : State :=
  ((s.bump (FLT_STAT_OUTCOME e.2.outcome) 1).arbEvent n a.stroke a.failing e.1 e.2.outcome ((a.spare e.1).getD 0xFFFF)
    (if e.2.outcome = 5 then column else 0xFFFF) (((a.peaks.find? fun q => q.1 == e.1).map (·.2)).getD 0) 0).applyOutcome n a e.1 e.2

/-- Every verdict is taken, and a drain that came before one of outcome 5 or more is answered (R390, R403). -/
def State.takeVerdicts (s : State) (n : Nat) (a : Arb) : State :=
  let v := (s.verdicts n a).foldl (fun acc e => acc.takeVerdict n a (s.colMap n e.2.column) e) s
  if (s.verdicts n a).any fun e => decide (e.2.outcome ≥ 5) then v.lateDrain n a else v

/-- The groups whose outcome takes the lathe out of service (R403). -/
def lostGroups (vs : List (Nat × Verdict)) : List Nat := (vs.filter fun e => decide (e.2.outcome ≥ 6)).map (·.1)

/-- The groups to correct, each with whether its check column comes from the spare (R401). -/
def fixGroups (vs : List (Nat × Verdict)) : List (Nat × Bool) := (vs.filter fun e => e.2.outcome == 5).map fun e => (e.1, !e.2.a1)

/-- A replay whose outputs are complete ends its arbitration: with a lost group the lathe leaves service, else its groups are corrected where they still
take addends, else nothing is left to do (R400–R403). -/
theorem execArbitrationEnd_of_replayed (harbs : (s.lathe n).arbs = a :: rest) (hst : a.started = true) (hsus : a.isSuspect = false)
    (houts : a.stroke.t ≤ a.outs.length) (hcor : a.correcting = []) :
    execArbitrationEnd n s = .next (
      if lostGroups (s.verdicts n a) ≠ [] then
        (lostGroups (s.verdicts n a)).foldl (fun acc g => acc.askCal n 2 0 g a.stroke.ctx.toNat) ((s.takeVerdicts n a).leaveNow n .outOfService 6)
      else if fixGroups (s.verdicts n a) = [] || a.stroke.drained.isSome || !(s.takeVerdicts n a).groupLive n a.stroke then
        (s.takeVerdicts n a).finishArb n
      else (s.takeVerdicts n a).modLathe n fun l => { l with arbs := { a with correcting := fixGroups (s.verdicts n a) } :: rest }) := by
  have complete : ¬ a.outs.length < a.stroke.t := Nat.not_lt.mpr houts
  simp only [execArbitrationEnd, harbs, hst, hsus, complete, hcor, List.isEmpty_nil, Bool.not_true, decide_false, Bool.or_self, Bool.false_eq_true,
    if_false]
  rfl

/-! ### Corrections and suspect strokes -/

theorem execCorrectionEnd_of_correcting (harbs : (s.lathe n).arbs = a :: rest) (hcor : a.correcting ≠ []) :
    execCorrectionEnd n s = .next ((s.correct n a).finishArb n) := by
  simp only [execCorrectionEnd, harbs, List.isEmpty_eq_false_iff.mpr hcor, Bool.false_eq_true, if_false]

/-- A suspect stroke's replay whose outputs are complete: its group is poisoned where the replay fails or a drain has the group, corrected where it still
takes addends, else left (R408). -/
theorem execSuspectReplayEnd_of_replayed (harbs : (s.lathe n).arbs = a :: rest) (hst : a.started = true) (hsus : a.isSuspect = true)
    (houts : a.stroke.t ≤ a.outs.length) (hcor : a.correcting = []) :
    let u := s.bump FLT_STAT_TESTS 8
    execSuspectReplayEnd n s = .next (
      if u.failingGroups n (laneOfLathe a.lanes n).bank a.outs ≠ [] then ((u.bump FLT_STAT_FAILS 1).suspectPoison n a 4).finishArb n
      else if a.stroke.drained.isSome || u.drainingOf n a.stroke then (u.suspectPoison n a 3).finishArb n
      else if !u.groupLive n a.stroke then u.finishArb n
      else u.modLathe n fun l => { l with arbs := { a with correcting := (List.range 8).map fun g => (g, false) } :: rest }) := by
  have complete : ¬ a.outs.length < a.stroke.t := Nat.not_lt.mpr houts
  simp only [execSuspectReplayEnd, harbs, hst, hsus, complete, hcor, List.isEmpty_nil, Bool.not_true, decide_false, Bool.or_self, Bool.false_eq_true,
    if_false]

/-- Settles O31: a replay starts, an arbitration ends in its groups' outcomes, a correction is applied, and a suspect stroke's replay ends. -/
theorem replaysAndCorrections : Obligations.ReplaysAndCorrections := by
  refine ⟨?replay, ?arbitration, ?correction, ?suspect⟩
  case replay =>
    intro n a rest s hs harbs hst hdone hfree hplanes
    have arbs := presentReplay_arbs (hs.of_kept (onReplayPlanes_kept s n)) n a rest (s.recorded n a.stroke)
    exact ⟨_, execReplayStart_begins harbs hst hdone hfree hplanes, _, arbs⟩
  case arbitration =>
    intro n a rest s harbs hst hsus houts hcor
    have ends := execArbitrationEnd_of_replayed harbs hst hsus houts hcor
    refine ⟨fun lost => ?_, fun lost fix drained live => ?_, fun lost none_to_fix => ?_⟩
    · exact ends.trans (congrArg Host.Outcome.next (if_pos lost))
    · refine ends.trans (congrArg Host.Outcome.next ((if_neg (not_not_intro lost)).trans (if_neg ?_)))
      simp only [Bool.or_eq_true, decide_eq_true_eq, Bool.not_eq_true', not_or, Bool.not_eq_false, drained, Option.isSome_none]
      exact ⟨⟨fix, Bool.false_ne_true⟩, live⟩
    · refine ends.trans (congrArg Host.Outcome.next ((if_neg (not_not_intro lost)).trans (if_pos ?_)))
      simp only [Bool.or_eq_true, decide_eq_true_eq, Bool.not_eq_true', or_assoc, Option.isSome_iff_ne_none]
      exact none_to_fix
  case correction =>
    intro n a rest s harbs hcor
    exact execCorrectionEnd_of_correcting harbs hcor
  case suspect =>
    intro n a rest s harbs hst hsus houts hcor
    have ends := execSuspectReplayEnd_of_replayed harbs hst hsus houts hcor
    have undrained (drained : a.stroke.drained = none) (draining : (s.bump FLT_STAT_TESTS 8).drainingOf n a.stroke = false) :
        ¬ (a.stroke.drained.isSome || (s.bump FLT_STAT_TESTS 8).drainingOf n a.stroke) = true := by simp [drained, draining]
    refine ⟨fun fails => ?_, fun passes drains => ?_, fun passes drained draining dead => ?_, fun passes drained draining live => ?_⟩
    · exact ends.trans (congrArg Host.Outcome.next (if_pos fails))
    · refine ends.trans (congrArg Host.Outcome.next ((if_neg (not_not_intro passes)).trans (if_pos ?_)))
      rwa [Bool.or_eq_true, Option.isSome_iff_ne_none]
    · refine ends.trans (congrArg Host.Outcome.next ((if_neg (not_not_intro passes)).trans ((if_neg (undrained drained draining)).trans (if_pos ?_))))
      rw [dead, Bool.not_false]
    · refine ends.trans (congrArg Host.Outcome.next ((if_neg (not_not_intro passes)).trans ((if_neg (undrained drained draining)).trans (if_neg ?_))))
      rw [live, Bool.not_true]
      exact Bool.false_ne_true

end Sys2Proof.Machine
end

section
/-! ## Rails, and units classed permanent (R406–R413, R507–R509)

A dip's number is drawn where its rail recovers and nowhere else: what follows it changes the dips, never the number. -/
set_option Elab.async false
namespace Sys2Proof.Machine

variable {s t : State} {r : Rail}

/-! ### The number of dips -/

theorem Kept.dipNo_eq {m : Nat} (h : Kept m s t) (hm : m.testBit Part.rails.no = false := by decide) : t.dipNo = s.dipNo :=
  congrArg (fun rails => rails.2.2) (h.1 .rails hm)

theorem foldl_dipNo {α : Type} {f : State → α → State} (hf : ∀ y e, (f y e).dipNo = y.dipNo) (l : List α) (s : State) :
    (l.foldl f s).dipNo = s.dipNo :=
  foldl_keeps (fun y => y.dipNo = s.dipNo) rfl fun y e hy => (hf y e).trans hy

theorem settleDips_dipNo (s : State) : s.settleDips.dipNo = s.dipNo :=
  foldl_dipNo (fun _ _ => (State.supplyDip_kept _ _ _ _ _ _).dipNo_eq) _ _

theorem suspectPoison_dipNo (s : State) (n : Nat) (a : Arb) (why : Nat) : (s.suspectPoison n a why).dipNo = s.dipNo := by
  unfold State.suspectPoison
  extract_lets x poisoned marked
  have poisoned_same : poisoned.dipNo = s.dipNo := Kept.dipNo_eq (m := 0x208) (.ite (State.poisonGroup_kept _ _ _) (.refl _ _))
  have marked_same : marked.dipNo = poisoned.dipNo := by
    unfold marked
    split
    · split
      · exact (State.earlyPoison_kept _ _ _ _).dipNo_eq
      · rfl
    · rfl
  calc _ = ((marked.bump FLT_STAT_SUSPECT_POISON 1).modDip a.dip fun d => { d with poisoned := d.poisoned + 1 }).dipNo :=
        (State.post_kept _ _ _ _ _ _).dipNo_eq
    _ = marked.dipNo := (State.bump_kept _ _ _).dipNo_eq
    _ = s.dipNo := marked_same.trans poisoned_same

theorem beginArbs_dipNo (s : State) (n fuel : Nat) : (s.beginArbs n fuel).dipNo = s.dipNo := by
  induction fuel generalizing s with
  | zero => rfl
  | succ fuel ih =>
    unfold State.beginArbs
    split
    · rfl
    next a rest _ =>
      extract_lets a front
      have planes : (front.writeReplayPlanes n a.stroke a.spares).2.dipNo = s.dipNo :=
        (State.writeReplayPlanes_kept _ _ _ _).dipNo_eq.trans (State.modLathe_kept _ _ _).dipNo_eq
      split
      next written => exact (congrArg (fun p : Bool × State => p.2.dipNo) written).symm.trans planes
      next u unread =>
        rw [unread] at planes
        have dropped (f : Lathe → Lathe) : ((u.dropReplay n).modLathe n f).dipNo = s.dipNo :=
          ((State.modLathe_kept _ _ _).dipNo_eq.trans (State.dropReplay_kept _ _).dipNo_eq).trans planes
        refine (ih _).trans ?_
        split
        · exact (State.lessVerdict_kept _ _ _).dipNo_eq.trans ((suspectPoison_dipNo _ _ _ _).trans (dropped _))
        · exact (State.unarbitrated_kept _ _ _ _ _).dipNo_eq.trans (dropped _)

theorem suspectDip_dipNo (s : State) (n since no : Nat) : (s.suspectDip n since no).dipNo = s.dipNo := by
  unfold State.suspectDip
  extract_lets b
  split
  extract_lets replayed
  have replayed_same : replayed.dipNo = s.dipNo := by
    refine foldl_dipNo (fun y x => ?_) _ _
    extract_lets suspected why
    have suspected_same : suspected.dipNo = y.dipNo := (State.suspect_kept y b x).dipNo_eq
    split
    · exact (suspectPoison_dipNo _ _ _ _).trans suspected_same
    · exact ((State.modLathe_kept _ _ _).dipNo_eq.trans (State.moreVerdict_kept _ _ _).dipNo_eq).trans suspected_same
  split
  · exact (beginArbs_dipNo _ _ _).trans replayed_same
  · exact replayed_same

/-! ### A rail recovers -/

/-- Rail `k` is above its warning level and shown so, and the lathes that no other rail holds go on (R406, R507). -/
def State.railUp (s : State) (k : Nat) : State :=
  let s := s.setRail k {}
  let s := if k = 64 then s.wb PWR_STATUS PWR_STATUS_INPUT_WARN false
    else (railDoms k).foldl (fun acc d => acc.wb (PWR_DOM_STATUS d) PWR_DOM_STATUS_WARN false) s
  (lathesFed k).foldl (fun acc n => if acc.dipsOn n then acc else acc.modLathe n fun l => { l with dip := false }) s

theorem railUp_dipNo (s : State) (k : Nat) : (s.railUp k).dipNo = s.dipNo := by
  unfold State.railUp
  extract_lets up shown
  have shown_same : shown.dipNo = s.dipNo := Kept.dipNo_eq (m := 0x8) (s := up)
    (.ite (State.wb_kept _ _ _ _) (.foldl (.refl _ _) fun _ _ hy => hy.step (State.wb_kept _ _ _ _)))
  refine (foldl_dipNo (fun y n => ?_) _ _).trans shown_same
  exact Kept.dipNo_eq (m := 0x100) (.ite (.refl _ _) (State.modLathe_kept _ _ _))

/-- A dip of rail `k` below its warning level since `since` is over: it takes the next number, the strokes it made suspect are replayed, and the
calibrations it met start again or are rejected (R407, Table 13.4). -/
def State.dipOver (s : State) (k since : Nat) : State :=
  let no := s.dipNo + 1
  let s : State := { s with dipNo := no, dips := s.dips ++ [{ no := no, rail := k, low := s.clock - since }] }
  let s := (s.dipLathes k).foldl (fun acc n => acc.suspectDip n since no) s
  ((((lathesFed k).map s.calKey).eraseDups).foldl (fun acc n => acc.dipCal n) s).settleDips

theorem dipOver_dipNo (s : State) (k since : Nat) : (s.dipOver k since).dipNo = s.dipNo + 1 := by
  unfold State.dipOver
  extract_lets no counted replayed
  calc _ = ((((lathesFed k).map replayed.calKey).eraseDups).foldl (fun acc n => acc.dipCal n) replayed).dipNo := settleDips_dipNo _
    _ = replayed.dipNo := foldl_dipNo (fun _ _ => (State.dipCal_kept _ _).dipNo_eq) _ _
    _ = counted.dipNo := foldl_dipNo (fun _ _ => suspectDip_dipNo _ _ _ _) _ _

theorem execRailRecovered_of_dip (hbelow : (s.rail (railKey r)).below = true) (hdone : (s.rail (railKey r)).done = false) :
    execRailRecovered r s = .next ((s.railUp (railKey r)).dipOver (railKey r) (s.rail (railKey r)).since) := by
  simp only [execRailRecovered, hbelow, hdone, Bool.not_true, Bool.false_eq_true, if_false]
  rfl

/-! ### A rail falls, stays low or reaches its reset level -/

theorem execRailBelowWarning_of_on (hbelow : (s.rail (railKey r)).below = false) (hon : s.railOn (railKey r) = true) :
    execRailBelowWarning r s = .next (s.railFalls (railKey r)) := by
  simp only [execRailBelowWarning, hbelow, hon, Bool.not_true, Bool.or_self, Bool.false_eq_true, if_false]

theorem execRailWarningTimeout_of_late (hbelow : (s.rail (railKey r)).below = true) (hdone : (s.rail (railKey r)).done = false)
    (hlate : (s.rail (railKey r)).since + 20000 < s.clock) : execRailWarningTimeout r s = .next (s.railFails (railKey r) 2) := by
  simp only [execRailWarningTimeout, hbelow, hdone, Nat.not_le.mpr hlate, Bool.not_true, decide_false, Bool.or_self, Bool.false_eq_true, if_false]

theorem execRailResetLevel_of_on (hon : s.railOn (railKey r) = true) (hdone : (s.rail (railKey r)).done = false) :
    execRailResetLevel r s = .next ((if (s.rail (railKey r)).below then s else s.railFalls (railKey r)).railFails (railKey r) 3) := by
  simp only [execRailResetLevel, hon, hdone, Bool.not_true, Bool.false_eq_true, if_false]

/-! ### A check column classed permanent -/

section
variable {i a : Nat} (hp : (s.histOf (histKey 4 i a)).permanent = false) (hrecent : 3 ≤ (s.histOf (histKey 4 i a)).recent s.histNow)
include hp hrecent

/-- A column that no check group uses, or for which no spare is left, is classed only (R413). -/
theorem execPermanentClassing_unreplaced (h : (List.range 8).find? (fun g => (s.classPermanent 4 i a 1).colMap a (512 + g) = i) = none ∨
      (s.classPermanent 4 i a 1).spareCols a = []) :
    execPermanentClassing { kind := 4, index := i, lathe := a } s = .next (s.classPermanent 4 i a 1) := by
  have kept : histKept 4 = true := by decide
  simp only [execPermanentClassing, kept, hp, Nat.not_lt.mpr hrecent]
  rcases h with unused | none_left
  · simp [unused]
  · simp [none_left]

/-- A check column gives way to the lowest spare (R402, R413). -/
theorem execPermanentClassing_replaced {g spare : Nat} {more : List Nat}
    (hg : (List.range 8).find? (fun g => (s.classPermanent 4 i a 1).colMap a (512 + g) = i) = some g)
    (hspare : (s.classPermanent 4 i a 1).spareCols a = spare :: more) :
    execPermanentClassing { kind := 4, index := i, lathe := a } s = .next ((s.classPermanent 4 i a 1).substCheck a g spare 0xFFFF) := by
  have kept : histKept 4 = true := by decide
  simp only [execPermanentClassing, kept, hp, Nat.not_lt.mpr hrecent]
  simp [hg, hspare]

end

/-- Settles O46: a rail's fall, recovery, timeout and reset level, a column classed permanent, and the history written and read. -/
theorem railsAndHistory : Obligations.RailsAndHistory := by
  refine ⟨?falls, ?recovers, ?timeout, ?resetLevel, ?permanent, ?written, ?read, ?noUnit⟩
  case falls =>
    intro r s hbelow hon
    exact execRailBelowWarning_of_on hbelow hon
  case recovers =>
    intro r s hbelow hdone
    refine ⟨_, execRailRecovered_of_dip hbelow hdone, ?_⟩
    exact (dipOver_dipNo _ _ _).trans (congrArg (· + 1) (railUp_dipNo _ _))
  case timeout =>
    intro r s hbelow hdone hlate
    exact execRailWarningTimeout_of_late hbelow hdone hlate
  case resetLevel =>
    intro r s hon hdone
    exact execRailResetLevel_of_on hon hdone
  case permanent =>
    intro i a s _ hp hrecent
    exact ⟨execPermanentClassing_unreplaced hp hrecent, fun g spare more => execPermanentClassing_replaced hp hrecent⟩
  case written =>
    intro s
    exact ⟨fun on => congrArg Host.Outcome.next (if_pos on), fun off => congrArg Host.Outcome.next (if_neg off)⟩
  case read =>
    intro k s hon hk
    exact execHistRead_of_unit hon hk
  case noUnit =>
    intro s hs hon hk
    have hw : Canon s.wakeLink := hs.of_kept (State.wakeLink_kept s)
    exact ⟨_, execHistRead_of_noUnit hon hk, histStatus_noUnit hw false true, histStatus_valid hw false true⟩

end Sys2Proof.Machine
end

section
/-! ## The steady rest: sweeps, breach limits, coefficient banks and modes (R420–R438), and the trim channels (R439–R448) -/
set_option Elab.async false
namespace Sys2Proof.Machine

variable {m : Nat} {s t : State}

/-! ### Loops, cores and trim channels read back -/

theorem Kept.loop_eq (h : Kept m s t) (i : Nat) (hm : m.testBit Part.steadyRest.no = false := by decide) : t.loop i = s.loop i := by
  have loops : t.loops = s.loops := congrArg Prod.fst (h.1 .steadyRest hm)
  simp only [State.loop, loops]

theorem Kept.core_eq (h : Kept m s t) (c : Nat) (hm : m.testBit Part.steadyRest.no = false := by decide) : t.core c = s.core c := by
  have cores : t.cores = s.cores := congrArg Prod.snd (h.1 .steadyRest hm)
  simp only [State.core, cores]

theorem Kept.trim_eq (h : Kept m s t) (i : Nat) (hm : m.testBit Part.trims.no = false := by decide) : t.trim i = s.trim i := by
  have trims : t.trims = s.trims := congrArg Prod.fst (h.1 .trims hm)
  simp only [State.trim, trims]

theorem modTrim_trim (hs : Canon s) (i : Nat) (f : Trim → Trim) : (s.modTrim i f).trim i = f (s.trim i) := setTrim_trim hs i _

theorem modTrim_trim_ne (hs : Canon s) {i j : Nat} (f : Trim → Trim) (h : j ≠ i) : (s.modTrim i f).trim j = s.trim j := setTrim_trim_ne hs _ h

/-! ### A core's sample (R420, R434) -/

/-- One loop's turn in the sweep of core `c`, with what the sweep's core watches beside it (R71). -/
def State.sweepTurn (c : Fin 9) (lead : Nat) (acc : State × Sweep) (i : Nat) : State × Sweep :=
  let turn := acc.1.sweepLoop c lead acc.2 i
  (if c.val = 8 && i % nLoops % 8 = 2 then turn.1.watchLaser i else turn.1, turn.2)

/-- The sweep of core `c`, begun `lead` ns after its sample, with the swap that takes effect at the sample (R430). -/
def State.sweep (s : State) (c : Fin 9) (lead : Nat) (accesses : List Nat) : State × Sweep :=
  (coreLoops c).foldl (State.sweepTurn c lead) (s.takeSwap c, { left := accesses })

/-- The window of the core's lathe's statistics ends (R422). -/
def State.endWindow (s : State) (c : Fin 9) : State :=
  if c.val < 8 then s.modLathe c fun l => { l with stats := { all := l.stats.all } } else s

/-- The time of the last sweep is shown, and the longest (Table 11.7). -/
def State.showSweep (s : State) (c last : Nat) : State :=
  let s := s.wf (STD_CORE_SWEEP c) STD_CORE_SWEEP_LAST last
  s.wf (STD_CORE_SWEEP c) STD_CORE_SWEEP_MAX (max last (s.rf (STD_CORE_SWEEP c) STD_CORE_SWEEP_MAX))

theorem sweepTurn_kept (c : Fin 9) (lead : Nat) (acc : State × Sweep) (i : Nat) : Kept 0x225215a727f38 acc.1 (State.sweepTurn c lead acc i).1 := by
  have turn : Kept 0x225215a727f38 acc.1 (acc.1.sweepLoop c lead acc.2 i).1 := (Kept.refl _ _).step (State.sweepLoop_kept _ _ _ _ _)
  exact .ite (turn.step (State.watchLaser_kept _ _)) turn

theorem sweep_kept (s : State) (c : Fin 9) (lead : Nat) (accesses : List Nat) : Kept 0x225215a727f38 s (s.sweep c lead accesses).1 :=
  .fold Prod.fst ((Kept.refl _ s).step (State.takeSwap_kept _ _)) fun acc i h => h.trans (sweepTurn_kept c lead acc i)

theorem endWindow_kept (s : State) (c : Fin 9) : Kept 0x100 s (s.endWindow c) := .ite (State.modLathe_kept _ _ _) (.refl _ _)

theorem showSweep_kept (s : State) (c last : Nat) : Kept 0x8 s (s.showSweep c last) := (State.wf_kept _ _ _ _).trans (State.wf_kept _ _ _ _)

theorem showSweep_last_le_max (hs : Canon s) (c : Nat) {last : Nat} (h : last < 2 ^ 16) :
    (s.showSweep c last).rf (STD_CORE_SWEEP c) STD_CORE_SWEEP_LAST ≤ (s.showSweep c last).rf (STD_CORE_SWEEP c) STD_CORE_SWEEP_MAX := by
  unfold State.showSweep
  extract_lets u
  have hu : Canon u := hs.of_kept (State.wf_kept _ _ _ _)
  have old : u.rf (STD_CORE_SWEEP c) STD_CORE_SWEEP_MAX < 2 ^ 16 := bits_lt _ _ _
  have shown : u.rf (STD_CORE_SWEEP c) STD_CORE_SWEEP_LAST = last := (rf_wf_self hs _ _ _ (by decide)).trans (Nat.mod_eq_of_lt h)
  rw [rf_wf_other hu _ _ _ _ (by decide) (by decide), shown, rf_wf_self hu _ _ _ (by decide)]
  exact (le_max_left _ _).trans_eq (Nat.mod_eq_of_lt (max_lt h old)).symm

/-- A sample begins a sweep 2,000 ns later, or when the sweep before is over, and ends by showing how long it took. -/
theorem exists_execLoopSample_eq (c : Fin 9) (accesses : List Nat) (s : State) :
    let start := max (s.clock + 2000) (s.core c).sweepEnd
    ∃ u cycles last, Kept 0x225215a727f38 s u ∧ last < 2 ^ 16 ∧ execLoopSample c accesses s =
      .next ((u.setCore c { u.core c with sweepStart := start, sweepEnd := start + (5 * cycles + 1) / 2 }).showSweep c last) := by
  intro start
  refine ⟨(s.sweep c (start - s.clock) accesses).1.endWindow c, _, _, (sweep_kept _ _ _ _).step (endWindow_kept _ _), ?_, rfl⟩
  unfold satTo
  split <;> omega

/-! ### Registers of the steady rest -/

theorem execBreachLimit_of_reached {i : Fin 9216} (hrun : (s.loop i).st = .run)
    (hreached : (if s.rf (STD_SET_CFG (s.setIx i)) STD_SET_CFG_RES_COUNT = 0 then 8 else s.rf (STD_SET_CFG (s.setIx i)) STD_SET_CFG_RES_COUNT) ≤
      (s.loop i).breaches) :
    execBreachLimit i s = .next (s.freeze i (if (s.loop i).senseBreach then 2 else 1)) := by
  simp only [execBreachLimit, hrun, hreached, beq_self_eq_true, decide_true, Bool.and_self, if_true]

section
variable (hon : s.blockOff .std 0 = false)
include hon

theorem execCoeffBankSwap_on (c : Fin 9) (init : Bool) : execCoeffBankSwap c init s =
    .next ((s.wakeLink.setCore c { s.wakeLink.core c with swapAt := some s.wakeLink.clock, init := init }).wb (STD_CORE_BANK c) STD_CORE_BANK_PENDING true) :=
  atBlock_of_on _ hon

theorem execSetWrite_of_idle {c : Fin 9} {b : Bool} (k : Fin 64) (w : Fin 20) (v : Word)
    (hidle : b2n b ≠ s.wakeLink.rf (STD_CORE_BANK c) STD_CORE_BANK_ACTIVE) (hswap : (s.core c).swapAt = none) :
    execSetWrite c b k w v s = .next (s.wakeLink.wrSoft (STD_SET_CFG ((c.val * 2 + b2n b) * 64 + k) + 4 * w) v) := by
  have woken : (s.wakeLink.core c).swapAt = none := by rw [(State.wakeLink_kept s).core_eq, hswap]
  refine (atBlock_of_on _ hon).trans (congrArg Host.Outcome.next (if_neg ?_))
  simp [hidle, woken]

theorem execSetWrite_of_active {c : Fin 9} {b : Bool} (k : Fin 64) (w : Fin 20) (v : Word)
    (hactive : b2n b = s.wakeLink.rf (STD_CORE_BANK c) STD_CORE_BANK_ACTIVE) : execSetWrite c b k w v s = .next s.wakeLink := by
  refine (atBlock_of_on _ hon).trans (congrArg Host.Outcome.next (if_pos ?_))
  simp [hactive]

theorem execCoreCfgWrite_of_lathe {c : Fin 9} (v : Word) (hc : c.val < 8) : execCoreCfgWrite c v s =
    .next ((s.wakeLink.wf (STD_CORE_CFG c) STD_CORE_CFG_PERIOD (clampNat 8 40 (bits v.toNat 0 10))).wf (STD_CORE_CFG c) STD_CORE_CFG_SUB
      (clampNat 10 16 (bits v.toNat 16 4))) := by
  refine (atBlock_of_on _ hon).trans ?_
  simp only [hc, if_true]

end

/-- MODE of loop `i` becomes RUN by a write of its configuration, taken whole while MODE is OFF (R431, Table 11.5). -/
def State.writeRun (s : State) (i : Nat) (v : Word) : State :=
  (s.wrSoft (STD_LOOP_CFG i) (BitVec.ofNat 32 (setBits v.toNat 0 2 0))).wf (STD_LOOP_CFG i) STD_LOOP_CFG_MODE 1

section
variable {i : Fin 9216} {v : Word} (hon : s.blockOff .std 0 = false) (hv : v.toNat % 4 = 1) (hold : s.wakeLink.rf (STD_LOOP_CFG i) STD_LOOP_CFG_MODE = 0)
include hon hv hold

theorem execLoopModeWrite_run_of_forced (hforced : (s.wakeLink.writeRun i v).trimForced = true) :
    execLoopModeWrite i v s = .next (s.wakeLink.writeRun i v) := by
  have mode : bits v.toNat 0 2 = 1 := by simpa [bits] using hv
  unfold State.writeRun at hforced
  refine (atBlock_of_on _ hon).trans ?_
  simp only [mode, hold, Nat.one_lt_two, hforced, if_true]
  rfl

theorem execLoopModeWrite_run_of_off (hfree : (s.wakeLink.writeRun i v).trimForced = false) (hoff : ((s.wakeLink.writeRun i v).loop i).st = .off) :
    let u := s.wakeLink.writeRun i v
    execLoopModeWrite i v s = .next (if u.loopNamed (i / nLoops) (i % nLoops) then u.enterRun i (u.trim i).target
      else u.modLoop i fun l => { l with st := .idle }) := by
  have mode : bits v.toNat 0 2 = 1 := by simpa [bits] using hv
  unfold State.writeRun at hfree hoff
  refine (atBlock_of_on _ hon).trans ?_
  simp only [mode, hold, Nat.one_lt_two, hfree, hoff, Bool.false_eq_true, if_true, if_false]
  rfl

end

/-- Settles O47: a core's sample, the breach limit, swaps and sets of coefficient banks, a loop's mode and a core's configuration. -/
theorem steadyRest : Obligations.SteadyRest := by
  refine ⟨?sample, ?limit, ?swap, ?set, ?active, ?mode, ?config⟩
  case sample =>
    intro c accesses s hs
    obtain ⟨u, cycles, last, hu, hlast, eq⟩ := exists_execLoopSample_eq c accesses s
    have swept : Canon u := hs.of_kept hu
    refine ⟨_, eq, ?_, showSweep_last_le_max (swept.of_kept (State.setCore_kept _ _ _)) c hlast⟩
    rw [(showSweep_kept _ _ _).core_eq, setCore_core swept]
    exact Nat.le_add_right _ _
  case limit =>
    intro i s hrun hreached
    exact execBreachLimit_of_reached hrun hreached
  case swap =>
    intro c init s hs hon
    have woken := State.wakeLink_kept s
    have hw : Canon s.wakeLink := hs.of_kept woken
    refine ⟨_, execCoeffBankSwap_on hon c init, ?_, flag_wb_self (hw.of_kept (State.setCore_kept _ _ _)) _ _ _ (by decide) (by decide)⟩
    rw [(State.wb_kept _ _ _ _).core_eq, setCore_core hw, woken.core_eq, woken.clock_eq]
  case set =>
    intro c b k w v s hon hidle hswap
    exact execSetWrite_of_idle hon k w v hidle hswap
  case active =>
    intro c b k w v s hon hactive
    exact execSetWrite_of_active hon k w v hactive
  case mode =>
    intro i v s hon hv hold u
    refine ⟨execLoopModeWrite_run_of_forced hon hv hold, fun hfree hoff hnamed => ?_, fun hfree hoff hnamed => ?_⟩
    · exact (execLoopModeWrite_run_of_off hon hv hold hfree hoff).trans (congrArg Host.Outcome.next (if_pos hnamed))
    · exact (execLoopModeWrite_run_of_off hon hv hold hfree hoff).trans (congrArg Host.Outcome.next (if_neg (Bool.eq_false_iff.mp hnamed)))
  case config =>
    intro c v s hs hon hc
    have hw : Canon s.wakeLink := hs.of_kept (State.wakeLink_kept s)
    have within : clampNat 8 40 (bits v.toNat 0 10) < 2 ^ STD_CORE_CFG_PERIOD.w := Nat.lt_of_le_of_lt (clampNat_le (by decide) _) (by decide)
    refine ⟨_, execCoreCfgWrite_of_lathe hon v hc, ?_, ?_⟩
    · rw [rf_wf_other (hw.of_kept (State.wf_kept _ _ _ _)) _ _ _ _ (by decide) (by decide), rf_wf_self hw _ _ _ (by decide)]
      simpa [bits] using Nat.mod_eq_of_lt within
    · exact rf_wf_self (hw.of_kept (State.wf_kept _ _ _ _)) _ _ _ (by decide)

end Sys2Proof.Machine
end

section
/-! ## Trim channels: ticks, pushes, the deglitch hold, shorts and the forced clear (R439–R448) -/
set_option Elab.async false
namespace Sys2Proof.Machine

variable {s : State} {i : Fin 9216}

/-! ### Ticks and pushes (R440, R441) -/

/-- Channel `i`, if its queue feeds it, presents its oldest code (R441). -/
def State.tickTrim (s : State) (i : Nat) : State :=
  match (s.loop i).st, (s.trim i).queue with
  | .off, c :: rest => (s.modTrim i fun t => { t with queue := rest }).present i c
  | _, _ => s

theorem execTrimTick_of_forced (hforced : s.trimForced = true) : execTrimTick s = .next s := congrArg Host.Outcome.next (if_pos hforced)

theorem execTrimTick_of_free (hfree : s.trimForced = false) : execTrimTick s = .next ((s.trims.map (·.1)).foldl State.tickTrim s) :=
  congrArg Host.Outcome.next (if_neg (Bool.eq_false_iff.mp hfree))

theorem pushCode_of_room (hoff : (s.loop i).st = .off) (hroom : (s.trim i).queue.length < 16) (code : Nat) :
    s.pushCode i code = s.setTrim i { s.trim i with queue := (s.trim i).queue ++ [code] } := by
  simp [State.pushCode, hoff, hroom]

theorem pushCode_of_controlled (hon : (s.loop i).st ≠ .off) (code : Nat) : s.pushCode i code = s.bump TRM_STAT_DROPPED 1 := by
  simp [State.pushCode, hon]

theorem execTrmChPush_on (hon : s.blockOff .trm 0 = false) (code : BitVec 16) : execTrmChPush i code s = .next (s.wakeLink.pushCode i code.toNat) :=
  atBlock_of_on _ hon

/-! ### The deglitch hold and shorts (R442, R443) -/

/-- A hold ends: the code held back is presented (R442). -/
def Trim.endHold (t : Trim) : Trim :=
  match t.pend with
  | some c => { t with code := c, pend := none }
  | none => t

theorem execDeglitchEnd_eq (i : Fin 9216) (s : State) : execDeglitchEnd i s = .next (s.modTrim i Trim.endHold) := rfl

theorem Trim.endHold_of_pend {t : Trim} {c : Nat} (h : t.pend = some c) : t.endHold = { t with code := c, pend := none } := by
  simp only [Trim.endHold, h]

/-- Channel `i` is latched at its clear code by a short, counted and reported (R443). -/
def State.latchShort (s : State) (i : Nat) : State :=
  ((s.setTrim i { s.trim i with sc := true, code := s.clearCode i, pend := none }).bump TRM_STAT_SHORT 1).post 0xB02 cFAULT (unitOf 7 (i % nLoops)) 0xFFFF
    [(0x10, i / nLoops), (0x12, (s.trim i).code)]

theorem latchShort_loop (s : State) (i j : Nat) : (s.latchShort i).loop j = s.loop j :=
  ((State.post_kept _ _ _ _ _ _).loop_eq j).trans (((State.bump_kept _ _ _).loop_eq j).trans ((State.setTrim_kept _ _ _).loop_eq j))

theorem latchShort_trim (hs : Canon s) (i : Nat) : (s.latchShort i).trim i = { s.trim i with sc := true, code := s.clearCode i, pend := none } :=
  ((State.post_kept _ _ _ _ _ _).trim_eq i).trans (((State.bump_kept _ _ _).trim_eq i).trans (setTrim_trim hs i _))

theorem execShortLimitExpiry_of_idle (hsc : (s.trim i).sc = false) (hidle : (s.loop i).st ≠ .run) :
    execShortLimitExpiry i s = .next (s.latchShort i) := by
  have stays : ¬ ((s.latchShort i).loop i).st = .run := by rwa [latchShort_loop]
  refine congrArg Host.Outcome.next ((if_neg (Bool.eq_false_iff.mp hsc)).trans (if_neg ?_))
  change ¬ (((s.latchShort i).loop i).st == .run && !(s.latchShort i).trimForced) = true
  simp [stays]

theorem execScClear_of_short (hon : s.blockOff .trm 0 = false) (hsc : (s.trim i).sc = true) :
    execScClear i s = .next ((s.wakeLink.setTrim i { s.trim i with sc := false }).present i (s.trim i).src) := by
  have woken : s.wakeLink.trim i = s.trim i := (State.wakeLink_kept s).trim_eq i
  refine (atBlock_of_on _ hon).trans ?_
  simp only [woken, hsc, if_true]

/-! ### The forced clear (R446, R448) -/

theorem execTrimClrAssert_of_free (vent : Bool) (hfree : s.trimForced = false) :
    execTrimClrAssert vent s = .next ((if vent then { s with trimVent := true, trimSince := s.clock }
      else { s with trimPin := true, trimSince := s.clock }).forceClear (if vent then 2 else 1)) := by
  refine congrArg Host.Outcome.next ((if_neg (Bool.eq_false_iff.mp hfree)).trans ?_)
  cases vent <;> rfl

theorem execTrimClrRelease_of_last {vent : Bool} (hpin : s.trimPin = !vent) (hvent : s.trimVent = vent) :
    execTrimClrRelease vent s = .next ((if vent then { s with trimVent := false } else { s with trimPin := false }).releaseClear) := by
  refine congrArg Host.Outcome.next (if_pos ?_)
  cases vent <;> simp [State.trimForced, hpin, hvent]

/-- Settles O48: ticks, pushes, the end of a deglitch hold, shorts latched and cleared, and the forced clear. -/
theorem trimChannels : Obligations.TrimChannels := by
  refine ⟨?forced, ?tick, ?push, ?dropped, ?hold, ?short, ?clear, ?assert, ?release⟩
  case forced =>
    intro s hforced
    exact execTrimTick_of_forced hforced
  case tick =>
    intro s hfree
    exact execTrimTick_of_free hfree
  case push =>
    intro i code s hs hon hoff hroom
    have woken := State.wakeLink_kept s
    have sameTrim : s.wakeLink.trim i = s.trim i := woken.trim_eq i
    refine ⟨_, (execTrmChPush_on hon code).trans (congrArg Host.Outcome.next (pushCode_of_room ?_ ?_ _)), ?_⟩
    · rw [woken.loop_eq, hoff]
    · rw [sameTrim]; exact hroom
    · exact (setTrim_trim (hs.of_kept woken) _ _).trans (by rw [sameTrim])
  case dropped =>
    intro i code s hon hcontrolled
    refine (execTrmChPush_on hon code).trans (congrArg Host.Outcome.next (pushCode_of_controlled ?_ _))
    rwa [(State.wakeLink_kept s).loop_eq]
  case hold =>
    intro i c s hs hpend
    refine ⟨_, execDeglitchEnd_eq i s, ?_, fun j hj => modTrim_trim_ne hs _ hj⟩
    rw [modTrim_trim hs, Trim.endHold_of_pend hpend]
  case short =>
    intro i s hs hsc hidle
    exact ⟨_, execShortLimitExpiry_of_idle hsc hidle, latchShort_trim hs i⟩
  case clear =>
    intro i s hon hsc
    exact execScClear_of_short hon hsc
  case assert =>
    intro vent s hfree
    exact execTrimClrAssert_of_free vent hfree
  case release =>
    intro vent s hpin hvent
    exact execTrimClrRelease_of_last hpin hvent

end Sys2Proof.Machine
end

section
/-! ## The operations of the Vent (R589–R595, Table 16.5)

A request that reaches an idle Vent starts at once, and each operation is a function of the request: what the thirteen commands have in common is
said once, and then what each operation does. -/
set_option Elab.async false
namespace Sys2Proof.Machine

variable {s : State} {r : VentReq}

/-! ### A request arrives (R590, R592) -/

theorem ventSettle_of_idle (h : s.vent.run = none) : s.ventSettle = s := by simp only [State.ventSettle, h]

theorem ventSettle_of_running {x : VentReq} (hrun : s.vent.run = some x) (hover : s.ventOver x = false) : s.ventSettle = s := by
  simp only [State.ventSettle, hrun, hover, Bool.false_eq_true, if_false]

/-- The request's interface reaches the Vent, which is up (R523, R534). -/
def State.Reaches (s : State) (r : VentReq) : Prop := s.ventUp = true ∧ (s.power.cold = true → r.mgmt = true)

theorem State.Reaches.not_lost (h : s.Reaches r) : ¬ (!s.ventUp || (s.power.cold && !r.mgmt)) = true := by
  obtain ⟨up, cold⟩ := h
  cases hc : s.power.cold
  · simp [up]
  · simp [up, cold hc]

theorem ventArrive_of_idle (hreach : s.Reaches r) (hidle : s.vent.run = none) : s.ventArrive r = s.ventStart r := by
  refine (if_neg hreach.not_lost).trans ?_
  simp only [ventSettle_of_idle hidle, hidle, Option.isNone_none, Bool.true_or, if_true]

/-- Another operation runs, and this one is not of the three that start at once. -/
def State.Waits (s : State) (r : VentReq) : Prop := (∃ x, s.vent.run = some x ∧ s.ventOver x = false) ∧ r.op ≠ 7 ∧ r.op ≠ 8 ∧ r.op ≠ 0xB

/-- The mailbox shows its request as busy (R589); the management port shows nothing. -/
def State.showWaiting (s : State) (r : VentReq) : State :=
  if r.mgmt then s else (s.wb VNT_MBX_STATUS VNT_MBX_STATUS_BUSY true).wb VNT_MBX_STATUS VNT_MBX_STATUS_DONE false

theorem showWaiting_vent (s : State) (r : VentReq) : (s.showWaiting r).vent = s.vent :=
  have kept : Kept 0x8 s (s.showWaiting r) := .ite (.refl _ _) ((State.wb_kept _ _ _ _).trans (State.wb_kept _ _ _ _))
  kept.1 .vent (by decide)

theorem ventArrive_of_running (hreach : s.Reaches r) (hwaits : s.Waits r) : s.ventArrive r =
    if 4 ≤ countOf s.vent.queue (fun q => q.mgmt == r.mgmt) then s.ventReply r 4 []
    else { s.showWaiting r with vent := { (s.showWaiting r).vent with queue := (s.showWaiting r).vent.queue ++ [r] } } := by
  obtain ⟨⟨x, hrun, hover⟩, h7, h8, hB⟩ := hwaits
  refine (if_neg hreach.not_lost).trans ?_
  simp only [ventSettle_of_running hrun hover, hrun, h7, h8, hB, Option.isNone_some, decide_false, Bool.or_self, Bool.false_eq_true, if_false]
  rfl

theorem ventAllowed_of_session (h : r.mgmt = true → s.hasUsage .management uUSER = true) : s.ventAllowed r = true := by
  cases hm : r.mgmt
  · simp [State.ventAllowed, hm]
  · simp [State.ventAllowed, h hm]

theorem ventAllowed_of_open (h : r.op = 1 ∨ r.op = 2 ∨ r.op = 0xA) : s.ventAllowed r = true := by
  simp only [State.ventAllowed]
  rcases h with h | h | h <;> simp [h]

theorem ventStart_of_refused (hmgmt : r.mgmt = true) (h1 : r.op ≠ 1) (h2 : r.op ≠ 2) (hA : r.op ≠ 0xA) (hnone : s.hasUsage .management uUSER = false) :
    s.ventStart r = s.ventReply r 2 [] := by
  have refused : s.ventAllowed r = false := by simp [State.ventAllowed, hmgmt, h1, h2, hA, hnone]
  simp only [State.ventStart, refused, Bool.not_false, if_true]

/-! ### What each operation does (Table 16.5) -/

theorem ventHist_of_unit {k : Nat} (hk : histSel r.arg0 = some k) : s.ventHist r = s.ventReply r 0 ((s.histWords k).flatMap fun w => leBytes w 4) := by
  simp only [State.ventHist, hk]

theorem ventHist_of_noUnit (hk : histSel r.arg0 = none) : s.ventHist r = s.ventReply r 3 [] := by simp only [State.ventHist, hk]

/-- Domain `n` cannot be reset: the jig disables it, a transition runs, the device is held in reset, or the reference is lost (R513, R533). -/
def State.domainBusy (s : State) (n : Nat) : Prop :=
  s.jigDom n = false ∨ s.flag PWR_STATUS PWR_STATUS_TRANS = true ∨ s.power.resetHeld = true ∨ s.power.refLost = true

theorem ventDomain_of_vent (hn : bits r.arg0 0 6 = 63) : s.ventDomain r = s.ventReply r 3 [] := if_pos hn

theorem ventDomain_of_busy (hn : bits r.arg0 0 6 ≠ 63) (hbusy : s.domainBusy (bits r.arg0 0 6)) : s.ventDomain r = s.ventReply r 6 [] := by
  refine (if_neg hn).trans (if_pos ?_)
  unfold State.domainBusy at hbusy
  rcases hbusy with h | h | h | h <;> simp [h]

theorem ventDomain_of_ready (hn : bits r.arg0 0 6 ≠ 63) (hready : ¬ s.domainBusy (bits r.arg0 0 6)) :
    s.ventDomain r = (s.domainReset (bits r.arg0 0 6) 2).ventReply r 0 [] := by
  refine (if_neg hn).trans (if_neg ?_)
  simp only [State.domainBusy, not_or, Bool.not_eq_false, Bool.not_eq_true] at hready
  obtain ⟨jig, trans, held, lost⟩ := hready
  simp [jig, trans, held, lost]

theorem ventAbort_eq (s : State) (r : VentReq) :
    s.ventAbort r = { s.abortEvery with vent := { s.abortEvery.vent with run := some r, abortAt := s.clock } } :=
  congrArg (fun begun => { s.abortEvery with vent := { s.abortEvery.vent with run := some r, abortAt := begun } }) (State.abortEvery_kept s).clock_eq

/-- Every program is aborted and every calibration ended, and the transition waits for nothing (R528). -/
def State.powerDown (s : State) (target : Nat) (r : VentReq) : State :=
  let u := ((List.range 8).foldl (fun (acc : State) n => acc.endCal n 7) s.abortEvery).beginTransition target true
  { u with power := { u.power with waiting := false }, vent := { u.vent with run := some r } }

theorem ventPower_of_noTarget (h3 : r.arg0 ≠ 3) (h4 : r.arg0 ≠ 4) : s.ventPower r = s.ventReply r 3 [] := by
  simp [State.ventPower, h3, h4]

section
variable (htarget : r.arg0 = 3 ∨ r.arg0 = 4)
include htarget

theorem powerTarget_known : ¬ (decide (r.arg0 ≠ 3) && decide (r.arg0 ≠ 4)) = true := by rcases htarget with h | h <;> simp [h]

theorem ventPower_of_held (hheld : s.power.resetHeld = true ∨ s.power.refLost = true) : s.ventPower r = s.ventReply r 6 [] := by
  refine (if_neg (powerTarget_known htarget)).trans (if_pos ?_)
  simpa using hheld

variable (hheld : s.power.resetHeld = false) (href : s.power.refLost = false)
include hheld href

theorem ventPower_of_done (hdone : s.power.cold = true ∨ (r.arg0 ≤ s.pwr ∧ s.flag PWR_STATUS PWR_STATUS_TRANS = false)) :
    s.ventPower r = s.ventReply r 0 [] := by
  refine (if_neg (powerTarget_known htarget)).trans ((if_neg ?_).trans (if_pos ?_))
  · simp [hheld, href]
  · simpa using hdone

theorem ventPower_of_due (hcold : s.power.cold = false) (hdue : s.pwr < r.arg0 ∨ s.flag PWR_STATUS PWR_STATUS_TRANS = true) :
    s.ventPower r = s.powerDown r.arg0 r := by
  refine (if_neg (powerTarget_known htarget)).trans ((if_neg ?_).trans (if_neg ?_))
  · simp [hheld, href]
  · rcases hdue with h | h
    · simp [hcold, Nat.not_le.mpr h]
    · simp [hcold, h]

end

theorem ventRollback_of_refused (h : s.rollbackRefusal ≠ 0) : s.ventRollback r = s.ventReply r 6 [] := if_pos h

theorem ventRollback_of_accepted (h : s.rollbackRefusal = 0) :
    s.ventRollback r = { s.beginRollback 4 with vent := { (s.beginRollback 4).vent with run := some r } } := if_neg (not_not_intro h)

theorem ventAttest_of_silent (h : s.secAnswers 3 = false) : s.ventAttest r = s.ventReply r 5 [] := by simp [State.ventAttest, h]

theorem ventAttest_of_badLength (h : s.secAnswers 3 = true) (hlen : bits r.arg0 0 8 = 0 ∨ 48 < bits r.arg0 0 8) : s.ventAttest r = s.ventReply r 3 [] := by
  simp [State.ventAttest, h, hlen]

theorem ventAttest_of_length (h : s.secAnswers 3 = true) (hpos : bits r.arg0 0 8 ≠ 0) (hle : bits r.arg0 0 8 ≤ 48) : s.ventAttest r =
    (s.bump SEC_STAT_QUOTES 1).ventReply r 0 (s.quote ((r.data ++ List.replicate 48 0).take (bits r.arg0 0 8)) (bits r.arg0 16 16)) := by
  simp [State.ventAttest, h, hpos, hle]

theorem ventTrim_force_of_free (hset : bit r.arg0 0 = true) (hfree : s.trimForced = false) :
    s.ventTrim r = (({ s with trimVent := true, trimSince := s.clock } : State).forceClear 2).ventReply r 0 [] := by
  simp only [State.ventTrim, hset, hfree, Bool.false_eq_true, if_true, if_false]

theorem ventTrim_force_of_forced (hset : bit r.arg0 0 = true) (hforced : s.trimForced = true) :
    s.ventTrim r = ({ s with trimVent := true } : State).ventReply r 0 [] := by
  simp only [State.ventTrim, hset, hforced, if_true]

theorem ventTrim_release_of_last (hclear : bit r.arg0 0 = false) (hforced : s.trimForced = true) (hpin : s.trimPin = false) :
    s.ventTrim r = ({ s with trimVent := false } : State).releaseClear.ventReply r 0 [] := by
  have ends : ({ s with trimVent := false } : State).trimForced = false := by simp [State.trimForced, hpin]
  simp only [State.ventTrim, hclear, hforced, ends, Bool.false_eq_true, Bool.not_false, Bool.and_self, if_true, if_false]

theorem ventTrim_release_of_other (hclear : bit r.arg0 0 = false) (hother : s.trimForced = false ∨ s.trimPin = true) :
    s.ventTrim r = ({ s with trimVent := false } : State).ventReply r 0 [] := by
  have stays : (s.trimForced && !({ s with trimVent := false } : State).trimForced) = false := by
    rcases hother with free | pin
    · simp [free]
    · simp [State.trimForced, pin]
  simp only [State.ventTrim, hclear, stays, Bool.false_eq_true, if_false]

theorem ventWakeUp_of_awake (h : s.pwr < 3) : s.ventWakeUp r = s.ventReply r 6 [] := if_pos h

theorem ventWakeUp_of_asleep (h : 3 ≤ s.pwr) :
    s.ventWakeUp r = ({ s with power := { s.power with reqTarget := some 0, reqVent := true, timed := [] } } : State).ventReply r 0 [] :=
  if_neg (Nat.not_lt.mpr h)

/-- The first and the last of the request's lines are mapped memory here. -/
def State.linesMapped (s : State) (x lines : Nat) : Prop :=
  lines = 0 ∨ (s.mapped (x % 2 ^ 40) = true ∧ s.mapped (x % 2 ^ 40 + 64 * (lines - 1)) = true)

theorem linesMapped_iff (s : State) (x lines : Nat) :
    ((List.range (min lines 1)).all fun _ => s.mapped (x % 2 ^ 40) && s.mapped (x % 2 ^ 40 + 64 * (lines - 1))) = true ↔ s.linesMapped x lines := by
  unfold State.linesMapped
  rcases Nat.eq_zero_or_pos lines with rfl | h
  · simp
  · simp [Nat.min_eq_right h, Nat.ne_of_gt h]

theorem ventMark_of_unmapped (hlocal : s.isLocal (r.arg1 % 2 ^ 56 / 64 * 64) = true) (hmap : ¬ s.linesMapped (r.arg1 % 2 ^ 56 / 64 * 64) r.arg0) :
    s.ventMark r = s.ventReply r 5 [] := by
  rw [← linesMapped_iff, Bool.not_eq_true] at hmap
  refine if_pos ?_
  rw [hlocal, hmap]
  rfl

theorem ventMark_of_mapped (h : s.isLocal (r.arg1 % 2 ^ 56 / 64 * 64) = false ∨ s.linesMapped (r.arg1 % 2 ^ 56 / 64 * 64) r.arg0) : s.ventMark r =
    (s.poisonGlobal 25 (r.arg1 % 2 ^ 56 / 64 * 64) (64 * r.arg0) (BitVec.ofNat 2 (s.rf IZP_GCFG IZP_GCFG_DEFAULT_RS))).ventReply r 0 [] := by
  refine if_neg ?_
  rcases h with away | mapped
  · rw [away]
    simp
  · rw [(linesMapped_iff _ _ _).mpr mapped]
    simp

theorem execAbortAllTimeout_of_late (hrun : s.vent.run = some r) (hop : r.op = 5) (hlate : s.vent.abortAt + 10 * ms ≤ s.clock) :
    execAbortAllTimeout s =
      .next (((List.range 8).filter s.holdsAborting).foldl (fun (acc : State) b => (acc.groupReset b false).resetEvent (4 * b + 3) 2) s).ventSettle := by
  simp only [execAbortAllTimeout, hrun, hop, Nat.not_lt.mpr hlate, ne_eq, not_true, decide_false, Bool.or_self, Bool.false_eq_true, if_false]

/-! ### The thirteen commands -/

/-- A request that reaches the idle Vent with authority ends as its operation, the branch of `ventStart` that its number picks, ends. -/
theorem ventArrive_completes {u op t : State} (hreach : s.Reaches r) (hidle : s.vent.run = none) (hallowed : s.ventAllowed r = true)
    (hop : s.ventStart r = if !s.ventAllowed r then u else op) (ht : op = t) : Host.Outcome.next (s.ventArrive r) = (.next t : Out) := by
  rw [ventArrive_of_idle hreach hidle, hop, hallowed, ← ht]
  rfl

/-- Settles O60: each operation of the Vent, the requests it refuses or keeps waiting, and the timeout of ABORT_ALL. -/
theorem ventOperations : Obligations.VentOperations := by
  refine ⟨?status, ?history, ?domain, ?device, ?abort, ?power, ?bypass, ?trip, ?rollback, ?quote, ?trim, ?wake, ?mark, ?refused, ?waits, ?timeout⟩
  case status =>
    intro i seq s hup hcold hidle r
    exact ventArrive_completes ⟨hup, hcold⟩ hidle (ventAllowed_of_open (.inl rfl)) rfl rfl
  case history =>
    intro i seq sel s hup hcold hidle r
    have starts {t : State} : s.ventHist r = t → exec (.ventHistory i seq sel) s = .next t :=
      ventArrive_completes ⟨hup, hcold⟩ hidle (ventAllowed_of_open (.inr (.inl rfl))) rfl
    exact ⟨fun k hk => starts (ventHist_of_unit hk), fun hk => starts (ventHist_of_noUnit hk)⟩
  case domain =>
    intro i seq d s hup hcold hidle huser r n busy
    have starts {t : State} : s.ventDomain r = t → exec (.ventDomainReset i seq d) s = .next t :=
      ventArrive_completes ⟨hup, hcold⟩ hidle (ventAllowed_of_session huser) rfl
    exact ⟨fun hn => starts (ventDomain_of_vent hn), fun hn hbusy => starts (ventDomain_of_busy hn hbusy),
      fun hn hready => starts (ventDomain_of_ready hn hready)⟩
  case device =>
    intro i seq s hup hcold hidle huser r
    exact ventArrive_completes ⟨hup, hcold⟩ hidle (ventAllowed_of_session huser) rfl rfl
  case abort =>
    intro i seq s hup hcold hidle huser r
    exact ventArrive_completes ⟨hup, hcold⟩ hidle (ventAllowed_of_session huser) rfl (ventAbort_eq s r)
  case power =>
    intro i seq target s hup hcold hidle huser r t
    have starts {t : State} : s.ventPower r = t → exec (.ventPowerDown i seq target) s = .next t :=
      ventArrive_completes ⟨hup, hcold⟩ hidle (ventAllowed_of_session huser) rfl
    refine ⟨fun h3 h4 => starts (ventPower_of_noTarget h3 h4), fun ht hheld => starts (ventPower_of_held ht hheld),
      fun ht hheld href hdone => starts (ventPower_of_done ht hheld href hdone),
      fun ht hheld href hon hdue => ?_⟩
    have due : s.ventPower r = s.powerDown t r := ventPower_of_due ht hheld href hon hdue
    exact starts due
  case bypass =>
    intro i seq mask s hup hcold hidle huser r
    exact ventArrive_completes ⟨hup, hcold⟩ hidle (ventAllowed_of_session huser) rfl rfl
  case trip =>
    intro i seq s hup hcold hidle huser r
    exact ventArrive_completes ⟨hup, hcold⟩ hidle (ventAllowed_of_session huser) rfl rfl
  case rollback =>
    intro i seq s hup hcold hidle huser r
    have starts {t : State} : s.ventRollback r = t → exec (.ventJigRollback i seq) s = .next t :=
      ventArrive_completes ⟨hup, hcold⟩ hidle (ventAllowed_of_session huser) rfl
    exact ⟨fun h => starts (ventRollback_of_refused h), fun h => starts (ventRollback_of_accepted h)⟩
  case quote =>
    intro i seq arg nonce s hup hcold hidle r len
    have starts {t : State} : s.ventAttest r = t → exec (.ventQuote i seq arg nonce) s = .next t :=
      ventArrive_completes ⟨hup, hcold⟩ hidle (ventAllowed_of_open (.inr (.inr rfl))) rfl
    exact ⟨fun h => starts (ventAttest_of_silent h), fun h hlen => starts (ventAttest_of_badLength h hlen),
      fun h hpos hle => starts (ventAttest_of_length h hpos hle)⟩
  case trim =>
    intro i seq arg s hup hcold hidle huser r
    have starts {t : State} : s.ventTrim r = t → exec (.ventTrimClear i seq arg) s = .next t :=
      ventArrive_completes ⟨hup, hcold⟩ hidle (ventAllowed_of_session huser) rfl
    exact ⟨fun hset hfree => starts (ventTrim_force_of_free hset hfree), fun hset hforced => starts (ventTrim_force_of_forced hset hforced),
      fun hclear hforced hpin => starts (ventTrim_release_of_last hclear hforced hpin),
      fun hclear hother => starts (ventTrim_release_of_other hclear hother)⟩
  case wake =>
    intro i seq s hup hcold hidle huser r
    have starts {t : State} : s.ventWakeUp r = t → exec (.ventWake i seq) s = .next t :=
      ventArrive_completes ⟨hup, hcold⟩ hidle (ventAllowed_of_session huser) rfl
    exact ⟨fun h => starts (ventWakeUp_of_awake h), fun h => starts (ventWakeUp_of_asleep h)⟩
  case mark =>
    intro i seq lines a s hup hcold hidle huser r x ok
    have starts {t : State} : s.ventMark r = t → exec (.ventPoisonMark i seq lines a) s = .next t :=
      ventArrive_completes ⟨hup, hcold⟩ hidle (ventAllowed_of_session huser) rfl
    exact ⟨fun hlocal hmap => starts (ventMark_of_unmapped hlocal hmap), fun h => starts (ventMark_of_mapped h)⟩
  case refused =>
    intro r s hmgmt h1 h2 hA hnone
    exact ventStart_of_refused hmgmt h1 h2 hA hnone
  case waits =>
    intro i seq x s hup hcold hrun hover r
    have waits : s.Waits r := ⟨⟨x, hrun, hover⟩, by simp [r]⟩
    have arrives := ventArrive_of_running ⟨hup, hcold⟩ waits
    refine ⟨fun hfull => congrArg Host.Outcome.next (arrives.trans (if_pos hfull)), fun hroom => ?_⟩
    refine ⟨_, congrArg Host.Outcome.next (arrives.trans (if_neg (Nat.not_le.mpr hroom))), ?_⟩
    exact congrArg (fun v : Vent => v.queue ++ [r]) (showWaiting_vent s r)
  case timeout =>
    intro r s hrun hop hlate
    exact execAbortAllTimeout_of_late hrun hop hlate

end Sys2Proof.Machine
end

section
/-! ## What every command keeps

`exec_kept` puts the frames of the 238 commands together: each is in the mask of the parts that `partsOf` lists for it. The frame of the machine as a
whole, the canonical form along steps and the counters of R551 follow from it. -/
set_option Elab.async false
namespace Sys2Proof.Machine

/-- Every command answers a next state, which differs in the listed parts at most, is canonical where the first is, and lowers no counter. -/
theorem exec_kept : ∀ (c : Instr) (s : State), OutKept (partMask (partsOf c)) s (exec c s)
  | .registerWrite off size value, s => (execRegisterWrite_kept off size value s).of_parts rfl
  | .statClr blk, s => (execStatClr_kept blk s).of_parts rfl
  | .unmappedAccess req ctx a wr, s => (execUnmappedAccess_kept req ctx a wr s).of_parts rfl
  | .accWindowRead a, s => (execAccWindowRead_kept a s).of_parts rfl
  | .svcReqWrite n v, s => (execSvcReqWrite_kept n v s).of_parts rfl
  | .lthMapWrite n col ix v, s => (execLthMapWrite_kept n col ix v s).of_parts rfl
  | .bankAgeMaxWrite n v, s => (execBankAgeMaxWrite_kept n v s).of_parts rfl
  | .lasersLocked n, s => (execLasersLocked_kept n s).of_parts rfl
  | .quiesceEnd n, s => (execQuiesceEnd_kept n s).of_parts rfl
  | .programAccept b, s => (execProgramAccept_kept b s).of_parts rfl
  | .sqEnable n ix v, s => (execSqEnable_kept n ix v s).of_parts rfl
  | .sqDoorbell n ix t, s => (execSqDoorbell_kept n ix t s).of_parts rfl
  | .programStart b, s => (execProgramStart_kept b s).of_parts rfl
  | .fetch b p k, s => (execFetch_kept b p k s).of_parts rfl
  | .load b p k glitch, s => (execLoad_kept b p k glitch s).of_parts rfl
  | .bankWriteEnd n, s => (execBankWriteEnd_kept n s).of_parts rfl
  | .run b p k parity, s => (execRun_kept b p k parity s).of_parts rfl
  | .refreshStart n, s => (execRefreshStart_kept n s).of_parts rfl
  | .strokeDataEnd b, s => (execStrokeDataEnd_kept b s).of_parts rfl
  | .accumulatorAdd n dev spareDev, s => (execAccumulatorAdd_kept n dev spareDev s).of_parts rfl
  | .strokeVerdict n, s => (execStrokeVerdict_kept n s).of_parts rfl
  | .replayStart n, s => (execReplayStart_kept n s).of_parts rfl
  | .arbitrationEnd n, s => (execArbitrationEnd_kept n s).of_parts rfl
  | .correctionEnd n, s => (execCorrectionEnd_kept n s).of_parts rfl
  | .spanMoveStart n g, s => (execSpanMoveStart_kept n g s).of_parts rfl
  | .spanMoveEnd n g, s => (execSpanMoveEnd_kept n g s).of_parts rfl
  | .drain b p k parity, s => (execDrain_kept b p k parity s).of_parts rfl
  | .drainStart n g parity, s => (execDrainStart_kept n g parity s).of_parts rfl
  | .drainEnd n, s => (execDrainEnd_kept n s).of_parts rfl
  | .scaleRecordUpdate, s => (execScaleRecordUpdate_kept s).of_parts rfl
  | .scaleRecordEvaluate, s => (execScaleRecordEvaluate_kept s).of_parts rfl
  | .invalidGroupFree n g, s => (execInvalidGroupFree_kept n g s).of_parts rfl
  | .accModeWrite n v, s => (execAccModeWrite_kept n v s).of_parts rfl
  | .seedWrite n v, s => (execSeedWrite_kept n v s).of_parts rfl
  | .reduce b p k, s => (execReduce_kept b p k s).of_parts rfl
  | .signal b p k, s => (execSignal_kept b p k s).of_parts rfl
  | .wait b p k, s => (execWait_kept b p k s).of_parts rfl
  | .waitTimeout ix b p k, s => (execWaitTimeout_kept ix b p k s).of_parts rfl
  | .semValWrite ix v, s => (execSemValWrite_kept ix v s).of_parts rfl
  | .semAddWrite ix v, s => (execSemAddWrite_kept ix v s).of_parts rfl
  | .swap b p k, s => (execSwap_kept b p k s).of_parts rfl
  | .fence b p k, s => (execFence_kept b p k s).of_parts rfl
  | .atStage b p k, s => (execAtStage_kept b p k s).of_parts rfl
  | .descArm n d, s => (execDescArm_kept n d s).of_parts rfl
  | .descCancel n d, s => (execDescCancel_kept n d s).of_parts rfl
  | .transferDone n d parity, s => (execTransferDone_kept n d parity s).of_parts rfl
  | .programCommit b p, s => (execProgramCommit_kept b p s).of_parts rfl
  | .strAbort n v, s => (execStrAbort_kept n v s).of_parts rfl
  | .programAbortRetire b p, s => (execProgramAbortRetire_kept b p s).of_parts rfl
  | .programTimeoutExpiry b p, s => (execProgramTimeoutExpiry_kept b p s).of_parts rfl
  | .wtbWrite ix w v, s => (execWtbWrite_kept ix w v s).of_parts rfl
  | .wtbClear ix, s => (execWtbClear_kept ix s).of_parts rfl
  | .verifyEnd, s => (execVerifyEnd_kept s).of_parts rfl
  | .passOpen p ctx, s => (execPassOpen_kept p ctx s).of_parts rfl
  | .passClose p ctx, s => (execPassClose_kept p ctx s).of_parts rfl
  | .swapWriteStart glitch, s => (execSwapWriteStart_kept glitch s).of_parts rfl
  | .stagedHeaderReread, s => (execStagedHeaderReread_kept s).of_parts rfl
  | .swapWriteEnd, s => (execSwapWriteEnd_kept s).of_parts rfl
  | .shardTimeout n, s => (execShardTimeout_kept n s).of_parts rfl
  | .buildGo gain, s => (execBuildGo_kept gain s).of_parts rfl
  | .buildEnd parity, s => (execBuildEnd_kept parity s).of_parts rfl
  | .hbmLineRead a d r src req ctx, s => (execHbmLineRead_kept a d r src req ctx s).of_parts rfl
  | .correctionRate c, s => (execCorrectionRate_kept c s).of_parts rfl
  | .hbmLineWrite a data poison d r req, s => (execHbmLineWrite_kept a data poison d r req s).of_parts rfl
  | .infeedLineWrite a data poison req, s => (execInfeedLineWrite_kept a data poison req s).of_parts rfl
  | .scrubRead c d r, s => (execScrubRead_kept c d r s).of_parts rfl
  | .stackTempRead m t, s => (execStackTempRead_kept m t s).of_parts rfl
  | .retireGo m c, s => (execRetireGo_kept m c s).of_parts rfl
  | .retireEnd m errs, s => (execRetireEnd_kept m errs s).of_parts rfl
  | .hbmTrainingEnd m failed whole, s => (execHbmTrainingEnd_kept m failed whole s).of_parts rfl
  | .contextPoisonAbort unit reducer use ctx a, s => (execContextPoisonAbort_kept unit reducer use ctx a s).of_parts rfl
  | .add c parity, s => (execAdd_kept c parity s).of_parts rfl
  | .max c parity, s => (execMax_kept c parity s).of_parts rfl
  | .min c parity, s => (execMin_kept c parity s).of_parts rfl
  | .xor c parity, s => (execXor_kept c parity s).of_parts rfl
  | .maxIdx c parity, s => (execMaxIdx_kept c parity s).of_parts rfl
  | .minIdx c parity, s => (execMinIdx_kept c parity s).of_parts rfl
  | .reducerWrite c parity, s => (execReducerWrite_kept c parity s).of_parts rfl
  | .poisonMark c parity, s => (execPoisonMark_kept c parity s).of_parts rfl
  | .linkTrained p dev pp lower upper, s => (execLinkTrained_kept p dev pp lower upper s).of_parts rfl
  | .lossOfLight p, s => (execLossOfLight_kept p s).of_parts rfl
  | .portRetrain p, s => (execPortRetrain_kept p s).of_parts rfl
  | .portEnWrite p v, s => (execPortEnWrite_kept p v s).of_parts rfl
  | .corruptPacket p fec, s => (execCorruptPacket_kept p fec s).of_parts rfl
  | .retransmitTimeout p nak, s => (execRetransmitTimeout_kept p nak s).of_parts rfl
  | .retryLimit p, s => (execRetryLimit_kept p s).of_parts rfl
  | .link p pk, s => (execLink_kept p pk s).of_parts rfl
  | .packetForward p pk, s => (execPacketForward_kept p pk s).of_parts rfl
  | .fabricRead p pk parity, s => (execFabricRead_kept p pk parity s).of_parts rfl
  | .fabricWrite p pk parity, s => (execFabricWrite_kept p pk parity s).of_parts rfl
  | .fabricReduce p pk, s => (execFabricReduce_kept p pk s).of_parts rfl
  | .fabricSignal p pk, s => (execFabricSignal_kept p pk s).of_parts rfl
  | .cpl p pk, s => (execCpl_kept p pk s).of_parts rfl
  | .cplData p pk, s => (execCplData_kept p pk s).of_parts rfl
  | .requestTimeout tag, s => (execRequestTimeout_kept tag s).of_parts rfl
  | .bypassOpen mask, s => (execBypassOpen_kept mask s).of_parts rfl
  | .bypassClose mask, s => (execBypassClose_kept mask s).of_parts rfl
  | .bypassSettled k, s => (execBypassSettled_kept k s).of_parts rfl
  | .mcastEnable g v, s => (execMcastEnable_kept g v s).of_parts rfl
  | .mcastSend g, s => (execMcastSend_kept g s).of_parts rfl
  | .mcastHoldExpiry g, s => (execMcastHoldExpiry_kept g s).of_parts rfl
  | .mcastUnprune g mask, s => (execMcastUnprune_kept g mask s).of_parts rfl
  | .mcastWrite p pk, s => (execMcastWrite_kept p pk s).of_parts rfl
  | .credit p pk, s => (execCredit_kept p pk s).of_parts rfl
  | .gap p pk, s => (execGap_kept p pk s).of_parts rfl
  | .timeExchange, s => (execTimeExchange_kept s).of_parts rfl
  | .time p pk m, s => (execTime_kept p pk m s).of_parts rfl
  | .parentTimeout, s => (execParentTimeout_kept s).of_parts rfl
  | .uncertLimit, s => (execUncertLimit_kept s).of_parts rfl
  | .referenceLost ix, s => (execReferenceLost_kept ix s).of_parts rfl
  | .ppsEdge, s => (execPpsEdge_kept s).of_parts rfl
  | .ftmSet v, s => (execFtmSet_kept v s).of_parts rfl
  | .ftmNowRead, s => (execFtmNowRead_kept s).of_parts rfl
  | .railBelowWarning r, s => (execRailBelowWarning_kept r s).of_parts rfl
  | .railRecovered r, s => (execRailRecovered_kept r s).of_parts rfl
  | .suspectReplayEnd n, s => (execSuspectReplayEnd_kept n s).of_parts rfl
  | .railWarningTimeout r, s => (execRailWarningTimeout_kept r s).of_parts rfl
  | .railResetLevel r, s => (execRailResetLevel_kept r s).of_parts rfl
  | .permanentClassing u, s => (execPermanentClassing_kept u s).of_parts rfl
  | .historyFlashWriteEnd, s => (execHistoryFlashWriteEnd_kept s).of_parts rfl
  | .histRead, s => (execHistRead_kept s).of_parts rfl
  | .histClear, s => (execHistClear_kept s).of_parts rfl
  | .loopSample c accesses, s => (execLoopSample_kept c accesses s).of_parts rfl
  | .breachLimit ix, s => (execBreachLimit_kept ix s).of_parts rfl
  | .coeffBankSwap c init, s => (execCoeffBankSwap_kept c init s).of_parts rfl
  | .setWrite c b k w v, s => (execSetWrite_kept c b k w v s).of_parts rfl
  | .loopModeWrite ix v, s => (execLoopModeWrite_kept ix v s).of_parts rfl
  | .coreCfgWrite c v, s => (execCoreCfgWrite_kept c v s).of_parts rfl
  | .trimTick, s => (execTrimTick_kept s).of_parts rfl
  | .trmChPush ix code, s => (execTrmChPush_kept ix code s).of_parts rfl
  | .deglitchEnd ix, s => (execDeglitchEnd_kept ix s).of_parts rfl
  | .shortLimitExpiry ix, s => (execShortLimitExpiry_kept ix s).of_parts rfl
  | .scClear ix, s => (execScClear_kept ix s).of_parts rfl
  | .trimClrAssert vent, s => (execTrimClrAssert_kept vent s).of_parts rfl
  | .trimClrRelease vent, s => (execTrimClrRelease_kept vent s).of_parts rfl
  | .conversionEnd c raw unstable, s => (execConversionEnd_kept c raw unstable s).of_parts rfl
  | .monCfgWrite c scan v, s => (execMonCfgWrite_kept c scan v s).of_parts rfl
  | .urgentRequest c ix, s => (execUrgentRequest_kept c ix s).of_parts rfl
  | .monCalGo c, s => (execMonCalGo_kept c s).of_parts rfl
  | .monCalEnd c sum30 sum29, s => (execMonCalEnd_kept c sum30 sum29 s).of_parts rfl
  | .housekeepingRound, s => (execHousekeepingRound_kept s).of_parts rfl
  | .roundCfgWrite v, s => (execRoundCfgWrite_kept v s).of_parts rfl
  | .trippedClear, s => (execTrippedClear_kept s).of_parts rfl
  | .calGo n, s => (execCalGo_kept n s).of_parts rfl
  | .devCalGo mask, s => (execDevCalGo_kept mask s).of_parts rfl
  | .calCancel n, s => (execCalCancel_kept n s).of_parts rfl
  | .calAtReached n, s => (execCalAtReached_kept n s).of_parts rfl
  | .calSlotGrant n, s => (execCalSlotGrant_kept n s).of_parts rfl
  | .calPhaseEnd n m, s => (execCalPhaseEnd_kept n m s).of_parts rfl
  | .calibrationEnd n, s => (execCalibrationEnd_kept n s).of_parts rfl
  | .localiseEnd n m, s => (execLocaliseEnd_kept n m s).of_parts rfl
  | .standbyLocked n, s => (execStandbyLocked_kept n s).of_parts rfl
  | .powerInputGood, s => (execPowerInputGood_kept s).of_parts rfl
  | .powerLoss, s => (execPowerLoss_kept s).of_parts rfl
  | .powerLevelUpdate power volt, s => (execPowerLevelUpdate_kept power volt s).of_parts rfl
  | .pwrLimitWrite v, s => (execPwrLimitWrite_kept v s).of_parts rfl
  | .pwrDomOn d, s => (execPwrDomOn_kept d s).of_parts rfl
  | .pwrDomOff d, s => (execPwrDomOff_kept d s).of_parts rfl
  | .pwrDomReset d, s => (execPwrDomReset_kept d s).of_parts rfl
  | .domainReon d, s => (execDomainReon_kept d s).of_parts rfl
  | .pwrStateGo v, s => (execPwrStateGo_kept v s).of_parts rfl
  | .pwrRequestAct, s => (execPwrRequestAct_kept s).of_parts rfl
  | .quiesceTimeout, s => (execQuiesceTimeout_kept s).of_parts rfl
  | .pwrTransitionEnd, s => (execPwrTransitionEnd_kept s).of_parts rfl
  | .pllUnlock k, s => (execPllUnlock_kept k s).of_parts rfl
  | .refOscReturn, s => (execRefOscReturn_kept s).of_parts rfl
  | .perstN, s => (execPerstN_kept s).of_parts rfl
  | .devResetCmd v, s => (execDevResetCmd_kept v s).of_parts rfl
  | .deviceResetRelease, s => (execDeviceResetRelease_kept s).of_parts rfl
  | .hotReset, s => (execHotReset_kept s).of_parts rfl
  | .functionLevelReset, s => (execFunctionLevelReset_kept s).of_parts rfl
  | .ventWatchdog, s => (execVentWatchdog_kept s).of_parts rfl
  | .ventBooted, s => (execVentBooted_kept s).of_parts rfl
  | .startStepEnd k ok, s => (execStartStepEnd_kept k ok s).of_parts rfl
  | .readyTimeout, s => (execReadyTimeout_kept s).of_parts rfl
  | .selftestEnd fail, s => (execSelftestEnd_kept fail s).of_parts rfl
  | .getStatus ix, s => (execGetStatus_kept ix s).of_parts rfl
  | .getCerts ix, s => (execGetCerts_kept ix s).of_parts rfl
  | .quote ix nonce mask, s => (execQuote_kept ix nonce mask s).of_parts rfl
  | .extend ix r v, s => (execExtend_kept ix r v s).of_parts rfl
  | .challenge ix, s => (execChallenge_kept ix s).of_parts rfl
  | .login ix slot sigOk, s => (execLogin_kept ix slot sigOk s).of_parts rfl
  | .loginLockout ix, s => (execLoginLockout_kept ix s).of_parts rfl
  | .lockoutEnd ix, s => (execLockoutEnd_kept ix s).of_parts rfl
  | .logout ix, s => (execLogout_kept ix s).of_parts rfl
  | .sessionTimeout ix, s => (execSessionTimeout_kept ix s).of_parts rfl
  | .enroll ix slot digest usage tokenOk, s => (execEnroll_kept ix slot digest usage tokenOk s).of_parts rfl
  | .revoke ix slot, s => (execRevoke_kept ix slot s).of_parts rfl
  | .zeroise ix, s => (execZeroise_kept ix s).of_parts rfl
  | .zeroiseEraseEnd, s => (execZeroiseEraseEnd_kept s).of_parts rfl
  | .grantDebug ix mask, s => (execGrantDebug_kept ix mask s).of_parts rfl
  | .selftest ix, s => (execSelftest_kept ix s).of_parts rfl
  | .debugWrite v, s => (execDebugWrite_kept v s).of_parts rfl
  | .fabricIdWrite v, s => (execFabricIdWrite_kept v s).of_parts rfl
  | .jigVerify keyOk sigOk, s => (execJigVerify_kept keyOk sigOk s).of_parts rfl
  | .jigApply atEn, s => (execJigApply_kept atEn s).of_parts rfl
  | .jigRollback, s => (execJigRollback_kept s).of_parts rfl
  | .jigDiscard, s => (execJigDiscard_kept s).of_parts rfl
  | .applyAct, s => (execApplyAct_kept s).of_parts rfl
  | .applyQuiesced, s => (execApplyQuiesced_kept s).of_parts rfl
  | .healthCheckEnd, s => (execHealthCheckEnd_kept s).of_parts rfl
  | .rollbackApply, s => (execRollbackApply_kept s).of_parts rfl
  | .fwVerify kind keyOk sigOk, s => (execFwVerify_kept kind keyOk sigOk s).of_parts rfl
  | .fwActivate kind inst bypass, s => (execFwActivate_kept kind inst bypass s).of_parts rfl
  | .fwActivateOther kind inst bypass, s => (execFwActivateOther_kept kind inst bypass s).of_parts rfl
  | .fwActivationEnd, s => (execFwActivationEnd_kept s).of_parts rfl
  | .fwCommit kind, s => (execFwCommit_kept kind s).of_parts rfl
  | .windowAccess off rd len data poison errs parity, s => (execWindowAccess_kept off rd len data poison errs parity s).of_parts rfl
  | .hostRequestComplete fail data, s => (execHostRequestComplete_kept fail data s).of_parts rfl
  | .hostReadTimeout, s => (execHostReadTimeout_kept s).of_parts rfl
  | .pcieLinkDown why, s => (execPcieLinkDown_kept why s).of_parts rfl
  | .pcieLinkUp width gen flit, s => (execPcieLinkUp_kept width gen flit s).of_parts rfl
  | .linkIdleL1, s => (execLinkIdleL1_kept s).of_parts rfl
  | .evtQueueEnable e v, s => (execEvtQueueEnable_kept e v s).of_parts rfl
  | .eventRecordWriteEnd e fail, s => (execEventRecordWriteEnd_kept e fail s).of_parts rfl
  | .coalTimeout e, s => (execCoalTimeout_kept e s).of_parts rfl
  | .evtHeadWrite e v, s => (execEvtHeadWrite_kept e v s).of_parts rfl
  | .ventStatus ix seq, s => (execVentStatus_kept ix seq s).of_parts rfl
  | .ventHistory ix seq sel, s => (execVentHistory_kept ix seq sel s).of_parts rfl
  | .ventDomainReset ix seq d, s => (execVentDomainReset_kept ix seq d s).of_parts rfl
  | .ventDeviceReset ix seq, s => (execVentDeviceReset_kept ix seq s).of_parts rfl
  | .ventAbortAll ix seq, s => (execVentAbortAll_kept ix seq s).of_parts rfl
  | .abortAllTimeout, s => (execAbortAllTimeout_kept s).of_parts rfl
  | .ventPowerDown ix seq target, s => (execVentPowerDown_kept ix seq target s).of_parts rfl
  | .ventBypassClose ix seq mask, s => (execVentBypassClose_kept ix seq mask s).of_parts rfl
  | .ventThermalTrip ix seq, s => (execVentThermalTrip_kept ix seq s).of_parts rfl
  | .ventJigRollback ix seq, s => (execVentJigRollback_kept ix seq s).of_parts rfl
  | .ventQuote ix seq arg nonce, s => (execVentQuote_kept ix seq arg nonce s).of_parts rfl
  | .ventTrimClear ix seq arg, s => (execVentTrimClear_kept ix seq arg s).of_parts rfl
  | .ventWake ix seq, s => (execVentWake_kept ix seq s).of_parts rfl
  | .ventPoisonMark ix seq lines a, s => (execVentPoisonMark_kept ix seq lines a s).of_parts rfl
  | .recoveryImage image keyOk sigOk, s => (execRecoveryImage_kept image keyOk sigOk s).of_parts rfl
  | .recNRelease, s => (execRecNRelease_kept s).of_parts rfl
  | .lightReceived p, s => (execLightReceived_kept p s).of_parts rfl
  | .registerRead off size, s => (execRegisterRead_kept off size s).of_parts rfl
  | .jigQuiesceTimeout, s => (execJigQuiesceTimeout_kept s).of_parts rfl
  | .ptpMessage t, s => (execPtpMessage_kept t s).of_parts rfl
  | .referenceRestored, s => (execReferenceRestored_kept s).of_parts rfl

/-- Settles O3: every table of the reset state is empty or listed in order. -/
theorem resetIsCanonical : Obligations.ResetIsCanonical := by
  unfold Obligations.ResetIsCanonical
  constructor <;> rfl

/-- Settles O7: each register's reset word is its table's. -/
theorem registersAtReset : Obligations.RegistersAtReset := by
  unfold Obligations.RegistersAtReset
  refine ⟨?_, ?_, by decide, by decide, by decide, by decide, by decide, by decide, by decide, by decide⟩
  · decide
  · decide

/-- Settles O4. -/
theorem stepRunsTheFrontCommand : Obligations.StepRunsTheFrontCommand := by
  unfold Obligations.StepRunsTheFrontCommand
  intro c s
  rfl

/-- Settles O6: every command answers a next state. -/
theorem everyCommandCompletes : Obligations.EveryCommandCompletes := by
  unfold Obligations.EveryCommandCompletes
  intro c s
  obtain ⟨t, ht, -⟩ := exec_kept c s
  exact ⟨t, ht⟩

/-- The state a command leaves keeps the parts it does not list, canonical tables, and every counter. -/
theorem kept_of_exec {c : Instr} {s t : State} (h : exec c s = .next t) : Kept (partMask (partsOf c)) s t := by
  obtain ⟨u, hu, kept⟩ := exec_kept c s
  rw [hu] at h
  cases h
  exact kept

/-- Settles O1: the mask of each command's frame is that of its list of parts. -/
theorem everyCommandKeepsOtherParts : Obligations.EveryCommandKeepsOtherParts := by
  unfold Obligations.EveryCommandKeepsOtherParts
  exact fun c s _ h => (exec_kept c s).changesOnly h

/-- Settles O2: the tick and every command keep canonical tables canonical. -/
theorem everyStepKeepsCanonicalForm : Obligations.EveryStepKeepsCanonicalForm := by
  unfold Obligations.EveryStepKeepsCanonicalForm
  intro s t hs h
  unfold step at h
  split at h
  case h_1 =>
    exact Host.Outcome.next.inj h ▸ hs.of_kept (tick_kept s)
  case h_2 c rest _ => exact (hs.queue rest).of_kept (kept_of_exec h)

/-- Settles O8: no frame lets a counter fall. -/
theorem countersNeverFall : Obligations.CountersNeverFall := by
  unfold Obligations.CountersNeverFall
  exact fun c s t hs h => ((kept_of_exec h).2 hs).2

/-! ### Persistent stores -/

/-- A part that is not in the list of a command stays as it was. -/
theorem same_of_not_elem {c : Instr} {s t : State} (h : exec c s = .next t) {p : Part} (hp : (partsOf c).elem p = false) : p.same s t :=
  everyCommandKeepsOtherParts c s t h p fun hmem => Bool.false_ne_true (hp.symm.trans (List.elem_eq_true_of_mem hmem))

theorem queue_not_elem_partsOf (c : Instr) : (partsOf c).elem .queue = false := by cases c <;> rfl

theorem clock_not_elem_partsOf (c : Instr) : (partsOf c).elem .clock = false := by cases c <;> rfl

theorem owners_not_elem_partsOf {c : Instr} (henroll : ∀ i d o k u, c ≠ .enroll i d o k u) (hrevoke : ∀ i k, c ≠ .revoke i k)
    (herase : c ≠ .zeroiseEraseEnd) : (partsOf c).elem .owners = false := by
  cases c with
  | enroll i d o k u => exact absurd rfl (henroll i d o k u)
  | revoke i k => exact absurd rfl (hrevoke i k)
  | zeroiseEraseEnd => exact absurd rfl herase
  | _ => rfl

theorem historyFlash_not_elem_partsOf {c : Instr} (h : c ≠ .historyFlashWriteEnd) : (partsOf c).elem .historyFlash = false := by
  cases c with
  | historyFlashWriteEnd => exact absurd rfl h
  | _ => rfl

/-- Settles O10: what the flash holds is in the list of its own commands only. -/
theorem persistentStores : Obligations.PersistentStores := by
  unfold Obligations.PersistentStores
  intro c s t h
  refine ⟨same_of_not_elem h (queue_not_elem_partsOf c), same_of_not_elem h (clock_not_elem_partsOf c),
    fun h1 h2 h3 => same_of_not_elem h (owners_not_elem_partsOf h1 h2 h3),
    fun h1 => same_of_not_elem h (historyFlash_not_elem_partsOf h1),
    fun h1 h2 h3 h4 h5 h6 h7 h8 h9 h10 h11 h12 => same_of_not_elem (p := .fabricIdFlash) h ?_, fun hread => ?_⟩
  · cases c with
    | fabricIdWrite v => exact absurd rfl (h1 v)
    | registerWrite o z v => exact absurd rfl (h2 o z v)
    | pwrDomOn d => exact absurd rfl (h3 d)
    | domainReon d => exact absurd rfl (h4 d)
    | pwrTransitionEnd => exact absurd rfl h5
    | refOscReturn => exact absurd rfl h6
    | deviceResetRelease => exact absurd rfl h7
    | ventBooted => exact absurd rfl h8
    | applyQuiesced => exact absurd rfl h9
    | rollbackApply => exact absurd rfl h10
    | recoveryImage l a b => exact absurd rfl (h11 l a b)
    | recNRelease => exact absurd rfl h12
    | _ => rfl
  · subst hread
    exact congrArg Prod.fst (same_of_not_elem (p := .history) h rfl)

end Sys2Proof.Machine
end

section
/-! ## The monitor converters -/
set_option Elab.async false
namespace Sys2Proof.Machine

variable {s t : State} {c : Fin 16} {raw : Int} {unstable : Bool}

theorem Kept.conv_eq {m : Nat} (h : Kept m s t) (k : Nat) (hm : m.testBit Part.monitors.no = false := by decide) : t.conv k = s.conv k := by
  have convs : t.convs = s.convs := congrArg Prod.fst (h.1 .monitors hm)
  simp only [State.conv, convs]

/-- The wake of the link writes a register only. -/
@[simp] theorem wakeLink_conv (s : State) (k : Nat) : s.wakeLink.conv k = s.conv k := (State.wakeLink_kept s).conv_eq k

@[simp] theorem wakeLink_clock (s : State) : s.wakeLink.clock = s.clock := (State.wakeLink_kept s).clock_eq

/-! ### Conversions (R456–R463) -/

/-- The result of the input under conversion, and its OVR flag: inputs 22 and 23 of odd converters are not connected and read as zero (Table 12.1). -/
def State.converted (s : State) (c : Fin 16) (raw : Int) (unstable : Bool) : Int × Bool :=
  if c.val % 2 = 1 ∧ ((s.conv c).input = 22 ∨ (s.conv c).input = 23) then (0, false) else s.correctRaw c raw unstable

/-- The word of a result: its 24 bits, OVR, and the sequence number after that of register `o` (R457, R460). -/
def State.resultWord (s : State) (o : Nat) (r : Int × Bool) : Word :=
  BitVec.ofNat 32 (trunc 24 r.1 + 2 ^ 24 * b2n r.2 + 2 ^ 25 * ((s.rf o MON_RES_SEQ + 1) % 128))

/-- A result in the register of its input, with OVR and the next sequence number, counted (R457, R460). -/
def State.putResult (s : State) (c : Fin 16) (r : Int × Bool) : State :=
  let reg := monRes c (s.conv c).input
  ((s.wr reg (s.resultWord reg r)).bump MON_STAT_RESULTS 1).bump MON_STAT_OVR (b2n r.2)

/-- A scanning converter goes on to its next input, or is IDLE once RUN is clear (R459). -/
def State.scanOn (s : State) (c : Fin 16) (x : Conv) : State :=
  if s.monRun c then s.setConv c { x with input := s.nextInput c (x.input + 1) } else s.setConv c { x with st := .idle }

theorem execConversionEnd_of_scan (hst : (s.conv c).st = .scan) :
    execConversionEnd c raw unstable s = .next ((s.putResult c (s.converted c raw unstable)).scanOn c (s.conv c)) := by
  by_cases hopen : c.val % 2 = 1 ∧ ((s.conv c).input = 22 ∨ (s.conv c).input = 23) <;>
    simp [execConversionEnd, State.putResult, State.resultWord, State.converted, State.scanOn, hst, hopen]

theorem execConversionEnd_of_oneshot (hst : (s.conv c).st = .oneshot) :
    let r := s.converted c raw unstable
    let u := ((s.wr MON_URGENT_RES (BitVec.ofNat 32 (trunc 24 r.1 + 2 ^ 24 * b2n r.2 + 2 ^ 25))).bump MON_STAT_RESULTS 1).bump MON_STAT_OVR (b2n r.2)
    let v := (u.setConv c { s.conv c with st := .idle }).convResume c
    execConversionEnd c raw unstable s = .next (if (s.conv c).calQueued then v.convCal c else v).showBusy := by
  by_cases hopen : c.val % 2 = 1 ∧ ((s.conv c).input = 22 ∨ (s.conv c).input = 23) <;>
    simp [execConversionEnd, State.converted, hst, hopen]

/-- The nearest whole number, the even one of two, is what the division rounds to (R45). -/
theorem divRne_of_nearest {x r : Int} (h : 2 * (r * 2 ^ 30 - x).natAbs < 2 ^ 30 ∨ (2 * (r * 2 ^ 30 - x).natAbs = 2 ^ 30 ∧ r % 2 = 0)) :
    divRne x 30 = r := by
  simp only [divRne, Int.reducePow] at h ⊢
  split
  · omega
  · split
    · omega
    · split <;> omega

/-- A corrected result is held to ±(2^23 − 1) (R457). -/
theorem correctRaw_stable {r : Int}
    (h : divRne ((raw - sext 24 (s.rf (MON_CAL_OFS c) MON_CAL_OFS_OFS)) * (s.rd (MON_CAL_GAIN c)).toNat) 30 = r) :
    (s.correctRaw c raw false).1 = max (-(2 ^ 23 - 1)) (min (2 ^ 23 - 1) r) := by
  simp only [State.correctRaw, h, Bool.false_or, Bool.or_eq_true, decide_eq_true_eq]
  split
  · split <;> dsimp only <;> omega
  · dsimp only; omega

theorem resultWord_low (s : State) (o : Nat) (r : Int × Bool) : bits (s.resultWord o r).toNat 0 24 = trunc 24 r.1 := by
  have low := trunc_lt 24 r.1
  have ovr : b2n r.2 < 2 := by cases r.2 <;> decide
  simp only [State.resultWord, bits, BitVec.toNat_ofNat]
  omega

theorem rd_bump_ne (hs : Canon s) {o a : Nat} (k : Nat) (h : a ≠ o) (h4 : a ≠ o + 4) : (s.bump o k).rd a = s.rd a :=
  (writesOnly_bump (l := both o) k (List.Subset.refl _) hs).2 a (by simp [both, h, h4])

/-- The result register takes a result in its low 24 bits. -/
theorem putResult_rf (hs : Canon s) (r : Int × Bool) :
    (s.putResult c r).rf (monRes c (s.conv c).input) MON_RES_RESULT = trunc 24 r.1 := by
  have apart (o : Nat) (ho : o < 0x681000) : monRes c (s.conv c).input ≠ o := by unfold monRes MON_RES; omega
  unfold State.putResult State.rf
  extract_lets reg
  have written : Canon (s.wr reg (s.resultWord reg r)) := hs.of_kept (State.wr_kept _ _ _)
  rw [rd_bump_ne (written.of_kept (State.bump_kept _ _ _)) _ (apart _ (by decide)) (apart _ (by decide)),
    rd_bump_ne written _ (apart _ (by decide)) (apart _ (by decide)), rd_wr_self hs]
  exact resultWord_low s reg r

theorem scanOn_rf (s : State) (x : Conv) (o : Nat) (f : Fld) : (s.scanOn c x).rf o f = s.rf o f := by
  unfold State.scanOn
  split <;> rfl

/-- Settles O14 (R457, R458). -/
theorem converterCorrection : Obligations.ConverterCorrection := by
  unfold Obligations.ConverterCorrection
  intro c raw r s hs hst hconn _ x hnear
  refine ⟨_, execConversionEnd_of_scan hst, ?_⟩
  dsimp only
  rw [scanOn_rf, putResult_rf hs, State.converted, if_neg hconn, correctRaw_stable (divRne_of_nearest hnear)]

/-! ### Settings, urgent requests and calibrations (R452, R453, R459, R461–R466) -/

theorem execMonCfgWrite_cfg {v : Word} (hon : s.blockOff .mon 0 = false) :
    let u := (s.wakeLink.wf (MON_CFG c) MON_CFG_RUN v.toNat).wf (MON_CFG c) MON_CFG_OSR (clampNat 64 1024 (bits v.toNat 16 11))
    let w := if v.toNat / 2 % 4 = 3 then u else u.wf (MON_CFG c) MON_CFG_ORDER (v.toNat / 2 % 4)
    execMonCfgWrite c false v s = .next (if ((w.conv c).st == .idle && w.monRun c) = true then w.convResume c else w) := atBlock_of_on _ hon

theorem execMonCfgWrite_scan {v : Word} (hon : s.blockOff .mon 0 = false) :
    execMonCfgWrite c true v s = .next (s.wakeLink.wr (MON_SCAN c) (v ||| 0x80000000)) := atBlock_of_on _ hon

theorem execUrgentRequest_of_idle {i : Fin 32} (hon : s.blockOff .mon 0 = false) (hst : (s.conv c).st = .idle) :
    execUrgentRequest c i s =
      .next (((s.wakeLink.setConv c { s.conv c with st := .oneshot, input := i }).wb MON_URGENT_RES MON_URGENT_RES_DONE false).showBusy) := by
  refine (atBlock_of_on _ hon).trans ?_
  simp [hst]

theorem execUrgentRequest_of_busy {i : Fin 32} (hon : s.blockOff .mon 0 = false) (hst : (s.conv c).st ≠ .idle) :
    let u := (s.wakeLink.bump MON_STAT_DROPPED 1).wb (MON_CSTAT c) MON_CSTAT_DROPPED true
    execUrgentRequest c i s =
      .next (u.postFirst (u.flag MON_CTRL MON_CTRL_DROP_EVT_EN) ms c i 1 0xC09 cINFO (unitOf 0xD c) 0xFFFF fun f k => [(0x10, f), (0x14, k)]) := by
  refine (atBlock_of_on _ hon).trans ?_
  simp [hst]

theorem execMonCalGo_on (hon : s.blockOff .mon 0 = false) : execMonCalGo c s = .next (s.wakeLink.convCal c) := atBlock_of_on _ hon

theorem convCal_of_free {k : Nat} (hcal : (s.conv k).st ≠ .cal) (hone : (s.conv k).st ≠ .oneshot) (hfree : s.calBlocked k = false) :
    s.convCal k = s.setConv k { s.conv k with st := .cal, input := 30, calQueued := false, order := s.rf (MON_CFG k) MON_CFG_ORDER,
                                              secondAt := s.clock + 100000 * s.rf (MON_CFG k) MON_CFG_OSR } := by
  simp [State.convCal, hcal, hone, hfree]

theorem convCal_of_oneshot {k : Nat} (hone : (s.conv k).st = .oneshot) : s.convCal k = s.setConv k { s.conv k with calQueued := true } := by
  simp [State.convCal, hone]

/-- The other converter of 0 and 1 begins the calibration that waited for this one (R466). -/
def State.calOther (s : State) (c : Fin 16) : State :=
  if (decide (c.val < 2) && (s.conv (1 - c.val)).calQueued) = true then s.convCal (1 - c.val) else s

/-- The factors a calibration measured lie within their limits (R465). -/
abbrev factorsFit (ofs gain : Int) : Prop := ofs.natAbs ≤ 65536 ∧ 0x3CCCCCCD ≤ gain ∧ gain ≤ 0x43333333

theorem execMonCalEnd_of_cal {sum30 sum29 : Int} (hst : (s.conv c).st = .cal) :
    let n : Int := 1000 - (3 + (s.conv c).order)
    let ofs := ratRne sum30 n
    let den := sum29 - n * ofs
    let gain := ratRne (2 ^ 30 * 5242880 * n) den
    let d : List (Nat × Nat) := [(0x14, trunc 24 ofs), (0x18, trunc 32 gain)]
    let u := s.setConv c { s.conv c with st := .idle }
    den ≠ 0 → execMonCalEnd c sum30 sum29 s = .next (State.calOther (State.convResume (
      if factorsFit ofs gain then (((u.wb (MON_CSTAT c) MON_CSTAT_CAL_VALID true).wr (MON_CAL_OFS c) (BitVec.ofNat 32 (trunc 24 ofs))).wr (MON_CAL_GAIN c)
        (BitVec.ofNat 32 gain.toNat)).post 0xC07 cINFO (unitOf 0xD c) 0xFFFF d
      else (u.wb (MON_CSTAT c) MON_CSTAT_CAL_ERR true).post 0xC08 cWARN (unitOf 0xD c) 0xFFFF d) c) c) := by
  intro n ofs den gain d u hden
  have measured : ¬ (den = 0) := hden
  unfold execMonCalEnd
  simp only [hst]
  rw [if_neg measured]
  simp only [bne_self_eq_false, Bool.false_eq_true, if_false, State.calOther, Bool.and_eq_true, decide_eq_true_eq, and_assoc]
  rfl

/-- Settles O49 (R452–R466). -/
theorem converters : Obligations.Converters := by
  unfold Obligations.Converters
  refine ⟨fun c raw unstable s hst => execConversionEnd_of_scan hst, fun c raw unstable s hst => execConversionEnd_of_oneshot hst,
    fun c v s hon => execMonCfgWrite_cfg hon, ?scan, fun c i s hon => ⟨fun h => execUrgentRequest_of_idle hon h, fun h => execUrgentRequest_of_busy hon h⟩,
    ?cal, ?queued, ?calEnd⟩
  case scan =>
    intro c v s hs hon
    exact ⟨_, execMonCfgWrite_scan hon, rd_wr_self (hs.of_kept (State.wakeLink_kept s)) _ _⟩
  case cal =>
    intro c s hs hon hcal hone hfree
    have low : MON_CFG c < 0x700000 := by unfold MON_CFG; omega
    refine ⟨_, execMonCalGo_on hon, ?_⟩
    dsimp only
    rw [convCal_of_free (by simpa using hcal) (by simpa using hone) hfree, setConv_conv (hs.of_kept (State.wakeLink_kept s)),
      wakeLink_clock, wakeLink_rf hs _ low, wakeLink_rf hs _ low]
  case queued =>
    intro c s hs hon hone
    refine ⟨_, execMonCalGo_on hon, ?_⟩
    dsimp only
    rw [convCal_of_oneshot (by simpa using hone), setConv_conv (hs.of_kept (State.wakeLink_kept s)), wakeLink_conv]
  case calEnd =>
    intro c sum30 sum29 s hst n ofs den gain d u queued hden
    have ends := execMonCalEnd_of_cal (sum30 := sum30) (sum29 := sum29) hst hden
    exact ⟨fun fits => ends.trans (by rw [if_pos fits]; rfl), fun misfits => ends.trans (by rw [if_neg misfits]; rfl)⟩

end Sys2Proof.Machine
end

section
/-! ## The housekeeping round -/
set_option Elab.async false
namespace Sys2Proof.Machine

variable {s : State}

/-- A round begins: it is counted, and the cross-checks and the reference checks are made (R467–R469). -/
def State.roundChecked (s : State) : State :=
  (s.wf MON_ROUND_CFG MON_ROUND_CFG_COUNT (s.rf MON_ROUND_CFG MON_ROUND_CFG_COUNT + 1)).crossChecks.refChecks

/-- The hottest diode that is not under calibration (R470). -/
def State.hottest (s : State) : Int :=
  (((List.range 2).filter fun c => !s.calibrating c).map fun c => s.result c 31).foldl (fun (a : Int) x => max a x) (-(2 ^ 23))

/-- A round with a broken sensor: SENSOR_FAIL, once, and the highest thermal level (R472). -/
def State.brokenRound (s : State) : State :=
  let w := (s.wb MON_TEMP MON_TEMP_VALID false).wf MON_TEMP MON_TEMP_FAIL_CAUSE s.sensorFault.1
  (if s.flag MON_TEMP MON_TEMP_VALID then w.post 0xC04 cFAULT (unitOf 0xD s.sensorFault.2) 0xFFFF
    [(0x10, s.sensorFault.1), (0x14, trunc 24 (w.result 0 31)), (0x18, trunc 24 (w.result 1 31))] else w).setLevel 6

/-- A round with the thermal level above 0 is counted (R475). -/
def State.countThrottled (s : State) : State :=
  if 0 < s.rf MON_TEMP MON_TEMP_LEVEL then
    ({ s with temp := { s.temp with rounds := s.temp.rounds + 1 } } : State).bump MON_STAT_THROTTLE_ROUNDS 1 else s

/-- The sequence numbers that the next round compares with (R467). -/
def State.keepSeqs (s : State) : State :=
  { s with temp := { s.temp with seqs := (List.range 512).foldl (fun (acc : Sparse Nat) j => sput 0 (s.rf (MON_RES j) MON_RES_SEQ) acc j) [] } }

theorem execHousekeepingRound_on (hdom : s.dom 61 = 1) :
    execHousekeepingRound s = .next (if s.roundChecked.sensorFault.1 = 0 then s.roundChecked.validRound s.roundChecked.hottest
      else s.roundChecked.brokenRound).countThrottled.keepSeqs :=
  congrArg Host.Outcome.next (if_neg (not_not_intro hdom))

theorem execHousekeepingRound_of_sound (hdom : s.dom 61 = 1) (h : s.roundChecked.sensorFault.1 = 0) :
    execHousekeepingRound s = .next (s.roundChecked.validRound s.roundChecked.hottest).countThrottled.keepSeqs := by
  rw [execHousekeepingRound_on hdom, if_pos h]

theorem execHousekeepingRound_of_broken (hdom : s.dom 61 = 1) (h : s.roundChecked.sensorFault.1 ≠ 0) :
    execHousekeepingRound s = .next s.roundChecked.brokenRound.countThrottled.keepSeqs := by
  rw [execHousekeepingRound_on hdom, if_neg h]

theorem countThrottled_of_cool (h : s.rf MON_TEMP MON_TEMP_LEVEL = 0) : s.countThrottled = s :=
  if_neg (Nat.not_lt.mpr (Nat.le_of_eq h))

theorem countThrottled_of_hot (h : 0 < s.rf MON_TEMP MON_TEMP_LEVEL) :
    s.countThrottled = ({ s with temp := { s.temp with rounds := s.temp.rounds + 1 } } : State).bump MON_STAT_THROTTLE_ROUNDS 1 := if_pos h

theorem execRoundCfgWrite_on {v : Word} (hon : s.blockOff .mon 0 = false) :
    execRoundCfgWrite v s = .next (s.wakeLink.wf MON_ROUND_CFG MON_ROUND_CFG_PERIOD (clampNat 1 100 (bits v.toNat 0 8))) := atBlock_of_on _ hon

theorem execTrippedClear_on (hon : s.blockOff .mon 0 = false) :
    execTrippedClear s = .next (if s.wakeLink.flag MON_TEMP MON_TEMP_VALID && !hotter s.wakeLink.temp.code (100 * jigWarn s.wakeLink.jigBody) then
      s.wakeLink.wb MON_TEMP MON_TEMP_TRIPPED false else s.wakeLink) := atBlock_of_on _ hon

theorem wakeLink_temp (s : State) : s.wakeLink.temp = s.temp := congrArg Prod.snd ((State.wakeLink_kept s).1 .monitors (by decide))

/-- Settles O50: rounds with a sound and with a broken sensor, their period, and TRIPPED (R467–R478). -/
theorem housekeeping : Obligations.Housekeeping := by
  unfold Obligations.Housekeeping
  refine ⟨?sound, ?broken, ?period, ?tripped⟩
  case sound =>
    intro s hdom u diodes v seqs hfine
    have round := execHousekeepingRound_of_sound hdom hfine
    exact ⟨fun cool => round.trans (congrArg (Host.Outcome.next ∘ State.keepSeqs) (countThrottled_of_cool cool)),
      fun hot => round.trans (congrArg (Host.Outcome.next ∘ State.keepSeqs) (countThrottled_of_hot hot))⟩
  case broken =>
    intro s hdom u w v seqs hbroken hot
    exact (execHousekeepingRound_of_broken hdom hbroken).trans (congrArg (Host.Outcome.next ∘ State.keepSeqs) (countThrottled_of_hot hot))
  case period =>
    intro v s hs hon
    have period : clampNat 1 100 (v.toNat % 256) < 256 := Nat.lt_of_le_of_lt (clampNat_le (by decide) _) (by decide)
    refine ⟨_, execRoundCfgWrite_on hon, ?_⟩
    dsimp only
    rw [rf_wf_self (hs.of_kept (State.wakeLink_kept s)) _ _ _ (by decide)]
    exact (congrArg (fun x => clampNat 1 100 (x % 256) % 256) (Nat.div_one _)).trans (Nat.mod_eq_of_lt period)
  case tripped =>
    intro s hs hon hvalid
    have clear := execTrippedClear_on hon
    rw [hvalid, wakeLink_temp] at clear
    refine ⟨fun hcool => ⟨_, clear.trans (by rw [hcool]), ?_⟩, fun hhot => clear.trans (by rw [hhot]; rfl)⟩
    exact flag_wb_self (hs.of_kept (State.wakeLink_kept s)) _ _ _ (by decide) (by decide)

end Sys2Proof.Machine
end

section
/-! ## Calibration requests, slots, phases and ends -/
set_option Elab.async false
namespace Sys2Proof.Machine

variable {s t : State} {n : Fin 8}

/-- The key of a calibration is the jig's (R482). -/
theorem calKey_congr (h : t.jigBody = s.jigBody) (n : Nat) : t.calKey n = s.calKey n := by
  simp only [State.calKey, State.gang, State.shape, deep_congr h, h]

theorem calLathes_congr (h : t.jigBody = s.jigBody) (n : Nat) : t.calLathes n = s.calLathes n := by
  simp only [State.calLathes, State.gang, State.shape, deep_congr h, h]

@[simp] theorem wakeLink_jigBody (s : State) : s.wakeLink.jigBody = s.jigBody := (State.wakeLink_kept s).jigBody_eq

@[simp] theorem wakeLink_calKey (s : State) (n : Nat) : s.wakeLink.calKey n = s.calKey n := calKey_congr (wakeLink_jigBody s) n

@[simp] theorem wakeLink_calLathes (s : State) (n : Nat) : s.wakeLink.calLathes n = s.calLathes n := calLathes_congr (wakeLink_jigBody s) n

@[simp] theorem wakeLink_cal (s : State) (k : Nat) : s.wakeLink.cal k = s.cal k := (State.wakeLink_kept s).cal_eq k

@[simp] theorem wakeLink_lathe (s : State) (k : Nat) : s.wakeLink.lathe k = s.lathe k := (State.wakeLink_kept s).lathe_eq k

/-! ### Requests (R482–R484) -/

theorem execCalCancel_on (hon : s.blockOff .cal n = false) :
    execCalCancel n s = .next (if (s.cal (s.calKey n)).waits.isNone then s.wakeLink
      else if (s.cal (s.calKey n)).st == .waiting then s.wakeLink.setCal (s.calKey n) {}
      else s.wakeLink.setCal (s.calKey n) { s.cal (s.calKey n) with held := none }) := by
  refine (atBlock_of_on _ hon).trans ?_
  simp only [wakeLink_calKey, wakeLink_cal]

theorem execCalCancel_of_none (hon : s.blockOff .cal n = false) (h : (s.cal (s.calKey n)).waits = none) :
    execCalCancel n s = .next s.wakeLink := by
  simp [execCalCancel_on hon, h]

theorem execCalCancel_of_waiting {a : Nat} (hon : s.blockOff .cal n = false) (h : (s.cal (s.calKey n)).waits = some a)
    (hst : (s.cal (s.calKey n)).st = .waiting) : execCalCancel n s = .next (s.wakeLink.setCal (s.calKey n) {}) := by
  simp [execCalCancel_on hon, h, hst]

theorem execCalCancel_of_held {a : Nat} (hon : s.blockOff .cal n = false) (h : (s.cal (s.calKey n)).waits = some a)
    (hst : (s.cal (s.calKey n)).st ≠ .waiting) :
    execCalCancel n s = .next (s.wakeLink.setCal (s.calKey n) { s.cal (s.calKey n) with held := none }) := by
  simp [execCalCancel_on hon, h, hst]

/-- A request that is not waiting itself has none behind it that waits, once what was held is withdrawn. -/
theorem waits_of_not_held {x : Cal} (h : x.st ≠ .waiting) : Cal.waits { x with held := none } = none := by
  cases hst : x.st <;> simp_all [Cal.waits]

/-- Settles O24: a waiting request, and a held one, are withdrawn; no other is touched (R484). -/
theorem calibrationCancel : Obligations.CalibrationCancel := by
  unfold Obligations.CalibrationCancel
  refine ⟨fun n s hon h => execCalCancel_of_none hon h, fun n a s hs hon h => ?_⟩
  have hw : Canon s.wakeLink := hs.of_kept (State.wakeLink_kept s)
  by_cases hst : (s.cal (s.calKey n)).st = .waiting
  · refine ⟨_, execCalCancel_of_waiting hon h hst, ?_⟩
    dsimp only
    rw [setCal_cal hw]
    exact ⟨rfl, fun _ => rfl, fun hnot => absurd hst hnot⟩
  · refine ⟨_, execCalCancel_of_held hon h hst, ?_⟩
    dsimp only
    rw [setCal_cal hw]
    exact ⟨waits_of_not_held hst, fun hwait => absurd hwait hst, fun _ => rfl⟩

theorem execDevCalGo_on {mask : BitVec 8} (hon : s.blockOff .dev 0 = false) :
    execDevCalGo mask s = .next ((List.range 8).foldl (fun (acc : State) n => if bit mask.toNat n then acc.requestCal n (acc.rd64 DEV_CAL_AT) else acc)
      s.wakeLink) := atBlock_of_on _ hon

theorem execCalGo_on (hon : s.blockOff .cal n = false) :
    execCalGo n s = .next (s.wakeLink.requestCal n (s.wakeLink.rd64 (CAL_AT n))) := atBlock_of_on _ hon

/-- A request for a later time waits for it (R483). -/
theorem requestCal_of_later {k : Nat} {a : Nat} (hready : ∀ m ∈ s.calLathes k, (s.lathe m).svc ≠ .off ∧ (s.lathe m).svc ≠ .starting ∧ (s.lathe m).svc ≠ .faultHold)
    (hidle : (s.cal (s.calKey k)).st = .idle) (ha : a ≠ 0) :
    s.requestCal k a = s.setCal (s.calKey k) { st := .waiting, at_ := a, lathe := k } := by
  have ready : ((s.calLathes k).any fun m => (s.lathe m).svc == .off || (s.lathe m).svc == .starting || (s.lathe m).svc == .faultHold) = false := by
    simpa [and_assoc] using hready
  simp [State.requestCal, ready, hidle, ha]

theorem execCalAtReached_of_due {a : Nat} (h : (s.cal (s.calKey n)).waits = some a) (ha : a ≤ s.ft.toNat) :
    execCalAtReached n s = .next (s.beginCal (s.calKey n)) := by
  simp [execCalAtReached, h, ha]

theorem execCalAtReached_of_later {a : Nat} (h : (s.cal (s.calKey n)).waits = some a) (ha : s.ft.toNat < a) : execCalAtReached n s = .next s := by
  simp [execCalAtReached, h, Nat.not_le.mpr ha]

theorem execCalAtReached_of_none (h : (s.cal (s.calKey n)).waits = none) : execCalAtReached n s = .next s := by
  simp [execCalAtReached, h]

/-! ### Slots, phases and ends (R486, R491, R495–R497) -/

/-- Calibration `k` asked first of those that wait for a slot and are ready (R486). -/
abbrev State.askedFirst (s : State) (k : Nat) : Prop :=
  ∀ e ∈ s.cals, e.2.st = .slot → s.slotReady e.1 = true → (s.cal k).order < e.2.order ∨ ((s.cal k).order = e.2.order ∧ k ≤ e.1)

theorem askedFirst_all {k : Nat} (h : s.askedFirst k) : (s.cals.all fun (e : Nat × Cal) =>
    e.2.st != .slot || !s.slotReady e.1 || decide ((s.cal k).order < e.2.order) || (decide ((s.cal k).order = e.2.order) && decide (k ≤ e.1))) = true := by
  refine List.all_eq_true.mpr fun e he => ?_
  have := h e he
  simp only [Bool.or_eq_true, bne_iff_ne, Bool.not_eq_true', Bool.and_eq_true, decide_eq_true_eq]
  grind

theorem execCalSlotGrant_of_first (hst : (s.cal (s.calKey n)).st = .slot) (hready : s.slotReady (s.calKey n) = true)
    (hfirst : s.askedFirst (s.calKey n)) (hfree : s.runningCals.length < 2) (hlevel : s.level = 0) :
    let k := s.calKey n
    let c := s.cal k
    let u := s.setCal k { c with st := .running, phase := 1, dips := 0, saved := (s.calLathes k).map s.calWords, codes := (s.calLathes k).flatMap s.trimCodes }
    let v := if c.kind = 0 then (s.calLathes k).foldl (fun (acc : State) m => acc.startingPoint m) u else u
    let w := (s.calLathes k).foldl (fun (acc : State) m => let acc := (acc.modLathe m fun l => { l.freeBanks with adcOn := if acc.deep m && m % 2 = 1 then [] else List.range 536 }).stopLoops m; if c.kind = 0 then acc.phaseOne m else acc) v
    execCalSlotGrant n s = .next (if w.trimForced then w.rejectCal k 6 else w) := by
  intro k c u v w
  have first := askedFirst_all hfirst
  have room : ¬ 2 ≤ s.runningCals.length := Nat.not_le.mpr hfree
  refine congrArg Host.Outcome.next (if_neg ?_)
  simp [hst, hready, first, room, hlevel]

theorem execCalPhaseEnd_of_running {m : CalMeas} (hst : (s.cal (s.calKey n)).st = .running) :
    execCalPhaseEnd n m s = .next (s.endPhase (s.calKey n) m) := by
  simp [execCalPhaseEnd, hst]

/-- The last phase of a calibration of each kind but LOCALISE ends (R495). -/
theorem execCalibrationEnd_of_last (hst : (s.cal (s.calKey n)).st = .running) (hkind : (s.cal (s.calKey n)).kind ≠ 2)
    (hlast : (s.cal (s.calKey n)).phase = (if (s.cal (s.calKey n)).kind = 0 then 6 else if (s.cal (s.calKey n)).kind = 1 then 4 else 2)) :
    execCalibrationEnd n s = .next (if (s.cal (s.calKey n)).reason ≠ 0 then s.rejectCal (s.calKey n) (s.cal (s.calKey n)).reason
      else if !s.mapsOk (s.calKey n) (s.cal (s.calKey n)) then s.rejectCal (s.calKey n) 0 else s.acceptCal (s.calKey n)) := by
  simp [execCalibrationEnd, hst, hkind, hlast]

/-! ### Localisation (R500, R403) -/

/-- Calibration `k` with the estimates of its two column passes. -/
def State.localiseFits (s : State) (k : Nat) (m : CalMeas) : Cal :=
  { s.cal k with extra1 := s.fitPass k ((m.groups[0]?).getD []), extra2 := s.fitPass k ((m.groups[1]?).getD []), newCols := List.range 536 }

/-- The localisation `c` of `k` is over: its estimates are shown, loops and banks go back, and its result is posted. -/
def State.localiseOver (s : State) (k : Nat) (c : Cal) (named why : Nat) : State :=
  let a := (((s.setCal k c).showFits k (fun _ _ => false) fun p => (s.localised k c).contains p).resumeLoops k c).calDone k
  ((a.calLathes k).foldl (fun (acc : State) m => (acc.modLathe m Lathe.freeBanks).setCalResult m 1 2 0) a).post 0xD03 cWARN (unitOf 1 k) 0xFFFF
    [(0x10, k), (0x11, c.column), (0x12, named), (0x14, why)]

/-- No column is named, or no spare pair is left for it: SPARES_EXHAUSTED. -/
def State.sparesGone (s : State) (k : Nat) (c : Cal) : State :=
  (s.calLathes k).foldl (fun (acc : State) m => acc.wantLanes m) (s.post 0xA02 cFAULT (unitOf 1 k) c.ctx [(0x10, k), (0x11, 4)])

/-- The lowest spare column left that calibration `c` keeps. -/
def State.spareColumn (s : State) (k : Nat) (c : Cal) : Option Nat :=
  (List.range 536).find? fun q => decide (520 ≤ q) && !((List.range 520).map (s.colMap k)).contains q && s.colKept k c q

/-- The entry of the column map that names column `p`. -/
def State.columnEntry (s : State) (k p : Nat) : Option Nat := (List.range 520).find? fun i => s.colMap k i == p

/-- Column `p` of entry `entry` gives way to the spare pair `spare`, where both are there, and a COLUMN calibration takes that up. -/
def State.replaceColumn (s : State) (k p : Nat) (c : Cal) (spare entry : Option Nat) : State :=
  match spare, entry with
  | some q, some i =>
    let w := (s.calLathes k).foldl (fun (acc : State) m => (((acc.wf (LTH_COLMAP m i) LTH_COLMAP_PHYS q).replaced 4 p m q).renameLoops m).powerAdcs m) s
    (w.post 0xA01 cINFO (unitOf 4 p) c.ctx [(0x10, k), (0x11, if i < 512 then 2 else 1), (0x12, q)]).askCal k 3 0 i c.ctx
  | _, _ => s.sparesGone k c

theorem replaceColumn_of_missing {k p : Nat} {c : Cal} {spare entry : Option Nat} (h : ∀ q i, spare = some q → entry = some i → False) :
    s.replaceColumn k p c spare entry = s.sparesGone k c := by
  unfold State.replaceColumn
  split
  next q i => exact (h q i rfl rfl).elim
  next => rfl

theorem replaceColumn_congr {k p q i : Nat} {c : Cal} {spare entry : Option Nat} (hq : spare = some q) (hi : entry = some i) :
    s.replaceColumn k p c (some q) (some i) = s.replaceColumn k p c spare entry := by rw [hq, hi]

/-- The named column `p` is classed permanent (Table 10.5). -/
def State.localiseNamed (s : State) (k : Nat) (c : Cal) (p why : Nat) : State := (s.localiseOver k c p why).histPermanent 4 p k 2

section
variable {m : CalMeas} {r : Option Nat × Nat} (hst : (s.cal (s.calKey n)).st = .running) (hkind : (s.cal (s.calKey n)).kind = 2)
  (hr : s.localise (s.calKey n) (s.localiseFits (s.calKey n) m) = r)
include hst hkind hr

theorem execLocaliseEnd_of_none {v : State} (h : r.1 = none)
    (hv : v = s.localiseOver (s.calKey n) (s.localiseFits (s.calKey n) m) (r.1.getD 0xFFFF) r.2) :
    execLocaliseEnd n m s = .next (v.sparesGone (s.calKey n) (s.localiseFits (s.calKey n) m)) := by
  obtain ⟨named, why⟩ := r
  subst h hv
  refine congrArg Host.Outcome.next ((if_neg (by simp [hst, hkind])).trans ?_)
  unfold State.localiseFits at hr
  dsimp only
  rw [hr]
  rfl

theorem execLocaliseEnd_of_some {p : Nat} {v : State} (h : r.1 = some p)
    (hv : v = s.localiseNamed (s.calKey n) (s.localiseFits (s.calKey n) m) p r.2) :
    execLocaliseEnd n m s = .next (v.replaceColumn (s.calKey n) p (s.localiseFits (s.calKey n) m)
      (v.spareColumn (s.calKey n) (s.localiseFits (s.calKey n) m)) (v.columnEntry (s.calKey n) p)) := by
  obtain ⟨named, why⟩ := r
  subst h hv
  refine congrArg Host.Outcome.next ((if_neg (by simp [hst, hkind])).trans ?_)
  unfold State.localiseFits at hr
  dsimp only
  rw [hr]
  dsimp only
  split
  next q i hq hi =>
    have replaced := replaceColumn_congr (s := s.localiseNamed (s.calKey n) (s.localiseFits (s.calKey n) m) p why)
      (k := s.calKey n) (p := p) (c := s.localiseFits (s.calKey n) m) hq hi
    exact replaced
  next hmissing =>
    have missing := replaceColumn_of_missing (s := s.localiseNamed (s.calKey n) (s.localiseFits (s.calKey n) m) p why)
      (k := s.calKey n) (p := p) (c := s.localiseFits (s.calKey n) m) hmissing
    exact missing.symm

end

/-! ### The standby laser (R74) -/

/-- The standby is LOCKED, and its position's loops start again. -/
def State.standbyLock (s : State) (n : Nat) : State :=
  (List.range 8).foldl (fun (acc : State) j => acc.reinit (loopIx n (1064 + 8 * s.standbyPos n + j))) (s.wf (LTH_LASER n 11) LTH_LASER_STATE 3)

/-- STANDBY_LOCKED is posted. -/
def State.standbyIn (s : State) (n : Nat) : State :=
  (s.standbyLock n).post 0x101 cINFO (unitOf 6 11) 0xFFFF [(0x10, n), (0x11, s.standbyPos n)]

theorem standbyLock_kept (s : State) (n : Nat) : Kept 0x8000008 s (s.standbyLock n) :=
  ((Kept.refl _ s).step (State.wf_kept _ _ _ _)).foldl fun _ _ h => h.step (State.reinit_kept _ _)

theorem standbyIn_kept (s : State) (n : Nat) : Kept 0x242008000008 s (s.standbyIn n) :=
  ((standbyLock_kept s n).mono (by decide)).step (State.post_kept _ _ _ _ _ _)

theorem standbyIn_jigBody (s : State) (n : Nat) : (s.standbyIn n).jigBody = s.jigBody :=
  (postEvent_jigBody _ _).trans (standbyLock_kept s n).jigBody_eq

theorem standbyIn_rf (hs : Canon s) (n : Fin 8) : (s.standbyIn n).rf (LTH_LASER n 11) LTH_LASER_STATE = 3 := by
  have apart : ∀ o, EventReg o → ¬ o = LTH_LASER n 11 := by unfold EventReg LTH_LASER; omega
  have locked := rf_wf_self hs (LTH_LASER n 11) LTH_LASER_STATE 3 (by decide)
  have started : Kept 0x8000000 (s.wf (LTH_LASER n 11) LTH_LASER_STATE 3) (s.standbyLock n) :=
    (Kept.refl _ _).foldl fun _ _ h => h.step (State.reinit_kept _ _)
  have kept : KeepsRegs (· = LTH_LASER n 11) (s.wf (LTH_LASER n 11) LTH_LASER_STATE 3) (s.standbyIn n) :=
    started.keepsRegs.trans (keepsRegs_post apart _ _ _ _ _ _)
  unfold State.rf at locked ⊢
  rw [(kept (hs.of_kept (State.wf_kept _ _ _ _))).2 _ rfl, locked]
  rfl

/-- A lathe in service wants no LANES calibration (R75). -/
theorem wantLanes_of_inService {k : Nat} (h : (s.lathe k).svc = .inService) : s.wantLanes k = s := by
  simp [State.wantLanes, h]

theorem execStandbyLocked_of_inService (hpos : s.standbyPos n ≠ 15) (hlocking : s.rf (LTH_LASER n 11) LTH_LASER_STATE = 2)
    (hidle : (s.cal (s.calKey n)).st = .idle) (hsvc : (s.lathe n).svc = .inService) : execStandbyLocked n s = .next (s.standbyIn n) := by
  have kept := standbyIn_kept s n
  have idle : (((s.standbyIn n).cal ((s.standbyIn n).calKey n)).st == .running &&
      decide (((s.standbyIn n).cal ((s.standbyIn n).calKey n)).phase = 0)) = false := by
    rw [calKey_congr (standbyIn_jigBody s n), kept.cal_eq, hidle]
    rfl
  have lanes : (s.standbyIn n).wantLanes n = s.standbyIn n := wantLanes_of_inService (by rw [kept.lathe_eq, hsvc])
  exact congrArg Host.Outcome.next ((if_neg (by simp [hpos, hlocking])).trans ((if_neg (ne_true_of_eq_false idle)).trans lanes))

/-- Settles O51: requests, slots, phases, ends, localisation and the standby laser (R74, R482–R500). -/
theorem calibration : Obligations.Calibration := by
  unfold Obligations.Calibration
  refine ⟨?go, ?cancel, ?devGo, ?reached, ?grant, ?phase, ?last, ?unnamed, ?named, ?standby⟩
  case go =>
    intro n s hs hon hready k hidle hat
    have hw : Canon s.wakeLink := hs.of_kept (State.wakeLink_kept s)
    refine ⟨_, execCalGo_on hon, ?_⟩
    dsimp only
    rw [requestCal_of_later (by simpa using hready) (by simpa using hidle) hat, wakeLink_calKey, setCal_cal hw]
  case cancel =>
    intro n s hon k
    exact ⟨fun h => execCalCancel_of_none hon h, fun _ h hst => execCalCancel_of_waiting hon h hst, fun _ h hst => execCalCancel_of_held hon h hst⟩
  case devGo =>
    intro mask s hon
    exact execDevCalGo_on hon
  case reached =>
    intro n s k
    exact ⟨fun _ h ha => execCalAtReached_of_due h ha, fun _ h ha => execCalAtReached_of_later h ha, fun h => execCalAtReached_of_none h⟩
  case grant =>
    intro n s k c hst hready hfirst hfree hlevel
    exact execCalSlotGrant_of_first hst hready hfirst hfree hlevel
  case phase =>
    intro n m s hst
    exact execCalPhaseEnd_of_running hst
  case last =>
    intro n s k c hst hkind hlast
    have ends := execCalibrationEnd_of_last hst hkind hlast
    exact ⟨fun h => ends.trans (by rw [if_pos h]), fun h hbad => ends.trans (by simp [k, c, h, hbad]), fun h hok => ends.trans (by simp [k, c, h, hok])⟩
  case unnamed =>
    intro n m s k hst hkind c r a u v h
    have ends : exec (.localiseEnd n m) s = .next (v.sparesGone k c) := execLocaliseEnd_of_none hst hkind (r := r) rfl h rfl
    exact ends
  case named =>
    intro n m p s k hst hkind c r a u v spare entry h
    have ends : exec (.localiseEnd n m) s = .next (v.replaceColumn k p c spare entry) :=
      execLocaliseEnd_of_some hst hkind (r := r) rfl h rfl
    rw [ends]
    clear_value spare entry
    cases spare <;> cases entry <;> rfl
  case standby =>
    intro n s hs hpos hlocking hidle hsvc
    exact ⟨_, execStandbyLocked_of_inService hpos hlocking hidle hsvc, standbyIn_rf hs n⟩

end Sys2Proof.Machine
end

section
/-! ## The power limit, domains and power states -/
set_option Elab.async false
namespace Sys2Proof.Machine

variable {s t : State} {d : Fin 64}

/-! ### The power limit (R506) -/

theorem execPwrLimitWrite_on {v : Word} (hon : s.blockOff .pwr 0 = false) :
    execPwrLimitWrite v s = .next (s.wakeLink.wf PWR_LIMIT PWR_LIMIT_LIMIT (clampNat 5000 12500 (bits v.toNat 0 16))) := atBlock_of_on _ hon

/-- Settles O18: the field takes the value written or its nearer limit (R506). -/
theorem powerLimitRange : Obligations.PowerLimitRange := by
  unfold Obligations.PowerLimitRange
  intro v s hs hon
  have fits : clampNat 5000 12500 (v.toNat % 2 ^ 16) < 2 ^ 16 := Nat.lt_of_le_of_lt (clampNat_le (by decide) _) (by decide)
  refine ⟨_, execPwrLimitWrite_on hon, ?_⟩
  dsimp only
  rw [rf_wf_self (hs.of_kept (State.wakeLink_kept s)) _ _ _ (by decide), bits, Nat.pow_zero, Nat.div_one]
  exact Nat.mod_eq_of_lt fits

/-! ### Domain commands (R512–R516, R533) -/

section
variable (hon : s.blockOff .pwr 0 = false) (htaken : s.wakeLink.domTaken d = true) (hgroup : groupOf d = none)
include hon htaken hgroup

theorem execPwrDomOn_of_off (hoff : s.wakeLink.dom d = 0) : execPwrDomOn d s = .next (s.wakeLink.placeDom s.wakeLink.pwr d) := by
  refine (atBlock_of_on _ hon).trans ?_
  simp [htaken, hgroup, hoff]

theorem execPwrDomOn_of_placed (hplaced : s.wakeLink.dom d ≠ 0) : execPwrDomOn d s = .next s.wakeLink := by
  refine (atBlock_of_on _ hon).trans ?_
  simp [htaken, hgroup, hplaced]

theorem execPwrDomOff_of_taken : execPwrDomOff d s = .next (s.wakeLink.domOff d 0) := by
  refine (atBlock_of_on _ hon).trans ?_
  simp [htaken, hgroup]

omit hgroup in
theorem execPwrDomReset_of_taken : execPwrDomReset d s = .next (s.wakeLink.domainReset d 1) := by
  refine (atBlock_of_on _ hon).trans ?_
  simp [htaken]

end

theorem execDomainReon_of_due (hgroup : groupOf d = none) (hd : d.val ≠ 63) (hheld : sget 0 s.power.resets (resetKey d) ≠ 0)
    (hdue : sget 0 s.power.resets (resetKey d) - 1 + ms ≤ s.clock) :
    execDomainReon d s = .next (({ s with power := { s.power with resets := sput 0 0 s.power.resets (resetKey d) } } : State).placeDom s.pwr d) := by
  have due : ¬ (decide (sget 0 s.power.resets (resetKey d) = 0) || decide (s.clock < sget 0 s.power.resets (resetKey d) - 1 + ms)) = true := by
    simp [hheld, hdue]
  refine congrArg Host.Outcome.next ((if_neg due).trans ?_)
  simp only [hgroup, if_neg hd]
  rfl

/-! ### Requests of power states (R522–R526) -/

theorem execPwrStateGo_of_go {v : Word} (hon : s.blockOff .pwr 0 = false) (hgo : v.toNat / 256 % 2 = 1) (ht : v.toNat % 8 ≤ 4)
    (hcold : (s.wakeLink.wrSoft PWR_STATE_REQ v).power.cold = false) (hvent : (s.wakeLink.wrSoft PWR_STATE_REQ v).ventDown = false) :
    let u := s.wakeLink.wrSoft PWR_STATE_REQ v
    execPwrStateGo v s = .next (if bit v.toNat 4 then { u with power := { u.power with timed := u.power.timed ++ [(u.rd64 PWR_STATE_AT, v.toNat % 8)] } }
      else { u with power := { u.power with reqTarget := some (v.toNat % 8), reqVent := false, timed := [] } }) := by
  intro u
  have go : bit v.toNat 8 = true := decide_eq_true hgo
  have target : bits v.toNat 0 3 = v.toNat % 8 := by simp [bits]
  refine (atBlock_of_on _ hon).trans (congrArg Host.Outcome.next ((if_neg ?_).trans ?_))
  · simp [go, target, hcold, hvent, ht]
  · rw [target]

/-- No timed request: none acts. -/
theorem timedActs_of_nil (h : s.power.timed = []) : s.timedActs = s := by
  simp [State.timedActs, h]

theorem execPwrRequestAct_of_begins {t : Nat} (htarget : s.power.reqTarget = some t) (htrans : s.flag PWR_STATUS PWR_STATUS_TRANS = false)
    (htimed : s.power.timed = []) (hheld : s.power.resetHeld = false) (href : s.power.refLost = false) (hinput : s.power.input = true)
    (hother : s.pwr ≠ t) (hcold : s.pwr ≠ 4 ∨ t = 0) (hdown : s.pwr < t → s.downWaits = false) :
    execPwrRequestAct s = .next (s.beginTransition t s.power.reqVent) := by
  have acts : (if s.power.cold then s else s.timedActs) = s := by rw [timedActs_of_nil htimed, ite_self]
  have ends : ¬ ((decide (s.pwr = t) || (decide (s.pwr = 4) && decide (t ≠ 0))) = true) := by
    simp only [Bool.or_eq_true, Bool.and_eq_true, decide_eq_true_eq]
    omega
  have waits : ¬ ((decide (s.pwr < t) && s.downWaits) = true) := by
    simp only [Bool.and_eq_true, decide_eq_true_eq]
    rintro ⟨hlt, hw⟩
    exact Bool.false_ne_true ((hdown hlt).symm.trans hw)
  simp only [execPwrRequestAct, acts, htarget, htrans, hheld, href, hinput, Bool.false_or, Bool.not_true, Bool.false_eq_true, if_false]
  exact congrArg Host.Outcome.next ((if_neg (by simpa using ends)).trans (if_neg (by simpa using waits)))

/-! ### Quiescing and the end of a transition (R517–R521, R526) -/

theorem execQuiesceTimeout_of_settled (h : s.flag PWR_STATUS PWR_STATUS_TRANS = false) : execQuiesceTimeout s = .next s := by
  simp [execQuiesceTimeout, h]

theorem execQuiesceTimeout_of_late (htrans : s.flag PWR_STATUS PWR_STATUS_TRANS = true) (hwaiting : s.power.waiting = true)
    (hset : s.rf PWR_QUIESCE_TMO PWR_QUIESCE_TMO_MS ≠ 0) (hdue : s.power.transFrom + s.rf PWR_QUIESCE_TMO PWR_QUIESCE_TMO_MS * ms ≤ s.clock)
    (honce : s.power.tmoDone = false) :
    let late := (List.range 8).filter fun n => (s.lathe n).svc == .quiescing
    let engines := (late.map s.gang).eraseDups
    let count := (engines.map fun b => ((s.engine b).progs.filter fun x => x.st == .started).length).foldl (· + ·) 0
    late ≠ [] →
    let u := engines.foldl (fun (acc : State) b => acc.abortWhere b 0x10 fun x => x.st == .started) { s with power := { s.power with tmoDone := true } }
    execQuiesceTimeout s = .next (u.post 0xE02 cWARN 0 0xFFFF [(0x10, u.rf PWR_STATUS PWR_STATUS_TARGET), (0x11, maskOf 8 fun n => late.contains n), (0x14, count)]) := by
  intro late engines count hlate u
  refine congrArg Host.Outcome.next (if_neg ?_)
  have hlate' : late.isEmpty = false := by simpa using hlate
  simp only [htrans, hwaiting, hset, honce, Nat.not_lt.mpr hdue, decide_false, Bool.not_true, Bool.false_or]
  simp only [late] at hlate'
  simp [hlate']

section
variable (htrans : s.flag PWR_STATUS PWR_STATUS_TRANS = true) (href : s.power.refLost = false)
  (hquiet : (s.power.byVent || !s.power.waiting || (List.range 8).all fun n => (s.lathe n).svc != .quiescing) = true)
include htrans href hquiet

theorem execPwrTransitionEnd_of_open (ht : 3 ≤ s.rf PWR_STATUS PWR_STATUS_TARGET)
    (hopen : ((List.range 8).all fun k => s.bypassed k && !bit s.bypOpening k) = false) :
    execPwrTransitionEnd s = .next ((List.range 8).foldl (fun (acc : State) k => acc.closeBypass k 2 5) s) := by
  refine congrArg Host.Outcome.next ((if_neg ?_).trans (if_pos ?_))
  · simp only [htrans, hquiet, href]; decide
  · simp only [hopen, decide_eq_true ht]; decide

theorem execPwrTransitionEnd_of_moving (ht : 3 ≤ s.rf PWR_STATUS PWR_STATUS_TARGET)
    (hclosed : ((List.range 8).all fun k => s.bypassed k && !bit s.bypOpening k) = true) (hmoving : s.rf IZP_BYP IZP_BYP_MOVING ≠ 0) :
    execPwrTransitionEnd s = .next s := by
  refine congrArg Host.Outcome.next ((if_neg ?_).trans ((if_neg ?_).trans (if_pos ?_)))
  · simp only [htrans, hquiet, href]; decide
  · simp only [hclosed]; simp
  · simp [hmoving, ht]

end

/-- PWR_STATUS shows the power state `st` just reached, and no transition is in progress (R517). -/
def State.showReached (s : State) (st : Nat) (cold : Bool) : State :=
  let s := ((s.wf PWR_STATUS PWR_STATUS_STATE st).wb PWR_STATUS PWR_STATUS_TRANS false).bump PWR_STAT_TRANSITIONS 1
  { s with power := { s.power with cold := cold, waiting := false, byVent := false } }

/-- PWR_STATE, if it is enabled, reports a transition from `old` to `t` that took `us` microseconds. -/
def State.reportReached (s : State) (old t why us : Nat) : State :=
  if s.flag PWR_CTRL PWR_CTRL_STATE_EVT_EN then s.post 0xE00 cINFO 0 0xFFFF [(0x10, old), (0x11, t), (0x12, why), (0x14, us)] else s

/-- Once Active is reached, every lathe that can enters service (R74). -/
def State.serveReached (s : State) (t : Nat) : State :=
  if t = 0 then (List.range 8).foldl (fun (acc : State) n => acc.tryService n) s else s

/-- The end of a transition whose conditions hold, as a chain of its steps. -/
theorem execPwrTransitionEnd_of_quiet (htrans : s.flag PWR_STATUS PWR_STATUS_TRANS = true) (href : s.power.refLost = false)
    (hquiet : (s.power.byVent || !s.power.waiting || (List.range 8).all fun n => (s.lathe n).svc != .quiescing) = true)
    {t : Nat} (htarget : s.rf PWR_STATUS PWR_STATUS_TARGET = t) (ht : t < 3) :
    let freed := (List.range 8).foldl (fun (acc : State) n => acc.modLathe n Lathe.freeBanks) s
    let placed := (if s.pwr = 4 && t = 0 then freed.wakeCold else freed.placeAll t).showReached (min t 3) (t == 4)
    execPwrTransitionEnd s = .next (((if t = 4 then placed.wb PWR_STATUS PWR_STATUS_READY false else placed).reportReached s.pwr t
      (if freed.power.byVent then 2 else 1) ((freed.clock - freed.power.transFrom) / 1000)).serveReached t) := by
  subst htarget
  refine congrArg Host.Outcome.next ((if_neg ?_).trans ((if_neg ?_).trans (if_neg ?_)))
  · simp only [htrans, hquiet, href]; decide
  · simp [Nat.not_le.mpr ht]
  · simp [Nat.not_le.mpr ht]

theorem execPwrTransitionEnd_of_reached (htrans : s.flag PWR_STATUS PWR_STATUS_TRANS = true) (href : s.power.refLost = false)
    (hquiet : (s.power.byVent || !s.power.waiting || (List.range 8).all fun n => (s.lathe n).svc != .quiescing) = true)
    {t : Nat} (htarget : s.rf PWR_STATUS PWR_STATUS_TARGET = t) (ht : t < 3) (hcold : s.pwr ≠ 4) :
    execPwrTransitionEnd s = .next (((((((List.range 8).foldl (fun (acc : State) n => acc.modLathe n Lathe.freeBanks) s).placeAll t).showReached t false).reportReached
      s.pwr t (if s.power.byVent then 2 else 1) ((s.clock - s.power.transFrom) / 1000)).serveReached t)) := by
  have hne : ¬ t = 4 := by omega
  have stays : ¬ ((decide (s.pwr = 4) && decide (t = 0)) = true) := by simp [hcold]
  have freed : Kept 0x100 s ((List.range 8).foldl (fun (acc : State) n => acc.modLathe n Lathe.freeBanks) s) :=
    (Kept.refl _ s).foldl fun acc n h => h.step (State.modLathe_kept acc n _)
  have power := freed.1 .power (by decide)
  dsimp only [Part.same] at power
  rw [execPwrTransitionEnd_of_quiet htrans href hquiet htarget ht, if_neg hne, if_neg stays, beq_false_of_ne hne, Nat.min_eq_left (Nat.le_of_lt ht), power,
    freed.clock_eq]

theorem execLinkIdleL1_of_dormant (hup : s.hostUp = true) (hst : s.rf PWR_STATUS PWR_STATUS_STATE = 3) :
    execLinkIdleL1 s = .next (s.wf PCI_STATUS PCI_STATUS_LPS 2) := by
  simp [execLinkIdleL1, hup, hst]

/-- Settles O53: each clause is the outcome of one command, stated above. -/
theorem powerDomainsAndStates : Obligations.PowerDomainsAndStates := by
  unfold Obligations.PowerDomainsAndStates
  refine ⟨?domains, ?reon, ?request, ?acts, ?settled, ?late, ?reaches, ?idle⟩
  case domains =>
    intro d s hon htaken hgroup
    exact ⟨execPwrDomOn_of_off hon htaken hgroup, execPwrDomOn_of_placed hon htaken hgroup, execPwrDomOff_of_taken hon htaken hgroup,
      execPwrDomReset_of_taken hon htaken⟩
  case reon => intro d s hgroup hd k hheld hdue; exact execDomainReon_of_due hgroup hd hheld hdue
  case request =>
    intro v s hon u hgo ht hcold hvent
    have go := execPwrStateGo_of_go hon hgo ht hcold hvent
    exact ⟨fun h => go.trans (congrArg _ (if_pos h)), fun h => go.trans (congrArg _ (if_neg (Bool.eq_false_iff.mp h)))⟩
  case acts => intro t s htarget htrans htimed hheld href hinput; exact execPwrRequestAct_of_begins htarget htrans htimed hheld href hinput
  case settled => intro s h; exact execQuiesceTimeout_of_settled h
  case late => intro s htrans hwaiting tmo hset hdue honce; exact execQuiesceTimeout_of_late htrans hwaiting hset hdue honce
  case reaches =>
    intro s htrans href hquiet t closed
    refine ⟨execPwrTransitionEnd_of_open htrans href hquiet, execPwrTransitionEnd_of_moving htrans href hquiet, fun ht hcold => ?_⟩
    exact execPwrTransitionEnd_of_reached htrans href hquiet rfl ht hcold
  case idle =>
    intro s hs hup hst
    exact ⟨_, execLinkIdleL1_of_dormant hup hst, rf_wf_self hs _ _ _ (by decide)⟩

end Sys2Proof.Machine
end

section
/-! ## Clocks, resets and start-up -/
set_option Elab.async false
namespace Sys2Proof.Machine

variable {s t : State} {m : Nat}

/-! ### What an operation that keeps the security module keeps of it -/

theorem Kept.security_eq (h : Kept m s t) (hm : m.testBit Part.security.no = false := by decide) :
    (t.sec.st, t.sec.grant, t.sec.sess, t.sec.zeroising, t.sec.stFail, t.sec.asked) =
      (s.sec.st, s.sec.grant, s.sec.sess, s.sec.zeroising, s.sec.stFail, s.sec.asked) := h.1 .security hm

theorem Kept.secSt_eq (h : Kept m s t) (hm : m.testBit Part.security.no = false := by decide) : t.sec.st = s.sec.st :=
  congrArg (·.1) (h.security_eq hm)

theorem Kept.grant_eq (h : Kept m s t) (hm : m.testBit Part.security.no = false := by decide) : t.sec.grant = s.sec.grant :=
  congrArg (·.2.1) (h.security_eq hm)

theorem Kept.stFail_eq (h : Kept m s t) (hm : m.testBit Part.security.no = false := by decide) : t.sec.stFail = s.sec.stFail :=
  congrArg (·.2.2.2.2.1) (h.security_eq hm)

/-! ### Clocks (R530) -/

theorem execPllUnlock_of_stack {k : Fin 37} (hlocked : s.flag (CLK_DOM k) CLK_DOM_LOCKED = true) (hlo : 24 ≤ k.val) (hhi : k.val < 32) :
    let u := ((s.bump CLK_STAT_UNLOCK 1).wb (CLK_DOM k) CLK_DOM_LOCKED false).incF (CLK_DOM k) CLK_DOM_UNLOCKS 1
    u.flag CLK_CTRL CLK_CTRL_UNLOCK_EVT_EN = false → execPllUnlock (some k) s = .next (u.domainReset (48 + (k - 24)) 4) := by
  intro u hquiet
  refine congrArg Host.Outcome.next ((if_neg (by simp [hlocked])).trans ((if_neg (Nat.not_lt.mpr hlo)).trans ((if_pos hhi).trans ?_)))
  exact congrArg (State.domainReset · _ _) (if_neg (Bool.eq_false_iff.mp hquiet))

section
variable (hlost : s.power.refLost = true)
include hlost

theorem execRefOscReturn_of_held :
    let u := (({ s with power := { s.power with refLost := false } } : State).wb CLK_REF CLK_REF_REF_OK true).wb CLK_REF CLK_REF_FALLBACK false
    u.power.resetHeld = true → execRefOscReturn s = .next u := by
  intro u hheld
  exact congrArg Host.Outcome.next ((if_neg (by simp [hlost])).trans (if_pos hheld))

theorem execRefOscReturn_of_released :
    let u := (({ s with power := { s.power with refLost := false } } : State).wb CLK_REF CLK_REF_REF_OK true).wb CLK_REF CLK_REF_FALLBACK false
    u.power.resetHeld = false → (u.vent.booting = true → u.vent.bootCause ≠ 0) → execRefOscReturn s = .next (u.placeAll u.pwr) := by
  intro u hheld hvent
  have first : ¬ (u.vent.booting && decide (u.vent.bootCause = 0)) = true := by
    simpa using hvent
  exact congrArg Host.Outcome.next ((if_neg (by simp [hlost])).trans ((if_neg (Bool.eq_false_iff.mp hheld)).trans (if_neg first)))

end

/-! ### Resets and their release (R531, R602, R612) -/

theorem execDeviceResetRelease_of_due (hheld : s.power.resetHeld = true) (hdue : s.power.resetAt + 10 * ms ≤ s.clock) (href : s.power.refLost = false) :
    let u : State := { s with perst := false, power := { s.power with resetHeld := false }, recovery := s.recPin, recReply := none }
    execDeviceResetRelease s = .next (if s.recPin then u.setDom 62 1 else (u.beginStart 150 s.clock).boot150) := by
  refine congrArg Host.Outcome.next (if_neg ?_)
  simp [hheld, hdue, href]

theorem execDevResetCmd_on {v : BitVec 16} (hon : s.blockOff .dev 0 = false) :
    execDevResetCmd v s = .next (if v = 0xD0A5 then s.wakeLink.deviceReset else s.wakeLink) := atBlock_of_on _ hon

/-- Settles O25: the key alone starts a device reset (R602). -/
theorem deviceResetCommand : Obligations.DeviceResetCommand := by
  unfold Obligations.DeviceResetCommand
  intro v s hon
  exact ⟨fun h => (execDevResetCmd_on hon).trans (congrArg _ (if_pos h)), fun h => (execDevResetCmd_on hon).trans (congrArg _ (if_neg h))⟩

/-! ### The Vent's boot and start-up (R535, R595) -/

section
variable (hbooting : s.vent.booting = true) (hrecovery : s.recovery = false) (hstopped : s.bootStopped = false) (hdom : s.dom 63 = 1)
include hbooting hrecovery hstopped hdom

theorem execVentBooted_of_cold (hcause : s.vent.bootCause = 0) (href : s.power.refLost = false) :
    execVentBooted s = .next ({ s with vent := { s.vent with booting := false, abandoned := 0 } } : State).boot150 := by
  refine congrArg Host.Outcome.next ((if_neg ?_).trans (if_pos hcause))
  simp [hbooting, hrecovery, hstopped, hdom, href]

theorem execVentBooted_of_restart (hcause : s.vent.bootCause ≠ 0) :
    execVentBooted s = .next (({ s with vent := { s.vent with booting := false, abandoned := 0 } } : State).postVent 0x1006 cWARN 0
      [(0x10, s.vent.bootCause), (0x11, s.vent.abandoned)]) := by
  refine congrArg Host.Outcome.next ((if_neg ?_).trans (if_neg hcause))
  simp [hbooting, hrecovery, hstopped, hdom, hcause]

end

theorem execStartStepEnd_of_tested {k : Fin 6} {ok : Bool} (h : k.val ≠ 0 ∨ s.sec.st ≠ .selftest) : execStartStepEnd k ok s = .next (s.stepDone k ok) := by
  refine congrArg Host.Outcome.next (if_neg ?_)
  simp only [Bool.and_eq_true, decide_eq_true_eq, beq_iff_eq, not_and_or]
  exact h

theorem execReadyTimeout_of_due (hstarting : s.power.starting = true) (hdue : s.power.startedAt + (4000 - s.power.startMs) * ms ≤ s.clock) :
    execReadyTimeout s = .next s.ready := by
  simp [execReadyTimeout, hstarting, hdue]

/-! ### The self-tests (R551, R555, R556) -/

theorem stepDone_of_done {k : Nat} {ok : Bool} (h : bit (s.rf PWR_START PWR_START_PEND) k = false) : s.stepDone k ok = s :=
  if_pos (congrArg (!·) h)

@[simp] theorem raiseCtr_rf (k svn o : Nat) (f : Fld) : (s.raiseCtr k svn).rf o f = s.rf o f := rfl

section
variable (hst : s.sec.st = .selftest) (hdom : s.dom 62 = 1)
include hst hdom

/-- The state that posts a failed self-test. -/
def State.testFailed (s : State) (fail : BitVec 4) : State :=
  ({ s with sec := { s.sec with st := .error, stFail := fail.toNat } } : State).post 0xF00 cFATAL (unitOf 0xF 0) 0xFFFF [(0x10, fail.toNat)]

theorem execSelftestEnd_of_failed {fail : BitVec 4} (hfail : fail ≠ 0) :
    execSelftestEnd fail s = .next (if bit ((s.testFailed fail).rf PWR_START PWR_START_PEND) 0 then
      ({ s.testFailed fail with power := { (s.testFailed fail).power with starting := false } } : State).stepDone 0 false else s.testFailed fail) := by
  refine congrArg Host.Outcome.next ((if_neg ?_).trans (if_pos hfail))
  simp [hst, hdom]

theorem execSelftestEnd_of_passed (hpend : bit (s.rf PWR_START PWR_START_PEND) 0 = false) :
    execSelftestEnd 0 s = .next ([1, 2, 3].foldl (fun (acc : State) k => acc.raiseCtr (fwReg k) (acc.fw k).active.2.1)
      ({ s with sec := { s.sec with st := .operational, stFail := 0 } } : State)) := by
  refine congrArg Host.Outcome.next ((if_neg ?_).trans ((if_neg (by decide)).trans ((if_neg (Bool.eq_false_iff.mp hpend)).trans (stepDone_of_done ?_))))
  · simp [hst, hdom]
  · rw [List.foldl_cons, List.foldl_cons, List.foldl_cons, List.foldl_nil, raiseCtr_rf, raiseCtr_rf, raiseCtr_rf]
    exact hpend

end

theorem testFailed_security (fail : BitVec 4) : (s.testFailed fail).sec.st = .error ∧ (s.testFailed fail).sec.stFail = fail.toNat :=
  have kept := State.post_kept ({ s with sec := { s.sec with st := .error, stFail := fail.toNat } } : State) 0xF00 cFATAL (unitOf 0xF 0) 0xFFFF [(0x10, fail.toNat)]
  ⟨kept.secSt_eq, kept.stFail_eq⟩

/-- Settles O54: each clause is the outcome of one command, stated above. -/
theorem clocksAndResets : Obligations.ClocksAndResets := by
  unfold Obligations.ClocksAndResets
  refine ⟨?unlock, ?reference, fun _ => rfl, ?release, fun _ => ⟨rfl, rfl, rfl⟩, ?function, ?booted, fun _ _ _ h => execStartStepEnd_of_tested h,
    fun _ => execReadyTimeout_of_due, ?failed, fun _ => execSelftestEnd_of_passed⟩
  case unlock => intro k s hlocked hlo hhi _; exact execPllUnlock_of_stack hlocked hlo hhi
  case reference => intro s hlost u; exact ⟨execRefOscReturn_of_held hlost, execRefOscReturn_of_released hlost⟩
  case release =>
    intro s hheld hdue href u
    have ends : execDeviceResetRelease s = .next (if s.recPin then u.setDom 62 1 else (u.beginStart 150 s.clock).boot150) :=
      execDeviceResetRelease_of_due hheld hdue href
    exact ⟨fun h => ends.trans (congrArg _ (if_pos h)), fun h => ends.trans (congrArg _ (if_neg (Bool.eq_false_iff.mp h)))⟩
  case function => intro s; exact ⟨_, rfl, rfl, rfl, rfl, rfl, rfl⟩
  case booted =>
    intro s hbooting hrecovery hstopped hdom u
    exact ⟨execVentBooted_of_cold hbooting hrecovery hstopped hdom, execVentBooted_of_restart hbooting hrecovery hstopped hdom⟩
  case failed =>
    intro fail s hst hdom hfail
    refine ⟨_, execSelftestEnd_of_failed hst hdom hfail, ?_⟩
    dsimp only
    obtain ⟨st, stFail⟩ := testFailed_security (s := s) fail
    split
    · have kept := State.stepDone_kept ({ s.testFailed fail with power := { (s.testFailed fail).power with starting := false } } : State) 0 false
      exact ⟨kept.secSt_eq.trans st, kept.stFail_eq.trans stFail⟩
    · exact ⟨st, stFail⟩

end Sys2Proof.Machine
end

section
/-! ## Services and sessions of the security module -/
set_option Elab.async false
namespace Sys2Proof.Machine

variable {s : State} {i : SecIface}

/-! ### What the module answers (R553, R555–R557) -/

theorem secAnswers_status (hdom : s.dom 62 = 1) : s.secAnswers 1 = true := by
  simp [State.secAnswers, hdom]

theorem secAnswers_of_operational (hdom : s.dom 62 = 1) (hst : s.sec.st = .operational) (op : Nat) : s.secAnswers op = true := by
  simp [State.secAnswers, hdom, hst]

/-- A service runs on the session it touched, once that has the usage it needs. -/
theorem service_of_usage {op u : Nat} (hanswers : s.secAnswers op = true) (husage : (s.touchSession i).hasUsage i u = true) (f : State → State) :
    s.service i op u f = f (s.touchSession i) :=
  (if_neg (by simp [hanswers])).trans (if_pos husage)

/-! ### Status, certificates, quotes and measurements (R545, R556, R559) -/

theorem execGetStatus_of_on (hdom : s.dom 62 = 1) :
    execGetStatus i s = .next ((s.touchSession i).secRespond i 1 (if s.sec.st == .error then 5 else 0)
      (leBytes s.secStatus 4 ++ (List.range 8).flatMap (fun k => leBytes (s.ctr k) 4) ++ (List.range 8).flatMap fun k => leBytes (s.slotWord k) 4)) :=
  congrArg Host.Outcome.next (if_neg (by simp [secAnswers_status hdom]))

section
variable (hdom : s.dom 62 = 1) (hst : s.sec.st = .operational)
include hdom hst

theorem execGetCerts_of_operational : execGetCerts i s = .next ((s.touchSession i).secRespond i 2 0 Config.certs) :=
  congrArg Host.Outcome.next (if_neg (by simp [secAnswers_of_operational hdom hst]))

theorem execQuote_of_nonce {nonce : List Byte} {mask : BitVec 16} (hlo : 1 ≤ nonce.length) (hhi : nonce.length ≤ 64) :
    execQuote i nonce mask s = .next (((s.touchSession i).bump SEC_STAT_QUOTES 1).secRespond i 3 0 ((s.touchSession i).quote nonce mask.toNat)) := by
  refine congrArg Host.Outcome.next ((if_neg (by simp [secAnswers_of_operational hdom hst])).trans (if_neg ?_))
  simp only [Bool.or_eq_true, decide_eq_true_eq]
  omega

theorem execExtend_of_user {r : Fin 16} {v : List Byte} (husage : (s.touchSession i).hasUsage i uUSER = true) (hr : 9 ≤ r.val) (hv : v.length = 64) :
    execExtend i r v s = .next (((s.touchSession i).extend r v).secRespond i 4 0 []) := by
  refine congrArg Host.Outcome.next ((service_of_usage (secAnswers_of_operational hdom hst 4) husage _).trans (if_neg ?_))
  simp only [Bool.or_eq_true, decide_eq_true_eq]
  omega

/-! ### Challenges, logins and self-tests (R552, R555) -/

theorem execChallenge_of_operational :
    let u : State := { s.touchSession i with sec := { (s.touchSession i).sec with asked := s.sec.asked + 1 } }
    execChallenge i s = .next ((u.setSess (ifaceNo i) { u.sess (ifaceNo i) with challenge := some ((Config.challenge s.sec.asked).setWidth 512, s.clock) }).secRespond
      i 5 0 (leBytes (Config.challenge s.sec.asked).toNat 32)) :=
  congrArg Host.Outcome.next (if_neg (by simp [secAnswers_of_operational hdom hst]))

theorem execSelftest_of_user (husage : (s.touchSession i).hasUsage i uUSER = true) :
    let u := (s.touchSession i).secRespond i 0xC 0 []
    execSelftest i s = .next { u with sec := { u.sec with st := .selftest } } :=
  congrArg Host.Outcome.next (service_of_usage (secAnswers_of_operational hdom hst 0xC) husage _)

theorem execLogin_of_asked {slot : Fin 8} {sigOk : Bool} (hvalid : (s.owner slot).valid = true) :
    let u := s.touchSession i
    let x := u.sess (ifaceNo i)
    x.lockedUntil = none → x.fails < 3 → x.slot = none → x.challenge.isSome = true →
    execLogin i slot sigOk s = .next (if sigOk then (u.setSess (ifaceNo i) { x with challenge := none, slot := some slot, fails := 0 }).secRespond i 6 0 []
      else ((u.setSess (ifaceNo i) { x with challenge := none, fails := x.fails + 1 }).authFail i slot 6).secRespond i 6 3 []) := by
  intro u x hunlocked hfails hfree hasked
  refine congrArg Host.Outcome.next ((if_neg (by simp [secAnswers_of_operational hdom hst])).trans ((if_neg ?_).trans ?_))
  · simp only [x, u] at hunlocked hfails hfree hasked
    simp [hunlocked, hfree, Nat.not_le.mpr hfails, Option.isNone_eq_false_iff.mpr hasked]
  · cases sigOk
    · rfl
    · exact if_pos hvalid

theorem execLogout_of_open {k : Fin 8} (hopen : ((s.touchSession i).sess (ifaceNo i)).slot = some k) :
    execLogout i s = .next (((s.touchSession i).setSess (ifaceNo i) { (s.touchSession i).sess (ifaceNo i) with slot := none }).secRespond i 7 0 []) :=
  congrArg Host.Outcome.next ((if_neg (by simp [secAnswers_of_operational hdom hst])).trans (if_neg (by simp [hopen])))

end

/-! ### Lockouts and the session timeout (R552) -/

theorem execLoginLockout_of_failed (hfails : 3 ≤ (s.sess (ifaceNo i)).fails) (hunlocked : (s.sess (ifaceNo i)).lockedUntil = none) :
    execLoginLockout i s = .next (s.setSess (ifaceNo i) { s.sess (ifaceNo i) with lockedUntil := some (s.clock + 10000 * ms) }) :=
  congrArg Host.Outcome.next (if_pos (by simp [hfails, hunlocked]))

theorem execLockoutEnd_of_due {t : Nat} (hlocked : (s.sess (ifaceNo i)).lockedUntil = some t) (hdue : t ≤ s.clock) :
    execLockoutEnd i s = .next (s.setSess (ifaceNo i) { s.sess (ifaceNo i) with lockedUntil := none, fails := 0 }) := by
  simp [execLockoutEnd, hlocked, hdue]

theorem execSessionTimeout_of_due {k : Fin 8} (hopen : (s.sess (ifaceNo i)).slot = some k) (hdue : (s.sess (ifaceNo i)).last + 60000 * ms ≤ s.clock) :
    execSessionTimeout i s = .next (s.setSess (ifaceNo i) { s.sess (ifaceNo i) with slot := none }) :=
  congrArg Host.Outcome.next (if_pos (by simp [hopen, hdue]))

/-- Settles O55: each clause is the outcome of one command, stated above. -/
theorem securityServices : Obligations.SecurityServices := by
  unfold Obligations.SecurityServices
  refine ⟨fun _ _ => execGetStatus_of_on, fun _ _ => execGetCerts_of_operational, ?quote, ?extend, fun _ _ => execChallenge_of_operational, ?selftest, ?login,
    fun _ _ => execLoginLockout_of_failed, fun _ _ _ => execLockoutEnd_of_due, ?logout, fun _ _ _ => execSessionTimeout_of_due⟩
  case quote => intro i nonce mask s hdom hst hlo hhi; exact execQuote_of_nonce hdom hst hlo hhi
  case extend => intro i r v s hdom hst husage hr hv; exact execExtend_of_user hdom hst husage hr hv
  case selftest => intro i s hdom hst husage; exact ⟨_, execSelftest_of_user hdom hst husage, rfl⟩
  case login =>
    intro i slot s hdom hst hvalid u x hunlocked hfails hfree hasked
    have login (sigOk : Bool) := execLogin_of_asked (sigOk := sigOk) hdom hst hvalid hunlocked hfails hfree hasked
    exact ⟨login true, login false⟩
  case logout => intro i k s hdom hst u hopen; exact execLogout_of_open hdom hst hopen

end Sys2Proof.Machine
end

section
/-! ## Owner slots, zeroisation, debug grants and the fabric ID -/
set_option Elab.async false
namespace Sys2Proof.Machine

variable {s t : State} {i : SecIface} {m : Nat}

/-! ### Owner slots (R554, R557) -/

theorem Kept.owner_eq (h : Kept m s t) (k : Nat) (hm : m.testBit Part.owners.no = false := by decide) : t.owner k = s.owner k :=
  congrArg (sget ({} : Owner) · k) (h.1 .owners hm)

theorem owner_setOwner (hs : Canon s) (j k : Nat) (o : Owner) : (s.setOwner j o).owner k = if k = j then o else s.owner k := by
  split
  · next h => subst h; exact sget_sput_self (dflt := fun _ => ({} : Owner)) hs.owners
  · next h => exact sget_sput_ne (dflt := fun _ => ({} : Owner)) hs.owners h

theorem owner_invalid_of_unowned (h : s.owned = false) (k : Fin 8) : (s.owner k).valid = false := by
  simpa using List.any_eq_false.mp h k.val (List.mem_range.mpr k.isLt)

section
variable (hdom : s.dom 62 = 1) (hst : s.sec.st = .operational)
include hdom hst

theorem execEnroll_of_unowned {slot : Fin 8} {digest : BitVec 512} {usage : BitVec 5} (howned : s.owned = false) (husage : bit usage.toNat uENROLL = true) :
    execEnroll i slot digest usage true s = .next ((((s.touchSession i).setOwner slot { valid := true, usage := usage, digest := digest }).post 0xF02 cINFO (unitOf 0xF 0) 0xFFFF
      [(0x10, slot), (0x11, 1), (0x12, usage.toNat)]).secRespond i 8 0 []) := by
  refine congrArg Host.Outcome.next ((if_neg (Bool.eq_false_iff.mp howned)).trans ((if_neg ?_).trans ((if_pos husage).trans (if_neg ?_))))
  · simp [secAnswers_of_operational hdom hst]
  · exact Bool.eq_false_iff.mp (owner_invalid_of_unowned howned slot)

/-- The state of a revoked slot: it is empty, and no session is open under it. -/
def State.revoked (s : State) (slot : Fin 8) : State :=
  let s := (s.setOwner slot {}).post 0xF02 cINFO (unitOf 0xF 0) 0xFFFF [(0x10, slot), (0x11, 2), (0x12, (s.owner slot).usage.toNat)]
  { s with sec := { s.sec with sess := smap {} (fun (x : Session) => if x.slot = some slot then { x with slot := none } else x) s.sec.sess } }

theorem execRevoke_of_other {slot j : Fin 8} (husage : (s.touchSession i).hasUsage i uENROLL = true) (hvalid : (s.owner slot).valid = true) (hj : j ≠ slot)
    (hother : (s.owner j).valid = true) (henroll : bit (s.owner j).usage.toNat uENROLL = true) :
    execRevoke i slot s = .next (((s.touchSession i).revoked slot).secRespond i 9 0 []) := by
  have others : ((List.range 8).any fun k => k != slot.val && (s.owner k).valid && bit (s.owner k).usage.toNat uENROLL) = true :=
    List.any_eq_true.mpr ⟨j, List.mem_range.mpr j.isLt, by simp [hother, henroll, Fin.val_ne_of_ne hj]⟩
  refine congrArg Host.Outcome.next ((service_of_usage (secAnswers_of_operational hdom hst 9) husage _).trans (if_neg (Bool.eq_false_iff.mp ?_)))
  exact (congrArg₂ (fun valid others => !valid || (bit (s.owner slot).usage.toNat uENROLL && !others)) hvalid others).trans (by simp)

end

theorem owner_revoked (hs : Canon s) (slot : Fin 8) (k : Nat) : (s.revoked slot).owner k = if k = slot.val then {} else s.owner k :=
  (Kept.owner_eq (State.post_kept (s.setOwner slot {}) _ _ _ _ _) k).trans (owner_setOwner hs slot k {})

/-! ### Zeroisation and debug grants (R557, R558, R601) -/

section
variable (hdom : s.dom 62 = 1) (hst : s.sec.st = .operational)
include hdom hst

theorem execZeroise_of_usage (husage : (s.touchSession i).hasUsage i uZEROISE = true) :
    Completes (.zeroise i) s fun t => t.sec.st = .zeroised ∧ t.sec.zeroising = true :=
  ⟨_, congrArg Host.Outcome.next (service_of_usage (secAnswers_of_operational hdom hst 0xA) husage _), rfl, rfl⟩

/-- The state in which `mask` is granted for debug. -/
def State.granted (s : State) (mask : BitVec 8) : State := { s with sec := { s.sec with grant := some ((s.sec.grant.getD 0) ||| mask) } }

theorem execGrantDebug_of_usage {mask : BitVec 8} (husage : (s.touchSession i).hasUsage i uDEBUG = true) :
    execGrantDebug i mask s = .next (((((s.touchSession i).granted mask).extend 8 (digBytes (Config.fixedRecord false))).post 0xF04 cWARN (unitOf 0xF 0) 0xFFFF
      [(0x10, mask.toNat), (0x11, (((s.touchSession i).sess (ifaceNo i)).slot.map (·.val)).getD 0)]).secRespond i 0xB 0 []) :=
  congrArg Host.Outcome.next (service_of_usage (secAnswers_of_operational hdom hst 0xB) husage _)

end

theorem execZeroiseEraseEnd_of_zeroising (h : s.sec.zeroising = true) :
    execZeroiseEraseEnd s = .next { s with sec := { s.sec with zeroising := false, owners := [] } } := congrArg Host.Outcome.next (if_pos h)

theorem execDebugWrite_on {v : Word} (hon : s.blockOff .dev 0 = false) :
    execDebugWrite v s = .next (s.wakeLink.wf DEV_DEBUG DEV_DEBUG_LATHES
      (v.toNat &&& (s.wakeLink.rf DEV_DEBUG DEV_DEBUG_LATHES ||| (s.wakeLink.sec.grant.getD 0).toNat))) := atBlock_of_on _ hon

/-! ### The fabric ID (R541, R599) -/

theorem execFabricIdWrite_of_down {v : Word} (hon : s.blockOff .dev 0 = false)
    (hdown : ∀ p, p < 16 → s.wakeLink.link p = lnkDown ∨ s.wakeLink.link p = lnkDisabled ∨ s.wakeLink.link p = lnkBypassed) :
    let u := s.wakeLink.wrSoft DEV_FABRIC_ID v
    execFabricIdWrite v s = .next (if u.dom 62 = 1 then { u with fabricIdFlash := u.rd DEV_FABRIC_ID } else u) := by
  refine (atBlock_of_on _ hon).trans (congrArg Host.Outcome.next (if_pos ?_))
  refine List.all_eq_true.mpr fun p hp => ?_
  simpa [or_assoc] using hdown p (List.mem_range.mp hp)

/-- Settles O56: each clause is the outcome of one command, stated above. -/
theorem ownership : Obligations.Ownership := by
  unfold Obligations.Ownership
  refine ⟨?enroll, ?revoke, fun _ _ => execZeroise_of_usage, ?erase, ?grant, ?debug, ?fabricId⟩
  case enroll => intro i slot digest usage s hdom hst howned husage; exact execEnroll_of_unowned hdom hst howned husage
  case revoke =>
    intro i slot j s hdom hst husage hvalid hj hother henroll
    refine ⟨_, execRevoke_of_other hdom hst husage hvalid hj hother henroll, fun k hs => ?_⟩
    have touched := hs.of_kept (State.touchSession_kept s i)
    exact ((State.secRespond_kept _ i 9 0 []).owner_eq k).trans (owner_revoked touched slot k)
  case erase => intro s h; exact ⟨_, execZeroiseEraseEnd_of_zeroising h, rfl, rfl, rfl⟩
  case grant =>
    intro i mask s hdom hst husage
    refine ⟨_, execGrantDebug_of_usage hdom hst husage, ?_⟩
    have extended := (State.extend_kept ((s.touchSession i).granted mask) 8 (digBytes (Config.fixedRecord false))).grant_eq
    exact ((State.secRespond_kept _ i 0xB 0 []).grant_eq.trans (State.post_kept _ _ _ _ _ _).grant_eq).trans extended
  case debug =>
    intro v s hs hon
    refine ⟨_, execDebugWrite_on hon, ?_⟩
    dsimp only
    rw [rf_wf_self (hs.of_kept (State.wakeLink_kept s)) _ _ _ (by decide), wakeLink_rf hs _ (by decide), (State.wakeLink_kept s).grant_eq]
    rfl
  case fabricId =>
    intro v s hon hdown u
    have write := execFabricIdWrite_of_down (v := v) hon hdown
    exact ⟨fun h => write.trans (congrArg _ (if_pos h)), fun h => write.trans (congrArg _ (if_neg h))⟩

end Sys2Proof.Machine
end

section
/-! ## Jig slots: verify, apply, rollback and discard -/
set_option Elab.async false
namespace Sys2Proof.Machine

variable {s : State}

/-! ### Verify (R541, R544, R561, R562) -/

section
variable {keyOk sigOk : Bool} (hon : s.blockOff .jig 0 = false)
include hon

theorem execJigVerify_of_busy (hbusy : s.wakeLink.jig.st ≠ .idle ∨ s.wakeLink.dom 62 ≠ 1) : execJigVerify keyOk sigOk s = .next (s.wakeLink.jigResult 1 8) := by
  refine (atBlock_of_on _ hon).trans (congrArg Host.Outcome.next (if_pos ?_))
  simpa using hbusy

section
variable (hst : s.wakeLink.jig.st = .idle) (hdom : s.wakeLink.dom 62 = 1)
include hst hdom

theorem execJigVerify_of_unread (hread : s.wakeLink.readImage (s.wakeLink.rd64 JIG_SRC) (s.wakeLink.rd JIG_LEN).toNat = none) :
    execJigVerify keyOk sigOk s =
      .next (((s.wakeLink.imageUnmapped (s.wakeLink.rd64 JIG_SRC) (s.wakeLink.rd JIG_LEN).toNat).jigResult 1 10).imageRejected 0x10 10 0) := by
  refine (atBlock_of_on _ hon).trans (congrArg Host.Outcome.next ((if_neg (by simp [hst, hdom])).trans ?_))
  rw [hread]

/-- Why the staged image is rejected: its own fault before its body's. -/
def State.stagedFault (s : State) (l : List Byte) (keyOk sigOk : Bool) : Nat :=
  if s.imageFault l 0x10 keyOk sigOk ≠ 0 then s.imageFault l 0x10 keyOk sigOk else bodyFault (imgBody l)

theorem execJigVerify_of_read {l : List Byte} (hread : s.wakeLink.readImage (s.wakeLink.rd64 JIG_SRC) (s.wakeLink.rd JIG_LEN).toNat = some l) :
    let i : JigImg := { valid := true, version := imgVersion l, svn := imgSvn l, body := imgBody l, signer := imgSigner l, key := imgKey l, digest := Sha3.sha3 l }
    let u := s.wakeLink
    let why := u.stagedFault l keyOk sigOk
    execJigVerify keyOk sigOk s = .next (if why ≠ 0 then (u.jigResult 1 why).imageRejected 0x10 why (imgVersion l)
      else ({ u with jig := { u.jig with pend := i } } : State).jigResult 1 0) := by
  intro i u why
  refine (atBlock_of_on _ hon).trans (congrArg Host.Outcome.next ((if_neg (by simp [hst, hdom])).trans ?_))
  rw [hread]
  rfl

theorem execJigVerify_of_rejected {l : List Byte} {why : Nat} (hread : s.wakeLink.readImage (s.wakeLink.rd64 JIG_SRC) (s.wakeLink.rd JIG_LEN).toNat = some l)
    (hwhy : s.wakeLink.stagedFault l keyOk sigOk = why) (hrejected : why ≠ 0) :
    execJigVerify keyOk sigOk s = .next ((s.wakeLink.jigResult 1 why).imageRejected 0x10 why (imgVersion l)) := by
  subst hwhy
  exact (execJigVerify_of_read hon hst hdom hread).trans (congrArg _ (if_pos hrejected))

end
end

theorem stagedFault_of_image {l : List Byte} {keyOk sigOk : Bool} (h : s.imageFault l 0x10 keyOk sigOk ≠ 0) :
    s.stagedFault l keyOk sigOk = s.imageFault l 0x10 keyOk sigOk := if_pos h

theorem stagedFault_of_body {l : List Byte} {keyOk sigOk : Bool} (h : s.imageFault l 0x10 keyOk sigOk = 0) :
    s.stagedFault l keyOk sigOk = bodyFault (imgBody l) := if_neg (not_not.mpr h)

/-! ### Apply, rollback and discard as they are ordered (R562, R567) -/

section
variable (hon : s.blockOff .jig 0 = false)
include hon

theorem execJigApply_of_pending {atEn : Bool} (hst : s.wakeLink.jig.st = .idle) (hpend : s.wakeLink.jig.pend.valid = true) :
    execJigApply atEn s = .next (({ s.wakeLink with jig := { s.wakeLink.jig with st := .applyWait, applyAt := if atEn then s.wakeLink.rd64 JIG_AT else 0, quiescing := false } } : State).jigResult 2 0) :=
  (atBlock_of_on _ hon).trans (congrArg Host.Outcome.next (if_neg (by simp [hst, hpend])))

theorem execJigApply_of_refused {atEn : Bool} (h : s.wakeLink.jig.st ≠ .idle ∨ s.wakeLink.jig.pend.valid = false) :
    execJigApply atEn s = .next (s.wakeLink.jigResult 2 8) :=
  (atBlock_of_on _ hon).trans (congrArg Host.Outcome.next (if_pos (by simpa using h)))

theorem execJigRollback_on : execJigRollback s =
    .next (if s.wakeLink.rollbackRefusal ≠ 0 then s.wakeLink.jigResult 3 s.wakeLink.rollbackRefusal else (s.wakeLink.jigResult 3 0).beginRollback 3) :=
  atBlock_of_on _ hon

theorem execJigDiscard_of_unapplied (h : s.wakeLink.jig.st = .idle ∨ s.wakeLink.jig.st = .applyWait) :
    execJigDiscard s = .next (({ s.wakeLink with jig := { s.wakeLink.jig with st := .idle, pend := {}, quiescing := false } } : State).jigResult 4 0) := by
  refine (atBlock_of_on _ hon).trans (congrArg Host.Outcome.next (if_neg ?_))
  rcases h with h | h <;> simp [h]

theorem execJigDiscard_of_refused (hidle : s.wakeLink.jig.st ≠ .idle) (hwait : s.wakeLink.jig.st ≠ .applyWait) :
    execJigDiscard s = .next (s.wakeLink.jigResult 4 8) :=
  (atBlock_of_on _ hon).trans (congrArg Host.Outcome.next (if_pos (by simp [hidle, hwait])))

end

/-! ### Apply, health check and rollback as they act (R551, R563–R567) -/

theorem execApplyAct_of_due (hst : s.jig.st = .applyWait) (hat : s.jig.applyAt ≤ s.ft.toNat) (htrans : s.flag PWR_STATUS PWR_STATUS_TRANS = false)
    (hcals : s.runningCals = []) : execApplyAct s = .next ({ s with jig := { s.jig with st := .applying } } : State).quiesceJig :=
  congrArg Host.Outcome.next (if_neg (by simp [hst, hat, htrans, hcals]))

theorem execApplyQuiesced_of_quiet (hst : s.jig.st = .applying) (hquiet : s.jigQuiet = true) : execApplyQuiesced s = .next s.applyJig :=
  congrArg Host.Outcome.next (if_pos (by simp [hst, hquiet]))

/-- Every lathe and stack that the jig enables works (R566). -/
def State.healthy (s : State) : Bool :=
  ((List.range 8).all fun n =>
      !jigDomEn s.jigBody (4 * n + 3) || (s.lathe n).svc == .inService || (s.lathe n).svc == .calibrating || ((s.lathe n).svc == .outOfService && (s.lathe n).oosCause = 1)) &&
    (List.range 8).all fun m => !jigDomEn s.jigBody (48 + m) || s.flag (HBM_STATUS m) HBM_STATUS_UP

section
variable (hst : s.jig.st = .health) (hdue : s.jig.healthFrom + 30000 * ms ≤ s.clock)
include hst hdue

theorem execHealthCheckEnd_of_healthy (hgood : s.healthy = true) :
    let u := ({ s with jig := { s.jig with st := .idle, uncommitted := false, resetSeen := false } } : State).raiseCtr 7 s.jig.cur.svn
    execHealthCheckEnd s = .next (u.post 0xF07 cINFO (unitOf 0xF 0) 0xFFFF [(0x14, u.jig.cur.version), (0x18, u.jig.cur.svn)]) :=
  congrArg Host.Outcome.next ((if_neg (by simp [hst, hdue])).trans (if_pos hgood))

theorem execHealthCheckEnd_of_unhealthy (hbad : s.healthy = false) : execHealthCheckEnd s = .next (s.beginRollback 2) :=
  congrArg Host.Outcome.next ((if_neg (by simp [hst, hdue])).trans (if_neg (Bool.eq_false_iff.mp hbad)))

end

theorem execRollbackApply_of_rolling (hst : s.jig.st = .rollingBack) :
    let u := if s.jig.quiescing then s else s.quiesceJig
    execRollbackApply s = .next (if u.jigQuiet then u.rollBack else u) :=
  congrArg Host.Outcome.next (if_neg (by simp [hst]))

theorem execJigQuiesceTimeout_of_late (hquiescing : s.jig.quiescing = true) :
    let set := s.rf PWR_QUIESCE_TMO PWR_QUIESCE_TMO_MS
    let tmo := if set = 0 ∧ s.jig.st = .rollingBack then 10 else set
    tmo ≠ 0 → s.jig.quiesceFrom + tmo * ms ≤ s.clock →
    let late := (s.affectedBy s.nextBody).filter fun n => (s.lathe n).svc == .quiescing
    execJigQuiesceTimeout s = .next ((late.map s.gang).eraseDups.foldl (fun (acc : State) b => acc.abortWhere b 0x12 fun x => x.st == .started) s) := by
  intro set tmo htmo hdue late
  have same : (if (decide (set = 0) && s.jig.st == .rollingBack) = true then 10 else set) = tmo := by
    simp only [Bool.and_eq_true, decide_eq_true_eq, beq_iff_eq, tmo]
  refine congrArg Host.Outcome.next (if_neg ?_)
  rw [same]
  simp [hquiescing, htmo, hdue]

/-- Settles O57: each clause is the outcome of one command, stated above. -/
theorem jigSlots : Obligations.JigSlots := by
  unfold Obligations.JigSlots
  refine ⟨?accepted, ?refused, ?apply, ?rollback, ?discard, fun _ => execApplyAct_of_due, fun _ => execApplyQuiesced_of_quiet, ?health, ?rolling,
    fun _ => execJigQuiesceTimeout_of_late⟩
  case accepted =>
    intro keyOk sigOk l s hon u hst hdom hread
    have verdict := execJigVerify_of_read (keyOk := keyOk) (sigOk := sigOk) hon hst hdom hread
    refine ⟨fun h => ?_, fun h hb => ?_, fun h hb => ⟨_, verdict.trans (congrArg _ (if_neg ?_)), rfl⟩⟩
    · exact execJigVerify_of_rejected hon hst hdom hread (stagedFault_of_image h) h
    · exact execJigVerify_of_rejected hon hst hdom hread (stagedFault_of_body h) hb
    · exact not_not.mpr ((stagedFault_of_body h).trans hb)
  case refused => intro keyOk sigOk s hon u; exact ⟨execJigVerify_of_busy hon, execJigVerify_of_unread hon⟩
  case apply => intro atEn s hon u; exact ⟨execJigApply_of_pending hon, execJigApply_of_refused hon⟩
  case rollback =>
    intro s hon u
    exact ⟨fun h => (execJigRollback_on hon).trans (congrArg _ (if_neg (not_not.mpr h))), fun h => (execJigRollback_on hon).trans (congrArg _ (if_pos h))⟩
  case discard => intro s hon u; exact ⟨execJigDiscard_of_unapplied hon, execJigDiscard_of_refused hon⟩
  case health => intro s hst hdue good u; exact ⟨execHealthCheckEnd_of_healthy hst hdue, execHealthCheckEnd_of_unhealthy hst hdue⟩
  case rolling =>
    intro s hst u
    have rolling := execRollbackApply_of_rolling hst
    exact ⟨fun h => rolling.trans (congrArg _ (if_pos h)), fun h => rolling.trans (congrArg _ (if_neg (Bool.eq_false_iff.mp h)))⟩

end Sys2Proof.Machine
end

section
/-! ## Firmware commands and recovery -/
set_option Elab.async false
namespace Sys2Proof.Machine

variable {s : State} {kind : BitVec 3}

theorem kind_toNat_ne_zero (h : kind ≠ 0) : kind.toNat ≠ 0 := fun h0 => h (BitVec.eq_of_toNat_eq h0)

/-! ### Verify (R541, R544, R569) -/

section
variable {keyOk sigOk : Bool} (hon : s.blockOff .jig 0 = false)
include hon

theorem execFwVerify_of_none : execFwVerify 0 keyOk sigOk s = .next (s.wakeLink.fwResult 3) :=
  (atBlock_of_on _ hon).trans (congrArg Host.Outcome.next (if_pos rfl))

section
variable (hkind : kind ≠ 0)
include hkind

theorem execFwVerify_of_busy (hbusy : s.wakeLink.fwActive kind.toNat = true ∨ s.wakeLink.dom 62 ≠ 1) :
    execFwVerify kind keyOk sigOk s = .next (s.wakeLink.fwResult 8) :=
  (atBlock_of_on _ hon).trans (congrArg Host.Outcome.next ((if_neg (kind_toNat_ne_zero hkind)).trans (if_pos (by simpa using hbusy))))

section
variable (hidle : s.wakeLink.fwActive kind.toNat = false) (hdom : s.wakeLink.dom 62 = 1)
include hidle hdom

theorem execFwVerify_of_unread (hread : s.wakeLink.readImage (s.wakeLink.rd64 JIG_FW_SRC) (s.wakeLink.rd JIG_FW_LEN).toNat = none) :
    execFwVerify kind keyOk sigOk s =
      .next (((s.wakeLink.imageUnmapped (s.wakeLink.rd64 JIG_FW_SRC) (s.wakeLink.rd JIG_FW_LEN).toNat).fwResult 10).imageRejected kind.toNat 10 0) := by
  refine (atBlock_of_on _ hon).trans (congrArg Host.Outcome.next ((if_neg (kind_toNat_ne_zero hkind)).trans ((if_neg (by simp [hidle, hdom])).trans ?_)))
  rw [hread]

/-- The firmware with image `l` loaded into the inactive slot. -/
def Fw.load (f : Fw) (l : List Byte) : Fw :=
  if f.activeB then { f with verA := imgVersion l, svnA := imgSvn l, digA := Sha3.sha3 l, okA := true, loaded := true }
  else { f with verB := imgVersion l, svnB := imgSvn l, digB := Sha3.sha3 l, okB := true, loaded := true }

theorem execFwVerify_of_read {l : List Byte} (hread : s.wakeLink.readImage (s.wakeLink.rd64 JIG_FW_SRC) (s.wakeLink.rd JIG_FW_LEN).toNat = some l) :
    let u := s.wakeLink
    let why := u.imageFault l kind.toNat keyOk sigOk
    execFwVerify kind keyOk sigOk s = .next (if why ≠ 0 then (u.fwResult why).imageRejected kind.toNat why (imgVersion l)
      else (u.setFw kind.toNat ((u.fw kind.toNat).load l)).fwResult 0) := by
  intro u why
  refine (atBlock_of_on _ hon).trans (congrArg Host.Outcome.next ((if_neg (kind_toNat_ne_zero hkind)).trans ((if_neg (by simp [hidle, hdom])).trans ?_)))
  rw [hread]
  rfl

end
end
end

/-! ### Activation (R351, R428, R569) -/

section
variable {inst : BitVec 8} {bypass : Bool} (hon : s.blockOff .jig 0 = false)
include hon

theorem execFwActivate_on (hkind : kind ≠ 0) (hidle : s.wakeLink.fwActive kind.toNat = false) :
    let f := s.wakeLink.fw kind.toNat
    execFwActivate kind inst bypass s = .next (if !f.loaded && f.committed then s.wakeLink.fwResult 8
      else (s.wakeLink.fwResult 0).fwBegin { kind := kind.toNat, inst := inst.toNat, flip := f.loaded } bypass) := by
  refine (atBlock_of_on _ hon).trans (congrArg Host.Outcome.next ?_)
  simp only [kind_toNat_ne_zero hkind, hidle, decide_false, Bool.false_or]

theorem execFwActivateOther_on (hkind : kind ≠ 0) (hidle : s.wakeLink.fwActive kind.toNat = false) :
    execFwActivateOther kind inst bypass s = .next (if (s.wakeLink.fw kind.toNat).committed then s.wakeLink.fwResult 8
      else (s.wakeLink.fwResult 0).fwBegin { kind := kind.toNat, inst := inst.toNat, back := true } bypass) := by
  refine (atBlock_of_on _ hon).trans (congrArg Host.Outcome.next ?_)
  simp only [kind_toNat_ne_zero hkind, hidle, decide_false, Bool.false_or]

end

theorem execFwActivationEnd_of_ready {a : FwAct} (hready : s.fwBusy.find? s.fwReady = some a) :
    let u := ({ s with fwBusy := s.fwBusy.erase a } : State).fwDone a
    execFwActivationEnd s = .next (if a.kind = 4 then (u.loops.map (·.1)).foldl (fun (acc : State) (i : Nat) => acc.reinit i) u
      else if a.kind = 7 then (List.range 8).foldl (fun (acc : State) k => if bit a.pairs k then acc.openBypass k else acc) u else u) := by
  intro u
  unfold execFwActivationEnd
  rw [hready]

/-! ### Commit (R541, R551) -/

section
variable (hon : s.blockOff .jig 0 = false)
include hon

theorem execFwCommit_of_ran (hkind : 4 ≤ kind.toNat) (hdom : s.wakeLink.dom 62 = 1) (hidle : s.wakeLink.fwActive kind.toNat = false) :
    let f := s.wakeLink.fw kind.toNat
    f.committed = false → f.ran &&& fwAll kind.toNat = fwAll kind.toNat →
    execFwCommit kind s = .next ((((s.wakeLink.setFw kind.toNat { f with committed := true, loaded := false }).raiseCtr (fwReg kind.toNat) f.active.2.1).fwResult 0).post 0xF0A cINFO
      (unitOf 0xF 0) 0xFFFF [(0x10, kind.toNat), (0x14, f.active.2.1)]) := by
  intro f hopen hran
  refine (atBlock_of_on _ hon).trans (congrArg Host.Outcome.next (if_neg ?_))
  simp only [f] at hopen hran
  simp [hdom, hidle, hopen, hran, Nat.not_lt.mpr hkind]

theorem execFwCommit_of_refused
    (h : kind.toNat < 4 ∨ s.wakeLink.dom 62 ≠ 1 ∨ s.wakeLink.fwActive kind.toNat = true ∨ (s.wakeLink.fw kind.toNat).committed = true) :
    execFwCommit kind s = .next (s.wakeLink.fwResult 8) := by
  refine (atBlock_of_on _ hon).trans (congrArg Host.Outcome.next (if_pos ?_))
  simp only [Bool.or_eq_true, decide_eq_true_eq]
  tauto

end

/-! ### Recovery (R612–R614) -/

theorem execRecoveryImage_of_recovery {image : List Byte} {keyOk sigOk : Bool} (hrecovery : s.recovery = true) :
    let why := if 2 ^ 20 < image.length then 3 else s.imageFault image 1 keyOk sigOk
    let u : State := { s with recReply := some (BitVec.ofNat 8 why) }
    let w := if why ≠ 0 then u else u.setFw 1 { u.fw 1 with verA := imgVersion image, svnA := imgSvn image, digA := Sha3.sha3 image, okA := true }
    execRecoveryImage image keyOk sigOk s = .next (if w.recPin then w else w.recoveryOver) :=
  congrArg Host.Outcome.next (if_neg (by simp [hrecovery]))

theorem execRecNRelease_of_replied (hrecovery : s.recovery = true) (hreply : s.recReply ≠ none) :
    execRecNRelease s = .next ({ s with recPin := false } : State).recoveryOver := by
  refine congrArg Host.Outcome.next (if_neg ?_)
  simp [hrecovery, hreply]

/-- Settles O58: each clause is the outcome of one command, stated above. -/
theorem firmware : Obligations.Firmware := by
  unfold Obligations.Firmware
  refine ⟨?read, ?refused, ?activate, ?ended, ?commit, ?image, ?release⟩
  case read =>
    intro kind keyOk sigOk l s hon u hkind hidle hdom hread
    have verdict := execFwVerify_of_read (keyOk := keyOk) (sigOk := sigOk) hon hkind hidle hdom hread
    exact ⟨fun h => verdict.trans (congrArg _ (if_pos h)), fun h => verdict.trans (congrArg _ (if_neg (not_not.mpr h)))⟩
  case refused =>
    intro kind keyOk sigOk s hon u
    refine ⟨fun h => ?_, execFwVerify_of_busy hon, execFwVerify_of_unread hon⟩
    subst h
    exact execFwVerify_of_none hon
  case activate =>
    intro kind inst bypass s hon u hkind hidle
    have first := execFwActivate_on (inst := inst) (bypass := bypass) hon hkind hidle
    have earlier := execFwActivateOther_on (inst := inst) (bypass := bypass) hon hkind hidle
    refine ⟨fun h => first.trans (congrArg _ (if_neg ?_)), fun hl hc => first.trans (congrArg _ (if_pos ?_)),
      fun h => earlier.trans (congrArg _ (if_neg (Bool.eq_false_iff.mp h))), fun h => earlier.trans (congrArg _ (if_pos h))⟩
    · rcases h with h | h <;> simp [u, h]
    · simp only [u] at hl hc
      simp [hl, hc]
  case ended =>
    intro a s hready u
    have done := execFwActivationEnd_of_ready hready
    refine ⟨fun h4 h7 => done.trans (congrArg _ ((if_neg h4).trans (if_neg h7))), fun h4 => done.trans (congrArg _ (if_pos h4)), fun h7 => ?_⟩
    exact done.trans (congrArg _ ((if_neg (by omega)).trans (if_pos h7)))
  case commit => intro kind s hon u f; exact ⟨execFwCommit_of_ran hon, execFwCommit_of_refused hon⟩
  case image =>
    intro image keyOk sigOk s hrecovery why u w
    have pin : w.recPin = s.recPin := by simp only [w]; split <;> rfl
    have taken : execRecoveryImage image keyOk sigOk s = .next (if w.recPin then w else w.recoveryOver) := execRecoveryImage_of_recovery hrecovery
    rw [pin] at taken
    exact ⟨fun h => taken.trans (congrArg _ (if_pos h)), fun h => taken.trans (congrArg _ (if_neg (Bool.eq_false_iff.mp h)))⟩
  case release =>
    intro s hrecovery hreply u
    have released := execRecNRelease_of_replied hrecovery hreply
    exact ⟨fun h => released.trans (congrArg _ (if_pos h)), fun h => released.trans (congrArg _ (if_neg (Bool.eq_false_iff.mp h)))⟩

end Sys2Proof.Machine
end

section
/-! ## Window accesses, host reads, the link and event queues -/
set_option Elab.async false
namespace Sys2Proof.Machine

variable {s : State}

/-! ### Window accesses (R578) -/

/-- The state after a parity error, if `hit`, of an access at `a`. -/
def State.afterParity (s : State) (hit : Bool) (a : Nat) : State :=
  if hit then s.wayParity (unitOf 0xE 0) 0xFF 0xFFFF (s.glob (a / 64 * 64)) else s

/-- The lines of a write, each with the errors it meets, are written here. -/
def State.writeHere (s : State) (a : Nat) (data : List Byte) (poison : Bool) (errs : List (Addr × LineErr × LineErr)) : State :=
  (lineParts a data.length).foldl (fun (acc : State) e =>
    let err := ((errs.find? fun x => x.1.toNat / 64 == (a + e.1) / 64).map (·.2)).getD ([], [])
    acc.windowWrite (a + e.1) ((data.drop e.1).take e.2) poison err.1 err.2) s

/-- Bytes `[a, a + len)` are read here and answered, marked when a line is, or when the access met a parity error. -/
def State.readHere (s : State) (a len : Nat) (hit : Bool) : State :=
  let (bytes, bad, unmapped) := s.windowRead a len
  let s := if unmapped then s.unmappedEvent .host none (s.glob a) false else (s.countMarks a len).countInf a len false
  { s.bump PCI_STAT_POISON_TX (b2n (bad || hit)) with resp := { data := bytes, poison := bad || hit } }

theorem readHere_resp (a len : Nat) (hit : Bool) : (s.readHere a len hit).resp = { data := (s.windowRead a len).1, poison := (s.windowRead a len).2.1 || hit } := by
  unfold State.readHere
  generalize s.windowRead a len = r
  obtain ⟨bytes, bad, unmapped⟩ := r
  rfl

/-- The lines of a write go to device `dev`. -/
def State.writeThere (s : State) (dev a : Nat) (data : List Byte) (poison : Bool) : State :=
  (lineParts a data.length).foldl (fun (acc : State) e => acc.remoteWrite dev (a + e.1) ((data.drop e.1).take e.2) poison) s

section
variable {off : BitVec 36} {len : Nat} {data : List Byte} {poison parity rd hit : Bool} {errs : List (Addr × LineErr × LineErr)} {u w : State} {a dev : Nat}
  (hup : s.hostUp = true) (hu : s.wakeLink = u) (ha : 2 ^ 30 * u.rf64 PCI_WIN_BASE PCI_WIN_BASE_BASE + off.toNat = a)

section
variable (hdev : u.rf PCI_WIN_CFG PCI_WIN_CFG_DEV = dev)
  (hhit : (parity && (!u.flag PCI_WIN_CFG PCI_WIN_CFG_REMOTE || decide (dev = u.devId)) && inWindow a && u.mapped a) = hit) (hw : u.afterParity hit a = w)
include hup hu ha hdev hhit hw

theorem execWindowAccess_of_read (hlen : len ≠ 0) :
    execWindowAccess off true len data poison errs parity s = .next (if w.flag PCI_WIN_CFG PCI_WIN_CFG_REMOTE && dev != w.devId && inWindow a then w.remoteRead dev a len
      else w.readHere a len hit) := by
  subst hw hhit hdev ha hu
  exact congrArg Host.Outcome.next (if_neg (by simp [hup, hlen]))

theorem execWindowAccess_of_write (hdata : data ≠ []) :
    execWindowAccess off false len data poison errs parity s = .next (if w.flag PCI_WIN_CFG PCI_WIN_CFG_REMOTE && dev != w.devId && inWindow a then
      w.writeThere dev a data poison else w.writeHere a data (poison || hit) errs) := by
  subst hw hhit hdev ha hu
  exact congrArg Host.Outcome.next (if_neg (by simp [hup, hdata]))

end

section
variable (hlocal : u.flag PCI_WIN_CFG PCI_WIN_CFG_REMOTE = false) (hhit : (parity && inWindow a && u.mapped a) = hit) (hw : u.afterParity hit a = w)
  (hstill : w.flag PCI_WIN_CFG PCI_WIN_CFG_REMOTE = false)
include hup hu ha hlocal hhit hw hstill

theorem execWindowAccess_read_local (hlen : len ≠ 0) : execWindowAccess off true len data poison errs parity s = .next (w.readHere a len hit) := by
  refine (execWindowAccess_of_read hup hu ha rfl (by simpa [hlocal] using hhit) hw hlen).trans (congrArg _ (if_neg ?_))
  simp [hstill]

theorem execWindowAccess_write_local (hdata : data ≠ []) :
    execWindowAccess off false len data poison errs parity s = .next (w.writeHere a data (poison || hit) errs) := by
  refine (execWindowAccess_of_write hup hu ha rfl (by simpa [hlocal] using hhit) hw hdata).trans (congrArg _ (if_neg ?_))
  simp [hstill]

end

section
variable (hdev : u.rf PCI_WIN_CFG PCI_WIN_CFG_DEV = dev) (hremote : u.flag PCI_WIN_CFG PCI_WIN_CFG_REMOTE = true) (hother : dev ≠ u.devId) (hin : inWindow a = true)
include hup hu ha hdev hremote hother hin

theorem execWindowAccess_read_remote (hlen : len ≠ 0) : execWindowAccess off true len data poison errs parity s = .next (u.remoteRead dev a len) := by
  refine (execWindowAccess_of_read (hit := false) hup hu ha hdev (by simp [hremote, hother]) rfl hlen).trans (congrArg _ (if_pos ?_))
  simp [State.afterParity, hremote, hother, hin]

theorem execWindowAccess_write_remote (hdata : data ≠ []) :
    execWindowAccess off false len data poison errs parity s = .next (u.writeThere dev a data poison) := by
  refine (execWindowAccess_of_write (hit := false) hup hu ha hdev (by simp [hremote, hother]) rfl hdata).trans (congrArg _ (if_pos ?_))
  simp [State.afterParity, hremote, hother, hin]

end
end

/-! ### Host reads (R225, R581) -/

theorem execHostRequestComplete_delivered {data : List Byte} {r : HostReq} {rest : List HostReq} (hreqs : s.hostReqs = r :: rest) :
    execHostRequestComplete none data s = .next (((({ s with hostReqs := rest } : State).deliverHost r data false).resumeHost [r]).unstallHost) := by
  unfold execHostRequestComplete
  rw [hreqs]

theorem execHostRequestComplete_failed {data : List Byte} {f : HostFail} {r : HostReq} {rest : List HostReq} (hreqs : s.hostReqs = r :: rest) :
    execHostRequestComplete (some f) data s = .next ((((({ s with hostReqs := rest } : State).bump PCI_STAT_POISON_RX (if f = .poisoned then r.len / 64 else 0)).failHost r
      (failCode f)).resumeHost [r]).unstallHost) := by
  unfold execHostRequestComplete
  rw [hreqs]

theorem execHostReadTimeout_of_due {r : HostReq} (hon : s.ctoOff = false) (hdue : (s.hostReqs.find? fun r => decide (r.since + s.ctoNs ≤ s.clock)) = some r) :
    execHostReadTimeout s = .next (((({ s with hostReqs := s.hostReqs.erase r } : State).failHost r 4).resumeHost [r]).unstallHost) := by
  refine congrArg Host.Outcome.next ((if_neg (by simp [hon])).trans ?_)
  rw [hdue]

/-! ### The link (R572, R597) -/

/-- The host link at the width, generation and mode it trained to. -/
def State.trained (s : State) (width : BitVec 5) (gen : BitVec 4) (flit : Bool) : State :=
  (((s.wb PCI_STATUS PCI_STATUS_LINK_UP true).wf PCI_STATUS PCI_STATUS_WIDTH width.toNat).wf PCI_STATUS PCI_STATUS_GEN gen.toNat).wb PCI_STATUS PCI_STATUS_FLIT flit

theorem execPcieLinkUp_of_trained {width : BitVec 5} {gen : BitVec 4} {flit : Bool} (hdown : s.hostUp = false) (hperst : s.perst = false) (hdom : s.dom 60 = 1)
    (hwidth : ([1, 2, 4, 8, 16] : List Nat).contains width.toNat = true) (hlo : gen.toNat ≠ 0) (hhi : gen.toNat ≤ 6) :
    let u := s.trained width gen flit
    let d := [(0x10, width.toNat), (0x11, gen.toNat), (0x12, b2n flit)]
    execPcieLinkUp width gen flit s = .next (if u.flag PCI_CTRL PCI_CTRL_LINK_EVT_EN then
      (if width = 16 && gen = 6 && flit then u.post 0x1001 cINFO (unitOf 0xE 0) 0xFFFF d
        else (u.post 0x1001 cINFO (unitOf 0xE 0) 0xFFFF d).post 0x1002 cWARN (unitOf 0xE 0) 0xFFFF d) else u) := by
  refine congrArg Host.Outcome.next (if_neg ?_)
  simp only [hdown, hperst, hdom, hwidth, hlo, Nat.not_lt.mpr hhi]
  decide

/-! ### Event queues (R576, R583–R588) -/

section
variable {e : Fin 16} {v : Word} (hon : s.blockOff .evt 0 = false)
include hon

theorem execEvtQueueEnable_of_enabled :
    let u := s.wakeLink.wrSoft (EVT_Q_CFG e) v
    let log := u.rf (EVT_Q_CFG e) EVT_Q_CFG_LOG2_SIZE
    u.flag (EVT_Q_CFG e) EVT_Q_CFG_EN = true →
    execEvtQueueEnable e v s = .next (if 6 ≤ log ∧ log ≤ 20 ∧ u.rf64 (EVT_Q_BASE e) EVT_Q_BASE_ADDR % (64 * 2 ^ log) = 0 then u.wb (EVT_Q_CFG e) EVT_Q_CFG_ERR false
      else ((u.wb (EVT_Q_CFG e) EVT_Q_CFG_EN false).wb (EVT_Q_CFG e) EVT_Q_CFG_ERR true).evtError e 1) := by
  intro u log hen
  refine (atBlock_of_on _ hon).trans (congrArg Host.Outcome.next ((if_neg ?_).trans ?_))
  · exact fun h => Bool.false_ne_true ((congrArg (!·) hen).symm.trans h)
  · simp only [Bool.and_eq_true, decide_eq_true_eq, beq_iff_eq, and_assoc]
    rfl

theorem execEvtHeadWrite_on :
    let u := s.wakeLink
    let i := bits v.toNat 0 20
    let size := u.evtSize e
    let head := u.rf (EVT_Q_HEAD e) EVT_Q_HEAD_INDEX
    let tail := u.rf (EVT_Q_TAIL e) EVT_Q_TAIL_INDEX
    execEvtHeadWrite e v s = .next (if i < size ∧ (i + size - head % size) % size ≤ (tail + size - head % size) % size then u.wf (EVT_Q_HEAD e) EVT_Q_HEAD_INDEX i
      else u.evtError e 2) := by
  intro u i size head tail
  refine (atBlock_of_on _ hon).trans (congrArg Host.Outcome.next ?_)
  simp only [Bool.and_eq_true, decide_eq_true_eq]
  rfl

end

theorem execEventRecordWriteEnd_of_flying {e : Fin 16} {fail : Bool} {x : Nat × Event} (hfly : (s.evtFly.find? fun x => x.1 == e.val) = some x) :
    execEventRecordWriteEnd e fail s = .next (({ s with evtFly := s.evtFly.erase x } : State).landRecord e x.2 fail) := by
  unfold execEventRecordWriteEnd
  rw [hfly]

theorem execCoalTimeout_of_due {e : Fin 16} :
    let q : EvtQ := sget {} s.evtQs e
    let us := s.rf (EVT_Q_CFG e) EVT_Q_CFG_COAL_US
    0 < q.unsig → 0 < us → q.oldest + 1000 * us ≤ s.clock → execCoalTimeout e s = .next (s.signalQueue e) := by
  intro q us hunsig hus hdue
  refine congrArg Host.Outcome.next (if_pos ?_)
  simp only [q, us] at hunsig hus hdue
  simp [hunsig, hus, hdue]

/-- Settles O59: each clause is the outcome of one command, stated above. -/
theorem hostPort : Obligations.HostPort := by
  unfold Obligations.HostPort
  refine ⟨?here, ?there, ?complete, ?timeout, ?link, ?enable, ?record, ?coalesce, ?head⟩
  case here =>
    intro off len data poison errs parity s hup u a hit v hlocal hstill
    refine ⟨execWindowAccess_write_local hup rfl rfl hlocal rfl rfl hstill, fun hlen => ?_⟩
    exact ⟨_, execWindowAccess_read_local hup rfl rfl hlocal rfl rfl hstill hlen, readHere_resp a len hit⟩
  case there =>
    intro off len data poison errs parity s hup u a dev hremote hother hin
    exact ⟨execWindowAccess_write_remote hup rfl rfl rfl hremote hother hin, execWindowAccess_read_remote hup rfl rfl rfl hremote hother hin⟩
  case complete => intro data f r rest s hreqs u; exact ⟨execHostRequestComplete_delivered (data := data) hreqs, execHostRequestComplete_failed (data := data) hreqs⟩
  case timeout => intro r s hon hdue; exact execHostReadTimeout_of_due hon hdue
  case link =>
    intro why width gen flit s
    refine ⟨rfl, ?_⟩
    intro hdown hperst hdom hwidth hlo hhi u d
    have up := execPcieLinkUp_of_trained (flit := flit) hdown hperst hdom hwidth hlo hhi
    refine ⟨fun h => up.trans (congrArg _ (if_neg (Bool.eq_false_iff.mp h))), fun h hfull => up.trans (congrArg _ ((if_pos h).trans (if_pos ?_))),
      fun h hless => up.trans (congrArg _ ((if_pos h).trans (if_neg ?_)))⟩
    · simpa [and_assoc] using hfull
    · simpa [and_assoc] using hless
  case enable =>
    intro e v s hon u log hen
    have enabled := execEvtQueueEnable_of_enabled hon hen
    refine ⟨fun hlo hhi hbase => enabled.trans (congrArg _ (if_pos ⟨hlo, hhi, hbase⟩)), fun hbad => enabled.trans (congrArg _ (if_neg ?_))⟩
    rintro ⟨hlo, hhi, hbase⟩
    rcases hbad with h | h | h
    · exact Nat.not_lt.mpr hlo h
    · exact Nat.not_lt.mpr hhi h
    · exact h hbase
  case record => intro e fail x s hfly; exact execEventRecordWriteEnd_of_flying hfly
  case coalesce => intro e s q us; exact execCoalTimeout_of_due
  case head =>
    intro e v s hon u i size head tail fits
    have write := execEvtHeadWrite_on (e := e) (v := v) hon
    exact ⟨fun h => write.trans (congrArg _ (if_pos h)), fun h => write.trans (congrArg _ (if_neg h))⟩

end Sys2Proof.Machine
end
